-- ==== Sys2Proof/Word.lean ====
section
/-!
DEFINITION. Word.lean: the word types of the ZV880 (R8, R33: 32-bit registers, little-endian bytes) and of the global time base (R16).
-/

namespace Sys2Proof

/-- One byte of a packet, a record or a memory. -/
abbrev Byte := BitVec 8

/-- One 32-bit register (R33, R568). -/
abbrev Word := BitVec 32

/-- A tick of the global time base, 5 ns (R16). The 64-bit counter wraps after 2 923 years; a tick is a natural number. -/
abbrev Tick := Nat

end Sys2Proof
end

