-- ==== Sys2Proof/Syntax.lean ====
section
/-!
DEFINITION. Syntax.lean: the commands of the block, one constructor for each row of the table of commands, and the data they carry.
A command carries the GTB tick at which it takes place. Data that come from outside the device (packet bytes, values on pins, raw counts,
pixels that a shader program produced) are operands too.
-/

namespace Sys2Proof

/-- The two worlds (R146, Table 5.1). -/
inductive World where
  | holm
  | mainland
  deriving DecidableEq, Repr

/-- A function number: 0 to 3 are PF0 to PF3, 4 to 63 are VF00 to VF59 (chapter 6). -/
abbrev Fn := Fin 64

/-- Where a GCP packet arrives (R104, R111): a ring of a function's window (ring 1, the Holm ring, exists in PF windows only) or the SPI management port. -/
inductive Port where
  | ring (fn : Fn) (holm : Bool)
  | spi
  deriving DecidableEq, Repr

/-- Who makes a register access (R35): a window of a function in a world (a VF window is Mainland only). -/
structure Requester where
  fn : Fn
  world : World
  deriving DecidableEq, Repr

/-- A GCP packet as it lies in its slot (Table 3.1), less its OPCODE, which the command names: the header fields and every byte from offset 0x10 of the slot on
(payload, MAC, CRC trailer). -/
structure Packet where
  verMajor : Byte
  verMinor : Byte
  seq : Word
  tag : Word
  len : BitVec 16
  flags : BitVec 16
  body : List Byte
  deriving DecidableEq, Repr

/-- A request: the port it arrives on and its packet. -/
structure Request where
  port : Port
  pkt : Packet
  deriving DecidableEq, Repr

/-- A bus access of one register word (R568). -/
inductive Access where
  | read
  | write (value : Word) (byteEnables : BitVec 4)
  deriving DecidableEq, Repr


/-- Boundary-scan instructions (R175, Table 5.5). -/
inductive ScanInstr where
  | idcode
  | bypass
  | sample
  | extest
  | intest
  | clamp
  | highz
  deriving DecidableEq, Repr

/-- What a transaction of the debug access port does: reads or writes, halts, lets a halted world go on, or detaches. -/
inductive DapOp where
  | access
  | halt
  | resume
  | detach
  deriving DecidableEq, Repr

/-- A debug access (R175): a scan instruction, or a transaction of the debug access port in a world, steering it or watching it. `secret` says that it names what R174 keeps secret. -/
inductive DebugReq where
  | scan (instr : ScanInstr) (secret : Bool)
  | dap (holm steer secret : Bool) (op : DapOp)
  deriving DecidableEq, Repr

/-- A vertex as a vertex program leaves it (R257): clip coordinates as FP32 words. -/
structure ClipVtx where
  x : Word
  y : Word
  z : Word
  w : Word
  deriving DecidableEq, Repr

/-- A primitive as assembly hands it on (R255): one, two or three vertices, and the point size where the vertex program supplies it. -/
structure ClipPrim where
  verts : List ClipVtx
  size : Nat
  deriving DecidableEq, Repr

/-- What a fragment program leaves for one pixel or sample of a tile (R264, R265): the bin entry it shades (its place in the tile's list), the pixel in the tile, the sample when it shades per
sample, whether it discards, four FP32 components for each colour target, and the depth, sample mask and stencil it writes. -/
structure Frag where
  entry : Nat
  x : Fin 32
  y : Fin 32
  sample : Fin 4
  discard : Bool
  color : List (List Word)
  depth : Option Word
  mask : Option (BitVec 4)
  stencil : Option Byte
  deriving DecidableEq, Repr

/-- A store that a program makes (Table 9.3), at an address of the job's address space (R248). -/
structure MemWrite where
  addr : BitVec 64
  bytes : List Byte
  deriving DecidableEq, Repr
/-- One command to the block: one constructor for each row of the table of commands. `t` is the GTB tick at which the command takes place. -/
inductive Instr where
  /-- RING_DOORBELL (R106). A host write of PI to a ring doorbell is accepted or ignored, and the accepted doorbell is stamped in the core and fabric island. -/
  | ringDoorbell (t : Tick) (fn : Fn) (holm : Bool) (world : World) (pi : BitVec 7)
  /-- RING_RESET (R110). A write of 1 to MGT_RINGn_CTRL.RESET sets RESET_PENDING until the reset can take effect. -/
  | ringReset (t : Tick) (fn : Fn) (holm : Bool) (world : World) (enable : Bool) (irqEn : Bool)
  /-- RING_RESET_TAKES_EFFECT (R110). Once no packet is in progress and ENABLE is 0, a pending ring reset zeroes PI, CI and RI and discards unfetched packets. -/
  | ringResetTakesEffect (t : Tick) (fn : Fn) (holm : Bool)
  /-- RING_FETCH_ERROR (R110). A bus error on a slot read sets FETCH_ERR and clears ENABLE, and the slot gets no reply. -/
  | ringFetchError (t : Tick) (fn : Fn) (holm : Bool)
  /-- IDENTIFY (R140). IDENTIFY returns the device ID, firmware version, slot, native and oldest versions and function. -/
  | identify (t : Tick) (q : Request)
  /-- SESSION_OPEN (R122). SESSION_OPEN checks class, options, nonce, key, version and slot limits, and places a new tag in PENDING. -/
  | sessionOpen (t : Tick) (q : Request)
  /-- SESSION_PROVE (R126). SESSION_PROVE checks HOST_PROOF, opens the session and derives the packet key, or frees the slot with AUTH_FAILED. -/
  | sessionProve (t : Tick) (q : Request)
  /-- AUTH_LOCK_END (R128). The lock of a ring or the SPI port lapses 200,000,000 ticks after the fourth failed proof. -/
  | authLockEnd (t : Tick) (port : Port)
  /-- PENDING_LIMIT (R124). A pending session that receives no SESSION_PROVE within 200 ms is freed. -/
  | pendingLimit (t : Tick) (tag : Word)
  /-- SESSION_CLOSE (R138). SESSION_CLOSE ends the session, discards its replay cache and erases its packet key. -/
  | sessionClose (t : Tick) (q : Request)
  /-- SESSION_KEEPALIVE (R134). SESSION_KEEPALIVE refreshes the idle window and returns the GTB and expiry tick. -/
  | sessionKeepalive (t : Tick) (q : Request)
  /-- EXPIRED_TAG_RELEASE (R135). An expired session's tag is released, with its packet key, 60 s after expiry. -/
  | expiredTagRelease (t : Tick) (tag : Word)
  /-- CONTRACT_CANCEL (R81). CONTRACT_CANCEL stops an open contract at the data plane and posts CONTRACT_CANCELLED, or replies CONTRACT_CLOSED. -/
  | contractCancel (t : Tick) (q : Request)
  /-- CONTRACT_QUERY (R131). CONTRACT_QUERY returns the next instance, its window and the admitted densities of an open contract. -/
  | contractQuery (t : Tick) (q : Request)
  /-- RESERVE_SET (R64). RESERVE_SET changes the compositor reserve within its ranges or refuses with RESERVE_IN_USE. -/
  | reserveSet (t : Tick) (q : Request)
  /-- LEDGER_READ (R633). LEDGER_READ returns the capacities and use of a readable pool. -/
  | ledgerRead (t : Tick) (q : Request)
  /-- DISPLAY_WRITE (R114). DISPLAY_WRITE checks a pair list whole and applies its entries to OP, TG, CRL or VIN registers in order. -/
  | displayWrite (t : Tick) (q : Request)
  /-- DISPLAY_READ (R114). DISPLAY_READ checks a read list and returns the values of display registers. -/
  | displayRead (t : Tick) (q : Request)
  /-- COMMIT (R369). COMMIT checks and admits a display commit, locks the holder's shadows and sets COMMIT_AT and COMMIT. -/
  | commit (t : Tick) (q : Request)
  /-- CREAM_UPDATE (R397). CREAM_UPDATE checks and admits a certified Creamline update as a class 0 CREAM contract. -/
  | creamUpdate (t : Tick) (q : Request)
  /-- OUTPUT_STATUS (R373). OUTPUT_STATUS returns COMMIT_FRAME, LAST_LATCH, mode, link state and frame period of an output. -/
  | outputStatus (t : Tick) (q : Request)
  /-- RENDER_SUBMIT (R251). RENDER_SUBMIT checks a render job's descriptor and records and admits it as a RENDER contract. -/
  | renderSubmit (t : Tick) (q : Request)
  /-- COMPUTE_SUBMIT (R251). COMPUTE_SUBMIT checks a compute job and admits it as a COMPUTE contract. -/
  | computeSubmit (t : Tick) (q : Request)
  /-- FENCE_READ (R272). FENCE_READ returns the function's fence for the session's world with its delivery stamp. -/
  | fenceRead (t : Tick) (q : Request)
  /-- TOUCH_WRITE (R114). TOUCH_WRITE applies a pair list to the TCH registers of the owner. -/
  | touchWrite (t : Tick) (q : Request)
  /-- TOUCH_READ (R114). TOUCH_READ returns a read list of TCH registers. -/
  | touchRead (t : Tick) (q : Request)
  /-- TOUCH_CALIBRATE (R455). TOUCH_CALIBRATE checks a sensor and starts 64 calibration scans. -/
  | touchCalibrate (t : Tick) (q : Request)
  /-- TOUCH_CALIBRATION_DONE (R455). After 64 scans the sensor's baselines are set, the profile optionally stored, and the reply written. -/
  | touchCalibrationDone (t : Tick) (sensor : BitVec 3) (flashOk : Bool)
  /-- HAPTIC_WRITE (R114). HAPTIC_WRITE applies a pair list to HAP registers of the owner. -/
  | hapticWrite (t : Tick) (q : Request)
  /-- HAPTIC_READ (R114). HAPTIC_READ returns a read list of HAP registers. -/
  | hapticRead (t : Tick) (q : Request)
  /-- HAPTIC_PLAY (R479). HAPTIC_PLAY checks an effect slot and admits the effect as a HAPTIC contract, copying the slot. -/
  | hapticPlay (t : Tick) (q : Request)
  /-- HAPTIC_CALIBRATE (R478). HAPTIC_CALIBRATE checks a channel and starts its calibration. -/
  | hapticCalibrate (t : Tick) (q : Request)
  /-- AUDIO_WRITE (R114). AUDIO_WRITE applies a pair list to AUD registers of the owner. -/
  | audioWrite (t : Tick) (q : Request)
  /-- AUDIO_READ (R114). AUDIO_READ returns a read list of AUD registers. -/
  | audioRead (t : Tick) (q : Request)
  /-- STREAM_OPEN (R489). STREAM_OPEN checks parameters and the DRB demand and opens the holder's lowest closed host stream. -/
  | streamOpen (t : Tick) (q : Request)
  /-- STREAM_CLOSE (R494). STREAM_CLOSE cancels queued buffers, stops playback and returns the stream to reset. -/
  | streamClose (t : Tick) (q : Request)
  /-- AUDIO_QUEUE (R490). AUDIO_QUEUE checks a sample buffer and admits it as an AUDIO contract on a stream. -/
  | audioQueue (t : Tick) (q : Request)
  /-- MEM_MAP (R235). MEM_MAP checks and installs a host, DRAM or scratch mapping in the function's IOMMU context. -/
  | memMap (t : Tick) (q : Request)
  /-- MEM_UNMAP (R237). MEM_UNMAP removes a range's mappings, invalidates translations and replies once accesses complete. -/
  | memUnmap (t : Tick) (q : Request)
  /-- DMA_SUBMIT (R514). DMA_SUBMIT checks a DMA set and admits it as a DMA contract on a channel. -/
  | dmaSubmit (t : Tick) (q : Request)
  /-- CHECK_SUBMIT (R526). CHECK_SUBMIT checks a check-value job and admits it as a CHECK contract on a unit. -/
  | checkSubmit (t : Tick) (q : Request)
  /-- CHECK_RESULT (R527). CHECK_RESULT returns the value of one of the function's last 16 delivered CHECK contracts. -/
  | checkResult (t : Tick) (q : Request)
  /-- FN_CREATE (R200). FN_CREATE checks and creates a VF, moving picked layers, channels, streams, regions, shares and vectors to it. -/
  | fnCreate (t : Tick) (q : Request)
  /-- FN_QUIESCE (R204). FN_QUIESCE cancels unstarted instances and places the function in QUIESCING. -/
  | fnQuiesce (t : Tick) (q : Request)
  /-- FN_QUIET_REACHED (R205). When nothing of the function remains in flight it enters QUIESCED and FN_QUIESCE replies DONE. -/
  | fnQuietReached (t : Tick) (fn : Fn)
  /-- FN_RESUME (R206). FN_RESUME returns a QUIESCED function to ACTIVE. -/
  | fnResume (t : Tick) (q : Request)
  /-- FN_RESET (R207). FN_RESET resets a quiesced VF with the effects of Table 6.6a. -/
  | fnReset (t : Tick) (q : Request)
  /-- FN_REMOVE (R210). FN_REMOVE resets a quiesced VF, returns its objects to the manager and frees the slot. -/
  | fnRemove (t : Tick) (q : Request)
  /-- FN_SAVE (R212). FN_SAVE starts writing an encrypted image of a quiesced function, placing it in SAVING. -/
  | fnSave (t : Tick) (q : Request)
  /-- FN_SAVE_DONE (R212). The image is written, the function returns to QUIESCED and FN_SAVE replies. -/
  | fnSaveDone (t : Tick) (fn : Fn)
  /-- FN_RESTORE (R214). FN_RESTORE checks an image and builds the function in QUIESCED with its layers, mappings and state. -/
  | fnRestore (t : Tick) (q : Request)
  /-- EVIDENCE_READ (R418). EVIDENCE_READ copies evidence records of an output from a stamp to host memory. -/
  | evidenceRead (t : Tick) (q : Request)
  /-- MEASURE_READ (R604). MEASURE_READ returns TOTAL and bytes of the Ramkeris log. -/
  | measureRead (t : Tick) (q : Request)
  /-- ISO_LOG_READ (R181). ISO_LOG_READ copies ISO log entries from FIRST and returns ENTRIES and NEXT. -/
  | isoLogRead (t : Tick) (q : Request)
  /-- DUMP_READ (R610). DUMP_READ copies bytes of the fatal dump to host memory and sets READ on reaching the end. -/
  | dumpRead (t : Tick) (q : Request)
  /-- SELFTEST (R318). SELFTEST admits the raster half as a class 0 RENDER item and queues the traversal half. -/
  | selftest (t : Tick) (q : Request)
  /-- SELFTEST_COMPLETE (R319). When both halves are complete the result is classed, flags set and signatures recorded. -/
  | selftestComplete (t : Tick) (image0 : List Byte) (image1 : List Byte)
  /-- FW_WRITE (R598). FW_WRITE erases as needed and programs bytes of a boot flash area. -/
  | fwWrite (t : Tick) (q : Request) (flashOk : Bool)
  /-- FW_ACTIVATE (R599). FW_ACTIVATE verifies an area's object, stages a trial, confirms the running slot or stages configuration. -/
  | fwActivate (t : Tick) (q : Request) (flashOk : Bool)
  /-- FAULT_ARM (R437). FAULT_ARM checks and arms a provoked fault on a port, strait, tile or the CLKIN monitor. -/
  | faultArm (t : Tick) (q : Request)
  /-- FAULT_DISARM (R437). FAULT_DISARM disarms one armed fault or all of them. -/
  | faultDisarm (t : Tick) (q : Request)
  /-- FAULT_STATUS (R437). FAULT_STATUS returns how many injections a fault made and whether it is armed. -/
  | faultStatus (t : Tick) (q : Request)
  /-- BLOCK_POWER_GATE (R547). BLOCK_POWER with ACTION 0 judges a gate request and begins a drain or cancels a queued wake. -/
  | blockPowerGate (t : Tick) (q : Request)
  /-- BLOCK_POWER_WAKE (R549). BLOCK_POWER with ACTION 1 adds the holder and restarts the clock or queues the wake. -/
  | blockPowerWake (t : Tick) (q : Request)
  /-- CLOCK_SET (R544). CLOCK_SET checks and sets the shader frequency, switching the island under R543. -/
  | clockSet (t : Tick) (q : Request)
  /-- POWER_STATE_STANDBY (R563). POWER_STATE with STATE 1 checks that the device is idle and begins standby entry. -/
  | powerStateStandby (t : Tick) (q : Request)
  /-- POWER_STATE_RUN (R564). POWER_STATE with STATE 0 places every standby gate and DRAM in the wake queue to leave standby. -/
  | powerStateRun (t : Tick) (q : Request)
  /-- POWER_STATUS (R631). POWER_STATUS returns power, junction temperature, inrush use and wake queue length. -/
  | powerStatus (t : Tick) (q : Request)
  /-- SPI_WRITE_PACKET (R112). The SPI WRITE_PACKET command delivers a packet to the management port or drops it with a flag. -/
  | spiWritePacket (t : Tick) (length : BitVec 16) (bytes : List Byte)
  /-- SPI_READ_STATUS (R111). The SPI READ_STATUS command returns the port flags and clears OVERRUN and FRAMING. -/
  | spiReadStatus (t : Tick)
  /-- SPI_READ_REPLY (R111). The SPI READ_REPLY command returns the pending reply and clears REPLY_READY. -/
  | spiReadReply (t : Tick)
  /-- INSTANCE_RELEASE (R52). At an instance's release the ZV880 begins work on a signed item in the data plane. -/
  | instanceRelease (t : Tick) (fn : Fn) (id : Word)
  /-- CONTRACT_DEADLINE (R50). An instance not delivered before its deadline is breached and charged under Table 2.14. -/
  | contractDeadline (t : Tick) (fn : Fn) (id : Word)
  /-- PROBATION_END (R74). Probation ends after 10 s without a charged breach. -/
  | probationEnd (t : Tick) (fn : Fn)
  /-- SECTION_BOUND (R288). A non-pre-emptible section reaching its declared bound is ended and charged SECTION_OVERRUN. -/
  | sectionBound (t : Tick) (core : BitVec 4) (entered : Tick)
  /-- EVENT_RECORD_POST (R194). A 32-byte record is written to an event queue, WI advanced and an MSI-X message sent, or held in the backlog. -/
  | eventRecordPost (t : Tick) (fn : Fn) (holm : Bool)
  /-- EQ_READ_INDEX_WRITE (R193). A host write of RI to an event queue is accepted or ignored with RI_ERR. -/
  | eqReadIndexWrite (t : Tick) (fn : Fn) (holm : Bool) (world : World) (ri : BitVec 13)
  /-- MGMT_STALL_RESUME (R85). When the management plane resumes, waiting packets are taken with fresh t0 and late records carry LATE_POST. -/
  | mgmtStallResume (t : Tick)
  /-- LOCKSTEP_MISMATCH (R40). A lockstep mismatch between the control cores triggers the fatal dump and a device reset. -/
  | lockstepMismatch (t : Tick)
  /-- ISO_OWN_CLAIM (R154). A paired write of ISO_OWN_DATA that sets WORLD to Holm claims an object and cancels its contracts. -/
  | isoOwnClaim (t : Tick) (pf : BitVec 2) (world : World) (object : BitVec 16)
  /-- ISO_OWN_CLAIM_DONE (R154). Once straits into the object's island have drained, ISO_OWN_STAT.DONE is set for the claim. -/
  | isoOwnClaimDone (t : Tick)
  /-- ISO_OWN_RELEASE (R156). A paired write of ISO_OWN_DATA that sets WORLD to Mainland releases an idle object and starts its reset and zero-fill. -/
  | isoOwnRelease (t : Tick) (pf : BitVec 2) (world : World) (object : BitVec 16) (granted : Bool) (fn : Fn)
  /-- ISO_OWN_RELEASE_DONE (R156). When the release fill completes, PENDING falls and DONE is set. -/
  | isoOwnReleaseDone (t : Tick)
  /-- ISO_OWN_GRANT (R152). A paired write of ISO_OWN_DATA that changes GRANTED or FN of a Mainland object changes its grant. -/
  | isoOwnGrant (t : Tick) (pf : BitVec 2) (world : World) (object : BitVec 16) (granted : Bool) (fn : Fn)
  /-- ISO_LOG_DRAIN (R180). Holm firmware drains ISO FIFO entries into the ISO log ring. -/
  | isoLogDrain (t : Tick)
  /-- ISO_NOTICE (R182). At most every 10 ms, if new entries exist, an ISO_NOTICE record is posted to the Holm event queue. -/
  | isoNotice (t : Tick)
  /-- GATE (R169). GATE n switches the cores to Holm and branches to landing n, or raises GATE_FAULT. -/
  | gate (t : Tick) (n : BitVec 32) (pc : Word) (regs : List Word)
  /-- GATE_RET (R170). GATE_RET returns from a landing to Mainland after the GATE. -/
  | gateRet (t : Tick) (g1 : Word) (g2 : Word)
  /-- FETCH_CROSS (R169). Mainland control that reaches the Holm partition without GATE raises an exception and logs FETCH_CROSS. -/
  | fetchCross (t : Tick)
  /-- HOLM_INTERRUPT (R164). A Holm interrupt pre-empts Mainland execution, saving Mainland registers. -/
  | holmInterrupt (t : Tick) (pc : Word) (status : Word) (regs : List Word)
  /-- MAINLAND_RETURN (R165). Holm firmware returns the cores to Mainland at least every 100 µs, taking pending Mainland interrupts. -/
  | mainlandReturn (t : Tick)
  /-- DEBUG_ACCESS (R175). A debug access port transaction or boundary-scan instruction is checked against the enables and proceeds or is refused. -/
  | debugAccess (t : Tick) (req : DebugReq) (code : BitVec 8) (first : Bool)
  /-- DEBUG_HALT_REQUEST (R176). A Mainland halt request halts Mainland execution or is deferred while Holm executes. -/
  | debugHaltRequest (t : Tick) (world : World) (first : Bool)
  /-- DBG_CLEAR (R174). A write of 1 to an ISO_DBG enable clears it, a watch clear also clearing its steer, and logs DBG_CLEAR. -/
  | dbgClear (t : Tick) (pf : BitVec 2) (world : World) (enables : BitVec 4)
  /-- FLR (R208). A PCIe FLR resets the function without waiting for quiet and posts FN_EVENT FORCED if needed. -/
  | flr (t : Tick) (fn : Fn)
  /-- VF_ENABLE_CLEAR (R209). Clearing VF Enable resets every VF of the port and posts one VF_DISABLED FN_EVENT. -/
  | vfEnableClear (t : Tick) (port : BitVec 2)
  /-- PORT_RESET (R209). PERST_N rise, hot reset or link-down resets every function on the port as a forced FLR. -/
  | portReset (t : Tick) (port : BitVec 2)
  /-- PCIE_COMPLETION_TIMEOUT (R433). A read to a host not completed within 50 ms counts as a bus error for its block. -/
  | pcieCompletionTimeout (t : Tick) (ring : Option (Fn × Bool)) (source : BitVec 8)
  /-- VAT_SCRUB (R220). The scrubber reads and corrects every Vat word at least once each second. -/
  | vatScrub (t : Tick) (corrected : List (BitVec 26))
  /-- ECC_UNCORRECTABLE (R221). An uncorrectable Vat or DRAM link error delivers poisoned data with the consequences of Table 7.4. -/
  | eccUncorrectable (t : Tick) (dpa : BitVec 40) (data : BitVec 64) (item : Option (Fn × Word))
  /-- PAGE_ZERO_FILL_DONE (R232). A freed DRAM page finishes its zero-fill and returns to the Mainland pool. -/
  | pageZeroFillDone (t : Tick)
  /-- MEM_FAULT (R238). An access to an unmapped or unpermitted IOVA reads zero, discards its write and is counted for a MEM_FAULT record. -/
  | memFault (t : Tick) (fn : Fn) (source : BitVec 8) (iova : BitVec 48) (write : Bool)
  /-- SELF_REFRESH_WAKE (R229). The first DRAM request held in self-refresh raises a wake through the power sequencer. -/
  | selfRefreshWake (t : Tick)
  /-- VERTEX_PHASE_DONE (R261). Once every primitive is binned, the job's fragment phase begins. -/
  | vertexPhaseDone (t : Tick) (fn : Fn) (id : Word) (inst : Word)
  /-- TILE_DISPATCH (R261). A free core takes the next touched tile of a job in row-major order. -/
  | tileDispatch (t : Tick) (core : BitVec 4)
  /-- TILE_STORE_DONE (R267). A tile's attachments are stored or discarded and its ownership ends. -/
  | tileStoreDone (t : Tick) (core : BitVec 4) (frags : List Frag) (writes : List MemWrite) (drb : BitVec 40)
  /-- COMMAND_FAULT (R274). A command that breaks Table 8.9 ends the job as if END stood there and posts RENDER_FAULT. -/
  | commandFault (t : Tick) (fn : Fn) (id : Word) (inst : Word)
  /-- PROGRAM_FAULT (R280). A wave reaching an undefined opcode, bad register or undeclared export stops and faults the job. -/
  | programFault (t : Tick) (core : BitVec 4) (entry : Word)
  /-- DISPATCH_BEGIN (R270). A DISPATCH begins once every workgroup of the previous one has completed. -/
  | dispatchBegin (t : Tick) (fn : Fn) (id : Word) (inst : Word)
  /-- WORKGROUP_DONE (R270). A compute workgroup completes on its core, a yield point. -/
  | workgroupDone (t : Tick) (core : BitVec 4) (writes : List MemWrite) (drb : BitVec 40)
  /-- JOB_DELIVERED (R272). A job whose writes are all visible is delivered and updates the function's fence. -/
  | jobDelivered (t : Tick) (fn : Fn) (id : Word) (inst : Word)
  /-- DISPATCHER_DECISION (R287). At yield points, releases, idle cores and at least every 200 ticks the dispatcher places ready contexts. -/
  | dispatcherDecision (t : Tick)
  /-- COMPOSITOR_PREEMPT (R292). A compositor pre-emption stops a core, saves its context and runs the compositor within 600 ticks. -/
  | compositorPreempt (t : Tick) (took : BitVec 10)
  /-- MAINLAND_SWAP (R296). A swap saves a non-compositor context and places another entitled context on the core. -/
  | mainlandSwap (t : Tick)
  /-- STRIP_WINDOW_OPEN (R43). At a strip's window opening composition samples layer parameters and readiness, and skims are released. -/
  | stripWindowOpen (t : Tick) (output : BitVec 3) (strip : BitVec 10)
  /-- SKIM (R302). A compositor context re-projects the last ready frame of a late layer into a skim slot. -/
  | skim (t : Tick) (output : BitVec 3) (layer : BitVec 3) (strip : BitVec 10) (took : BitVec 10)
  /-- SKIM_DONE (R302). A skim completes at a yield point after writing its strip. -/
  | skimDone (t : Tick) (core : BitVec 4)
  /-- STRIP_DUE_POINT (R45). At a strip's due point an incomplete strip is scanned with the underflow colour. -/
  | stripDuePoint (t : Tick) (output : BitVec 3) (strip : BitVec 10) (lines : BitVec 5)
  /-- QUEUE_FRAME_COMPOSE (R304). A Bulk queue frame begins composition once a slot is free and new frames or a missed latch permit. -/
  | queueFrameCompose (t : Tick) (output : BitVec 3)
  /-- QUEUE_FRAME_COMPLETE (R304). A Bulk queue frame finishes composition and becomes available for scan-out. -/
  | queueFrameComplete (t : Tick) (output : BitVec 3)
  /-- TRV_ARM_A (R315). A write of 1 to TRV_ARMn.ARM_A starts checking slot A's scene. -/
  | trvArmA (t : Tick) (pf : BitVec 2) (world : World) (output : BitVec 3)
  /-- TRV_ARM_B (R315). A write of 1 to TRV_ARMn.ARM_B starts checking slot B's scene. -/
  | trvArmB (t : Tick) (pf : BitVec 2) (world : World) (output : BitVec 3)
  /-- TRV_ARM_COMPLETE (R315). An arm completes, making the slot active or setting ARM_ERR. -/
  | trvArmComplete (t : Tick) (output : BitVec 3)
  /-- SLOT_WRITE_DISARM (R316). A Vat write to an armed scene slot disarms it, after any render reading it ends. -/
  | slotWriteDisarm (t : Tick) (output : BitVec 3) (slot : Bool) (offset : BitVec 18) (bytes : List Byte)
  /-- TRAVERSAL_RENDER_START (R307). The traversal unit starts the next queued recovery, hold or self-test render. -/
  | traversalRenderStart (t : Tick)
  /-- TRAVERSAL_RENDER_DONE (R321). A traversal render completes and clears its ray and hit buffers. -/
  | traversalRenderDone (t : Tick)
  /-- TRV_SET_RASTER (R320). A paired write of TRV_CTRL.SET_RASTER sets RASTER_FAULT. -/
  | trvSetRaster (t : Tick) (pf : BitVec 2) (world : World)
  /-- TRV_SET_TRV (R320). A paired write of TRV_CTRL.SET_TRV sets TRV_FAULT. -/
  | trvSetTrv (t : Tick) (pf : BitVec 2) (world : World)
  /-- TRV_CLEAR_RASTER (R320). A paired write of TRV_CTRL.CLEAR_RASTER clears RASTER_FAULT if a later self-test passed, or sets CLEAR_REFUSED. -/
  | trvClearRaster (t : Tick) (pf : BitVec 2) (world : World)
  /-- TRV_CLEAR_TRV (R320). A paired write of TRV_CTRL.CLEAR_TRV clears TRV_FAULT if a later self-test passed, or sets CLEAR_REFUSED. -/
  | trvClearTrv (t : Tick) (pf : BitVec 2) (world : World)
  /-- VIEW_APPLY (R336). A write of 1 to Lx_VIEW_APPLY copies the view staging set to the applied set. -/
  | viewApply (t : Tick) (requester : Requester) (output : BitVec 3) (layer : Fin 9)
  /-- TABLE_PORT_ACCESS (R635). An access to a table data port reads or writes the entry at INDEX and increments INDEX. -/
  | tablePortAccess (t : Tick) (requester : Requester) (offset : BitVec 26) (access : Access)
  /-- WRITEBACK_LINE (R351). A pipe writes a scanned line to memory, or stops the frame with INCOMPLETE. -/
  | writebackLine (t : Tick) (output : BitVec 3) (line : BitVec 13) (inTime : Bool)
  /-- VIN_ENABLE (R355). A write of 1 to VIN_CTRL.ENABLE tests the capture demand and starts capture. -/
  | vinEnable (t : Tick) (pf : BitVec 2) (world : World) (vin : BitVec 2) (value : Word)
  /-- VIN_FRAME_RECEIVED (R356). A received frame is captured into a free buffer, or dropped or flagged. -/
  | vinFrameReceived (t : Tick) (vin : BitVec 2) (width : BitVec 16) (height : BitVec 16) (kind : BitVec 2) (depth : BitVec 4) (interlaced : Bool) (period : Word) (rows : List (List (List Nat)))
  /-- VIN_CAPTURE_COMPLETE (R352). A capture's last write becomes visible and its buffer becomes the newest complete. -/
  | vinCaptureComplete (t : Tick) (vin : BitVec 2)
  /-- VIN_SIGNAL_LOST (R353). The input's video stream stops and SIGNAL falls. -/
  | vinSignalLost (t : Tick) (vin : BitVec 2)
  /-- COMMIT_VISIBLE (R371). A set COMMIT becomes visible in the pixel island and waits for a qualifying latch point. -/
  | commitVisible (t : Tick) (output : BitVec 3) (holm : Bool) (fn : Fn)
  /-- LATCH_POINT (R371). At a latch point pending commits apply, TG_FRAME increments, flips and policy transitions take effect and fences signal. -/
  | latchPoint (t : Tick) (output : BitVec 3)
  /-- SHADOW_APPLY (R371). The latch event reaches the display engine and the OP, layer and Creamline shadows apply. -/
  | shadowApply (t : Tick) (output : BitVec 3)
  /-- RAW_RASTER_START (R365). An output becomes ready and latch point 0 falls, directly, at START or aligned. -/
  | rawRasterStart (t : Tick) (output : BitVec 3)
  /-- FIRST_LATCH_NEW_TIMING (R379). After a pixel-clock change the first latch point of the new timing falls at FL. -/
  | firstLatchNewTiming (t : Tick) (output : BitVec 3)
  /-- LINE_REQUEST (R381). A TG requests an active line from the display engine a line ahead. -/
  | lineRequest (t : Tick) (output : BitVec 3) (line : BitVec 13) (cursorDone : Bool)
  /-- CURSOR_EXPRESS_PATH (R387). A primary contact report visible in the display engine writes the cursor position within 24 cycles. -/
  | cursorExpressPath (t : Tick)
  /-- CREAM_WORK_START (R399). At s0 a CREAM item copies regions to the back buffer and renders or loads the update. -/
  | creamWorkStart (t : Tick) (output : BitVec 3)
  /-- CREAM_WORK_DONE (R399). CREAM work completes, checks the asset hash and leaves a flip pending. -/
  | creamWorkDone (t : Tick) (output : BitVec 3)
  /-- TILE_SIGNATURE_DONE (R405). A tile's signature completes, is written to the tile table and compared with EXP. -/
  | tileSignatureDone (t : Tick) (output : BitVec 3) (tile : BitVec 17) (upset : Word) (expLost : Bool)
  /-- EVIDENCE_RECORD (R416). An evidence record is written for each frame of each enabled output. -/
  | evidenceRecord (t : Tick) (output : BitVec 3)
  /-- CRL_RECOVER (R413). A paired write of CRL_RECOVER leaves FAILED or NOSCENE blanking at the next latch point. -/
  | crlRecover (t : Tick) (pf : BitVec 2) (world : World) (output : BitVec 3)
  /-- LINK_TRAINING_ATTEMPT (R426). A link training attempt ends passed or failed, leading to a retry, fallback or FAULT. -/
  | linkTrainingAttempt (t : Tick) (output : BitVec 3) (passed : Bool) (panelRates : BitVec 8)
  /-- LINK_RETRY (R426). A link in FAULT begins the whole bring-up sequence again every second. -/
  | linkRetry (t : Tick) (output : BitVec 3)
  /-- HPD_LOW_PULSE (R428). A low pulse on DTX_HPDg is ignored, taken as an IRQ or as an unplug. -/
  | hpdLowPulse (t : Tick) (output : BitVec 3) (ticks : Word) (lostLock : Bool)
  /-- HPD_REPLUG (R428). HPD held high for 20,000 ticks after an unplug begins training. -/
  | hpdReplug (t : Tick) (output : BitVec 3)
  /-- SB_AUX_READ (R431). START with CMD 0 makes a native AUX read. -/
  | sbAuxRead (t : Tick) (pf : BitVec 2) (world : World) (output : BitVec 3) (len : BitVec 5) (addr : BitVec 20)
  /-- SB_AUX_WRITE (R431). START with CMD 1 makes a native AUX write, refused for DPCD 0x00100 to 0x001FF. -/
  | sbAuxWrite (t : Tick) (pf : BitVec 2) (world : World) (output : BitVec 3) (len : BitVec 5) (addr : BitVec 20)
  /-- SB_I2C_READ (R431). START with CMD 2 makes an I2C-over-AUX read. -/
  | sbI2cRead (t : Tick) (pf : BitVec 2) (world : World) (output : BitVec 3) (len : BitVec 5) (addr : BitVec 20)
  /-- SB_I2C_WRITE (R431). START with CMD 3 makes an I2C-over-AUX write. -/
  | sbI2cWrite (t : Tick) (pf : BitVec 2) (world : World) (output : BitVec 3) (len : BitVec 5) (addr : BitVec 20)
  /-- SB_DCS_SHORT_WRITE (R431). START with CMD 4 sends a DSI DCS short write in the next vertical blanking. -/
  | sbDcsShortWrite (t : Tick) (pf : BitVec 2) (world : World) (output : BitVec 3) (len : BitVec 5) (addr : BitVec 20)
  /-- SB_DCS_LONG_WRITE (R431). START with CMD 5 sends a DSI DCS long write in the next vertical blanking. -/
  | sbDcsLongWrite (t : Tick) (pf : BitVec 2) (world : World) (output : BitVec 3) (len : BitVec 5) (addr : BitVec 20)
  /-- SB_DCS_READ (R431). START with CMD 6 makes a DSI DCS read with bus turn-around. -/
  | sbDcsRead (t : Tick) (pf : BitVec 2) (world : World) (output : BitVec 3) (len : BitVec 5) (addr : BitVec 20)
  /-- SB_TRANSACTION_END (R431). A sideband transaction ends with ACK, NACK, DEFER_LIMIT or TIMEOUT. -/
  | sbTransactionEnd (t : Tick) (output : BitVec 3) (result : BitVec 3) (bytes : List Byte)
  /-- VIN_LINK_TRAINING (R434). A source trains a DisplayPort receive link and its video-in island starts. -/
  | vinLinkTraining (t : Tick) (vin : BitVec 2) (lanes : BitVec 3) (rate : BitVec 2) (trained : Bool) (errors : BitVec 16)
  /-- STRAIT_ENTRY_ARRIVAL (R436). A packet strait entry arrives and is accepted, found lost or discarded as stale or bad. -/
  | straitEntryArrival (t : Tick) (id : Byte) (seq : BitVec 4) (parityGood : Bool) (item : Option (Fn × Word))
  /-- TOUCH_SENSOR_ENABLE (R444). A write of 1 to TCH_Sk_CTRL.ENABLE checks the configuration and starts the sensor in PROFILE. -/
  | touchSensorEnable (t : Tick) (pf : BitVec 2) (world : World) (sensor : BitVec 3) (value : Word)
  /-- TOUCH_SCAN_START (R443). A sensor's scan starts at its period, or is skipped if processing is still running. -/
  | touchScanStart (t : Tick) (sensor : BitVec 3)
  /-- TOUCH_SCAN_END (R445). A scan's measurement ends and its counts are processed into baselines, contacts and reports. -/
  | touchScanEnd (t : Tick) (sensor : BitVec 3) (counts : List (List (BitVec 12)))
  /-- TOUCH_STUCK_RELEASE (R453). A contact reaching STUCK_TIME is released with STUCK and its channels re-baselined. -/
  | touchStuckRelease (t : Tick) (sensor : BitVec 3) (contact : BitVec 8)
  /-- TOUCH_ENTER_SLOW (R456). A sensor with no contact for LP_IDLE enters slow scanning. -/
  | touchEnterSlow (t : Tick) (sensor : BitVec 3)
  /-- TOUCH_SLOW_SCAN (R456). A slow scan measures ganged groups and returns to RUN or raises a wake on LP_WAKE. -/
  | touchSlowScan (t : Tick) (sensor : BitVec 3) (counts : List (List (BitVec 12)))
  /-- HAPTIC_CHANNEL_ENABLE (R477). A write of 1 to HAP_Cn_CTRL.ENABLE checks the channel and enters CALIBRATING or IDLE. -/
  | hapticChannelEnable (t : Tick) (pf : BitVec 2) (world : World) (channel : BitVec 4) (value : Word)
  /-- HAPTIC_CALIBRATION_DONE (R476). A calibration ends, updating HALF_PERIOD and F_RES or setting CAL_FAIL. -/
  | hapticCalibrationDone (t : Tick) (channel : BitVec 4) (amps : List (BitVec 12)) (crossings : List Tick)
  /-- HAPTIC_DRIVE_BEGIN (R467). An effect's drive begins at its start instant, superseding any driving effect. -/
  | hapticDriveBegin (t : Tick) (channel : BitVec 4)
  /-- HAPTIC_DRIVE_END (R466). An effect's drive length elapses and braking follows if enabled. -/
  | hapticDriveEnd (t : Tick) (channel : BitVec 4)
  /-- BRAKING_UNIT_END (R469). A braking unit ends after its listen interval, continuing or ending braking. -/
  | brakingUnitEnd (t : Tick) (channel : BitVec 4) (peak : BitVec 12)
  /-- HAPTIC_ON_MAX (R472). A drive reaching ON_MAX ends, braking follows and LIMIT_ON is set. -/
  | hapticOnMax (t : Tick) (channel : BitVec 4)
  /-- HAPTIC_BUDGET_SPENT (R473). Drive and braking reaching BUDGET in a window end the drive and set LIMIT_BUDGET. -/
  | hapticBudgetSpent (t : Tick) (channel : BitVec 4)
  /-- HAPTIC_BUDGET_WINDOW (R473). A new budget window begins and waiting effects may start. -/
  | hapticBudgetWindow (t : Tick) (channel : BitVec 4)
  /-- OVERCURRENT (R474). Four consecutive sense samples at I_LIMIT drive both outputs low and enter FAULT. -/
  | overcurrent (t : Tick) (channel : BitVec 4) (c0 : BitVec 12) (c1 : BitVec 12) (c2 : BitVec 12) (c3 : BitVec 12)
  /-- AUDIO_FRAME_BOUNDARY (R485). At each 96 kHz frame boundary visible AUD writes apply together and samples advance. -/
  | audioFrameBoundary (t : Tick) (ext : List (List Word)) (missed : BitVec 32)
  /-- TDM_PORT_ENABLE (R495). A write of 1 to AUD_TDMn_FMT.EN checks the format and starts the port. -/
  | tdmPortEnable (t : Tick) (pf : BitVec 2) (world : World) (port : BitVec 3) (value : Word)
  /-- TDM_CLOCK_LOSS (R496). A slave port without FSYNC for 4 frames sets NO_CLOCK, and recovers after 8 stable frames. -/
  | tdmClockLoss (t : Tick) (port : BitVec 3)
  /-- AUDIO_SINK_ENABLE (R504). A write to a sink's ENABLE starts or stops it, or is held while the attention tone sounds. -/
  | audioSinkEnable (t : Tick) (pf : BitVec 2) (world : World) (sink : Fin 11) (value : Word)
  /-- AUDIO_WRITEBACK_ENABLE (R509). Enabling sink 10 checks the writeback ring and demand and starts recording. -/
  | audioWritebackEnable (t : Tick) (pf : BitVec 2) (world : World) (value : Word)
  /-- ATTENTION_START (R502). A write of 1 to AUD_ATT_CTRL.START checks and begins the attention tone sequence. -/
  | attentionStart (t : Tick) (pf : BitVec 2) (world : World) (value : Word)
  /-- ATTENTION_STOP (R502). A write of 1 to AUD_ATT_CTRL.STOP ends the sequence with the envelope fall. -/
  | attentionStop (t : Tick) (pf : BitVec 2) (world : World) (value : Word)
  /-- ATTENTION_END (R504). The tone sequence ends, SOUNDING falls and held sink writes take effect. -/
  | attentionEnd (t : Tick)
  /-- HEADSET_INSERT_CONFIRM (R505). An inserted level held for DET_DEB confirms insertion and starts type measurement. -/
  | headsetInsertConfirm (t : Tick) (port : BitVec 1) (since : Tick)
  /-- HEADSET_REMOVAL (R505). A sample showing removal mutes outputs and opens switches, confirmed after DET_DEB. -/
  | headsetRemoval (t : Tick) (port : BitVec 1) (since : Tick)
  /-- HEADSET_TYPE_MEASURED (R506). Contact resistances are classed and the headset type set. -/
  | headsetTypeMeasured (t : Tick) (port : BitVec 1) (ring2 : BitVec 24) (sleeve : BitVec 24)
  /-- HEADSET_BUTTON_CONFIRM (R507). A button band or no button held for BTN_DEB confirms a press or release. -/
  | headsetButtonConfirm (t : Tick) (port : BitVec 1) (ohms : BitVec 24) (since : Tick)
  /-- DMA_START (R522). A write of 1 to DMA_Cn_CTRL.START loads the set registers as a register set. -/
  | dmaStart (t : Tick) (pf : BitVec 2) (world : World) (channel : BitVec 7) (value : Word)
  /-- DMA_STOP (R523). A write of 1 to DMA_Cn_CTRL.STOP ends the channel's register sets at the next beat. -/
  | dmaStop (t : Tick) (pf : BitVec 2) (world : World) (channel : BitVec 7) (value : Word)
  /-- DMA_CHANNEL_DISABLE (R531). A write of 0 to DMA_Cn_CTRL.ENABLE stops every set and cancels the channel's DMA contracts. -/
  | dmaChannelDisable (t : Tick) (pf : BitVec 2) (world : World) (channel : BitVec 7) (value : Word)
  /-- DMA_SET_LOAD (R516). A contracted or register set loads into its channel or shadow and begins its beats. -/
  | dmaSetLoad (t : Tick) (channel : BitVec 7)
  /-- DMA_SET_DONE (R519). A set's last write becomes visible, delivering a contract or setting DONE for a register set. -/
  | dmaSetDone (t : Tick) (channel : BitVec 7)
  /-- DMA_RATE_WRITE (R517). A write of DMA_RATEn changes a channel's rate and priority or is ignored with RATE_ERR. -/
  | dmaRateWrite (t : Tick) (pf : BitVec 2) (world : World) (channel : BitVec 7) (value : Word)
  /-- CV_GO (R528). A write with CV_Un_CTRL.GO starts a register check-value job. -/
  | cvGo (t : Tick) (pf : BitVec 2) (world : World) (unit : BitVec 2) (value : Word)
  /-- CV_PAUSE (R529). A write of 1 to CV_Un_CTRL.PAUSE requests a register job to stop at the next block. -/
  | cvPause (t : Tick) (pf : BitVec 2) (world : World) (unit : BitVec 2) (value : Word)
  /-- CV_PAUSED (R529). A paused job writes ADDR and LEN back, sets PAUSED and clears BUSY. -/
  | cvPaused (t : Tick) (unit : BitVec 2) (bytes : BitVec 31)
  /-- CV_JOB_DONE (R527). A check-value job finishes its range and finalises, delivering or setting DONE. -/
  | cvJobDone (t : Tick) (unit : BitVec 2)
  /-- CLKIN_LOSS (R537). A failed CLKIN monitor check makes the loops coast, sets CLK_LOST and raises its interrupt. -/
  | clkinLoss (t : Tick)
  /-- CLKIN_RETURN (R541). After 16 passing checks CLKIN_OK is set and coasting loops begin to relock. -/
  | clkinReturn (t : Tick)
  /-- LOOPS_RELOCKED (R541). When the last loop has relocked LOSS_END is recorded and a POWER_EVENT posted. -/
  | loopsRelocked (t : Tick)
  /-- CLK_LOST_CLEAR (R542). A Holm write of 1 to CLK_STAT.CLK_LOST clears it unless CLKIN is lost or relocking. -/
  | clkLostClear (t : Tick) (pf : BitVec 2) (world : World)
  /-- LOOP_LOCK (R535). A started loop locks and clock-good is set after 64 cycles. -/
  | loopLock (t : Tick) (island : BitVec 5)
  /-- SOURCE_SWITCH (R543). An island switches clock source by stop, switch and restart, losing 4 cycles of each. -/
  | sourceSwitch (t : Tick) (island : BitVec 5)
  /-- DRAIN_END (R548). A gate's drain ends with the block OFF and any queued enable taking effect. -/
  | drainEnd (t : Tick) (gate : BitVec 8)
  /-- WAKE_ADMISSION (R553). The head of the wake queue is admitted once it fits the inrush budget and its parent is ON. -/
  | wakeAdmission (t : Tick)
  /-- WAKE_COMPLETE (R555). An admitted wake's gate turns ON and releases its inrush units. -/
  | wakeComplete (t : Tick) (gate : BitVec 8)
  /-- STANDBY_REACHED (R563). Standby entry completes, STATE reads STANDBY and POWER_STATE replies. -/
  | standbyReached (t : Tick)
  /-- STANDBY_LEFT (R564). Every standby gate is ON again, STATE reads RUN and a POWER_EVENT is posted. -/
  | standbyLeft (t : Tick)
  /-- POWER_ON_RESET (R560). POR_N or a supply dip asserts power-on reset, released in order once CLKIN is good. -/
  | powerOnReset (t : Tick) (clkinGood : Bool)
  /-- DEVICE_RESET (R559). RESET_N, watchdog, lockstep, firmware, debug or thermal reset resets every island but always-on. -/
  | deviceReset (t : Tick) (cause : BitVec 4)
  /-- RST_REQ_DEVICE (R557). A paired write of RST_REQ.DEVICE requests a device reset with cause FIRMWARE. -/
  | rstReqDevice (t : Tick) (pf : BitVec 2) (world : World)
  /-- RST_BLK (R561). A paired write of RST_BLK resets one idle block and its children. -/
  | rstBlk (t : Tick) (pf : BitVec 2) (world : World) (gate : BitVec 16)
  /-- BLOCK_RESET_DONE (R561). A block reset releases, sets DONE and posts a POWER_EVENT. -/
  | blockResetDone (t : Tick)
  /-- WATCHDOG_ENABLE (R562). A write of RST_WD_CTRL.EN starts the watchdog with its window. -/
  | watchdogEnable (t : Tick) (pf : BitVec 2) (world : World) (min : BitVec 14) (max : BitVec 16)
  /-- WATCHDOG_SERVICE (R562). A paired write of RST_WD_SVC services the watchdog, or expires it when early. -/
  | watchdogService (t : Tick) (pf : BitVec 2) (world : World) (value : Word)
  /-- WATCHDOG_EXPIRY (R562). No service by the window's end starts the fatal dump and a device reset. -/
  | watchdogExpiry (t : Tick)
  /-- THERMAL_ALARM (R631). TEMP reaching ALARM_AT sets ALARM, raises THERM_ALARM and posts a POWER_EVENT. -/
  | thermalAlarm (t : Tick)
  /-- THERMAL_TRIP (R632). The comparator trip asserts a device reset held until the junction cools. -/
  | thermalTrip (t : Tick)
  /-- SUPPLY_DIP (R622). A rail below its assert threshold for 2 µs asserts power-on reset. -/
  | supplyDip (t : Tick) (rail : BitVec 3) (ticks : Word)
  /-- CHURN_BUFFERED_WRITE (R572). A write to a CH field, or while OPEN is 1, enters the requester's churn buffer. -/
  | churnBufferedWrite (t : Tick) (pf : BitVec 2) (world : World) (offset : BitVec 26) (value : Word)
  /-- CHURN_STROBE (R574). A write of 1 to REG_CHURN_CTRL.STROBE checks the batch and applies or refuses it whole. -/
  | churnStrobe (t : Tick) (pf : BitVec 2) (world : World) (open_ : Bool)
  /-- CHURN_APPLY_CONFIRMED (R575). Every island has applied its batch entries and APPLIED is set. -/
  | churnApplyConfirmed (t : Tick) (pf : BitVec 2) (world : World)
  /-- CHURN_DISCARD (R576). A write of 1 to REG_CHURN_CTRL.DISCARD empties the buffer and clears OPEN and OVERFLOW. -/
  | churnDiscard (t : Tick) (pf : BitVec 2) (world : World)
  /-- PAIR_VALUE_WRITE (R578). A value write to a paired-write register arms the requester's pair latch. -/
  | pairValueWrite (t : Tick) (pf : BitVec 2) (world : World) (register : Fin 15) (value : Word)
  /-- PAIR_LATCH_LAPSE (R578). An armed pair latch lapses at the end of its 2,000-tick window. -/
  | pairLatchLapse (t : Tick) (requester : Requester)
  /-- CRC_COMMIT (R585). A paired write of REG_CRC_COMMIT copies HOLM_REF into COMMITTED. -/
  | crcCommit (t : Tick) (pf : BitVec 2) (world : World)
  /-- CRC_RESYNC (R584). A paired write of REG_CRC_RESYNC takes the next scan's values as references. -/
  | crcResync (t : Tick) (pf : BitVec 2) (world : World) (segment : Byte)
  /-- CRC_PASS_END (R584). A configuration scanner pass ends and any mismatch raises CFG_MISMATCH and a CONFIG_EVENT. -/
  | crcPassEnd (t : Tick) (flips : List (BitVec 26 × BitVec 16 × Word))
  /-- CO_LOCK (R231). A write of 1 to DRC_CO_LOCK.LOCK freezes every carve-out register until power-on reset. -/
  | coLock (t : Tick) (pf : BitVec 2) (world : World)
  /-- SNAP (R34). A write of 1 to a SNAP field captures the snapshot group for the requester. -/
  | snap (t : Tick) (requester : Requester) (offset : BitVec 26)
  /-- REGISTER_WRITE (R12). A write to a register without a row of its own acts by its access code and owner rules. -/
  | registerWrite (t : Tick) (requester : Requester) (offset : BitVec 26) (access : Access)
  /-- BOOT_SEQUENCE (R592). After any reset the boot ROM runs the boot steps up to firmware entry and BOOT_DONE. -/
  | bootSequence (t : Tick) (trained : Bool) (linkEcc : Bool) (romVersion : Word) (romHash : List Byte) (image0 : List Byte) (image1 : List Byte) (landMarks : BitVec 64) (recordOk : Bool)
  /-- DUMP_STREAK_CLEAR (R602). DUMP_STREAK clears 10 s after BOOT_DONE without a dump. -/
  | dumpStreakClear (t : Tick)
  /-- DUMP_FIRE (R607). A write of 1 to REG_DUMP_CTRL.FIRE starts a firmware-triggered fatal dump. -/
  | dumpFire (t : Tick) (pf : BitVec 2) (world : World) (trigger : BitVec 3)
  /-- DUMP_COMPLETE (R608). The dump sequencer finishes its sections, writes the header and sets PRESENT. -/
  | dumpComplete (t : Tick)
  /-- DUMP_CLEAR (R610). A write of 1 to REG_DUMP_CTRL.CLEAR clears PRESENT and READ. -/
  | dumpClear (t : Tick) (pf : BitVec 2) (world : World) (trigger : BitVec 3)
  /-- IDLE_OR_LIFETIME_EXPIRY (R132). An open session whose idle window or Holm lifetime window ends enters EXPIRED at that tick. -/
  | idleOrLifetimeExpiry (t : Tick) (tag : Word)
  /-- FUNCTION_RESET_END (R208). A function reset, such as an FLR that may take up to 100 ms, ends and the function leaves RESETTING for ACTIVE. -/
  | functionResetEnd (t : Tick) (fn : Fn)
  /-- VERTEX_BATCH_END (R284). A context reaches the end of a vertex batch of at most 256 primitives, a yield point at which it ends and the dispatcher decides. -/
  | vertexBatchEnd (t : Tick) (core : BitVec 4) (prims : List ClipPrim) (writes : List MemWrite) (drb : BitVec 40)
  /-- MANAGEMENT_STALL (R40). The management firmware stalls, so packets wait unanswered, idle windows stop and management-plane bounds are suspended. -/
  | managementStall (t : Tick)
  /-- HELD_TLP_RELEASE (R438). A TLP held by a provoked reorder fault is released when no following TLP of the same port and direction has come within 200,000 ticks. -/
  | heldTlpRelease (t : Tick) (port : BitVec 2) (outbound : Bool)
  /-- PCIE_LINK_UP (R432). A PCIe port's link trains with its host and its data link layer comes up, setting LINK_UP, WIDTH and SPEED. -/
  | pcieLinkUp (t : Tick) (port : BitVec 2) (width : BitVec 5) (speed : BitVec 3) (reversed : Bool) (bars : List (BitVec 64 × BitVec 40)) (numVfs : BitVec 6) (vfEnable : Bool)
  /-- DIE_SENSOR_READ (R631). Every 1 ms the eight die sensors are read, updating TEMP and MAX and re-arming the alarm once TEMP has fallen 2 °C below ALARM_AT. -/
  | dieSensorRead (t : Tick) (temps : List (BitVec 16))
  /-- NO_FETCH_IN_FLIGHT (R241). After an output's timing generator is disabled, the pipe reports no fetch in flight and every pending retire fence of the output signals. -/
  | noFetchInFlight (t : Tick) (output : BitVec 3)
  /-- TDM_CLOCK_RETURN (R496). A slave TDM port that has seen 8 consecutive frames at a stable rate clears NO_CLOCK and drives its output again. -/
  | tdmClockReturn (t : Tick) (port : BitVec 3) (rate : BitVec 18)
  deriving DecidableEq, Repr

end Sys2Proof
end

