-- ==== Sys2Proof/Config.lean ====
section
/-!
DEFINITION. Config.lean: the values that spec/ leaves open. Each is a constant without a body, applied to a counter in the state (a fresh value each time) or to the operands it depends on:
no proof can see what it is.
-/

namespace Sys2Proof.Config

/-- Word `n` of the internal random generator (R118, R122, R213): session tags, device nonces, GCM nonces and MODE 1 fault draws are made from it. -/
opaque random : Nat → Nat

/-- A byte whose value spec/ calls undefined (R207: a partial event record beyond WI; R273). -/
opaque freeByte : Nat → Byte

/-- The reference signature of the test scene in the boot ROM (R317, Table 10.8: From boot ROM). -/
opaque refSig : Word

/-- A component that a fragment program leaves and the command does not give: program results are no part of spec/. -/
opaque shaded : Nat → Word

/-- A ball, sample or measurement whose value spec/ leaves to the analogue part. -/
opaque analogue : Nat → Nat

/-- Y1 of a quad record with these 16 bytes: R313 reads it, and Table 10.3 gives it no place. -/
opaque quadBottom : List Byte → Nat

end Sys2Proof.Config
end

