-- ==== Sys2Proof/Machine/Bits.lean ====
section
/-!
DEFINITION. Bits.lean: bit fields [msb:lsb] of a word (R8), little-endian bytes (R8), signed readings and fixed-point rounding.
-/

namespace Sys2Proof.Machine

/-- A bit range [hi:lo] of a register (R8). -/
structure Bits where
  hi : Nat
  lo : Nat
  deriving DecidableEq, Repr

/-- The number held in the bits [hi:lo] of `n`. -/
def natBits (n hi lo : Nat) : Nat := (n >>> lo) % 2 ^ (hi + 1 - lo)

/-- The number in a field of a word. -/
def getF (w : Word) (b : Bits) : Nat := natBits w.toNat b.hi b.lo

/-- One flag of a word. -/
def getB (w : Word) (b : Bits) : Bool := getF w b != 0

/-- The word whose field `b` holds `v`, cut to the field's width; every other bit stays. -/
def setF (w : Word) (b : Bits) (v : Nat) : Word :=
  let m : Nat := (2 ^ (b.hi + 1 - b.lo) - 1) <<< b.lo
  BitVec.ofNat 32 ((w.toNat &&& (0xFFFFFFFF ^^^ m)) ||| ((v <<< b.lo) &&& m))

/-- The word whose flag `b` is `v`. -/
def setB (w : Word) (b : Bits) (v : Bool) : Word := setF w b (if v then 1 else 0)

/-- A field of value `v` placed at `b` in an otherwise zero number. -/
def packF (b : Bits) (v : Nat) : Nat := (v % 2 ^ (b.hi + 1 - b.lo)) <<< b.lo

/-- The flag as a number. -/
def bit (b : Bool) : Nat := if b then 1 else 0

/-- `n` little-endian bytes of `x` (R8). -/
def le (n x : Nat) : List Byte :=
  match n with
  | 0 => []
  | n + 1 => BitVec.ofNat 8 x :: le n (x / 256)

/-- The number that little-endian bytes spell (R8). -/
def ofLe : List Byte → Nat
  | [] => 0
  | b :: bs => b.toNat + 256 * ofLe bs

/-- Big-endian bytes, as the secure hash standard takes them. -/
def be (n x : Nat) : List Byte := (le n x).reverse

/-- The number that big-endian bytes spell. -/
def ofBe (bs : List Byte) : Nat := ofLe bs.reverse

/-- Byte `i` of a list, 0 beyond its end. -/
def byteAt (bs : List Byte) (i : Nat) : Byte := bs.getD i 0

/-- The `n` bytes from offset `o`, 0 beyond the end of the list. -/
def slice (bs : List Byte) (o n : Nat) : List Byte := (List.range n).map (fun i => byteAt bs (o + i))

/-- The little-endian number in the `n` bytes from offset `o`. -/
def leAt (bs : List Byte) (o n : Nat) : Nat := ofLe (slice bs o n)

/-- `w` bits read as a two's complement number. -/
def signedOf (w n : Nat) : Int :=
  let m := n % 2 ^ w
  if m < 2 ^ (w - 1) then (m : Int) else (m : Int) - (2 : Int) ^ w

/-- A number written in `w` bits of two's complement. -/
def toTwos (w : Nat) (i : Int) : Nat := (i % ((2 : Int) ^ w)).toNat

/-- Division rounding up; by zero it gives 0. -/
def ceilDiv (a b : Nat) : Nat := if b = 0 then 0 else (a + b - 1) / b

/-- Arithmetic shift right of a signed number: the floor of `x / 2 ^ n`. -/
def asr (x : Int) (n : Nat) : Int := x / ((2 : Int) ^ n)

/-- Saturate a signed number to [lo, hi]. -/
def clampI (lo hi x : Int) : Int := if x < lo then lo else if hi < x then hi else x

/-- Saturate a natural number to at most `hi`. -/
def clampN (hi x : Nat) : Nat := if hi < x then hi else x

/-- Round half up of `x / 2 ^ n`. -/
def roundShr (x : Int) (n : Nat) : Int := if n = 0 then x else asr (x + (2 : Int) ^ (n - 1)) n

/-- How many bits of `n` below bit `w` are set. -/
def popCount (w n : Nat) : Nat := ((List.range w).filter (fun i => n.testBit i)).length

/-- The positions below `w` of the set bits of `n`, rising. -/
def setBits (w n : Nat) : List Nat := (List.range w).filter (fun i => n.testBit i)

/-- Distance from `a` forward to `b` modulo `m`. -/
def modDist (m a b : Nat) : Nat := (b + m - a % m) % m

end Sys2Proof.Machine
end

