-- ==== Sys2Proof/Machine/Crypto.lean ====
section
/-!
DEFINITION. Crypto.lean: the check values and ciphers that the spec names: CRC-32C (R93), the CRCs and SHA-256 of R524, HMAC-SHA-256 (R94, R125),
HKDF-SHA-256 (R129, R213), AES-256 and GCM (R213), ECDSA over P-256 (R590).
-/

namespace Sys2Proof.Machine

/-- One byte of a reflected CRC of width 32: eight shifts right, the reversed polynomial folded in. -/
def crcReflByte (poly crc : Nat) (b : Byte) : Nat :=
  (List.range 8).foldl (fun c _ => if c % 2 = 1 then (c / 2) ^^^ poly else c / 2) (crc ^^^ b.toNat)

/-- Running value of a reflected CRC over bytes. -/
def crcRefl (poly crc : Nat) (bs : List Byte) : Nat := bs.foldl (crcReflByte poly) crc

/-- CRC-32C (R93): polynomial 0x1EDC6F41 reflected, initial value and final XOR all ones. -/
def crc32c (bs : List Byte) : Nat := crcRefl 0x82F63B78 0xFFFFFFFF bs ^^^ 0xFFFFFFFF

/-- One byte of a CRC of width 16 taken most significant bit first. -/
def crc16Byte (poly crc : Nat) (b : Byte) : Nat :=
  (List.range 8).foldl (fun c _ => if c / 32768 % 2 = 1 then ((c * 2) ^^^ poly) % 65536 else (c * 2) % 65536) (crc ^^^ (b.toNat * 256))

/-- Running value of a CRC of width 16. -/
def crc16 (poly crc : Nat) (bs : List Byte) : Nat := bs.foldl (crc16Byte poly) crc

/-- Rotate a 32-bit word right. -/
def rotr (x : Word) (n : Nat) : Word := (x >>> n) ||| (x <<< (32 - n))

/-- The 64 round constants of SHA-256 (FIPS 180-4, named by R524). -/
def sha256K : List Word :=
  [0x428a2f98, 0x71374491, 0xb5c0fbcf, 0xe9b5dba5, 0x3956c25b, 0x59f111f1, 0x923f82a4, 0xab1c5ed5,
   0xd807aa98, 0x12835b01, 0x243185be, 0x550c7dc3, 0x72be5d74, 0x80deb1fe, 0x9bdc06a7, 0xc19bf174,
   0xe49b69c1, 0xefbe4786, 0x0fc19dc6, 0x240ca1cc, 0x2de92c6f, 0x4a7484aa, 0x5cb0a9dc, 0x76f988da,
   0x983e5152, 0xa831c66d, 0xb00327c8, 0xbf597fc7, 0xc6e00bf3, 0xd5a79147, 0x06ca6351, 0x14292967] ++
  [0x27b70a85, 0x2e1b2138, 0x4d2c6dfc, 0x53380d13, 0x650a7354, 0x766a0abb, 0x81c2c92e, 0x92722c85,
   0xa2bfe8a1, 0xa81a664b, 0xc24b8b70, 0xc76c51a3, 0xd192e819, 0xd6990624, 0xf40e3585, 0x106aa070,
   0x19a4c116, 0x1e376c08, 0x2748774c, 0x34b0bcb5, 0x391c0cb3, 0x4ed8aa4a, 0x5b9cca4f, 0x682e6ff3,
   0x748f82ee, 0x78a5636f, 0x84c87814, 0x8cc70208, 0x90befffa, 0xa4506ceb, 0xbef9a3f7, 0xc67178f2]

/-- The initial hash value of SHA-256. -/
def sha256Init : List Word :=
  [0x6a09e667, 0xbb67ae85, 0x3c6ef372, 0xa54ff53a, 0x510e527f, 0x9b05688c, 0x1f83d9ab, 0x5be0cd19]

/-- Extend the message schedule by `n` words; the newest word stands first. -/
def sha256Schedule : Nat → List Word → List Word
  | 0, w => w
  | n + 1, w =>
    let a := w.getD 14 0
    let b := w.getD 1 0
    let s0 := rotr a 7 ^^^ rotr a 18 ^^^ (a >>> 3)
    let s1 := rotr b 17 ^^^ rotr b 19 ^^^ (b >>> 10)
    sha256Schedule n ((w.getD 15 0 + s0 + w.getD 6 0 + s1) :: w)

/-- One round over the eight working words. -/
def sha256Round (h : List Word) (kw : Word × Word) : List Word :=
  match h with
  | [a, b, c, d, e, f, g, hh] =>
    let t1 := hh + (rotr e 6 ^^^ rotr e 11 ^^^ rotr e 25) + ((e &&& f) ^^^ ((~~~ e) &&& g)) + kw.1 + kw.2
    let t2 := (rotr a 2 ^^^ rotr a 13 ^^^ rotr a 22) + ((a &&& b) ^^^ (a &&& c) ^^^ (b &&& c))
    [t1 + t2, a, b, c, d + t1, e, f, g]
  | h => h

/-- One 64-byte block folded into the running value (R525: the eight state words). -/
def sha256Block (h : List Word) (blk : List Byte) : List Word :=
  let w := (List.range 16).map (fun i => BitVec.ofNat 32 (ofBe (slice blk (4 * i) 4)))
  let ws := (sha256Schedule 48 w.reverse).reverse
  let r := (sha256K.zip ws).foldl sha256Round h
  (h.zip r).map (fun p => p.1 + p.2)

/-- Fold `n` whole blocks from the front of the bytes. -/
def sha256Blocks : Nat → List Word → List Byte → List Word
  | 0, h, _ => h
  | n + 1, h, bs => sha256Blocks n (sha256Block h (bs.take 64)) (bs.drop 64)

/-- The padded tail of a message of `total` bytes whose last bytes beyond whole blocks are `tail`. -/
def sha256Pad (total : Nat) (tail : List Byte) : List Byte :=
  let z := (119 - tail.length % 64) % 64
  tail ++ [0x80#8] ++ List.replicate z 0 ++ be 8 (8 * total)

/-- The digest bytes of a running value. -/
def sha256Out (h : List Word) : List Byte := h.flatMap (fun w => be 4 w.toNat)

/-- SHA-256 of bytes. -/
def sha256 (bs : List Byte) : List Byte :=
  let p := sha256Pad bs.length bs
  sha256Out (sha256Blocks (p.length / 64) sha256Init p)

/-- HMAC-SHA-256 (R94, R125, R129). -/
def hmac (key msg : List Byte) : List Byte :=
  let k0 := if 64 < key.length then sha256 key else key
  let k := k0 ++ List.replicate (64 - k0.length) 0
  let inner := sha256 (k.map (· ^^^ 0x36#8) ++ msg)
  sha256 (k.map (· ^^^ 0x5C#8) ++ inner)

/-- HKDF-SHA-256 with an output of 32 bytes (R129, R213): extract with the salt, expand once. -/
def hkdf32 (salt ikm info : List Byte) : List Byte := hmac (hmac salt ikm) (info ++ [1#8])

/-- ASCII bytes of a string. -/
def ascii (s : String) : List Byte := s.toList.map (fun c => BitVec.ofNat 8 c.toNat)

/-- Multiplication by x in the field of AES. -/
def aesXtime (b : Nat) : Nat := if 128 ≤ b then ((b * 2) ^^^ 0x11B) % 256 else b * 2

/-- The substitution table of AES by the high and the low half of a byte (FIPS 197, Figure 7). -/
def aesBox : List (List Nat) := [
  [0x63, 0x7C, 0x77, 0x7B, 0xF2, 0x6B, 0x6F, 0xC5, 0x30, 0x01, 0x67, 0x2B, 0xFE, 0xD7, 0xAB, 0x76],
  [0xCA, 0x82, 0xC9, 0x7D, 0xFA, 0x59, 0x47, 0xF0, 0xAD, 0xD4, 0xA2, 0xAF, 0x9C, 0xA4, 0x72, 0xC0],
  [0xB7, 0xFD, 0x93, 0x26, 0x36, 0x3F, 0xF7, 0xCC, 0x34, 0xA5, 0xE5, 0xF1, 0x71, 0xD8, 0x31, 0x15],
  [0x04, 0xC7, 0x23, 0xC3, 0x18, 0x96, 0x05, 0x9A, 0x07, 0x12, 0x80, 0xE2, 0xEB, 0x27, 0xB2, 0x75],
  [0x09, 0x83, 0x2C, 0x1A, 0x1B, 0x6E, 0x5A, 0xA0, 0x52, 0x3B, 0xD6, 0xB3, 0x29, 0xE3, 0x2F, 0x84],
  [0x53, 0xD1, 0x00, 0xED, 0x20, 0xFC, 0xB1, 0x5B, 0x6A, 0xCB, 0xBE, 0x39, 0x4A, 0x4C, 0x58, 0xCF],
  [0xD0, 0xEF, 0xAA, 0xFB, 0x43, 0x4D, 0x33, 0x85, 0x45, 0xF9, 0x02, 0x7F, 0x50, 0x3C, 0x9F, 0xA8],
  [0x51, 0xA3, 0x40, 0x8F, 0x92, 0x9D, 0x38, 0xF5, 0xBC, 0xB6, 0xDA, 0x21, 0x10, 0xFF, 0xF3, 0xD2],
  [0xCD, 0x0C, 0x13, 0xEC, 0x5F, 0x97, 0x44, 0x17, 0xC4, 0xA7, 0x7E, 0x3D, 0x64, 0x5D, 0x19, 0x73],
  [0x60, 0x81, 0x4F, 0xDC, 0x22, 0x2A, 0x90, 0x88, 0x46, 0xEE, 0xB8, 0x14, 0xDE, 0x5E, 0x0B, 0xDB],
  [0xE0, 0x32, 0x3A, 0x0A, 0x49, 0x06, 0x24, 0x5C, 0xC2, 0xD3, 0xAC, 0x62, 0x91, 0x95, 0xE4, 0x79],
  [0xE7, 0xC8, 0x37, 0x6D, 0x8D, 0xD5, 0x4E, 0xA9, 0x6C, 0x56, 0xF4, 0xEA, 0x65, 0x7A, 0xAE, 0x08],
  [0xBA, 0x78, 0x25, 0x2E, 0x1C, 0xA6, 0xB4, 0xC6, 0xE8, 0xDD, 0x74, 0x1F, 0x4B, 0xBD, 0x8B, 0x8A],
  [0x70, 0x3E, 0xB5, 0x66, 0x48, 0x03, 0xF6, 0x0E, 0x61, 0x35, 0x57, 0xB9, 0x86, 0xC1, 0x1D, 0x9E],
  [0xE1, 0xF8, 0x98, 0x11, 0x69, 0xD9, 0x8E, 0x94, 0x9B, 0x1E, 0x87, 0xE9, 0xCE, 0x55, 0x28, 0xDF],
  [0x8C, 0xA1, 0x89, 0x0D, 0xBF, 0xE6, 0x42, 0x68, 0x41, 0x99, 0x2D, 0x0F, 0xB0, 0x54, 0xBB, 0x16]]

/-- The AES substitution of a byte. -/
def aesSub (b : Byte) : Byte := BitVec.ofNat 8 ((aesBox.getD (b.toNat / 16) []).getD (b.toNat % 16) 0)

/-- The words of the AES-256 key schedule, newest first. -/
def aesExpand : Nat → Nat → List (List Byte) → List (List Byte)
  | 0, _, ws => ws
  | n + 1, i, ws =>
    let t := ws.getD 0 []
    let u :=
      if i % 8 = 0 then
        let r := (slice t 1 3 ++ slice t 0 1).map aesSub
        let rc := BitVec.ofNat 8 ((List.range (i / 8 - 1)).foldl (fun c _ => aesXtime c) 1)
        match r with
        | a :: rest => (a ^^^ rc) :: rest
        | [] => []
      else if i % 8 = 4 then t.map aesSub else t
    aesExpand n (i + 1) (((ws.getD 7 []).zip u).map (fun p => p.1 ^^^ p.2) :: ws)

/-- The fifteen round keys of AES-256. -/
def aesKeys (key : List Byte) : List (List Byte) :=
  let w0 := ((List.range 8).map (fun i => slice key (4 * i) 4)).reverse
  let ws := (aesExpand 52 8 w0).reverse
  (List.range 15).map (fun r => (List.range 4).flatMap (fun j => ws.getD (4 * r + j) []))

/-- Exclusive or of two byte lists. -/
def xorBytes (a b : List Byte) : List Byte := (a.zip b).map (fun p => p.1 ^^^ p.2)

/-- The row shift of AES. -/
def aesShift (s : List Byte) : List Byte := (List.range 16).map (fun i => byteAt s ((i + 4 * (i % 4)) % 16))

/-- The column mix of AES. -/
def aesMix (s : List Byte) : List Byte :=
  (List.range 16).map (fun i =>
    let c := 4 * (i / 4)
    let g := fun k => (byteAt s (c + (i + k) % 4)).toNat
    BitVec.ofNat 8 (aesXtime (g 0) ^^^ (aesXtime (g 1) ^^^ g 1) ^^^ g 2 ^^^ g 3))

/-- AES-256 encryption of one block under expanded keys. -/
def aesBlock (ks : List (List Byte)) (blk : List Byte) : List Byte :=
  let s0 := xorBytes blk (ks.getD 0 [])
  let s := (List.range 13).foldl (fun s r => xorBytes (aesMix (aesShift (s.map aesSub))) (ks.getD (r + 1) [])) s0
  xorBytes (aesShift (s.map aesSub)) (ks.getD 14 [])

/-- Multiplication in the field of GHASH, on numbers whose bit 127 is the first bit. -/
def ghashMul (x y : Nat) : Nat :=
  ((List.range 128).foldl
    (fun (p : Nat × Nat) i =>
      (if x.testBit (127 - i) then p.1 ^^^ p.2 else p.1,
       if p.2 % 2 = 1 then (p.2 / 2) ^^^ (0xE1 <<< 120) else p.2 / 2)) (0, y)).1

/-- The bytes cut to blocks of 16, the last padded with zeros. -/
def blocks16 (bs : List Byte) : List (List Byte) := (List.range ((bs.length + 15) / 16)).map (fun i => slice bs (16 * i) 16)

/-- GHASH of additional data and ciphertext. -/
def ghash (h : Nat) (aad ct : List Byte) : Nat :=
  let bs := blocks16 aad ++ blocks16 ct ++ [be 8 (8 * aad.length) ++ be 8 (8 * ct.length)]
  bs.foldl (fun y b => ghashMul (y ^^^ ofBe b) h) 0

/-- The counter-mode key stream applied to bytes, from counter `c`. -/
def gcmCtr (ks : List (List Byte)) (iv : List Byte) (c : Nat) (bs : List Byte) : List Byte :=
  ((List.range ((bs.length + 15) / 16)).flatMap (fun i =>
    xorBytes (bs.drop (16 * i) |>.take 16) (aesBlock ks (iv ++ be 4 (c + i)))))

/-- AES-256-GCM encryption with a 12-byte IV (R213): ciphertext and 16-byte tag. -/
def gcmSeal (key iv aad pt : List Byte) : List Byte × List Byte :=
  let ks := aesKeys key
  let h := ofBe (aesBlock ks (List.replicate 16 0))
  let ct := gcmCtr ks iv 2 pt
  let tag := xorBytes (be 16 (ghash h aad ct)) (aesBlock ks (iv ++ be 4 1))
  (ct, tag)

/-- AES-256-GCM decryption (R214): the plaintext, or none when the tag fails. -/
def gcmOpen (key iv aad ct tag : List Byte) : Option (List Byte) :=
  let ks := aesKeys key
  let h := ofBe (aesBlock ks (List.replicate 16 0))
  let want := xorBytes (be 16 (ghash h aad ct)) (aesBlock ks (iv ++ be 4 1))
  if want = tag then some (gcmCtr ks iv 2 ct) else none

/-! ### ECDSA over NIST P-256 (R590) -/

/-- The field prime of P-256. -/
def p256P : Nat := 2 ^ 256 - 2 ^ 224 + 2 ^ 192 + 2 ^ 96 - 1

/-- The order of the base point of P-256. -/
def p256N : Nat := 0xffffffff00000000ffffffffffffffffbce6faada7179e84f3b9cac2fc632551

/-- The coefficient b of P-256; the coefficient a is −3. -/
def p256B : Nat := 0x5ac635d8aa3a93e7b3ebbd55769886bc651d06b0cc53b0f63bce3c3e27d2604b

/-- The base point of P-256. -/
def p256G : Nat × Nat :=
  (0x6b17d1f2e12c4247f8bce6e563a440f277037d812deb33a0f4a13945d898c296, 0x4fe342e2fe1a7f9b8ee7eb4a7c0f9e162bce33576b315ececbb6406837bf51f5)

/-- Euclid's algorithm on two remainders, each with its coefficient modulo `m`, in at most so many steps: the coefficient of the last remainder that is not 0. -/
def euclid (m : Nat) : Nat → Nat → Nat → Nat → Nat → Nat
  | 0, _, _, t, _ => t
  | n + 1, r, r', t, t' => if r' = 0 then t else euclid m n r' (r % r') t' ((t + (m - r / r' * t' % m)) % m)

/-- The inverse modulo a prime of 256 bits: Euclid's algorithm ends within 370 steps there. The inverse of 0 is 0. -/
def invMod (m a : Nat) : Nat := euclid m 370 m (a % m) 0 1

/-- A point: none is the point at infinity. -/
abbrev EcPoint := Option (Nat × Nat)

/-- The sum of two points of P-256. -/
def ecAdd (a b : EcPoint) : EcPoint :=
  match a, b with
  | none, q => q
  | q, none => q
  | some (x1, y1), some (x2, y2) =>
    let p := p256P
    if x1 = x2 ∧ (y1 + y2) % p = 0 then none
    else
      let l := if x1 = x2 then (3 * x1 * x1 + (p - 3)) % p * invMod p (2 * y1) % p else (y2 + p - y1) % p * invMod p (x2 + p - x1) % p
      let x := (l * l + 2 * p - x1 - x2) % p
      some (x, (l * (x1 + p - x) + p - y1) % p)

/-- `k` times a point, over the `n` low bits of `k`. -/
def ecMul (q : EcPoint) (k : Nat) : Nat → EcPoint
  | 0 => none
  | n + 1 =>
    let r := ecMul q (k / 2) n
    let r := ecAdd r r
    if k % 2 = 1 then ecAdd r q else r

/-- Does a point lie on P-256? -/
def onCurve (x y : Nat) : Bool :=
  let p := p256P
  decide (x < p) && decide (y < p) && (y * y % p == (x * x * x + (p - 3) * x + p256B) % p)

/-- ECDSA verification over P-256 (FIPS 186-5, R590): public key x then y, a SHA-256 digest, a signature r then s. -/
def ecdsaVerify (pub digest sig : List Byte) : Bool :=
  let x := ofBe (pub.take 32)
  let y := ofBe (pub.drop 32)
  let r := ofBe (sig.take 32)
  let s := ofBe (sig.drop 32)
  let n := p256N
  onCurve x y && decide (0 < r) && decide (r < n) && decide (0 < s) && decide (s < n) &&
  (let w := invMod n s
   match ecAdd (ecMul (some p256G) (ofBe digest * w % n) 256) (ecMul (some (x, y)) (r * w % n) 256) with
   | none => false
   | some (rx, _) => rx % n == r)

end Sys2Proof.Machine
end

