-- ==== Sys2Proof/Machine/RegMap.lean ====
section
/-!
DEFINITION. RegMap.lean: every register of the PF register window (R566, Table 20.1) with its offset, its instances and its fields as the
register tables of spec/ give them (R12): access code, bits and reset value. Reset values that the spec takes from OTP, the boot ROM or the
platform configuration stand at 0 here and are set by the boot sequence.
-/

namespace Sys2Proof.Machine

/-- Access codes (Table 0.4, R12). -/
inductive Acc where
  | rw | ro | wo | w1c | rws | pw | ch | sh
  deriving DecidableEq, Repr

/-- One field of a register table: bits, access code, reset value. -/
structure FieldDef where
  name : String
  hi : Nat
  lo : Nat
  acc : Acc
  reset : Nat
  deriving DecidableEq, Repr

/-- One register: its name, first offset, the counts and strides of its instances (outermost first), its fields. -/
structure RegDef where
  name : String
  base : Nat
  dims : List (Nat × Nat)
  fields : List FieldDef
  deriving DecidableEq, Repr

/-- Registers of the REG tables of spec/ (Table 0.2, Table 1.5, Table 1.6, Table 20.8, Table 20.9). -/
def regsReg0 : List RegDef := [
  ⟨"REG_DEVICE_ID", 0x1230000, [], [⟨"PART", 31, 16, .ro, 0x880⟩, ⟨"STEP_MAJOR", 15, 12, .ro, 0xB⟩, ⟨"STEP_MINOR", 11, 8, .ro, 0x0⟩, ⟨"GRADE", 7, 4, .ro, 0x1⟩]⟩,
  ⟨"REG_GTB_CTRL", 0x1230010, [], [⟨"SEQ", 31, 16, .ro, 0x0⟩, ⟨"VALID", 1, 1, .ro, 0x0⟩, ⟨"SNAP", 0, 0, .wo, 0x0⟩]⟩,
  ⟨"REG_GTB_LO", 0x1230014, [], [⟨"GTB_LO", 31, 0, .ro, 0x0⟩]⟩,
  ⟨"REG_GTB_HI", 0x1230018, [], [⟨"GTB_HI", 31, 0, .ro, 0x0⟩]⟩,
  ⟨"REG_CHURN_CTRL", 0x1230020, [], [⟨"DISCARD", 2, 2, .wo, 0x0⟩, ⟨"STROBE", 1, 1, .wo, 0x0⟩, ⟨"OPEN", 0, 0, .rw, 0x0⟩]⟩,
  ⟨"REG_CHURN_STAT", 0x1230024, [], [⟨"FAIL_ENTRY", 23, 16, .ro, 0x0⟩, ⟨"REASON", 15, 12, .ro, 0x0⟩, ⟨"ENTRIES", 9, 4, .ro, 0x0⟩, ⟨"BUSY", 3, 3, .ro, 0x0⟩, ⟨"OVERFLOW", 2, 2, .w1c, 0x0⟩, ⟨"REFUSED", 1, 1, .w1c, 0x0⟩, ⟨"APPLIED", 0, 0, .w1c, 0x0⟩]⟩,
  ⟨"REG_CHURN_CNT", 0x1230028, [], [⟨"STROBES", 31, 16, .ro, 0x0⟩, ⟨"REFUSALS", 15, 0, .ro, 0x0⟩]⟩,
  ⟨"REG_PAIR_STAT", 0x1230030, [], [⟨"FAILS", 31, 16, .ro, 0x0⟩, ⟨"LATE", 2, 2, .w1c, 0x0⟩, ⟨"MISMATCH", 1, 1, .w1c, 0x0⟩, ⟨"ARMED", 0, 0, .ro, 0x0⟩]⟩,
  ⟨"REG_CRC_CTRL", 0x1230040, [], [⟨"EVENT_PF", 5, 4, .ch, 0x0⟩, ⟨"POLICY", 2, 1, .ch, 0x0⟩, ⟨"EN", 0, 0, .ch, 0x1⟩]⟩,
  ⟨"REG_CRC_STAT", 0x1230044, [], [⟨"MISMATCH_PASSES", 31, 16, .ro, 0x0⟩, ⟨"LAST_SEG", 15, 8, .ro, 0x0⟩, ⟨"DRIFT", 2, 2, .ro, 0x1⟩, ⟨"MISMATCH", 1, 1, .w1c, 0x0⟩, ⟨"SCANNING", 0, 0, .ro, 0x0⟩]⟩,
  ⟨"REG_CRC_COMMIT", 0x1230048, [], [⟨"COMMIT", 0, 0, .pw, 0x0⟩]⟩,
  ⟨"REG_CRC_RESYNC", 0x1230050, [], [⟨"SEG", 7, 0, .pw, 0x0⟩]⟩]

/-- Registers of the REG tables of spec/ (Table 20.10, Table 20.9, Table 21.12, Table 21.13, Table 21.14). -/
def regsReg1 : List RegDef := [
  ⟨"REG_CRC_HOLM_REF", 0x1230064, [], [⟨"REF", 31, 0, .ro, 0x0⟩]⟩,
  ⟨"REG_CRC_COMMITTED", 0x1230068, [], [⟨"REF", 31, 0, .ro, 0x0⟩]⟩,
  ⟨"REG_CRC_PASSES", 0x123006C, [], [⟨"PASSES", 31, 0, .ro, 0x0⟩]⟩,
  ⟨"REG_CRC_COMMIT_N", 0x123004C, [], []⟩,
  ⟨"REG_CRC_RESYNC_N", 0x1230054, [], []⟩,
  ⟨"REG_CRC_SNAP_CTRL", 0x1230060, [], [⟨"SEQ", 31, 16, .ro, 0x0⟩, ⟨"VALID", 1, 1, .ro, 0x0⟩, ⟨"SNAP", 0, 0, .wo, 0x0⟩]⟩,
  ⟨"REG_ERR", 0x1230080, [], [⟨"UNMAPPED", 31, 16, .ro, 0x0⟩, ⟨"PARTIAL", 15, 0, .ro, 0x0⟩]⟩,
  ⟨"REG_BOOT_STAT", 0x1230100, [], [⟨"DUMP_STREAK", 23, 20, .rws, 0x0⟩, ⟨"CODE", 19, 16, .ro, 0x0⟩, ⟨"BOOT_DONE", 7, 7, .ro, 0x0⟩, ⟨"CERT", 6, 6, .ro, 0x0⟩, ⟨"FALLBACK", 5, 5, .ro, 0x0⟩, ⟨"TRIAL", 4, 4, .ro, 0x0⟩, ⟨"TRIES_LEFT", 3, 2, .ro, 0x0⟩, ⟨"SLOT", 0, 0, .ro, 0x0⟩]⟩,
  ⟨"REG_OTP_STAT", 0x1230104, [], [⟨"ROLLBACK", 22, 16, .ro, 0x0⟩, ⟨"LIFECYCLE", 15, 14, .ro, 0x0⟩, ⟨"MKEY_VALID", 13, 12, .ro, 0x0⟩, ⟨"KEY_REVOKED", 11, 8, .ro, 0x0⟩, ⟨"KEY_LAB", 7, 4, .ro, 0x0⟩, ⟨"KEY_VALID", 3, 0, .ro, 0x0⟩]⟩,
  ⟨"REG_DUMP_STAT", 0x1230108, [], [⟨"DUMPS", 31, 16, .ro, 0x0⟩, ⟨"TRIGGER", 7, 5, .ro, 0x0⟩, ⟨"WRITING", 3, 3, .ro, 0x0⟩, ⟨"READ", 2, 2, .ro, 0x0⟩, ⟨"PRESENT", 0, 0, .ro, 0x0⟩]⟩,
  ⟨"REG_DUMP_CTRL", 0x123010C, [], [⟨"TRIGGER", 7, 5, .rw, 0x5⟩, ⟨"CLEAR", 1, 1, .wo, 0x0⟩, ⟨"FIRE", 0, 0, .wo, 0x0⟩]⟩]

/-- Registers of the MGT tables of spec/ (Table 2.16, Table 2.17, Table 2.18, Table 2.19, Table 2.20, Table 3.10, Table 3.11, Table 3.12, Table 3.7, Table 3.8, Table 3.9, Table 4.7). -/
def regsMgt0 : List RegDef := [
  ⟨"MGT_CTR_CTRL", 0x800, [], [⟨"SEQ", 31, 16, .ro, 0x0⟩, ⟨"PROBATION", 2, 2, .ro, 0x0⟩, ⟨"VALID", 1, 1, .ro, 0x0⟩, ⟨"SNAP", 0, 0, .wo, 0x0⟩]⟩,
  ⟨"MGT_CTR_OPEN", 0x804, [], [⟨"OPEN_PERIODIC", 24, 16, .ro, 0x0⟩, ⟨"OPEN_ONESHOT", 8, 0, .ro, 0x0⟩]⟩,
  ⟨"MGT_CTR_DONE", 0x808, [], [⟨"DONE", 31, 0, .ro, 0x0⟩]⟩,
  ⟨"MGT_CTR_BREACH", 0x80C, [], [⟨"CHARGED", 31, 16, .ro, 0x0⟩, ⟨"NOT_CHARGED", 15, 0, .ro, 0x0⟩]⟩,
  ⟨"MGT_CTR_REFUSED", 0x810, [], [⟨"REFUSED", 31, 0, .ro, 0x0⟩]⟩,
  ⟨"MGT_RINGn_BASE_LO", 0x100, [(2, 0x40)], [⟨"BASE_LO", 31, 12, .rw, 0x0⟩]⟩,
  ⟨"MGT_RINGn_BASE_HI", 0x104, [(2, 0x40)], [⟨"BASE_HI", 31, 0, .rw, 0x0⟩]⟩,
  ⟨"MGT_RINGn_CTRL", 0x108, [(2, 0x40)], [⟨"RESET", 2, 2, .wo, 0x0⟩, ⟨"IRQ_EN", 1, 1, .rw, 0x0⟩, ⟨"ENABLE", 0, 0, .rw, 0x0⟩]⟩,
  ⟨"MGT_RINGn_DB", 0x10C, [(2, 0x40)], [⟨"PI", 6, 0, .wo, 0x0⟩]⟩,
  ⟨"MGT_RINGn_PTR", 0x110, [(2, 0x40)], [⟨"RI", 22, 16, .ro, 0x0⟩, ⟨"CI", 14, 8, .ro, 0x0⟩, ⟨"PI", 6, 0, .ro, 0x0⟩]⟩,
  ⟨"MGT_RINGn_STATUS", 0x114, [(2, 0x40)], [⟨"FETCH_ERR", 3, 3, .w1c, 0x0⟩, ⟨"DB_OVERRUN", 2, 2, .w1c, 0x0⟩, ⟨"RESET_PENDING", 1, 1, .ro, 0x0⟩, ⟨"BUSY", 0, 0, .ro, 0x0⟩]⟩,
  ⟨"MGT_SES_CTRL", 0x820, [], [⟨"SEQ", 31, 16, .ro, 0x0⟩, ⟨"VALID", 1, 1, .ro, 0x0⟩, ⟨"SNAP", 0, 0, .wo, 0x0⟩]⟩]

/-- Registers of the MGT tables of spec/ (Table 4.8, Table 4.9). -/
def regsMgt1 : List RegDef := [
  ⟨"MGT_SES_COUNT", 0x824, [], [⟨"R1_PENDING", 15, 12, .ro, 0x0⟩, ⟨"R1_OPEN", 11, 8, .ro, 0x0⟩, ⟨"R0_PENDING", 7, 4, .ro, 0x0⟩, ⟨"R0_OPEN", 3, 0, .ro, 0x0⟩]⟩,
  ⟨"MGT_SES_AUTH", 0x828, [], [⟨"AUTH_FAILS", 31, 16, .ro, 0x0⟩, ⟨"R1_LOCKED", 1, 1, .ro, 0x0⟩, ⟨"R0_LOCKED", 0, 0, .ro, 0x0⟩]⟩]

/-- Registers of the EQ tables of spec/ (Table 6.11, Table 6.12, Table 6.13, Table 6.14, Table 6.15). -/
def regsEq0 : List RegDef := [
  ⟨"EQ_BASE_LO", 0x200, [(2, 0x40)], [⟨"BASE_LO", 31, 12, .rw, 0x0⟩]⟩,
  ⟨"EQ_BASE_HI", 0x204, [(2, 0x40)], [⟨"BASE_HI", 31, 0, .rw, 0x0⟩]⟩,
  ⟨"EQ_CTRL", 0x208, [(2, 0x40)], [⟨"SIZE", 7, 4, .rw, 0x0⟩, ⟨"IRQ_EN", 1, 1, .rw, 0x0⟩, ⟨"ENABLE", 0, 0, .rw, 0x0⟩]⟩,
  ⟨"EQ_RD", 0x20C, [(2, 0x40)], [⟨"RI", 12, 0, .rw, 0x0⟩]⟩,
  ⟨"EQ_PTR", 0x210, [(2, 0x40)], [⟨"RI", 28, 16, .ro, 0x0⟩, ⟨"WI", 12, 0, .ro, 0x0⟩]⟩,
  ⟨"EQ_STATUS", 0x214, [(2, 0x40)], [⟨"LOST", 31, 16, .ro, 0x0⟩, ⟨"BACKLOG", 9, 3, .ro, 0x0⟩, ⟨"OVERFLOW", 1, 1, .w1c, 0x0⟩, ⟨"RI_ERR", 0, 0, .w1c, 0x0⟩]⟩]

/-- Registers of the ISO tables of spec/ (Table 5.10, Table 5.11, Table 5.12, Table 5.13, Table 5.14, Table 5.15, Table 5.16, Table 5.9). -/
def regsIso0 : List RegDef := [
  ⟨"ISO_WHOAMI", 0x100000, [], [⟨"WORLD", 8, 8, .ro, 0x0⟩, ⟨"REQUESTER", 7, 0, .ro, 0x0⟩]⟩,
  ⟨"ISO_DBG", 0x100004, [], [⟨"BOOT_EN", 7, 4, .ro, 0x0⟩, ⟨"STEER_H", 3, 3, .w1c, 0x0⟩, ⟨"WATCH_H", 2, 2, .w1c, 0x0⟩, ⟨"STEER_M", 1, 1, .w1c, 0x0⟩, ⟨"WATCH_M", 0, 0, .w1c, 0x0⟩]⟩,
  ⟨"ISO_PORT", 0x100008, [], [⟨"HOLM_PORT", 3, 0, .ro, 0x1⟩]⟩,
  ⟨"ISO_CTRL", 0x10000C, [], [⟨"NOTICE_EN", 4, 4, .rw, 0x1⟩, ⟨"NOTICE_PF", 1, 0, .rw, 0x0⟩]⟩,
  ⟨"ISO_OWN_IDX", 0x100010, [], [⟨"CLASS", 15, 12, .rw, 0x0⟩, ⟨"INDEX", 11, 0, .rw, 0x0⟩]⟩,
  ⟨"ISO_OWN_DATA", 0x100014, [], [⟨"FIXED", 31, 31, .ro, 0x0⟩, ⟨"GRANTED", 15, 15, .pw, 0x0⟩, ⟨"FN", 13, 8, .pw, 0x0⟩, ⟨"WORLD", 0, 0, .pw, 0x1⟩]⟩,
  ⟨"ISO_OWN_DATA_N", 0x100018, [], []⟩,
  ⟨"ISO_OWN_STAT", 0x10001C, [], [⟨"REFUSED", 3, 3, .w1c, 0x0⟩, ⟨"INVALID", 2, 2, .w1c, 0x0⟩, ⟨"PENDING", 1, 1, .ro, 0x0⟩, ⟨"DONE", 0, 0, .w1c, 0x0⟩]⟩,
  ⟨"ISO_LOG_STAT", 0x100020, [], [⟨"LOST", 31, 16, .ro, 0x0⟩, ⟨"FIFO_LEVEL", 6, 0, .ro, 0x0⟩]⟩]

/-- Registers of the HIF tables of spec/ (Table 6.16, Table 6.17, Table 6.18, Table 6.19, Table 6.20, Table 6.21). -/
def regsHif0 : List RegDef := [
  ⟨"HIF_PORTCFG", 0x200000, [], [⟨"PF_PRESENT", 11, 8, .ro, 0x0⟩, ⟨"PORTMODE", 2, 0, .ro, 0x0⟩]⟩,
  ⟨"HIF_FN_PICK_LO", 0x200010, [], [⟨"LAYERS_LO", 31, 0, .rw, 0x0⟩]⟩,
  ⟨"HIF_FN_PICK_HI", 0x200014, [], [⟨"LAYERS_HI", 31, 0, .rw, 0x0⟩]⟩,
  ⟨"HIF_FN_PICK_SENSOR", 0x200018, [], [⟨"SENSORS", 7, 0, .rw, 0x0⟩]⟩,
  ⟨"HIF_FN_SEL", 0x200020, [], [⟨"FN", 5, 0, .rw, 0x0⟩]⟩,
  ⟨"HIF_FN_INFO", 0x200024, [], [⟨"DMA_CH", 29, 24, .ro, 0x0⟩, ⟨"LAYERS", 20, 16, .ro, 0x0⟩, ⟨"MSIX", 14, 8, .ro, 0x0⟩, ⟨"PORT", 5, 4, .ro, 0x0⟩, ⟨"STATE", 2, 0, .ro, 0x0⟩]⟩,
  ⟨"HIF_MSIX_POOL", 0x200028, [], [⟨"FREE", 11, 0, .ro, 0x0⟩]⟩]

/-- Registers of the VAT tables of spec/ (Table 7.12, Table 7.13, Table 7.14, Table 7.15). -/
def regsVat0 : List RegDef := [
  ⟨"VAT_ECC_CTRL", 0x300000, [], [⟨"SEQ", 31, 16, .ro, 0x0⟩, ⟨"VALID", 1, 1, .ro, 0x0⟩, ⟨"SNAP", 0, 0, .wo, 0x0⟩]⟩,
  ⟨"VAT_ECC_CNT", 0x300004, [], [⟨"CORRECTED", 31, 16, .ro, 0x0⟩, ⟨"UNCORRECTED", 15, 0, .ro, 0x0⟩]⟩,
  ⟨"VAT_ECC_LAST", 0x300008, [], [⟨"UE", 31, 31, .ro, 0x0⟩, ⟨"OFFSET", 25, 3, .ro, 0x0⟩]⟩,
  ⟨"VAT_LEASE_STAT", 0x300010, [], [⟨"PEAK", 26, 16, .ro, 0x0⟩, ⟨"IN_USE", 10, 0, .ro, 0x0⟩]⟩]

/-- Registers of the DRC tables of spec/ (Table 7.16, Table 7.17, Table 7.18, Table 7.19, Table 7.20). -/
def regsDrc0 : List RegDef := [
  ⟨"DRC_CFG", 0x400000, [], [⟨"DRB_CAP", 24, 16, .ro, 0x0⟩, ⟨"LINK_ECC", 6, 6, .ro, 0x0⟩, ⟨"DENSITY", 5, 4, .ro, 0x0⟩, ⟨"RANKS", 2, 2, .ro, 0x0⟩, ⟨"RATE", 1, 0, .ro, 0x0⟩]⟩,
  ⟨"DRC_POOL", 0x400004, [], [⟨"CLEARING", 31, 16, .ro, 0x0⟩, ⟨"FREE", 15, 0, .ro, 0x0⟩]⟩,
  ⟨"DRC_SR_STAT", 0x400008, [], [⟨"EXITS", 31, 16, .ro, 0x0⟩, ⟨"HELD", 1, 1, .ro, 0x0⟩, ⟨"IN_SR", 0, 0, .ro, 0x0⟩]⟩,
  ⟨"DRC_COn_BASE", 0x400100, [(16, 0x8)], [⟨"BASE", 13, 0, .rw, 0x0⟩]⟩,
  ⟨"DRC_COn_SIZE", 0x400104, [(16, 0x8)], [⟨"SIZE", 13, 0, .rw, 0x0⟩]⟩,
  ⟨"DRC_CO_LOCK", 0x400180, [], [⟨"LOCK", 0, 0, .rw, 0x0⟩]⟩]

/-- Registers of the GPX tables of spec/ (Table 8.12, Table 8.13, Table 8.14, Table 8.15, Table 8.16, Table 8.17, Table 9.10, Table 9.11, Table 9.12, Table 9.7, Table 9.8, Table 9.9). -/
def regsGpx0 : List RegDef := [
  ⟨"GPX_INFO", 0x800000, [], [⟨"SAMPLES_MAX", 31, 24, .ro, 0x4⟩, ⟨"TILE_SIZE", 23, 16, .ro, 0x20⟩, ⟨"LANES", 15, 8, .ro, 0x80⟩, ⟨"CORES", 4, 0, .ro, 0x10⟩]⟩,
  ⟨"GPX_CNT_CTRL", 0x800010, [], [⟨"SEQ", 31, 16, .ro, 0x0⟩, ⟨"VALID", 1, 1, .ro, 0x0⟩, ⟨"SNAP", 0, 0, .wo, 0x0⟩]⟩,
  ⟨"GPX_CNT_JOBS", 0x800014, [], [⟨"JOBS", 31, 0, .ro, 0x0⟩]⟩,
  ⟨"GPX_CNT_TILES", 0x800018, [], [⟨"TILES", 31, 0, .ro, 0x0⟩]⟩,
  ⟨"GPX_CNT_HSR", 0x80001C, [], [⟨"REMOVED", 31, 0, .ro, 0x0⟩]⟩,
  ⟨"GPX_CNT_FAULTS", 0x800020, [], [⟨"BIN_OVERFLOWS", 31, 16, .ro, 0x0⟩, ⟨"FAULTS", 15, 0, .ro, 0x0⟩]⟩,
  ⟨"GPX_SCHED_STAT", 0x800200, [], [⟨"LIVE", 29, 24, .ro, 0x0⟩, ⟨"SLOTS_FREE", 21, 16, .ro, 0x20⟩, ⟨"CLAIM_CORES", 10, 8, .ro, 0x3⟩, ⟨"IN_SECTION", 3, 0, .ro, 0x0⟩]⟩,
  ⟨"GPX_PRE_CTRL", 0x800210, [], [⟨"SEQ", 31, 16, .ro, 0x0⟩, ⟨"VALID", 1, 1, .ro, 0x0⟩, ⟨"SNAP", 0, 0, .wo, 0x0⟩]⟩,
  ⟨"GPX_PRE_COMP", 0x800214, [], [⟨"CLAIMS", 31, 0, .ro, 0x0⟩]⟩,
  ⟨"GPX_PRE_SWAP", 0x800218, [], [⟨"SWAPS", 31, 0, .ro, 0x0⟩]⟩,
  ⟨"GPX_PRE_WORST", 0x80021C, [], [⟨"SECTIONS_ENDED", 31, 16, .ro, 0x0⟩, ⟨"WORST", 9, 0, .ro, 0x0⟩]⟩,
  ⟨"GPX_SKIM_CNT", 0x800220, [], [⟨"STRIPS", 31, 0, .ro, 0x0⟩]⟩]

/-- Registers of the GPX tables of spec/ (Table 8.18). -/
def regsGpx1 : List RegDef := [
  ⟨"GPX_CORE_STATc", 0x800100, [(16, 0x4)], [⟨"FUNCTION", 23, 16, .ro, 0xFF⟩, ⟨"CLASS", 9, 8, .ro, 0x0⟩, ⟨"STATE", 3, 0, .ro, 0x0⟩]⟩]

/-- Registers of the TRV tables of spec/ (Table 10.10, Table 10.5, Table 10.6, Table 10.7, Table 10.8, Table 10.9). -/
def regsTrv0 : List RegDef := [
  ⟨"TRV_INFO", 0x900000, [], [⟨"STEP_CYCLES", 15, 8, .ro, 0xE⟩, ⟨"WIDTH", 7, 4, .ro, 0x8⟩, ⟨"ENGINES", 3, 0, .ro, 0x2⟩]⟩,
  ⟨"TRV_STAT", 0x900004, [], [⟨"QUEUED", 31, 24, .ro, 0x0⟩, ⟨"LAST_CLASS", 10, 8, .ro, 0x0⟩, ⟨"CLEAR_REFUSED", 3, 3, .w1c, 0x0⟩, ⟨"BUSY", 2, 2, .ro, 0x0⟩, ⟨"TRV_FAULT", 1, 1, .ro, 0x0⟩, ⟨"RASTER_FAULT", 0, 0, .ro, 0x0⟩]⟩,
  ⟨"TRV_CTRL", 0x900008, [], [⟨"CLEAR_TRV", 3, 3, .pw, 0x0⟩, ⟨"CLEAR_RASTER", 2, 2, .pw, 0x0⟩, ⟨"SET_TRV", 1, 1, .pw, 0x0⟩, ⟨"SET_RASTER", 0, 0, .pw, 0x0⟩]⟩,
  ⟨"TRV_CTRL_N", 0x90000C, [], []⟩,
  ⟨"TRV_ST_CTRL", 0x900010, [], [⟨"SEQ", 31, 16, .ro, 0x0⟩, ⟨"VALID", 1, 1, .ro, 0x0⟩, ⟨"SNAP", 0, 0, .wo, 0x0⟩]⟩,
  ⟨"TRV_ST_RASTER", 0x900014, [], [⟨"SIG", 31, 0, .ro, 0x0⟩]⟩,
  ⟨"TRV_ST_TRAV", 0x900018, [], [⟨"SIG", 31, 0, .ro, 0x0⟩]⟩,
  ⟨"TRV_ST_REF", 0x90001C, [], [⟨"SIG", 31, 0, .ro, 0x0⟩]⟩,
  ⟨"TRV_ARMn", 0x900100, [(8, 0x8)], [⟨"PENDING", 8, 8, .ro, 0x0⟩, ⟨"ARM_ERR", 7, 7, .w1c, 0x0⟩, ⟨"DISARMED_WRITE", 6, 6, .w1c, 0x0⟩, ⟨"ACTIVE", 5, 5, .ro, 0x0⟩, ⟨"ACTIVE_VALID", 4, 4, .ro, 0x0⟩, ⟨"ARMED_B", 3, 3, .ro, 0x0⟩, ⟨"ARMED_A", 2, 2, .ro, 0x0⟩, ⟨"ARM_B", 1, 1, .wo, 0x0⟩, ⟨"ARM_A", 0, 0, .wo, 0x0⟩]⟩,
  ⟨"TRV_RECn", 0x900104, [(8, 0x8)], [⟨"LIMIT_HITS", 31, 16, .ro, 0x0⟩, ⟨"RENDERS", 15, 0, .ro, 0x0⟩]⟩]

/-- Registers of the OP tables of spec/ (Table 11.10, Table 11.7, Table 11.8, Table 11.9). -/
def regsOp0 : List RegDef := [
  ⟨"OP_CTRL", 0xA00000, [(8, 0x10000)], [⟨"REGAMMA_EN", 11, 11, .sh, 0x0⟩, ⟨"LUT3D_EN", 10, 10, .sh, 0x0⟩, ⟨"CSC_EN", 9, 9, .sh, 0x0⟩, ⟨"DEGAMMA_EN", 8, 8, .sh, 0x0⟩, ⟨"ZORDER_EN", 5, 5, .sh, 0x0⟩, ⟨"DITHER", 3, 2, .sh, 0x2⟩, ⟨"PANEL_BPC", 1, 0, .sh, 0x1⟩]⟩,
  ⟨"OP_ZORDER", 0xA00004, [(8, 0x10000)], [⟨"POS", 23, 0, .sh, 0xFAC688⟩]⟩,
  ⟨"OP_BG", 0xA00008, [(8, 0x10000)], [⟨"R", 29, 20, .sh, 0x0⟩, ⟨"G", 19, 10, .sh, 0x0⟩, ⟨"B", 9, 0, .sh, 0x0⟩]⟩,
  ⟨"OP_WB_CTRL", 0xA0000C, [(8, 0x10000)], [⟨"WB_FORMAT", 15, 8, .sh, 0x1⟩, ⟨"WB_POINT", 2, 1, .sh, 0x0⟩, ⟨"WB_EN", 0, 0, .sh, 0x0⟩]⟩,
  ⟨"OP_WB_ADDR_LO", 0xA00010, [(8, 0x10000)], [⟨"ADDR_LO", 31, 6, .sh, 0x0⟩]⟩,
  ⟨"OP_WB_ADDR_HI", 0xA00014, [(8, 0x10000)], [⟨"ADDR_HI", 31, 0, .sh, 0x0⟩]⟩,
  ⟨"OP_WB_PITCH", 0xA00018, [(8, 0x10000)], [⟨"PITCH", 15, 0, .sh, 0x0⟩]⟩,
  ⟨"OP_WB_STAT", 0xA0001C, [(8, 0x10000)], [⟨"FRAMES", 31, 16, .ro, 0x0⟩, ⟨"DISCARDED", 1, 1, .w1c, 0x0⟩, ⟨"INCOMPLETE", 0, 0, .w1c, 0x0⟩]⟩,
  ⟨"OP_CSC_M0", 0xA00020, [(8, 0x10000)], [⟨"M01", 31, 16, .sh, 0x0⟩, ⟨"M00", 15, 0, .sh, 0x1000⟩]⟩,
  ⟨"OP_CSC_M1", 0xA00024, [(8, 0x10000)], [⟨"M10", 31, 16, .sh, 0x0⟩, ⟨"M02", 15, 0, .sh, 0x0⟩]⟩,
  ⟨"OP_CSC_M2", 0xA00028, [(8, 0x10000)], [⟨"M12", 31, 16, .sh, 0x0⟩, ⟨"M11", 15, 0, .sh, 0x1000⟩]⟩,
  ⟨"OP_CSC_M3", 0xA0002C, [(8, 0x10000)], [⟨"M21", 31, 16, .sh, 0x0⟩, ⟨"M20", 15, 0, .sh, 0x0⟩]⟩]

/-- Registers of the OP tables of spec/ (Table 11.10, Table 11.11). -/
def regsOp1 : List RegDef := [
  ⟨"OP_CSC_M4", 0xA00030, [(8, 0x10000)], [⟨"M22", 15, 0, .sh, 0x1000⟩]⟩,
  ⟨"OP_CSC_OFF0", 0xA00034, [(8, 0x10000)], [⟨"O1", 28, 16, .sh, 0x0⟩, ⟨"O0", 12, 0, .sh, 0x0⟩]⟩,
  ⟨"OP_CSC_OFF1", 0xA00038, [(8, 0x10000)], [⟨"O2", 12, 0, .sh, 0x0⟩]⟩,
  ⟨"OP_LUT_IDX", 0xA00040, [(8, 0x10000)], [⟨"TABLE", 17, 16, .rw, 0x0⟩, ⟨"INDEX", 12, 0, .rw, 0x0⟩]⟩,
  ⟨"OP_LUT_DATA0", 0xA00044, [(8, 0x10000)], [⟨"G", 23, 12, .sh, 0x0⟩, ⟨"R", 11, 0, .sh, 0x0⟩]⟩,
  ⟨"OP_LUT_DATA1", 0xA00048, [(8, 0x10000)], [⟨"B", 11, 0, .sh, 0x0⟩]⟩,
  ⟨"OP_STAT", 0xA00050, [(8, 0x10000)], [⟨"SCALERS", 3, 0, .ro, 0x0⟩]⟩]

/-- Registers of the Lx tables of spec/ (Table 11.13, Table 11.14, Table 11.15). -/
def regsLx0 : List RegDef := [
  ⟨"Lx_CTRL", 0xA01000, [(8, 0x10000), (9, 0x400)], [⟨"PLANE_ALPHA", 31, 24, .sh, 0xFF⟩, ⟨"ALPHA_MODE", 9, 8, .sh, 0x0⟩, ⟨"VIN", 5, 4, .sh, 0x0⟩, ⟨"SOURCE", 1, 1, .sh, 0x0⟩, ⟨"ENABLE", 0, 0, .sh, 0x0⟩]⟩,
  ⟨"Lx_FORMAT", 0xA01004, [(8, 0x10000), (9, 0x400)], [⟨"SITING_V", 9, 9, .sh, 0x0⟩, ⟨"SITING_H", 8, 8, .sh, 0x0⟩, ⟨"FORMAT", 7, 0, .sh, 0x1⟩]⟩,
  ⟨"Lx_ADDRp_LO", 0xA01008, [(8, 0x10000), (9, 0x400), (3, 0x8)], [⟨"ADDR_LO", 31, 6, .sh, 0x0⟩]⟩,
  ⟨"Lx_ADDRp_HI", 0xA0100C, [(8, 0x10000), (9, 0x400), (3, 0x8)], [⟨"ADDR_HI", 31, 0, .sh, 0x0⟩]⟩,
  ⟨"Lx_PITCHp", 0xA01020, [(8, 0x10000), (9, 0x400), (3, 0x4)], [⟨"PITCH", 15, 0, .sh, 0x0⟩]⟩,
  ⟨"Lx_SRC_POS", 0xA01030, [(8, 0x10000), (9, 0x400)], [⟨"Y", 31, 16, .sh, 0x0⟩, ⟨"X", 15, 0, .sh, 0x0⟩]⟩,
  ⟨"Lx_SRC_SIZE", 0xA01034, [(8, 0x10000), (9, 0x400)], [⟨"H", 31, 16, .sh, 0x0⟩, ⟨"W", 15, 0, .sh, 0x0⟩]⟩,
  ⟨"Lx_DST_POS", 0xA01038, [(8, 0x10000), (9, 0x400)], [⟨"Y", 31, 16, .sh, 0x0⟩, ⟨"X", 15, 0, .sh, 0x0⟩]⟩,
  ⟨"Lx_DST_SIZE", 0xA0103C, [(8, 0x10000), (9, 0x400)], [⟨"H", 31, 16, .sh, 0x0⟩, ⟨"W", 15, 0, .sh, 0x0⟩]⟩,
  ⟨"Lx_FALLBACK", 0xA01040, [(8, 0x10000), (9, 0x400)], [⟨"R", 29, 20, .sh, 0x0⟩, ⟨"G", 19, 10, .sh, 0x0⟩, ⟨"B", 9, 0, .sh, 0x0⟩]⟩,
  ⟨"Lx_BIND", 0xA01044, [(8, 0x10000), (9, 0x400)], [⟨"CONTRACT_ID", 31, 0, .sh, 0x0⟩]⟩,
  ⟨"Lx_CSC_M0", 0xA01060, [(8, 0x10000), (9, 0x400)], [⟨"M01", 31, 16, .sh, 0x0⟩, ⟨"M00", 15, 0, .sh, 0x12AF⟩]⟩]

/-- Registers of the Lx tables of spec/ (Table 11.15, Table 11.16). -/
def regsLx1 : List RegDef := [
  ⟨"Lx_CSC_M1", 0xA01064, [(8, 0x10000), (9, 0x400)], [⟨"M10", 31, 16, .sh, 0x12AF⟩, ⟨"M02", 15, 0, .sh, 0x1CC5⟩]⟩,
  ⟨"Lx_CSC_M2", 0xA01068, [(8, 0x10000), (9, 0x400)], [⟨"M12", 31, 16, .sh, 0xF773⟩, ⟨"M11", 15, 0, .sh, 0xFC94⟩]⟩,
  ⟨"Lx_CSC_M3", 0xA0106C, [(8, 0x10000), (9, 0x400)], [⟨"M21", 31, 16, .sh, 0x21E6⟩, ⟨"M20", 15, 0, .sh, 0x12AF⟩]⟩,
  ⟨"Lx_CSC_M4", 0xA01070, [(8, 0x10000), (9, 0x400)], [⟨"M22", 15, 0, .sh, 0x0⟩]⟩,
  ⟨"Lx_CSC_OFF", 0xA01074, [(8, 0x10000), (9, 0x400)], [⟨"O2", 29, 20, .sh, 0x200⟩, ⟨"O1", 19, 10, .sh, 0x200⟩, ⟨"O0", 9, 0, .sh, 0x40⟩]⟩,
  ⟨"Lx_VIEW_SX", 0xA01080, [(8, 0x10000), (9, 0x400)], [⟨"SX", 31, 0, .rw, 0x0⟩]⟩,
  ⟨"Lx_VIEW_SY", 0xA01084, [(8, 0x10000), (9, 0x400)], [⟨"SY", 31, 0, .rw, 0x0⟩]⟩,
  ⟨"Lx_VIEW_TX", 0xA01088, [(8, 0x10000), (9, 0x400)], [⟨"TX", 31, 0, .rw, 0x0⟩]⟩,
  ⟨"Lx_VIEW_TY", 0xA0108C, [(8, 0x10000), (9, 0x400)], [⟨"TY", 31, 0, .rw, 0x0⟩]⟩,
  ⟨"Lx_VIEW_P00", 0xA01090, [(8, 0x10000), (9, 0x400)], [⟨"P00", 31, 0, .rw, 0x10000⟩]⟩,
  ⟨"Lx_VIEW_P01", 0xA01094, [(8, 0x10000), (9, 0x400)], [⟨"P01", 31, 0, .rw, 0x0⟩]⟩,
  ⟨"Lx_VIEW_P10", 0xA01098, [(8, 0x10000), (9, 0x400)], [⟨"P10", 31, 0, .rw, 0x0⟩]⟩]

/-- Registers of the Lx tables of spec/ (Table 11.16, Table 11.17, Table 11.18). -/
def regsLx2 : List RegDef := [
  ⟨"Lx_VIEW_P11", 0xA0109C, [(8, 0x10000), (9, 0x400)], [⟨"P11", 31, 0, .rw, 0x10000⟩]⟩,
  ⟨"Lx_VIEW_APPLY", 0xA010A0, [(8, 0x10000), (9, 0x400)], [⟨"APPLY", 0, 0, .wo, 0x0⟩]⟩,
  ⟨"Lx_VIEW_STAT", 0xA010A4, [(8, 0x10000), (9, 0x400)], [⟨"APPLIED", 15, 0, .ro, 0x0⟩]⟩,
  ⟨"Lx_COEF_IDX", 0xA01100, [(8, 0x10000), (9, 0x400)], [⟨"INDEX", 8, 0, .rw, 0x0⟩]⟩,
  ⟨"Lx_COEF_DATA", 0xA01104, [(8, 0x10000), (9, 0x400)], [⟨"ODD", 25, 16, .sh, 0x0⟩, ⟨"EVEN", 9, 0, .sh, 0x0⟩]⟩,
  ⟨"Lx_PAL_IDX", 0xA01108, [(8, 0x10000), (9, 0x400)], [⟨"INDEX", 7, 0, .rw, 0x0⟩]⟩,
  ⟨"Lx_PAL_DATA", 0xA0110C, [(8, 0x10000), (9, 0x400)], [⟨"ENTRY", 31, 0, .sh, 0x0⟩]⟩,
  ⟨"Lx_STAT", 0xA01110, [(8, 0x10000), (9, 0x400)], [⟨"SCALED", 7, 7, .ro, 0x0⟩, ⟨"PAIRED", 6, 6, .ro, 0x0⟩, ⟨"SCALER", 5, 4, .ro, 0x0⟩, ⟨"VIN_STALE", 2, 2, .w1c, 0x0⟩, ⟨"SKIMMED", 1, 1, .w1c, 0x0⟩, ⟨"FALLBACK", 0, 0, .w1c, 0x0⟩]⟩]

/-- Registers of the VIN tables of spec/ (Table 11.19). -/
def regsVin0 : List RegDef := [
  ⟨"VIN_CTRL", 0xB80000, [(4, 0x1000)], [⟨"CAPFMT", 15, 8, .rw, 0x1⟩, ⟨"HOLD_FRAMES", 7, 4, .rw, 0x2⟩, ⟨"ENABLE", 0, 0, .rw, 0x0⟩]⟩,
  ⟨"VIN_LIMIT0", 0xB80004, [(4, 0x1000)], [⟨"MAX_H", 31, 16, .rw, 0x0⟩, ⟨"MAX_W", 15, 0, .rw, 0x0⟩]⟩,
  ⟨"VIN_LIMIT1", 0xB80008, [(4, 0x1000)], [⟨"MAX_RATE", 7, 0, .rw, 0x3C⟩]⟩,
  ⟨"VIN_PITCH", 0xB8000C, [(4, 0x1000)], [⟨"PITCH", 15, 0, .rw, 0x0⟩]⟩,
  ⟨"VIN_BUFk_LO", 0xB80010, [(4, 0x1000), (4, 0x8)], [⟨"ADDR_LO", 31, 6, .rw, 0x0⟩]⟩,
  ⟨"VIN_BUFk_HI", 0xB80014, [(4, 0x1000), (4, 0x8)], [⟨"ADDR_HI", 31, 0, .rw, 0x0⟩]⟩,
  ⟨"VIN_STAT", 0xB80030, [(4, 0x1000)], [⟨"OVER_LIMIT", 7, 7, .w1c, 0x0⟩, ⟨"FMT_MISMATCH", 6, 6, .w1c, 0x0⟩, ⟨"NEWEST", 5, 4, .ro, 0x0⟩, ⟨"NEWEST_VALID", 3, 3, .ro, 0x0⟩, ⟨"KIND", 2, 1, .ro, 0x3⟩, ⟨"SIGNAL", 0, 0, .ro, 0x0⟩]⟩,
  ⟨"VIN_SNAP_CTRL", 0xB80040, [(4, 0x1000)], [⟨"SEQ", 31, 16, .ro, 0x0⟩, ⟨"VALID", 1, 1, .ro, 0x0⟩, ⟨"SNAP", 0, 0, .wo, 0x0⟩]⟩,
  ⟨"VIN_DET", 0xB80044, [(4, 0x1000)], [⟨"HEIGHT", 31, 16, .ro, 0x0⟩, ⟨"WIDTH", 15, 0, .ro, 0x0⟩]⟩,
  ⟨"VIN_PERIOD", 0xB80048, [(4, 0x1000)], [⟨"PERIOD", 31, 0, .ro, 0x0⟩]⟩,
  ⟨"VIN_CNT", 0xB8004C, [(4, 0x1000)], [⟨"FRAMES", 31, 16, .ro, 0x0⟩, ⟨"DROPPED", 15, 0, .ro, 0x0⟩]⟩]

/-- Registers of the TG tables of spec/ (Table 12.10, Table 12.11, Table 12.12, Table 12.9). -/
def regsTg0 : List RegDef := [
  ⟨"TG_CTRL", 0xB00000, [(8, 0x1000)], [⟨"VS_POL", 12, 12, .sh, 0x1⟩, ⟨"HS_POL", 11, 11, .sh, 0x1⟩, ⟨"ALIGN_SRC", 10, 8, .sh, 0x0⟩, ⟨"ALIGN_EN", 7, 7, .sh, 0x0⟩, ⟨"QDEPTH", 4, 4, .sh, 0x0⟩, ⟨"MODE", 3, 3, .sh, 0x1⟩, ⟨"KIND", 1, 1, .sh, 0x0⟩, ⟨"ENABLE", 0, 0, .sh, 0x0⟩]⟩,
  ⟨"TG_H0", 0xB00004, [(8, 0x1000)], [⟨"H_TOTAL", 31, 16, .sh, 0x0⟩, ⟨"H_ACTIVE", 15, 0, .sh, 0x0⟩]⟩,
  ⟨"TG_H1", 0xB00008, [(8, 0x1000)], [⟨"HS_END", 31, 16, .sh, 0x0⟩, ⟨"HS_START", 15, 0, .sh, 0x0⟩]⟩,
  ⟨"TG_V0", 0xB0000C, [(8, 0x1000)], [⟨"V_TOTAL", 31, 16, .sh, 0x0⟩, ⟨"V_ACTIVE", 15, 0, .sh, 0x0⟩]⟩,
  ⟨"TG_V1", 0xB00010, [(8, 0x1000)], [⟨"VS_END", 31, 16, .sh, 0x0⟩, ⟨"VS_START", 15, 0, .sh, 0x0⟩]⟩,
  ⟨"TG_PCLK", 0xB00014, [(8, 0x1000)], [⟨"PCLK_HZ", 31, 0, .sh, 0x0⟩]⟩,
  ⟨"TG_START_LO", 0xB00018, [(8, 0x1000)], [⟨"START_LO", 31, 0, .sh, 0x0⟩]⟩,
  ⟨"TG_START_HI", 0xB0001C, [(8, 0x1000)], [⟨"START_HI", 31, 0, .sh, 0x0⟩]⟩,
  ⟨"TG_UFLOW", 0xB00020, [(8, 0x1000)], [⟨"R", 29, 20, .sh, 0x0⟩, ⟨"G", 19, 10, .sh, 0x0⟩, ⟨"B", 9, 0, .sh, 0x0⟩]⟩,
  ⟨"TG_CMD", 0xB00024, [(8, 0x1000)], [⟨"FULL_EVERY", 23, 16, .sh, 0x0⟩, ⟨"ALIGN_Y", 6, 4, .sh, 0x3⟩, ⟨"ALIGN_X", 2, 0, .sh, 0x3⟩]⟩,
  ⟨"TG_CUR0", 0xB00028, [(8, 0x1000)], [⟨"CUR_EN", 8, 8, .sh, 0x0⟩, ⟨"SENSOR", 6, 4, .sh, 0x0⟩, ⟨"CUR_LAYER", 2, 0, .sh, 0x0⟩]⟩,
  ⟨"TG_CUR_SX", 0xB0002C, [(8, 0x1000)], [⟨"SX", 31, 0, .sh, 0x10000⟩]⟩]

/-- Registers of the TG tables of spec/ (Table 12.12, Table 12.13, Table 12.14). -/
def regsTg1 : List RegDef := [
  ⟨"TG_CUR_SY", 0xB00030, [(8, 0x1000)], [⟨"SY", 31, 0, .sh, 0x10000⟩]⟩,
  ⟨"TG_CUR_OFF", 0xB00034, [(8, 0x1000)], [⟨"OFF_Y", 31, 16, .sh, 0x0⟩, ⟨"OFF_X", 15, 0, .sh, 0x0⟩]⟩,
  ⟨"TG_CMT", 0xB00040, [(8, 0x1000)], [⟨"ANY", 1, 1, .ro, 0x0⟩, ⟨"COMMIT", 0, 0, .ro, 0x0⟩]⟩,
  ⟨"TG_COMMIT_FRAME", 0xB00044, [(8, 0x1000)], [⟨"FRAME", 31, 0, .ro, 0xFFFFFFFF⟩]⟩,
  ⟨"TG_COMMIT_AT_LO", 0xB00048, [(8, 0x1000)], [⟨"AT_LO", 31, 0, .ro, 0x0⟩]⟩,
  ⟨"TG_COMMIT_AT_HI", 0xB0004C, [(8, 0x1000)], [⟨"AT_HI", 31, 0, .ro, 0x0⟩]⟩,
  ⟨"TG_SNAP_CTRL", 0xB00050, [(8, 0x1000)], [⟨"SEQ", 31, 16, .ro, 0x0⟩, ⟨"VALID", 1, 1, .ro, 0x0⟩, ⟨"SNAP", 0, 0, .wo, 0x0⟩]⟩,
  ⟨"TG_FRAME", 0xB00054, [(8, 0x1000)], [⟨"FRAME", 31, 0, .ro, 0x0⟩]⟩,
  ⟨"TG_LATCH_LO", 0xB00058, [(8, 0x1000)], [⟨"STAMP_LO", 31, 0, .ro, 0x0⟩]⟩,
  ⟨"TG_LATCH_HI", 0xB0005C, [(8, 0x1000)], [⟨"STAMP_HI", 31, 0, .ro, 0x0⟩]⟩,
  ⟨"TG_POS", 0xB00060, [(8, 0x1000)], [⟨"LINE", 31, 16, .ro, 0x0⟩, ⟨"PIXEL", 15, 0, .ro, 0x0⟩]⟩,
  ⟨"TG_URUN", 0xB00064, [(8, 0x1000)], [⟨"COUNT", 31, 16, .ro, 0x0⟩, ⟨"STRIP", 8, 0, .ro, 0x0⟩]⟩]

/-- Registers of the TG tables of spec/ (Table 12.14, Table 12.15). -/
def regsTg2 : List RegDef := [
  ⟨"TG_URUN_LO", 0xB00068, [(8, 0x1000)], [⟨"STAMP_LO", 31, 0, .ro, 0x0⟩]⟩,
  ⟨"TG_URUN_HI", 0xB0006C, [(8, 0x1000)], [⟨"STAMP_HI", 31, 0, .ro, 0x0⟩]⟩,
  ⟨"TG_STAT", 0xB00070, [(8, 0x1000)], [⟨"LINK", 7, 6, .ro, 0x0⟩, ⟨"REVERIFY", 5, 5, .ro, 0x0⟩, ⟨"IDLE", 4, 4, .ro, 0x1⟩, ⟨"SHADOW_REFUSED", 3, 3, .w1c, 0x0⟩, ⟨"ALIGN_FAILED", 2, 2, .w1c, 0x0⟩, ⟨"START_MISSED", 1, 1, .w1c, 0x0⟩, ⟨"RUNNING", 0, 0, .ro, 0x0⟩]⟩]

/-- Registers of the CRL tables of spec/ (Table 13.10, Table 13.11, Table 13.12, Table 13.13, Table 13.9). -/
def regsCrl0 : List RegDef := [
  ⟨"CRL_CTRL", 0xC00000, [(8, 0x1000)], [⟨"POLICY", 1, 0, .sh, 0x0⟩]⟩,
  ⟨"CRL_RIND", 0xC00004, [(8, 0x1000)], [⟨"R", 29, 20, .sh, 0x0⟩, ⟨"G", 19, 10, .sh, 0x0⟩, ⟨"B", 9, 0, .sh, 0x0⟩]⟩,
  ⟨"CRL_REGEN", 0xC00008, [(8, 0x1000)], [⟨"EN", 15, 0, .sh, 0x0⟩]⟩,
  ⟨"CRL_STAT", 0xC0000C, [(8, 0x1000)], [⟨"BLANKED", 31, 16, .ro, 0x0⟩, ⟨"FAILS", 11, 8, .ro, 0x0⟩, ⟨"NOSCENE", 7, 7, .ro, 0x0⟩, ⟨"HOLD_PENDING", 6, 6, .ro, 0x0⟩, ⟨"FLIP_PENDING", 5, 5, .ro, 0x0⟩, ⟨"FRONT", 4, 4, .ro, 0x0⟩, ⟨"VERIFIED", 3, 3, .ro, 0x0⟩, ⟨"STATE", 1, 0, .ro, 0x0⟩]⟩,
  ⟨"CRL_RECOVER", 0xC00010, [(8, 0x1000)], [⟨"RECOVER", 0, 0, .pw, 0x0⟩]⟩,
  ⟨"CRL_RECOVER_N", 0xC00014, [(8, 0x1000)], []⟩,
  ⟨"CRL_Rr_POS", 0xC00020, [(8, 0x1000), (16, 0x10)], [⟨"Y", 31, 16, .sh, 0x0⟩, ⟨"X", 15, 0, .sh, 0x0⟩]⟩,
  ⟨"CRL_Rr_SIZE", 0xC00024, [(8, 0x1000), (16, 0x10)], [⟨"H", 31, 16, .sh, 0x0⟩, ⟨"W", 15, 0, .sh, 0x0⟩]⟩,
  ⟨"CRL_Rr_BUF", 0xC00028, [(8, 0x1000), (16, 0x10)], [⟨"OFF", 20, 6, .sh, 0x0⟩]⟩,
  ⟨"CRL_Rr_CFG", 0xC0002C, [(8, 0x1000), (16, 0x10)], [⟨"RIND_W", 22, 16, .sh, 0x1⟩, ⟨"PITCH", 13, 6, .sh, 0x0⟩]⟩,
  ⟨"CRL_PAL_IDX", 0xC00200, [(8, 0x1000)], [⟨"INDEX", 7, 0, .rw, 0x0⟩]⟩,
  ⟨"CRL_PAL_DATA", 0xC00204, [(8, 0x1000)], [⟨"RGB", 29, 0, .sh, 0x0⟩]⟩]

/-- Registers of the CRL tables of spec/ (Table 13.13, Table 13.14, Table 13.15). -/
def regsCrl1 : List RegDef := [
  ⟨"CRL_LUT_IDX", 0xC00208, [(8, 0x1000)], [⟨"TABLE", 17, 16, .rw, 0x0⟩, ⟨"INDEX", 9, 0, .rw, 0x0⟩]⟩,
  ⟨"CRL_LUT_DATA", 0xC0020C, [(8, 0x1000)], [⟨"VALUE", 9, 0, .sh, 0x0⟩]⟩,
  ⟨"CRL_SNAP_CTRL", 0xC00300, [(8, 0x1000)], [⟨"SEQ", 31, 16, .ro, 0x0⟩, ⟨"VALID", 1, 1, .ro, 0x0⟩, ⟨"SNAP", 0, 0, .wo, 0x0⟩]⟩,
  ⟨"CRL_LAST_FRAME", 0xC00304, [(8, 0x1000)], [⟨"FRAME", 31, 0, .ro, 0x0⟩]⟩,
  ⟨"CRL_LAST_DIGEST", 0xC00308, [(8, 0x1000)], [⟨"DIGEST", 31, 0, .ro, 0x0⟩]⟩,
  ⟨"CRL_LAST_MM", 0xC0030C, [(8, 0x1000)], [⟨"MISMATCHES", 31, 0, .ro, 0x0⟩]⟩,
  ⟨"CRL_LAST_TILE", 0xC00310, [(8, 0x1000)], [⟨"VALID", 31, 31, .ro, 0x0⟩, ⟨"TILE", 16, 0, .ro, 0x0⟩]⟩,
  ⟨"CRL_MM_TOTAL", 0xC00314, [(8, 0x1000)], [⟨"TOTAL", 31, 0, .ro, 0x0⟩]⟩,
  ⟨"CRL_EV_CTRL", 0xC08000, [], [⟨"MODE", 8, 8, .rw, 0x0⟩, ⟨"EVENT_PF", 1, 0, .rw, 0x0⟩]⟩,
  ⟨"CRL_EV_STAT", 0xC08004, [], [⟨"LOST", 31, 16, .ro, 0x0⟩, ⟨"NEXT", 13, 0, .ro, 0x0⟩]⟩]

/-- Registers of the LNK tables of spec/ (Table 14.10, Table 14.11, Table 14.12, Table 14.13, Table 14.8, Table 14.9, Table 22.7). -/
def regsLnk0 : List RegDef := [
  ⟨"LNK_TXg_CFG", 0xD00000, [(8, 0x100)], [⟨"DSI_MBPS", 27, 16, .sh, 0x0⟩, ⟨"FALLBACK_EN", 15, 15, .sh, 0x1⟩, ⟨"SSC", 14, 14, .sh, 0x0⟩, ⟨"DSI_CMD", 13, 13, .sh, 0x0⟩, ⟨"SU_EN", 12, 12, .sh, 0x0⟩, ⟨"RATE", 10, 8, .sh, 0x7⟩, ⟨"LANES", 6, 4, .sh, 0x4⟩, ⟨"PROTO", 1, 0, .sh, 0x0⟩]⟩,
  ⟨"LNK_TXg_STAT", 0xD00004, [(8, 0x100)], [⟨"RETRAINS", 31, 16, .ro, 0x0⟩, ⟨"RATE", 10, 8, .ro, 0x0⟩, ⟨"LANES", 6, 4, .ro, 0x0⟩, ⟨"HPD", 3, 3, .ro, 0x0⟩, ⟨"STATE", 1, 0, .ro, 0x0⟩]⟩,
  ⟨"LNK_TXg_SB_CTRL", 0xD00008, [(8, 0x100)], [⟨"START", 31, 31, .wo, 0x0⟩, ⟨"CMD", 30, 28, .rw, 0x0⟩, ⟨"LEN", 27, 23, .rw, 0x1⟩, ⟨"ADDR", 19, 0, .rw, 0x0⟩]⟩,
  ⟨"LNK_TXg_SB_STAT", 0xD0000C, [(8, 0x100)], [⟨"COUNT", 15, 8, .ro, 0x0⟩, ⟨"RESULT", 3, 1, .ro, 0x0⟩, ⟨"BUSY", 0, 0, .ro, 0x0⟩]⟩,
  ⟨"LNK_TXg_SB_DATAi", 0xD00010, [(8, 0x100), (4, 0x4)], [⟨"DATA", 31, 0, .rw, 0x0⟩]⟩,
  ⟨"LNK_TXg_PANEL", 0xD00020, [(8, 0x100)], [⟨"BL_AUTO", 2, 2, .rw, 0x0⟩, ⟨"BLEN", 1, 1, .rw, 0x0⟩, ⟨"PPEN", 0, 0, .rw, 0x0⟩]⟩,
  ⟨"LNK_PCIEp_STAT", 0xD00800, [(4, 0x40)], [⟨"RECOVERIES", 31, 16, .ro, 0x0⟩, ⟨"WIDTH", 12, 8, .ro, 0x0⟩, ⟨"SPEED", 6, 4, .ro, 0x0⟩, ⟨"REVERSED", 3, 3, .ro, 0x0⟩, ⟨"PERST", 2, 2, .ro, 0x0⟩, ⟨"LINK_UP", 0, 0, .ro, 0x0⟩]⟩,
  ⟨"LNK_RXn_CFG", 0xD00C00, [(4, 0x100)], [⟨"HPD_EN", 8, 8, .rw, 0x0⟩, ⟨"MAX_LANES", 6, 4, .rw, 0x4⟩, ⟨"MAX_RATE", 1, 0, .rw, 0x2⟩]⟩,
  ⟨"LNK_RXn_STAT", 0xD00C04, [(4, 0x100)], [⟨"SYMBOL_ERRS", 31, 16, .ro, 0x0⟩, ⟨"RATE", 9, 8, .ro, 0x0⟩, ⟨"LANES", 6, 4, .ro, 0x0⟩, ⟨"STATE", 1, 0, .ro, 0x0⟩]⟩,
  ⟨"LNK_RXn_EDID_IDX", 0xD00C08, [(4, 0x100)], [⟨"INDEX", 5, 0, .rw, 0x0⟩]⟩,
  ⟨"LNK_RXn_EDID_DATA", 0xD00C0C, [(4, 0x100)], [⟨"DATA", 31, 0, .rw, 0x0⟩]⟩,
  ⟨"LNK_STRAIT_SEL", 0xD01000, [], [⟨"ID", 7, 0, .rw, 0x0⟩]⟩]

/-- Registers of the LNK tables of spec/ (Table 14.13). -/
def regsLnk1 : List RegDef := [
  ⟨"LNK_STRAIT_CNT", 0xD01004, [], [⟨"ERRORS", 31, 0, .ro, 0x0⟩]⟩]

/-- Registers of the TCH tables of spec/ (Table 15.5, Table 15.6). -/
def regsTch0 : List RegDef := [
  ⟨"TCH_INFO", 0xE00000, [], [⟨"REGIONS", 31, 24, .ro, 0x20⟩, ⟨"SENSORS", 23, 16, .ro, 0x8⟩, ⟨"CHANNELS", 15, 0, .ro, 0x100⟩]⟩,
  ⟨"TCH_CTRL", 0xE00004, [], [⟨"EVENT_PF", 1, 0, .rw, 0x0⟩]⟩,
  ⟨"TCH_Sk_CTRL", 0xE01000, [(8, 0x400)], [⟨"LP_EN", 2, 2, .rw, 0x0⟩, ⟨"KIND", 1, 1, .rw, 0x0⟩, ⟨"ENABLE", 0, 0, .rw, 0x0⟩]⟩,
  ⟨"TCH_Sk_GEOM", 0xE01004, [(8, 0x400)], [⟨"ROWS", 23, 16, .rw, 0x0⟩, ⟨"COLS", 15, 8, .rw, 0x0⟩, ⟨"FIRST", 7, 0, .rw, 0x0⟩]⟩,
  ⟨"TCH_Sk_MEAS", 0xE01008, [(8, 0x400)], [⟨"MAX_COUNT", 31, 20, .rw, 0x7FF⟩, ⟨"SAMPLES", 18, 16, .rw, 0x1⟩, ⟨"XFER", 13, 8, .rw, 0x8⟩, ⟨"CINT", 2, 0, .rw, 0x6⟩]⟩,
  ⟨"TCH_Sk_PERIOD", 0xE0100C, [(8, 0x400)], [⟨"GANG", 25, 24, .rw, 0x1⟩, ⟨"LP_PERIOD", 23, 16, .rw, 0x32⟩, ⟨"PERIOD", 15, 0, .rw, 0x411B⟩]⟩,
  ⟨"TCH_Sk_THR", 0xE01010, [(8, 0x400)], [⟨"T_OFF", 27, 16, .rw, 0x19⟩, ⟨"T_ON", 11, 0, .rw, 0x32⟩]⟩,
  ⟨"TCH_Sk_THR2", 0xE01014, [(8, 0x400)], [⟨"PROF_TOL", 31, 24, .rw, 0x20⟩, ⟨"PALM_W", 19, 16, .rw, 0x6⟩, ⟨"LP_WAKE", 11, 0, .rw, 0x32⟩]⟩,
  ⟨"TCH_Sk_DEB", 0xE01018, [(8, 0x400)], [⟨"DEB_OFF", 31, 16, .rw, 0x0⟩, ⟨"DEB_ON", 15, 0, .rw, 0x0⟩]⟩,
  ⟨"TCH_Sk_TRACK", 0xE0101C, [(8, 0x400)], [⟨"TRACK_MAX", 31, 16, .rw, 0x1000⟩, ⟨"STAT_RADIUS", 15, 8, .rw, 0x40⟩, ⟨"ADAPT_SCANS", 7, 0, .rw, 0x10⟩]⟩,
  ⟨"TCH_Sk_TIME", 0xE01020, [(8, 0x400)], [⟨"STUCK_TIME", 31, 16, .rw, 0x0⟩, ⟨"STAT_TIME", 15, 0, .rw, 0x3E8⟩]⟩,
  ⟨"TCH_Sk_IDLE", 0xE01024, [(8, 0x400)], [⟨"LP_IDLE", 15, 0, .rw, 0x3C⟩]⟩]

/-- Registers of the TCH tables of spec/ (Table 15.7, Table 15.8). -/
def regsTch1 : List RegDef := [
  ⟨"TCH_Sk_STAT", 0xE01028, [(8, 0x400)], [⟨"UNROUTED", 31, 24, .ro, 0x0⟩, ⟨"OVERRANGE", 23, 16, .ro, 0x0⟩, ⟨"SKIPPED", 14, 14, .w1c, 0x0⟩, ⟨"PROF_RESULT", 13, 12, .ro, 0x0⟩, ⟨"CFG_ERR", 11, 8, .ro, 0x0⟩, ⟨"CONTACTS", 5, 4, .ro, 0x0⟩, ⟨"STATE", 2, 0, .ro, 0x0⟩]⟩,
  ⟨"TCH_Sk_PROF", 0xE0102C, [(8, 0x400)], [⟨"VALID", 31, 31, .ro, 0x0⟩]⟩,
  ⟨"TCH_Sk_PROF_CRC", 0xE01030, [(8, 0x400)], [⟨"CRC", 31, 0, .ro, 0x0⟩]⟩,
  ⟨"TCH_Sk_SNAP_CTRL", 0xE01040, [(8, 0x400)], [⟨"SEQ", 31, 16, .ro, 0x0⟩, ⟨"VALID", 1, 1, .ro, 0x0⟩, ⟨"SNAP", 0, 0, .wo, 0x0⟩]⟩,
  ⟨"TCH_Sk_SCAN", 0xE01044, [(8, 0x400)], [⟨"SCAN", 31, 0, .ro, 0x0⟩]⟩,
  ⟨"TCH_Sk_STAMP_LO", 0xE01048, [(8, 0x400)], [⟨"STAMP_LO", 31, 0, .ro, 0x0⟩]⟩,
  ⟨"TCH_Sk_STAMP_HI", 0xE0104C, [(8, 0x400)], [⟨"STAMP_HI", 31, 0, .ro, 0x0⟩]⟩,
  ⟨"TCH_Sk_Rr_RECT0", 0xE01100, [(8, 0x400), (32, 0x10)], [⟨"Y0", 31, 16, .rw, 0x0⟩, ⟨"X0", 15, 0, .rw, 0x0⟩]⟩,
  ⟨"TCH_Sk_Rr_RECT1", 0xE01104, [(8, 0x400), (32, 0x10)], [⟨"Y1", 31, 16, .rw, 0x0⟩, ⟨"X1", 15, 0, .rw, 0x0⟩]⟩,
  ⟨"TCH_Sk_Rr_CFG", 0xE01108, [(8, 0x400), (32, 0x10)], [⟨"BIND_REG", 19, 16, .rw, 0x0⟩, ⟨"BIND_OUT", 14, 12, .rw, 0x0⟩, ⟨"BIND_EN", 8, 8, .rw, 0x0⟩, ⟨"ENABLE", 0, 0, .rw, 0x0⟩]⟩,
  ⟨"TCH_CHc", 0xE04000, [(256, 0x4)], [⟨"BASE", 31, 16, .ro, 0x0⟩, ⟨"ANTI", 15, 15, .w1c, 0x0⟩, ⟨"COUNT", 11, 0, .ro, 0x0⟩]⟩]

/-- Registers of the HAP tables of spec/ (Table 16.5, Table 16.6, Table 16.7, Table 16.8). -/
def regsHap0 : List RegDef := [
  ⟨"HAP_INFO", 0xE80000, [], [⟨"SLOTS", 31, 24, .ro, 0x10⟩, ⟨"CHANNELS", 23, 16, .ro, 0x10⟩, ⟨"SENSE_BITS", 15, 8, .ro, 0xC⟩]⟩,
  ⟨"HAP_CTRL", 0xE80004, [], [⟨"EVENT_PF", 1, 0, .rw, 0x0⟩]⟩,
  ⟨"HAP_Cn_CTRL", 0xE81000, [(16, 0x200)], [⟨"AUTO_CAL", 2, 2, .rw, 0x1⟩, ⟨"KIND", 1, 1, .rw, 0x0⟩, ⟨"ENABLE", 0, 0, .rw, 0x0⟩]⟩,
  ⟨"HAP_Cn_SUPPLY", 0xE81004, [(16, 0x200)], [⟨"V_MAX", 31, 16, .rw, 0x0⟩, ⟨"V_SUPPLY", 15, 0, .rw, 0x0⟩]⟩,
  ⟨"HAP_Cn_PWM", 0xE81008, [(16, 0x200)], [⟨"PWM_DIV", 11, 0, .rw, 0x7D0⟩]⟩,
  ⟨"HAP_Cn_LIMIT", 0xE8100C, [(16, 0x200)], [⟨"I_LIMIT", 27, 16, .rw, 0x7FF⟩, ⟨"ON_MAX", 15, 0, .rw, 0x64⟩]⟩,
  ⟨"HAP_Cn_BUDGET", 0xE81010, [(16, 0x200)], [⟨"WIN", 23, 16, .rw, 0xA⟩, ⟨"BUDGET", 15, 0, .rw, 0x0⟩]⟩,
  ⟨"HAP_Cn_CAL0", 0xE81014, [(16, 0x200)], [⟨"F_HI", 24, 16, .rw, 0xFA⟩, ⟨"F_LO", 8, 0, .rw, 0x96⟩]⟩,
  ⟨"HAP_Cn_CAL1", 0xE81018, [(16, 0x200)], [⟨"CAL_MIN", 27, 16, .rw, 0x40⟩, ⟨"CAL_LEVEL", 15, 0, .rw, 0x0⟩]⟩,
  ⟨"HAP_Cn_BRAKE", 0xE8101C, [(16, 0x200)], [⟨"BRAKE_STOP", 11, 0, .rw, 0x20⟩]⟩,
  ⟨"HAP_Cn_STAT", 0xE81020, [(16, 0x200)], [⟨"CFG_ERR", 19, 16, .ro, 0x0⟩, ⟨"OVERCURRENT", 15, 15, .w1c, 0x0⟩, ⟨"CAL_FAIL", 14, 14, .w1c, 0x0⟩, ⟨"LIMIT_BUDGET", 13, 13, .w1c, 0x0⟩, ⟨"LIMIT_ON", 12, 12, .w1c, 0x0⟩, ⟨"QUEUED", 9, 8, .ro, 0x0⟩, ⟨"CAL_VALID", 6, 6, .ro, 0x0⟩, ⟨"STATE", 2, 0, .ro, 0x0⟩]⟩,
  ⟨"HAP_Cn_SNAP_CTRL", 0xE81030, [(16, 0x200)], [⟨"SEQ", 31, 16, .ro, 0x0⟩, ⟨"VALID", 1, 1, .ro, 0x0⟩, ⟨"SNAP", 0, 0, .wo, 0x0⟩]⟩]

/-- Registers of the HAP tables of spec/ (Table 16.8, Table 16.9). -/
def regsHap1 : List RegDef := [
  ⟨"HAP_Cn_HP", 0xE81034, [(16, 0x200)], [⟨"HALF_PERIOD", 31, 0, .ro, 0x0⟩]⟩,
  ⟨"HAP_Cn_FRES", 0xE81038, [(16, 0x200)], [⟨"F_RES", 31, 0, .ro, 0x0⟩]⟩,
  ⟨"HAP_Cn_CNT", 0xE8103C, [(16, 0x200)], [⟨"LIMIT_ENDS", 31, 16, .ro, 0x0⟩, ⟨"EFFECTS", 15, 0, .ro, 0x0⟩]⟩,
  ⟨"HAP_Cn_FXs_0", 0xE81100, [(16, 0x200), (16, 0x10)], [⟨"VALID", 31, 31, .rw, 0x0⟩, ⟨"BRAKE_EN", 30, 30, .rw, 0x1⟩, ⟨"REVERSE", 29, 29, .rw, 0x0⟩, ⟨"SUS_LEVEL", 15, 0, .rw, 0x0⟩]⟩,
  ⟨"HAP_Cn_FXs_1", 0xE81104, [(16, 0x200), (16, 0x10)], [⟨"OD_LEVEL", 31, 16, .rw, 0x0⟩, ⟨"OD_LEN", 7, 0, .rw, 0x0⟩]⟩,
  ⟨"HAP_Cn_FXs_2", 0xE81108, [(16, 0x200), (16, 0x10)], [⟨"SUS_LEN", 15, 0, .rw, 0x0⟩]⟩,
  ⟨"HAP_Cn_FXs_3", 0xE8110C, [(16, 0x200), (16, 0x10)], [⟨"BRAKE_MAX", 18, 16, .rw, 0x4⟩, ⟨"BRAKE_LEVEL", 15, 0, .rw, 0x0⟩]⟩]

/-- Registers of the AUD tables of spec/ (Table 17.7, Table 17.8). -/
def regsAud0 : List RegDef := [
  ⟨"AUD_INFO", 0xF00000, [], [⟨"LATENCY", 31, 24, .ro, 0x42⟩, ⟨"SINKS", 23, 16, .ro, 0xB⟩, ⟨"SOURCES", 15, 8, .ro, 0x2B⟩, ⟨"STREAMS", 7, 0, .ro, 0x20⟩]⟩,
  ⟨"AUD_CTRL", 0xF00004, [], [⟨"EVENT_PF", 1, 0, .rw, 0x0⟩]⟩,
  ⟨"AUD_FRM_CTRL", 0xF00010, [], [⟨"SEQ", 31, 16, .ro, 0x0⟩, ⟨"VALID", 1, 1, .ro, 0x0⟩, ⟨"SNAP", 0, 0, .wo, 0x0⟩]⟩,
  ⟨"AUD_FRM_ORIGIN_LO", 0xF00014, [], [⟨"ORIGIN_LO", 31, 0, .ro, 0x0⟩]⟩,
  ⟨"AUD_FRM_ORIGIN_HI", 0xF00018, [], [⟨"ORIGIN_HI", 31, 0, .ro, 0x0⟩]⟩,
  ⟨"AUD_FRM_INDEX", 0xF0001C, [], [⟨"INDEX", 31, 0, .ro, 0x0⟩]⟩,
  ⟨"AUD_Ss_CFG", 0xF01000, [(32, 0x200)], [⟨"OPEN", 31, 31, .ro, 0x0⟩, ⟨"FORMAT", 9, 8, .ro, 0x0⟩, ⟨"CHANNELS", 3, 0, .ro, 0x0⟩]⟩,
  ⟨"AUD_Ss_RATE", 0xF01004, [(32, 0x200)], [⟨"RATE_HZ", 31, 0, .ro, 0x0⟩]⟩,
  ⟨"AUD_Ss_CTRL", 0xF01008, [(32, 0x200)], [⟨"MUTE", 0, 0, .rw, 0x0⟩]⟩,
  ⟨"AUD_Ss_STAT", 0xF0100C, [(32, 0x200)], [⟨"MISSED", 31, 16, .ro, 0x0⟩, ⟨"QUEUED", 2, 0, .ro, 0x0⟩]⟩,
  ⟨"AUD_Ss_GAINc", 0xF01010, [(32, 0x200), (8, 0x4)], [⟨"RAMP", 22, 16, .rw, 0x0⟩, ⟨"GAIN", 15, 0, .rw, 0x1000⟩]⟩,
  ⟨"AUD_Ss_SNAP_CTRL", 0xF01040, [(32, 0x200)], [⟨"SEQ", 31, 16, .ro, 0x0⟩, ⟨"VALID", 1, 1, .ro, 0x0⟩, ⟨"SNAP", 0, 0, .wo, 0x0⟩]⟩]

/-- Registers of the AUD tables of spec/ (Table 17.10, Table 17.11, Table 17.8, Table 17.9). -/
def regsAud1 : List RegDef := [
  ⟨"AUD_Ss_FRAMES", 0xF01044, [(32, 0x200)], [⟨"FRAMES", 31, 0, .ro, 0x0⟩]⟩,
  ⟨"AUD_Ss_INDEX", 0xF01048, [(32, 0x200)], [⟨"INDEX", 31, 0, .ro, 0x0⟩]⟩,
  ⟨"AUD_Ie_CTRL", 0xF05000, [(10, 0x40)], [⟨"MIC_GAIN", 11, 8, .rw, 0x0⟩, ⟨"MUTE", 1, 1, .rw, 0x0⟩, ⟨"ENABLE", 0, 0, .rw, 0x0⟩]⟩,
  ⟨"AUD_Ie_STAT", 0xF05004, [(10, 0x40)], [⟨"CLOCK_LOSSES", 31, 16, .ro, 0x0⟩, ⟨"NO_CLOCK", 0, 0, .ro, 0x0⟩]⟩,
  ⟨"AUD_Ie_GAINc", 0xF05008, [(10, 0x40), (8, 0x4)], [⟨"RAMP", 22, 16, .rw, 0x0⟩, ⟨"GAIN", 15, 0, .rw, 0x1000⟩]⟩,
  ⟨"AUD_TDMn_FMT", 0xF05400, [(8, 0x10)], [⟨"SLOTS", 18, 16, .rw, 0x1⟩, ⟨"SLOT_W", 15, 14, .rw, 0x2⟩, ⟨"SAMPLE_W", 13, 12, .rw, 0x1⟩, ⟨"RATE", 11, 10, .rw, 0x0⟩, ⟨"FS_INV", 9, 9, .rw, 0x0⟩, ⟨"BCLK_INV", 8, 8, .rw, 0x0⟩, ⟨"MODE", 5, 4, .rw, 0x0⟩, ⟨"MASTER", 1, 1, .rw, 0x1⟩, ⟨"EN", 0, 0, .rw, 0x0⟩]⟩,
  ⟨"AUD_TDMn_PSTAT", 0xF05404, [(8, 0x10)], [⟨"RATE", 17, 0, .ro, 0x0⟩]⟩,
  ⟨"AUD_TDMn_FMT_ERR", 0xF05408, [(8, 0x10)], [⟨"CFG_ERR", 3, 0, .ro, 0x0⟩]⟩,
  ⟨"AUD_ATT_CTRL", 0xF05800, [], [⟨"STEPS", 18, 16, .rw, 0x0⟩, ⟨"REPEAT", 15, 8, .rw, 0x1⟩, ⟨"STOP", 1, 1, .wo, 0x0⟩, ⟨"START", 0, 0, .wo, 0x0⟩]⟩,
  ⟨"AUD_ATT_LEVEL", 0xF05804, [], [⟨"DUCK", 31, 16, .rw, 0x8000⟩, ⟨"LEVEL", 15, 0, .rw, 0x2000⟩]⟩,
  ⟨"AUD_ATT_SINKS", 0xF05808, [], [⟨"SINKS", 10, 0, .rw, 0x0⟩]⟩,
  ⟨"AUD_ATT_FLOOR", 0xF0580C, [], [⟨"FLOOR_ATTEN", 5, 0, .rw, 0x14⟩]⟩,
  ⟨"AUD_ATT_STAT", 0xF05810, [], [⟨"CFG_ERR", 1, 1, .w1c, 0x0⟩, ⟨"SOUNDING", 0, 0, .ro, 0x0⟩]⟩]

/-- Registers of the AUD tables of spec/ (Table 17.11, Table 17.12, Table 17.13, Table 17.14). -/
def regsAud2 : List RegDef := [
  ⟨"AUD_ATT_STEPj", 0xF05820, [(8, 0x4)], [⟨"DUR", 31, 16, .rw, 0x0⟩, ⟨"FREQ", 15, 0, .rw, 0x0⟩]⟩,
  ⟨"AUD_Kk_CTRL", 0xF06000, [(11, 0x400)], [⟨"WB_CH", 11, 8, .rw, 0x2⟩, ⟨"MUTE", 1, 1, .rw, 0x0⟩, ⟨"ENABLE", 0, 0, .rw, 0x0⟩]⟩,
  ⟨"AUD_Kk_GAIN", 0xF06004, [(11, 0x400)], [⟨"RAMP", 22, 16, .rw, 0x0⟩, ⟨"GAIN", 15, 0, .rw, 0x1000⟩]⟩,
  ⟨"AUD_Kk_LIM", 0xF06008, [(11, 0x400)], [⟨"RELEASE", 31, 24, .rw, 0x32⟩, ⟨"THR", 15, 0, .rw, 0x7FFF⟩]⟩,
  ⟨"AUD_Kk_STAT", 0xF0600C, [(11, 0x400)], [⟨"CLAMPED", 31, 16, .ro, 0x0⟩, ⟨"SAT", 15, 12, .ro, 0x0⟩, ⟨"CFG_ERR", 11, 8, .ro, 0x0⟩, ⟨"NO_PORT", 4, 4, .ro, 0x0⟩, ⟨"ATT_HELD", 3, 3, .w1c, 0x0⟩, ⟨"ROUTE_DENIED", 2, 2, .w1c, 0x0⟩, ⟨"LIMITING", 1, 1, .ro, 0x0⟩, ⟨"RUNNING", 0, 0, .ro, 0x0⟩]⟩,
  ⟨"AUD_Kk_SELc_i", 0xF06100, [(11, 0x400), (8, 0x20), (8, 0x4)], [⟨"EN", 15, 15, .rw, 0x0⟩, ⟨"ELEMENT", 10, 4, .rw, 0x0⟩, ⟨"CHANNEL", 2, 0, .rw, 0x0⟩]⟩,
  ⟨"AUD_Kk_MGc_i", 0xF06200, [(11, 0x400), (8, 0x20), (8, 0x4)], [⟨"RAMP", 22, 16, .rw, 0x0⟩, ⟨"GAIN", 15, 0, .rw, 0x1000⟩]⟩,
  ⟨"AUD_HSn_OUT", 0xF09000, [(2, 0x100)], [⟨"AMUTE", 6, 6, .rw, 0x1⟩, ⟨"ATTEN", 5, 0, .rw, 0x14⟩]⟩,
  ⟨"AUD_HSn_DET", 0xF09004, [(2, 0x100)], [⟨"BTN_DEB", 31, 16, .rw, 0x14⟩, ⟨"DET_DEB", 15, 0, .rw, 0x32⟩]⟩,
  ⟨"AUD_HSn_BTN", 0xF09008, [(2, 0x100)], [⟨"BTN3_MAX", 31, 24, .rw, 0xC8⟩, ⟨"BTN2_MAX", 23, 16, .rw, 0x50⟩, ⟨"BTN1_MAX", 15, 8, .rw, 0x28⟩, ⟨"BTN0_MAX", 7, 0, .rw, 0xF⟩]⟩,
  ⟨"AUD_HSn_STAT", 0xF0900C, [(2, 0x100)], [⟨"BUTTON", 7, 5, .ro, 0x7⟩, ⟨"TYPE", 4, 2, .ro, 0x0⟩, ⟨"MEASURING", 1, 1, .ro, 0x0⟩, ⟨"PLUGGED", 0, 0, .ro, 0x0⟩]⟩,
  ⟨"AUD_WB_BASE_LO", 0xF09400, [], [⟨"BASE_LO", 31, 6, .rw, 0x0⟩]⟩]

/-- Registers of the AUD tables of spec/ (Table 17.14). -/
def regsAud3 : List RegDef := [
  ⟨"AUD_WB_BASE_HI", 0xF09404, [], [⟨"BASE_HI", 31, 0, .rw, 0x0⟩]⟩,
  ⟨"AUD_WB_LEN", 0xF09408, [], [⟨"LEN", 31, 0, .rw, 0x0⟩]⟩,
  ⟨"AUD_WB_WPTR", 0xF09414, [], [⟨"WPTR", 31, 0, .ro, 0x0⟩]⟩,
  ⟨"AUD_WB_INDEX", 0xF09418, [], [⟨"INDEX", 31, 0, .ro, 0x0⟩]⟩,
  ⟨"AUD_WB_SNAP_CTRL", 0xF09410, [], [⟨"SEQ", 31, 16, .ro, 0x0⟩, ⟨"VALID", 1, 1, .ro, 0x0⟩, ⟨"SNAP", 0, 0, .wo, 0x0⟩]⟩]

/-- Registers of the DMA tables of spec/ (Table 18.6, Table 18.7). -/
def regsDma0 : List RegDef := [
  ⟨"DMA_Cn_CTRL", 0x1000000, [(128, 0x100)], [⟨"VECTOR", 21, 16, .rw, 0x0⟩, ⟨"MODE", 3, 3, .rw, 0x0⟩, ⟨"ENABLE", 2, 2, .rw, 0x0⟩, ⟨"STOP", 1, 1, .wo, 0x0⟩, ⟨"START", 0, 0, .wo, 0x0⟩]⟩,
  ⟨"DMA_Cn_SRC_LO", 0x1000004, [(128, 0x100)], [⟨"SRC_LO", 31, 0, .rw, 0x0⟩]⟩,
  ⟨"DMA_Cn_SRC_HI", 0x1000008, [(128, 0x100)], [⟨"SRC_HI", 31, 0, .rw, 0x0⟩]⟩,
  ⟨"DMA_Cn_DST_LO", 0x100000C, [(128, 0x100)], [⟨"DST_LO", 31, 0, .rw, 0x0⟩]⟩,
  ⟨"DMA_Cn_DST_HI", 0x1000010, [(128, 0x100)], [⟨"DST_HI", 31, 0, .rw, 0x0⟩]⟩,
  ⟨"DMA_Cn_COUNT", 0x1000014, [(128, 0x100)], [⟨"COUNT", 30, 0, .rw, 0x0⟩]⟩,
  ⟨"DMA_Cn_DFLAGS", 0x1000018, [(128, 0x100)], [⟨"DFLAGS", 31, 0, .rw, 0x0⟩]⟩,
  ⟨"DMA_Cn_STAT", 0x100001C, [(128, 0x100)], [⟨"RATE", 24, 16, .ro, 0x0⟩, ⟨"PRIO", 15, 15, .ro, 0x0⟩, ⟨"ALIAS", 8, 8, .ro, 0x0⟩, ⟨"CONTRACT", 7, 7, .ro, 0x0⟩, ⟨"SHADOW_FULL", 6, 6, .ro, 0x0⟩, ⟨"BUSY", 5, 5, .ro, 0x0⟩, ⟨"START_ERR", 3, 3, .w1c, 0x0⟩, ⟨"STOPPED", 2, 2, .w1c, 0x0⟩, ⟨"FAULTED", 1, 1, .w1c, 0x0⟩, ⟨"DONE", 0, 0, .w1c, 0x0⟩]⟩,
  ⟨"DMA_Cn_MOVED", 0x1000024, [(128, 0x100)], [⟨"MOVED", 31, 0, .ro, 0x0⟩]⟩,
  ⟨"DMA_Cn_SETS", 0x1000028, [(128, 0x100)], [⟨"CONTRACTED", 31, 16, .ro, 0x0⟩, ⟨"REGISTER", 15, 0, .ro, 0x0⟩]⟩,
  ⟨"DMA_Cn_SNAP_CTRL", 0x1000020, [(128, 0x100)], [⟨"SEQ", 31, 16, .ro, 0x0⟩, ⟨"VALID", 1, 1, .ro, 0x0⟩, ⟨"SNAP", 0, 0, .wo, 0x0⟩]⟩,
  ⟨"DMA_CTRL", 0x1008000, [], [⟨"EVENT_PF", 1, 0, .rw, 0x0⟩]⟩]

/-- Registers of the DMA tables of spec/ (Table 18.7). -/
def regsDma1 : List RegDef := [
  ⟨"DMA_RATEn", 0x1008100, [(128, 0x4)], [⟨"PRIO", 16, 16, .rw, 0x0⟩, ⟨"RATE", 8, 0, .rw, 0x0⟩]⟩,
  ⟨"DMA_RATE_STAT", 0x1008300, [], [⟨"RATE_ERR", 16, 16, .w1c, 0x0⟩, ⟨"SUM", 8, 0, .ro, 0x0⟩]⟩]

/-- Registers of the CV tables of spec/ (Table 18.8). -/
def regsCv0 : List RegDef := [
  ⟨"CV_Un_CTRL", 0x1100000, [(4, 0x100)], [⟨"VECTOR", 29, 24, .rw, 0x0⟩, ⟨"FN", 21, 16, .rw, 0x0⟩, ⟨"CTX_EN", 10, 10, .rw, 0x0⟩, ⟨"FINAL", 9, 9, .rw, 0x0⟩, ⟨"INIT", 8, 8, .rw, 0x1⟩, ⟨"ALG", 5, 4, .rw, 0x0⟩, ⟨"PAUSE", 1, 1, .wo, 0x0⟩, ⟨"GO", 0, 0, .wo, 0x0⟩]⟩,
  ⟨"CV_Un_ADDR_LO", 0x1100004, [(4, 0x100)], [⟨"ADDR_LO", 31, 0, .rw, 0x0⟩]⟩,
  ⟨"CV_Un_ADDR_HI", 0x1100008, [(4, 0x100)], [⟨"ADDR_HI", 31, 0, .rw, 0x0⟩]⟩,
  ⟨"CV_Un_LEN", 0x110000C, [(4, 0x100)], [⟨"LEN", 30, 0, .rw, 0x0⟩]⟩,
  ⟨"CV_Un_STAT", 0x1100010, [(4, 0x100)], [⟨"CFG_ERR", 11, 8, .ro, 0x0⟩, ⟨"CONTRACT", 6, 6, .ro, 0x0⟩, ⟨"PAUSED", 5, 5, .ro, 0x0⟩, ⟨"BUSY", 4, 4, .ro, 0x0⟩, ⟨"FINALISED", 3, 3, .ro, 0x0⟩, ⟨"FAULTED", 2, 2, .w1c, 0x0⟩, ⟨"DONE", 0, 0, .w1c, 0x0⟩]⟩,
  ⟨"CV_Un_COUNT_LO", 0x1100018, [(4, 0x100)], [⟨"COUNT_LO", 31, 0, .rw, 0x0⟩]⟩,
  ⟨"CV_Un_COUNT_HI", 0x110001C, [(4, 0x100)], [⟨"COUNT_HI", 31, 0, .rw, 0x0⟩]⟩,
  ⟨"CV_Un_STATEi", 0x1100020, [(4, 0x100), (8, 0x4)], [⟨"STATE", 31, 0, .rw, 0x0⟩]⟩,
  ⟨"CV_Un_SNAP_CTRL", 0x1100014, [(4, 0x100)], [⟨"SEQ", 31, 16, .ro, 0x0⟩, ⟨"VALID", 1, 1, .ro, 0x0⟩, ⟨"SNAP", 0, 0, .wo, 0x0⟩]⟩]

/-- Registers of the CLK tables of spec/ (Table 19.10, Table 19.8, Table 19.9). -/
def regsClk0 : List RegDef := [
  ⟨"CLK_STAT", 0x1200000, [], [⟨"LOSSES", 31, 16, .ro, 0x0⟩, ⟨"RELOCKING", 3, 3, .ro, 0x0⟩, ⟨"FORCED", 2, 2, .ro, 0x0⟩, ⟨"CLKIN_OK", 1, 1, .ro, 0x0⟩, ⟨"CLK_LOST", 0, 0, .w1c, 0x0⟩]⟩,
  ⟨"CLK_SNAP_CTRL", 0x1200010, [], [⟨"SEQ", 31, 16, .ro, 0x0⟩, ⟨"VALID", 1, 1, .ro, 0x0⟩, ⟨"SNAP", 0, 0, .wo, 0x0⟩]⟩,
  ⟨"CLK_LOSS_START_LO", 0x1200014, [], [⟨"START_LO", 31, 0, .ro, 0x0⟩]⟩,
  ⟨"CLK_LOSS_START_HI", 0x1200018, [], [⟨"START_HI", 31, 0, .ro, 0x0⟩]⟩,
  ⟨"CLK_LOSS_END_LO", 0x120001C, [], [⟨"END_LO", 31, 0, .ro, 0x0⟩]⟩,
  ⟨"CLK_LOSS_END_HI", 0x1200020, [], [⟨"END_HI", 31, 0, .ro, 0x0⟩]⟩,
  ⟨"CLK_ISLn", 0x1200100, [(20, 0x4)], [⟨"GOOD", 31, 31, .ro, 0x0⟩, ⟨"LOCKED", 30, 30, .ro, 0x0⟩, ⟨"SRC", 29, 28, .ro, 0x0⟩, ⟨"COASTING", 27, 27, .ro, 0x0⟩, ⟨"FREQ_KHZ", 20, 0, .ro, 0x0⟩]⟩]

/-- Registers of the RST tables of spec/ (Table 19.11). -/
def regsRst0 : List RegDef := [
  ⟨"RST_CAUSE", 0x1210000, [], [⟨"PORT", 19, 16, .w1c, 0x0⟩, ⟨"SOURCE", 8, 0, .w1c, 0x1⟩]⟩,
  ⟨"RST_REQ", 0x1210004, [], [⟨"DEVICE", 0, 0, .pw, 0x0⟩]⟩,
  ⟨"RST_BLK", 0x121000C, [], [⟨"GATE", 15, 0, .pw, 0x0⟩]⟩,
  ⟨"RST_BLK_STAT", 0x1210014, [], [⟨"REFUSED", 2, 2, .w1c, 0x0⟩, ⟨"BUSY", 1, 1, .ro, 0x0⟩, ⟨"DONE", 0, 0, .w1c, 0x0⟩]⟩,
  ⟨"RST_WD_CTRL", 0x1210020, [], [⟨"MAX", 31, 16, .rw, 0x0⟩, ⟨"MIN", 15, 2, .rw, 0x0⟩, ⟨"EN", 0, 0, .rw, 0x0⟩]⟩,
  ⟨"RST_WD_SVC", 0x1210024, [], [⟨"SVC", 31, 0, .pw, 0x0⟩]⟩,
  ⟨"RST_WD_STAT", 0x121002C, [], [⟨"SERVICES", 31, 16, .ro, 0x0⟩, ⟨"RUNNING", 0, 0, .ro, 0x0⟩]⟩,
  ⟨"RST_REQ_N", 0x1210008, [], []⟩,
  ⟨"RST_BLK_N", 0x1210010, [], []⟩,
  ⟨"RST_WD_SVC_N", 0x1210028, [], []⟩]

/-- Registers of the PWR tables of spec/ (Table 19.12, Table 22.12). -/
def regsPwr0 : List RegDef := [
  ⟨"PWR_CTRL", 0x1220000, [], [⟨"EVENT_PF", 1, 0, .rw, 0x0⟩]⟩,
  ⟨"PWR_STAT", 0x1220004, [], [⟨"WAKE_QUEUED", 31, 24, .ro, 0x0⟩, ⟨"INRUSH_USED", 19, 16, .ro, 0x0⟩, ⟨"STATE", 1, 0, .ro, 0x0⟩]⟩,
  ⟨"PWR_GSEL", 0x1220010, [], [⟨"GATE", 15, 0, .rw, 0x0⟩]⟩,
  ⟨"PWR_GINFO", 0x1220014, [], [⟨"STATE", 31, 29, .ro, 0x0⟩, ⟨"QUEUED_ENABLE", 28, 28, .ro, 0x0⟩, ⟨"PENDING_GATE", 27, 27, .ro, 0x0⟩, ⟨"RETAINED", 26, 26, .ro, 0x0⟩, ⟨"COST", 23, 20, .ro, 0x0⟩, ⟨"PARENT", 15, 0, .ro, 0x0⟩]⟩,
  ⟨"PWR_THERM", 0x1220020, [], [⟨"MAX", 31, 16, .ro, 0x0⟩, ⟨"TEMP", 15, 0, .ro, 0x0⟩]⟩,
  ⟨"PWR_THERM_CTRL", 0x1220024, [], [⟨"ALARM_AT", 31, 16, .rw, 0x3E8⟩, ⟨"ALARM", 1, 1, .w1c, 0x0⟩, ⟨"ALARM_EN", 0, 0, .rw, 0x1⟩]⟩]

/-- Registers of the DBG tables of spec/ (Table 5.17, Table 5.18, Table 5.19). -/
def regsDbg0 : List RegDef := [
  ⟨"DBG_STAT", 0x1300000, [], [⟨"ATTACHES", 31, 16, .ro, 0x0⟩, ⟨"HALTED", 7, 6, .ro, 0x0⟩, ⟨"DEFERRED", 5, 5, .ro, 0x0⟩, ⟨"TAP_RESET", 4, 4, .ro, 0x1⟩, ⟨"TAP_USE", 3, 2, .ro, 0x0⟩, ⟨"DAP_HOLM", 1, 1, .ro, 0x0⟩, ⟨"DAP_ATTACHED", 0, 0, .ro, 0x0⟩]⟩,
  ⟨"DBG_DENY", 0x1300004, [], [⟨"DENIED", 31, 16, .ro, 0x0⟩, ⟨"SECRET", 12, 12, .ro, 0x0⟩, ⟨"LAST_NEED", 11, 8, .ro, 0x0⟩, ⟨"LAST_INSTR", 7, 0, .ro, 0x0⟩]⟩,
  ⟨"DBG_CTRL", 0x1300008, [], [⟨"NOTICE_EN", 0, 0, .rw, 0x1⟩]⟩]

/-- Every register of the PF register window (Table 20.1). -/
def regDefs : List RegDef :=
  regsReg0 ++ (regsReg1 ++ (regsMgt0 ++ (regsMgt1 ++ (regsEq0 ++ (regsIso0 ++ (regsHif0 ++ (regsVat0 ++ (regsDrc0 ++ (regsGpx0 ++ (regsGpx1 ++ (regsTrv0 ++ (regsOp0 ++ (regsOp1 ++ (regsLx0 ++ (regsLx1 ++ (regsLx2 ++ (regsVin0 ++ (regsTg0 ++ (regsTg1 ++ (regsTg2 ++ (regsCrl0 ++ (regsCrl1 ++ (regsLnk0 ++ (regsLnk1 ++ (regsTch0 ++ (regsTch1 ++ (regsHap0 ++ (regsHap1 ++ (regsAud0 ++ (regsAud1 ++ (regsAud2 ++ (regsAud3 ++ (regsDma0 ++ (regsDma1 ++ (regsCv0 ++ (regsClk0 ++ (regsRst0 ++ (regsPwr0 ++ (regsDbg0)))))))))))))))))))))))))))))))))))))))

/-- The register offsets of a definition's instances: does `off` name one of them? -/
def RegDef.has (d : RegDef) (off : Nat) : Bool :=
  match d.dims with
  | [] => off == d.base
  | [(n, s)] => decide (d.base ≤ off) && decide (off < d.base + n * s) && (off - d.base) % s == 0
  | (n, s) :: (n2, s2) :: rest =>
    let r := (off - d.base) % s
    let r2 := r % s2
    decide (d.base ≤ off) && decide (off < d.base + n * s) && decide (r < n2 * s2) &&
      (match rest with
       | [] => r2 == 0
       | (n3, s3) :: _ => decide (r2 < n3 * s3) && r2 % s3 == 0)

/-- The registers of one MiB of the window: the blocks of Table 20.1 begin on such boundaries. -/
def regPart (n : Nat) : List RegDef :=
  match n with
  | 0x0 => regsMgt0 ++ (regsMgt1 ++ regsEq0)
  | 0x1 => regsIso0
  | 0x2 => regsHif0
  | 0x3 => regsVat0
  | 0x4 => regsDrc0
  | 0x8 => regsGpx0 ++ regsGpx1
  | 0x9 => regsTrv0
  | 0xA => regsOp0 ++ (regsOp1 ++ (regsLx0 ++ (regsLx1 ++ regsLx2)))
  | 0xB => regsVin0 ++ (regsTg0 ++ (regsTg1 ++ regsTg2))
  | 0xC => regsCrl0 ++ regsCrl1
  | 0xD => regsLnk0 ++ regsLnk1
  | 0xE => regsTch0 ++ (regsTch1 ++ (regsHap0 ++ regsHap1))
  | 0xF => regsAud0 ++ (regsAud1 ++ (regsAud2 ++ regsAud3))
  | 0x10 => regsDma0 ++ regsDma1
  | 0x11 => regsCv0
  | 0x12 => regsReg0 ++ (regsReg1 ++ (regsClk0 ++ (regsRst0 ++ regsPwr0)))
  | 0x13 => regsDbg0
  | _ => []

/-- The register at a window offset, if one is listed there (R567). -/
def regAt (off : Nat) : Option RegDef := (regPart (off / 0x100000)).find? (fun d => d.has off)

/-- The word of the reset values of a register's fields. -/
def RegDef.resetWord (d : RegDef) : Word :=
  BitVec.ofNat 32 (d.fields.foldl (fun w f => w ||| (f.reset % 2 ^ (f.hi + 1 - f.lo)) <<< f.lo) 0)

/-- The mask of the bits of a register whose access code satisfies `p`. -/
def RegDef.mask (d : RegDef) (p : Acc → Bool) : Nat :=
  d.fields.foldl (fun w f => if p f.acc then w ||| (2 ^ (f.hi + 1 - f.lo) - 1) <<< f.lo else w) 0

/-- The reset word at a window offset; 0 where no register is listed. -/
def resetWordAt (off : Nat) : Word :=
  match regAt off with
  | none => 0
  | some d => d.resetWord

end Sys2Proof.Machine
end

