-- ==== Sys2Proof/Machine/RegNames.lean ====
section
/-!
DEFINITION. RegNames.lean: the offset of every register of the PF register window under its name in spec/ (instances as arguments), and the
bits of every field under REGISTER_FIELD.
-/

namespace Sys2Proof.Machine.Reg

/-- REG_DEVICE_ID, Table 0.2. -/
def REG_DEVICE_ID : Nat := 0x1230000
/-- REG_GTB_CTRL, Table 1.5. -/
def REG_GTB_CTRL : Nat := 0x1230010
/-- REG_GTB_LO, Table 1.6. -/
def REG_GTB_LO : Nat := 0x1230014
/-- REG_GTB_HI, Table 1.6. -/
def REG_GTB_HI : Nat := 0x1230018
/-- MGT_CTR_CTRL, Table 2.16. -/
def MGT_CTR_CTRL : Nat := 0x800
/-- MGT_CTR_OPEN, Table 2.17. -/
def MGT_CTR_OPEN : Nat := 0x804
/-- MGT_CTR_DONE, Table 2.18. -/
def MGT_CTR_DONE : Nat := 0x808
/-- MGT_CTR_BREACH, Table 2.19. -/
def MGT_CTR_BREACH : Nat := 0x80C
/-- MGT_CTR_REFUSED, Table 2.20. -/
def MGT_CTR_REFUSED : Nat := 0x810
/-- MGT_RINGn_BASE_LO, Table 3.7. -/
def MGT_RINGn_BASE_LO (i : Nat) : Nat := 0x100 + 0x40 * i
/-- MGT_RINGn_BASE_HI, Table 3.8. -/
def MGT_RINGn_BASE_HI (i : Nat) : Nat := 0x104 + 0x40 * i
/-- MGT_RINGn_CTRL, Table 3.9. -/
def MGT_RINGn_CTRL (i : Nat) : Nat := 0x108 + 0x40 * i
/-- MGT_RINGn_DB, Table 3.10. -/
def MGT_RINGn_DB (i : Nat) : Nat := 0x10C + 0x40 * i
/-- MGT_RINGn_PTR, Table 3.11. -/
def MGT_RINGn_PTR (i : Nat) : Nat := 0x110 + 0x40 * i
/-- MGT_RINGn_STATUS, Table 3.12. -/
def MGT_RINGn_STATUS (i : Nat) : Nat := 0x114 + 0x40 * i
/-- MGT_SES_CTRL, Table 4.7. -/
def MGT_SES_CTRL : Nat := 0x820
/-- MGT_SES_COUNT, Table 4.8. -/
def MGT_SES_COUNT : Nat := 0x824
/-- MGT_SES_AUTH, Table 4.9. -/
def MGT_SES_AUTH : Nat := 0x828
/-- EQ_BASE_LO, Table 6.11. -/
def EQ_BASE_LO (i : Nat) : Nat := 0x200 + 0x40 * i
/-- EQ_BASE_HI, Table 6.11. -/
def EQ_BASE_HI (i : Nat) : Nat := 0x204 + 0x40 * i
/-- EQ_CTRL, Table 6.12. -/
def EQ_CTRL (i : Nat) : Nat := 0x208 + 0x40 * i
/-- EQ_RD, Table 6.13. -/
def EQ_RD (i : Nat) : Nat := 0x20C + 0x40 * i
/-- EQ_PTR, Table 6.14. -/
def EQ_PTR (i : Nat) : Nat := 0x210 + 0x40 * i
/-- EQ_STATUS, Table 6.15. -/
def EQ_STATUS (i : Nat) : Nat := 0x214 + 0x40 * i
/-- ISO_WHOAMI, Table 5.9. -/
def ISO_WHOAMI : Nat := 0x100000
/-- ISO_DBG, Table 5.10. -/
def ISO_DBG : Nat := 0x100004
/-- ISO_PORT, Table 5.11. -/
def ISO_PORT : Nat := 0x100008
/-- ISO_CTRL, Table 5.12. -/
def ISO_CTRL : Nat := 0x10000C
/-- ISO_OWN_IDX, Table 5.13. -/
def ISO_OWN_IDX : Nat := 0x100010
/-- ISO_OWN_DATA, Table 5.14. -/
def ISO_OWN_DATA : Nat := 0x100014
/-- ISO_OWN_DATA_N, Table 5.14. -/
def ISO_OWN_DATA_N : Nat := 0x100018
/-- ISO_OWN_STAT, Table 5.15. -/
def ISO_OWN_STAT : Nat := 0x10001C
/-- ISO_LOG_STAT, Table 5.16. -/
def ISO_LOG_STAT : Nat := 0x100020
/-- HIF_PORTCFG, Table 6.16. -/
def HIF_PORTCFG : Nat := 0x200000
/-- HIF_FN_PICK_LO, Table 6.17. -/
def HIF_FN_PICK_LO : Nat := 0x200010
/-- HIF_FN_PICK_HI, Table 6.17. -/
def HIF_FN_PICK_HI : Nat := 0x200014
/-- HIF_FN_PICK_SENSOR, Table 6.18. -/
def HIF_FN_PICK_SENSOR : Nat := 0x200018
/-- HIF_FN_SEL, Table 6.19. -/
def HIF_FN_SEL : Nat := 0x200020
/-- HIF_FN_INFO, Table 6.20. -/
def HIF_FN_INFO : Nat := 0x200024
/-- HIF_MSIX_POOL, Table 6.21. -/
def HIF_MSIX_POOL : Nat := 0x200028
/-- VAT_ECC_CTRL, Table 7.12. -/
def VAT_ECC_CTRL : Nat := 0x300000
/-- VAT_ECC_CNT, Table 7.13. -/
def VAT_ECC_CNT : Nat := 0x300004
/-- VAT_ECC_LAST, Table 7.14. -/
def VAT_ECC_LAST : Nat := 0x300008
/-- VAT_LEASE_STAT, Table 7.15. -/
def VAT_LEASE_STAT : Nat := 0x300010
/-- DRC_CFG, Table 7.16. -/
def DRC_CFG : Nat := 0x400000
/-- DRC_POOL, Table 7.17. -/
def DRC_POOL : Nat := 0x400004
/-- DRC_SR_STAT, Table 7.18. -/
def DRC_SR_STAT : Nat := 0x400008
/-- DRC_COn_BASE, Table 7.19. -/
def DRC_COn_BASE (i : Nat) : Nat := 0x400100 + 0x8 * i
/-- DRC_COn_SIZE, Table 7.19. -/
def DRC_COn_SIZE (i : Nat) : Nat := 0x400104 + 0x8 * i
/-- DRC_CO_LOCK, Table 7.20. -/
def DRC_CO_LOCK : Nat := 0x400180
/-- GPX_INFO, Table 8.12. -/
def GPX_INFO : Nat := 0x800000
/-- GPX_CNT_CTRL, Table 8.13. -/
def GPX_CNT_CTRL : Nat := 0x800010
/-- GPX_CNT_JOBS, Table 8.14. -/
def GPX_CNT_JOBS : Nat := 0x800014
/-- GPX_CNT_TILES, Table 8.15. -/
def GPX_CNT_TILES : Nat := 0x800018
/-- GPX_CNT_HSR, Table 8.16. -/
def GPX_CNT_HSR : Nat := 0x80001C
/-- GPX_CNT_FAULTS, Table 8.17. -/
def GPX_CNT_FAULTS : Nat := 0x800020
/-- GPX_SCHED_STAT, Table 9.7. -/
def GPX_SCHED_STAT : Nat := 0x800200
/-- GPX_PRE_CTRL, Table 9.8. -/
def GPX_PRE_CTRL : Nat := 0x800210
/-- GPX_PRE_COMP, Table 9.9. -/
def GPX_PRE_COMP : Nat := 0x800214
/-- GPX_PRE_SWAP, Table 9.10. -/
def GPX_PRE_SWAP : Nat := 0x800218
/-- GPX_PRE_WORST, Table 9.11. -/
def GPX_PRE_WORST : Nat := 0x80021C
/-- GPX_SKIM_CNT, Table 9.12. -/
def GPX_SKIM_CNT : Nat := 0x800220
/-- GPX_CORE_STATc, Table 8.18. -/
def GPX_CORE_STATc (i : Nat) : Nat := 0x800100 + 0x4 * i
/-- TRV_INFO, Table 10.5. -/
def TRV_INFO : Nat := 0x900000
/-- TRV_STAT, Table 10.6. -/
def TRV_STAT : Nat := 0x900004
/-- TRV_CTRL, Table 10.7. -/
def TRV_CTRL : Nat := 0x900008
/-- TRV_CTRL_N, Table 10.7. -/
def TRV_CTRL_N : Nat := 0x90000C
/-- TRV_ST_CTRL, Table 10.8. -/
def TRV_ST_CTRL : Nat := 0x900010
/-- TRV_ST_RASTER, Table 10.8. -/
def TRV_ST_RASTER : Nat := 0x900014
/-- TRV_ST_TRAV, Table 10.8. -/
def TRV_ST_TRAV : Nat := 0x900018
/-- TRV_ST_REF, Table 10.8. -/
def TRV_ST_REF : Nat := 0x90001C
/-- TRV_ARMn, Table 10.9. -/
def TRV_ARMn (i : Nat) : Nat := 0x900100 + 0x8 * i
/-- TRV_RECn, Table 10.10. -/
def TRV_RECn (i : Nat) : Nat := 0x900104 + 0x8 * i
/-- OP_CTRL, Table 11.7. -/
def OP_CTRL (i : Nat) : Nat := 0xA00000 + 0x10000 * i
/-- OP_ZORDER, Table 11.8. -/
def OP_ZORDER (i : Nat) : Nat := 0xA00004 + 0x10000 * i
/-- OP_BG, Table 11.8. -/
def OP_BG (i : Nat) : Nat := 0xA00008 + 0x10000 * i
/-- OP_WB_CTRL, Table 11.9. -/
def OP_WB_CTRL (i : Nat) : Nat := 0xA0000C + 0x10000 * i
/-- OP_WB_ADDR_LO, Table 11.9. -/
def OP_WB_ADDR_LO (i : Nat) : Nat := 0xA00010 + 0x10000 * i
/-- OP_WB_ADDR_HI, Table 11.9. -/
def OP_WB_ADDR_HI (i : Nat) : Nat := 0xA00014 + 0x10000 * i
/-- OP_WB_PITCH, Table 11.9. -/
def OP_WB_PITCH (i : Nat) : Nat := 0xA00018 + 0x10000 * i
/-- OP_WB_STAT, Table 11.9. -/
def OP_WB_STAT (i : Nat) : Nat := 0xA0001C + 0x10000 * i
/-- OP_CSC_M0, Table 11.10. -/
def OP_CSC_M0 (i : Nat) : Nat := 0xA00020 + 0x10000 * i
/-- OP_CSC_M1, Table 11.10. -/
def OP_CSC_M1 (i : Nat) : Nat := 0xA00024 + 0x10000 * i
/-- OP_CSC_M2, Table 11.10. -/
def OP_CSC_M2 (i : Nat) : Nat := 0xA00028 + 0x10000 * i
/-- OP_CSC_M3, Table 11.10. -/
def OP_CSC_M3 (i : Nat) : Nat := 0xA0002C + 0x10000 * i
/-- OP_CSC_M4, Table 11.10. -/
def OP_CSC_M4 (i : Nat) : Nat := 0xA00030 + 0x10000 * i
/-- OP_CSC_OFF0, Table 11.10. -/
def OP_CSC_OFF0 (i : Nat) : Nat := 0xA00034 + 0x10000 * i
/-- OP_CSC_OFF1, Table 11.10. -/
def OP_CSC_OFF1 (i : Nat) : Nat := 0xA00038 + 0x10000 * i
/-- OP_LUT_IDX, Table 11.11. -/
def OP_LUT_IDX (i : Nat) : Nat := 0xA00040 + 0x10000 * i
/-- OP_LUT_DATA0, Table 11.11. -/
def OP_LUT_DATA0 (i : Nat) : Nat := 0xA00044 + 0x10000 * i
/-- OP_LUT_DATA1, Table 11.11. -/
def OP_LUT_DATA1 (i : Nat) : Nat := 0xA00048 + 0x10000 * i
/-- OP_STAT, Table 11.11. -/
def OP_STAT (i : Nat) : Nat := 0xA00050 + 0x10000 * i
/-- Lx_CTRL, Table 11.13. -/
def Lx_CTRL (i j : Nat) : Nat := 0xA01000 + 0x10000 * i + 0x400 * j
/-- Lx_FORMAT, Table 11.13. -/
def Lx_FORMAT (i j : Nat) : Nat := 0xA01004 + 0x10000 * i + 0x400 * j
/-- Lx_ADDRp_LO, Table 11.14. -/
def Lx_ADDRp_LO (i j k : Nat) : Nat := 0xA01008 + 0x10000 * i + 0x400 * j + 0x8 * k
/-- Lx_ADDRp_HI, Table 11.14. -/
def Lx_ADDRp_HI (i j k : Nat) : Nat := 0xA0100C + 0x10000 * i + 0x400 * j + 0x8 * k
/-- Lx_PITCHp, Table 11.14. -/
def Lx_PITCHp (i j k : Nat) : Nat := 0xA01020 + 0x10000 * i + 0x400 * j + 0x4 * k
/-- Lx_SRC_POS, Table 11.14. -/
def Lx_SRC_POS (i j : Nat) : Nat := 0xA01030 + 0x10000 * i + 0x400 * j
/-- Lx_SRC_SIZE, Table 11.14. -/
def Lx_SRC_SIZE (i j : Nat) : Nat := 0xA01034 + 0x10000 * i + 0x400 * j
/-- Lx_DST_POS, Table 11.14. -/
def Lx_DST_POS (i j : Nat) : Nat := 0xA01038 + 0x10000 * i + 0x400 * j
/-- Lx_DST_SIZE, Table 11.14. -/
def Lx_DST_SIZE (i j : Nat) : Nat := 0xA0103C + 0x10000 * i + 0x400 * j
/-- Lx_FALLBACK, Table 11.14. -/
def Lx_FALLBACK (i j : Nat) : Nat := 0xA01040 + 0x10000 * i + 0x400 * j
/-- Lx_BIND, Table 11.14. -/
def Lx_BIND (i j : Nat) : Nat := 0xA01044 + 0x10000 * i + 0x400 * j
/-- Lx_CSC_M0, Table 11.15. -/
def Lx_CSC_M0 (i j : Nat) : Nat := 0xA01060 + 0x10000 * i + 0x400 * j
/-- Lx_CSC_M1, Table 11.15. -/
def Lx_CSC_M1 (i j : Nat) : Nat := 0xA01064 + 0x10000 * i + 0x400 * j
/-- Lx_CSC_M2, Table 11.15. -/
def Lx_CSC_M2 (i j : Nat) : Nat := 0xA01068 + 0x10000 * i + 0x400 * j
/-- Lx_CSC_M3, Table 11.15. -/
def Lx_CSC_M3 (i j : Nat) : Nat := 0xA0106C + 0x10000 * i + 0x400 * j
/-- Lx_CSC_M4, Table 11.15. -/
def Lx_CSC_M4 (i j : Nat) : Nat := 0xA01070 + 0x10000 * i + 0x400 * j
/-- Lx_CSC_OFF, Table 11.15. -/
def Lx_CSC_OFF (i j : Nat) : Nat := 0xA01074 + 0x10000 * i + 0x400 * j
/-- Lx_VIEW_SX, Table 11.16. -/
def Lx_VIEW_SX (i j : Nat) : Nat := 0xA01080 + 0x10000 * i + 0x400 * j
/-- Lx_VIEW_SY, Table 11.16. -/
def Lx_VIEW_SY (i j : Nat) : Nat := 0xA01084 + 0x10000 * i + 0x400 * j
/-- Lx_VIEW_TX, Table 11.16. -/
def Lx_VIEW_TX (i j : Nat) : Nat := 0xA01088 + 0x10000 * i + 0x400 * j
/-- Lx_VIEW_TY, Table 11.16. -/
def Lx_VIEW_TY (i j : Nat) : Nat := 0xA0108C + 0x10000 * i + 0x400 * j
/-- Lx_VIEW_P00, Table 11.16. -/
def Lx_VIEW_P00 (i j : Nat) : Nat := 0xA01090 + 0x10000 * i + 0x400 * j
/-- Lx_VIEW_P01, Table 11.16. -/
def Lx_VIEW_P01 (i j : Nat) : Nat := 0xA01094 + 0x10000 * i + 0x400 * j
/-- Lx_VIEW_P10, Table 11.16. -/
def Lx_VIEW_P10 (i j : Nat) : Nat := 0xA01098 + 0x10000 * i + 0x400 * j
/-- Lx_VIEW_P11, Table 11.16. -/
def Lx_VIEW_P11 (i j : Nat) : Nat := 0xA0109C + 0x10000 * i + 0x400 * j
/-- Lx_VIEW_APPLY, Table 11.16. -/
def Lx_VIEW_APPLY (i j : Nat) : Nat := 0xA010A0 + 0x10000 * i + 0x400 * j
/-- Lx_VIEW_STAT, Table 11.16. -/
def Lx_VIEW_STAT (i j : Nat) : Nat := 0xA010A4 + 0x10000 * i + 0x400 * j
/-- Lx_COEF_IDX, Table 11.17. -/
def Lx_COEF_IDX (i j : Nat) : Nat := 0xA01100 + 0x10000 * i + 0x400 * j
/-- Lx_COEF_DATA, Table 11.17. -/
def Lx_COEF_DATA (i j : Nat) : Nat := 0xA01104 + 0x10000 * i + 0x400 * j
/-- Lx_PAL_IDX, Table 11.17. -/
def Lx_PAL_IDX (i j : Nat) : Nat := 0xA01108 + 0x10000 * i + 0x400 * j
/-- Lx_PAL_DATA, Table 11.17. -/
def Lx_PAL_DATA (i j : Nat) : Nat := 0xA0110C + 0x10000 * i + 0x400 * j
/-- Lx_STAT, Table 11.18. -/
def Lx_STAT (i j : Nat) : Nat := 0xA01110 + 0x10000 * i + 0x400 * j
/-- VIN_CTRL, Table 11.19. -/
def VIN_CTRL (i : Nat) : Nat := 0xB80000 + 0x1000 * i
/-- VIN_LIMIT0, Table 11.19. -/
def VIN_LIMIT0 (i : Nat) : Nat := 0xB80004 + 0x1000 * i
/-- VIN_LIMIT1, Table 11.19. -/
def VIN_LIMIT1 (i : Nat) : Nat := 0xB80008 + 0x1000 * i
/-- VIN_PITCH, Table 11.19. -/
def VIN_PITCH (i : Nat) : Nat := 0xB8000C + 0x1000 * i
/-- VIN_BUFk_LO, Table 11.19. -/
def VIN_BUFk_LO (i j : Nat) : Nat := 0xB80010 + 0x1000 * i + 0x8 * j
/-- VIN_BUFk_HI, Table 11.19. -/
def VIN_BUFk_HI (i j : Nat) : Nat := 0xB80014 + 0x1000 * i + 0x8 * j
/-- VIN_STAT, Table 11.19. -/
def VIN_STAT (i : Nat) : Nat := 0xB80030 + 0x1000 * i
/-- VIN_SNAP_CTRL, Table 11.19. -/
def VIN_SNAP_CTRL (i : Nat) : Nat := 0xB80040 + 0x1000 * i
/-- VIN_DET, Table 11.19. -/
def VIN_DET (i : Nat) : Nat := 0xB80044 + 0x1000 * i
/-- VIN_PERIOD, Table 11.19. -/
def VIN_PERIOD (i : Nat) : Nat := 0xB80048 + 0x1000 * i
/-- VIN_CNT, Table 11.19. -/
def VIN_CNT (i : Nat) : Nat := 0xB8004C + 0x1000 * i
/-- TG_CTRL, Table 12.9. -/
def TG_CTRL (i : Nat) : Nat := 0xB00000 + 0x1000 * i
/-- TG_H0, Table 12.10. -/
def TG_H0 (i : Nat) : Nat := 0xB00004 + 0x1000 * i
/-- TG_H1, Table 12.10. -/
def TG_H1 (i : Nat) : Nat := 0xB00008 + 0x1000 * i
/-- TG_V0, Table 12.10. -/
def TG_V0 (i : Nat) : Nat := 0xB0000C + 0x1000 * i
/-- TG_V1, Table 12.10. -/
def TG_V1 (i : Nat) : Nat := 0xB00010 + 0x1000 * i
/-- TG_PCLK, Table 12.10. -/
def TG_PCLK (i : Nat) : Nat := 0xB00014 + 0x1000 * i
/-- TG_START_LO, Table 12.10. -/
def TG_START_LO (i : Nat) : Nat := 0xB00018 + 0x1000 * i
/-- TG_START_HI, Table 12.10. -/
def TG_START_HI (i : Nat) : Nat := 0xB0001C + 0x1000 * i
/-- TG_UFLOW, Table 12.11. -/
def TG_UFLOW (i : Nat) : Nat := 0xB00020 + 0x1000 * i
/-- TG_CMD, Table 12.11. -/
def TG_CMD (i : Nat) : Nat := 0xB00024 + 0x1000 * i
/-- TG_CUR0, Table 12.12. -/
def TG_CUR0 (i : Nat) : Nat := 0xB00028 + 0x1000 * i
/-- TG_CUR_SX, Table 12.12. -/
def TG_CUR_SX (i : Nat) : Nat := 0xB0002C + 0x1000 * i
/-- TG_CUR_SY, Table 12.12. -/
def TG_CUR_SY (i : Nat) : Nat := 0xB00030 + 0x1000 * i
/-- TG_CUR_OFF, Table 12.12. -/
def TG_CUR_OFF (i : Nat) : Nat := 0xB00034 + 0x1000 * i
/-- TG_CMT, Table 12.13. -/
def TG_CMT (i : Nat) : Nat := 0xB00040 + 0x1000 * i
/-- TG_COMMIT_FRAME, Table 12.13. -/
def TG_COMMIT_FRAME (i : Nat) : Nat := 0xB00044 + 0x1000 * i
/-- TG_COMMIT_AT_LO, Table 12.13. -/
def TG_COMMIT_AT_LO (i : Nat) : Nat := 0xB00048 + 0x1000 * i
/-- TG_COMMIT_AT_HI, Table 12.13. -/
def TG_COMMIT_AT_HI (i : Nat) : Nat := 0xB0004C + 0x1000 * i
/-- TG_SNAP_CTRL, Table 12.14. -/
def TG_SNAP_CTRL (i : Nat) : Nat := 0xB00050 + 0x1000 * i
/-- TG_FRAME, Table 12.14. -/
def TG_FRAME (i : Nat) : Nat := 0xB00054 + 0x1000 * i
/-- TG_LATCH_LO, Table 12.14. -/
def TG_LATCH_LO (i : Nat) : Nat := 0xB00058 + 0x1000 * i
/-- TG_LATCH_HI, Table 12.14. -/
def TG_LATCH_HI (i : Nat) : Nat := 0xB0005C + 0x1000 * i
/-- TG_POS, Table 12.14. -/
def TG_POS (i : Nat) : Nat := 0xB00060 + 0x1000 * i
/-- TG_URUN, Table 12.14. -/
def TG_URUN (i : Nat) : Nat := 0xB00064 + 0x1000 * i
/-- TG_URUN_LO, Table 12.14. -/
def TG_URUN_LO (i : Nat) : Nat := 0xB00068 + 0x1000 * i
/-- TG_URUN_HI, Table 12.14. -/
def TG_URUN_HI (i : Nat) : Nat := 0xB0006C + 0x1000 * i
/-- TG_STAT, Table 12.15. -/
def TG_STAT (i : Nat) : Nat := 0xB00070 + 0x1000 * i
/-- CRL_CTRL, Table 13.9. -/
def CRL_CTRL (i : Nat) : Nat := 0xC00000 + 0x1000 * i
/-- CRL_RIND, Table 13.9. -/
def CRL_RIND (i : Nat) : Nat := 0xC00004 + 0x1000 * i
/-- CRL_REGEN, Table 13.9. -/
def CRL_REGEN (i : Nat) : Nat := 0xC00008 + 0x1000 * i
/-- CRL_STAT, Table 13.10. -/
def CRL_STAT (i : Nat) : Nat := 0xC0000C + 0x1000 * i
/-- CRL_RECOVER, Table 13.11. -/
def CRL_RECOVER (i : Nat) : Nat := 0xC00010 + 0x1000 * i
/-- CRL_RECOVER_N, Table 13.11. -/
def CRL_RECOVER_N (i : Nat) : Nat := 0xC00014 + 0x1000 * i
/-- CRL_Rr_POS, Table 13.12. -/
def CRL_Rr_POS (i j : Nat) : Nat := 0xC00020 + 0x1000 * i + 0x10 * j
/-- CRL_Rr_SIZE, Table 13.12. -/
def CRL_Rr_SIZE (i j : Nat) : Nat := 0xC00024 + 0x1000 * i + 0x10 * j
/-- CRL_Rr_BUF, Table 13.12. -/
def CRL_Rr_BUF (i j : Nat) : Nat := 0xC00028 + 0x1000 * i + 0x10 * j
/-- CRL_Rr_CFG, Table 13.12. -/
def CRL_Rr_CFG (i j : Nat) : Nat := 0xC0002C + 0x1000 * i + 0x10 * j
/-- CRL_PAL_IDX, Table 13.13. -/
def CRL_PAL_IDX (i : Nat) : Nat := 0xC00200 + 0x1000 * i
/-- CRL_PAL_DATA, Table 13.13. -/
def CRL_PAL_DATA (i : Nat) : Nat := 0xC00204 + 0x1000 * i
/-- CRL_LUT_IDX, Table 13.13. -/
def CRL_LUT_IDX (i : Nat) : Nat := 0xC00208 + 0x1000 * i
/-- CRL_LUT_DATA, Table 13.13. -/
def CRL_LUT_DATA (i : Nat) : Nat := 0xC0020C + 0x1000 * i
/-- CRL_SNAP_CTRL, Table 13.14. -/
def CRL_SNAP_CTRL (i : Nat) : Nat := 0xC00300 + 0x1000 * i
/-- CRL_LAST_FRAME, Table 13.14. -/
def CRL_LAST_FRAME (i : Nat) : Nat := 0xC00304 + 0x1000 * i
/-- CRL_LAST_DIGEST, Table 13.14. -/
def CRL_LAST_DIGEST (i : Nat) : Nat := 0xC00308 + 0x1000 * i
/-- CRL_LAST_MM, Table 13.14. -/
def CRL_LAST_MM (i : Nat) : Nat := 0xC0030C + 0x1000 * i
/-- CRL_LAST_TILE, Table 13.14. -/
def CRL_LAST_TILE (i : Nat) : Nat := 0xC00310 + 0x1000 * i
/-- CRL_MM_TOTAL, Table 13.14. -/
def CRL_MM_TOTAL (i : Nat) : Nat := 0xC00314 + 0x1000 * i
/-- CRL_EV_CTRL, Table 13.15. -/
def CRL_EV_CTRL : Nat := 0xC08000
/-- CRL_EV_STAT, Table 13.15. -/
def CRL_EV_STAT : Nat := 0xC08004
/-- LNK_TXg_CFG, Table 14.8. -/
def LNK_TXg_CFG (i : Nat) : Nat := 0xD00000 + 0x100 * i
/-- LNK_TXg_STAT, Table 14.9. -/
def LNK_TXg_STAT (i : Nat) : Nat := 0xD00004 + 0x100 * i
/-- LNK_TXg_SB_CTRL, Table 14.10. -/
def LNK_TXg_SB_CTRL (i : Nat) : Nat := 0xD00008 + 0x100 * i
/-- LNK_TXg_SB_STAT, Table 14.10. -/
def LNK_TXg_SB_STAT (i : Nat) : Nat := 0xD0000C + 0x100 * i
/-- LNK_TXg_SB_DATAi, Table 14.10. -/
def LNK_TXg_SB_DATAi (i j : Nat) : Nat := 0xD00010 + 0x100 * i + 0x4 * j
/-- LNK_TXg_PANEL, Table 22.7. -/
def LNK_TXg_PANEL (i : Nat) : Nat := 0xD00020 + 0x100 * i
/-- LNK_PCIEp_STAT, Table 14.11. -/
def LNK_PCIEp_STAT (i : Nat) : Nat := 0xD00800 + 0x40 * i
/-- LNK_RXn_CFG, Table 14.12. -/
def LNK_RXn_CFG (i : Nat) : Nat := 0xD00C00 + 0x100 * i
/-- LNK_RXn_STAT, Table 14.12. -/
def LNK_RXn_STAT (i : Nat) : Nat := 0xD00C04 + 0x100 * i
/-- LNK_RXn_EDID_IDX, Table 14.12. -/
def LNK_RXn_EDID_IDX (i : Nat) : Nat := 0xD00C08 + 0x100 * i
/-- LNK_RXn_EDID_DATA, Table 14.12. -/
def LNK_RXn_EDID_DATA (i : Nat) : Nat := 0xD00C0C + 0x100 * i
/-- LNK_STRAIT_SEL, Table 14.13. -/
def LNK_STRAIT_SEL : Nat := 0xD01000
/-- LNK_STRAIT_CNT, Table 14.13. -/
def LNK_STRAIT_CNT : Nat := 0xD01004
/-- TCH_INFO, Table 15.5. -/
def TCH_INFO : Nat := 0xE00000
/-- TCH_CTRL, Table 15.5. -/
def TCH_CTRL : Nat := 0xE00004
/-- TCH_Sk_CTRL, Table 15.6. -/
def TCH_Sk_CTRL (i : Nat) : Nat := 0xE01000 + 0x400 * i
/-- TCH_Sk_GEOM, Table 15.6. -/
def TCH_Sk_GEOM (i : Nat) : Nat := 0xE01004 + 0x400 * i
/-- TCH_Sk_MEAS, Table 15.6. -/
def TCH_Sk_MEAS (i : Nat) : Nat := 0xE01008 + 0x400 * i
/-- TCH_Sk_PERIOD, Table 15.6. -/
def TCH_Sk_PERIOD (i : Nat) : Nat := 0xE0100C + 0x400 * i
/-- TCH_Sk_THR, Table 15.6. -/
def TCH_Sk_THR (i : Nat) : Nat := 0xE01010 + 0x400 * i
/-- TCH_Sk_THR2, Table 15.6. -/
def TCH_Sk_THR2 (i : Nat) : Nat := 0xE01014 + 0x400 * i
/-- TCH_Sk_DEB, Table 15.6. -/
def TCH_Sk_DEB (i : Nat) : Nat := 0xE01018 + 0x400 * i
/-- TCH_Sk_TRACK, Table 15.6. -/
def TCH_Sk_TRACK (i : Nat) : Nat := 0xE0101C + 0x400 * i
/-- TCH_Sk_TIME, Table 15.6. -/
def TCH_Sk_TIME (i : Nat) : Nat := 0xE01020 + 0x400 * i
/-- TCH_Sk_IDLE, Table 15.6. -/
def TCH_Sk_IDLE (i : Nat) : Nat := 0xE01024 + 0x400 * i
/-- TCH_Sk_STAT, Table 15.7. -/
def TCH_Sk_STAT (i : Nat) : Nat := 0xE01028 + 0x400 * i
/-- TCH_Sk_PROF, Table 15.7. -/
def TCH_Sk_PROF (i : Nat) : Nat := 0xE0102C + 0x400 * i
/-- TCH_Sk_PROF_CRC, Table 15.7. -/
def TCH_Sk_PROF_CRC (i : Nat) : Nat := 0xE01030 + 0x400 * i
/-- TCH_Sk_SNAP_CTRL, Table 15.7. -/
def TCH_Sk_SNAP_CTRL (i : Nat) : Nat := 0xE01040 + 0x400 * i
/-- TCH_Sk_SCAN, Table 15.7. -/
def TCH_Sk_SCAN (i : Nat) : Nat := 0xE01044 + 0x400 * i
/-- TCH_Sk_STAMP_LO, Table 15.7. -/
def TCH_Sk_STAMP_LO (i : Nat) : Nat := 0xE01048 + 0x400 * i
/-- TCH_Sk_STAMP_HI, Table 15.7. -/
def TCH_Sk_STAMP_HI (i : Nat) : Nat := 0xE0104C + 0x400 * i
/-- TCH_Sk_Rr_RECT0, Table 15.8. -/
def TCH_Sk_Rr_RECT0 (i j : Nat) : Nat := 0xE01100 + 0x400 * i + 0x10 * j
/-- TCH_Sk_Rr_RECT1, Table 15.8. -/
def TCH_Sk_Rr_RECT1 (i j : Nat) : Nat := 0xE01104 + 0x400 * i + 0x10 * j
/-- TCH_Sk_Rr_CFG, Table 15.8. -/
def TCH_Sk_Rr_CFG (i j : Nat) : Nat := 0xE01108 + 0x400 * i + 0x10 * j
/-- TCH_CHc, Table 15.8. -/
def TCH_CHc (i : Nat) : Nat := 0xE04000 + 0x4 * i
/-- HAP_INFO, Table 16.5. -/
def HAP_INFO : Nat := 0xE80000
/-- HAP_CTRL, Table 16.5. -/
def HAP_CTRL : Nat := 0xE80004
/-- HAP_Cn_CTRL, Table 16.6. -/
def HAP_Cn_CTRL (i : Nat) : Nat := 0xE81000 + 0x200 * i
/-- HAP_Cn_SUPPLY, Table 16.6. -/
def HAP_Cn_SUPPLY (i : Nat) : Nat := 0xE81004 + 0x200 * i
/-- HAP_Cn_PWM, Table 16.6. -/
def HAP_Cn_PWM (i : Nat) : Nat := 0xE81008 + 0x200 * i
/-- HAP_Cn_LIMIT, Table 16.6. -/
def HAP_Cn_LIMIT (i : Nat) : Nat := 0xE8100C + 0x200 * i
/-- HAP_Cn_BUDGET, Table 16.6. -/
def HAP_Cn_BUDGET (i : Nat) : Nat := 0xE81010 + 0x200 * i
/-- HAP_Cn_CAL0, Table 16.6. -/
def HAP_Cn_CAL0 (i : Nat) : Nat := 0xE81014 + 0x200 * i
/-- HAP_Cn_CAL1, Table 16.6. -/
def HAP_Cn_CAL1 (i : Nat) : Nat := 0xE81018 + 0x200 * i
/-- HAP_Cn_BRAKE, Table 16.6. -/
def HAP_Cn_BRAKE (i : Nat) : Nat := 0xE8101C + 0x200 * i
/-- HAP_Cn_STAT, Table 16.7. -/
def HAP_Cn_STAT (i : Nat) : Nat := 0xE81020 + 0x200 * i
/-- HAP_Cn_SNAP_CTRL, Table 16.8. -/
def HAP_Cn_SNAP_CTRL (i : Nat) : Nat := 0xE81030 + 0x200 * i
/-- HAP_Cn_HP, Table 16.8. -/
def HAP_Cn_HP (i : Nat) : Nat := 0xE81034 + 0x200 * i
/-- HAP_Cn_FRES, Table 16.8. -/
def HAP_Cn_FRES (i : Nat) : Nat := 0xE81038 + 0x200 * i
/-- HAP_Cn_CNT, Table 16.8. -/
def HAP_Cn_CNT (i : Nat) : Nat := 0xE8103C + 0x200 * i
/-- HAP_Cn_FXs_0, Table 16.9. -/
def HAP_Cn_FXs_0 (i j : Nat) : Nat := 0xE81100 + 0x200 * i + 0x10 * j
/-- HAP_Cn_FXs_1, Table 16.9. -/
def HAP_Cn_FXs_1 (i j : Nat) : Nat := 0xE81104 + 0x200 * i + 0x10 * j
/-- HAP_Cn_FXs_2, Table 16.9. -/
def HAP_Cn_FXs_2 (i j : Nat) : Nat := 0xE81108 + 0x200 * i + 0x10 * j
/-- HAP_Cn_FXs_3, Table 16.9. -/
def HAP_Cn_FXs_3 (i j : Nat) : Nat := 0xE8110C + 0x200 * i + 0x10 * j
/-- AUD_INFO, Table 17.7. -/
def AUD_INFO : Nat := 0xF00000
/-- AUD_CTRL, Table 17.7. -/
def AUD_CTRL : Nat := 0xF00004
/-- AUD_FRM_CTRL, Table 17.7. -/
def AUD_FRM_CTRL : Nat := 0xF00010
/-- AUD_FRM_ORIGIN_LO, Table 17.7. -/
def AUD_FRM_ORIGIN_LO : Nat := 0xF00014
/-- AUD_FRM_ORIGIN_HI, Table 17.7. -/
def AUD_FRM_ORIGIN_HI : Nat := 0xF00018
/-- AUD_FRM_INDEX, Table 17.7. -/
def AUD_FRM_INDEX : Nat := 0xF0001C
/-- AUD_Ss_CFG, Table 17.8. -/
def AUD_Ss_CFG (i : Nat) : Nat := 0xF01000 + 0x200 * i
/-- AUD_Ss_RATE, Table 17.8. -/
def AUD_Ss_RATE (i : Nat) : Nat := 0xF01004 + 0x200 * i
/-- AUD_Ss_CTRL, Table 17.8. -/
def AUD_Ss_CTRL (i : Nat) : Nat := 0xF01008 + 0x200 * i
/-- AUD_Ss_STAT, Table 17.8. -/
def AUD_Ss_STAT (i : Nat) : Nat := 0xF0100C + 0x200 * i
/-- AUD_Ss_GAINc, Table 17.8. -/
def AUD_Ss_GAINc (i j : Nat) : Nat := 0xF01010 + 0x200 * i + 0x4 * j
/-- AUD_Ss_SNAP_CTRL, Table 17.8. -/
def AUD_Ss_SNAP_CTRL (i : Nat) : Nat := 0xF01040 + 0x200 * i
/-- AUD_Ss_FRAMES, Table 17.8. -/
def AUD_Ss_FRAMES (i : Nat) : Nat := 0xF01044 + 0x200 * i
/-- AUD_Ss_INDEX, Table 17.8. -/
def AUD_Ss_INDEX (i : Nat) : Nat := 0xF01048 + 0x200 * i
/-- AUD_Ie_CTRL, Table 17.9. -/
def AUD_Ie_CTRL (i : Nat) : Nat := 0xF05000 + 0x40 * i
/-- AUD_Ie_STAT, Table 17.9. -/
def AUD_Ie_STAT (i : Nat) : Nat := 0xF05004 + 0x40 * i
/-- AUD_Ie_GAINc, Table 17.9. -/
def AUD_Ie_GAINc (i j : Nat) : Nat := 0xF05008 + 0x40 * i + 0x4 * j
/-- AUD_TDMn_FMT, Table 17.10. -/
def AUD_TDMn_FMT (i : Nat) : Nat := 0xF05400 + 0x10 * i
/-- AUD_TDMn_PSTAT, Table 17.10. -/
def AUD_TDMn_PSTAT (i : Nat) : Nat := 0xF05404 + 0x10 * i
/-- AUD_TDMn_FMT_ERR, Table 17.10. -/
def AUD_TDMn_FMT_ERR (i : Nat) : Nat := 0xF05408 + 0x10 * i
/-- AUD_ATT_CTRL, Table 17.11. -/
def AUD_ATT_CTRL : Nat := 0xF05800
/-- AUD_ATT_LEVEL, Table 17.11. -/
def AUD_ATT_LEVEL : Nat := 0xF05804
/-- AUD_ATT_SINKS, Table 17.11. -/
def AUD_ATT_SINKS : Nat := 0xF05808
/-- AUD_ATT_FLOOR, Table 17.11. -/
def AUD_ATT_FLOOR : Nat := 0xF0580C
/-- AUD_ATT_STAT, Table 17.11. -/
def AUD_ATT_STAT : Nat := 0xF05810
/-- AUD_ATT_STEPj, Table 17.11. -/
def AUD_ATT_STEPj (i : Nat) : Nat := 0xF05820 + 0x4 * i
/-- AUD_Kk_CTRL, Table 17.12. -/
def AUD_Kk_CTRL (i : Nat) : Nat := 0xF06000 + 0x400 * i
/-- AUD_Kk_GAIN, Table 17.12. -/
def AUD_Kk_GAIN (i : Nat) : Nat := 0xF06004 + 0x400 * i
/-- AUD_Kk_LIM, Table 17.12. -/
def AUD_Kk_LIM (i : Nat) : Nat := 0xF06008 + 0x400 * i
/-- AUD_Kk_STAT, Table 17.12. -/
def AUD_Kk_STAT (i : Nat) : Nat := 0xF0600C + 0x400 * i
/-- AUD_Kk_SELc_i, Table 17.12. -/
def AUD_Kk_SELc_i (i j k : Nat) : Nat := 0xF06100 + 0x400 * i + 0x20 * j + 0x4 * k
/-- AUD_Kk_MGc_i, Table 17.12. -/
def AUD_Kk_MGc_i (i j k : Nat) : Nat := 0xF06200 + 0x400 * i + 0x20 * j + 0x4 * k
/-- AUD_HSn_OUT, Table 17.13. -/
def AUD_HSn_OUT (i : Nat) : Nat := 0xF09000 + 0x100 * i
/-- AUD_HSn_DET, Table 17.13. -/
def AUD_HSn_DET (i : Nat) : Nat := 0xF09004 + 0x100 * i
/-- AUD_HSn_BTN, Table 17.13. -/
def AUD_HSn_BTN (i : Nat) : Nat := 0xF09008 + 0x100 * i
/-- AUD_HSn_STAT, Table 17.13. -/
def AUD_HSn_STAT (i : Nat) : Nat := 0xF0900C + 0x100 * i
/-- AUD_WB_BASE_LO, Table 17.14. -/
def AUD_WB_BASE_LO : Nat := 0xF09400
/-- AUD_WB_BASE_HI, Table 17.14. -/
def AUD_WB_BASE_HI : Nat := 0xF09404
/-- AUD_WB_LEN, Table 17.14. -/
def AUD_WB_LEN : Nat := 0xF09408
/-- AUD_WB_WPTR, Table 17.14. -/
def AUD_WB_WPTR : Nat := 0xF09414
/-- AUD_WB_INDEX, Table 17.14. -/
def AUD_WB_INDEX : Nat := 0xF09418
/-- AUD_WB_SNAP_CTRL, Table 17.14. -/
def AUD_WB_SNAP_CTRL : Nat := 0xF09410
/-- DMA_Cn_CTRL, Table 18.6. -/
def DMA_Cn_CTRL (i : Nat) : Nat := 0x1000000 + 0x100 * i
/-- DMA_Cn_SRC_LO, Table 18.6. -/
def DMA_Cn_SRC_LO (i : Nat) : Nat := 0x1000004 + 0x100 * i
/-- DMA_Cn_SRC_HI, Table 18.6. -/
def DMA_Cn_SRC_HI (i : Nat) : Nat := 0x1000008 + 0x100 * i
/-- DMA_Cn_DST_LO, Table 18.6. -/
def DMA_Cn_DST_LO (i : Nat) : Nat := 0x100000C + 0x100 * i
/-- DMA_Cn_DST_HI, Table 18.6. -/
def DMA_Cn_DST_HI (i : Nat) : Nat := 0x1000010 + 0x100 * i
/-- DMA_Cn_COUNT, Table 18.6. -/
def DMA_Cn_COUNT (i : Nat) : Nat := 0x1000014 + 0x100 * i
/-- DMA_Cn_DFLAGS, Table 18.6. -/
def DMA_Cn_DFLAGS (i : Nat) : Nat := 0x1000018 + 0x100 * i
/-- DMA_Cn_STAT, Table 18.6. -/
def DMA_Cn_STAT (i : Nat) : Nat := 0x100001C + 0x100 * i
/-- DMA_Cn_MOVED, Table 18.6. -/
def DMA_Cn_MOVED (i : Nat) : Nat := 0x1000024 + 0x100 * i
/-- DMA_Cn_SETS, Table 18.6. -/
def DMA_Cn_SETS (i : Nat) : Nat := 0x1000028 + 0x100 * i
/-- DMA_Cn_SNAP_CTRL, Table 18.6. -/
def DMA_Cn_SNAP_CTRL (i : Nat) : Nat := 0x1000020 + 0x100 * i
/-- DMA_CTRL, Table 18.7. -/
def DMA_CTRL : Nat := 0x1008000
/-- DMA_RATEn, Table 18.7. -/
def DMA_RATEn (i : Nat) : Nat := 0x1008100 + 0x4 * i
/-- DMA_RATE_STAT, Table 18.7. -/
def DMA_RATE_STAT : Nat := 0x1008300
/-- CV_Un_CTRL, Table 18.8. -/
def CV_Un_CTRL (i : Nat) : Nat := 0x1100000 + 0x100 * i
/-- CV_Un_ADDR_LO, Table 18.8. -/
def CV_Un_ADDR_LO (i : Nat) : Nat := 0x1100004 + 0x100 * i
/-- CV_Un_ADDR_HI, Table 18.8. -/
def CV_Un_ADDR_HI (i : Nat) : Nat := 0x1100008 + 0x100 * i
/-- CV_Un_LEN, Table 18.8. -/
def CV_Un_LEN (i : Nat) : Nat := 0x110000C + 0x100 * i
/-- CV_Un_STAT, Table 18.8. -/
def CV_Un_STAT (i : Nat) : Nat := 0x1100010 + 0x100 * i
/-- CV_Un_COUNT_LO, Table 18.8. -/
def CV_Un_COUNT_LO (i : Nat) : Nat := 0x1100018 + 0x100 * i
/-- CV_Un_COUNT_HI, Table 18.8. -/
def CV_Un_COUNT_HI (i : Nat) : Nat := 0x110001C + 0x100 * i
/-- CV_Un_STATEi, Table 18.8. -/
def CV_Un_STATEi (i j : Nat) : Nat := 0x1100020 + 0x100 * i + 0x4 * j
/-- CV_Un_SNAP_CTRL, Table 18.8. -/
def CV_Un_SNAP_CTRL (i : Nat) : Nat := 0x1100014 + 0x100 * i
/-- CLK_STAT, Table 19.8. -/
def CLK_STAT : Nat := 0x1200000
/-- CLK_SNAP_CTRL, Table 19.9. -/
def CLK_SNAP_CTRL : Nat := 0x1200010
/-- CLK_LOSS_START_LO, Table 19.9. -/
def CLK_LOSS_START_LO : Nat := 0x1200014
/-- CLK_LOSS_START_HI, Table 19.9. -/
def CLK_LOSS_START_HI : Nat := 0x1200018
/-- CLK_LOSS_END_LO, Table 19.9. -/
def CLK_LOSS_END_LO : Nat := 0x120001C
/-- CLK_LOSS_END_HI, Table 19.9. -/
def CLK_LOSS_END_HI : Nat := 0x1200020
/-- CLK_ISLn, Table 19.10. -/
def CLK_ISLn (i : Nat) : Nat := 0x1200100 + 0x4 * i
/-- RST_CAUSE, Table 19.11. -/
def RST_CAUSE : Nat := 0x1210000
/-- RST_REQ, Table 19.11. -/
def RST_REQ : Nat := 0x1210004
/-- RST_BLK, Table 19.11. -/
def RST_BLK : Nat := 0x121000C
/-- RST_BLK_STAT, Table 19.11. -/
def RST_BLK_STAT : Nat := 0x1210014
/-- RST_WD_CTRL, Table 19.11. -/
def RST_WD_CTRL : Nat := 0x1210020
/-- RST_WD_SVC, Table 19.11. -/
def RST_WD_SVC : Nat := 0x1210024
/-- RST_WD_STAT, Table 19.11. -/
def RST_WD_STAT : Nat := 0x121002C
/-- RST_REQ_N, Table 19.11. -/
def RST_REQ_N : Nat := 0x1210008
/-- RST_BLK_N, Table 19.11. -/
def RST_BLK_N : Nat := 0x1210010
/-- RST_WD_SVC_N, Table 19.11. -/
def RST_WD_SVC_N : Nat := 0x1210028
/-- PWR_CTRL, Table 19.12. -/
def PWR_CTRL : Nat := 0x1220000
/-- PWR_STAT, Table 19.12. -/
def PWR_STAT : Nat := 0x1220004
/-- PWR_GSEL, Table 19.12. -/
def PWR_GSEL : Nat := 0x1220010
/-- PWR_GINFO, Table 19.12. -/
def PWR_GINFO : Nat := 0x1220014
/-- PWR_THERM, Table 22.12. -/
def PWR_THERM : Nat := 0x1220020
/-- PWR_THERM_CTRL, Table 22.12. -/
def PWR_THERM_CTRL : Nat := 0x1220024
/-- REG_CHURN_CTRL, Table 20.8. -/
def REG_CHURN_CTRL : Nat := 0x1230020
/-- REG_CHURN_STAT, Table 20.8. -/
def REG_CHURN_STAT : Nat := 0x1230024
/-- REG_CHURN_CNT, Table 20.8. -/
def REG_CHURN_CNT : Nat := 0x1230028
/-- REG_PAIR_STAT, Table 20.8. -/
def REG_PAIR_STAT : Nat := 0x1230030
/-- REG_CRC_CTRL, Table 20.9. -/
def REG_CRC_CTRL : Nat := 0x1230040
/-- REG_CRC_STAT, Table 20.9. -/
def REG_CRC_STAT : Nat := 0x1230044
/-- REG_CRC_COMMIT, Table 20.9. -/
def REG_CRC_COMMIT : Nat := 0x1230048
/-- REG_CRC_RESYNC, Table 20.9. -/
def REG_CRC_RESYNC : Nat := 0x1230050
/-- REG_CRC_HOLM_REF, Table 20.9. -/
def REG_CRC_HOLM_REF : Nat := 0x1230064
/-- REG_CRC_COMMITTED, Table 20.9. -/
def REG_CRC_COMMITTED : Nat := 0x1230068
/-- REG_CRC_PASSES, Table 20.9. -/
def REG_CRC_PASSES : Nat := 0x123006C
/-- REG_CRC_COMMIT_N, Table 20.9. -/
def REG_CRC_COMMIT_N : Nat := 0x123004C
/-- REG_CRC_RESYNC_N, Table 20.9. -/
def REG_CRC_RESYNC_N : Nat := 0x1230054
/-- REG_CRC_SNAP_CTRL, Table 20.9. -/
def REG_CRC_SNAP_CTRL : Nat := 0x1230060
/-- REG_ERR, Table 20.10. -/
def REG_ERR : Nat := 0x1230080
/-- REG_BOOT_STAT, Table 21.12. -/
def REG_BOOT_STAT : Nat := 0x1230100
/-- REG_OTP_STAT, Table 21.13. -/
def REG_OTP_STAT : Nat := 0x1230104
/-- REG_DUMP_STAT, Table 21.14. -/
def REG_DUMP_STAT : Nat := 0x1230108
/-- REG_DUMP_CTRL, Table 21.14. -/
def REG_DUMP_CTRL : Nat := 0x123010C
/-- DBG_STAT, Table 5.17. -/
def DBG_STAT : Nat := 0x1300000
/-- DBG_DENY, Table 5.18. -/
def DBG_DENY : Nat := 0x1300004
/-- DBG_CTRL, Table 5.19. -/
def DBG_CTRL : Nat := 0x1300008

end Sys2Proof.Machine.Reg

namespace Sys2Proof.Machine.Fld

/-- REG_DEVICE_ID.PART, Table 0.2, RO. -/
def REG_DEVICE_ID_PART : Bits := ⟨31, 16⟩
/-- REG_DEVICE_ID.STEP_MAJOR, Table 0.2, RO. -/
def REG_DEVICE_ID_STEP_MAJOR : Bits := ⟨15, 12⟩
/-- REG_DEVICE_ID.STEP_MINOR, Table 0.2, RO. -/
def REG_DEVICE_ID_STEP_MINOR : Bits := ⟨11, 8⟩
/-- REG_DEVICE_ID.GRADE, Table 0.2, RO. -/
def REG_DEVICE_ID_GRADE : Bits := ⟨7, 4⟩
/-- REG_GTB_CTRL.SEQ, Table 1.5, RO. -/
def REG_GTB_CTRL_SEQ : Bits := ⟨31, 16⟩
/-- REG_GTB_CTRL.VALID, Table 1.5, RO. -/
def REG_GTB_CTRL_VALID : Bits := ⟨1, 1⟩
/-- REG_GTB_CTRL.SNAP, Table 1.5, WO. -/
def REG_GTB_CTRL_SNAP : Bits := ⟨0, 0⟩
/-- REG_GTB_LO.GTB_LO, Table 1.6, RO. -/
def REG_GTB_LO_GTB_LO : Bits := ⟨31, 0⟩
/-- REG_GTB_HI.GTB_HI, Table 1.6, RO. -/
def REG_GTB_HI_GTB_HI : Bits := ⟨31, 0⟩
/-- MGT_CTR_CTRL.SEQ, Table 2.16, RO. -/
def MGT_CTR_CTRL_SEQ : Bits := ⟨31, 16⟩
/-- MGT_CTR_CTRL.PROBATION, Table 2.16, RO. -/
def MGT_CTR_CTRL_PROBATION : Bits := ⟨2, 2⟩
/-- MGT_CTR_CTRL.VALID, Table 2.16, RO. -/
def MGT_CTR_CTRL_VALID : Bits := ⟨1, 1⟩
/-- MGT_CTR_CTRL.SNAP, Table 2.16, WO. -/
def MGT_CTR_CTRL_SNAP : Bits := ⟨0, 0⟩
/-- MGT_CTR_OPEN.OPEN_PERIODIC, Table 2.17, RO. -/
def MGT_CTR_OPEN_OPEN_PERIODIC : Bits := ⟨24, 16⟩
/-- MGT_CTR_OPEN.OPEN_ONESHOT, Table 2.17, RO. -/
def MGT_CTR_OPEN_OPEN_ONESHOT : Bits := ⟨8, 0⟩
/-- MGT_CTR_DONE.DONE, Table 2.18, RO. -/
def MGT_CTR_DONE_DONE : Bits := ⟨31, 0⟩
/-- MGT_CTR_BREACH.CHARGED, Table 2.19, RO. -/
def MGT_CTR_BREACH_CHARGED : Bits := ⟨31, 16⟩
/-- MGT_CTR_BREACH.NOT_CHARGED, Table 2.19, RO. -/
def MGT_CTR_BREACH_NOT_CHARGED : Bits := ⟨15, 0⟩
/-- MGT_CTR_REFUSED.REFUSED, Table 2.20, RO. -/
def MGT_CTR_REFUSED_REFUSED : Bits := ⟨31, 0⟩
/-- MGT_RINGn_BASE_LO.BASE_LO, Table 3.7, RW. -/
def MGT_RINGn_BASE_LO_BASE_LO : Bits := ⟨31, 12⟩
/-- MGT_RINGn_BASE_HI.BASE_HI, Table 3.8, RW. -/
def MGT_RINGn_BASE_HI_BASE_HI : Bits := ⟨31, 0⟩
/-- MGT_RINGn_CTRL.RESET, Table 3.9, WO. -/
def MGT_RINGn_CTRL_RESET : Bits := ⟨2, 2⟩
/-- MGT_RINGn_CTRL.IRQ_EN, Table 3.9, RW. -/
def MGT_RINGn_CTRL_IRQ_EN : Bits := ⟨1, 1⟩
/-- MGT_RINGn_CTRL.ENABLE, Table 3.9, RW. -/
def MGT_RINGn_CTRL_ENABLE : Bits := ⟨0, 0⟩
/-- MGT_RINGn_DB.PI, Table 3.10, WO. -/
def MGT_RINGn_DB_PI : Bits := ⟨6, 0⟩
/-- MGT_RINGn_PTR.RI, Table 3.11, RO. -/
def MGT_RINGn_PTR_RI : Bits := ⟨22, 16⟩
/-- MGT_RINGn_PTR.CI, Table 3.11, RO. -/
def MGT_RINGn_PTR_CI : Bits := ⟨14, 8⟩
/-- MGT_RINGn_PTR.PI, Table 3.11, RO. -/
def MGT_RINGn_PTR_PI : Bits := ⟨6, 0⟩
/-- MGT_RINGn_STATUS.FETCH_ERR, Table 3.12, W1C. -/
def MGT_RINGn_STATUS_FETCH_ERR : Bits := ⟨3, 3⟩
/-- MGT_RINGn_STATUS.DB_OVERRUN, Table 3.12, W1C. -/
def MGT_RINGn_STATUS_DB_OVERRUN : Bits := ⟨2, 2⟩
/-- MGT_RINGn_STATUS.RESET_PENDING, Table 3.12, RO. -/
def MGT_RINGn_STATUS_RESET_PENDING : Bits := ⟨1, 1⟩
/-- MGT_RINGn_STATUS.BUSY, Table 3.12, RO. -/
def MGT_RINGn_STATUS_BUSY : Bits := ⟨0, 0⟩
/-- MGT_SES_CTRL.SEQ, Table 4.7, RO. -/
def MGT_SES_CTRL_SEQ : Bits := ⟨31, 16⟩
/-- MGT_SES_CTRL.VALID, Table 4.7, RO. -/
def MGT_SES_CTRL_VALID : Bits := ⟨1, 1⟩
/-- MGT_SES_CTRL.SNAP, Table 4.7, WO. -/
def MGT_SES_CTRL_SNAP : Bits := ⟨0, 0⟩
/-- MGT_SES_COUNT.R1_PENDING, Table 4.8, RO. -/
def MGT_SES_COUNT_R1_PENDING : Bits := ⟨15, 12⟩
/-- MGT_SES_COUNT.R1_OPEN, Table 4.8, RO. -/
def MGT_SES_COUNT_R1_OPEN : Bits := ⟨11, 8⟩
/-- MGT_SES_COUNT.R0_PENDING, Table 4.8, RO. -/
def MGT_SES_COUNT_R0_PENDING : Bits := ⟨7, 4⟩
/-- MGT_SES_COUNT.R0_OPEN, Table 4.8, RO. -/
def MGT_SES_COUNT_R0_OPEN : Bits := ⟨3, 0⟩
/-- MGT_SES_AUTH.AUTH_FAILS, Table 4.9, RO. -/
def MGT_SES_AUTH_AUTH_FAILS : Bits := ⟨31, 16⟩
/-- MGT_SES_AUTH.R1_LOCKED, Table 4.9, RO. -/
def MGT_SES_AUTH_R1_LOCKED : Bits := ⟨1, 1⟩
/-- MGT_SES_AUTH.R0_LOCKED, Table 4.9, RO. -/
def MGT_SES_AUTH_R0_LOCKED : Bits := ⟨0, 0⟩
/-- EQ_BASE_LO.BASE_LO, Table 6.11, RW. -/
def EQ_BASE_LO_BASE_LO : Bits := ⟨31, 12⟩
/-- EQ_BASE_HI.BASE_HI, Table 6.11, RW. -/
def EQ_BASE_HI_BASE_HI : Bits := ⟨31, 0⟩
/-- EQ_CTRL.SIZE, Table 6.12, RW. -/
def EQ_CTRL_SIZE : Bits := ⟨7, 4⟩
/-- EQ_CTRL.IRQ_EN, Table 6.12, RW. -/
def EQ_CTRL_IRQ_EN : Bits := ⟨1, 1⟩
/-- EQ_CTRL.ENABLE, Table 6.12, RW. -/
def EQ_CTRL_ENABLE : Bits := ⟨0, 0⟩
/-- EQ_RD.RI, Table 6.13, RW. -/
def EQ_RD_RI : Bits := ⟨12, 0⟩
/-- EQ_PTR.RI, Table 6.14, RO. -/
def EQ_PTR_RI : Bits := ⟨28, 16⟩
/-- EQ_PTR.WI, Table 6.14, RO. -/
def EQ_PTR_WI : Bits := ⟨12, 0⟩
/-- EQ_STATUS.LOST, Table 6.15, RO. -/
def EQ_STATUS_LOST : Bits := ⟨31, 16⟩
/-- EQ_STATUS.BACKLOG, Table 6.15, RO. -/
def EQ_STATUS_BACKLOG : Bits := ⟨9, 3⟩
/-- EQ_STATUS.OVERFLOW, Table 6.15, W1C. -/
def EQ_STATUS_OVERFLOW : Bits := ⟨1, 1⟩
/-- EQ_STATUS.RI_ERR, Table 6.15, W1C. -/
def EQ_STATUS_RI_ERR : Bits := ⟨0, 0⟩
/-- ISO_WHOAMI.WORLD, Table 5.9, RO. -/
def ISO_WHOAMI_WORLD : Bits := ⟨8, 8⟩
/-- ISO_WHOAMI.REQUESTER, Table 5.9, RO. -/
def ISO_WHOAMI_REQUESTER : Bits := ⟨7, 0⟩
/-- ISO_DBG.BOOT_EN, Table 5.10, RO. -/
def ISO_DBG_BOOT_EN : Bits := ⟨7, 4⟩
/-- ISO_DBG.STEER_H, Table 5.10, W1C. -/
def ISO_DBG_STEER_H : Bits := ⟨3, 3⟩
/-- ISO_DBG.WATCH_H, Table 5.10, W1C. -/
def ISO_DBG_WATCH_H : Bits := ⟨2, 2⟩
/-- ISO_DBG.STEER_M, Table 5.10, W1C. -/
def ISO_DBG_STEER_M : Bits := ⟨1, 1⟩
/-- ISO_DBG.WATCH_M, Table 5.10, W1C. -/
def ISO_DBG_WATCH_M : Bits := ⟨0, 0⟩
/-- ISO_PORT.HOLM_PORT, Table 5.11, RO. -/
def ISO_PORT_HOLM_PORT : Bits := ⟨3, 0⟩
/-- ISO_CTRL.NOTICE_EN, Table 5.12, RW. -/
def ISO_CTRL_NOTICE_EN : Bits := ⟨4, 4⟩
/-- ISO_CTRL.NOTICE_PF, Table 5.12, RW. -/
def ISO_CTRL_NOTICE_PF : Bits := ⟨1, 0⟩
/-- ISO_OWN_IDX.CLASS, Table 5.13, RW. -/
def ISO_OWN_IDX_CLASS : Bits := ⟨15, 12⟩
/-- ISO_OWN_IDX.INDEX, Table 5.13, RW. -/
def ISO_OWN_IDX_INDEX : Bits := ⟨11, 0⟩
/-- ISO_OWN_DATA.FIXED, Table 5.14, RO. -/
def ISO_OWN_DATA_FIXED : Bits := ⟨31, 31⟩
/-- ISO_OWN_DATA.GRANTED, Table 5.14, PW. -/
def ISO_OWN_DATA_GRANTED : Bits := ⟨15, 15⟩
/-- ISO_OWN_DATA.FN, Table 5.14, PW. -/
def ISO_OWN_DATA_FN : Bits := ⟨13, 8⟩
/-- ISO_OWN_DATA.WORLD, Table 5.14, PW. -/
def ISO_OWN_DATA_WORLD : Bits := ⟨0, 0⟩
/-- ISO_OWN_STAT.REFUSED, Table 5.15, W1C. -/
def ISO_OWN_STAT_REFUSED : Bits := ⟨3, 3⟩
/-- ISO_OWN_STAT.INVALID, Table 5.15, W1C. -/
def ISO_OWN_STAT_INVALID : Bits := ⟨2, 2⟩
/-- ISO_OWN_STAT.PENDING, Table 5.15, RO. -/
def ISO_OWN_STAT_PENDING : Bits := ⟨1, 1⟩
/-- ISO_OWN_STAT.DONE, Table 5.15, W1C. -/
def ISO_OWN_STAT_DONE : Bits := ⟨0, 0⟩
/-- ISO_LOG_STAT.LOST, Table 5.16, RO. -/
def ISO_LOG_STAT_LOST : Bits := ⟨31, 16⟩
/-- ISO_LOG_STAT.FIFO_LEVEL, Table 5.16, RO. -/
def ISO_LOG_STAT_FIFO_LEVEL : Bits := ⟨6, 0⟩
/-- HIF_PORTCFG.PF_PRESENT, Table 6.16, RO. -/
def HIF_PORTCFG_PF_PRESENT : Bits := ⟨11, 8⟩
/-- HIF_PORTCFG.PORTMODE, Table 6.16, RO. -/
def HIF_PORTCFG_PORTMODE : Bits := ⟨2, 0⟩
/-- HIF_FN_PICK_LO.LAYERS_LO, Table 6.17, RW. -/
def HIF_FN_PICK_LO_LAYERS_LO : Bits := ⟨31, 0⟩
/-- HIF_FN_PICK_HI.LAYERS_HI, Table 6.17, RW. -/
def HIF_FN_PICK_HI_LAYERS_HI : Bits := ⟨31, 0⟩
/-- HIF_FN_PICK_SENSOR.SENSORS, Table 6.18, RW. -/
def HIF_FN_PICK_SENSOR_SENSORS : Bits := ⟨7, 0⟩
/-- HIF_FN_SEL.FN, Table 6.19, RW. -/
def HIF_FN_SEL_FN : Bits := ⟨5, 0⟩
/-- HIF_FN_INFO.DMA_CH, Table 6.20, RO. -/
def HIF_FN_INFO_DMA_CH : Bits := ⟨29, 24⟩
/-- HIF_FN_INFO.LAYERS, Table 6.20, RO. -/
def HIF_FN_INFO_LAYERS : Bits := ⟨20, 16⟩
/-- HIF_FN_INFO.MSIX, Table 6.20, RO. -/
def HIF_FN_INFO_MSIX : Bits := ⟨14, 8⟩
/-- HIF_FN_INFO.PORT, Table 6.20, RO. -/
def HIF_FN_INFO_PORT : Bits := ⟨5, 4⟩
/-- HIF_FN_INFO.STATE, Table 6.20, RO. -/
def HIF_FN_INFO_STATE : Bits := ⟨2, 0⟩
/-- HIF_MSIX_POOL.FREE, Table 6.21, RO. -/
def HIF_MSIX_POOL_FREE : Bits := ⟨11, 0⟩
/-- VAT_ECC_CTRL.SEQ, Table 7.12, RO. -/
def VAT_ECC_CTRL_SEQ : Bits := ⟨31, 16⟩
/-- VAT_ECC_CTRL.VALID, Table 7.12, RO. -/
def VAT_ECC_CTRL_VALID : Bits := ⟨1, 1⟩
/-- VAT_ECC_CTRL.SNAP, Table 7.12, WO. -/
def VAT_ECC_CTRL_SNAP : Bits := ⟨0, 0⟩
/-- VAT_ECC_CNT.CORRECTED, Table 7.13, RO. -/
def VAT_ECC_CNT_CORRECTED : Bits := ⟨31, 16⟩
/-- VAT_ECC_CNT.UNCORRECTED, Table 7.13, RO. -/
def VAT_ECC_CNT_UNCORRECTED : Bits := ⟨15, 0⟩
/-- VAT_ECC_LAST.UE, Table 7.14, RO. -/
def VAT_ECC_LAST_UE : Bits := ⟨31, 31⟩
/-- VAT_ECC_LAST.OFFSET, Table 7.14, RO. -/
def VAT_ECC_LAST_OFFSET : Bits := ⟨25, 3⟩
/-- VAT_LEASE_STAT.PEAK, Table 7.15, RO. -/
def VAT_LEASE_STAT_PEAK : Bits := ⟨26, 16⟩
/-- VAT_LEASE_STAT.IN_USE, Table 7.15, RO. -/
def VAT_LEASE_STAT_IN_USE : Bits := ⟨10, 0⟩
/-- DRC_CFG.DRB_CAP, Table 7.16, RO. -/
def DRC_CFG_DRB_CAP : Bits := ⟨24, 16⟩
/-- DRC_CFG.LINK_ECC, Table 7.16, RO. -/
def DRC_CFG_LINK_ECC : Bits := ⟨6, 6⟩
/-- DRC_CFG.DENSITY, Table 7.16, RO. -/
def DRC_CFG_DENSITY : Bits := ⟨5, 4⟩
/-- DRC_CFG.RANKS, Table 7.16, RO. -/
def DRC_CFG_RANKS : Bits := ⟨2, 2⟩
/-- DRC_CFG.RATE, Table 7.16, RO. -/
def DRC_CFG_RATE : Bits := ⟨1, 0⟩
/-- DRC_POOL.CLEARING, Table 7.17, RO. -/
def DRC_POOL_CLEARING : Bits := ⟨31, 16⟩
/-- DRC_POOL.FREE, Table 7.17, RO. -/
def DRC_POOL_FREE : Bits := ⟨15, 0⟩
/-- DRC_SR_STAT.EXITS, Table 7.18, RO. -/
def DRC_SR_STAT_EXITS : Bits := ⟨31, 16⟩
/-- DRC_SR_STAT.HELD, Table 7.18, RO. -/
def DRC_SR_STAT_HELD : Bits := ⟨1, 1⟩
/-- DRC_SR_STAT.IN_SR, Table 7.18, RO. -/
def DRC_SR_STAT_IN_SR : Bits := ⟨0, 0⟩
/-- DRC_COn_BASE.BASE, Table 7.19, RW. -/
def DRC_COn_BASE_BASE : Bits := ⟨13, 0⟩
/-- DRC_COn_SIZE.SIZE, Table 7.19, RW. -/
def DRC_COn_SIZE_SIZE : Bits := ⟨13, 0⟩
/-- DRC_CO_LOCK.LOCK, Table 7.20, RW. -/
def DRC_CO_LOCK_LOCK : Bits := ⟨0, 0⟩
/-- GPX_INFO.SAMPLES_MAX, Table 8.12, RO. -/
def GPX_INFO_SAMPLES_MAX : Bits := ⟨31, 24⟩
/-- GPX_INFO.TILE_SIZE, Table 8.12, RO. -/
def GPX_INFO_TILE_SIZE : Bits := ⟨23, 16⟩
/-- GPX_INFO.LANES, Table 8.12, RO. -/
def GPX_INFO_LANES : Bits := ⟨15, 8⟩
/-- GPX_INFO.CORES, Table 8.12, RO. -/
def GPX_INFO_CORES : Bits := ⟨4, 0⟩
/-- GPX_CNT_CTRL.SEQ, Table 8.13, RO. -/
def GPX_CNT_CTRL_SEQ : Bits := ⟨31, 16⟩
/-- GPX_CNT_CTRL.VALID, Table 8.13, RO. -/
def GPX_CNT_CTRL_VALID : Bits := ⟨1, 1⟩
/-- GPX_CNT_CTRL.SNAP, Table 8.13, WO. -/
def GPX_CNT_CTRL_SNAP : Bits := ⟨0, 0⟩
/-- GPX_CNT_JOBS.JOBS, Table 8.14, RO. -/
def GPX_CNT_JOBS_JOBS : Bits := ⟨31, 0⟩
/-- GPX_CNT_TILES.TILES, Table 8.15, RO. -/
def GPX_CNT_TILES_TILES : Bits := ⟨31, 0⟩
/-- GPX_CNT_HSR.REMOVED, Table 8.16, RO. -/
def GPX_CNT_HSR_REMOVED : Bits := ⟨31, 0⟩
/-- GPX_CNT_FAULTS.BIN_OVERFLOWS, Table 8.17, RO. -/
def GPX_CNT_FAULTS_BIN_OVERFLOWS : Bits := ⟨31, 16⟩
/-- GPX_CNT_FAULTS.FAULTS, Table 8.17, RO. -/
def GPX_CNT_FAULTS_FAULTS : Bits := ⟨15, 0⟩
/-- GPX_SCHED_STAT.LIVE, Table 9.7, RO. -/
def GPX_SCHED_STAT_LIVE : Bits := ⟨29, 24⟩
/-- GPX_SCHED_STAT.SLOTS_FREE, Table 9.7, RO. -/
def GPX_SCHED_STAT_SLOTS_FREE : Bits := ⟨21, 16⟩
/-- GPX_SCHED_STAT.CLAIM_CORES, Table 9.7, RO. -/
def GPX_SCHED_STAT_CLAIM_CORES : Bits := ⟨10, 8⟩
/-- GPX_SCHED_STAT.IN_SECTION, Table 9.7, RO. -/
def GPX_SCHED_STAT_IN_SECTION : Bits := ⟨3, 0⟩
/-- GPX_PRE_CTRL.SEQ, Table 9.8, RO. -/
def GPX_PRE_CTRL_SEQ : Bits := ⟨31, 16⟩
/-- GPX_PRE_CTRL.VALID, Table 9.8, RO. -/
def GPX_PRE_CTRL_VALID : Bits := ⟨1, 1⟩
/-- GPX_PRE_CTRL.SNAP, Table 9.8, WO. -/
def GPX_PRE_CTRL_SNAP : Bits := ⟨0, 0⟩
/-- GPX_PRE_COMP.CLAIMS, Table 9.9, RO. -/
def GPX_PRE_COMP_CLAIMS : Bits := ⟨31, 0⟩
/-- GPX_PRE_SWAP.SWAPS, Table 9.10, RO. -/
def GPX_PRE_SWAP_SWAPS : Bits := ⟨31, 0⟩
/-- GPX_PRE_WORST.SECTIONS_ENDED, Table 9.11, RO. -/
def GPX_PRE_WORST_SECTIONS_ENDED : Bits := ⟨31, 16⟩
/-- GPX_PRE_WORST.WORST, Table 9.11, RO. -/
def GPX_PRE_WORST_WORST : Bits := ⟨9, 0⟩
/-- GPX_SKIM_CNT.STRIPS, Table 9.12, RO. -/
def GPX_SKIM_CNT_STRIPS : Bits := ⟨31, 0⟩
/-- GPX_CORE_STATc.FUNCTION, Table 8.18, RO. -/
def GPX_CORE_STATc_FUNCTION : Bits := ⟨23, 16⟩
/-- GPX_CORE_STATc.CLASS, Table 8.18, RO. -/
def GPX_CORE_STATc_CLASS : Bits := ⟨9, 8⟩
/-- GPX_CORE_STATc.STATE, Table 8.18, RO. -/
def GPX_CORE_STATc_STATE : Bits := ⟨3, 0⟩
/-- TRV_INFO.STEP_CYCLES, Table 10.5, RO. -/
def TRV_INFO_STEP_CYCLES : Bits := ⟨15, 8⟩
/-- TRV_INFO.WIDTH, Table 10.5, RO. -/
def TRV_INFO_WIDTH : Bits := ⟨7, 4⟩
/-- TRV_INFO.ENGINES, Table 10.5, RO. -/
def TRV_INFO_ENGINES : Bits := ⟨3, 0⟩
/-- TRV_STAT.QUEUED, Table 10.6, RO. -/
def TRV_STAT_QUEUED : Bits := ⟨31, 24⟩
/-- TRV_STAT.LAST_CLASS, Table 10.6, RO. -/
def TRV_STAT_LAST_CLASS : Bits := ⟨10, 8⟩
/-- TRV_STAT.CLEAR_REFUSED, Table 10.6, W1C. -/
def TRV_STAT_CLEAR_REFUSED : Bits := ⟨3, 3⟩
/-- TRV_STAT.BUSY, Table 10.6, RO. -/
def TRV_STAT_BUSY : Bits := ⟨2, 2⟩
/-- TRV_STAT.TRV_FAULT, Table 10.6, RO. -/
def TRV_STAT_TRV_FAULT : Bits := ⟨1, 1⟩
/-- TRV_STAT.RASTER_FAULT, Table 10.6, RO. -/
def TRV_STAT_RASTER_FAULT : Bits := ⟨0, 0⟩
/-- TRV_CTRL.CLEAR_TRV, Table 10.7, PW. -/
def TRV_CTRL_CLEAR_TRV : Bits := ⟨3, 3⟩
/-- TRV_CTRL.CLEAR_RASTER, Table 10.7, PW. -/
def TRV_CTRL_CLEAR_RASTER : Bits := ⟨2, 2⟩
/-- TRV_CTRL.SET_TRV, Table 10.7, PW. -/
def TRV_CTRL_SET_TRV : Bits := ⟨1, 1⟩
/-- TRV_CTRL.SET_RASTER, Table 10.7, PW. -/
def TRV_CTRL_SET_RASTER : Bits := ⟨0, 0⟩
/-- TRV_ST_CTRL.SEQ, Table 10.8, RO. -/
def TRV_ST_CTRL_SEQ : Bits := ⟨31, 16⟩
/-- TRV_ST_CTRL.VALID, Table 10.8, RO. -/
def TRV_ST_CTRL_VALID : Bits := ⟨1, 1⟩
/-- TRV_ST_CTRL.SNAP, Table 10.8, WO. -/
def TRV_ST_CTRL_SNAP : Bits := ⟨0, 0⟩
/-- TRV_ST_RASTER.SIG, Table 10.8, RO. -/
def TRV_ST_RASTER_SIG : Bits := ⟨31, 0⟩
/-- TRV_ST_TRAV.SIG, Table 10.8, RO. -/
def TRV_ST_TRAV_SIG : Bits := ⟨31, 0⟩
/-- TRV_ST_REF.SIG, Table 10.8, RO. -/
def TRV_ST_REF_SIG : Bits := ⟨31, 0⟩
/-- TRV_ARMn.PENDING, Table 10.9, RO. -/
def TRV_ARMn_PENDING : Bits := ⟨8, 8⟩
/-- TRV_ARMn.ARM_ERR, Table 10.9, W1C. -/
def TRV_ARMn_ARM_ERR : Bits := ⟨7, 7⟩
/-- TRV_ARMn.DISARMED_WRITE, Table 10.9, W1C. -/
def TRV_ARMn_DISARMED_WRITE : Bits := ⟨6, 6⟩
/-- TRV_ARMn.ACTIVE, Table 10.9, RO. -/
def TRV_ARMn_ACTIVE : Bits := ⟨5, 5⟩
/-- TRV_ARMn.ACTIVE_VALID, Table 10.9, RO. -/
def TRV_ARMn_ACTIVE_VALID : Bits := ⟨4, 4⟩
/-- TRV_ARMn.ARMED_B, Table 10.9, RO. -/
def TRV_ARMn_ARMED_B : Bits := ⟨3, 3⟩
/-- TRV_ARMn.ARMED_A, Table 10.9, RO. -/
def TRV_ARMn_ARMED_A : Bits := ⟨2, 2⟩
/-- TRV_ARMn.ARM_B, Table 10.9, WO. -/
def TRV_ARMn_ARM_B : Bits := ⟨1, 1⟩
/-- TRV_ARMn.ARM_A, Table 10.9, WO. -/
def TRV_ARMn_ARM_A : Bits := ⟨0, 0⟩
/-- TRV_RECn.LIMIT_HITS, Table 10.10, RO. -/
def TRV_RECn_LIMIT_HITS : Bits := ⟨31, 16⟩
/-- TRV_RECn.RENDERS, Table 10.10, RO. -/
def TRV_RECn_RENDERS : Bits := ⟨15, 0⟩
/-- OP_CTRL.REGAMMA_EN, Table 11.7, SH. -/
def OP_CTRL_REGAMMA_EN : Bits := ⟨11, 11⟩
/-- OP_CTRL.LUT3D_EN, Table 11.7, SH. -/
def OP_CTRL_LUT3D_EN : Bits := ⟨10, 10⟩
/-- OP_CTRL.CSC_EN, Table 11.7, SH. -/
def OP_CTRL_CSC_EN : Bits := ⟨9, 9⟩
/-- OP_CTRL.DEGAMMA_EN, Table 11.7, SH. -/
def OP_CTRL_DEGAMMA_EN : Bits := ⟨8, 8⟩
/-- OP_CTRL.ZORDER_EN, Table 11.7, SH. -/
def OP_CTRL_ZORDER_EN : Bits := ⟨5, 5⟩
/-- OP_CTRL.DITHER, Table 11.7, SH. -/
def OP_CTRL_DITHER : Bits := ⟨3, 2⟩
/-- OP_CTRL.PANEL_BPC, Table 11.7, SH. -/
def OP_CTRL_PANEL_BPC : Bits := ⟨1, 0⟩
/-- OP_ZORDER.POS, Table 11.8, SH. -/
def OP_ZORDER_POS : Bits := ⟨23, 0⟩
/-- OP_BG.R, Table 11.8, SH. -/
def OP_BG_R : Bits := ⟨29, 20⟩
/-- OP_BG.G, Table 11.8, SH. -/
def OP_BG_G : Bits := ⟨19, 10⟩
/-- OP_BG.B, Table 11.8, SH. -/
def OP_BG_B : Bits := ⟨9, 0⟩
/-- OP_WB_CTRL.WB_FORMAT, Table 11.9, SH. -/
def OP_WB_CTRL_WB_FORMAT : Bits := ⟨15, 8⟩
/-- OP_WB_CTRL.WB_POINT, Table 11.9, SH. -/
def OP_WB_CTRL_WB_POINT : Bits := ⟨2, 1⟩
/-- OP_WB_CTRL.WB_EN, Table 11.9, SH. -/
def OP_WB_CTRL_WB_EN : Bits := ⟨0, 0⟩
/-- OP_WB_ADDR_LO.ADDR_LO, Table 11.9, SH. -/
def OP_WB_ADDR_LO_ADDR_LO : Bits := ⟨31, 6⟩
/-- OP_WB_ADDR_HI.ADDR_HI, Table 11.9, SH. -/
def OP_WB_ADDR_HI_ADDR_HI : Bits := ⟨31, 0⟩
/-- OP_WB_PITCH.PITCH, Table 11.9, SH. -/
def OP_WB_PITCH_PITCH : Bits := ⟨15, 0⟩
/-- OP_WB_STAT.FRAMES, Table 11.9, RO. -/
def OP_WB_STAT_FRAMES : Bits := ⟨31, 16⟩
/-- OP_WB_STAT.DISCARDED, Table 11.9, W1C. -/
def OP_WB_STAT_DISCARDED : Bits := ⟨1, 1⟩
/-- OP_WB_STAT.INCOMPLETE, Table 11.9, W1C. -/
def OP_WB_STAT_INCOMPLETE : Bits := ⟨0, 0⟩
/-- OP_CSC_M0.M01, Table 11.10, SH. -/
def OP_CSC_M0_M01 : Bits := ⟨31, 16⟩
/-- OP_CSC_M0.M00, Table 11.10, SH. -/
def OP_CSC_M0_M00 : Bits := ⟨15, 0⟩
/-- OP_CSC_M1.M10, Table 11.10, SH. -/
def OP_CSC_M1_M10 : Bits := ⟨31, 16⟩
/-- OP_CSC_M1.M02, Table 11.10, SH. -/
def OP_CSC_M1_M02 : Bits := ⟨15, 0⟩
/-- OP_CSC_M2.M12, Table 11.10, SH. -/
def OP_CSC_M2_M12 : Bits := ⟨31, 16⟩
/-- OP_CSC_M2.M11, Table 11.10, SH. -/
def OP_CSC_M2_M11 : Bits := ⟨15, 0⟩
/-- OP_CSC_M3.M21, Table 11.10, SH. -/
def OP_CSC_M3_M21 : Bits := ⟨31, 16⟩
/-- OP_CSC_M3.M20, Table 11.10, SH. -/
def OP_CSC_M3_M20 : Bits := ⟨15, 0⟩
/-- OP_CSC_M4.M22, Table 11.10, SH. -/
def OP_CSC_M4_M22 : Bits := ⟨15, 0⟩
/-- OP_CSC_OFF0.O1, Table 11.10, SH. -/
def OP_CSC_OFF0_O1 : Bits := ⟨28, 16⟩
/-- OP_CSC_OFF0.O0, Table 11.10, SH. -/
def OP_CSC_OFF0_O0 : Bits := ⟨12, 0⟩
/-- OP_CSC_OFF1.O2, Table 11.10, SH. -/
def OP_CSC_OFF1_O2 : Bits := ⟨12, 0⟩
/-- OP_LUT_IDX.TABLE, Table 11.11, RW. -/
def OP_LUT_IDX_TABLE : Bits := ⟨17, 16⟩
/-- OP_LUT_IDX.INDEX, Table 11.11, RW. -/
def OP_LUT_IDX_INDEX : Bits := ⟨12, 0⟩
/-- OP_LUT_DATA0.G, Table 11.11, SH. -/
def OP_LUT_DATA0_G : Bits := ⟨23, 12⟩
/-- OP_LUT_DATA0.R, Table 11.11, SH. -/
def OP_LUT_DATA0_R : Bits := ⟨11, 0⟩
/-- OP_LUT_DATA1.B, Table 11.11, SH. -/
def OP_LUT_DATA1_B : Bits := ⟨11, 0⟩
/-- OP_STAT.SCALERS, Table 11.11, RO. -/
def OP_STAT_SCALERS : Bits := ⟨3, 0⟩
/-- Lx_CTRL.PLANE_ALPHA, Table 11.13, SH. -/
def Lx_CTRL_PLANE_ALPHA : Bits := ⟨31, 24⟩
/-- Lx_CTRL.ALPHA_MODE, Table 11.13, SH. -/
def Lx_CTRL_ALPHA_MODE : Bits := ⟨9, 8⟩
/-- Lx_CTRL.VIN, Table 11.13, SH. -/
def Lx_CTRL_VIN : Bits := ⟨5, 4⟩
/-- Lx_CTRL.SOURCE, Table 11.13, SH. -/
def Lx_CTRL_SOURCE : Bits := ⟨1, 1⟩
/-- Lx_CTRL.ENABLE, Table 11.13, SH. -/
def Lx_CTRL_ENABLE : Bits := ⟨0, 0⟩
/-- Lx_FORMAT.SITING_V, Table 11.13, SH. -/
def Lx_FORMAT_SITING_V : Bits := ⟨9, 9⟩
/-- Lx_FORMAT.SITING_H, Table 11.13, SH. -/
def Lx_FORMAT_SITING_H : Bits := ⟨8, 8⟩
/-- Lx_FORMAT.FORMAT, Table 11.13, SH. -/
def Lx_FORMAT_FORMAT : Bits := ⟨7, 0⟩
/-- Lx_ADDRp_LO.ADDR_LO, Table 11.14, SH. -/
def Lx_ADDRp_LO_ADDR_LO : Bits := ⟨31, 6⟩
/-- Lx_ADDRp_HI.ADDR_HI, Table 11.14, SH. -/
def Lx_ADDRp_HI_ADDR_HI : Bits := ⟨31, 0⟩
/-- Lx_PITCHp.PITCH, Table 11.14, SH. -/
def Lx_PITCHp_PITCH : Bits := ⟨15, 0⟩
/-- Lx_SRC_POS.Y, Table 11.14, SH. -/
def Lx_SRC_POS_Y : Bits := ⟨31, 16⟩
/-- Lx_SRC_POS.X, Table 11.14, SH. -/
def Lx_SRC_POS_X : Bits := ⟨15, 0⟩
/-- Lx_SRC_SIZE.H, Table 11.14, SH. -/
def Lx_SRC_SIZE_H : Bits := ⟨31, 16⟩
/-- Lx_SRC_SIZE.W, Table 11.14, SH. -/
def Lx_SRC_SIZE_W : Bits := ⟨15, 0⟩
/-- Lx_DST_POS.Y, Table 11.14, SH. -/
def Lx_DST_POS_Y : Bits := ⟨31, 16⟩
/-- Lx_DST_POS.X, Table 11.14, SH. -/
def Lx_DST_POS_X : Bits := ⟨15, 0⟩
/-- Lx_DST_SIZE.H, Table 11.14, SH. -/
def Lx_DST_SIZE_H : Bits := ⟨31, 16⟩
/-- Lx_DST_SIZE.W, Table 11.14, SH. -/
def Lx_DST_SIZE_W : Bits := ⟨15, 0⟩
/-- Lx_FALLBACK.R, Table 11.14, SH. -/
def Lx_FALLBACK_R : Bits := ⟨29, 20⟩
/-- Lx_FALLBACK.G, Table 11.14, SH. -/
def Lx_FALLBACK_G : Bits := ⟨19, 10⟩
/-- Lx_FALLBACK.B, Table 11.14, SH. -/
def Lx_FALLBACK_B : Bits := ⟨9, 0⟩
/-- Lx_BIND.CONTRACT_ID, Table 11.14, SH. -/
def Lx_BIND_CONTRACT_ID : Bits := ⟨31, 0⟩
/-- Lx_CSC_M0.M01, Table 11.15, SH. -/
def Lx_CSC_M0_M01 : Bits := ⟨31, 16⟩
/-- Lx_CSC_M0.M00, Table 11.15, SH. -/
def Lx_CSC_M0_M00 : Bits := ⟨15, 0⟩
/-- Lx_CSC_M1.M10, Table 11.15, SH. -/
def Lx_CSC_M1_M10 : Bits := ⟨31, 16⟩
/-- Lx_CSC_M1.M02, Table 11.15, SH. -/
def Lx_CSC_M1_M02 : Bits := ⟨15, 0⟩
/-- Lx_CSC_M2.M12, Table 11.15, SH. -/
def Lx_CSC_M2_M12 : Bits := ⟨31, 16⟩
/-- Lx_CSC_M2.M11, Table 11.15, SH. -/
def Lx_CSC_M2_M11 : Bits := ⟨15, 0⟩
/-- Lx_CSC_M3.M21, Table 11.15, SH. -/
def Lx_CSC_M3_M21 : Bits := ⟨31, 16⟩
/-- Lx_CSC_M3.M20, Table 11.15, SH. -/
def Lx_CSC_M3_M20 : Bits := ⟨15, 0⟩
/-- Lx_CSC_M4.M22, Table 11.15, SH. -/
def Lx_CSC_M4_M22 : Bits := ⟨15, 0⟩
/-- Lx_CSC_OFF.O2, Table 11.15, SH. -/
def Lx_CSC_OFF_O2 : Bits := ⟨29, 20⟩
/-- Lx_CSC_OFF.O1, Table 11.15, SH. -/
def Lx_CSC_OFF_O1 : Bits := ⟨19, 10⟩
/-- Lx_CSC_OFF.O0, Table 11.15, SH. -/
def Lx_CSC_OFF_O0 : Bits := ⟨9, 0⟩
/-- Lx_VIEW_SX.SX, Table 11.16, RW. -/
def Lx_VIEW_SX_SX : Bits := ⟨31, 0⟩
/-- Lx_VIEW_SY.SY, Table 11.16, RW. -/
def Lx_VIEW_SY_SY : Bits := ⟨31, 0⟩
/-- Lx_VIEW_TX.TX, Table 11.16, RW. -/
def Lx_VIEW_TX_TX : Bits := ⟨31, 0⟩
/-- Lx_VIEW_TY.TY, Table 11.16, RW. -/
def Lx_VIEW_TY_TY : Bits := ⟨31, 0⟩
/-- Lx_VIEW_P00.P00, Table 11.16, RW. -/
def Lx_VIEW_P00_P00 : Bits := ⟨31, 0⟩
/-- Lx_VIEW_P01.P01, Table 11.16, RW. -/
def Lx_VIEW_P01_P01 : Bits := ⟨31, 0⟩
/-- Lx_VIEW_P10.P10, Table 11.16, RW. -/
def Lx_VIEW_P10_P10 : Bits := ⟨31, 0⟩
/-- Lx_VIEW_P11.P11, Table 11.16, RW. -/
def Lx_VIEW_P11_P11 : Bits := ⟨31, 0⟩
/-- Lx_VIEW_APPLY.APPLY, Table 11.16, WO. -/
def Lx_VIEW_APPLY_APPLY : Bits := ⟨0, 0⟩
/-- Lx_VIEW_STAT.APPLIED, Table 11.16, RO. -/
def Lx_VIEW_STAT_APPLIED : Bits := ⟨15, 0⟩
/-- Lx_COEF_IDX.INDEX, Table 11.17, RW. -/
def Lx_COEF_IDX_INDEX : Bits := ⟨8, 0⟩
/-- Lx_COEF_DATA.ODD, Table 11.17, SH. -/
def Lx_COEF_DATA_ODD : Bits := ⟨25, 16⟩
/-- Lx_COEF_DATA.EVEN, Table 11.17, SH. -/
def Lx_COEF_DATA_EVEN : Bits := ⟨9, 0⟩
/-- Lx_PAL_IDX.INDEX, Table 11.17, RW. -/
def Lx_PAL_IDX_INDEX : Bits := ⟨7, 0⟩
/-- Lx_PAL_DATA.ENTRY, Table 11.17, SH. -/
def Lx_PAL_DATA_ENTRY : Bits := ⟨31, 0⟩
/-- Lx_STAT.SCALED, Table 11.18, RO. -/
def Lx_STAT_SCALED : Bits := ⟨7, 7⟩
/-- Lx_STAT.PAIRED, Table 11.18, RO. -/
def Lx_STAT_PAIRED : Bits := ⟨6, 6⟩
/-- Lx_STAT.SCALER, Table 11.18, RO. -/
def Lx_STAT_SCALER : Bits := ⟨5, 4⟩
/-- Lx_STAT.VIN_STALE, Table 11.18, W1C. -/
def Lx_STAT_VIN_STALE : Bits := ⟨2, 2⟩
/-- Lx_STAT.SKIMMED, Table 11.18, W1C. -/
def Lx_STAT_SKIMMED : Bits := ⟨1, 1⟩
/-- Lx_STAT.FALLBACK, Table 11.18, W1C. -/
def Lx_STAT_FALLBACK : Bits := ⟨0, 0⟩
/-- VIN_CTRL.CAPFMT, Table 11.19, RW. -/
def VIN_CTRL_CAPFMT : Bits := ⟨15, 8⟩
/-- VIN_CTRL.HOLD_FRAMES, Table 11.19, RW. -/
def VIN_CTRL_HOLD_FRAMES : Bits := ⟨7, 4⟩
/-- VIN_CTRL.ENABLE, Table 11.19, RW. -/
def VIN_CTRL_ENABLE : Bits := ⟨0, 0⟩
/-- VIN_LIMIT0.MAX_H, Table 11.19, RW. -/
def VIN_LIMIT0_MAX_H : Bits := ⟨31, 16⟩
/-- VIN_LIMIT0.MAX_W, Table 11.19, RW. -/
def VIN_LIMIT0_MAX_W : Bits := ⟨15, 0⟩
/-- VIN_LIMIT1.MAX_RATE, Table 11.19, RW. -/
def VIN_LIMIT1_MAX_RATE : Bits := ⟨7, 0⟩
/-- VIN_PITCH.PITCH, Table 11.19, RW. -/
def VIN_PITCH_PITCH : Bits := ⟨15, 0⟩
/-- VIN_BUFk_LO.ADDR_LO, Table 11.19, RW. -/
def VIN_BUFk_LO_ADDR_LO : Bits := ⟨31, 6⟩
/-- VIN_BUFk_HI.ADDR_HI, Table 11.19, RW. -/
def VIN_BUFk_HI_ADDR_HI : Bits := ⟨31, 0⟩
/-- VIN_STAT.OVER_LIMIT, Table 11.19, W1C. -/
def VIN_STAT_OVER_LIMIT : Bits := ⟨7, 7⟩
/-- VIN_STAT.FMT_MISMATCH, Table 11.19, W1C. -/
def VIN_STAT_FMT_MISMATCH : Bits := ⟨6, 6⟩
/-- VIN_STAT.NEWEST, Table 11.19, RO. -/
def VIN_STAT_NEWEST : Bits := ⟨5, 4⟩
/-- VIN_STAT.NEWEST_VALID, Table 11.19, RO. -/
def VIN_STAT_NEWEST_VALID : Bits := ⟨3, 3⟩
/-- VIN_STAT.KIND, Table 11.19, RO. -/
def VIN_STAT_KIND : Bits := ⟨2, 1⟩
/-- VIN_STAT.SIGNAL, Table 11.19, RO. -/
def VIN_STAT_SIGNAL : Bits := ⟨0, 0⟩
/-- VIN_SNAP_CTRL.SEQ, Table 11.19, RO. -/
def VIN_SNAP_CTRL_SEQ : Bits := ⟨31, 16⟩
/-- VIN_SNAP_CTRL.VALID, Table 11.19, RO. -/
def VIN_SNAP_CTRL_VALID : Bits := ⟨1, 1⟩
/-- VIN_SNAP_CTRL.SNAP, Table 11.19, WO. -/
def VIN_SNAP_CTRL_SNAP : Bits := ⟨0, 0⟩
/-- VIN_DET.HEIGHT, Table 11.19, RO. -/
def VIN_DET_HEIGHT : Bits := ⟨31, 16⟩
/-- VIN_DET.WIDTH, Table 11.19, RO. -/
def VIN_DET_WIDTH : Bits := ⟨15, 0⟩
/-- VIN_PERIOD.PERIOD, Table 11.19, RO. -/
def VIN_PERIOD_PERIOD : Bits := ⟨31, 0⟩
/-- VIN_CNT.FRAMES, Table 11.19, RO. -/
def VIN_CNT_FRAMES : Bits := ⟨31, 16⟩
/-- VIN_CNT.DROPPED, Table 11.19, RO. -/
def VIN_CNT_DROPPED : Bits := ⟨15, 0⟩
/-- TG_CTRL.VS_POL, Table 12.9, SH. -/
def TG_CTRL_VS_POL : Bits := ⟨12, 12⟩
/-- TG_CTRL.HS_POL, Table 12.9, SH. -/
def TG_CTRL_HS_POL : Bits := ⟨11, 11⟩
/-- TG_CTRL.ALIGN_SRC, Table 12.9, SH. -/
def TG_CTRL_ALIGN_SRC : Bits := ⟨10, 8⟩
/-- TG_CTRL.ALIGN_EN, Table 12.9, SH. -/
def TG_CTRL_ALIGN_EN : Bits := ⟨7, 7⟩
/-- TG_CTRL.QDEPTH, Table 12.9, SH. -/
def TG_CTRL_QDEPTH : Bits := ⟨4, 4⟩
/-- TG_CTRL.MODE, Table 12.9, SH. -/
def TG_CTRL_MODE : Bits := ⟨3, 3⟩
/-- TG_CTRL.KIND, Table 12.9, SH. -/
def TG_CTRL_KIND : Bits := ⟨1, 1⟩
/-- TG_CTRL.ENABLE, Table 12.9, SH. -/
def TG_CTRL_ENABLE : Bits := ⟨0, 0⟩
/-- TG_H0.H_TOTAL, Table 12.10, SH. -/
def TG_H0_H_TOTAL : Bits := ⟨31, 16⟩
/-- TG_H0.H_ACTIVE, Table 12.10, SH. -/
def TG_H0_H_ACTIVE : Bits := ⟨15, 0⟩
/-- TG_H1.HS_END, Table 12.10, SH. -/
def TG_H1_HS_END : Bits := ⟨31, 16⟩
/-- TG_H1.HS_START, Table 12.10, SH. -/
def TG_H1_HS_START : Bits := ⟨15, 0⟩
/-- TG_V0.V_TOTAL, Table 12.10, SH. -/
def TG_V0_V_TOTAL : Bits := ⟨31, 16⟩
/-- TG_V0.V_ACTIVE, Table 12.10, SH. -/
def TG_V0_V_ACTIVE : Bits := ⟨15, 0⟩
/-- TG_V1.VS_END, Table 12.10, SH. -/
def TG_V1_VS_END : Bits := ⟨31, 16⟩
/-- TG_V1.VS_START, Table 12.10, SH. -/
def TG_V1_VS_START : Bits := ⟨15, 0⟩
/-- TG_PCLK.PCLK_HZ, Table 12.10, SH. -/
def TG_PCLK_PCLK_HZ : Bits := ⟨31, 0⟩
/-- TG_START_LO.START_LO, Table 12.10, SH. -/
def TG_START_LO_START_LO : Bits := ⟨31, 0⟩
/-- TG_START_HI.START_HI, Table 12.10, SH. -/
def TG_START_HI_START_HI : Bits := ⟨31, 0⟩
/-- TG_UFLOW.R, Table 12.11, SH. -/
def TG_UFLOW_R : Bits := ⟨29, 20⟩
/-- TG_UFLOW.G, Table 12.11, SH. -/
def TG_UFLOW_G : Bits := ⟨19, 10⟩
/-- TG_UFLOW.B, Table 12.11, SH. -/
def TG_UFLOW_B : Bits := ⟨9, 0⟩
/-- TG_CMD.FULL_EVERY, Table 12.11, SH. -/
def TG_CMD_FULL_EVERY : Bits := ⟨23, 16⟩
/-- TG_CMD.ALIGN_Y, Table 12.11, SH. -/
def TG_CMD_ALIGN_Y : Bits := ⟨6, 4⟩
/-- TG_CMD.ALIGN_X, Table 12.11, SH. -/
def TG_CMD_ALIGN_X : Bits := ⟨2, 0⟩
/-- TG_CUR0.CUR_EN, Table 12.12, SH. -/
def TG_CUR0_CUR_EN : Bits := ⟨8, 8⟩
/-- TG_CUR0.SENSOR, Table 12.12, SH. -/
def TG_CUR0_SENSOR : Bits := ⟨6, 4⟩
/-- TG_CUR0.CUR_LAYER, Table 12.12, SH. -/
def TG_CUR0_CUR_LAYER : Bits := ⟨2, 0⟩
/-- TG_CUR_SX.SX, Table 12.12, SH. -/
def TG_CUR_SX_SX : Bits := ⟨31, 0⟩
/-- TG_CUR_SY.SY, Table 12.12, SH. -/
def TG_CUR_SY_SY : Bits := ⟨31, 0⟩
/-- TG_CUR_OFF.OFF_Y, Table 12.12, SH. -/
def TG_CUR_OFF_OFF_Y : Bits := ⟨31, 16⟩
/-- TG_CUR_OFF.OFF_X, Table 12.12, SH. -/
def TG_CUR_OFF_OFF_X : Bits := ⟨15, 0⟩
/-- TG_CMT.ANY, Table 12.13, RO. -/
def TG_CMT_ANY : Bits := ⟨1, 1⟩
/-- TG_CMT.COMMIT, Table 12.13, RO. -/
def TG_CMT_COMMIT : Bits := ⟨0, 0⟩
/-- TG_COMMIT_FRAME.FRAME, Table 12.13, RO. -/
def TG_COMMIT_FRAME_FRAME : Bits := ⟨31, 0⟩
/-- TG_COMMIT_AT_LO.AT_LO, Table 12.13, RO. -/
def TG_COMMIT_AT_LO_AT_LO : Bits := ⟨31, 0⟩
/-- TG_COMMIT_AT_HI.AT_HI, Table 12.13, RO. -/
def TG_COMMIT_AT_HI_AT_HI : Bits := ⟨31, 0⟩
/-- TG_SNAP_CTRL.SEQ, Table 12.14, RO. -/
def TG_SNAP_CTRL_SEQ : Bits := ⟨31, 16⟩
/-- TG_SNAP_CTRL.VALID, Table 12.14, RO. -/
def TG_SNAP_CTRL_VALID : Bits := ⟨1, 1⟩
/-- TG_SNAP_CTRL.SNAP, Table 12.14, WO. -/
def TG_SNAP_CTRL_SNAP : Bits := ⟨0, 0⟩
/-- TG_FRAME.FRAME, Table 12.14, RO. -/
def TG_FRAME_FRAME : Bits := ⟨31, 0⟩
/-- TG_LATCH_LO.STAMP_LO, Table 12.14, RO. -/
def TG_LATCH_LO_STAMP_LO : Bits := ⟨31, 0⟩
/-- TG_LATCH_HI.STAMP_HI, Table 12.14, RO. -/
def TG_LATCH_HI_STAMP_HI : Bits := ⟨31, 0⟩
/-- TG_POS.LINE, Table 12.14, RO. -/
def TG_POS_LINE : Bits := ⟨31, 16⟩
/-- TG_POS.PIXEL, Table 12.14, RO. -/
def TG_POS_PIXEL : Bits := ⟨15, 0⟩
/-- TG_URUN.COUNT, Table 12.14, RO. -/
def TG_URUN_COUNT : Bits := ⟨31, 16⟩
/-- TG_URUN.STRIP, Table 12.14, RO. -/
def TG_URUN_STRIP : Bits := ⟨8, 0⟩
/-- TG_URUN_LO.STAMP_LO, Table 12.14, RO. -/
def TG_URUN_LO_STAMP_LO : Bits := ⟨31, 0⟩
/-- TG_URUN_HI.STAMP_HI, Table 12.14, RO. -/
def TG_URUN_HI_STAMP_HI : Bits := ⟨31, 0⟩
/-- TG_STAT.LINK, Table 12.15, RO. -/
def TG_STAT_LINK : Bits := ⟨7, 6⟩
/-- TG_STAT.REVERIFY, Table 12.15, RO. -/
def TG_STAT_REVERIFY : Bits := ⟨5, 5⟩
/-- TG_STAT.IDLE, Table 12.15, RO. -/
def TG_STAT_IDLE : Bits := ⟨4, 4⟩
/-- TG_STAT.SHADOW_REFUSED, Table 12.15, W1C. -/
def TG_STAT_SHADOW_REFUSED : Bits := ⟨3, 3⟩
/-- TG_STAT.ALIGN_FAILED, Table 12.15, W1C. -/
def TG_STAT_ALIGN_FAILED : Bits := ⟨2, 2⟩
/-- TG_STAT.START_MISSED, Table 12.15, W1C. -/
def TG_STAT_START_MISSED : Bits := ⟨1, 1⟩
/-- TG_STAT.RUNNING, Table 12.15, RO. -/
def TG_STAT_RUNNING : Bits := ⟨0, 0⟩
/-- CRL_CTRL.POLICY, Table 13.9, SH. -/
def CRL_CTRL_POLICY : Bits := ⟨1, 0⟩
/-- CRL_RIND.R, Table 13.9, SH. -/
def CRL_RIND_R : Bits := ⟨29, 20⟩
/-- CRL_RIND.G, Table 13.9, SH. -/
def CRL_RIND_G : Bits := ⟨19, 10⟩
/-- CRL_RIND.B, Table 13.9, SH. -/
def CRL_RIND_B : Bits := ⟨9, 0⟩
/-- CRL_REGEN.EN, Table 13.9, SH. -/
def CRL_REGEN_EN : Bits := ⟨15, 0⟩
/-- CRL_STAT.BLANKED, Table 13.10, RO. -/
def CRL_STAT_BLANKED : Bits := ⟨31, 16⟩
/-- CRL_STAT.FAILS, Table 13.10, RO. -/
def CRL_STAT_FAILS : Bits := ⟨11, 8⟩
/-- CRL_STAT.NOSCENE, Table 13.10, RO. -/
def CRL_STAT_NOSCENE : Bits := ⟨7, 7⟩
/-- CRL_STAT.HOLD_PENDING, Table 13.10, RO. -/
def CRL_STAT_HOLD_PENDING : Bits := ⟨6, 6⟩
/-- CRL_STAT.FLIP_PENDING, Table 13.10, RO. -/
def CRL_STAT_FLIP_PENDING : Bits := ⟨5, 5⟩
/-- CRL_STAT.FRONT, Table 13.10, RO. -/
def CRL_STAT_FRONT : Bits := ⟨4, 4⟩
/-- CRL_STAT.VERIFIED, Table 13.10, RO. -/
def CRL_STAT_VERIFIED : Bits := ⟨3, 3⟩
/-- CRL_STAT.STATE, Table 13.10, RO. -/
def CRL_STAT_STATE : Bits := ⟨1, 0⟩
/-- CRL_RECOVER.RECOVER, Table 13.11, PW. -/
def CRL_RECOVER_RECOVER : Bits := ⟨0, 0⟩
/-- CRL_Rr_POS.Y, Table 13.12, SH. -/
def CRL_Rr_POS_Y : Bits := ⟨31, 16⟩
/-- CRL_Rr_POS.X, Table 13.12, SH. -/
def CRL_Rr_POS_X : Bits := ⟨15, 0⟩
/-- CRL_Rr_SIZE.H, Table 13.12, SH. -/
def CRL_Rr_SIZE_H : Bits := ⟨31, 16⟩
/-- CRL_Rr_SIZE.W, Table 13.12, SH. -/
def CRL_Rr_SIZE_W : Bits := ⟨15, 0⟩
/-- CRL_Rr_BUF.OFF, Table 13.12, SH. -/
def CRL_Rr_BUF_OFF : Bits := ⟨20, 6⟩
/-- CRL_Rr_CFG.RIND_W, Table 13.12, SH. -/
def CRL_Rr_CFG_RIND_W : Bits := ⟨22, 16⟩
/-- CRL_Rr_CFG.PITCH, Table 13.12, SH. -/
def CRL_Rr_CFG_PITCH : Bits := ⟨13, 6⟩
/-- CRL_PAL_IDX.INDEX, Table 13.13, RW. -/
def CRL_PAL_IDX_INDEX : Bits := ⟨7, 0⟩
/-- CRL_PAL_DATA.RGB, Table 13.13, SH. -/
def CRL_PAL_DATA_RGB : Bits := ⟨29, 0⟩
/-- CRL_LUT_IDX.TABLE, Table 13.13, RW. -/
def CRL_LUT_IDX_TABLE : Bits := ⟨17, 16⟩
/-- CRL_LUT_IDX.INDEX, Table 13.13, RW. -/
def CRL_LUT_IDX_INDEX : Bits := ⟨9, 0⟩
/-- CRL_LUT_DATA.VALUE, Table 13.13, SH. -/
def CRL_LUT_DATA_VALUE : Bits := ⟨9, 0⟩
/-- CRL_SNAP_CTRL.SEQ, Table 13.14, RO. -/
def CRL_SNAP_CTRL_SEQ : Bits := ⟨31, 16⟩
/-- CRL_SNAP_CTRL.VALID, Table 13.14, RO. -/
def CRL_SNAP_CTRL_VALID : Bits := ⟨1, 1⟩
/-- CRL_SNAP_CTRL.SNAP, Table 13.14, WO. -/
def CRL_SNAP_CTRL_SNAP : Bits := ⟨0, 0⟩
/-- CRL_LAST_FRAME.FRAME, Table 13.14, RO. -/
def CRL_LAST_FRAME_FRAME : Bits := ⟨31, 0⟩
/-- CRL_LAST_DIGEST.DIGEST, Table 13.14, RO. -/
def CRL_LAST_DIGEST_DIGEST : Bits := ⟨31, 0⟩
/-- CRL_LAST_MM.MISMATCHES, Table 13.14, RO. -/
def CRL_LAST_MM_MISMATCHES : Bits := ⟨31, 0⟩
/-- CRL_LAST_TILE.VALID, Table 13.14, RO. -/
def CRL_LAST_TILE_VALID : Bits := ⟨31, 31⟩
/-- CRL_LAST_TILE.TILE, Table 13.14, RO. -/
def CRL_LAST_TILE_TILE : Bits := ⟨16, 0⟩
/-- CRL_MM_TOTAL.TOTAL, Table 13.14, RO. -/
def CRL_MM_TOTAL_TOTAL : Bits := ⟨31, 0⟩
/-- CRL_EV_CTRL.MODE, Table 13.15, RW. -/
def CRL_EV_CTRL_MODE : Bits := ⟨8, 8⟩
/-- CRL_EV_CTRL.EVENT_PF, Table 13.15, RW. -/
def CRL_EV_CTRL_EVENT_PF : Bits := ⟨1, 0⟩
/-- CRL_EV_STAT.LOST, Table 13.15, RO. -/
def CRL_EV_STAT_LOST : Bits := ⟨31, 16⟩
/-- CRL_EV_STAT.NEXT, Table 13.15, RO. -/
def CRL_EV_STAT_NEXT : Bits := ⟨13, 0⟩
/-- LNK_TXg_CFG.DSI_MBPS, Table 14.8, SH. -/
def LNK_TXg_CFG_DSI_MBPS : Bits := ⟨27, 16⟩
/-- LNK_TXg_CFG.FALLBACK_EN, Table 14.8, SH. -/
def LNK_TXg_CFG_FALLBACK_EN : Bits := ⟨15, 15⟩
/-- LNK_TXg_CFG.SSC, Table 14.8, SH. -/
def LNK_TXg_CFG_SSC : Bits := ⟨14, 14⟩
/-- LNK_TXg_CFG.DSI_CMD, Table 14.8, SH. -/
def LNK_TXg_CFG_DSI_CMD : Bits := ⟨13, 13⟩
/-- LNK_TXg_CFG.SU_EN, Table 14.8, SH. -/
def LNK_TXg_CFG_SU_EN : Bits := ⟨12, 12⟩
/-- LNK_TXg_CFG.RATE, Table 14.8, SH. -/
def LNK_TXg_CFG_RATE : Bits := ⟨10, 8⟩
/-- LNK_TXg_CFG.LANES, Table 14.8, SH. -/
def LNK_TXg_CFG_LANES : Bits := ⟨6, 4⟩
/-- LNK_TXg_CFG.PROTO, Table 14.8, SH. -/
def LNK_TXg_CFG_PROTO : Bits := ⟨1, 0⟩
/-- LNK_TXg_STAT.RETRAINS, Table 14.9, RO. -/
def LNK_TXg_STAT_RETRAINS : Bits := ⟨31, 16⟩
/-- LNK_TXg_STAT.RATE, Table 14.9, RO. -/
def LNK_TXg_STAT_RATE : Bits := ⟨10, 8⟩
/-- LNK_TXg_STAT.LANES, Table 14.9, RO. -/
def LNK_TXg_STAT_LANES : Bits := ⟨6, 4⟩
/-- LNK_TXg_STAT.HPD, Table 14.9, RO. -/
def LNK_TXg_STAT_HPD : Bits := ⟨3, 3⟩
/-- LNK_TXg_STAT.STATE, Table 14.9, RO. -/
def LNK_TXg_STAT_STATE : Bits := ⟨1, 0⟩
/-- LNK_TXg_SB_CTRL.START, Table 14.10, WO. -/
def LNK_TXg_SB_CTRL_START : Bits := ⟨31, 31⟩
/-- LNK_TXg_SB_CTRL.CMD, Table 14.10, RW. -/
def LNK_TXg_SB_CTRL_CMD : Bits := ⟨30, 28⟩
/-- LNK_TXg_SB_CTRL.LEN, Table 14.10, RW. -/
def LNK_TXg_SB_CTRL_LEN : Bits := ⟨27, 23⟩
/-- LNK_TXg_SB_CTRL.ADDR, Table 14.10, RW. -/
def LNK_TXg_SB_CTRL_ADDR : Bits := ⟨19, 0⟩
/-- LNK_TXg_SB_STAT.COUNT, Table 14.10, RO. -/
def LNK_TXg_SB_STAT_COUNT : Bits := ⟨15, 8⟩
/-- LNK_TXg_SB_STAT.RESULT, Table 14.10, RO. -/
def LNK_TXg_SB_STAT_RESULT : Bits := ⟨3, 1⟩
/-- LNK_TXg_SB_STAT.BUSY, Table 14.10, RO. -/
def LNK_TXg_SB_STAT_BUSY : Bits := ⟨0, 0⟩
/-- LNK_TXg_SB_DATAi.DATA, Table 14.10, RW. -/
def LNK_TXg_SB_DATAi_DATA : Bits := ⟨31, 0⟩
/-- LNK_TXg_PANEL.BL_AUTO, Table 22.7, RW. -/
def LNK_TXg_PANEL_BL_AUTO : Bits := ⟨2, 2⟩
/-- LNK_TXg_PANEL.BLEN, Table 22.7, RW. -/
def LNK_TXg_PANEL_BLEN : Bits := ⟨1, 1⟩
/-- LNK_TXg_PANEL.PPEN, Table 22.7, RW. -/
def LNK_TXg_PANEL_PPEN : Bits := ⟨0, 0⟩
/-- LNK_PCIEp_STAT.RECOVERIES, Table 14.11, RO. -/
def LNK_PCIEp_STAT_RECOVERIES : Bits := ⟨31, 16⟩
/-- LNK_PCIEp_STAT.WIDTH, Table 14.11, RO. -/
def LNK_PCIEp_STAT_WIDTH : Bits := ⟨12, 8⟩
/-- LNK_PCIEp_STAT.SPEED, Table 14.11, RO. -/
def LNK_PCIEp_STAT_SPEED : Bits := ⟨6, 4⟩
/-- LNK_PCIEp_STAT.REVERSED, Table 14.11, RO. -/
def LNK_PCIEp_STAT_REVERSED : Bits := ⟨3, 3⟩
/-- LNK_PCIEp_STAT.PERST, Table 14.11, RO. -/
def LNK_PCIEp_STAT_PERST : Bits := ⟨2, 2⟩
/-- LNK_PCIEp_STAT.LINK_UP, Table 14.11, RO. -/
def LNK_PCIEp_STAT_LINK_UP : Bits := ⟨0, 0⟩
/-- LNK_RXn_CFG.HPD_EN, Table 14.12, RW. -/
def LNK_RXn_CFG_HPD_EN : Bits := ⟨8, 8⟩
/-- LNK_RXn_CFG.MAX_LANES, Table 14.12, RW. -/
def LNK_RXn_CFG_MAX_LANES : Bits := ⟨6, 4⟩
/-- LNK_RXn_CFG.MAX_RATE, Table 14.12, RW. -/
def LNK_RXn_CFG_MAX_RATE : Bits := ⟨1, 0⟩
/-- LNK_RXn_STAT.SYMBOL_ERRS, Table 14.12, RO. -/
def LNK_RXn_STAT_SYMBOL_ERRS : Bits := ⟨31, 16⟩
/-- LNK_RXn_STAT.RATE, Table 14.12, RO. -/
def LNK_RXn_STAT_RATE : Bits := ⟨9, 8⟩
/-- LNK_RXn_STAT.LANES, Table 14.12, RO. -/
def LNK_RXn_STAT_LANES : Bits := ⟨6, 4⟩
/-- LNK_RXn_STAT.STATE, Table 14.12, RO. -/
def LNK_RXn_STAT_STATE : Bits := ⟨1, 0⟩
/-- LNK_RXn_EDID_IDX.INDEX, Table 14.12, RW. -/
def LNK_RXn_EDID_IDX_INDEX : Bits := ⟨5, 0⟩
/-- LNK_RXn_EDID_DATA.DATA, Table 14.12, RW. -/
def LNK_RXn_EDID_DATA_DATA : Bits := ⟨31, 0⟩
/-- LNK_STRAIT_SEL.ID, Table 14.13, RW. -/
def LNK_STRAIT_SEL_ID : Bits := ⟨7, 0⟩
/-- LNK_STRAIT_CNT.ERRORS, Table 14.13, RO. -/
def LNK_STRAIT_CNT_ERRORS : Bits := ⟨31, 0⟩
/-- TCH_INFO.REGIONS, Table 15.5, RO. -/
def TCH_INFO_REGIONS : Bits := ⟨31, 24⟩
/-- TCH_INFO.SENSORS, Table 15.5, RO. -/
def TCH_INFO_SENSORS : Bits := ⟨23, 16⟩
/-- TCH_INFO.CHANNELS, Table 15.5, RO. -/
def TCH_INFO_CHANNELS : Bits := ⟨15, 0⟩
/-- TCH_CTRL.EVENT_PF, Table 15.5, RW. -/
def TCH_CTRL_EVENT_PF : Bits := ⟨1, 0⟩
/-- TCH_Sk_CTRL.LP_EN, Table 15.6, RW. -/
def TCH_Sk_CTRL_LP_EN : Bits := ⟨2, 2⟩
/-- TCH_Sk_CTRL.KIND, Table 15.6, RW. -/
def TCH_Sk_CTRL_KIND : Bits := ⟨1, 1⟩
/-- TCH_Sk_CTRL.ENABLE, Table 15.6, RW. -/
def TCH_Sk_CTRL_ENABLE : Bits := ⟨0, 0⟩
/-- TCH_Sk_GEOM.ROWS, Table 15.6, RW. -/
def TCH_Sk_GEOM_ROWS : Bits := ⟨23, 16⟩
/-- TCH_Sk_GEOM.COLS, Table 15.6, RW. -/
def TCH_Sk_GEOM_COLS : Bits := ⟨15, 8⟩
/-- TCH_Sk_GEOM.FIRST, Table 15.6, RW. -/
def TCH_Sk_GEOM_FIRST : Bits := ⟨7, 0⟩
/-- TCH_Sk_MEAS.MAX_COUNT, Table 15.6, RW. -/
def TCH_Sk_MEAS_MAX_COUNT : Bits := ⟨31, 20⟩
/-- TCH_Sk_MEAS.SAMPLES, Table 15.6, RW. -/
def TCH_Sk_MEAS_SAMPLES : Bits := ⟨18, 16⟩
/-- TCH_Sk_MEAS.XFER, Table 15.6, RW. -/
def TCH_Sk_MEAS_XFER : Bits := ⟨13, 8⟩
/-- TCH_Sk_MEAS.CINT, Table 15.6, RW. -/
def TCH_Sk_MEAS_CINT : Bits := ⟨2, 0⟩
/-- TCH_Sk_PERIOD.GANG, Table 15.6, RW. -/
def TCH_Sk_PERIOD_GANG : Bits := ⟨25, 24⟩
/-- TCH_Sk_PERIOD.LP_PERIOD, Table 15.6, RW. -/
def TCH_Sk_PERIOD_LP_PERIOD : Bits := ⟨23, 16⟩
/-- TCH_Sk_PERIOD.PERIOD, Table 15.6, RW. -/
def TCH_Sk_PERIOD_PERIOD : Bits := ⟨15, 0⟩
/-- TCH_Sk_THR.T_OFF, Table 15.6, RW. -/
def TCH_Sk_THR_T_OFF : Bits := ⟨27, 16⟩
/-- TCH_Sk_THR.T_ON, Table 15.6, RW. -/
def TCH_Sk_THR_T_ON : Bits := ⟨11, 0⟩
/-- TCH_Sk_THR2.PROF_TOL, Table 15.6, RW. -/
def TCH_Sk_THR2_PROF_TOL : Bits := ⟨31, 24⟩
/-- TCH_Sk_THR2.PALM_W, Table 15.6, RW. -/
def TCH_Sk_THR2_PALM_W : Bits := ⟨19, 16⟩
/-- TCH_Sk_THR2.LP_WAKE, Table 15.6, RW. -/
def TCH_Sk_THR2_LP_WAKE : Bits := ⟨11, 0⟩
/-- TCH_Sk_DEB.DEB_OFF, Table 15.6, RW. -/
def TCH_Sk_DEB_DEB_OFF : Bits := ⟨31, 16⟩
/-- TCH_Sk_DEB.DEB_ON, Table 15.6, RW. -/
def TCH_Sk_DEB_DEB_ON : Bits := ⟨15, 0⟩
/-- TCH_Sk_TRACK.TRACK_MAX, Table 15.6, RW. -/
def TCH_Sk_TRACK_TRACK_MAX : Bits := ⟨31, 16⟩
/-- TCH_Sk_TRACK.STAT_RADIUS, Table 15.6, RW. -/
def TCH_Sk_TRACK_STAT_RADIUS : Bits := ⟨15, 8⟩
/-- TCH_Sk_TRACK.ADAPT_SCANS, Table 15.6, RW. -/
def TCH_Sk_TRACK_ADAPT_SCANS : Bits := ⟨7, 0⟩
/-- TCH_Sk_TIME.STUCK_TIME, Table 15.6, RW. -/
def TCH_Sk_TIME_STUCK_TIME : Bits := ⟨31, 16⟩
/-- TCH_Sk_TIME.STAT_TIME, Table 15.6, RW. -/
def TCH_Sk_TIME_STAT_TIME : Bits := ⟨15, 0⟩
/-- TCH_Sk_IDLE.LP_IDLE, Table 15.6, RW. -/
def TCH_Sk_IDLE_LP_IDLE : Bits := ⟨15, 0⟩
/-- TCH_Sk_STAT.UNROUTED, Table 15.7, RO. -/
def TCH_Sk_STAT_UNROUTED : Bits := ⟨31, 24⟩
/-- TCH_Sk_STAT.OVERRANGE, Table 15.7, RO. -/
def TCH_Sk_STAT_OVERRANGE : Bits := ⟨23, 16⟩
/-- TCH_Sk_STAT.SKIPPED, Table 15.7, W1C. -/
def TCH_Sk_STAT_SKIPPED : Bits := ⟨14, 14⟩
/-- TCH_Sk_STAT.PROF_RESULT, Table 15.7, RO. -/
def TCH_Sk_STAT_PROF_RESULT : Bits := ⟨13, 12⟩
/-- TCH_Sk_STAT.CFG_ERR, Table 15.7, RO. -/
def TCH_Sk_STAT_CFG_ERR : Bits := ⟨11, 8⟩
/-- TCH_Sk_STAT.CONTACTS, Table 15.7, RO. -/
def TCH_Sk_STAT_CONTACTS : Bits := ⟨5, 4⟩
/-- TCH_Sk_STAT.STATE, Table 15.7, RO. -/
def TCH_Sk_STAT_STATE : Bits := ⟨2, 0⟩
/-- TCH_Sk_PROF.VALID, Table 15.7, RO. -/
def TCH_Sk_PROF_VALID : Bits := ⟨31, 31⟩
/-- TCH_Sk_PROF_CRC.CRC, Table 15.7, RO. -/
def TCH_Sk_PROF_CRC_CRC : Bits := ⟨31, 0⟩
/-- TCH_Sk_SNAP_CTRL.SEQ, Table 15.7, RO. -/
def TCH_Sk_SNAP_CTRL_SEQ : Bits := ⟨31, 16⟩
/-- TCH_Sk_SNAP_CTRL.VALID, Table 15.7, RO. -/
def TCH_Sk_SNAP_CTRL_VALID : Bits := ⟨1, 1⟩
/-- TCH_Sk_SNAP_CTRL.SNAP, Table 15.7, WO. -/
def TCH_Sk_SNAP_CTRL_SNAP : Bits := ⟨0, 0⟩
/-- TCH_Sk_SCAN.SCAN, Table 15.7, RO. -/
def TCH_Sk_SCAN_SCAN : Bits := ⟨31, 0⟩
/-- TCH_Sk_STAMP_LO.STAMP_LO, Table 15.7, RO. -/
def TCH_Sk_STAMP_LO_STAMP_LO : Bits := ⟨31, 0⟩
/-- TCH_Sk_STAMP_HI.STAMP_HI, Table 15.7, RO. -/
def TCH_Sk_STAMP_HI_STAMP_HI : Bits := ⟨31, 0⟩
/-- TCH_Sk_Rr_RECT0.Y0, Table 15.8, RW. -/
def TCH_Sk_Rr_RECT0_Y0 : Bits := ⟨31, 16⟩
/-- TCH_Sk_Rr_RECT0.X0, Table 15.8, RW. -/
def TCH_Sk_Rr_RECT0_X0 : Bits := ⟨15, 0⟩
/-- TCH_Sk_Rr_RECT1.Y1, Table 15.8, RW. -/
def TCH_Sk_Rr_RECT1_Y1 : Bits := ⟨31, 16⟩
/-- TCH_Sk_Rr_RECT1.X1, Table 15.8, RW. -/
def TCH_Sk_Rr_RECT1_X1 : Bits := ⟨15, 0⟩
/-- TCH_Sk_Rr_CFG.BIND_REG, Table 15.8, RW. -/
def TCH_Sk_Rr_CFG_BIND_REG : Bits := ⟨19, 16⟩
/-- TCH_Sk_Rr_CFG.BIND_OUT, Table 15.8, RW. -/
def TCH_Sk_Rr_CFG_BIND_OUT : Bits := ⟨14, 12⟩
/-- TCH_Sk_Rr_CFG.BIND_EN, Table 15.8, RW. -/
def TCH_Sk_Rr_CFG_BIND_EN : Bits := ⟨8, 8⟩
/-- TCH_Sk_Rr_CFG.ENABLE, Table 15.8, RW. -/
def TCH_Sk_Rr_CFG_ENABLE : Bits := ⟨0, 0⟩
/-- TCH_CHc.BASE, Table 15.8, RO. -/
def TCH_CHc_BASE : Bits := ⟨31, 16⟩
/-- TCH_CHc.ANTI, Table 15.8, W1C. -/
def TCH_CHc_ANTI : Bits := ⟨15, 15⟩
/-- TCH_CHc.COUNT, Table 15.8, RO. -/
def TCH_CHc_COUNT : Bits := ⟨11, 0⟩
/-- HAP_INFO.SLOTS, Table 16.5, RO. -/
def HAP_INFO_SLOTS : Bits := ⟨31, 24⟩
/-- HAP_INFO.CHANNELS, Table 16.5, RO. -/
def HAP_INFO_CHANNELS : Bits := ⟨23, 16⟩
/-- HAP_INFO.SENSE_BITS, Table 16.5, RO. -/
def HAP_INFO_SENSE_BITS : Bits := ⟨15, 8⟩
/-- HAP_CTRL.EVENT_PF, Table 16.5, RW. -/
def HAP_CTRL_EVENT_PF : Bits := ⟨1, 0⟩
/-- HAP_Cn_CTRL.AUTO_CAL, Table 16.6, RW. -/
def HAP_Cn_CTRL_AUTO_CAL : Bits := ⟨2, 2⟩
/-- HAP_Cn_CTRL.KIND, Table 16.6, RW. -/
def HAP_Cn_CTRL_KIND : Bits := ⟨1, 1⟩
/-- HAP_Cn_CTRL.ENABLE, Table 16.6, RW. -/
def HAP_Cn_CTRL_ENABLE : Bits := ⟨0, 0⟩
/-- HAP_Cn_SUPPLY.V_MAX, Table 16.6, RW. -/
def HAP_Cn_SUPPLY_V_MAX : Bits := ⟨31, 16⟩
/-- HAP_Cn_SUPPLY.V_SUPPLY, Table 16.6, RW. -/
def HAP_Cn_SUPPLY_V_SUPPLY : Bits := ⟨15, 0⟩
/-- HAP_Cn_PWM.PWM_DIV, Table 16.6, RW. -/
def HAP_Cn_PWM_PWM_DIV : Bits := ⟨11, 0⟩
/-- HAP_Cn_LIMIT.I_LIMIT, Table 16.6, RW. -/
def HAP_Cn_LIMIT_I_LIMIT : Bits := ⟨27, 16⟩
/-- HAP_Cn_LIMIT.ON_MAX, Table 16.6, RW. -/
def HAP_Cn_LIMIT_ON_MAX : Bits := ⟨15, 0⟩
/-- HAP_Cn_BUDGET.WIN, Table 16.6, RW. -/
def HAP_Cn_BUDGET_WIN : Bits := ⟨23, 16⟩
/-- HAP_Cn_BUDGET.BUDGET, Table 16.6, RW. -/
def HAP_Cn_BUDGET_BUDGET : Bits := ⟨15, 0⟩
/-- HAP_Cn_CAL0.F_HI, Table 16.6, RW. -/
def HAP_Cn_CAL0_F_HI : Bits := ⟨24, 16⟩
/-- HAP_Cn_CAL0.F_LO, Table 16.6, RW. -/
def HAP_Cn_CAL0_F_LO : Bits := ⟨8, 0⟩
/-- HAP_Cn_CAL1.CAL_MIN, Table 16.6, RW. -/
def HAP_Cn_CAL1_CAL_MIN : Bits := ⟨27, 16⟩
/-- HAP_Cn_CAL1.CAL_LEVEL, Table 16.6, RW. -/
def HAP_Cn_CAL1_CAL_LEVEL : Bits := ⟨15, 0⟩
/-- HAP_Cn_BRAKE.BRAKE_STOP, Table 16.6, RW. -/
def HAP_Cn_BRAKE_BRAKE_STOP : Bits := ⟨11, 0⟩
/-- HAP_Cn_STAT.CFG_ERR, Table 16.7, RO. -/
def HAP_Cn_STAT_CFG_ERR : Bits := ⟨19, 16⟩
/-- HAP_Cn_STAT.OVERCURRENT, Table 16.7, W1C. -/
def HAP_Cn_STAT_OVERCURRENT : Bits := ⟨15, 15⟩
/-- HAP_Cn_STAT.CAL_FAIL, Table 16.7, W1C. -/
def HAP_Cn_STAT_CAL_FAIL : Bits := ⟨14, 14⟩
/-- HAP_Cn_STAT.LIMIT_BUDGET, Table 16.7, W1C. -/
def HAP_Cn_STAT_LIMIT_BUDGET : Bits := ⟨13, 13⟩
/-- HAP_Cn_STAT.LIMIT_ON, Table 16.7, W1C. -/
def HAP_Cn_STAT_LIMIT_ON : Bits := ⟨12, 12⟩
/-- HAP_Cn_STAT.QUEUED, Table 16.7, RO. -/
def HAP_Cn_STAT_QUEUED : Bits := ⟨9, 8⟩
/-- HAP_Cn_STAT.CAL_VALID, Table 16.7, RO. -/
def HAP_Cn_STAT_CAL_VALID : Bits := ⟨6, 6⟩
/-- HAP_Cn_STAT.STATE, Table 16.7, RO. -/
def HAP_Cn_STAT_STATE : Bits := ⟨2, 0⟩
/-- HAP_Cn_SNAP_CTRL.SEQ, Table 16.8, RO. -/
def HAP_Cn_SNAP_CTRL_SEQ : Bits := ⟨31, 16⟩
/-- HAP_Cn_SNAP_CTRL.VALID, Table 16.8, RO. -/
def HAP_Cn_SNAP_CTRL_VALID : Bits := ⟨1, 1⟩
/-- HAP_Cn_SNAP_CTRL.SNAP, Table 16.8, WO. -/
def HAP_Cn_SNAP_CTRL_SNAP : Bits := ⟨0, 0⟩
/-- HAP_Cn_HP.HALF_PERIOD, Table 16.8, RO. -/
def HAP_Cn_HP_HALF_PERIOD : Bits := ⟨31, 0⟩
/-- HAP_Cn_FRES.F_RES, Table 16.8, RO. -/
def HAP_Cn_FRES_F_RES : Bits := ⟨31, 0⟩
/-- HAP_Cn_CNT.LIMIT_ENDS, Table 16.8, RO. -/
def HAP_Cn_CNT_LIMIT_ENDS : Bits := ⟨31, 16⟩
/-- HAP_Cn_CNT.EFFECTS, Table 16.8, RO. -/
def HAP_Cn_CNT_EFFECTS : Bits := ⟨15, 0⟩
/-- HAP_Cn_FXs_0.VALID, Table 16.9, RW. -/
def HAP_Cn_FXs_0_VALID : Bits := ⟨31, 31⟩
/-- HAP_Cn_FXs_0.BRAKE_EN, Table 16.9, RW. -/
def HAP_Cn_FXs_0_BRAKE_EN : Bits := ⟨30, 30⟩
/-- HAP_Cn_FXs_0.REVERSE, Table 16.9, RW. -/
def HAP_Cn_FXs_0_REVERSE : Bits := ⟨29, 29⟩
/-- HAP_Cn_FXs_0.SUS_LEVEL, Table 16.9, RW. -/
def HAP_Cn_FXs_0_SUS_LEVEL : Bits := ⟨15, 0⟩
/-- HAP_Cn_FXs_1.OD_LEVEL, Table 16.9, RW. -/
def HAP_Cn_FXs_1_OD_LEVEL : Bits := ⟨31, 16⟩
/-- HAP_Cn_FXs_1.OD_LEN, Table 16.9, RW. -/
def HAP_Cn_FXs_1_OD_LEN : Bits := ⟨7, 0⟩
/-- HAP_Cn_FXs_2.SUS_LEN, Table 16.9, RW. -/
def HAP_Cn_FXs_2_SUS_LEN : Bits := ⟨15, 0⟩
/-- HAP_Cn_FXs_3.BRAKE_MAX, Table 16.9, RW. -/
def HAP_Cn_FXs_3_BRAKE_MAX : Bits := ⟨18, 16⟩
/-- HAP_Cn_FXs_3.BRAKE_LEVEL, Table 16.9, RW. -/
def HAP_Cn_FXs_3_BRAKE_LEVEL : Bits := ⟨15, 0⟩
/-- AUD_INFO.LATENCY, Table 17.7, RO. -/
def AUD_INFO_LATENCY : Bits := ⟨31, 24⟩
/-- AUD_INFO.SINKS, Table 17.7, RO. -/
def AUD_INFO_SINKS : Bits := ⟨23, 16⟩
/-- AUD_INFO.SOURCES, Table 17.7, RO. -/
def AUD_INFO_SOURCES : Bits := ⟨15, 8⟩
/-- AUD_INFO.STREAMS, Table 17.7, RO. -/
def AUD_INFO_STREAMS : Bits := ⟨7, 0⟩
/-- AUD_CTRL.EVENT_PF, Table 17.7, RW. -/
def AUD_CTRL_EVENT_PF : Bits := ⟨1, 0⟩
/-- AUD_FRM_CTRL.SEQ, Table 17.7, RO. -/
def AUD_FRM_CTRL_SEQ : Bits := ⟨31, 16⟩
/-- AUD_FRM_CTRL.VALID, Table 17.7, RO. -/
def AUD_FRM_CTRL_VALID : Bits := ⟨1, 1⟩
/-- AUD_FRM_CTRL.SNAP, Table 17.7, WO. -/
def AUD_FRM_CTRL_SNAP : Bits := ⟨0, 0⟩
/-- AUD_FRM_ORIGIN_LO.ORIGIN_LO, Table 17.7, RO. -/
def AUD_FRM_ORIGIN_LO_ORIGIN_LO : Bits := ⟨31, 0⟩
/-- AUD_FRM_ORIGIN_HI.ORIGIN_HI, Table 17.7, RO. -/
def AUD_FRM_ORIGIN_HI_ORIGIN_HI : Bits := ⟨31, 0⟩
/-- AUD_FRM_INDEX.INDEX, Table 17.7, RO. -/
def AUD_FRM_INDEX_INDEX : Bits := ⟨31, 0⟩
/-- AUD_Ss_CFG.OPEN, Table 17.8, RO. -/
def AUD_Ss_CFG_OPEN : Bits := ⟨31, 31⟩
/-- AUD_Ss_CFG.FORMAT, Table 17.8, RO. -/
def AUD_Ss_CFG_FORMAT : Bits := ⟨9, 8⟩
/-- AUD_Ss_CFG.CHANNELS, Table 17.8, RO. -/
def AUD_Ss_CFG_CHANNELS : Bits := ⟨3, 0⟩
/-- AUD_Ss_RATE.RATE_HZ, Table 17.8, RO. -/
def AUD_Ss_RATE_RATE_HZ : Bits := ⟨31, 0⟩
/-- AUD_Ss_CTRL.MUTE, Table 17.8, RW. -/
def AUD_Ss_CTRL_MUTE : Bits := ⟨0, 0⟩
/-- AUD_Ss_STAT.MISSED, Table 17.8, RO. -/
def AUD_Ss_STAT_MISSED : Bits := ⟨31, 16⟩
/-- AUD_Ss_STAT.QUEUED, Table 17.8, RO. -/
def AUD_Ss_STAT_QUEUED : Bits := ⟨2, 0⟩
/-- AUD_Ss_GAINc.RAMP, Table 17.8, RW. -/
def AUD_Ss_GAINc_RAMP : Bits := ⟨22, 16⟩
/-- AUD_Ss_GAINc.GAIN, Table 17.8, RW. -/
def AUD_Ss_GAINc_GAIN : Bits := ⟨15, 0⟩
/-- AUD_Ss_SNAP_CTRL.SEQ, Table 17.8, RO. -/
def AUD_Ss_SNAP_CTRL_SEQ : Bits := ⟨31, 16⟩
/-- AUD_Ss_SNAP_CTRL.VALID, Table 17.8, RO. -/
def AUD_Ss_SNAP_CTRL_VALID : Bits := ⟨1, 1⟩
/-- AUD_Ss_SNAP_CTRL.SNAP, Table 17.8, WO. -/
def AUD_Ss_SNAP_CTRL_SNAP : Bits := ⟨0, 0⟩
/-- AUD_Ss_FRAMES.FRAMES, Table 17.8, RO. -/
def AUD_Ss_FRAMES_FRAMES : Bits := ⟨31, 0⟩
/-- AUD_Ss_INDEX.INDEX, Table 17.8, RO. -/
def AUD_Ss_INDEX_INDEX : Bits := ⟨31, 0⟩
/-- AUD_Ie_CTRL.MIC_GAIN, Table 17.9, RW. -/
def AUD_Ie_CTRL_MIC_GAIN : Bits := ⟨11, 8⟩
/-- AUD_Ie_CTRL.MUTE, Table 17.9, RW. -/
def AUD_Ie_CTRL_MUTE : Bits := ⟨1, 1⟩
/-- AUD_Ie_CTRL.ENABLE, Table 17.9, RW. -/
def AUD_Ie_CTRL_ENABLE : Bits := ⟨0, 0⟩
/-- AUD_Ie_STAT.CLOCK_LOSSES, Table 17.9, RO. -/
def AUD_Ie_STAT_CLOCK_LOSSES : Bits := ⟨31, 16⟩
/-- AUD_Ie_STAT.NO_CLOCK, Table 17.9, RO. -/
def AUD_Ie_STAT_NO_CLOCK : Bits := ⟨0, 0⟩
/-- AUD_Ie_GAINc.RAMP, Table 17.9, RW. -/
def AUD_Ie_GAINc_RAMP : Bits := ⟨22, 16⟩
/-- AUD_Ie_GAINc.GAIN, Table 17.9, RW. -/
def AUD_Ie_GAINc_GAIN : Bits := ⟨15, 0⟩
/-- AUD_TDMn_FMT.SLOTS, Table 17.10, RW. -/
def AUD_TDMn_FMT_SLOTS : Bits := ⟨18, 16⟩
/-- AUD_TDMn_FMT.SLOT_W, Table 17.10, RW. -/
def AUD_TDMn_FMT_SLOT_W : Bits := ⟨15, 14⟩
/-- AUD_TDMn_FMT.SAMPLE_W, Table 17.10, RW. -/
def AUD_TDMn_FMT_SAMPLE_W : Bits := ⟨13, 12⟩
/-- AUD_TDMn_FMT.RATE, Table 17.10, RW. -/
def AUD_TDMn_FMT_RATE : Bits := ⟨11, 10⟩
/-- AUD_TDMn_FMT.FS_INV, Table 17.10, RW. -/
def AUD_TDMn_FMT_FS_INV : Bits := ⟨9, 9⟩
/-- AUD_TDMn_FMT.BCLK_INV, Table 17.10, RW. -/
def AUD_TDMn_FMT_BCLK_INV : Bits := ⟨8, 8⟩
/-- AUD_TDMn_FMT.MODE, Table 17.10, RW. -/
def AUD_TDMn_FMT_MODE : Bits := ⟨5, 4⟩
/-- AUD_TDMn_FMT.MASTER, Table 17.10, RW. -/
def AUD_TDMn_FMT_MASTER : Bits := ⟨1, 1⟩
/-- AUD_TDMn_FMT.EN, Table 17.10, RW. -/
def AUD_TDMn_FMT_EN : Bits := ⟨0, 0⟩
/-- AUD_TDMn_PSTAT.RATE, Table 17.10, RO. -/
def AUD_TDMn_PSTAT_RATE : Bits := ⟨17, 0⟩
/-- AUD_TDMn_FMT_ERR.CFG_ERR, Table 17.10, RO. -/
def AUD_TDMn_FMT_ERR_CFG_ERR : Bits := ⟨3, 0⟩
/-- AUD_ATT_CTRL.STEPS, Table 17.11, RW. -/
def AUD_ATT_CTRL_STEPS : Bits := ⟨18, 16⟩
/-- AUD_ATT_CTRL.REPEAT, Table 17.11, RW. -/
def AUD_ATT_CTRL_REPEAT : Bits := ⟨15, 8⟩
/-- AUD_ATT_CTRL.STOP, Table 17.11, WO. -/
def AUD_ATT_CTRL_STOP : Bits := ⟨1, 1⟩
/-- AUD_ATT_CTRL.START, Table 17.11, WO. -/
def AUD_ATT_CTRL_START : Bits := ⟨0, 0⟩
/-- AUD_ATT_LEVEL.DUCK, Table 17.11, RW. -/
def AUD_ATT_LEVEL_DUCK : Bits := ⟨31, 16⟩
/-- AUD_ATT_LEVEL.LEVEL, Table 17.11, RW. -/
def AUD_ATT_LEVEL_LEVEL : Bits := ⟨15, 0⟩
/-- AUD_ATT_SINKS.SINKS, Table 17.11, RW. -/
def AUD_ATT_SINKS_SINKS : Bits := ⟨10, 0⟩
/-- AUD_ATT_FLOOR.FLOOR_ATTEN, Table 17.11, RW. -/
def AUD_ATT_FLOOR_FLOOR_ATTEN : Bits := ⟨5, 0⟩
/-- AUD_ATT_STAT.CFG_ERR, Table 17.11, W1C. -/
def AUD_ATT_STAT_CFG_ERR : Bits := ⟨1, 1⟩
/-- AUD_ATT_STAT.SOUNDING, Table 17.11, RO. -/
def AUD_ATT_STAT_SOUNDING : Bits := ⟨0, 0⟩
/-- AUD_ATT_STEPj.DUR, Table 17.11, RW. -/
def AUD_ATT_STEPj_DUR : Bits := ⟨31, 16⟩
/-- AUD_ATT_STEPj.FREQ, Table 17.11, RW. -/
def AUD_ATT_STEPj_FREQ : Bits := ⟨15, 0⟩
/-- AUD_Kk_CTRL.WB_CH, Table 17.12, RW. -/
def AUD_Kk_CTRL_WB_CH : Bits := ⟨11, 8⟩
/-- AUD_Kk_CTRL.MUTE, Table 17.12, RW. -/
def AUD_Kk_CTRL_MUTE : Bits := ⟨1, 1⟩
/-- AUD_Kk_CTRL.ENABLE, Table 17.12, RW. -/
def AUD_Kk_CTRL_ENABLE : Bits := ⟨0, 0⟩
/-- AUD_Kk_GAIN.RAMP, Table 17.12, RW. -/
def AUD_Kk_GAIN_RAMP : Bits := ⟨22, 16⟩
/-- AUD_Kk_GAIN.GAIN, Table 17.12, RW. -/
def AUD_Kk_GAIN_GAIN : Bits := ⟨15, 0⟩
/-- AUD_Kk_LIM.RELEASE, Table 17.12, RW. -/
def AUD_Kk_LIM_RELEASE : Bits := ⟨31, 24⟩
/-- AUD_Kk_LIM.THR, Table 17.12, RW. -/
def AUD_Kk_LIM_THR : Bits := ⟨15, 0⟩
/-- AUD_Kk_STAT.CLAMPED, Table 17.12, RO. -/
def AUD_Kk_STAT_CLAMPED : Bits := ⟨31, 16⟩
/-- AUD_Kk_STAT.SAT, Table 17.12, RO. -/
def AUD_Kk_STAT_SAT : Bits := ⟨15, 12⟩
/-- AUD_Kk_STAT.CFG_ERR, Table 17.12, RO. -/
def AUD_Kk_STAT_CFG_ERR : Bits := ⟨11, 8⟩
/-- AUD_Kk_STAT.NO_PORT, Table 17.12, RO. -/
def AUD_Kk_STAT_NO_PORT : Bits := ⟨4, 4⟩
/-- AUD_Kk_STAT.ATT_HELD, Table 17.12, W1C. -/
def AUD_Kk_STAT_ATT_HELD : Bits := ⟨3, 3⟩
/-- AUD_Kk_STAT.ROUTE_DENIED, Table 17.12, W1C. -/
def AUD_Kk_STAT_ROUTE_DENIED : Bits := ⟨2, 2⟩
/-- AUD_Kk_STAT.LIMITING, Table 17.12, RO. -/
def AUD_Kk_STAT_LIMITING : Bits := ⟨1, 1⟩
/-- AUD_Kk_STAT.RUNNING, Table 17.12, RO. -/
def AUD_Kk_STAT_RUNNING : Bits := ⟨0, 0⟩
/-- AUD_Kk_SELc_i.EN, Table 17.12, RW. -/
def AUD_Kk_SELc_i_EN : Bits := ⟨15, 15⟩
/-- AUD_Kk_SELc_i.ELEMENT, Table 17.12, RW. -/
def AUD_Kk_SELc_i_ELEMENT : Bits := ⟨10, 4⟩
/-- AUD_Kk_SELc_i.CHANNEL, Table 17.12, RW. -/
def AUD_Kk_SELc_i_CHANNEL : Bits := ⟨2, 0⟩
/-- AUD_Kk_MGc_i.RAMP, Table 17.12, RW. -/
def AUD_Kk_MGc_i_RAMP : Bits := ⟨22, 16⟩
/-- AUD_Kk_MGc_i.GAIN, Table 17.12, RW. -/
def AUD_Kk_MGc_i_GAIN : Bits := ⟨15, 0⟩
/-- AUD_HSn_OUT.AMUTE, Table 17.13, RW. -/
def AUD_HSn_OUT_AMUTE : Bits := ⟨6, 6⟩
/-- AUD_HSn_OUT.ATTEN, Table 17.13, RW. -/
def AUD_HSn_OUT_ATTEN : Bits := ⟨5, 0⟩
/-- AUD_HSn_DET.BTN_DEB, Table 17.13, RW. -/
def AUD_HSn_DET_BTN_DEB : Bits := ⟨31, 16⟩
/-- AUD_HSn_DET.DET_DEB, Table 17.13, RW. -/
def AUD_HSn_DET_DET_DEB : Bits := ⟨15, 0⟩
/-- AUD_HSn_BTN.BTN3_MAX, Table 17.13, RW. -/
def AUD_HSn_BTN_BTN3_MAX : Bits := ⟨31, 24⟩
/-- AUD_HSn_BTN.BTN2_MAX, Table 17.13, RW. -/
def AUD_HSn_BTN_BTN2_MAX : Bits := ⟨23, 16⟩
/-- AUD_HSn_BTN.BTN1_MAX, Table 17.13, RW. -/
def AUD_HSn_BTN_BTN1_MAX : Bits := ⟨15, 8⟩
/-- AUD_HSn_BTN.BTN0_MAX, Table 17.13, RW. -/
def AUD_HSn_BTN_BTN0_MAX : Bits := ⟨7, 0⟩
/-- AUD_HSn_STAT.BUTTON, Table 17.13, RO. -/
def AUD_HSn_STAT_BUTTON : Bits := ⟨7, 5⟩
/-- AUD_HSn_STAT.TYPE, Table 17.13, RO. -/
def AUD_HSn_STAT_TYPE : Bits := ⟨4, 2⟩
/-- AUD_HSn_STAT.MEASURING, Table 17.13, RO. -/
def AUD_HSn_STAT_MEASURING : Bits := ⟨1, 1⟩
/-- AUD_HSn_STAT.PLUGGED, Table 17.13, RO. -/
def AUD_HSn_STAT_PLUGGED : Bits := ⟨0, 0⟩
/-- AUD_WB_BASE_LO.BASE_LO, Table 17.14, RW. -/
def AUD_WB_BASE_LO_BASE_LO : Bits := ⟨31, 6⟩
/-- AUD_WB_BASE_HI.BASE_HI, Table 17.14, RW. -/
def AUD_WB_BASE_HI_BASE_HI : Bits := ⟨31, 0⟩
/-- AUD_WB_LEN.LEN, Table 17.14, RW. -/
def AUD_WB_LEN_LEN : Bits := ⟨31, 0⟩
/-- AUD_WB_WPTR.WPTR, Table 17.14, RO. -/
def AUD_WB_WPTR_WPTR : Bits := ⟨31, 0⟩
/-- AUD_WB_INDEX.INDEX, Table 17.14, RO. -/
def AUD_WB_INDEX_INDEX : Bits := ⟨31, 0⟩
/-- AUD_WB_SNAP_CTRL.SEQ, Table 17.14, RO. -/
def AUD_WB_SNAP_CTRL_SEQ : Bits := ⟨31, 16⟩
/-- AUD_WB_SNAP_CTRL.VALID, Table 17.14, RO. -/
def AUD_WB_SNAP_CTRL_VALID : Bits := ⟨1, 1⟩
/-- AUD_WB_SNAP_CTRL.SNAP, Table 17.14, WO. -/
def AUD_WB_SNAP_CTRL_SNAP : Bits := ⟨0, 0⟩
/-- DMA_Cn_CTRL.VECTOR, Table 18.6, RW. -/
def DMA_Cn_CTRL_VECTOR : Bits := ⟨21, 16⟩
/-- DMA_Cn_CTRL.MODE, Table 18.6, RW. -/
def DMA_Cn_CTRL_MODE : Bits := ⟨3, 3⟩
/-- DMA_Cn_CTRL.ENABLE, Table 18.6, RW. -/
def DMA_Cn_CTRL_ENABLE : Bits := ⟨2, 2⟩
/-- DMA_Cn_CTRL.STOP, Table 18.6, WO. -/
def DMA_Cn_CTRL_STOP : Bits := ⟨1, 1⟩
/-- DMA_Cn_CTRL.START, Table 18.6, WO. -/
def DMA_Cn_CTRL_START : Bits := ⟨0, 0⟩
/-- DMA_Cn_SRC_LO.SRC_LO, Table 18.6, RW. -/
def DMA_Cn_SRC_LO_SRC_LO : Bits := ⟨31, 0⟩
/-- DMA_Cn_SRC_HI.SRC_HI, Table 18.6, RW. -/
def DMA_Cn_SRC_HI_SRC_HI : Bits := ⟨31, 0⟩
/-- DMA_Cn_DST_LO.DST_LO, Table 18.6, RW. -/
def DMA_Cn_DST_LO_DST_LO : Bits := ⟨31, 0⟩
/-- DMA_Cn_DST_HI.DST_HI, Table 18.6, RW. -/
def DMA_Cn_DST_HI_DST_HI : Bits := ⟨31, 0⟩
/-- DMA_Cn_COUNT.COUNT, Table 18.6, RW. -/
def DMA_Cn_COUNT_COUNT : Bits := ⟨30, 0⟩
/-- DMA_Cn_DFLAGS.DFLAGS, Table 18.6, RW. -/
def DMA_Cn_DFLAGS_DFLAGS : Bits := ⟨31, 0⟩
/-- DMA_Cn_STAT.RATE, Table 18.6, RO. -/
def DMA_Cn_STAT_RATE : Bits := ⟨24, 16⟩
/-- DMA_Cn_STAT.PRIO, Table 18.6, RO. -/
def DMA_Cn_STAT_PRIO : Bits := ⟨15, 15⟩
/-- DMA_Cn_STAT.ALIAS, Table 18.6, RO. -/
def DMA_Cn_STAT_ALIAS : Bits := ⟨8, 8⟩
/-- DMA_Cn_STAT.CONTRACT, Table 18.6, RO. -/
def DMA_Cn_STAT_CONTRACT : Bits := ⟨7, 7⟩
/-- DMA_Cn_STAT.SHADOW_FULL, Table 18.6, RO. -/
def DMA_Cn_STAT_SHADOW_FULL : Bits := ⟨6, 6⟩
/-- DMA_Cn_STAT.BUSY, Table 18.6, RO. -/
def DMA_Cn_STAT_BUSY : Bits := ⟨5, 5⟩
/-- DMA_Cn_STAT.START_ERR, Table 18.6, W1C. -/
def DMA_Cn_STAT_START_ERR : Bits := ⟨3, 3⟩
/-- DMA_Cn_STAT.STOPPED, Table 18.6, W1C. -/
def DMA_Cn_STAT_STOPPED : Bits := ⟨2, 2⟩
/-- DMA_Cn_STAT.FAULTED, Table 18.6, W1C. -/
def DMA_Cn_STAT_FAULTED : Bits := ⟨1, 1⟩
/-- DMA_Cn_STAT.DONE, Table 18.6, W1C. -/
def DMA_Cn_STAT_DONE : Bits := ⟨0, 0⟩
/-- DMA_Cn_MOVED.MOVED, Table 18.6, RO. -/
def DMA_Cn_MOVED_MOVED : Bits := ⟨31, 0⟩
/-- DMA_Cn_SETS.CONTRACTED, Table 18.6, RO. -/
def DMA_Cn_SETS_CONTRACTED : Bits := ⟨31, 16⟩
/-- DMA_Cn_SETS.REGISTER, Table 18.6, RO. -/
def DMA_Cn_SETS_REGISTER : Bits := ⟨15, 0⟩
/-- DMA_Cn_SNAP_CTRL.SEQ, Table 18.6, RO. -/
def DMA_Cn_SNAP_CTRL_SEQ : Bits := ⟨31, 16⟩
/-- DMA_Cn_SNAP_CTRL.VALID, Table 18.6, RO. -/
def DMA_Cn_SNAP_CTRL_VALID : Bits := ⟨1, 1⟩
/-- DMA_Cn_SNAP_CTRL.SNAP, Table 18.6, WO. -/
def DMA_Cn_SNAP_CTRL_SNAP : Bits := ⟨0, 0⟩
/-- DMA_CTRL.EVENT_PF, Table 18.7, RW. -/
def DMA_CTRL_EVENT_PF : Bits := ⟨1, 0⟩
/-- DMA_RATEn.PRIO, Table 18.7, RW. -/
def DMA_RATEn_PRIO : Bits := ⟨16, 16⟩
/-- DMA_RATEn.RATE, Table 18.7, RW. -/
def DMA_RATEn_RATE : Bits := ⟨8, 0⟩
/-- DMA_RATE_STAT.RATE_ERR, Table 18.7, W1C. -/
def DMA_RATE_STAT_RATE_ERR : Bits := ⟨16, 16⟩
/-- DMA_RATE_STAT.SUM, Table 18.7, RO. -/
def DMA_RATE_STAT_SUM : Bits := ⟨8, 0⟩
/-- CV_Un_CTRL.VECTOR, Table 18.8, RW. -/
def CV_Un_CTRL_VECTOR : Bits := ⟨29, 24⟩
/-- CV_Un_CTRL.FN, Table 18.8, RW. -/
def CV_Un_CTRL_FN : Bits := ⟨21, 16⟩
/-- CV_Un_CTRL.CTX_EN, Table 18.8, RW. -/
def CV_Un_CTRL_CTX_EN : Bits := ⟨10, 10⟩
/-- CV_Un_CTRL.FINAL, Table 18.8, RW. -/
def CV_Un_CTRL_FINAL : Bits := ⟨9, 9⟩
/-- CV_Un_CTRL.INIT, Table 18.8, RW. -/
def CV_Un_CTRL_INIT : Bits := ⟨8, 8⟩
/-- CV_Un_CTRL.ALG, Table 18.8, RW. -/
def CV_Un_CTRL_ALG : Bits := ⟨5, 4⟩
/-- CV_Un_CTRL.PAUSE, Table 18.8, WO. -/
def CV_Un_CTRL_PAUSE : Bits := ⟨1, 1⟩
/-- CV_Un_CTRL.GO, Table 18.8, WO. -/
def CV_Un_CTRL_GO : Bits := ⟨0, 0⟩
/-- CV_Un_ADDR_LO.ADDR_LO, Table 18.8, RW. -/
def CV_Un_ADDR_LO_ADDR_LO : Bits := ⟨31, 0⟩
/-- CV_Un_ADDR_HI.ADDR_HI, Table 18.8, RW. -/
def CV_Un_ADDR_HI_ADDR_HI : Bits := ⟨31, 0⟩
/-- CV_Un_LEN.LEN, Table 18.8, RW. -/
def CV_Un_LEN_LEN : Bits := ⟨30, 0⟩
/-- CV_Un_STAT.CFG_ERR, Table 18.8, RO. -/
def CV_Un_STAT_CFG_ERR : Bits := ⟨11, 8⟩
/-- CV_Un_STAT.CONTRACT, Table 18.8, RO. -/
def CV_Un_STAT_CONTRACT : Bits := ⟨6, 6⟩
/-- CV_Un_STAT.PAUSED, Table 18.8, RO. -/
def CV_Un_STAT_PAUSED : Bits := ⟨5, 5⟩
/-- CV_Un_STAT.BUSY, Table 18.8, RO. -/
def CV_Un_STAT_BUSY : Bits := ⟨4, 4⟩
/-- CV_Un_STAT.FINALISED, Table 18.8, RO. -/
def CV_Un_STAT_FINALISED : Bits := ⟨3, 3⟩
/-- CV_Un_STAT.FAULTED, Table 18.8, W1C. -/
def CV_Un_STAT_FAULTED : Bits := ⟨2, 2⟩
/-- CV_Un_STAT.DONE, Table 18.8, W1C. -/
def CV_Un_STAT_DONE : Bits := ⟨0, 0⟩
/-- CV_Un_COUNT_LO.COUNT_LO, Table 18.8, RW. -/
def CV_Un_COUNT_LO_COUNT_LO : Bits := ⟨31, 0⟩
/-- CV_Un_COUNT_HI.COUNT_HI, Table 18.8, RW. -/
def CV_Un_COUNT_HI_COUNT_HI : Bits := ⟨31, 0⟩
/-- CV_Un_STATEi.STATE, Table 18.8, RW. -/
def CV_Un_STATEi_STATE : Bits := ⟨31, 0⟩
/-- CV_Un_SNAP_CTRL.SEQ, Table 18.8, RO. -/
def CV_Un_SNAP_CTRL_SEQ : Bits := ⟨31, 16⟩
/-- CV_Un_SNAP_CTRL.VALID, Table 18.8, RO. -/
def CV_Un_SNAP_CTRL_VALID : Bits := ⟨1, 1⟩
/-- CV_Un_SNAP_CTRL.SNAP, Table 18.8, WO. -/
def CV_Un_SNAP_CTRL_SNAP : Bits := ⟨0, 0⟩
/-- CLK_STAT.LOSSES, Table 19.8, RO. -/
def CLK_STAT_LOSSES : Bits := ⟨31, 16⟩
/-- CLK_STAT.RELOCKING, Table 19.8, RO. -/
def CLK_STAT_RELOCKING : Bits := ⟨3, 3⟩
/-- CLK_STAT.FORCED, Table 19.8, RO. -/
def CLK_STAT_FORCED : Bits := ⟨2, 2⟩
/-- CLK_STAT.CLKIN_OK, Table 19.8, RO. -/
def CLK_STAT_CLKIN_OK : Bits := ⟨1, 1⟩
/-- CLK_STAT.CLK_LOST, Table 19.8, W1C. -/
def CLK_STAT_CLK_LOST : Bits := ⟨0, 0⟩
/-- CLK_SNAP_CTRL.SEQ, Table 19.9, RO. -/
def CLK_SNAP_CTRL_SEQ : Bits := ⟨31, 16⟩
/-- CLK_SNAP_CTRL.VALID, Table 19.9, RO. -/
def CLK_SNAP_CTRL_VALID : Bits := ⟨1, 1⟩
/-- CLK_SNAP_CTRL.SNAP, Table 19.9, WO. -/
def CLK_SNAP_CTRL_SNAP : Bits := ⟨0, 0⟩
/-- CLK_LOSS_START_LO.START_LO, Table 19.9, RO. -/
def CLK_LOSS_START_LO_START_LO : Bits := ⟨31, 0⟩
/-- CLK_LOSS_START_HI.START_HI, Table 19.9, RO. -/
def CLK_LOSS_START_HI_START_HI : Bits := ⟨31, 0⟩
/-- CLK_LOSS_END_LO.END_LO, Table 19.9, RO. -/
def CLK_LOSS_END_LO_END_LO : Bits := ⟨31, 0⟩
/-- CLK_LOSS_END_HI.END_HI, Table 19.9, RO. -/
def CLK_LOSS_END_HI_END_HI : Bits := ⟨31, 0⟩
/-- CLK_ISLn.GOOD, Table 19.10, RO. -/
def CLK_ISLn_GOOD : Bits := ⟨31, 31⟩
/-- CLK_ISLn.LOCKED, Table 19.10, RO. -/
def CLK_ISLn_LOCKED : Bits := ⟨30, 30⟩
/-- CLK_ISLn.SRC, Table 19.10, RO. -/
def CLK_ISLn_SRC : Bits := ⟨29, 28⟩
/-- CLK_ISLn.COASTING, Table 19.10, RO. -/
def CLK_ISLn_COASTING : Bits := ⟨27, 27⟩
/-- CLK_ISLn.FREQ_KHZ, Table 19.10, RO. -/
def CLK_ISLn_FREQ_KHZ : Bits := ⟨20, 0⟩
/-- RST_CAUSE.PORT, Table 19.11, W1C. -/
def RST_CAUSE_PORT : Bits := ⟨19, 16⟩
/-- RST_CAUSE.SOURCE, Table 19.11, W1C. -/
def RST_CAUSE_SOURCE : Bits := ⟨8, 0⟩
/-- RST_REQ.DEVICE, Table 19.11, PW. -/
def RST_REQ_DEVICE : Bits := ⟨0, 0⟩
/-- RST_BLK.GATE, Table 19.11, PW. -/
def RST_BLK_GATE : Bits := ⟨15, 0⟩
/-- RST_BLK_STAT.REFUSED, Table 19.11, W1C. -/
def RST_BLK_STAT_REFUSED : Bits := ⟨2, 2⟩
/-- RST_BLK_STAT.BUSY, Table 19.11, RO. -/
def RST_BLK_STAT_BUSY : Bits := ⟨1, 1⟩
/-- RST_BLK_STAT.DONE, Table 19.11, W1C. -/
def RST_BLK_STAT_DONE : Bits := ⟨0, 0⟩
/-- RST_WD_CTRL.MAX, Table 19.11, RW. -/
def RST_WD_CTRL_MAX : Bits := ⟨31, 16⟩
/-- RST_WD_CTRL.MIN, Table 19.11, RW. -/
def RST_WD_CTRL_MIN : Bits := ⟨15, 2⟩
/-- RST_WD_CTRL.EN, Table 19.11, RW. -/
def RST_WD_CTRL_EN : Bits := ⟨0, 0⟩
/-- RST_WD_SVC.SVC, Table 19.11, PW. -/
def RST_WD_SVC_SVC : Bits := ⟨31, 0⟩
/-- RST_WD_STAT.SERVICES, Table 19.11, RO. -/
def RST_WD_STAT_SERVICES : Bits := ⟨31, 16⟩
/-- RST_WD_STAT.RUNNING, Table 19.11, RO. -/
def RST_WD_STAT_RUNNING : Bits := ⟨0, 0⟩
/-- PWR_CTRL.EVENT_PF, Table 19.12, RW. -/
def PWR_CTRL_EVENT_PF : Bits := ⟨1, 0⟩
/-- PWR_STAT.WAKE_QUEUED, Table 19.12, RO. -/
def PWR_STAT_WAKE_QUEUED : Bits := ⟨31, 24⟩
/-- PWR_STAT.INRUSH_USED, Table 19.12, RO. -/
def PWR_STAT_INRUSH_USED : Bits := ⟨19, 16⟩
/-- PWR_STAT.STATE, Table 19.12, RO. -/
def PWR_STAT_STATE : Bits := ⟨1, 0⟩
/-- PWR_GSEL.GATE, Table 19.12, RW. -/
def PWR_GSEL_GATE : Bits := ⟨15, 0⟩
/-- PWR_GINFO.STATE, Table 19.12, RO. -/
def PWR_GINFO_STATE : Bits := ⟨31, 29⟩
/-- PWR_GINFO.QUEUED_ENABLE, Table 19.12, RO. -/
def PWR_GINFO_QUEUED_ENABLE : Bits := ⟨28, 28⟩
/-- PWR_GINFO.PENDING_GATE, Table 19.12, RO. -/
def PWR_GINFO_PENDING_GATE : Bits := ⟨27, 27⟩
/-- PWR_GINFO.RETAINED, Table 19.12, RO. -/
def PWR_GINFO_RETAINED : Bits := ⟨26, 26⟩
/-- PWR_GINFO.COST, Table 19.12, RO. -/
def PWR_GINFO_COST : Bits := ⟨23, 20⟩
/-- PWR_GINFO.PARENT, Table 19.12, RO. -/
def PWR_GINFO_PARENT : Bits := ⟨15, 0⟩
/-- PWR_THERM.MAX, Table 22.12, RO. -/
def PWR_THERM_MAX : Bits := ⟨31, 16⟩
/-- PWR_THERM.TEMP, Table 22.12, RO. -/
def PWR_THERM_TEMP : Bits := ⟨15, 0⟩
/-- PWR_THERM_CTRL.ALARM_AT, Table 22.12, RW. -/
def PWR_THERM_CTRL_ALARM_AT : Bits := ⟨31, 16⟩
/-- PWR_THERM_CTRL.ALARM, Table 22.12, W1C. -/
def PWR_THERM_CTRL_ALARM : Bits := ⟨1, 1⟩
/-- PWR_THERM_CTRL.ALARM_EN, Table 22.12, RW. -/
def PWR_THERM_CTRL_ALARM_EN : Bits := ⟨0, 0⟩
/-- REG_CHURN_CTRL.DISCARD, Table 20.8, WO. -/
def REG_CHURN_CTRL_DISCARD : Bits := ⟨2, 2⟩
/-- REG_CHURN_CTRL.STROBE, Table 20.8, WO. -/
def REG_CHURN_CTRL_STROBE : Bits := ⟨1, 1⟩
/-- REG_CHURN_CTRL.OPEN, Table 20.8, RW. -/
def REG_CHURN_CTRL_OPEN : Bits := ⟨0, 0⟩
/-- REG_CHURN_STAT.FAIL_ENTRY, Table 20.8, RO. -/
def REG_CHURN_STAT_FAIL_ENTRY : Bits := ⟨23, 16⟩
/-- REG_CHURN_STAT.REASON, Table 20.8, RO. -/
def REG_CHURN_STAT_REASON : Bits := ⟨15, 12⟩
/-- REG_CHURN_STAT.ENTRIES, Table 20.8, RO. -/
def REG_CHURN_STAT_ENTRIES : Bits := ⟨9, 4⟩
/-- REG_CHURN_STAT.BUSY, Table 20.8, RO. -/
def REG_CHURN_STAT_BUSY : Bits := ⟨3, 3⟩
/-- REG_CHURN_STAT.OVERFLOW, Table 20.8, W1C. -/
def REG_CHURN_STAT_OVERFLOW : Bits := ⟨2, 2⟩
/-- REG_CHURN_STAT.REFUSED, Table 20.8, W1C. -/
def REG_CHURN_STAT_REFUSED : Bits := ⟨1, 1⟩
/-- REG_CHURN_STAT.APPLIED, Table 20.8, W1C. -/
def REG_CHURN_STAT_APPLIED : Bits := ⟨0, 0⟩
/-- REG_CHURN_CNT.STROBES, Table 20.8, RO. -/
def REG_CHURN_CNT_STROBES : Bits := ⟨31, 16⟩
/-- REG_CHURN_CNT.REFUSALS, Table 20.8, RO. -/
def REG_CHURN_CNT_REFUSALS : Bits := ⟨15, 0⟩
/-- REG_PAIR_STAT.FAILS, Table 20.8, RO. -/
def REG_PAIR_STAT_FAILS : Bits := ⟨31, 16⟩
/-- REG_PAIR_STAT.LATE, Table 20.8, W1C. -/
def REG_PAIR_STAT_LATE : Bits := ⟨2, 2⟩
/-- REG_PAIR_STAT.MISMATCH, Table 20.8, W1C. -/
def REG_PAIR_STAT_MISMATCH : Bits := ⟨1, 1⟩
/-- REG_PAIR_STAT.ARMED, Table 20.8, RO. -/
def REG_PAIR_STAT_ARMED : Bits := ⟨0, 0⟩
/-- REG_CRC_CTRL.EVENT_PF, Table 20.9, CH. -/
def REG_CRC_CTRL_EVENT_PF : Bits := ⟨5, 4⟩
/-- REG_CRC_CTRL.POLICY, Table 20.9, CH. -/
def REG_CRC_CTRL_POLICY : Bits := ⟨2, 1⟩
/-- REG_CRC_CTRL.EN, Table 20.9, CH. -/
def REG_CRC_CTRL_EN : Bits := ⟨0, 0⟩
/-- REG_CRC_STAT.MISMATCH_PASSES, Table 20.9, RO. -/
def REG_CRC_STAT_MISMATCH_PASSES : Bits := ⟨31, 16⟩
/-- REG_CRC_STAT.LAST_SEG, Table 20.9, RO. -/
def REG_CRC_STAT_LAST_SEG : Bits := ⟨15, 8⟩
/-- REG_CRC_STAT.DRIFT, Table 20.9, RO. -/
def REG_CRC_STAT_DRIFT : Bits := ⟨2, 2⟩
/-- REG_CRC_STAT.MISMATCH, Table 20.9, W1C. -/
def REG_CRC_STAT_MISMATCH : Bits := ⟨1, 1⟩
/-- REG_CRC_STAT.SCANNING, Table 20.9, RO. -/
def REG_CRC_STAT_SCANNING : Bits := ⟨0, 0⟩
/-- REG_CRC_COMMIT.COMMIT, Table 20.9, PW. -/
def REG_CRC_COMMIT_COMMIT : Bits := ⟨0, 0⟩
/-- REG_CRC_RESYNC.SEG, Table 20.9, PW. -/
def REG_CRC_RESYNC_SEG : Bits := ⟨7, 0⟩
/-- REG_CRC_HOLM_REF.REF, Table 20.9, RO. -/
def REG_CRC_HOLM_REF_REF : Bits := ⟨31, 0⟩
/-- REG_CRC_COMMITTED.REF, Table 20.9, RO. -/
def REG_CRC_COMMITTED_REF : Bits := ⟨31, 0⟩
/-- REG_CRC_PASSES.PASSES, Table 20.9, RO. -/
def REG_CRC_PASSES_PASSES : Bits := ⟨31, 0⟩
/-- REG_CRC_SNAP_CTRL.SEQ, Table 20.9, RO. -/
def REG_CRC_SNAP_CTRL_SEQ : Bits := ⟨31, 16⟩
/-- REG_CRC_SNAP_CTRL.VALID, Table 20.9, RO. -/
def REG_CRC_SNAP_CTRL_VALID : Bits := ⟨1, 1⟩
/-- REG_CRC_SNAP_CTRL.SNAP, Table 20.9, WO. -/
def REG_CRC_SNAP_CTRL_SNAP : Bits := ⟨0, 0⟩
/-- REG_ERR.UNMAPPED, Table 20.10, RO. -/
def REG_ERR_UNMAPPED : Bits := ⟨31, 16⟩
/-- REG_ERR.PARTIAL, Table 20.10, RO. -/
def REG_ERR_PARTIAL : Bits := ⟨15, 0⟩
/-- REG_BOOT_STAT.DUMP_STREAK, Table 21.12, RWS. -/
def REG_BOOT_STAT_DUMP_STREAK : Bits := ⟨23, 20⟩
/-- REG_BOOT_STAT.CODE, Table 21.12, RO. -/
def REG_BOOT_STAT_CODE : Bits := ⟨19, 16⟩
/-- REG_BOOT_STAT.BOOT_DONE, Table 21.12, RO. -/
def REG_BOOT_STAT_BOOT_DONE : Bits := ⟨7, 7⟩
/-- REG_BOOT_STAT.CERT, Table 21.12, RO. -/
def REG_BOOT_STAT_CERT : Bits := ⟨6, 6⟩
/-- REG_BOOT_STAT.FALLBACK, Table 21.12, RO. -/
def REG_BOOT_STAT_FALLBACK : Bits := ⟨5, 5⟩
/-- REG_BOOT_STAT.TRIAL, Table 21.12, RO. -/
def REG_BOOT_STAT_TRIAL : Bits := ⟨4, 4⟩
/-- REG_BOOT_STAT.TRIES_LEFT, Table 21.12, RO. -/
def REG_BOOT_STAT_TRIES_LEFT : Bits := ⟨3, 2⟩
/-- REG_BOOT_STAT.SLOT, Table 21.12, RO. -/
def REG_BOOT_STAT_SLOT : Bits := ⟨0, 0⟩
/-- REG_OTP_STAT.ROLLBACK, Table 21.13, RO. -/
def REG_OTP_STAT_ROLLBACK : Bits := ⟨22, 16⟩
/-- REG_OTP_STAT.LIFECYCLE, Table 21.13, RO. -/
def REG_OTP_STAT_LIFECYCLE : Bits := ⟨15, 14⟩
/-- REG_OTP_STAT.MKEY_VALID, Table 21.13, RO. -/
def REG_OTP_STAT_MKEY_VALID : Bits := ⟨13, 12⟩
/-- REG_OTP_STAT.KEY_REVOKED, Table 21.13, RO. -/
def REG_OTP_STAT_KEY_REVOKED : Bits := ⟨11, 8⟩
/-- REG_OTP_STAT.KEY_LAB, Table 21.13, RO. -/
def REG_OTP_STAT_KEY_LAB : Bits := ⟨7, 4⟩
/-- REG_OTP_STAT.KEY_VALID, Table 21.13, RO. -/
def REG_OTP_STAT_KEY_VALID : Bits := ⟨3, 0⟩
/-- REG_DUMP_STAT.DUMPS, Table 21.14, RO. -/
def REG_DUMP_STAT_DUMPS : Bits := ⟨31, 16⟩
/-- REG_DUMP_STAT.TRIGGER, Table 21.14, RO. -/
def REG_DUMP_STAT_TRIGGER : Bits := ⟨7, 5⟩
/-- REG_DUMP_STAT.WRITING, Table 21.14, RO. -/
def REG_DUMP_STAT_WRITING : Bits := ⟨3, 3⟩
/-- REG_DUMP_STAT.READ, Table 21.14, RO. -/
def REG_DUMP_STAT_READ : Bits := ⟨2, 2⟩
/-- REG_DUMP_STAT.PRESENT, Table 21.14, RO. -/
def REG_DUMP_STAT_PRESENT : Bits := ⟨0, 0⟩
/-- REG_DUMP_CTRL.TRIGGER, Table 21.14, RW. -/
def REG_DUMP_CTRL_TRIGGER : Bits := ⟨7, 5⟩
/-- REG_DUMP_CTRL.CLEAR, Table 21.14, WO. -/
def REG_DUMP_CTRL_CLEAR : Bits := ⟨1, 1⟩
/-- REG_DUMP_CTRL.FIRE, Table 21.14, WO. -/
def REG_DUMP_CTRL_FIRE : Bits := ⟨0, 0⟩
/-- DBG_STAT.ATTACHES, Table 5.17, RO. -/
def DBG_STAT_ATTACHES : Bits := ⟨31, 16⟩
/-- DBG_STAT.HALTED, Table 5.17, RO. -/
def DBG_STAT_HALTED : Bits := ⟨7, 6⟩
/-- DBG_STAT.DEFERRED, Table 5.17, RO. -/
def DBG_STAT_DEFERRED : Bits := ⟨5, 5⟩
/-- DBG_STAT.TAP_RESET, Table 5.17, RO. -/
def DBG_STAT_TAP_RESET : Bits := ⟨4, 4⟩
/-- DBG_STAT.TAP_USE, Table 5.17, RO. -/
def DBG_STAT_TAP_USE : Bits := ⟨3, 2⟩
/-- DBG_STAT.DAP_HOLM, Table 5.17, RO. -/
def DBG_STAT_DAP_HOLM : Bits := ⟨1, 1⟩
/-- DBG_STAT.DAP_ATTACHED, Table 5.17, RO. -/
def DBG_STAT_DAP_ATTACHED : Bits := ⟨0, 0⟩
/-- DBG_DENY.DENIED, Table 5.18, RO. -/
def DBG_DENY_DENIED : Bits := ⟨31, 16⟩
/-- DBG_DENY.SECRET, Table 5.18, RO. -/
def DBG_DENY_SECRET : Bits := ⟨12, 12⟩
/-- DBG_DENY.LAST_NEED, Table 5.18, RO. -/
def DBG_DENY_LAST_NEED : Bits := ⟨11, 8⟩
/-- DBG_DENY.LAST_INSTR, Table 5.18, RO. -/
def DBG_DENY_LAST_INSTR : Bits := ⟨7, 0⟩
/-- DBG_CTRL.NOTICE_EN, Table 5.19, RW. -/
def DBG_CTRL_NOTICE_EN : Bits := ⟨0, 0⟩

end Sys2Proof.Machine.Fld
end

