-- ==== Sys2Proof/Machine/Table.lean ====
section
/-!
DEFINITION. Table.lean: sparse tables with one canonical form (keys strictly rising, no entry equal to what an unlisted key reads as).
Memories, register files and the per-instance records of the block are such tables.
-/

namespace Sys2Proof.Machine

/-- A sparse table: key and value pairs. -/
abbrev Table (α : Type) := List (Nat × α)

/-- The value at key `i`; a key that is not listed reads as `d`. -/
def tget {α : Type} (d : α) : Table α → Nat → α
  | [], _ => d
  | (k, v) :: t, i => if k = i then v else if i < k then d else tget d t i

/-- Store `v` at key `i`, keeping the canonical form: storing `d` removes the entry. -/
def tput {α : Type} [DecidableEq α] (d : α) : Table α → Nat → α → Table α
  | [], i, v => if v = d then [] else [(i, v)]
  | (k, w) :: t, i, v =>
    if i < k then (if v = d then (k, w) :: t else (i, v) :: (k, w) :: t)
    else if i = k then (if v = d then t.dropWhile (fun e => e.1 ≤ i) else (i, v) :: t)
    else (k, w) :: tput d t i v

/-- Change the value at key `i` by `f`. -/
def tmod {α : Type} [DecidableEq α] (d : α) (t : Table α) (i : Nat) (f : α → α) : Table α :=
  tput d t i (f (tget d t i))

/-- The canonical form above key `lo`: keys strictly rising and at least `lo`, no entry equal to `d`. -/
def twfFrom {α : Type} [DecidableEq α] (d : α) : Nat → Table α → Bool
  | _, [] => true
  | lo, (k, v) :: t => decide (lo ≤ k) && decide (v ≠ d) && twfFrom d (k + 1) t

/-- The canonical form of a table. -/
def twf {α : Type} [DecidableEq α] (d : α) (t : Table α) : Bool := twfFrom d 0 t

/-- Store a list of values at rising keys from `i`. -/
def tputs {α : Type} [DecidableEq α] (d : α) (t : Table α) (i : Nat) : List α → Table α
  | [] => t
  | v :: vs => tputs d (tput d t i v) (i + 1) vs

/-- The `n` values from key `i`. -/
def tgets {α : Type} (d : α) (t : Table α) (i : Nat) : Nat → List α
  | 0 => []
  | n + 1 => tget d t i :: tgets d t (i + 1) n

/-- Remove every entry whose key lies in [lo, hi): those keys read as the default again. -/
def tclear {α : Type} (t : Table α) (lo hi : Nat) : Table α :=
  t.filter (fun e => !(decide (lo ≤ e.1) && decide (e.1 < hi)))

end Sys2Proof.Machine
end

