-- ==== Sys2Proof/Machine/Types/Audio.lean ====
section
/-!
DEFINITION. Types/Audio.lean: the audio graph (chapter 17).
-/

namespace Sys2Proof.Machine

open Sys2Proof

/-- A buffer on a host stream (R490 to R492): its contract's function and identifier, world, address, frames and frame bytes, frames consumed, RELEASE's effective start s₀, D of R491 in ticks, whether its first sample has
entered the mixer. -/
structure AudBuf where
  fn : Nat
  id : Nat
  holm : Bool
  addr : Nat
  frames : Nat
  frameBytes : Nat
  pos : Nat := 0
  s0 : Tick
  dur : Nat
  begun : Bool := false
  deriving DecidableEq, Repr

/-- A host stream (R492): buffers (oldest first), the run of joined buffers that plays (the boundary of its first frame, frames taken), source frames consumed. -/
structure StreamRec where
  bufs : List AudBuf := []
  run : Option (Nat × Nat) := none
  used : Nat := 0
  deriving DecidableEq, Repr

/-- A gain that moves (R498): the gain in effect, the gain the ramp starts from, the gain it goes to, frames made and frames in all. -/
structure Ramp where
  now : Nat
  start : Nat
  goal : Nat
  made : Nat
  frames : Nat
  deriving DecidableEq, Repr

/-- One sink: the last 49 frames of z, newest first (R500), the limiter's gain g, the frames on their way to the pins, newest first (R486), the frame that left last. -/
structure SinkRec where
  zs : List (List Int) := []
  g : Nat := 1073741824
  out : List (List Int) := []
  emitted : List Int := []
  deriving DecidableEq, Repr

/-- The attention tone (R502): the step, its frame, repetitions done, the phase; the envelope left of a fall after STOP; whether the sequence has ended. -/
structure ToneRec where
  step : Nat := 0
  frame : Nat := 0
  rep : Nat := 0
  phase : Nat := 0
  fall : Option Nat := none
  done : Bool := false
  deriving DecidableEq, Repr

/-- A headset port (R505 to R507): the stamp of the sample that began the insertion, the stamp of a removal seen and not confirmed. -/
structure HsRec where
  since : Tick := 0
  removing : Option Tick := none
  deriving DecidableEq, Repr

/-- Audio state: ORIGIN (none before the first boundary) and the number of the last boundary; register writes that wait for a boundary, in order (offset, value; R485); gains that move, by the offset of their register; samples in
conversion by source element, newest first (17 frames); host streams; sinks; the tone; the tone and envelope of the present frame; headset ports; the writeback's offset; sinks whose ENABLE 0 is held for the tone (R504). -/
structure AudioState where
  origin : Option Tick := none
  index : Nat := 0
  writes : List (Nat × Word) := []
  gains : Table (Option Ramp) := []
  delay : Table (List (List Int)) := []
  streams : Table StreamRec := []
  sinks : Table SinkRec := []
  tone : Option ToneRec := none
  toneNow : Int × Nat := (0, 0)
  hs : Table HsRec := []
  wptr : Nat := 0
  heldOff : List Nat := []
  deriving DecidableEq, Repr

end Sys2Proof.Machine
end

