-- ==== Sys2Proof/Machine/Types/Boot.lean ====
section
/-!
DEFINITION. Types/Boot.lean: OTP fuses, boot flash, selection, the Ramkeris log and the fatal dump (chapter 21).
-/

namespace Sys2Proof.Machine

/-- One Holm key slot of the OTP (Table 21.1). -/
structure HolmKey where
  key : List Byte := []
  valid : Bool := false
  lab : Bool := false
  revoked : Bool := false
  deriving DecidableEq, Repr

/-- The OTP fields (R588, Table 21.1). LIFECYCLE 0 BLANK, 1 DEVELOP, 2 FIELD. -/
structure Otp where
  uid : List Byte := List.replicate 16 0
  grade : Nat := 1
  lifecycle : Nat := 0
  rootHash : List Byte := List.replicate 32 0
  holmPort : Nat := 0
  keys : List HolmKey := [{}, {}, {}, {}]
  kw : List Byte := List.replicate 32 0
  mks : List (Option (List Byte)) := [none, none]
  rollback : Nat := 0
  deriving DecidableEq, Repr

/-- One Mainland key record in use (R597): KEY_ID, the 65-bit requester mask, the key. -/
structure MainKey where
  id : Nat
  mask : Nat
  key : List Byte
  deriving DecidableEq, Repr

/-- One entry of the Ramkeris log (R603). -/
structure RamEntry where
  kind : Nat
  flags : Nat
  stamp : Tick
  data : List Byte
  digest : List Byte
  deriving DecidableEq, Repr

/-- The Ramkeris log (R603). -/
structure RamLog where
  bootStamp : Tick := 0
  entries : List RamEntry := []
  dropped : Nat := 0
  full : Bool := false
  chain : List Byte := List.replicate 32 0
  deriving DecidableEq, Repr

/-- The dump sequencer (R607 to R610). `writing` holds the trigger and stamp of the dump under way. -/
structure DumpState where
  present : Bool := false
  read : Bool := false
  trigger : Nat := 0
  dumps : Nat := 0
  writing : Option (Nat × Tick) := none
  late : Nat := 0
  index : Nat := 0
  stamp : Tick := 0
  len : Nat := 0
  thenReset : Nat := 0
  deriving DecidableEq, Repr

/-- Boot state: OTP, flash bytes (an erased byte reads 0xFF), the flash sectors erased since the last restart, the stop code in ROM recovery (R594), whether firmware runs, the running
slot, its version and rollback, the rollback of the configuration in force (the other facts of the boot stand in REG_BOOT_STAT), Mainland keys, the active migration key, the tick of BOOT_DONE, the log, the dump. -/
structure BootState where
  otp : Otp := {}
  flash : Table Byte := []
  erased : List Nat := []
  recovery : Option Nat := none
  running : Bool := false
  bootDone : Option Tick := none
  slot : Nat := 0
  version : Nat := 0
  fwRollback : Nat := 0
  cfgRollback : Nat := 0
  mainKeys : List MainKey := []
  mkeyActive : Nat := 0
  log : RamLog := {}
  dump : DumpState := {}
  resetPending : Option Tick := none
  deriving DecidableEq, Repr

end Sys2Proof.Machine
end

