-- ==== Sys2Proof/Machine/Types/Contract.lean ====
section
/-!
DEFINITION. Types/Contract.lean: open contracts and the admission ledger (chapter 2).
-/

namespace Sys2Proof.Machine

/-- Contract kinds (Table 2.2). -/
inductive Kind where
  | render
  | compute
  | commit
  | cream
  | audio
  | haptic
  | dma
  | check
  deriving DecidableEq, Repr

/-- The code of a kind (Table 2.2). -/
def Kind.code : Kind → Nat
  | .render => 1
  | .compute => 2
  | .commit => 3
  | .cream => 4
  | .audio => 5
  | .haptic => 6
  | .dma => 7
  | .check => 8

/-- The render cost block (Table 2.5); the other kinds use `amount` (R59). -/
structure Cost where
  tiles : Nat := 0
  bins : Nat := 0
  binsTile : Nat := 0
  verts : Nat := 0
  iVert : Nat := 0
  iFrag : Nat := 0
  frags : Nat := 0
  fragsTile : Nat := 0
  invocs : Nat := 0
  iComp : Nat := 0
  sect : Nat := 0
  rdBytes : Nat := 0
  wrBytes : Nat := 0
  vatBytes : Nat := 0
  amount : Nat := 0
  deriving DecidableEq, Repr

/-- The contract block (Table 2.4). RELEASE and DEADLINE are ticks, or signed offsets when LOCKED. -/
structure Block where
  cls : Nat := 0
  kind : Nat := 0
  cflags : Nat := 0
  target : Nat := 0
  release : Int := 0
  deadline : Int := 0
  period : Nat := 0
  count : Nat := 0
  pred : Nat := 0
  deriving DecidableEq, Repr

/-- How the work of the present instance stands. -/
inductive Phase where
  | waiting
  | running
  | ended
  deriving DecidableEq, Repr

/-- One open contract (R75, R131): identifier, submitter and class of its session, the blocks as signed, t₀, s₀ and Hₖ, for a locked contract the latch points counted for the present and later
instances and the first one as predicted at signing (R52), the densities in 16.16 fixed point held against its pool and its object, the SHD and DRB costs, the longest tile and the occupation of an object that it was admitted with (R74, R78, R84), the
shader frequency at admission (R86), the present instance and its phase, when its work began, what it has used,
the instance of its predecessor that it waits for (R54), who bears the breach of that instance (R80; 0xFF the device), whether an earlier loss of CLKIN met the instance's window (R540), and the parameters of its opcode. -/
structure Contract where
  id : Nat
  fn : Nat
  holm : Bool
  kind : Kind
  blk : Block
  cost : Cost
  t0 : Tick
  s0 : Tick
  hk : Nat := 0
  latches : List Tick := []
  predL : Tick := 0
  shd : Nat := 0
  drb : Nat := 0
  vat : Nat := 0
  unit : Nat := 0
  cShd : Nat := 0
  cDrb : Nat := 0
  tile : Nat := 0
  units : Nat := 0
  khz : Nat := 0
  inst : Nat := 0
  phase : Phase := .waiting
  startedAt : Tick := 0
  usedShd : Nat := 0
  usedDrb : Nat := 0
  predInst : Nat := 0
  depCharged : Option Nat := none
  lost : Bool := false
  params : List Nat := []
  deriving DecidableEq, Repr

/-- Accounting of one function (R74, R75, R89): the next CONTRACT_ID, the counters of Tables 2.18 to 2.20, the stamps of charged breaches that may still count, the probation window. -/
structure AcctRec where
  nextId : Nat := 1
  done : Nat := 0
  charged : Nat := 0
  notCharged : Nat := 0
  refused : Nat := 0
  breaches : List Tick := []
  probation : Bool := false
  lastBreach : Tick := 0
  deriving DecidableEq, Repr

/-- The ledger: open contracts in order of signing, accounting by function, the compositor reserve in permille (R61, R64). -/
structure LedgerState where
  contracts : List Contract := []
  acct : Table AcctRec := []
  reserveShd : Nat := 150
  reserveDrb : Nat := 100
  deriving DecidableEq, Repr

end Sys2Proof.Machine
end

