-- ==== Sys2Proof/Machine/Types/Display.lean ====
section
/-!
DEFINITION. Types/Display.lean: outputs, commits, composed pixels, Creamline, video inputs (chapters 11 to 13).
-/

namespace Sys2Proof.Machine

/-- A holder (R368): Holm, or the Mainland side of a function. -/
structure Holder where
  holm : Bool
  fn : Nat
  deriving DecidableEq, Repr

/-- One commit of a holder that is pending on an output (R369 to R371): its contract, COMMIT_AT, whether it is visible in the pixel island, whether a latch point has taken it and only the
display-engine shadows are still to come. -/
structure PendCommit where
  holder : Holder
  fn : Nat
  id : Nat
  at_ : Tick
  visible : Bool := false
  taken : Bool := false
  deriving DecidableEq, Repr

/-- A strip in the ring (R42 to R44): its number, what each layer shows in it (0 nothing, 1 its fallback colour, 2 its source, 3 a skim), the views sampled at the opening of its window, the
layers whose skims are not done, the lines of skims that are done, and its blended words once composed. -/
structure Strip where
  index : Nat
  plan : List Nat := []
  views : List (List Nat) := []
  waiting : List Nat := []
  skims : List (Nat × List (List (List Nat))) := []
  lines : List (List Word) := []
  complete : Bool := false
  deriving DecidableEq, Repr

/-- A frame of a Bulk queue (R46, R304): whether it is complete, its lines, when its composition began, what each layer shows in it, the layers it reads with their ranges. -/
structure QFrame where
  complete : Bool
  lines : List (List Word)
  began : Tick := 0
  plan : List Nat := []
  reads : List (Nat × List (Nat × Nat)) := []
  deriving DecidableEq, Repr

/-- What a layer binds and shows (R299 to R304, R335, R336, R353): the applied view; the contract bound at the last latch point (function, Holm session, identifier); the instance whose frame
the present frame period shows; whether the frame is skimmed; the last ready instance shown, its layer registers and its view; the instance used in the last queue frame; the capture selected (its
buffer, width and height) and the selections since the input lost its signal; whether the source is not wholly mapped (R244); whether an early free stops its fetch until the next latch point (R243);
whether a function reset disables it at the next latch point (R207). -/
structure LayerState where
  applied : List Nat := [0, 0, 0, 0, 0x10000, 0, 0, 0x10000]
  bound : Option (Nat × Bool × Nat) := none
  inst : Option Nat := none
  skim : Bool := false
  readyInst : Option (Nat × Nat) := none
  readyCfg : List Word := []
  readyView : List Nat := []
  usedInst : Option (Nat × Nat) := none
  vinBuf : Option (Nat × Nat × Nat) := none
  held : Nat := 0
  unmapped : Bool := false
  cut : Bool := false
  off : Bool := false
  deriving DecidableEq, Repr

/-- A frame as it is signed (R405 to R416): the stamp that opened it, the contract whose flip opened it, whether a flip did, whether it was a hold flip, whether a Holm Creamline commit applied,
whether a provoked fault hit it, tiles signed, certified tiles that mismatched, whether an EXP was lost, the first mismatch (tile, SIG, EXP, EXP lost, stamp), whether a hold render was asked
for, whether it found no scene. -/
structure FrameSt where
  opened : Tick := 0
  flip : Bool := false
  flipId : Nat := 0
  holdFlip : Bool := false
  crlCommit : Bool := false
  provoked : Bool := false
  signed : List Nat := []
  bad : List Nat := []
  expLost : Bool := false
  first : Option (Nat × Word × Word × Bool × Tick) := none
  holdAsked : Bool := false
  noScene : Bool := false
  deriving DecidableEq, Repr

/-- A flip awaiting its latch point (R399, R400): the contract (function, identifier, instance) or none for a hold render, the regions it names, the tick since which it is pending. -/
structure Flip where
  owner : Option (Nat × Nat × Nat)
  regions : Nat
  since : Tick
  deriving DecidableEq, Repr

/-- Work of a CREAM item in progress (R399): its contract, regions, source, CV, ADDR, LEN, DEST, hash; whether the work waits for the flip of a hold render (R402); whether it has begun; the
traversal render it waits for. -/
structure CreamWork where
  fn : Nat
  id : Nat
  inst : Nat
  output : Nat
  regions : Nat
  source : Nat
  cv : Nat
  addr : Nat
  len : Nat
  dest : Nat
  hash : List Byte
  recovery : Bool
  begun : Bool := false
  rendered : Bool := false
  deriving DecidableEq, Repr

/-- Creamline state of an output (R390 to R417): front buffer, pending flip and the one that a latch point has taken, whether a hold render is queued or running, policy state, blanked
regions, FAILS, NOSCENE, VERIFIED; the policy state, blanked regions, FAILS and NOSCENE that the latch event brings; a RECOVER written; the update shown and not yet delivered (contract and
regions); whether regions show a hold render; CHAIN, the key of MODE 1, LOST_BEFORE; the frame being signed; the records due (their bytes with zeros for INDEX and CHAIN,
whether MODE 1 requires them). -/
structure CrlState where
  front : Nat := 0
  flip : Option Flip := none
  flipTaken : Option Flip := none
  holdPending : Bool := false
  state : Nat := 0
  blanked : Nat := 0
  fails : Nat := 0
  noscene : Bool := false
  verified : Bool := false
  next : Option (Nat × Nat × Nat × Bool) := none
  recover : Bool := false
  shown : Option (Nat × Nat × Nat × Nat) := none
  holdContent : Bool := false
  chain : Nat := 0
  prevKey : Option (Nat × Nat × Nat × Nat) := none
  lostBefore : Bool := false
  cur : FrameSt := {}
  due : List (List Byte × Bool) := []
  deriving DecidableEq, Repr

/-- A rectangle of pixels [x0, x1) × [y0, y1). -/
structure Zone where
  x0 : Nat
  y0 : Nat
  x1 : Nat
  y1 : Nat
  deriving DecidableEq, Repr

/-- One output: whether latch point 0 has passed (R365), the stamp of the last latch point, TG_FRAME, the tick before which no latch point of a new timing can come (R379) and the L it counts
from, the tick at which the output became ready, whether a latch event is on its way to the display engine, commits pending, COMMIT_FRAME and COMMIT_AT by holder, the strip ring, the queue (oldest first), the queue frame being
scanned, whether a latch point passed with no complete unscanned frame, whether the first Bulk frame is still composed in strips (R47), DPA extents of the queue, the lines of the frame scanned
so far, the cursor store and the positions held in the frame, the push region, writeback progress, whether a re-verification runs (R380), whether a device breach marks the frame, whether the frame
opens a new timing, the zones of the previous frame. -/
structure OutState where
  latched : Bool := false
  lastLatch : Tick := 0
  frame : Nat := 0
  waitNew : Option Tick := none
  readyAt : Option Tick := none
  latchDue : Bool := false
  commits : List PendCommit := []
  commitFrame : List (Holder × Nat) := []
  commitAt : List (Holder × Tick) := []
  strips : List Strip := []
  queue : List QFrame := []
  shown : Option QFrame := none
  starved : Bool := false
  stripFirst : Bool := false
  queueExt : List (Nat × Nat) := []
  raster : Table (List Word) := []
  cursor : Option (List (List (List Nat))) := none
  cursorSeen : List (Int × Int) := []
  push : Option Zone := none
  wbStopped : Bool := false
  wbCut : Bool := false
  reverify : Bool := false
  breachFlag : Bool := false
  newTiming : Bool := false
  reverifyEnd : Bool := false
  zones : List Zone := []
  prevZones : List Zone := []
  deriving DecidableEq, Repr

/-- One video input (R352 to R356): for each buffer the order number of its last completion (none: never written since ENABLE) and whether its capture completed, the buffer being written with
its frame's size, the newest complete buffer and its frame's size. -/
structure VinState where
  done : List (Option Nat) := [none, none, none, none]
  writing : Option (Nat × Nat × Nat) := none
  newest : Option (Nat × Nat × Nat) := none
  seq : Nat := 0
  width : Nat := 0
  height : Nat := 0
  period : Nat := 0
  frames : Nat := 0
  dropped : Nat := 0
  island : Bool := false
  deriving DecidableEq, Repr

/-- Display state: outputs by number, layers by object index, video inputs by number, Creamline by output, CREAM work in progress, evidence records written since power-on reset. -/
structure DisplayState where
  outs : Table OutState := []
  layers : Table LayerState := []
  vins : Table VinState := []
  crl : Table CrlState := []
  cream : List CreamWork := []
  evidence : Nat := 0
  deriving DecidableEq, Repr

end Sys2Proof.Machine
end

