-- ==== Sys2Proof/Machine/Types/Gcp.lean ====
section
/-!
DEFINITION. Types/Gcp.lean: state of the rings (R104 to R110), the SPI management port (R111, R112), sessions (R117 to R139), event queues (R192 to R195),
MSI-X tables (R196) and function records (Table 6.5).
-/

namespace Sys2Proof.Machine

/-- A packet in progress whose reply comes later (R108): its opcode, itself, its doorbell stamp, the tick its service began, the session status it was accepted under. -/
structure LongOp where
  opcode : Nat
  pkt : Packet
  stamp : Tick
  began : Tick
  deriving DecidableEq, Repr

/-- One ring (Tables 3.7 to 3.12): base bus address, flags, the three 7-bit indices, the doorbell stamps of the packets not yet fetched (oldest first), the packet in progress. -/
structure RingRec where
  base : Nat := 0
  enable : Bool := false
  irqEn : Bool := false
  fetchErr : Bool := false
  dbOverrun : Bool := false
  resetPending : Bool := false
  pi : Nat := 0
  ci : Nat := 0
  ri : Nat := 0
  stamps : List Tick := []
  busy : Option LongOp := none
  deriving DecidableEq, Repr

/-- The SPI management port (R111, R112): flags, the packet held with the stamp of its transaction's end (R124), the reply. -/
structure SpiRec where
  replyReady : Bool := false
  busy : Bool := false
  overrun : Bool := false
  framing : Bool := false
  held : List Byte := []
  heldStamp : Tick := 0
  reply : List Byte := []
  long : Option LongOp := none
  deriving DecidableEq, Repr

/-- One entry of a session's replay cache (R101): sequence number, the request's CRC trailer, the reply's payload. -/
structure CacheEntry where
  seq : Word
  trailer : Nat
  payload : List Byte
  deriving DecidableEq, Repr

/-- Session states (Table 4.1). A freed slot is no entry of the session list. -/
inductive SesState where
  | pending
  | opened
  | expired
  deriving DecidableEq, Repr

/-- One session slot (R117 to R135). -/
structure Session where
  tag : Word
  state : SesState
  port : Port
  holm : Bool
  verMajor : Nat
  verMinor : Nat
  options : Byte
  keyId : Nat
  hostNonce : List Byte
  deviceNonce : List Byte
  pk : List Byte
  tOpen : Tick
  r : Tick
  h : Word
  cache : List CacheEntry
  expiredAt : Tick
  lab : Bool
  deriving DecidableEq, Repr

/-- Authentication failures of one port (R128): the stamps of the AUTH_FAILED replies that still count, the lock's window, the count of Table 4.9. -/
structure AuthRec where
  stamps : List Tick := []
  lock : Option (Tick × Tick) := none
  fails : Nat := 0
  deriving DecidableEq, Repr

/-- Event-queue state (Tables 6.11 to 6.15, R193 to R195). -/
structure EqRec where
  base : Nat := 0
  size : Nat := 0
  irqEn : Bool := false
  enable : Bool := false
  ri : Nat := 0
  wi : Nat := 0
  backlog : List (List Byte) := []
  lost : Nat := 0
  overflow : Bool := false
  riErr : Bool := false
  deriving DecidableEq, Repr

/-- One MSI-X vector (R196): message address, data, mask bit, pending bit. At reset every vector is masked (PCIe MSI-X). -/
structure MsixRec where
  addr : Nat := 0
  data : Nat := 0
  masked : Bool := true
  pending : Bool := false
  deriving DecidableEq, Repr

/-- Function states (Table 6.5). -/
inductive FnState where
  | absent
  | active
  | quiescing
  | quiesced
  | resetting
  | saving
  deriving DecidableEq, Repr

/-- The code of a function state (Table 6.5). -/
def FnState.code : FnState → Nat
  | .absent => 0
  | .active => 1
  | .quiescing => 2
  | .quiesced => 3
  | .resetting => 4
  | .saving => 5

/-- One function (R199 to R211): state, port, vectors, shares in permille (R62), Vat scratch space as extents (offset, length) of the scratch pool (R201),
the stamp tq of a pending FN_QUIESCE (R204), the ports on which an FN_QUIESCE or an FN_SAVE waits (R211), where that FN_SAVE writes, how much, and when it was taken (R212). -/
structure FnRec where
  state : FnState := .absent
  port : Nat := 0
  vectors : Nat := 0
  shd : Nat := 0
  drb : Nat := 0
  vat : Nat := 0
  scratch : List (Nat × Nat) := []
  quiesceAt : Tick := 0
  waiters : List Port := []
  saveDest : Nat := 0
  saveLen : Nat := 0
  saveAt : Tick := 0
  deriving DecidableEq, Repr

/-- GCP state: rings by key 2 × function + ring, the SPI port, sessions in slot order, authentication by port key, the stall of the management plane (R85). -/
structure GcpState where
  rings : Table RingRec := []
  spi : SpiRec := {}
  sessions : List Session := []
  auth : Table AuthRec := []
  stalled : Bool := false
  stallSince : Tick := 0
  deriving DecidableEq, Repr

/-- Host ports and functions: function records, NumVFs and VF Enable per port (R188), event queues by key 2 × function + queue, records waiting for the management plane to post them
(queue key and 32 bytes, oldest first), MSI-X vectors by key 64 × function + vector, vectors free in the VF pool, the bus ranges of the BARs by port, as the hosts have placed them. -/
structure HifState where
  fns : Table FnRec := []
  numVfs : Table Nat := []
  vfEnable : Table Bool := []
  eqs : Table EqRec := []
  posts : List (Nat × List Byte) := []
  msix : Table MsixRec := []
  vfPool : Nat := 0
  bars : Table (List (Nat × Nat)) := []
  deriving DecidableEq, Repr

end Sys2Proof.Machine
end

