-- ==== Sys2Proof/Machine/Types/Iso.lean ====
section
/-!
DEFINITION. Types/Iso.lean: the ownership table, the ISO log and the control cores (chapter 5).
-/

namespace Sys2Proof.Machine

/-- One entry of the ownership table (Table 5.14): WORLD is Holm, GRANTED, FN. The reset entry is Holm-owned and not granted (R151). -/
structure OwnRec where
  holm : Bool := true
  granted : Bool := false
  fn : Nat := 0
  deriving DecidableEq, Repr

/-- One ISO log entry (Table 5.6). -/
structure IsoEntry where
  stamp : Tick
  index : Nat
  kind : Nat
  requester : Nat
  source : Nat
  flags : Nat
  address : Nat
  object : Nat
  status : Nat
  count : Nat
  deriving DecidableEq, Repr

/-- A change of ownership in progress (R154, R156): the object, whether it is a release, the entry that a release installs, whether the island's straits have drained or the fill has run. -/
structure OwnChange where
  obj : Nat
  release : Bool
  entry : OwnRec
  deriving DecidableEq, Repr

/-- The lockstep control cores (R164 to R170): the world they execute in; the landings of the firmware image, and those that begin with LAND (R168); while Holm runs on an interrupt, the Mainland
general registers, status and pc as saved (R166); while a GATE is in progress, the address after it and the general registers at it (R170); the Mainland registers as last restored; where
Holm execution was entered (a landing number); pending interrupts as (level, source); the stamp at which continuous Holm execution began; the last exception raised (Table of R169: 1 Mainland
exception of GATE, 2 Mainland exception of FETCH_CROSS, 3 undefined instruction trapped to Holm). -/
structure CoreState where
  world : World := .holm
  landings : List Nat := []
  landMarks : List Nat := []
  regs : List Word := []
  status : Word := 0
  pc : Word := 0
  byInterrupt : Bool := false
  saved : Option (Word × Word × List Word) := none
  gate : Option (Word × List Word) := none
  landing : Option Nat := none
  pendingMainland : List (Nat × Nat) := []
  pendingHolm : List (Nat × Nat) := []
  holmSince : Tick := 0
  trap : Nat := 0
  deriving DecidableEq, Repr

/-- Isolation state: the ownership table by object identifier, the change in progress, the capture FIFO and the log ring (oldest first), the number of the next entry, events lost, the number
after the last entry in the ring, notices (R182): the first entry not covered and its stamp, and the last notice; the control cores. -/
structure IsoState where
  own : Table OwnRec := []
  change : Option OwnChange := none
  fifo : List IsoEntry := []
  ring : List IsoEntry := []
  nextIndex : Nat := 0
  lost : Nat := 0
  ringNext : Nat := 0
  noticeFirst : Nat := 0
  noticeStamp : Option Tick := none
  lastNotice : Option Tick := none
  cores : CoreState := {}
  deriving DecidableEq, Repr

end Sys2Proof.Machine
end

