-- ==== Sys2Proof/Machine/Types/Links.lean ====
section
/-!
DEFINITION. Types/Links.lean: links, sideband, straits and provoked faults (chapter 14), the traversal unit (chapter 10).
-/

namespace Sys2Proof.Machine

open Sys2Proof

/-- A provoked fault (R437): its FAULT_ID, the session that armed it, the parameters of FAULT_ARM, items injected, whether it is armed, items left in MODE 0, whether an item is held by a
reorder. -/
structure FaultRec where
  id : Nat
  tag : Word
  target : Nat
  inst : Nat
  dir : Nat
  fault : Nat
  mode : Nat
  amount : Nat
  tile : Nat
  injected : Nat := 0
  armed : Bool := true
  left : Nat := 0
  deriving DecidableEq, Repr

/-- An inbound register write as a TLP carries it: window, world, offset in the window, value, byte enables. -/
structure BusWrite where
  rq : Requester
  off : Nat
  value : Word
  be : BitVec 4
  deriving DecidableEq, Repr

/-- A TLP held by a reorder fault (R438), with the stamp at which it was held: an inbound write, or outbound bytes for a bus address. -/
inductive HeldTlp where
  | inbound (w : BusWrite) (since : Tick)
  | outbound (addr : Nat) (bytes : List Byte) (since : Tick)
  deriving DecidableEq, Repr

/-- A strait entry held by a reorder fault: sequence number and whether its parity is good. -/
structure StraitRec where
  expect : Nat := 0
  errors : Nat := 0
  held : Option (Nat × Bool) := none
  deriving DecidableEq, Repr

/-- A sideband transaction in progress (R431): command, length, address. -/
structure SbRec where
  cmd : Nat
  len : Nat
  addr : Nat
  deriving DecidableEq, Repr

/-- One display transmit group (R426 to R429): the configuration being tried (lanes, rate), whether it is the second attempt, the configurations still to try, the cause of the present bring-up,
whether the link has trained since it was configured, the tick a retry of the whole sequence is due, the stamp of an unplug, the sideband transaction in progress. -/
structure TxState where
  state : Nat := 0
  lanes : Nat := 0
  rate : Nat := 0
  trying : Option (Nat × Nat) := none
  second : Bool := false
  rest : List (Nat × Nat) := []
  cause : Nat := 0
  trainings : Nat := 0
  retryAt : Option Tick := none
  unplugged : Bool := false
  readyBy : Option Tick := none
  sb : Option SbRec := none
  deriving DecidableEq, Repr

/-- Link state: transmit groups, PCIe ports up, straits by identity, provoked faults with the next FAULT_ID, TLPs held by port (2 × port + direction), completion timeouts by block code. -/
structure LinkState where
  tx : Table TxState := []
  straits : Table StraitRec := []
  faults : List FaultRec := []
  nextFault : Nat := 1
  held : Table (Option HeldTlp) := []
  timeouts : Table Nat := []
  deriving DecidableEq, Repr

/-- A traversal render (R307): kind 0 recovery, 1 hold, 2 self-test; output, regions, contract of a recovery render, pixels, step limit, and, once
it runs, the slot it reads (B). -/
structure TrvRender where
  kind : Nat
  output : Nat
  regions : Nat
  owner : Option (Nat × Nat × Nat)
  pixels : Nat
  steps : Nat
  slotB : Bool := false
  deriving DecidableEq, Repr

/-- A self-test in progress (R318): who waits for its reply (none at boot), when it began, the contract of its raster half (function and identifier). -/
structure SelfTest where
  port : Option Port
  began : Tick
  raster : Option (Nat × Nat) := none
  deriving DecidableEq, Repr

/-- The scene slots of an output (R308, R315, R316): armed A and B, the active slot, the slot whose arm is pending, writes held until a running render ends (DPA and bytes). -/
structure ArmRec where
  a : Bool := false
  b : Bool := false
  active : Option Bool := none
  pending : Option Bool := none
  held : List (Nat × List Byte) := []
  deriving DecidableEq, Repr

/-- The traversal unit: renders waiting, the render running, arms by output, self-tests in progress (oldest first), when the last completed self-test began, when each flag was last set. -/
structure TrvState where
  queue : List TrvRender := []
  running : Option TrvRender := none
  arms : Table ArmRec := []
  tests : List SelfTest := []
  lastBegan : Tick := 0
  rasterSetAt : Tick := 0
  travSetAt : Tick := 0
  deriving DecidableEq, Repr

end Sys2Proof.Machine
end

