-- ==== Sys2Proof/Machine/Types/Memory.lean ====
section
/-!
DEFINITION. Types/Memory.lean: the memories (R216), the IOMMU mappings (R233 to R239), the Mainland DRAM pool (R232), leases (R240 to R246), ECC records (R221).
-/

namespace Sys2Proof.Machine

/-- One mapping of a function (R235): IO virtual range, KIND of Table 7.6 (0 host, 1 DRAM, 2 scratch), page size, permissions, for a device mapping the extents (DPA base, length) in order,
and the stamp of a reset that has removed it except for leases that still need it (R207). -/
structure Mapping where
  fn : Nat
  iova : Nat
  len : Nat
  kind : Nat
  large : Bool
  rd : Bool
  wr : Bool
  ext : List (Nat × Nat)
  doomed : Option Tick := none
  deriving DecidableEq, Repr

/-- One lease (R240, R241): its output, layer (0 to 7, 9 writeback), the function and world of the owner, the IOVA ranges (start, length), the address of the first plane, the latch point it began at, the stamp of the last
fetch, the latch points since, whether the configuration in effect, a skim or an unfinished queue frame still names it, the first early free (its stamp and the world of the session), whether
its function has been removed. -/
structure Lease where
  output : Nat
  layer : Nat
  fn : Nat
  holm : Bool
  ranges : List (Nat × Nat)
  base : Nat
  start : Tick
  lastFetch : Tick
  after : Nat := 0
  inUse : Bool := true
  freed : Option (Tick × Bool) := none
  dead : Bool := false
  deriving DecidableEq, Repr

/-- DRAM that an unmap or a removal freed while a lease held it (R237): its function, IOVA, extent and the stamp. -/
structure HeldExt where
  fn : Nat
  iova : Nat
  base : Nat
  len : Nat
  since : Tick
  deriving DecidableEq, Repr

/-- Faults waiting for a MEM_FAULT record (R238), of one function or of the Holm channels and units (key 64, R530): the first fault of the interval with the function whose context faulted, and the count. -/
structure MemFaultRec where
  ctx : Nat := 0
  flags : Nat := 0
  source : Nat := 0
  iova : Nat := 0
  stamp : Tick := 0
  count : Nat := 0
  deriving DecidableEq, Repr

/-- Memory state: device memory by DPA and host memory by 2 ^ 64 × port + bus address, bytes not listed read as 0; poisoned 8-byte words; mappings; the extents of the Mainland pool that are
free, held by leases, and awaiting their zero-fill; leases and the most range entries they ever used; waiting faults by function; whether standby is draining DRAM (R230); populated bytes. -/
structure MemState where
  dpa : Table Byte := []
  host : Table Byte := []
  poison : List Nat := []
  maps : List Mapping := []
  free : List (Nat × Nat) := []
  holds : List HeldExt := []
  clearing : List (Nat × Nat) := []
  leases : List Lease := []
  leasePeak : Nat := 0
  faults : Table MemFaultRec := []
  srDraining : Bool := false
  populated : Nat := 0
  deriving DecidableEq, Repr

end Sys2Proof.Machine
end

