-- ==== Sys2Proof/Machine/Types/Move.lean ====
section
/-!
DEFINITION. Types/Move.lean: DMA channels and check-value units (chapter 18).
-/

namespace Sys2Proof.Machine

open Sys2Proof

/-- A set (R512): its contract (function, identifier) or none for a register set, deadline and s₀, SRC, DST, count, DFLAGS, whether its sides share pages through different contexts (R521),
whether its beats have begun (R515). -/
structure DmaSet where
  owner : Option (Nat × Nat) := none
  deadline : Tick := 0
  s0 : Tick := 0
  src : Nat
  dst : Nat
  count : Nat
  dflags : Nat
  aliased : Bool := false
  begun : Bool := false
  deriving DecidableEq, Repr

/-- One channel: contracted sets that wait (pre-empted ones among them), register sets that wait, the set that runs and the one in the shadow, the RATE and PRIO word in effect since the last set load (R517). -/
structure DmaRec where
  queue : List DmaSet := []
  regs : List DmaSet := []
  running : Option DmaSet := none
  shadow : Option DmaSet := none
  deriving DecidableEq, Repr

/-- A contracted check-value job (R527): its contract, deadline, s₀, START, length, algorithm, world. -/
structure CvJob where
  fn : Nat
  id : Nat
  holm : Bool
  deadline : Tick
  s0 : Tick
  addr : Nat
  len : Nat
  alg : Nat
  deriving DecidableEq, Repr

/-- One unit: contracted jobs, the register job in progress (address, length, algorithm, FINAL, context), whether a pause has been asked for. -/
structure CvRec where
  jobs : List CvJob := []
  reg : Option (Nat × Nat × Nat × Bool × Option Nat) := none
  pause : Bool := false
  deriving DecidableEq, Repr

/-- A delivered CHECK contract (R527): function and world, identifier, algorithm, value. -/
structure CvResult where
  fn : Nat
  holm : Bool
  id : Nat
  alg : Nat
  value : List Byte
  deriving DecidableEq, Repr

/-- DMA and check-value state; results oldest first. -/
structure MoveState where
  dma : Table DmaRec := []
  cv : Table CvRec := []
  results : List CvResult := []
  deriving DecidableEq, Repr

end Sys2Proof.Machine
end

