-- ==== Sys2Proof/Machine/Types/Power.lean ====
section
/-!
DEFINITION. Types/Power.lean: gates, the wake queue, standby, clock sources, the watchdog, block resets (chapter 19) and the die sensors (chapter 22).
-/

namespace Sys2Proof.Machine

/-- Gate states (Table 19.5). -/
inductive GState where
  | off
  | on
  | draining
  | wakeQueued
  | waking
  | resetting
  deriving DecidableEq, Repr

/-- The code of a gate state (Table 19.5). -/
def GState.code : GState → Nat
  | .off => 0
  | .on => 1
  | .draining => 2
  | .wakeQueued => 3
  | .waking => 4
  | .resetting => 5

/-- Who asked for a wake or a gate, and so receives its POWER_EVENT (R556): a function's requester, or a Holm use. -/
inductive Asker where
  | fn (fn : Nat) (holm : Bool)
  | holmUse
  deriving DecidableEq, Repr

/-- One gate: state, the enable queued during a drain (R550: its stamp, its world and who receives its record), a gate that waits for a wake (R547), retention (R563), whether the drain in progress takes its block's state (R546), and who receives the record of the wake or the drain in progress. -/
structure GateRec where
  state : GState := .off
  queued : Option (Tick × Bool × List Asker) := none
  pendingGate : Bool := false
  retained : Bool := false
  losing : Bool := false
  wakeFor : List Asker := []
  drainFor : List Asker := []
  deriving DecidableEq, Repr

/-- One entry of the wake queue (R554). -/
structure WakeEntry where
  gate : Nat
  holm : Bool
  stamp : Tick
  deriving DecidableEq, Repr

/-- Power state beyond the CLK, RST and PWR register words: gates by number, the wake queue in order, gates that a BLOCK_POWER wake holds (gate and member, member 64 is Holm),
the shader frequency set for the next wake of its island, the frequencies that CLOCK_SET has set and no switch has taken yet (R544), the last loss of CLKIN and its end (R540), the gates gated for standby,
who waits for POWER_STATE replies, whether a touch asked to leave standby, the last watchdog service and whether the expiry in progress came of an early one, the gates being reset, whether a
reset is asserted (from power-on on, until CLKIN is good: R560), whether a thermal trip holds it, the last sensor readings, whether an alarm may be raised, the power measured. -/
structure PowerState where
  gates : Table GateRec := []
  queue : List WakeEntry := []
  explicit : List (Nat × Nat) := []
  shdKhz : Nat := 0
  shdNext : List Nat := []
  lossStart : Tick := 0
  lossEnd : Tick := 0
  standbySet : List Nat := []
  enterWaiters : List Port := []
  leaveWaiters : List Port := []
  leaveByTouch : Bool := false
  wdLast : Tick := 0
  wdEarly : Bool := false
  resets : List Nat := []
  inReset : Bool := true
  thermalHold : Bool := false
  sensors : List Nat := []
  alarmArmed : Bool := true
  milliwatts : Nat := 0
  deriving DecidableEq, Repr

end Sys2Proof.Machine
end

