-- ==== Sys2Proof/Machine/Types/Regs.lean ====
section
/-!
DEFINITION. Types/Regs.lean: churn buffers (R572), pair latches (R578), the configuration check (R580 to R585).
-/

namespace Sys2Proof.Machine

/-- One churn buffer (R572 to R574): entries (offset, value) in order of issue, whether a write was not buffered since the last strobe, whether a strobe is being confirmed. -/
structure ChurnRec where
  entries : List (Nat × Word) := []
  overflowed : Bool := false
  busy : Bool := false
  discard : Bool := false
  deriving DecidableEq, Repr

/-- A pair latch (R578): the register, the value written and its stamp while armed; whether it lapsed at its window's end. -/
structure PairRec where
  armed : Option (Nat × Word × Tick) := none
  lapsed : Option Nat := none
  deriving DecidableEq, Repr

/-- Churn buffers by 2 × PF + world, pair latches by requester, the difference between what the flops hold and what they ought to hold (word offset, exclusive or; R582, R583), the segments that
the next scan resynchronises and whether a resync awaits a commit (R584), the mismatches of the last pass: segment, Holm partition, reference, running value. -/
structure RegState where
  churn : Table ChurnRec := []
  latches : Table PairRec := []
  upset : Table Word := []
  resync : List Nat := []
  resynced : Bool := false
  mismatches : List (Nat × Bool × Word × Word) := []
  deriving DecidableEq, Repr

end Sys2Proof.Machine
end

