-- ==== Sys2Proof/Machine/Types/Render.lean ====
section
/-!
DEFINITION. Types/Render.lean: jobs, tiles, contexts, the dispatcher and its credits, fences (chapters 8 and 9).
-/

namespace Sys2Proof.Machine

open Sys2Proof

/-- A target record (Table 8.3). -/
structure Target where
  addr : Nat
  pitch : Nat
  format : Nat
  ops : Nat
  clear : List Word
  deriving DecidableEq, Repr

/-- A job descriptor with its records (Tables 8.2 and 8.3). -/
structure Desc where
  jobType : Nat
  width : Nat
  height : Nat
  samples : Nat
  dflags : Nat
  cmdOffset : Nat
  binAddr : Nat
  binLen : Nat
  colors : List Target
  depth : Option Target
  deriving DecidableEq, Repr

/-- A program block (Table 9.4). -/
structure Prog where
  vregs : Nat
  fregs : Nat
  pflags : Nat
  vprog : Nat
  fprog : Nat
  vlen : Nat
  flen : Nat
  wgX : Nat
  wgY : Nat
  wgZ : Nat
  workKib : Nat
  constAddr : Nat
  constLen : Nat
  deriving DecidableEq, Repr

/-- A rectangle [x0, x1) × [y0, y1). -/
structure Rect where
  x0 : Nat
  y0 : Nat
  x1 : Nat
  y1 : Nat
  deriving DecidableEq, Repr

/-- A command as the front end has accepted it (Table 8.6). -/
inductive GOp where
  | state (words : List Word) (prog : Prog)
  | draw (topology count instances : Nat)
  | clear (mask : Nat) (depth stencil : Bool) (rect : Rect)
  | scissor (rect : Option Rect)
  | viewport (v : List Word)
  | dispatch (x y z : Nat)
  | sectionBegin
  | sectionEnd
  deriving DecidableEq, Repr

/-- A command with its byte offset from CMD_ADDR. -/
structure GCmd where
  off : Nat
  op : GOp
  deriving DecidableEq, Repr

/-- A snapped vertex (R257): 16.8 fixed point, depth as FP32. -/
structure SVtx where
  x : Int
  y : Int
  z : Word
  deriving DecidableEq, Repr

/-- A primitive on the screen: the command that drew it, its vertices (one: a point of `size` pixels; two: a line; more: a convex polygon). -/
structure SPrim where
  cmd : Nat
  size : Nat
  verts : List SVtx
  deriving DecidableEq, Repr

/-- A bin entry (R259, R269): the command it comes from and its place in the submission order, and the primitive; none is the fill of a CLEAR. -/
structure BinEntry where
  cmd : Nat
  seq : Nat
  prim : Option SPrim
  deriving DecidableEq, Repr

/-- The phase of a job. -/
inductive JobPhase where
  | vertex
  | fragment
  | compute
  deriving DecidableEq, Repr

/-- A job in progress (R248): its contract's function, identifier and instance, world, class, deadline, sectioned or not; addresses, fence, descriptor, commands up to the first fault or END,
the fault found (code and offset) and whether it is reported; the phase; the next command and primitive to place as a vertex batch; finished batches that the binner has not reached
(command, first primitive, length, primitives) and the binner's own place; bin lists and clear flags by tile, entries
in all; tiles not yet dispatched, in flight and done; the DISPATCH in progress, whether it has begun, its next workgroup and those in flight; whether a context was lost (R298); 1 + the
output whose Creamline window is redirected to buffer 1 (R399), 0 for none. -/
structure Job where
  fn : Nat
  id : Nat
  inst : Nat
  holm : Bool
  cls : Nat
  deadline : Tick
  sect : Nat
  cmdAddr : Nat
  fence : Nat
  desc : Desc
  cmds : List GCmd
  fault : Option (Nat × Nat) := none
  reported : Bool := false
  phase : JobPhase := .vertex
  cmd : Nat := 0
  prim : Nat := 0
  outs : List (Nat × Nat × Nat × List SPrim) := []
  bcmd : Nat := 0
  bprim : Nat := 0
  bins : Table (List BinEntry) := []
  clears : Table Nat := []
  entries : Nat := 0
  tiles : List Nat := []
  tilesOut : Nat := 0
  begun : Bool := false
  wg : Nat := 0
  wgOut : Nat := 0
  lost : Bool := false
  win : Nat := 0
  deriving DecidableEq, Repr

/-- What a context executes (Table 9.6): a vertex batch (its command, first primitive and length), a tile (none until one is dispatched to it), a workgroup, a skimmed strip of a layer. -/
inductive Step where
  | batch (cmd prim len : Nat)
  | tile (i : Option Nat)
  | group (cmd i : Nat)
  | skim (output layer strip : Nat)
  deriving DecidableEq, Repr

/-- A context (R284, R285): its item, class, world, step; whether it runs on lent capacity; when it was placed; when it entered a non-pre-emptible section, if it is in one. -/
structure SCtx where
  fn : Nat
  id : Nat
  inst : Nat
  cls : Nat
  holm : Bool
  deadline : Tick
  step : Step
  lent : Bool := false
  placed : Tick := 0
  sectAt : Option Tick := none
  deriving DecidableEq, Repr

/-- A shader core: its context, whether the compositor claimed it by pre-emption, the world and function of its last occupant (R285). -/
structure Core where
  ctx : Option SCtx := none
  claimed : Bool := false
  last : Option (Bool × Nat) := none
  deriving DecidableEq, Repr

/-- A fence (R272): its value, delivery stamp, and the contract that set it. -/
structure FenceRec where
  value : Nat := 0
  stamp : Tick := 0
  id : Nat := 0
  deriving DecidableEq, Repr

/-- An instance of a render contract as layers see it (R299): its release and, once delivered, its stamp. -/
structure FrameRec where
  fn : Nat
  id : Nat
  inst : Nat
  release : Tick
  stamp : Option Tick := none
  deriving DecidableEq, Repr

/-- The renderer: jobs in order of their start, the cores, saved contexts by slot, credits by pool key (0 the reserve, 1 whey, 2 + function) in kHz × ticks × permille and their stamp (R286), the
stamp of the last compositor request (R291), fences by 2 × function + world, the instances
of render contracts that layers may show (oldest first). -/
structure RenderState where
  jobs : List Job := []
  cores : Table Core := []
  slots : Table (Option SCtx) := []
  credits : Table Int := []
  creditAt : Tick := 0
  lastClaim : Option Tick := none
  fences : Table FenceRec := []
  frames : List FrameRec := []
  deriving DecidableEq, Repr

end Sys2Proof.Machine
end

