-- ==== Sys2Proof/Machine/Types/Sense.lean ====
section
/-!
DEFINITION. Types/Sense.lean: touch sensors (chapter 15) and haptic channels (chapter 16).
-/

namespace Sys2Proof.Machine

open Sys2Proof

/-- A contact candidate (R448, R449): position in sensor units, its peak electrodes (on the columns, or the pad, and on the rows), its peak signal, the stamp of the first scan that showed it. -/
structure TouchCand where
  x : Nat
  y : Nat
  pc : Nat
  pr : Nat
  peak : Nat
  first : Tick
  deriving DecidableEq, Repr

/-- An active contact (R449 to R459): its number, position, peaks and signal; the stamp of its confirming scan; the stamp of the scan that began its release; its anchor (position and stamp) and
whether it is stationary; whether it was confirmed at power-up; whether its bound Creamline region was blanked; its capturing region and owner (none: captured by no one, or ended for its owner);
the flags and position last reported. -/
structure TouchContact where
  num : Nat
  x : Nat
  y : Nat
  pc : Nat
  pr : Nat
  peak : Nat
  down : Tick
  upFrom : Option Tick := none
  ax : Nat
  ay : Nat
  anchor : Tick
  stationary : Bool := false
  powerup : Bool := false
  blanked : Bool := false
  region : Nat := 0
  owner : Option Holder := none
  sent : Nat × Nat × Nat := (0, 0, 0)
  deriving DecidableEq, Repr

/-- A calibration of a sensor (R455): who wait (the first who asked, and others who joined), STORE, scans made, sums of the counts by channel, channels that were overrange, whether a channel reached T_ON. -/
structure TouchCal where
  ports : List Port
  store : Bool
  scans : Nat := 0
  sums : List Nat := []
  exceeded : List Nat := []
  contact : Bool := false
  deriving DecidableEq, Repr

/-- One touch sensor: the stamp at which ENABLE took effect, the number of the next scan and the tick it is due, the scan that is measuring or in process, the sensor registers that are in effect (CTRL, THR, THR2, DEB,
TRACK, TIME, IDLE; R444), the number and stamp of the last scan, the next contact number, active contacts (oldest first), candidates, sums and count of the profile scans, channels that exceeded T_ON against their
baseline in the last scan (R447), adaptation by channel (eligible scans, sum of counts; R446), the stamp since which no contact has been active, the baselines of slow groups with their adaptation, the tick the next
slow scan is due, the calibration in progress, the profile loaded (its bytes; empty for none). -/
structure TouchRec where
  tEn : Tick := 0
  nextScan : Nat := 0
  dueAt : Tick := 0
  busy : Option Nat := none
  cfg : List Word := []
  scan : Nat := 0
  stamp : Tick := 0
  nextNum : Nat := 0
  contacts : List TouchContact := []
  cands : List TouchCand := []
  sums : List Nat := []
  profScans : Nat := 0
  high : List Nat := []
  adapt : Table (Nat × Nat) := []
  idleSince : Tick := 0
  groups : List (Nat × Nat × Nat) := []
  slowDue : Tick := 0
  cal : Option TouchCal := none
  profile : List Byte := []
  deriving DecidableEq, Repr

/-- A haptic effect (R466): its contract (function, identifier, instance) and world, RELEASE, s₀, the slot as copied, its drive length. -/
structure Effect where
  fn : Nat
  id : Nat
  holm : Bool
  release : Tick
  s0 : Tick
  odLen : Nat
  odLevel : Nat
  susLen : Nat
  susLevel : Nat
  brakeEn : Bool
  reverse : Bool
  brakeMax : Nat
  brakeLevel : Nat
  len : Nat
  deriving DecidableEq, Repr

/-- Braking in progress (R469): the effect that ended, when braking began, the unit in progress and its start, its polarity (true: reverse), U_B and the kind of actuator. -/
structure BrakeRec where
  eff : Effect
  began : Tick
  unit : Nat
  unitAt : Tick
  rev : Bool
  ub : Nat
  erm : Bool
  deriving DecidableEq, Repr

/-- One haptic channel: the stamp at which ENABLE took effect, effects signed and not begun (in order of start), the effect driving and the stamp its drive began, braking, the LIMIT, BUDGET and BRAKE words in effect
since the last drive start (R477), the calibration in progress (who waits, and when it began), the start of the budget window and the ticks used in it, the stamp since which the present drive or braking has not been
summed, the last successful calibration of an LRA (HALF_PERIOD and F_RES), the stamp at which the last drive ended. -/
structure HapRec where
  tEn : Tick := 0
  queue : List Effect := []
  drive : Option (Effect × Tick) := none
  brake : Option BrakeRec := none
  lim : List Word := []
  cal : Option (Option Port × Tick) := none
  window : Nat := 0
  spent : Nat := 0
  since : Tick := 0
  lra : Option (Nat × Nat) := none
  lastEnd : Option Tick := none
  deriving DecidableEq, Repr

/-- The sense island: touch sensors, primary contact reports on their way to the display engine (sensor, owner, CX, CY; R450), haptic channels. -/
structure SenseState where
  sensors : Table TouchRec := []
  express : List (Nat × Holder × Nat × Nat) := []
  haps : Table HapRec := []
  deriving DecidableEq, Repr

end Sys2Proof.Machine
end

