-- ==== Sys2Proof/Machine/State.lean ====
section
/-!
DEFINITION. State.lean: the state of the block as plain data, the reasons a step can stop, and the state right after power-on reset.
-/

namespace Sys2Proof.Machine

/-- The state of the ZV880. -/
structure State where
  /-- The commands that wait, first in, first out. -/
  pending : List Instr := []
  /-- The global time base (R16). -/
  gtb : Tick := 0
  /-- How many free values have been drawn: the model's own counter. -/
  drawn : Nat := 0
  /-- The read data of the last bus read: the model's own window on what a read returns. -/
  busData : Word := 0
  /-- Register words by PF-window offset, each held as its exclusive or with its reset word, so that an unlisted offset holds its reset value. -/
  regs : Table Word := []
  /-- Shadow words of SH registers (R12), held the same way. -/
  shadow : Table Word := []
  /-- Words held per requester (R35), by key 2 ^ 28 × requester + offset, held the same way. -/
  reqRegs : Table Word := []
  /-- Table entries behind table ports (R635), in effect, by key; held against their reset values. -/
  tabs : Table Word := []
  /-- Shadow table entries. -/
  tabShadow : Table Word := []
  gcp : GcpState := {}
  hif : HifState := {}
  ledger : LedgerState := {}
  iso : IsoState := {}
  mem : MemState := {}
  boot : BootState := {}
  pwr : PowerState := {}
  disp : DisplayState := {}
  rg : RegState := {}
  ren : RenderState := {}
  lnk : LinkState := {}
  trv : TrvState := {}
  sense : SenseState := {}
  aud : AudioState := {}
  mv : MoveState := {}
  deriving DecidableEq, Repr

/-- Why a step stops with a fault. -/
inductive Fault where
  /-- Raised by a command whose operands name what the device does not have: ring 1 or the Holm aperture of a VF window. Safe: no such command can be sent to the device. -/
  | noSuchWindow
  deriving DecidableEq, Repr

/-- Why a command has no meaning. -/
inductive Refusal where
  /-- Raised by an arm of `exec` whose command is not modelled. Safe. -/
  | notModelled (mnemonic : String)
  deriving DecidableEq, Repr

/-- The machine right after power-on reset. -/
def State.reset : State := {}

end Sys2Proof.Machine
end

