-- ==== Sys2Proof/Machine/Ops.lean ====
section
/-!
DEFINITION. Ops.lean: the named operations over time, registers, memory, the ISO log and the record queues.
-/

namespace Sys2Proof.Machine

open Sys2Proof

/-- The outcome type of a meaning. -/
abbrev Out := Host.Outcome State Fault Refusal

/-- The state at tick `t`: the global time base never runs backward (R16). -/
def advance (t : Tick) (s : State) : State := { s with gtb := max s.gtb t }

/-- One tick with no command waiting: the global time base counts (R16, R538) once power-on reset has let it start (R560). DESIGN CHOICE. -/
def idle (s : State) : State := if s.pwr.inReset && s.gtb == 0 then s else { s with gtb := s.gtb + 1 }

/-! ### Registers -/

/-- The word in effect at a window offset (R12): the stored word, the reset word where nothing was written. -/
def rd (s : State) (off : Nat) : Word := tget 0 s.regs off ^^^ resetWordAt off

/-- Set the word in effect at a window offset. -/
def wr (off : Nat) (w : Word) (s : State) : State := { s with regs := tput 0 s.regs off (w ^^^ resetWordAt off) }

/-- The shadow word at a window offset (R12, SH). -/
def rdSh (s : State) (off : Nat) : Word := tget 0 s.shadow off ^^^ resetWordAt off

/-- Set the shadow word. -/
def wrSh (off : Nat) (w : Word) (s : State) : State := { s with shadow := tput 0 s.shadow off (w ^^^ resetWordAt off) }

/-- A field in effect. -/
def fld (s : State) (off : Nat) (b : Bits) : Nat := getF (rd s off) b

/-- A flag in effect. -/
def flg (s : State) (off : Nat) (b : Bits) : Bool := getB (rd s off) b

/-- A shadow field. -/
def fldSh (s : State) (off : Nat) (b : Bits) : Nat := getF (rdSh s off) b

/-- A shadow flag. -/
def flgSh (s : State) (off : Nat) (b : Bits) : Bool := getB (rdSh s off) b

/-- Set one field in effect. -/
def wrF (off : Nat) (b : Bits) (v : Nat) (s : State) : State := wr off (setF (rd s off) b v) s

/-- Set one flag in effect. -/
def wrB (off : Nat) (b : Bits) (v : Bool) (s : State) : State := wr off (setB (rd s off) b v) s

/-- Return every word in effect and every shadow word of the offsets [lo, hi) to its reset value. -/
def resetRegs (lo hi : Nat) (s : State) : State :=
  { s with regs := tclear s.regs lo hi, shadow := tclear s.shadow lo hi }

/-- The number of a requester (R35): two per function window, by world. -/
def reqNo (r : Requester) : Nat := 2 * r.fn.val + (if r.world = .holm then 1 else 0)

/-- The key of a word held per requester. -/
def reqKey (r : Requester) (off : Nat) : Nat := 2 ^ 28 * reqNo r + off

/-- The word a requester holds at an offset (R35). -/
def rdReq (s : State) (r : Requester) (off : Nat) : Word := tget 0 s.reqRegs (reqKey r off) ^^^ resetWordAt off

/-- Set the word a requester holds. -/
def wrReq (r : Requester) (off : Nat) (w : Word) (s : State) : State :=
  { s with reqRegs := tput 0 s.reqRegs (reqKey r off) (w ^^^ resetWordAt off) }

/-- Capture a snapshot group (R34): the members' values into the requester's holding words, SEQ up by one, VALID set (Table 1.5). -/
def capture (r : Requester) (ctrl : Nat) (members : List (Nat × Nat)) (s : State) : State :=
  let c := (rdReq s r ctrl).toNat
  let s := wrReq r ctrl (BitVec.ofNat 32 ((natBits c 31 16 + 1) % 65536 * 65536 + 2)) s
  members.foldl (fun s m => wrReq r m.1 (BitVec.ofNat 32 m.2) s) s

/-! ### Free values -/

/-- Draw one word of the random generator. -/
def draw (s : State) : Nat × State := (Config.random s.drawn, { s with drawn := s.drawn + 1 })

/-- Draw `n` random bytes. -/
def drawBytes (n : Nat) (s : State) : List Byte × State :=
  ((List.range n).map (fun i => BitVec.ofNat 8 (Config.random (s.drawn + i))), { s with drawn := s.drawn + n })

/-! ### Firmware -/

/-- Does the management firmware run (R592) and not stall (R85)? -/
def mgmtUp (s : State) : Bool := s.boot.running && !s.gcp.stalled

/-! ### Functions and ports -/

/-- The record of a function. -/
def fnRec (s : State) (fn : Nat) : FnRec := tget {} s.hif.fns fn

/-- Change the record of a function. -/
def setFn (fn : Nat) (f : FnRec → FnRec) (s : State) : State := { s with hif := { s.hif with fns := tmod {} s.hif.fns fn f } }

/-- The host port of a function (R188): its own for a PF, the port its slot was created on for a VF. -/
def portOf (s : State) (fn : Nat) : Nat := if fn < 4 then fn else (fnRec s fn).port

/-! ### Record queues -/

/-- The key of an event queue: EQ0 or EQ1 of a function (R192). -/
def eqKey (fn : Nat) (holm : Bool) : Nat := 2 * fn + (if holm && fn < 4 then 1 else 0)

/-- Hand a 32-byte record to the management plane for posting (R88, R192); a record for an ABSENT function is dropped (R210). -/
def post (fn : Nat) (holm : Bool) (rec : List Byte) (s : State) : State :=
  if (fnRec s fn).state = .absent then s
  else { s with hif := { s.hif with posts := s.hif.posts ++ [(eqKey fn holm, slice rec 0 32)] } }

/-! ### Device memory -/

/-- DPA of the first byte of the Vat (Table 7.1). -/
def vatBase : Nat := 0x1000000000

/-- Size of the Vat, 64 MiB (R217). -/
def vatSize : Nat := 0x4000000

/-- Is a DPA assigned (Table 7.1): populated DRAM or the Vat? -/
def dpaMapped (s : State) (a : Nat) : Bool :=
  decide (a < s.mem.populated) || (decide (vatBase ≤ a) && decide (a < vatBase + vatSize))

/-- Does a DPA lie in a defined carve-out region (R231)? -/
def inCarveout (s : State) (a : Nat) : Bool :=
  (List.range 16).any (fun n =>
    let b := fld s (Reg.DRC_COn_BASE n) Fld.DRC_COn_BASE_BASE * 0x200000
    let z := fld s (Reg.DRC_COn_SIZE n) Fld.DRC_COn_SIZE_SIZE * 0x200000
    decide (b ≤ a) && decide (a < b + z))

/-- Is a DPA Holm memory (R161, R217): a carve-out, or the Vat outside the Mainland scratch pool? -/
def dpaHolm (s : State) (a : Nat) : Bool :=
  if a < vatBase then inCarveout s a else decide (a < vatBase + 0x3C00000)

/-- A byte of device memory; an unassigned DPA reads zero (R216). -/
def rdDpa (s : State) (a : Nat) : Byte := if dpaMapped s a then tget 0 s.mem.dpa a else 0

/-- `n` bytes of device memory. -/
def rdDpas (s : State) (a n : Nat) : List Byte := (List.range n).map (fun i => rdDpa s (a + i))

/-- The little-endian number in `n` bytes of device memory. -/
def rdDpaLe (s : State) (a n : Nat) : Nat := ofLe (rdDpas s a n)

/-- Store one byte of device memory; an unassigned DPA discards it (R216). -/
def wrDpa (a : Nat) (b : Byte) (s : State) : State :=
  if dpaMapped s a then { s with mem := { s.mem with dpa := tput 0 s.mem.dpa a b } } else s

/-- Store bytes of device memory at rising addresses. -/
def wrDpaBytes : Nat → List Byte → State → State
  | _, [], s => s
  | a, b :: bs, s => wrDpaBytes (a + 1) bs (wrDpa a b s)

/-! ### The ISO log -/

/-- May a new event merge into the entry last written (R180)? -/
def isoMerges (e : IsoEntry) (kind req src flags addr obj : Nat) (t : Tick) : Bool :=
  e.kind == kind && e.requester == req && e.source == src && e.flags % 4 == flags % 4 && e.address == addr && e.object == obj &&
    decide (t < e.stamp + 200000)

/-- The entry after a merge (R180). -/
def isoMerge (e : IsoEntry) : IsoEntry :=
  { e with count := min (e.count + 1) 0xFFFFFFFF, flags := e.flags ||| 4 }

/-- The 32 bytes of an ISO log entry (Table 5.6). -/
def IsoEntry.bytes (e : IsoEntry) : List Byte :=
  le 8 e.stamp ++ le 4 e.index ++ le 1 e.kind ++ le 1 e.requester ++ le 1 e.source ++ le 1 e.flags ++ le 8 e.address ++
    le 2 e.object ++ le 2 e.status ++ le 4 e.count

/-- Write an entry of the ring into its place in the Vat (chapter 5: 4,096 entries from Vat offset 0x384_0000). -/
def ringMirror (e : IsoEntry) (s : State) : State := wrDpaBytes (vatBase + 0x3840000 + 32 * (e.index % 4096)) e.bytes s

/-- Capture an event (R179, R180): merge into the last entry, or append to the FIFO of 64, or count it lost. -/
def isoLog (kind req src flags addr obj status : Nat) (s : State) : State :=
  let i := s.iso
  let e : IsoEntry := ⟨s.gtb, i.nextIndex, kind, req, src, flags, addr, obj, status, 1⟩
  match i.fifo.getLast?, i.ring.getLast? with
  | some l, _ =>
    if isoMerges l kind req src flags addr obj s.gtb then { s with iso := { i with fifo := i.fifo.dropLast ++ [isoMerge l] } }
    else if i.fifo.length < 64 then { s with iso := { i with fifo := i.fifo ++ [e], nextIndex := (i.nextIndex + 1) % 2 ^ 32 } }
    else { s with iso := { i with lost := (i.lost + 1) % 65536 } }
  | none, some l =>
    if isoMerges l kind req src flags addr obj s.gtb then ringMirror (isoMerge l) { s with iso := { i with ring := i.ring.dropLast ++ [isoMerge l] } }
    else { s with iso := { i with fifo := [e], nextIndex := (i.nextIndex + 1) % 2 ^ 32 } }
  | none, none => { s with iso := { i with fifo := [e], nextIndex := (i.nextIndex + 1) % 2 ^ 32 } }

/-- A fault note (R606, Table 21.8): REQUESTER 0xFC, OBJECT 0xFFFF. -/
def faultNote (kind src addr status : Nat) (s : State) : State := isoLog kind 0xFC src 0 addr 0xFFFF status s

/-! ### Interrupts of the control cores -/

/-- Raise a Holm interrupt (R164): source codes 1 CRL_MISMATCH, 2 CFG_MISMATCH, 3 CLK_LOST, 4 THERM_ALARM, 5 DBG_ATTACH, 6 STRAIT_ERROR (R636). The level is one of Holm's levels 8 to 15. -/
def raiseHolm (src : Nat) (s : State) : State :=
  let c := s.iso.cores
  { s with iso := { s.iso with cores := { c with pendingHolm := c.pendingHolm ++ [(15, src)] } } }

/-- Words of 8 bytes wholly inside [a, a + n) lose their poison (R221). -/
def unpoison (a n : Nat) (s : State) : State :=
  { s with mem := { s.mem with poison := s.mem.poison.filter (fun w => !(decide (a ≤ w) && decide (w + 8 ≤ a + n))) } }

/-! ### Scene slots (R308, R316) -/

/-- The arm record of an output. -/
def armRec (s : State) (n : Nat) : ArmRec := tget {} s.trv.arms n

/-- Change the arm record of an output. -/
def setArm (n : Nat) (f : ArmRec → ArmRec) (s : State) : State := { s with trv := { s.trv with arms := tmod {} s.trv.arms n f } }

/-- The DPA of scene slot A or B of an output (R308). -/
def slotBase (n : Nat) (b : Bool) : Nat := vatBase + 0x3000000 + 0x60000 * n + (if b then 0x30000 else 0)

/-- The armed slots that a write touches. -/
def slotsHit (s : State) (a n : Nat) : List (Nat × Bool) :=
  if a + n ≤ vatBase + 0x3000000 ∨ vatBase + 0x3300000 ≤ a then []
  else ((List.range 8).flatMap (fun o => [(o, false), (o, true)])).filter (fun (e : Nat × Bool) =>
    (if e.2 then (armRec s e.1).b else (armRec s e.1).a) && decide (a < slotBase e.1 e.2 + 0x30000) && decide (slotBase e.1 e.2 < a + n))

/-- Does the running render read a slot? -/
def slotRead (s : State) (e : Nat × Bool) : Bool :=
  match s.trv.running with
  | some r => r.kind != 2 && r.output == e.1 && r.slotB == e.2
  | none => false

/-- A write disarms a slot (R316): the other slot becomes active when it is armed. -/
def disarmWrite (s : State) (e : Nat × Bool) : State :=
  let s := setArm e.1 (fun r =>
    let r := if e.2 then { r with b := false } else { r with a := false }
    if r.active = some e.2 then { r with active := if (if e.2 then r.a else r.b) then some (!e.2) else none } else r) s
  wrB (Reg.TRV_ARMn e.1) Fld.TRV_ARMn_DISARMED_WRITE true s

/-- Store bytes of device memory, past the slots that they disarm. -/
def wrPlain (a : Nat) (bs : List Byte) (s : State) : State := unpoison a bs.length (wrDpaBytes a bs s)

/-- Store bytes; a DPA that Table 7.1 does not assign leaves a DEVICE_FAULT note (R216); a write to an armed scene slot disarms it, and waits for a render that reads it (R316). -/
def wrDpas (a : Nat) (bs : List Byte) (s : State) : State :=
  let hits := slotsHit s a bs.length
  match hits.find? (slotRead s) with
  | some e => setArm e.1 (fun r => { r with held := r.held ++ [(a, bs)] }) s
  | none =>
  let s := hits.foldl disarmWrite s
  let s := unpoison a bs.length (wrDpaBytes a bs s)
  match (List.range bs.length).find? (fun i => !dpaMapped s (a + i)) with
  | none => s
  | some i => faultNote 0x44 2 (a + i) 0 s

/-- Is a byte poisoned (R221)? -/
def poisoned (s : State) (a : Nat) : Bool := s.mem.poison.contains (a - a % 8)

/-- Byte at a Vat offset. -/
def rdVat (s : State) (o n : Nat) : List Byte := rdDpas s (vatBase + o) n

/-- Store bytes at a Vat offset. -/
def wrVat (o : Nat) (bs : List Byte) (s : State) : State := wrDpas (vatBase + o) bs s

/-! ### Host memory -/

/-- The key of a byte of host memory: port and bus address. -/
def hostKey (port a : Nat) : Nat := 2 ^ 64 * port + a % 2 ^ 64

/-- A byte of host memory. -/
def rdHost (s : State) (port a : Nat) : Byte := tget 0 s.mem.host (hostKey port a)

/-- Store bytes of host memory at rising bus addresses. -/
def wrHost (port : Nat) : Nat → List Byte → State → State
  | _, [], s => s
  | a, b :: bs, s => wrHost port (a + 1) bs { s with mem := { s.mem with host := tput 0 s.mem.host (hostKey port a) b } }

/-! ### Provoked faults on TLPs (R437, R438) -/

/-- Change the links. -/
def setLnk (f : LinkState → LinkState) (s : State) : State := { s with lnk := f s.lnk }

/-- Disarm the faults that satisfy a predicate. -/
def disarm (p : FaultRec → Bool) (s : State) : State := setLnk (fun l => { l with faults := l.faults.map (fun f => if p f then { f with armed := false } else f) }) s

/-- The faults of a session are disarmed as it ends (R178). -/
def disarmSession (tag : Word) (s : State) : State := disarm (fun f => f.tag == tag) s

/-- Is an armed fault aimed at items of a target, instance, direction and tile? -/
def faultAims (f : FaultRec) (target inst dir tile : Nat) : Bool :=
  f.armed && f.target == target && f.inst == inst && f.dir == dir && f.tile == tile

/-- Does it hit one such item? With MODE 1 the draw decides (R437). -/
def faultHits (f : FaultRec) (target inst dir tile : Nat) (draw : Nat) : Bool :=
  faultAims f target inst dir tile && (f.mode == 0 || decide (draw % 2 ^ 32 < f.amount))

/-- Count an injection of a fault; a MODE 0 fault that has made its AMOUNT is no longer armed. -/
def injectOne (f : FaultRec) : FaultRec :=
  if f.mode = 0 then { f with injected := (f.injected + 1) % 2 ^ 32, left := f.left - 1, armed := decide (1 < f.left) }
  else { f with injected := (f.injected + 1) % 2 ^ 32 }

/-- The faults that meet one item, in order of arming, and the state that has counted them (each MODE 1 fault draws). -/
def meetFaults (target inst dir tile : Nat) (s : State) : List Nat × State :=
  s.lnk.faults.foldl (fun (a : List Nat × State) f =>
    let d := Config.random a.2.drawn
    let s := if faultAims f target inst dir tile && f.mode == 1 then { a.2 with drawn := a.2.drawn + 1 } else a.2
    if faultHits f target inst dir tile d then
      (a.1 ++ [f.fault], setLnk (fun l => { l with faults := l.faults.map (fun x => if x.id == f.id then injectOne x else x) }) s)
    else (a.1, s)) ([], s)

/-- The key of the TLP that a port and direction hold. -/
def heldKey (port dir : Nat) : Nat := 2 * port + dir

/-- One outbound memory write TLP (R438): it arrives, is discarded, or is held and passed on after the next one. -/
def outTlp (port a : Nat) (bs : List Byte) (s : State) : State :=
  let (hits, s) := meetFaults 0 port 1 0 s
  let prev := tget none s.lnk.held (heldKey port 1)
  let clear (s : State) : State := setLnk (fun l => { l with held := tput none l.held (heldKey port 1) none }) s
  let after (s : State) : State := match prev with
    | some (.outbound a' bs' _) => wrHost port a' bs' (clear s)
    | _ => s
  if hits.contains 0 then after s
  else if hits.contains 2 then
    setLnk (fun l => { l with held := tput none l.held (heldKey port 1) (some (.outbound a bs s.gtb)) }) (after s)
  else after (wrHost port a bs s)

/-- Write bytes to host memory: memory write TLPs of at most 128 bytes, none across a multiple of 128. The fuel is the number of bytes. -/
def hostWrite (port : Nat) : Nat → Nat → List Byte → State → State
  | 0, _, _, s => s
  | n + 1, a, bs, s =>
    if bs.isEmpty then s
    else
      let k := 128 - a % 128
      hostWrite port n (a + k) (bs.drop k) (outTlp port a (bs.take k) s)

/-! ### The IOMMU -/

/-- Where an IOVA lands. -/
inductive Xlate where
  | dev (dpa : Nat)
  | host (port addr : Nat)
  | fault (permission : Bool)
  deriving DecidableEq, Repr

/-- The DPA at an offset into a list of extents. -/
def extAt : List (Nat × Nat) → Nat → Nat
  | [], _ => 0
  | (b, n) :: es, o => if o < n then b + o else extAt es (o - n)

/-- Where a byte lands in one mapping. -/
def mapHit (s : State) (fn : Nat) (write : Bool) (iova : Nat) (m : Mapping) : Xlate :=
  if (if write then m.wr else m.rd) then
    (if m.kind = 0 then .host (portOf s fn) iova else .dev (extAt m.ext (iova - m.iova)))
  else .fault true

/-- Does a mapping of a function hold an IOVA? -/
def mapHolds (fn iova : Nat) (m : Mapping) : Bool := m.fn == fn && decide (m.iova ≤ iova) && decide (iova < m.iova + m.len)

/-- Translate one byte of a function's IO virtual space (R233, R238). A mapping that a reset has removed translates nothing more. -/
def xlate (s : State) (fn : Nat) (write : Bool) (iova : Nat) : Xlate :=
  match s.mem.maps.find? (fun m => mapHolds fn iova m && m.doomed.isNone) with
  | none => .fault false
  | some m => mapHit s fn write iova m

/-- Translate one byte for a leased fetch or writeback (R207, R210): mappings that a reset left for leases still serve it. -/
def xlateLeased (s : State) (fn : Nat) (write : Bool) (iova : Nat) : Xlate :=
  match xlate s fn write iova with
  | .fault p =>
    (match s.mem.maps.find? (fun m => mapHolds fn iova m && m.doomed.isSome) with
     | none => .fault p
     | some m => mapHit s fn write iova m)
  | x => x

/-- Is a whole range mapped with the permission? -/
def rangeOk (s : State) (fn : Nat) (write : Bool) (iova n : Nat) : Bool :=
  -- mappings are page-grained: the first byte and the first byte of each later page of 4 KiB decide
  (List.range ((iova % 4096 + n + 4095) / 4096)).all (fun i =>
    match xlate s fn write (if i = 0 then iova else iova - iova % 4096 + 4096 * i) with
    | .fault _ => false
    | _ => true)

/-- One byte through a function's context; a fault reads zero (R238). -/
def rdIova (s : State) (fn iova : Nat) : Byte :=
  match xlate s fn false iova with
  | .dev a => rdDpa s a
  | .host p a => rdHost s p a
  | .fault _ => 0

/-- `n` bytes through a function's context. -/
def rdIovas (s : State) (fn iova n : Nat) : List Byte := (List.range n).map (fun i => rdIova s fn (iova + i))

/-- Count one fault in a function's context for the next MEM_FAULT record of a key: the function itself (R238), or 64 for the Holm channels and units (R530). -/
def countFault (key fn src iova : Nat) (write perm : Bool) (s : State) : State :=
  { s with mem := { s.mem with faults := tmod {} s.mem.faults key (fun r =>
      if r.count = 0 then { ctx := fn, flags := bit write + 2 * bit perm, source := src, iova := iova, stamp := s.gtb, count := 1 }
      else { r with count := min (r.count + 1) 0xFFFFFFFF }) } }

/-- Count one fault of a function for its next MEM_FAULT record (R238). -/
def memFault (fn src iova : Nat) (write perm : Bool) (s : State) : State := countFault fn fn src iova write perm s

/-- Is a byte of a range poisoned (R221, R228)? -/
def ctxPoison (s : State) (ctx : Option Nat) (a n : Nat) : Bool :=
  !s.mem.poison.isEmpty &&
  (List.range n).any (fun i =>
    match ctx with
    | none => poisoned s (a + i)
    | some f => match xlate s f false (a + i) with | .dev d => poisoned s d | _ => false)

/-- A MEM_FAULT record (Table 7.8). -/
def memFaultRecord (r : MemFaultRec) : List Byte :=
  le 2 0x0802 ++ le 2 r.flags ++ le 1 r.ctx ++ le 1 r.source ++ le 2 0 ++ le 8 r.iova ++ le 8 r.stamp ++ le 4 r.count ++ le 4 0

/-- Hand over the MEM_FAULT record of a key whose interval of 2,000,000 ticks has ended, to a queue (R238). -/
def dueFaultAt (key fn : Nat) (holm : Bool) (s : State) : State :=
  let r := tget {} s.mem.faults key
  if r.count ≠ 0 ∧ r.stamp + 2000000 ≤ s.gtb then
    post fn holm (memFaultRecord r) { s with mem := { s.mem with faults := tput {} s.mem.faults key {} } }
  else s

/-- The MEM_FAULT record that is due at a queue: a function's own at its EQ0 (R238), that of the Holm channels and units at EQ1 of DMA_CTRL.EVENT_PF (R530). -/
def dueFault (fn : Nat) (holm : Bool) (s : State) : State :=
  if holm then (if fn = fld s Reg.DMA_CTRL Fld.DMA_CTRL_EVENT_PF then dueFaultAt 64 fn true s else s)
  else dueFaultAt fn fn false s

/-- The first byte of a range at which a function's access faults. -/
def firstFault (s : State) (fn : Nat) (write : Bool) (iova n : Nat) : Option (Nat × Bool) :=
  (List.range n).findSome? (fun i =>
    match xlate s fn write (iova + i) with
    | .fault p => some (iova + i, p)
    | _ => none)

/-- Record the fault of an access of `n` bytes, if it has one. -/
def noteFault (fn src : Nat) (write : Bool) (iova n : Nat) (s : State) : State :=
  match firstFault s fn write iova n with
  | none => s
  | some (a, p) => memFault fn src a write p s

/-- Store bytes through a function's context, in pieces that cross no multiple of 128 (mappings are page-grained, so a piece lands whole); a piece that faults is discarded (R238). The fuel is
the number of bytes. -/
def wrIovaBytes (fn : Nat) : Nat → Nat → List Byte → State → State
  | 0, _, _, s => s
  | n + 1, a, bs, s =>
    if bs.isEmpty then s
    else
      let k := 128 - a % 128
      wrIovaBytes fn n (a + k) (bs.drop k)
        (match xlate s fn true a with
         | .dev d => wrDpas d (bs.take k) s
         | .host p h => outTlp p h (bs.take k) s
         | .fault _ => s)

/-- Store bytes through a function's context and record its fault. -/
def wrIovas (fn src iova : Nat) (bs : List Byte) (s : State) : State :=
  noteFault fn src true iova bs.length (wrIovaBytes fn bs.length iova bs s)

/-! ### Ownership (R151, R152) -/

/-- Object identifiers (Table 5.2). -/
def obj (cls idx : Nat) : Nat := 4096 * cls + idx

/-- The entry of an object; an object that no entry lists is Holm-owned (R151). -/
def ownRec (s : State) (o : Nat) : OwnRec := tget {} s.iso.own o

/-- Is the object owned by a world and, when Mainland, granted to the function? -/
def ownedBy (s : State) (o : Nat) (holm : Bool) (fn : Nat) : Bool :=
  let e := ownRec s o
  if holm then e.holm else !e.holm && e.granted && e.fn == fn

/-- Objects of a class granted to a function, rising, below `n` indices. -/
def grantedOf (s : State) (cls n fn : Nat) : List Nat :=
  (List.range n).filter (fun i => ownedBy s (obj cls i) false fn)

/-- Set an object's entry. -/
def setOwn (o : Nat) (e : OwnRec) (s : State) : State := { s with iso := { s.iso with own := tput {} s.iso.own o e } }

end Sys2Proof.Machine
end

