-- ==== Sys2Proof/Machine/Objects.lean ====
section
/-!
DEFINITION. Objects.lean: ownable objects (Table 5.2, R636, R637), the owner and the gate of every register offset (Table 20.1), gates (Table 19.4), table ports (R635).
-/

namespace Sys2Proof.Machine

open Sys2Proof

/-! ### Gates (Table 19.4) -/

/-- Kinds of gates (R545). -/
inductive GKind where
  | never
  | power
  | clock
  | standby
  | auto
  deriving DecidableEq, Repr

/-- The kind of a gate; none where no gate has the number. -/
def gateKind (g : Nat) : Option GKind :=
  if g ≤ 1 then some .never
  else if g = 4 then some .standby
  else if g ≤ 0x0F then some .power
  else if g ≤ 0x13 then some .auto
  else if 0x20 ≤ g ∧ g ≤ 0x24 then some .clock
  else if 0x28 ≤ g ∧ g ≤ 0x2F then some .clock
  else if 0x30 ≤ g ∧ g ≤ 0x3B then some .power
  else if 0x40 ≤ g ∧ g ≤ 0x47 then some .clock
  else if 0x48 ≤ g ∧ g ≤ 0x49 then some .power
  else if 0x50 ≤ g ∧ g ≤ 0x57 then some .power
  else if 0x58 ≤ g ∧ g ≤ 0x67 then some .clock
  else none

/-- The parent of a gate. -/
def gateParent (g : Nat) : Option Nat :=
  if g = 0 then none
  else if g = 1 then some 0
  else if g ≤ 7 then some 1
  else if g ≤ 0x0F then some 3
  else if g ≤ 0x13 then some 1
  else if g = 0x20 then some 2
  else if g ≤ 0x24 then some 1
  else if g ≤ 0x2F then some 3
  else if g ≤ 0x37 then some (0x08 + (g - 0x30))
  else if g ≤ 0x3B then some 1
  else if g ≤ 0x49 then some 6
  else some 7

/-- The inrush cost of a gate. -/
def gateCost (g : Nat) : Nat :=
  if g = 2 then 4 else if g = 3 then 3 else if g = 4 ∨ g = 5 then 2
  else if gateKind g = some .power then 1 else 0

/-- Every gate number. -/
def allGates : List Nat := (List.range 0x68).filter (fun g => (gateKind g).isSome)

/-- The children of a gate. -/
def gateChildren (g : Nat) : List Nat := allGates.filter (fun c => gateParent c == some g)

/-- The ancestors of a gate, nearest first. The tree is at most four deep. -/
def gateAncestors (g : Nat) : List Nat :=
  let step (x : Option Nat) : Option Nat := match x with | some p => gateParent p | none => none
  let a := gateParent g
  let b := step a
  let c := step b
  (a.toList ++ b.toList ++ c.toList)

/-- The record of a gate. -/
def gateRec (s : State) (g : Nat) : GateRec := tget {} s.pwr.gates g

/-- Change a gate's record. -/
def setGate (g : Nat) (f : GateRec → GateRec) (s : State) : State :=
  { s with pwr := { s.pwr with gates := tmod {} s.pwr.gates g f } }

/-- The state of a gate: 0x00 and 0x01 are never gated, a video-in island runs while its link carries video (R24). -/
def gateState (s : State) (g : Nat) : GState :=
  if g ≤ 1 then .on
  else if 0x10 ≤ g ∧ g ≤ 0x13 then (if (tget {} s.disp.vins (g - 0x10)).island then .on else .off)
  else (gateRec s g).state

/-- Is a gate ON, and every gate above it? -/
def gateOn (s : State) (g : Nat) : Bool := (g :: gateAncestors g).all (fun x => gateState s x == .on)

/-! ### Objects -/

/-- The object that an entry follows (R637): a mirrored gate or an interrupt source. -/
def followed (o : Nat) : Option Nat :=
  let c := o / 4096
  let i := o % 4096
  if c = 8 then
    (if 0x200 ≤ i ∧ i ≤ 0x27F then some (obj 3 (i - 0x200))
     else if 0x280 ≤ i ∧ i ≤ 0x283 then some (obj 4 (i - 0x280)) else none)
  else if c = 9 then
    (if 0x21 ≤ i ∧ i ≤ 0x24 then some (obj 4 (i - 0x21))
     else if 0x28 ≤ i ∧ i ≤ 0x2F then some (obj 0xC (i - 0x28))
     else if 0x30 ≤ i ∧ i ≤ 0x37 then some (obj 0xC (i - 0x30))
     else if 0x38 ≤ i ∧ i ≤ 0x3B then some (obj 0xB (i - 0x38))
     else if 0x48 ≤ i ∧ i ≤ 0x49 then some (obj 6 (72 + (i - 0x48)))
     else if 0x58 ≤ i ∧ i ≤ 0x67 then some (obj 7 (i - 0x58)) else none)
  else none

/-- Does the identifier name an object (R636)? -/
def objExists (o : Nat) : Bool :=
  let i := o % 4096
  match o / 4096 with
  | 1 => decide (i ≤ 8)
  | 2 => decide (i < 72)
  | 3 => decide (i < 128)
  | 4 => decide (i < 4)
  | 5 => decide (i < 256)
  | 6 => decide (i ≤ 42) || (decide (64 ≤ i) && decide (i ≤ 74))
  | 7 => decide (i < 16)
  | 8 => decide (0x200 ≤ i) && decide (i ≤ 0x283)
  | 9 => (gateKind i).isSome
  | 0xA => decide (i < 16)
  | 0xB => decide (i < 4)
  | 0xC => decide (i < 8)
  | _ => false

/-- Is a touch region bound to a Creamline region (Table 5.2)? -/
def regionBound (s : State) (r : Nat) : Bool := flg s (Reg.TCH_Sk_Rr_CFG (r / 32) (r % 32)) Fld.TCH_Sk_Rr_CFG_BIND_EN

/-- Is an object always Holm (Table 5.2, Table 5.14 FIXED)? -/
def objFixed (s : State) (o : Nat) : Bool :=
  let i := o % 4096
  match o / 4096 with
  | 1 => true
  | 2 => i % 9 == 8
  | 5 => regionBound s i
  | 6 => i == 42 || i == 74
  | 9 => (followed o).isNone
  | 0xA => true
  | _ => false

/-- The entry of an object as it reads: a fixed object is Holm-owned, a following entry equals the one it follows (R637). -/
def entryOf (s : State) (o : Nat) : OwnRec :=
  match followed o with
  | some p => ownRec s p
  | none => if objFixed s o then {} else ownRec s o

/-- Is an object Holm-owned? While a release is pending it behaves as Holm-owned (R156). -/
def holmOwned (s : State) (o : Nat) : Bool := (entryOf s o).holm

/-- The function that a Mainland-owned object is granted to. -/
def granteeOf (s : State) (o : Nat) : Option Nat :=
  let e := entryOf s o
  if e.holm = false ∧ e.granted then some e.fn else none

/-- The holder of an object (R368); none for a Mainland object with GRANTED 0. -/
def holderOf (s : State) (o : Nat) : Option Holder :=
  if holmOwned s o then some ⟨true, 0⟩ else (granteeOf s o).map (fun f => ⟨false, f⟩)

/-- The object of layer `l` of output `n`. -/
def layerObj (n l : Nat) : Nat := obj 2 (9 * n + l)

/-- The output timing and writeback object. -/
def outObj (n : Nat) : Nat := obj 0xC n

/-! ### Owners of offsets (Table 20.1) -/

/-- Who owns a register offset: a world, no world (R150), no world for reads alone, or the owner of an object. -/
inductive Own where
  | holm
  | mainland
  | both
  | bothRead
  | obj (o : Nat)
  deriving DecidableEq, Repr

/-- The owner of an offset of the PF register window. -/
def ownerAt (off : Nat) : Own :=
  if off < 0x100000 then
    (if 0x800 ≤ off ∧ off < 0x830 then .both
     else if (0x140 ≤ off ∧ off < 0x180) ∨ (0x240 ≤ off ∧ off < 0x280) then .holm
     else .mainland)
  else if off < 0x200000 then (if off = Reg.ISO_WHOAMI then .both else .holm)
  else if off < 0x300000 then .mainland
  else if off < 0x400000 then .holm
  else if off < 0x800000 then (if off = Reg.DRC_POOL then .mainland else .holm)
  else if off < 0x900000 then (if off = Reg.GPX_INFO then .bothRead else .holm)
  else if off < 0xA00000 then (if off = Reg.TRV_INFO then .bothRead else .holm)
  else if off < 0xA80000 then
    let n := (off - 0xA00000) / 0x10000
    let o := off % 0x10000
    if 0x1000 ≤ o ∧ o < 0x3000 then .obj (layerObj n ((o - 0x1000) / 0x400)) else .obj (outObj n)
  else if off < 0xB00000 then .mainland
  else if off < 0xB08000 then .obj (outObj ((off - 0xB00000) / 0x1000))
  else if off < 0xB80000 then .mainland
  else if off < 0xB84000 then .obj (obj 0xB ((off - 0xB80000) / 0x1000))
  else if off < 0xC00000 then .mainland
  else if off < 0xD00000 then .holm
  else if off < 0xD00800 then .obj (outObj ((off - 0xD00000) / 0x100))
  else if off < 0xD00C00 then .bothRead
  else if off < 0xD01000 then .obj (obj 0xB ((off - 0xD00C00) / 0x100))
  else if off < 0xE00000 then .holm
  else if off < 0xE80000 then
    (if off = Reg.TCH_INFO then .bothRead
     else if 0xE01000 ≤ off ∧ off < 0xE03000 then
       let o := off % 0x400
       if 0x100 ≤ o ∧ o < 0x300 then .obj (obj 5 (32 * ((off - 0xE01000) / 0x400) + (o - 0x100) / 16)) else .holm
     else .holm)
  else if off < 0xF00000 then
    (if off = Reg.HAP_INFO then .bothRead
     else if 0xE81000 ≤ off ∧ off < 0xE83000 then .obj (obj 7 ((off - 0xE81000) / 0x200)) else .holm)
  else if off < 0x1000000 then
    (if off = Reg.AUD_INFO ∨ (0xF00010 ≤ off ∧ off < 0xF00020) then .bothRead
     else if 0xF01000 ≤ off ∧ off < 0xF05000 then .obj (obj 6 ((off - 0xF01000) / 0x200))
     else if 0xF05000 ≤ off ∧ off < 0xF05280 then .obj (obj 6 (32 + (off - 0xF05000) / 0x40))
     else if 0xF06000 ≤ off ∧ off < 0xF08C00 then .obj (obj 6 (64 + (off - 0xF06000) / 0x400))
     else if 0xF09000 ≤ off ∧ off < 0xF09200 then .obj (obj 6 (72 + (off - 0xF09000) / 0x100))
     else .holm)
  else if off < 0x1100000 then (if off < 0x1008000 then .obj (obj 3 ((off - 0x1000000) / 0x100)) else .holm)
  else if off < 0x1200000 then (if off < 0x1100400 then .obj (obj 4 ((off - 0x1100000) / 0x100)) else .holm)
  else if off < 0x1210000 then (if off = Reg.CLK_STAT ∨ (0x1200100 ≤ off ∧ off < 0x1200150) then .bothRead else .holm)
  else if off < 0x1230000 then .holm
  else if off < 0x1300000 then
    (if off = Reg.REG_DEVICE_ID ∨ (0x1230010 ≤ off ∧ off < 0x123001C) ∨ (0x1230020 ≤ off ∧ off < 0x123002C) ∨ off = Reg.REG_PAIR_STAT then .both
     else .holm)
  else if off < 0x1400000 then .holm
  else .mainland

/-- The gate that a register offset needs ON (R546). TG and LNK_TXg_CFG shadows are written before the commit that wakes the pixel island (R552): they stand with the pipe gate. DEDUCED. -/
def gateAt (off : Nat) : Nat :=
  if off < 0x800000 then 1
  else if off < 0x900000 then (if off = Reg.GPX_INFO then 1 else 2)
  else if off < 0xA00000 then 1
  else if off < 0xA80000 then 0x28 + (off - 0xA00000) / 0x10000
  else if off < 0xB00000 then 1
  else if off < 0xB08000 then 0x28 + (off - 0xB00000) / 0x1000
  else if off < 0xC00000 then 1
  else if off < 0xC08000 then 3
  else if off < 0xD00000 then 1
  else if off < 0xD00800 then
    let g := (off - 0xD00000) / 0x100
    if off % 0x100 = 0 then 0x28 + g else if off % 0x100 = 0x20 then 1 else 0x30 + g
  else if off < 0xD00C00 then 1
  else if off < 0xD01000 then 0x38 + (off - 0xD00C00) / 0x100
  else if off < 0xE00000 then 1
  else if off < 0xE80000 then (if off = Reg.TCH_INFO then 1 else 7)
  else if off < 0xF00000 then
    (if off = Reg.HAP_INFO then 1
     else if 0xE81000 ≤ off ∧ off < 0xE83000 then 0x58 + (off - 0xE81000) / 0x200 else 7)
  else if off < 0x1000000 then
    (if off = Reg.AUD_INFO then 1
     else if 0xF05400 ≤ off ∧ off < 0xF05480 then 0x40 + (off - 0xF05400) / 0x10
     else if 0xF09000 ≤ off ∧ off < 0xF09200 then 0x48 + (off - 0xF09000) / 0x100
     else 6)
  else if 0x1100000 ≤ off ∧ off < 0x1100400 then 0x21 + (off - 0x1100000) / 0x100
  else 1

/-! ### Table ports (R635) -/

/-- The key of entry `i` behind the data register at `off`. -/
def portEntry (off i : Nat) : Nat := off * 65536 + i

/-- The word of a table entry at reset: the filter tables of R341, the identity tables of R347; every other entry is 0. For the LUT data registers `i` is 8192 × TABLE + INDEX. -/
def tabResetWord (off i : Nat) : Word :=
  let o := off % 0x10000
  if 0xA00000 ≤ off ∧ off < 0xA80000 then
    (if 0x1000 ≤ o ∧ o < 0x3000 ∧ o % 0x400 = 0x104 then
      -- horizontal words 0 to 255: taps 2k, 2k + 1 of phase i / 4; vertical words from 256: phase (i - 256) / 3
      (let a := if i < 256 then 256 - 4 * (i / 4) else 256 - 4 * ((i - 256) / 3)
       let b := 256 - a
       let k := if i < 256 then i % 4 else (i - 256) % 3
       if k = 1 then (if i < 256 then BitVec.ofNat 32 (a * 65536) else BitVec.ofNat 32 (a + b * 65536))
       else if k = 2 ∧ i < 256 then BitVec.ofNat 32 b
       else 0)
     else if o = 0x44 ∨ o = 0x48 then
      (let x := i % 8192
       let e (v : Nat) : Word := if o = 0x48 then BitVec.ofNat 32 v else BitVec.ofNat 32 (v * 4096 + v)
       match i / 8192 with
       | 0 => e (4 * x + x / 256)
       | 1 => e (min 4095 (4 * x))
       | 2 =>
         let r := min 4095 (256 * (x / 289))
         let g := min 4095 (256 * (x / 17 % 17))
         let b := min 4095 (256 * (x % 17))
         if o = 0x48 then BitVec.ofNat 32 b else BitVec.ofNat 32 (g * 4096 + r)
       | _ => 0)
     else 0)
  else if 0xC00000 ≤ off ∧ off < 0xC08000 ∧ off % 0x1000 = 0x20C then BitVec.ofNat 32 (i % 1024)
  else 0

/-- A table entry in effect. -/
def tab (s : State) (off i : Nat) : Word := tget 0 s.tabs (portEntry off i) ^^^ tabResetWord off i

/-- Set a table entry in effect. -/
def setTab (off i : Nat) (w : Word) (s : State) : State :=
  { s with tabs := tput 0 s.tabs (portEntry off i) (w ^^^ tabResetWord off i) }

/-- A shadow table entry. -/
def tabSh (s : State) (off i : Nat) : Word := tget 0 s.tabShadow (portEntry off i) ^^^ tabResetWord off i

/-- Set a shadow table entry. -/
def setTabSh (off i : Nat) (w : Word) (s : State) : State :=
  { s with tabShadow := tput 0 s.tabShadow (portEntry off i) (w ^^^ tabResetWord off i) }

/-! ### Shadows (R12, R371) -/

/-- Is the register at an offset an SH register? -/
def isShOff (off : Nat) : Bool :=
  match regAt off with
  | some d => d.fields.any (fun f => f.acc == .sh)
  | none => false

/-- Apply the shadows of the offsets [lo, hi): every SH register and every table behind a port takes its shadow value. -/
def applyShadow (lo hi : Nat) (s : State) : State :=
  let inR (k : Nat) : Bool := decide (lo ≤ k) && decide (k < hi)
  let keep (e : Nat × Word) : Bool := !(inR e.1 && isShOff e.1)
  let put (t : Table Word) (e : Nat × Word) : Table Word := if inR e.1 && isShOff e.1 then tput 0 t e.1 e.2 else t
  let keepT (e : Nat × Word) : Bool := !(inR (e.1 / 65536))
  let putT (t : Table Word) (e : Nat × Word) : Table Word := if inR (e.1 / 65536) then tput 0 t e.1 e.2 else t
  { s with regs := s.shadow.foldl put (s.regs.filter keep), tabs := s.tabShadow.foldl putT (s.tabs.filter keepT) }

/-- Return the shadows of the offsets [lo, hi) to the values in effect (R377). -/
def revertShadow (lo hi : Nat) (s : State) : State :=
  let inR (k : Nat) : Bool := decide (lo ≤ k) && decide (k < hi)
  let keep (e : Nat × Word) : Bool := !(inR e.1)
  let put (t : Table Word) (e : Nat × Word) : Table Word := if inR e.1 && isShOff e.1 then tput 0 t e.1 e.2 else t
  let keepT (e : Nat × Word) : Bool := !(inR (e.1 / 65536))
  let putT (t : Table Word) (e : Nat × Word) : Table Word := if inR (e.1 / 65536) then tput 0 t e.1 e.2 else t
  { s with shadow := s.regs.foldl put (s.shadow.filter keep), tabShadow := s.tabs.foldl putT (s.tabShadow.filter keepT) }

/-- Return the tables behind the ports of the offsets [lo, hi) to their reset values. -/
def resetTabs (lo hi : Nat) (s : State) : State :=
  { s with tabs := tclear s.tabs (lo * 65536) (hi * 65536), tabShadow := tclear s.tabShadow (lo * 65536) (hi * 65536) }

end Sys2Proof.Machine
end

