-- ==== Sys2Proof/Machine/Display.lean ====
section
/-!
DEFINITION. Display.lean: what the registers of an output say: timing, layers, formats, standing demands (chapters 2, 11 and 12). Every function reads the values in effect; a check of a
configuration that will be in effect runs them on the state with that configuration applied (R375).
-/

namespace Sys2Proof.Machine

open Sys2Proof

/-! ### Outputs -/

/-- The state of an output. -/
def outSt (s : State) (n : Nat) : OutState := tget {} s.disp.outs n

/-- Change an output. -/
def setOut (n : Nat) (f : OutState → OutState) (s : State) : State := { s with disp := { s.disp with outs := tmod {} s.disp.outs n f } }

/-- The state of a layer by its object index 9n + l. -/
def layerSt (s : State) (i : Nat) : LayerState := tget {} s.disp.layers i

/-- Change a layer. -/
def setLayer (i : Nat) (f : LayerState → LayerState) (s : State) : State :=
  { s with disp := { s.disp with layers := tmod {} s.disp.layers i f } }

/-- The state of a video input. -/
def vinSt (s : State) (n : Nat) : VinState := tget {} s.disp.vins n

/-- Change a video input. -/
def setVin (n : Nat) (f : VinState → VinState) (s : State) : State := { s with disp := { s.disp with vins := tmod {} s.disp.vins n f } }

/-- ENABLE in effect of an output's timing generator. -/
def tgOn (s : State) (n : Nat) : Bool := flg s (Reg.TG_CTRL n) Fld.TG_CTRL_ENABLE

/-- Is the output in Prompt mode (MODE 0)? -/
def isPrompt (s : State) (n : Nat) : Bool := !flg s (Reg.TG_CTRL n) Fld.TG_CTRL_MODE

/-- Active pixels per line. -/
def hAct (s : State) (n : Nat) : Nat := fld s (Reg.TG_H0 n) Fld.TG_H0_H_ACTIVE
/-- Pixels per line. -/
def hTot (s : State) (n : Nat) : Nat := fld s (Reg.TG_H0 n) Fld.TG_H0_H_TOTAL
/-- Active lines. -/
def vAct (s : State) (n : Nat) : Nat := fld s (Reg.TG_V0 n) Fld.TG_V0_V_ACTIVE
/-- Lines per frame. -/
def vTot (s : State) (n : Nat) : Nat := fld s (Reg.TG_V0 n) Fld.TG_V0_V_TOTAL
/-- Pixel clock in Hz. -/
def pclk (s : State) (n : Nat) : Nat := (rd s (Reg.TG_PCLK n)).toNat

/-- floor(P), the frame period in ticks (R364). -/
def framePeriod (s : State) (n : Nat) : Nat := hTot s n * vTot s n * 200000000 / pclk s n

/-- The latch point `m` frames after one at tick `t`: within one pixel clock of t + m × P, and never before it (R32, R364). -/
def latchAfter (s : State) (n t m : Nat) : Nat := t + ceilDiv (m * hTot s n * vTot s n * 200000000) (pclk s n)

/-- The first latch point of a running output whose stamp is at least `t` on the raster in effect, counted from the last one (R364); none before latch point 0. -/
def latchGrid (s : State) (n t : Nat) : Option Tick :=
  let o := outSt s n
  if tgOn s n && o.latched && decide (0 < pclk s n) && decide (0 < hTot s n * vTot s n) then
    -- the least m with last + ceil(m P) at least t
    (let need := t - o.lastLatch
     let m := if need = 0 then 1 else max 1 (((need - 1) * pclk s n) / (hTot s n * vTot s n * 200000000) + 1)
     let p := latchAfter s n o.lastLatch m
     some (match o.waitNew with
       | none => p
       | some w => if p < w then w else p))
  else none

/-- Apply the shadows of the output timing object that apply in the pixel island: TG and LNK_TXg_CFG. -/
def applyTiming (n : Nat) (s : State) : State :=
  applyShadow (0xD00000 + 0x100 * n) (0xD00000 + 0x100 * n + 0x100) (applyShadow (0xB00000 + 0x1000 * n) (0xB00000 + 0x1000 * n + 0x1000) s)

/-- Does a configuration change the pixel clock of an output, or its link, which counts as such a change (R378, R425)? -/
def clockChange (s s' : State) (n : Nat) : Bool := pclk s' n != pclk s n || rd s' (Reg.LNK_TXg_CFG n) != rd s (Reg.LNK_TXg_CFG n)

/-- The TG registers of an output after a commit of its own holder applies at a latch point: a pixel-clock change leaves no latch point before L + 4 P′ (R375, R379). -/
def afterTiming (s : State) (n : Nat) (l : Tick) : State :=
  let s' := applyTiming n s
  setOut n (fun o => { o with lastLatch := l, waitNew := if clockChange s s' n then some (latchAfter s' n l 4) else none }) s'

/-- The first latch point of an output whose stamp is at least `t` (R52, R72): past a pending commit that changes the timing, on the new timing (R375); none past one that disables the output. -/
def latchFrom (s : State) (n t : Nat) : Option Tick :=
  match (outSt s n).commits.find? (fun c => some c.holder == holderOf s (outObj n)) with
  | none => latchGrid s n t
  | some c =>
    match latchGrid s n c.at_ with
    | none => latchGrid s n t
    | some l => if t ≤ l then latchGrid s n t else latchGrid (afterTiming s n l) n t

/-- The lag L of an output's pixel island (R32): ⌈2 T / 5 ns⌉ + 1. -/
def pixelLag (s : State) (n : Nat) : Nat := ceilDiv 400000000 (pclk s n) + 1

/-! ### Layers -/

/-- Is a layer enabled in effect? -/
def layerOn (s : State) (n l : Nat) : Bool := flg s (Reg.Lx_CTRL n l) Fld.Lx_CTRL_ENABLE

/-- Twice the fetch bytes per pixel of a FORMAT (Table 11.2); 0 for a code that no layer accepts. -/
def bpp2 (f : Nat) : Nat :=
  match f with
  | 0x01 => 8
  | 0x02 => 8
  | 0x03 => 4
  | 0x06 => 2
  | 0x20 => 3
  | 0x21 => 4
  | 0x22 => 3
  | 0x23 => 4
  | 0x24 => 6
  | 0x25 => 8
  | 0x26 => 6
  | 0x27 => 8
  | _ => 0

/-- Does a layer take its source from a video input? -/
def layerVin (s : State) (n l : Nat) : Option Nat :=
  if flg s (Reg.Lx_CTRL n l) Fld.Lx_CTRL_SOURCE then some (fld s (Reg.Lx_CTRL n l) Fld.Lx_CTRL_VIN) else none

/-- The format that a layer fetches: its own, or the capture format of its input (R353). -/
def layerFormat (s : State) (n l : Nat) : Nat :=
  match layerVin s n l with
  | none => fld s (Reg.Lx_FORMAT n l) Fld.Lx_FORMAT_FORMAT
  | some v => fld s (Reg.VIN_CTRL v) Fld.VIN_CTRL_CAPFMT

/-- Width and height of a layer's source rectangle. -/
def srcSize (s : State) (n l : Nat) : Nat × Nat :=
  (fld s (Reg.Lx_SRC_SIZE n l) Fld.Lx_SRC_SIZE_W, fld s (Reg.Lx_SRC_SIZE n l) Fld.Lx_SRC_SIZE_H)

/-- Left and top edge of a layer's source rectangle. -/
def srcPos (s : State) (n l : Nat) : Nat × Nat :=
  (fld s (Reg.Lx_SRC_POS n l) Fld.Lx_SRC_POS_X, fld s (Reg.Lx_SRC_POS n l) Fld.Lx_SRC_POS_Y)

/-- Width and height of a layer's destination rectangle. -/
def dstSize (s : State) (n l : Nat) : Nat × Nat :=
  (fld s (Reg.Lx_DST_SIZE n l) Fld.Lx_DST_SIZE_W, fld s (Reg.Lx_DST_SIZE n l) Fld.Lx_DST_SIZE_H)

/-- Left and top edge of a layer's destination rectangle. -/
def dstPos (s : State) (n l : Nat) : Nat × Nat :=
  (fld s (Reg.Lx_DST_POS n l) Fld.Lx_DST_POS_X, fld s (Reg.Lx_DST_POS n l) Fld.Lx_DST_POS_Y)

/-! ### Pools and standing demands (R61, R62, R66, R67) -/

/-- A pool of admission. -/
inductive Pool where
  | reserve
  | whey
  | share (fn : Nat)
  deriving DecidableEq, Repr

/-- The pool that bears a demand of an object (R66): the reserve for a Holm-owned object, the grantee's share otherwise; none for a Mainland object with GRANTED 0. -/
def bearer (s : State) (o : Nat) : Option Pool :=
  if holmOwned s o then some .reserve else (granteeOf s o).map Pool.share

/-- Bytes per frame × refresh, in bytes per tick as 16.16, rounded up (R66, R69). -/
def perFrame16 (s : State) (n bytes2 : Nat) : Nat :=
  if hTot s n * vTot s n = 0 then 0 else ceilDiv (bytes2 * pclk s n * 65536) (2 * hTot s n * vTot s n * 200000000)

/-- Bytes per second in bytes per tick as 16.16, rounded up. -/
def perSecond16 (bytes2 : Nat) : Nat := ceilDiv (bytes2 * 65536) 400000000

/-- One standing demand: who bears it, SHD and DRB densities in 16.16. -/
structure Demand where
  pool : Pool
  shd : Nat
  drb : Nat
  deriving DecidableEq, Repr

/-- A demand on the bearer of an object, if it has one. -/
def demandOn (s : State) (o shd drb : Nat) : List Demand :=
  match bearer s o with
  | some p => [⟨p, shd, drb⟩]
  | none => []

/-- The skim allowance of an output in Prompt mode (R67). -/
def skimDemand (s : State) (n : Nat) : Demand :=
  let c := 20000 + ceilDiv (5 * hAct s n * vAct s n) 24
  ⟨.reserve, ceilDiv (c * 65536) (framePeriod s n - 600), perFrame16 s n (8 * hAct s n * vAct s n)⟩

/-- The standing demands of one output in effect (R66, R67): layer fetch, writeback, the Bulk queue, the skim allowance. -/
def outDemands (s : State) (n : Nat) : List Demand :=
  if tgOn s n then
    ((List.range 8).flatMap (fun l =>
      if layerOn s n l then
        (let (w, h) := srcSize s n l
         demandOn s (layerObj n l) 0 (perFrame16 s n (w * h * bpp2 (layerFormat s n l))))
      else [])) ++
    (if flg s (Reg.OP_WB_CTRL n) Fld.OP_WB_CTRL_WB_EN then demandOn s (outObj n) 0 (perFrame16 s n (8 * hAct s n * vAct s n)) else []) ++
    (if isPrompt s n then [skimDemand s n] else demandOn s (outObj n) 0 (perFrame16 s n (16 * hAct s n * vAct s n)))
  else []

/-- The capture demand of a video input (R355). -/
def vinDemand (s : State) (v : Nat) : Nat :=
  perSecond16 (fld s (Reg.VIN_LIMIT0 v) Fld.VIN_LIMIT0_MAX_W * fld s (Reg.VIN_LIMIT0 v) Fld.VIN_LIMIT0_MAX_H *
    bpp2 (fld s (Reg.VIN_CTRL v) Fld.VIN_CTRL_CAPFMT) * fld s (Reg.VIN_LIMIT1 v) Fld.VIN_LIMIT1_MAX_RATE)

/-- The demand of a host audio stream of `c` channels (R66). -/
def streamDemand (c : Nat) : Nat := perSecond16 (2 * c * 4 * 96000)

/-- Apply the shadows of a holder's objects of an output that apply in the display engine: OP, layers and, for Holm, Creamline (R368). -/
def applyDisplay (n : Nat) (h : Holder) (s : State) : State :=
  let b := 0xA00000 + 0x10000 * n
  let mine (o : Nat) : Bool := holderOf s o == some h
  let s1 := if mine (outObj n) then applyShadow b (b + 0x1000) s else s
  let s2 := (List.range 8).foldl (fun (x : State) l => if mine (layerObj n l) then applyShadow (b + 0x1000 + 0x400 * l) (b + 0x1400 + 0x400 * l) x else x) s1
  if h.holm then applyShadow (0xC00000 + 0x1000 * n) (0xC00000 + 0x1000 * n + 0x1000) s2 else s2

/-- The configuration after a commit of a holder (R375). -/
def applyHolder (n : Nat) (h : Holder) (s : State) : State :=
  applyDisplay n h (if holderOf s (outObj n) = some h then applyTiming n s else s)

/-- The configuration after every commit pending on an output. -/
def pendApplied (s : State) (n : Nat) : State := (outSt s n).commits.foldl (fun (x : State) c => applyHolder n c.holder x) s

/-- The sum of some demands on a pool. -/
def demandSum (p : Pool) (l : List Demand) : Nat × Nat := ((l.map (fun d => if d.pool == p then d.shd else 0)).sum, (l.map (fun d => if d.pool == p then d.drb else 0)).sum)

/-- The demands held for an output: those in effect and, from the signing of a commit, its increases (R358). -/
def outHeld (s : State) (n : Nat) : List Demand :=
  let a := outDemands s n
  if (outSt s n).commits.isEmpty then a
  else
    let b := outDemands (pendApplied s n) n
    let ps := (a ++ b).map (fun d => d.pool)
    let qs := ps.foldl (fun (l : List Pool) p => if l.contains p then l else l ++ [p]) []
    qs.map (fun p => ⟨p, max (demandSum p a).1 (demandSum p b).1, max (demandSum p a).2 (demandSum p b).2⟩)

/-- Every standing demand held. -/
def demands (s : State) : List Demand :=
  ((List.range 8).flatMap (outHeld s)) ++
  ((List.range 4).flatMap (fun v => if flg s (Reg.VIN_CTRL v) Fld.VIN_CTRL_ENABLE then demandOn s (obj 0xB v) 0 (vinDemand s v) else [])) ++
  ((List.range 32).flatMap (fun a =>
    if flg s (Reg.AUD_Ss_CFG a) Fld.AUD_Ss_CFG_OPEN then
      demandOn s (obj 6 a) 0 (streamDemand (fld s (Reg.AUD_Ss_CFG a) Fld.AUD_Ss_CFG_CHANNELS)) else [])) ++
  (if flg s (Reg.AUD_Kk_CTRL 10) Fld.AUD_Kk_CTRL_ENABLE && decide (fld s Reg.AUD_WB_BASE_HI Fld.AUD_WB_BASE_HI_BASE_HI < 16) then
    [⟨.reserve, 0, streamDemand (fld s (Reg.AUD_Kk_CTRL 10) Fld.AUD_Kk_CTRL_WB_CH)⟩] else [])

end Sys2Proof.Machine
end

