-- ==== Sys2Proof/Machine/Gcp.lean ====
section
/-!
DEFINITION. Gcp.lean: what every GCP request goes through (chapter 3): its bytes, the checks of Table 3.4, duplicates, replies, rings and the SPI port.
-/

namespace Sys2Proof.Machine

open Sys2Proof

/-! ### Packet bytes (Tables 3.1 and 3.2) -/

/-- The 16 header bytes of a request (Table 3.1). -/
def headerBytes (op : Nat) (p : Packet) : List Byte :=
  [p.verMajor, p.verMinor] ++ le 2 op ++ le 4 p.seq.toNat ++ le 4 p.tag.toNat ++ le 2 p.len.toNat ++ le 2 p.flags.toNat

/-- FLAGS bit 0. -/
def replyWanted (p : Packet) : Bool := p.flags.toNat.testBit 0

/-- FLAGS bit 1. -/
def contractFlag (p : Packet) : Bool := p.flags.toNat.testBit 1

/-- FLAGS bit 2. -/
def macFlag (p : Packet) : Bool := p.flags.toNat.testBit 2

/-- The payload: PAYLOAD_LEN bytes after the header. -/
def payloadOf (p : Packet) : List Byte := slice p.body 0 p.len.toNat

/-- The 8 MAC bytes after the payload. -/
def macOf (p : Packet) : List Byte := slice p.body p.len.toNat 8

/-- Where the trailer stands in the body. -/
def trailerAt (p : Packet) : Nat := p.len.toNat + (if macFlag p then 8 else 0)

/-- The CRC trailer as received (R93). -/
def trailerOf (p : Packet) : Nat := leAt p.body (trailerAt p) 4

/-- The CRC that the packet ought to carry (R93). -/
def crcOf (op : Nat) (p : Packet) : Nat := crc32c (headerBytes op p ++ slice p.body 0 (trailerAt p))

/-- The MAC of a packet under a key (R94): the first 8 bytes of HMAC-SHA-256 over header and payload. -/
def packetMac (pk hdr payload : List Byte) : List Byte := (hmac pk (hdr ++ payload)).take 8

/-! ### Status codes (Table 3.5) -/

/-- Status codes (Table 3.5). -/
inductive Status where
  | done | accepted | unknownOpcode | versionUnsupported | lengthInvalid | crcError | flagsInvalid | reservedSet | paramInvalid | imageInvalid
  | sessionUnknown | authFailed | worldDenied | macRequired | macInvalid | sequenceStale | sequenceReused | sessionExpired | sessionLimit
  | portDenied | labRequired
  | admissionRefused | deadlinePassed | budgetExceeded | costInvalid | horizonExceeded | contractLimit | sectionTooLong | contractClosed
  | reserveInUse | creamBusy
  | resourceHeld | draining | notGranted | poolExhausted | functionBusy | addressFault | functionQuiesced | sensorContact | channelNotReady
  | channelBusy | blockGated
  | commitRefused | shadowLocked
  | internalError | eccUncorrectable | clockLost | flashError | imageRejected | selftestFailed | selftestReference | recoveryUnavailable
  | calibrationFailed
  deriving DecidableEq, Repr

/-- The code of a status (Table 3.5). -/
def Status.code : Status → Nat
  | .done => 0x0000 | .accepted => 0x0001 | .unknownOpcode => 0x0101 | .versionUnsupported => 0x0102 | .lengthInvalid => 0x0103
  | .crcError => 0x0104 | .flagsInvalid => 0x0105 | .reservedSet => 0x0106 | .paramInvalid => 0x0107 | .imageInvalid => 0x0108
  | .sessionUnknown => 0x0201 | .authFailed => 0x0202 | .worldDenied => 0x0203 | .macRequired => 0x0204 | .macInvalid => 0x0205
  | .sequenceStale => 0x0206 | .sequenceReused => 0x0207 | .sessionExpired => 0x0208 | .sessionLimit => 0x0209 | .portDenied => 0x020A
  | .labRequired => 0x020B
  | .admissionRefused => 0x0301 | .deadlinePassed => 0x0302 | .budgetExceeded => 0x0303 | .costInvalid => 0x0304
  | .horizonExceeded => 0x0305 | .contractLimit => 0x0306 | .sectionTooLong => 0x0307 | .contractClosed => 0x0308 | .reserveInUse => 0x0309
  | .creamBusy => 0x030A
  | .resourceHeld => 0x0401 | .draining => 0x0402 | .notGranted => 0x0403 | .poolExhausted => 0x0404 | .functionBusy => 0x0405
  | .addressFault => 0x0406 | .functionQuiesced => 0x0407 | .sensorContact => 0x0408 | .channelNotReady => 0x0409 | .channelBusy => 0x040A
  | .blockGated => 0x040B
  | .commitRefused => 0x0501 | .shadowLocked => 0x0502
  | .internalError => 0x0601 | .eccUncorrectable => 0x0602 | .clockLost => 0x0603 | .flashError => 0x0604 | .imageRejected => 0x0605
  | .selftestFailed => 0x0606 | .selftestReference => 0x0607 | .recoveryUnavailable => 0x0608 | .calibrationFailed => 0x0609

/-- A payload of STATUS only (Table 3.3). -/
def stOnly (c : Status) : List Byte := le 4 c.code

/-- A payload of STATUS and OFFSET (Table 3.3). -/
def stOff (c : Status) (off : Nat) : List Byte := le 4 c.code ++ le 4 off

/-- A DONE payload with reply fields (Table 3.6). -/
def stDone (fields : List Byte) : List Byte := le 4 0 ++ fields

/-- The status word of a reply payload. -/
def statusOf (payload : List Byte) : Nat := leAt payload 0 4

/-! ### Opcodes (Table 3.6) -/

/-- The World column of Table 3.6. -/
inductive OpWorld where
  | any | holm | owner | mgr | lab
  deriving DecidableEq, Repr

/-- How long the payload of an opcode is (Table 3.6): fixed, a pair list, a read list, or data after fixed parameters with their length at an offset. -/
inductive OpLen where
  | fixed (n : Nat)
  | pairs
  | reads
  | data (n lenAt : Nat)
  deriving DecidableEq, Repr

/-- One row of Table 3.6. -/
structure OpInfo where
  code : Nat
  since : Nat × Nat
  world : OpWorld
  kind : Option Kind
  dupE : Bool
  len : OpLen
  spi : Bool
  deriving DecidableEq, Repr

/-- Bytes of the contract and cost blocks of a kind (R58, R59). -/
def blockLen : Kind → Nat
  | .render => 104
  | .compute => 104
  | .cream => 104
  | _ => 48

/-- Does PAYLOAD_LEN fit the opcode's layout (step 11 of Table 3.4, R114)? -/
def lenFits (o : OpInfo) (p : Packet) : Bool :=
  let n := p.len.toNat
  let pl := payloadOf p
  match o.len with
  | .fixed m => n == m + (match o.kind with | some k => blockLen k | none => 0)
  | .pairs => n == 4 + 8 * leAt pl 2 2
  | .reads => n == 4 + 4 * leAt pl 2 2
  | .data m a => n == m + leAt pl a 4

/-! ### Ports -/

/-- Does the port exist: VF windows have no Holm ring (R104)? -/
def portExists : Port → Bool
  | .spi => true
  | .ring fn holm => !(holm && decide (4 ≤ fn.val))

/-- The key of a ring. -/
def ringKey (fn : Nat) (holm : Bool) : Nat := 2 * fn + bit holm

/-- The key of a port in the authentication table. -/
def portKey : Port → Nat
  | .ring fn holm => ringKey fn.val holm
  | .spi => 128

/-- A ring's record. -/
def ringRec (s : State) (fn : Nat) (holm : Bool) : RingRec := tget {} s.gcp.rings (ringKey fn holm)

/-- Change a ring's record. -/
def setRing (fn : Nat) (holm : Bool) (f : RingRec → RingRec) (s : State) : State :=
  { s with gcp := { s.gcp with rings := tmod {} s.gcp.rings (ringKey fn holm) f } }

/-- Change the SPI port. -/
def setSpi (f : SpiRec → SpiRec) (s : State) : State := { s with gcp := { s.gcp with spi := f s.gcp.spi } }

/-- The function a port acts for; the SPI port is no function (R113). -/
def portFn : Port → Nat
  | .ring fn _ => fn.val
  | .spi => 0xFE

/-- The world of a port's ring: a Holm ring is ring 1 of a PF. -/
def portHolm : Port → Bool
  | .ring _ h => h
  | .spi => false

/-- Does the function's state let its rings be fetched (Table 6.5)? -/
def fnFetches (s : State) (fn : Nat) : Bool :=
  match (fnRec s fn).state with
  | .absent => false
  | .resetting => false
  | _ => true

/-- Packets made available and not fetched. -/
def ringWaiting (r : RingRec) : Nat := modDist 128 r.ci r.pi

/-- Does a ring have a packet that could be taken now? -/
def ringOpen (s : State) (fn : Nat) (holm : Bool) : Bool :=
  let r := ringRec s fn holm
  r.enable && r.busy.isNone && decide (r.ci ≠ r.pi) && fnFetches s fn

/-- Order of two packets at the heads of their rings (R70, R107): doorbell stamp, Holm first, lower function number. -/
def headLe (a b : Tick × Bool × Nat) : Bool :=
  decide (a.1 < b.1) || (a.1 == b.1 && ((a.2.1 && !b.2.1) || (a.2.1 == b.2.1 && decide (a.2.2 ≤ b.2.2))))

/-- The order key of a ring's head. -/
def ringHead (s : State) (fn : Nat) (holm : Bool) : Tick × Bool × Nat :=
  (((ringRec s fn holm).stamps.headD 0), holm, fn)

/-- Is a key first among the heads of all rings and the SPI port? -/
def isFirst (s : State) (k : Tick × Bool × Nat) : Bool :=
  (s.gcp.rings.all (fun e =>
    let fn := e.1 / 2
    let h := e.1 % 2 == 1
    !ringOpen s fn h || headLe k (ringHead s fn h))) &&
  (!(s.gcp.spi.busy && s.gcp.spi.long.isNone) || headLe k (s.gcp.spi.heldStamp, false, 0xFE))

/-- Is the packet the next one that the management plane takes (R70, R85, R107)? In ROM recovery the boot ROM serves the SPI port alone (R594). -/
def portReady (op : Nat) (q : Request) (s : State) : Bool :=
  (mgmtUp s || (s.boot.recovery.isSome && q.port == .spi)) &&
  (match q.port with
   | .ring fn holm => ringOpen s fn.val holm && isFirst s (ringHead s fn.val holm)
   | .spi => s.gcp.spi.busy && s.gcp.spi.long.isNone &&
      (headerBytes op q.pkt ++ q.pkt.body) == s.gcp.spi.held && isFirst s (s.gcp.spi.heldStamp, false, 0xFE))

/-- The stamp of the packet about to be taken. -/
def portStamp (s : State) : Port → Tick
  | .ring fn holm => (ringRec s fn.val holm).stamps.headD 0
  | .spi => s.gcp.spi.heldStamp

/-- Take the packet: read the slot and advance CI (R107). -/
def takePacket (p : Port) (s : State) : State :=
  match p with
  | .ring fn holm => setRing fn.val holm (fun r => { r with ci := (r.ci + 1) % 128, stamps := r.stamps.tail }) s
  | .spi => s

/-! ### MSI-X (R196, R109, R194) -/

/-- Send the message of a function's vector, or set its pending bit while it is masked. -/
def sendMsix (fn vec : Nat) (s : State) : State :=
  let k := 64 * fn + vec
  let m := tget {} s.hif.msix k
  if m.masked then { s with hif := { s.hif with msix := tput {} s.hif.msix k { m with pending := true } } }
  else hostWrite (portOf s fn) 4 m.addr (le 4 m.data) s

/-! ### Replies (R96 to R98) -/

/-- The bytes of a reply (R96): the request's header with its own length and flags, the payload, the MAC, the trailer. -/
def replyBytes (op : Nat) (p : Packet) (pk : Option (List Byte)) (replayed : Bool) (payload : List Byte) : List Byte :=
  let fl := p.flags.toNat % 4 + (if pk.isSome then 4 else 0) + (if replayed then 0x4000 else 0) + 0x8000
  let hdr := headerBytes op { p with len := BitVec.ofNat 16 payload.length, flags := BitVec.ofNat 16 fl }
  let mac := match pk with | some k => packetMac k hdr payload | none => []
  let body := hdr ++ payload ++ mac
  body ++ le 4 (crc32c body)

/-- Complete a packet on its port (R107): write the reply, if any, into the slot, advance RI, announce it; on the SPI port set REPLY_READY (R111). -/
def completePort (p : Port) (reply : Option (List Byte)) (s : State) : State :=
  match p with
  | .ring fn holm =>
    let r := ringRec s fn.val holm
    let s := match reply with
      | some bs => hostWrite (portOf s fn.val) bs.length (r.base + 4096 * (r.ri % 64)) bs s
      | none => s
    let s := setRing fn.val holm (fun r => { r with ri := (r.ri + 1) % 128, busy := none }) s
    if r.irqEn then sendMsix fn.val (bit holm) s else s
  | .spi =>
    match reply with
    | some bs => setSpi (fun r => { r with busy := false, held := [], long := none, reply := bs, replyReady := true }) s
    | none => setSpi (fun r => { r with busy := false, held := [], long := none }) s

/-! ### Sessions -/

/-- Does the session carry MACs (R94)? -/
def usesMac (x : Session) : Bool := x.holm || x.options.toNat.testBit 0

/-- The idle limit of a session (Table 4.4). -/
def idleLimit (x : Session) : Nat := if x.holm then 2000000000 else 12000000000

/-- The lifetime limit of a Holm session (Table 4.4). -/
def lifetime : Nat := 5760000000000

/-- The tick at which an open session expires (R132, R134). -/
def expiry (x : Session) : Tick :=
  if x.holm then min (x.r + idleLimit x) (x.tOpen + lifetime) else x.r + idleLimit x

/-- The session a tag names. -/
def sessionOf (s : State) (tag : Word) : Option Session := s.gcp.sessions.find? (fun x => x.tag == tag)

/-- Change the session a tag names. -/
def setSession (tag : Word) (f : Session → Session) (s : State) : State :=
  { s with gcp := { s.gcp with sessions := s.gcp.sessions.map (fun x => if x.tag == tag then f x else x) } }

/-- Free a session's slot: its tag, keys and cache go (R120, R136), and its faults are disarmed (R178). -/
def freeSession (tag : Word) (s : State) : State :=
  let s := disarmSession tag s
  { s with gcp := { s.gcp with sessions := s.gcp.sessions.filter (fun x => !(x.tag == tag)) } }

/-- A session enters EXPIRED (R132, R135, R136): its replay cache is discarded, its tag held, its faults disarmed (R178). -/
def expireSession (tag : Word) (at_ : Tick) (s : State) : State :=
  disarmSession tag (setSession tag (fun x => { x with state := .expired, expiredAt := at_, cache := [] }) s)

/-! ### The checks of Table 3.4 -/

/-- What a handler at steps 12 and 13 sees: the port, the packet, the payload, the parameters after the blocks, the doorbell stamp, the session (none for tag 0). -/
structure Ctx where
  port : Port
  pkt : Packet
  pay : List Byte
  stamp : Tick
  ses : Option Session
  deriving DecidableEq, Repr

/-- The function a request acts for (R114: its session's own). -/
def Ctx.fn (c : Ctx) : Nat := portFn c.port

/-- The world a request acts in (R130): the class of its session. -/
def Ctx.holm (c : Ctx) : Bool := match c.ses with | some x => x.holm | none => false

/-- What a handler answers: a reply payload with the state it leaves, a reply that comes later (R108), or an answer outside the session's sequence (R126). -/
inductive Ans where
  | reply (payload : List Byte) (s : State)
  | later (s : State)
  | outside (payload : List Byte) (s : State)

/-- How the checks of steps 1 to 11 end. -/
inductive Verdict where
  /-- Refused at steps 1 to 7: nothing is consumed; does the reply carry a MAC? -/
  | refuse (c : Status) (mac : Bool)
  /-- The session's window has ended at that tick (R132). -/
  | expire (x : Session) (at_ : Tick)
  /-- A duplicate (R102) with its cached reply. -/
  | dup (x : Session) (payload : List Byte)
  /-- A new request of a session, refused at steps 8 to 11 or not. -/
  | new (x : Session) (refused : Option Status)
  /-- A request with SESSION_TAG 0 (R121). -/
  | free (refused : Option Status)
  deriving DecidableEq, Repr

/-- Steps 1 to 4 of Table 3.4 and the slot bound of R99. -/
def earlyCheck (op : Nat) (p : Packet) : Option Status :=
  if 4096 < 16 + trailerAt p + 4 then some .lengthInvalid
  else if trailerOf p ≠ crcOf op p then some .crcError
  else if p.verMajor.toNat ≠ 2 ∧ p.verMajor.toNat ≠ 3 then some .versionUnsupported
  else if p.flags.toNat / 8 ≠ 0 ∨ (p.tag = 0 ∧ macFlag p) then some .flagsInvalid
  else if p.len.toNat % 4 ≠ 0 ∨ 4072 < p.len.toNat then some .lengthInvalid
  else none

/-- Steps 9 to 11 of Table 3.4. -/
def lateCheck (o : OpInfo) (q : Request) (holm lab : Bool) (ver : Nat × Nat) : Option Status :=
  if ver.1 < o.since.1 ∨ (ver.1 = o.since.1 ∧ ver.2 < o.since.2) then some .unknownOpcode
  else if q.port = .spi ∧ o.spi = false then some .portDenied
  else if o.world = .mgr ∧ (match q.port with | .spi => true | .ring fn _ => decide (4 ≤ fn.val)) = true then some .portDenied
  else if o.world = .holm ∧ holm = false then some .worldDenied
  else if o.world = .lab ∧ lab = false then some .labRequired
  else if o.kind.isSome ≠ contractFlag q.pkt then some .costInvalid
  else if lenFits o q.pkt = false then some .lengthInvalid
  else none

/-- May the opcode be used with SESSION_TAG 0 (Table 3.1)? -/
def tagZeroOp (o : OpInfo) : Bool := o.code == 0x0100 || o.code == 0x0101

/-- The lab standing of a session (R177, R178): it lasts while WATCH_H is set. -/
def labStanding (s : State) (x : Session) : Bool := x.lab && flg s Reg.ISO_DBG Fld.ISO_DBG_WATCH_H

/-- The checks of Table 3.4 in order, up to step 11. -/
def verdict (o : OpInfo) (q : Request) (stamp : Tick) (s : State) : Verdict :=
  let p := q.pkt
  match earlyCheck o.code p with
  | some c => .refuse c false
  | none =>
    if p.tag = 0 then
      (if tagZeroOp o then .free (lateCheck o q false false (4, 0)) else .refuse .sessionUnknown false)
    else
      match sessionOf s p.tag with
      | none => .refuse .sessionUnknown false
      | some x =>
        if x.port ≠ q.port then .refuse .sessionUnknown false
        else if x.state = .pending ∧ o.code ≠ 0x0102 then .refuse .sessionUnknown false
        else if x.state = .pending ∧ x.tOpen + 40000000 ≤ stamp then .refuse .sessionUnknown false
        else if x.state = .expired then .expire x x.expiredAt
        else if x.state = .opened ∧ expiry x ≤ stamp then .expire x (expiry x)
        else if usesMac x ∧ o.code ≠ 0x0102 ∧ macFlag p = false then .refuse .macRequired false
        else if usesMac x ∧ o.code ≠ 0x0102 ∧ packetMac x.pk (headerBytes o.code p) (payloadOf p) ≠ macOf p then .refuse .macInvalid false
        else if (usesMac x = false ∨ o.code = 0x0102) ∧ macFlag p then .refuse .flagsInvalid false
        else
          let mac := usesMac x && o.code != 0x0102
          match x.cache.find? (fun e => e.seq == p.seq) with
          | some e => if e.trailer = trailerOf p then .dup x e.payload else .refuse .sequenceReused mac
          | none =>
            let d := (p.seq - x.h).toNat
            if d = 0 ∨ 2 ^ 31 ≤ d then .refuse .sequenceStale mac
            else if (p.verMajor.toNat, p.verMinor.toNat) ≠ (x.verMajor, x.verMinor) then .new x (some .versionUnsupported)
            else .new x (lateCheck o q x.holm (labStanding s x) (x.verMajor, x.verMinor))

/-- Write the reply of a request and complete its packet (R96, R97). -/
def answer (o : OpInfo) (c : Ctx) (mac replayed : Bool) (payload : List Byte) (s : State) : State :=
  let pk := match c.ses with
    | some x => if mac then some x.pk else none
    | none => none
  let ctr := o.kind.isSome || contractFlag c.pkt
  let wanted := replyWanted c.pkt || ctr || replayed || statusOf payload != 0
  -- R90: a contract packet that is refused counts once
  let s := if ctr && !replayed && statusOf payload != 1 && decide (c.fn < 64) then
      { s with ledger := { s.ledger with acct := tmod {} s.ledger.acct c.fn (fun r => { r with refused := (r.refused + 1) % 2 ^ 32 }) } }
    else s
  completePort c.port (if wanted then some (replyBytes o.code c.pkt pk replayed payload) else none) s

/-- Consume the sequence number and cache the reply (R100, R101): the 64 most recent stay. -/
def cacheReply (c : Ctx) (payload : List Byte) (s : State) : State :=
  setSession c.pkt.tag (fun x =>
    { x with cache := (x.cache ++ [({ seq := c.pkt.seq, trailer := trailerOf c.pkt, payload := payload } : CacheEntry)]).drop (x.cache.length + 1 - 64) }) s

/-- Keep a long request in progress on its port (R108). -/
def holdPort (p : Port) (l : LongOp) (s : State) : State :=
  match p with
  | .ring fn holm => setRing fn.val holm (fun r => { r with busy := some l }) s
  | .spi => setSpi (fun r => { r with long := some l }) s

/-- Does the reply of an opcode carry a MAC in this session (R94, R96)? -/
def replyMac (o : OpInfo) (x : Session) : Bool := usesMac x && o.code != 0x0102

/-- Run the handler of a request that passed its checks, and answer. -/
def serve (o : OpInfo) (c : Ctx) (replayed : Bool) (h : Ctx → State → Ans) (s : State) : State :=
  let mac := match c.ses with | some x => replyMac o x | none => false
  match h c s with
  | .reply pay s => answer o c mac replayed pay (cacheReply c pay s)
  | .later s => holdPort c.port ⟨o.code, c.pkt, c.stamp, s.gtb⟩ s
  | .outside pay s => answer o c false false pay s

/-- A request as the management plane serves it: the checks of Table 3.4, then the opcode's own handler, then the reply (R99 to R102, R107). -/
def serveRequest (o : OpInfo) (q : Request) (h : Ctx → State → Ans) (s : State) : State :=
  let stamp := portStamp s q.port
  let s := takePacket q.port s
  let c : Ctx := ⟨q.port, q.pkt, payloadOf q.pkt, stamp, none⟩
  match verdict o q stamp s with
  | .refuse st mac =>
    answer o { c with ses := sessionOf s q.pkt.tag } mac false (stOnly st) s
  | .expire x at_ =>
    let s := if x.state = .opened then expireSession x.tag at_ s else s
    answer o { c with ses := some x } (replyMac o x) false (stOnly .sessionExpired) s
  | .dup x pay =>
    let s := setSession x.tag (fun y => { y with r := stamp }) s
    if o.dupE then
      (match h { c with ses := some x } s with
       | .reply pay s => answer o { c with ses := some x } (replyMac o x) true pay s
       | .later s => s
       | .outside pay s => answer o { c with ses := some x } false true pay s)
    else answer o { c with ses := some x } (replyMac o x) true pay s
  | .new x (some st) =>
    let s := setSession x.tag (fun y => { y with r := stamp, h := q.pkt.seq }) s
    let c := { c with ses := some x }
    answer o c (replyMac o x) false (stOnly st) (cacheReply c (stOnly st) s)
  | .new x none =>
    if o.code = 0x0102 ∧ x.state = .opened then
      -- R126: a later SESSION_PROVE of an open session consumes nothing
      answer o { c with ses := some x } false false (stOff .paramInvalid 0) s
    else
      let s := setSession x.tag (fun y => { y with r := stamp, h := q.pkt.seq }) s
      serve o { c with ses := some x } false h s
  | .free (some st) => answer o c false false (stOnly st) s
  | .free none =>
    match h c s with
    | .reply pay s => answer o c false false pay s
    | .later s => s
    | .outside pay s => answer o c false false pay s

/-- A request in ROM recovery (R594): IDENTIFY is served; every other packet is answered UNKNOWN_OPCODE. -/
def serveRecovery (o : OpInfo) (q : Request) (h : Ctx → State → Ans) (s : State) : State :=
  if o.code = 0x0100 then serveRequest o q h s
  else answer o ⟨q.port, q.pkt, payloadOf q.pkt, portStamp s q.port, none⟩ false false (stOnly .unknownOpcode) (takePacket q.port s)

/-- The meaning of every GCP row: the request is served when it is the next packet; a packet that is not waits where it is (R70, R85, R107). -/
def gcp (o : OpInfo) (t : Tick) (q : Request) (h : Ctx → State → Ans) (s : State) : Out :=
  if portExists q.port then
    (let s := advance t s
     if portReady o.code q s then .next (if s.boot.recovery.isSome then serveRecovery o q h s else serveRequest o q h s) else .next s)
  else .fault .noSuchWindow

/-- Finish a long request (R108): write its reply with the session it was accepted under, cache it, move the idle window by the time of service (R133). -/
def finishLong (p : Port) (payload : List Byte) (s : State) : State :=
  let l := match p with
    | .ring fn holm => (ringRec s fn.val holm).busy
    | .spi => s.gcp.spi.long
  match l with
  | none => s
  | some l =>
    let ses := sessionOf s l.pkt.tag
    let s := setSession l.pkt.tag (fun x => if x.state = .opened then { x with r := x.r + (s.gtb - l.began) } else x) s
    let c : Ctx := ⟨p, l.pkt, payloadOf l.pkt, l.stamp, ses⟩
    let mac := match ses with | some x => usesMac x | none => false
    let pk := match ses with | some x => if mac then some x.pk else none | none => none
    let s := cacheReply c payload s
    let wanted := replyWanted l.pkt || statusOf payload != 0
    completePort p (if wanted then some (replyBytes l.opcode l.pkt pk false payload) else none) s

end Sys2Proof.Machine
end

