-- ==== Sys2Proof/Machine/Contracts.lean ====
section
/-!
DEFINITION. Contracts.lean: blocks and costs, the admission test (R72), signing, windows, records, breaches and accounting (chapter 2).
-/

namespace Sys2Proof.Machine

open Sys2Proof

/-! ### Blocks (Tables 2.4 and 2.5) -/

/-- The contract block at the start of a payload (Table 2.4). RELEASE and DEADLINE are signed when LOCKED is set. -/
def parseBlock (p : List Byte) : Block :=
  let fl := leAt p 2 2
  let num (o : Nat) : Int := if fl.testBit 1 then signedOf 64 (leAt p o 8) else (leAt p o 8 : Nat)
  { cls := leAt p 0 1, kind := leAt p 1 1, cflags := fl, target := leAt p 4 4, release := num 8, deadline := num 0x10,
    period := leAt p 0x18 4, count := leAt p 0x1C 4, pred := leAt p 0x20 4 }

/-- PERIODIC. -/
def Block.periodic (b : Block) : Bool := b.cflags.testBit 0
/-- LOCKED. -/
def Block.locked (b : Block) : Bool := b.cflags.testBit 1
/-- DEPENDS. -/
def Block.depends (b : Block) : Bool := b.cflags.testBit 2

/-- The cost block after the contract block (Table 2.5, R59). -/
def parseCost (k : Kind) (p : List Byte) : Cost :=
  match k with
  | .render | .compute | .cream =>
    { tiles := leAt p 0x28 4, bins := leAt p 0x2C 4, binsTile := leAt p 0x30 4, verts := leAt p 0x34 4, iVert := leAt p 0x38 2,
      iFrag := leAt p 0x3A 2, frags := leAt p 0x3C 4, fragsTile := leAt p 0x40 4, invocs := leAt p 0x44 4, iComp := leAt p 0x48 2,
      sect := leAt p 0x4C 4, rdBytes := leAt p 0x50 8, wrBytes := leAt p 0x58 8, vatBytes := leAt p 0x60 4 }
  | .dma | .check => { amount := leAt p 0x28 8 }
  | .audio | .haptic => { amount := leAt p 0x28 4 }
  | .commit => {}

/-- Reserved bytes of the blocks are 0 (R58, R59). -/
def reservedOk (k : Kind) (p : List Byte) : Bool :=
  leAt p 0x24 4 == 0 &&
  (match k with
   | .render | .compute | .cream => leAt p 0x4A 2 == 0 && leAt p 0x64 4 == 0
   | .dma | .check => true
   | .audio | .haptic => leAt p 0x2C 4 == 0
   | .commit => leAt p 0x28 8 == 0)

/-- The open contract of a function by its identifier. -/
def contractOf (s : State) (fn id : Nat) : Option Contract := s.ledger.contracts.find? (fun c => c.fn == fn && c.id == id)

/-- Change an open contract. -/
def setContract (fn id : Nat) (f : Contract → Contract) (s : State) : State :=
  { s with ledger := { s.ledger with contracts := s.ledger.contracts.map (fun c => if c.fn == fn && c.id == id then f c else c) } }

/-- Is a block or cost well formed for an opcode of kind `k` (R58, Tables 2.4 and 2.5, R65)? CLASS is judged as R55 gives. -/
def blocksOk (s : State) (fn : Nat) (k : Kind) (b : Block) (c : Cost) (p : List Byte) : Bool :=
  decide (b.cls ≤ 3) && b.kind == k.code && decide (b.cflags < 8) && (!b.locked || b.periodic) &&
  (if b.locked then decide (b.target < 8) else if k = .render ∨ k = .compute then b.target == 0 else true) &&
  decide (b.release < b.deadline) &&
  (if b.periodic && !b.locked then decide (20000 ≤ b.period) else b.period == 0) &&
  (b.periodic || b.count == 1) &&
  (if b.depends then (contractOf s fn b.pred).isSome else b.pred == 0) &&
  (if k = .compute then c.tiles == 0 && c.bins == 0 && c.verts == 0 else true) && reservedOk k p

/-! ### Kinds (Tables 2.3 and 2.9) -/

/-- Preparation time Hₖ (Table 2.3). -/
def prepTime : Kind → Nat
  | .render | .compute => 4000
  | .commit | .cream => 20000
  | .audio => 40000
  | .haptic => 20000
  | .dma | .check => 2000

/-- Smallest effective window (Table 2.9); a braking haptic channel adds its bound at the call. -/
def minWindow : Kind → Nat
  | .render | .compute => 8000
  | .commit | .cream => 0
  | .audio => 2084
  | .haptic => 1000
  | .dma | .check => 4000

/-! ### Costs (R65) -/

/-- C_SHD of a RENDER, COMPUTE or CREAM item. -/
def costShd (c : Cost) : Nat :=
  20000 + 512 * c.tiles + 16 * c.bins + ceilDiv (c.verts * c.iVert + c.frags * c.iFrag + c.invocs * c.iComp) 96

/-- C_TILE. -/
def costTile (c : Cost) : Nat := 512 + 16 * c.binsTile + ceilDiv (c.fragsTile * c.iFrag) 96

/-- C_DRB of a RENDER, COMPUTE or CREAM item. -/
def costDrb (c : Cost) : Nat := c.rdBytes + ceilDiv (5 * c.wrBytes) 4 + 16 * c.bins + 64 * c.tiles

/-- The shader frequency in effect in kHz (R60). -/
def shdKhz (s : State) : Nat := fld s (Reg.CLK_ISLn 2) Fld.CLK_ISLn_FREQ_KHZ

/-! ### Pools (R60 to R64) -/

/-- Resource codes that are rates (Table 2.6). -/
inductive Rate where
  | shd
  | drb
  | vat
  deriving DecidableEq, Repr

/-- The code of a rate resource (Table 2.6). -/
def Rate.code : Rate → Nat
  | .shd => 1
  | .drb => 2
  | .vat => 3

/-- The device's capacity of a resource per tick, times 2 × 10⁵ (so that the shader clock stays exact). -/
def fullCap (s : State) : Rate → Nat
  | .shd => 16 * shdKhz s
  | .drb => 200000 * fld s Reg.DRC_CFG Fld.DRC_CFG_DRB_CAP
  | .vat => 200000 * 1000

/-- A function's share in permille. -/
def shareOf (s : State) (fn : Nat) : Rate → Nat
  | .shd => (fnRec s fn).shd
  | .drb => (fnRec s fn).drb
  | .vat => (fnRec s fn).vat

/-- The shares of all functions. -/
def sharesSum (s : State) (r : Rate) : Nat := ((List.range 64).map (fun f => shareOf s f r)).sum

/-- The compositor reserve in permille; it holds no VAT (R61). -/
def reserveOf (s : State) : Rate → Nat
  | .shd => s.ledger.reserveShd
  | .drb => s.ledger.reserveDrb
  | .vat => 0

/-- A pool's part of a resource in permille; the whey pool is what is left over (R62). -/
def poolPermille (s : State) (p : Pool) (r : Rate) : Nat :=
  match p with
  | .reserve => reserveOf s r
  | .share f => shareOf s f r
  | .whey => 1000 - sharesSum s r - reserveOf s r

/-- A pool's capacity in 16.16, rounded down (R69). -/
def poolCap (s : State) (p : Pool) (r : Rate) : Nat := fullCap s r * poolPermille s p r * 65536 / 200000000

/-- The pool of a contract (R72). -/
def poolOf (cls fn : Nat) : Pool := if cls = 0 then .reserve else if cls = 3 then .whey else .share fn

/-- The density of an open contract on a resource. -/
def Contract.density (c : Contract) : Rate → Nat
  | .shd => c.shd
  | .drb => c.drb
  | .vat => c.vat

/-- What is admitted against a pool: open contracts and standing demands (R72). -/
def poolUsed (s : State) (p : Pool) (r : Rate) : Nat :=
  ((s.ledger.contracts.filter (fun c => poolOf c.blk.cls c.fn == p)).map (fun c => c.density r)).sum +
  ((demands s).map (fun d => if d.pool == p then (match r with | .shd => d.shd | .drb => d.drb | .vat => 0) else 0)).sum

/-- free(pool, r) of R72. -/
def poolFree (s : State) (p : Pool) (r : Rate) : Nat := poolCap s p r - poolUsed s p r

/-! ### Windows (R52, R54) -/

/-- The output that a locked contract counts. -/
def lockOut (b : Block) : Nat := b.target

/-- P of a periodic contract in ticks. -/
def periodTicks (s : State) (b : Block) : Nat := if b.locked then framePeriod s (lockOut b) else b.period

/-- Release and deadline of the present instance of an open contract (R52). -/
def instWindow (s : State) (c : Contract) : Tick × Tick :=
  if c.blk.locked then
    (let l : Int := match c.latches with
       | x :: _ => (x : Nat)
       | [] => ((match latchFrom s (lockOut c.blk) (c.t0 + c.hk) with | some x => x | none => c.predL) : Nat)
     ((l + c.blk.release).toNat, (l + c.blk.deadline).toNat))
  else
    let r := if c.blk.release = 0 then c.s0 else c.blk.release.toNat
    let k := if c.blk.periodic then c.inst * c.blk.period else 0
    (r + k, c.blk.deadline.toNat + k)

/-- Dₚ and the instance that a successor waits for (R54). -/
def predDeadline (s : State) (fn : Nat) (b : Block) : Tick × Nat :=
  if b.depends then
    match contractOf s fn b.pred with
    | some c => ((instWindow s c).2, c.inst)
    | none => (0, 0)
  else (0, 0)

/-! ### The admission test (R72) -/

/-- What an opcode asks admission for: who asks, the blocks, the costs on the rate resources, the longest tile in units of cycles × 2 × 10⁵, the ticks that one object (DMC or CVU) is
occupied with its resource code, the smallest window, whether the object is full (AUS or HAC) or an earlier buffer overlaps (R77), the latch rule (the output, or the cycle at s₀ of R370, and for CREAM the ticks that R398 asks between s₀ and the latch point), what R322 adds to Hₖ, the DEP check, the opcode's parameters. -/
structure AskFor where
  fn : Nat
  holm : Bool
  kind : Kind
  blk : Block
  cost : Cost
  blocksFit : Bool
  shd : Nat := 0
  drb : Nat := 0
  vat : Nat := 0
  tile : Nat := 0
  units : Nat := 0
  objRes : Nat := 0
  objFree : Nat := 65536
  full : Bool := false
  minW : Nat := 0
  latchOut : Option Nat := none
  latchWork : Nat := 0
  latchNow : Bool := false
  prepMore : Nat := 0
  depOk : Bool := true
  params : List Nat := []
  deriving DecidableEq, Repr

/-- How admission ends: signed, or refused with its reply fields (Table 2.7). -/
inductive Admit where
  | signed (c : Contract)
  | refused (st : Status) (res earliest need avail : Nat)
  deriving DecidableEq, Repr

/-- The supply granularity of a class (Table 2.6). -/
def granularity (cls : Nat) (r : Rate) : Nat := if cls = 0 ∧ r ≠ .vat then 600 else 4000

/-- A cost over a usable window in 16.16, rounded up (R69); no window carries a cost: the density is beyond every capacity. -/
def densityOf (cost : Nat) (usable : Int) : Nat :=
  if cost = 0 then 0 else if usable ≤ 0 then 2 ^ 64 else ceilDiv (cost * 65536) usable.toNat

/-- Costs on probation are multiplied by 1.25 (R74). -/
def onProbation (s : State) (fn : Nat) : Bool := (tget {} s.ledger.acct fn).probation

/-- A cost as admission takes it. -/
def probationCost (s : State) (a : AskFor) (c : Nat) : Nat :=
  if onProbation s a.fn ∧ a.blk.cls ≠ 0 then ceilDiv (5 * c) 4 else c

/-- The cost of an item on a resource as admission takes it. -/
def askCost (s : State) (a : AskFor) : Rate → Nat
  | .shd => probationCost s a a.shd
  | .drb => probationCost s a a.drb
  | .vat => a.vat

/-- Hₖ of a request (Table 2.3); items with a DRAM cost wait for the exit from self-refresh as well (R230). -/
def askPrep (s : State) (a : AskFor) : Nat :=
  prepTime a.kind + a.prepMore + (if a.drb ≠ 0 ∧ (flg s Reg.DRC_SR_STAT Fld.DRC_SR_STAT_IN_SR ∨ s.mem.srDraining) then 12000 else 0)

/-- L₀ of a locked contract as predicted at t₀ (R52). -/
def lockStart (s : State) (a : AskFor) : Option Tick :=
  if a.blk.locked then latchFrom s (lockOut a.blk) (s.gtb + askPrep s a) else some 0

/-- The deadline tested (R53). -/
def deadline0 (a : AskFor) (l0 : Tick) : Int := if a.blk.locked then (l0 : Nat) + a.blk.deadline else a.blk.deadline

/-- s₀ (R54). -/
def startOf (s : State) (a : AskFor) (l0 : Tick) : Tick :=
  let r : Int := if a.blk.locked then (l0 : Nat) + a.blk.release else a.blk.release
  max r.toNat (max (s.gtb + askPrep s a) (predDeadline s a.fn a.blk).1)

/-- Wᵤ of R72: W, or min(P, W). -/
def usableW (s : State) (a : AskFor) (w : Int) : Int := if a.blk.periodic then min (periodTicks s a.blk : Nat) w else w

/-- The smallest Wᵤ at which a cost fits a free capacity; none if no window is long enough. -/
def needUsable (cost free g : Nat) : Option Nat := if cost = 0 then some 0 else if free = 0 then none else some (g + ceilDiv (cost * 65536) free)

/-- The smallest Wᵤ at which every rate, span and object check passes. -/
def needW (s : State) (a : AskFor) : Option Nat :=
  let p := poolOf a.blk.cls a.fn
  let one (r : Rate) : Option Nat := needUsable (askCost s a r) (poolFree s p r) (granularity a.blk.cls r)
  let span : Option Nat :=
    if a.tile = 0 then some 0 else if shdKhz s = 0 then none else some (granularity a.blk.cls .shd + ceilDiv (4 * a.tile) (shdKhz s))
  let ob : Option Nat := if a.units = 0 then some 0 else needUsable a.units a.objFree 2000
  [one .shd, one .drb, one .vat, span, ob].foldl
    (fun acc x => match acc, x with | some m, some n => some (max m n) | _, _ => none) (some 0)

/-- The first latch point that the LATCH check may count from `s0` (R72, R370): with its lag. -/
def latchFor (s : State) (a : AskFor) (s0 : Tick) : Option (Tick × Nat) :=
  if a.latchNow then some (s0, 2)
  else match a.latchOut with
    | none => none
    | some n => (latchFrom s n (s0 + a.latchWork)).map (fun p => (p, pixelLag s n))

/-- Does the kind use LATCH? -/
def usesLatch (a : AskFor) : Bool := a.latchNow || a.latchOut.isSome

/-- EARLIEST (Table 2.7, R75): the earliest deadline at which every check passes, rounded up to 1,000 ticks; 0 when none does. Of a LOCKED request it is the absolute deadline of instance 0. DEDUCED. -/
def earliest (s : State) (a : AskFor) (s0 l0 : Tick) : Nat :=
  if a.full ∨ a.depOk = false then 0
  else
    match needW s a with
    | none => 0
    | some n =>
      if a.blk.periodic ∧ periodTicks s a.blk < n then 0
      else
        let base := max (max (s0 + max n a.minW) (s.gtb + 1)) (((if a.blk.locked then (l0 : Nat) + a.blk.release else a.blk.release) : Int).toNat + 1)
        let dl : Option Nat := if usesLatch a then (latchFor s a s0).map (fun x => max base (x.1 + x.2 + 1)) else some base
        match dl with
        | none => 0
        | some d =>
          let d := ceilDiv d 1000 * 1000
          if s.gtb + 2000000000 < d then 0 else d

/-- Open contracts of a function. -/
def openOf (s : State) (fn : Nat) : Nat := (s.ledger.contracts.filter (fun c => c.fn == fn)).length

/-- A fresh CONTRACT_ID counting upward from `n`, skipping 0 and identifiers still open (R75). -/
def freshId (s : State) (fn : Nat) : Nat → Nat → Nat
  | 0, n => n
  | k + 1, n => if n % 2 ^ 32 ≠ 0 ∧ (contractOf s fn (n % 2 ^ 32)).isNone then n % 2 ^ 32 else freshId s fn k (n + 1)

/-- The admission test of R72 at t₀ = GTB. -/
def admitAsk (s : State) (a : AskFor) : Admit :=
  let t0 := s.gtb
  let b := a.blk
  if b.cls = 0 ∧ a.holm = false then .refused .worldDenied 0 0 0 0
  else if a.blocksFit = false then .refused .costInvalid 0 0 0 0
  else
    match lockStart s a with
    | none => .refused .admissionRefused 5 0 0 0
    | some l0 =>
      let d0 := deadline0 a l0
      let s0 := startOf s a l0
      let w : Int := d0 - (s0 : Nat)
      let wu := usableW s a w
      let p := poolOf b.cls a.fn
      let dens (r : Rate) : Nat := densityOf (askCost s a r) (wu - (granularity b.cls r : Nat))
      let bad (r : Rate) : Bool := decide (poolFree s p r < dens r)
      let er := earliest s a s0 l0
      let udens := densityOf a.units (wu - 2000)
      let budget (r : Rate) : Admit := .refused .budgetExceeded r.code er (min (dens r) 0xFFFFFFFF) (min (poolFree s p r) 0xFFFFFFFF)
      if d0 ≤ (t0 : Nat) then .refused .deadlinePassed 0 er 0 0
      else if ((t0 + 2000000000 : Nat) : Int) < d0 then .refused .horizonExceeded 0 er 0 0
      else if 256 ≤ openOf s a.fn ∨ 4096 ≤ s.ledger.contracts.length then .refused .contractLimit 0x0B 0 0 0
      else if 10000 < a.cost.sect then .refused .sectionTooLong 0 0 0 0
      else if w < (a.minW : Nat) then .refused .admissionRefused 0x0C er 0 0
      else if bad .shd then budget .shd
      else if bad .drb then budget .drb
      else if bad .vat then budget .vat
      else if a.tile ≠ 0 ∧ (shdKhz s : Int) * (wu - (granularity b.cls .shd : Nat)) < ((4 * a.tile : Nat) : Int) then .refused .admissionRefused 6 er 0 0
      else if a.depOk = false then .refused .admissionRefused 4 0 0 0
      else if usesLatch a ∧ (match latchFor s a s0 with
          | none => true
          | some (q, lag) => decide (d0 - 1 < ((q + lag : Nat) : Int))) = true then .refused .admissionRefused 5 er 0 0
      else if a.full then .refused .admissionRefused a.objRes 0 0 0
      else if a.units ≠ 0 ∧ a.objFree < udens then .refused .admissionRefused a.objRes er (min udens 0xFFFFFFFF) (min a.objFree 0xFFFFFFFF)
      else
        .signed { id := freshId s a.fn 4100 (tget {} s.ledger.acct a.fn).nextId, fn := a.fn, holm := a.holm, kind := a.kind, blk := b, cost := a.cost,
                  t0 := t0, s0 := s0, hk := askPrep s a, predL := l0, shd := dens .shd, drb := dens .drb, vat := dens .vat, unit := udens,
                  cShd := askCost s a .shd, cDrb := askCost s a .drb, tile := a.tile, units := a.units, khz := shdKhz s, predInst := (predDeadline s a.fn b).2, params := a.params }

/-- The 24-byte reply of Table 2.7 for a refusal. -/
def refusedReply (st : Status) (res er need avail : Nat) : List Byte := le 4 st.code ++ le 4 res ++ le 8 er ++ le 4 need ++ le 4 avail

/-- The 24-byte reply of Table 2.7 for a signed contract, on the state that holds it. -/
def acceptedReply (s : State) (c : Contract) : List Byte :=
  le 4 1 ++ le 4 c.id ++ le 8 c.s0 ++ le 4 c.shd ++ le 4 (min (poolFree s (poolOf c.blk.cls c.fn) .shd) 0xFFFFFFFF)

/-- Enter a signed contract in the ledger. -/
def sign (c : Contract) (s : State) : State :=
  { s with ledger := { s.ledger with
      contracts := s.ledger.contracts ++ [c],
      acct := tmod {} s.ledger.acct c.fn (fun r => { r with nextId := (c.id + 1) % 2 ^ 32 }) } }

/-- Admission with its reply: on success the contract stands in the ledger. -/
def admitReply (a : AskFor) (s : State) : List Byte × State × Option Contract :=
  match admitAsk s a with
  | .refused st res er need avail => (refusedReply st res er need avail, s, none)
  | .signed c =>
    let s := sign c s
    (acceptedReply s c, s, some c)

/-- Does CLK_LOST refuse the request (R539)? -/
def clkLost (s : State) : Bool := flg s Reg.CLK_STAT Fld.CLK_STAT_CLK_LOST

/-! ### Records (R88, Table 2.15) -/

/-- The queue that a contract's records go to: its function's, and of a PF the one of its session's world. -/
def recordQueue (c : Contract) : Nat × Bool := (c.fn, c.holm)

/-- A contract event record (Table 2.15). -/
def contractRecord (ty flags id inst detail stamp deadline : Nat) : List Byte :=
  le 2 ty ++ le 2 flags ++ le 4 id ++ le 4 inst ++ le 4 detail ++ le 8 stamp ++ le 8 deadline

/-- Does no instance follow the present one? -/
def Contract.isLast (c : Contract) : Bool := !c.blk.periodic || (c.blk.count != 0 && decide (c.blk.count ≤ c.inst + 1))

/-- FLAGS of a contract record: OVERRUN, PERIODIC, LAST, LATE_POST. -/
def recordFlags (s : State) (c : Contract) (overran last : Bool) : Nat :=
  bit overran + 2 * bit c.blk.periodic + 4 * bit last + 8 * bit s.gcp.stalled

/-- Has an item used up its declared SHD or DRB (R78)? Shader use is metered in cycles × 200,000 (ticks × kHz). -/
def Contract.overran (c : Contract) : Bool := decide (200000 * c.cShd < c.usedShd) || decide (c.cDrb < c.usedDrb)

/-- Remove a contract. -/
def dropContract (fn id : Nat) (s : State) : State :=
  { s with ledger := { s.ledger with contracts := s.ledger.contracts.filter (fun c => !(c.fn == fn && c.id == id)) } }

/-- The present instance of a contract ends: the next one begins, or the contract closes (R83). -/
def nextInstance (c : Contract) (s : State) : State :=
  if c.isLast then dropContract c.fn c.id s
  else setContract c.fn c.id (fun x =>
    { x with inst := x.inst + 1, phase := .waiting, latches := x.latches.tail, predL := x.predL + periodTicks s x.blk,
             usedShd := 0, usedDrb := 0, depCharged := none, lost := false }) s

/-- Deliver the present instance with a stamp (R50, R88): CONTRACT_DONE. -/
def deliver (c : Contract) (stamp detail : Nat) (s : State) : State :=
  let q := recordQueue c
  let s := post q.1 q.2 (contractRecord 0x0201 (recordFlags s c c.overran c.isLast) c.id c.inst detail stamp (instWindow s c).2) s
  let s := { s with ledger := { s.ledger with acct := tmod {} s.ledger.acct c.fn (fun r => { r with done := (r.done + 1) % 2 ^ 32 }) } }
  nextInstance c s

/-- Breach reasons (Table 2.14, R399, R473). -/
inductive Reason where
  | costOverrun
  | sectionOverrun
  | leaseViolation
  | stripUnderrun
  | signatureMismatch
  | deviceFault
  | clockLost
  | dependency
  | assetMismatch
  | hapticLimit
  deriving DecidableEq, Repr

/-- The code of a breach reason (Table 2.14). -/
def Reason.code : Reason → Nat
  | .costOverrun => 1
  | .sectionOverrun => 2
  | .leaseViolation => 3
  | .stripUnderrun => 4
  | .signatureMismatch => 5
  | .deviceFault => 6
  | .clockLost => 7
  | .dependency => 8
  | .assetMismatch => 9
  | .hapticLimit => 10

/-- DETAIL of a breach record. -/
def breachDetail (r : Reason) (charged : Nat) : Nat := r.code * 2 ^ 24 + charged * 2 ^ 16

/-- A charged breach counts toward probation (R74): the eighth inside 200,000,000 ticks places the function on probation. -/
def chargeAcct (now : Tick) (r : AcctRec) : AcctRec :=
  let bs := (r.breaches ++ [now]).filter (fun x => decide (now < x + 200000000))
  { r with charged := (r.charged + 1) % 65536, breaches := bs, lastBreach := now, probation := r.probation || decide (8 ≤ bs.length) }

/-- Count a breach (R90): in the submitter's record, charged to it or not; a breach charged to another function counts toward that function's probation. -/
def countBreach (submitter charged : Nat) (s : State) : State :=
  let acct := s.ledger.acct
  let acct :=
    if charged = submitter then tmod {} acct submitter (chargeAcct s.gtb)
    else
      let a := tmod {} acct submitter (fun r => { r with notCharged := (r.notCharged + 1) % 65536 })
      if charged = 0xFF then a else tmod {} a charged (fun r => { chargeAcct s.gtb r with charged := r.charged })
  { s with ledger := { s.ledger with acct := acct } }

/-- The PF whose EQ1 takes device breaches (R87). -/
def eventPf (s : State) : Nat := fld s Reg.CRL_EV_CTRL Fld.CRL_EV_CTRL_EVENT_PF

/-- The output that an item is tied to (R87). -/
def tiedOutput (c : Contract) : Option Nat :=
  if c.kind = .commit ∨ c.kind = .cream ∨ c.blk.locked then some (c.blk.target % 8) else none

/-- What a breach charged to the device leaves (R87): a copy to EQ1 of EVENT_PF unless the record itself goes there, a DEVICE_BREACH note, the BREACH flag of the output's evidence. -/
def deviceBreach (q : Nat × Bool) (rec : List Byte) (out : Option Nat) (addr : Nat) (s : State) : State :=
  let pf := eventPf s
  let s := if q = (pf, true) then s else post pf true rec s
  let s := faultNote 0x49 8 addr 0 s
  match out with
  | some n => setOut n (fun o => { o with breachFlag := true }) s
  | none => s

/-- Mark the contracts that wait on this instance with who bears its breach (R80). -/
def markSuccessors (c : Contract) (charged : Nat) (s : State) : State :=
  { s with ledger := { s.ledger with contracts := s.ledger.contracts.map (fun x =>
      if x.fn == c.fn && x.blk.depends && x.blk.pred == c.id && x.predInst == c.inst && x.inst == 0 then { x with depCharged := some charged } else x) } }

/-- Breach the present instance (R87, R88): it ends, though its work may go on and be delivered late without a second record. `stamp` is the delivery stamp of a late or voided delivery, 0 if
it was never delivered. -/
def breach (c : Contract) (r : Reason) (charged stamp : Nat) (s : State) : State :=
  let q := recordQueue c
  let rec_ := contractRecord 0x0202 (recordFlags s c false c.isLast) c.id c.inst (breachDetail r charged) stamp (instWindow s c).2
  let s := post q.1 q.2 rec_ s
  let s := countBreach c.fn charged s
  let s := if charged = 0xFF then deviceBreach q rec_ (tiedOutput c) (c.id + r.code * 2 ^ 32 + c.fn * 2 ^ 40) s else s
  nextInstance c (markSuccessors c charged s)

/-- The open contract of a function whose present instance is `inst`. -/
def openInst (s : State) (fn id inst : Nat) : Option Contract := (contractOf s fn id).filter (fun c => c.inst == inst)

/-- Meter SHD cycles and DRB bytes of an instance (R78). -/
def meter (fn id inst shd drb : Nat) (s : State) : State :=
  setContract fn id (fun c => if c.inst = inst then { c with usedShd := c.usedShd + shd, usedDrb := c.usedDrb + drb } else c) s

/-- The loss interval of CLKIN (R540): from LOSS_START to LOSS_END, or up to now while it lasts; none before the first loss. -/
def lossInterval (s : State) : Option (Tick × Tick) :=
  if fld s Reg.CLK_STAT Fld.CLK_STAT_LOSSES = 0 ∧ s.pwr.lossStart = 0 then none
  else if s.pwr.lossEnd < s.pwr.lossStart then some (s.pwr.lossStart, s.gtb + 1)
  else some (s.pwr.lossStart, s.pwr.lossEnd)

/-- Does the window of the present instance overlap the loss interval (R540)? -/
def lossMeets (s : State) (c : Contract) : Bool :=
  c.lost ||
  (match lossInterval s with
   | none => false
   | some (a, b) => let w := instWindow s c; decide (w.1 < b) && decide (a < w.2))

/-- The present instance is delivered in time with a stamp: CONTRACT_DONE, or a CLOCK_LOST breach that carries the stamp (R540). -/
def settle (c : Contract) (stamp detail : Nat) (s : State) : State :=
  if lossMeets s c then breach c .clockLost 0xFF stamp s else deliver c stamp detail s

/-- Work of an instance reaches its delivery point at a stamp (R50, R88): it settles when it is still open and in time, is breached when it is late and not breached before, and leaves no second
record when its breach has been recorded. A late item that consumed its declared costs is charged to its submitter (R78), a successor of a breached item to whoever bears that breach (R80),
another one to the device. -/
def lateBreach (c : Contract) (stamp : Nat) (s : State) : State :=
  if lossMeets s c then breach c .clockLost 0xFF stamp s
  else match c.depCharged with
    | some p => breach c .dependency p stamp s
    | none => if c.overran then breach c .costOverrun c.fn stamp s else breach c .deviceFault 0xFF stamp s

/-- Work of an instance reaches its delivery point. -/
def finish (fn id inst stamp detail : Nat) (s : State) : State :=
  match openInst s fn id inst with
  | none => s
  | some c => if stamp < (instWindow s c).2 then settle c stamp detail s else lateBreach c stamp s

/-- A breach that concerns no open contract: CONTRACT_ID 0 (Table 2.14), to the queue of the function concerned. -/
def breachNoContract (fn : Nat) (holm : Bool) (r : Reason) (charged : Nat) (out : Option Nat) (deadline : Tick) (s : State) : State :=
  let rec_ := contractRecord 0x0202 (8 * bit s.gcp.stalled) 0 0 (breachDetail r charged) 0 deadline
  let s := post fn holm rec_ s
  let s := countBreach fn charged s
  if charged = 0xFF then deviceBreach (fn, holm) rec_ out (r.code * 2 ^ 32 + fn * 2 ^ 40) s else s

/-- The LEASE_VIOLATION record of an early free (R243): STAMP is the stamp of the unmap, DEADLINE the fence. -/
def violationRecord (s : State) (fn : Nat) (tu fence : Tick) : List Byte :=
  contractRecord 0x0202 (8 * bit s.gcp.stalled) 0 0 (breachDetail .leaseViolation fn) tu fence

/-- The signed item of a contract, where it waits for its begin, is withdrawn: a pending commit that no latch point has taken, an audio buffer, an effect, a set, a check job. -/
def forgetItem (c : Contract) (s : State) : State :=
  let me (fn id : Nat) : Bool := fn == c.fn && id == c.id
  let n := c.blk.target
  match c.kind with
  | .commit => setOut n (fun o => { o with commits := o.commits.filter (fun p => !(me p.fn p.id) || p.taken) }) s
  | .audio =>
    let f (r : StreamRec) : StreamRec := { r with bufs := r.bufs.filter (fun b => !(me b.fn b.id) || b.begun) }
    let s := { s with aud := { s.aud with streams := tmod {} s.aud.streams n f } }
    wrF (Reg.AUD_Ss_STAT n) Fld.AUD_Ss_STAT_QUEUED (tget {} s.aud.streams n).bufs.length s
  | .haptic =>
    let f (r : HapRec) : HapRec := { r with queue := r.queue.filter (fun e => !(me e.fn e.id)) }
    { s with sense := { s.sense with haps := tmod {} s.sense.haps n f } }
  | .dma =>
    let mine (x : DmaSet) : Bool := x.owner == some (c.fn, c.id)
    let f (r : DmaRec) : DmaRec := { r with queue := r.queue.filter (fun x => !mine x), shadow := r.shadow.filter (fun x => !mine x) }
    let s := { s with mv := { s.mv with dma := tmod {} s.mv.dma n f } }
    wrB (Reg.DMA_Cn_STAT n) Fld.DMA_Cn_STAT_SHADOW_FULL (tget {} s.mv.dma n).shadow.isSome s
  | .check =>
    let f (r : CvRec) : CvRec := { r with jobs := r.jobs.filter (fun j => !(me j.fn j.id)) }
    { s with mv := { s.mv with cv := tmod {} s.mv.cv n f } }
  | .render => s
  | .compute => s
  | .cream => s

/-- The CONTRACT_CANCELLED record of a contract, to a queue (R81, R82), and its removal with what of it still waits. -/
def cancelTo (q : Nat × Bool) (c : Contract) (stamp : Tick) (s : State) : State :=
  let s := post q.1 q.2 (contractRecord 0x0203 (2 * bit c.blk.periodic + 4 + 8 * bit s.gcp.stalled) c.id c.inst 0 stamp (instWindow s c).2) s
  dropContract c.fn c.id (forgetItem c s)

/-- Cancel a contract and, with it, the successors of its present instance (R80): `n` bounds the chain. -/
def cancelChain : Nat → (Nat × Bool) → Contract → Tick → State → State
  | 0, q, c, t, s => cancelTo q c t s
  | n + 1, q, c, t, s =>
    let succ := s.ledger.contracts.filter (fun x => x.fn == c.fn && x.blk.depends && x.blk.pred == c.id && x.inst == 0 && x.phase == .waiting && decide (c.inst ≤ x.predInst))
    succ.foldl (fun s x => cancelChain n (recordQueue x) x t s) (cancelTo q c t s)

/-- Cancel a contract, its records to its own queue. -/
def cancelContract (c : Contract) (stamp : Tick) (s : State) : State := cancelChain 16 (recordQueue c) c stamp s

/-- Open contracts of a kind on a target, in order of signing. -/
def contractsOn (s : State) (k : Kind) (target : Nat) : List Contract :=
  s.ledger.contracts.filter (fun c => c.kind == k && c.blk.target == target)

/-! ### Asking -/

/-- What every contract opcode asks: the blocks of its payload, its class of session and function. -/
def baseAsk (c : Ctx) (k : Kind) (s : State) : AskFor :=
  let b := parseBlock c.pay
  let z := parseCost k c.pay
  { fn := c.fn, holm := c.holm, kind := k, blk := b, cost := z, blocksFit := blocksOk s c.fn k b z c.pay, minW := minWindow k }

/-- The shader costs of RENDER, COMPUTE and CREAM (R65): the longest tile, or for COMPUTE the declared section, in cycles × 2 × 10⁵. -/
def shaderAsk (s : State) (a : AskFor) : AskFor :=
  { a with shd := costShd a.cost, drb := costDrb a.cost, vat := a.cost.vatBytes,
           tile := if a.kind = .compute then shdKhz s * a.cost.sect else 200000 * costTile a.cost }

/-- Gates that an item of a kind needs (R551); CREAM adds those of its source. -/
def gatesNeeded (k : Kind) (target : Nat) : List Nat :=
  match k with
  | .render | .compute => [2]
  | .cream => [3]
  | .commit => [3, 0x28 + target]
  | .audio => [6]
  | .haptic => [7, 0x58 + target]
  | .check => [0x21 + target]
  | .dma => []

/-- What precedes the admission test at step 13: CLOCK_LOST (R539), FUNCTION_QUIESCED (R203), BLOCK_GATED (R551). -/
def contractGuard (s : State) (fn : Nat) (gates : List Nat) : Option Status :=
  if clkLost s then some .clockLost
  else if (match (fnRec s fn).state with | .quiescing | .quiesced | .saving => true | _ => false) then some .functionQuiesced
  else if gates.all (gateOn s) then none else some .blockGated

/-- Does a function refuse new work (R203)? -/
def fnQuiet (s : State) (fn : Nat) : Bool :=
  match (fnRec s fn).state with
  | .quiescing | .quiesced | .saving => true
  | _ => false

/-- Where the parameters of an opcode start (R115): after the blocks when it takes a contract. -/
def parAt (o : OpInfo) : Nat := match o.kind with | some k => blockLen k | none => 0

end Sys2Proof.Machine
end

