-- ==== Sys2Proof/Machine/RegCore.lean ====
section
/-!
DEFINITION. RegCore.lean: how a register access finds its register (R190, R191), the accesses without effect (Table 20.2), plain fields (R12), shadow locks (R372), snapshot groups (R34).
-/

namespace Sys2Proof.Machine

open Sys2Proof

/-! ### Windows (R190, R191) -/

/-- The model's own offset for VF_ID (Table 6.10), which no PF window holds. -/
def vfIdOff : Nat := 0x3FFFFFC

/-- Layers granted to a function, by ascending object identifier (R191). -/
def layersOf (s : State) (fn : Nat) : List Nat := (List.range 72).filter (fun i => i % 9 != 8 && ownedBy s (obj 2 i) false fn)

/-- Host streams granted to a function, rising. -/
def streamsOf (s : State) (fn : Nat) : List Nat := grantedOf s 6 32 fn

/-- The window offset of layer object `i`'s register set. -/
def layerBase (i : Nat) : Nat := 0xA01000 + 0x10000 * (i / 9) + 0x400 * (i % 9)

/-- The PF-window offset that an offset of a window names; none where the window lists nothing there (R190). -/
def windowOff (s : State) (fn off : Nat) : Option Nat :=
  if fn < 4 then some off
  else if off = 0 then some vfIdOff
  else if 0x10 ≤ off ∧ off < 0x1C then some (0x1230000 + off)
  else if off = 0x30 then some Reg.REG_PAIR_STAT
  else if (0x100 ≤ off ∧ off < 0x118) ∨ (0x200 ≤ off ∧ off < 0x218) ∨ (0x800 ≤ off ∧ off < 0x814) ∨ (0x820 ≤ off ∧ off < 0x82C) then some off
  else if 0x1000 ≤ off ∧ off < 0x1400 then some (off + 0x1000)
  else if 0x1800 ≤ off ∧ off < 0x1808 then some (off + 0x1000)
  else if 0x4000 ≤ off ∧ off < 0x8000 then
    ((layersOf s fn)[(off - 0x4000) / 0x400]?).map (fun i => layerBase i + off % 0x400)
  else if 0x8000 ≤ off ∧ off < 0x9000 then
    ((streamsOf s fn)[(off - 0x8000) / 0x200]?).map (fun i => 0xF01000 + 0x200 * i + off % 0x200)
  else none

/-- Is a window reachable: a present PF, or a VF backed on its port, placed within NumVFs with VF Enable set (R186, R188)? -/
def windowOpen (s : State) (fn : Nat) : Bool :=
  (fnRec s fn).state != .absent &&
  (decide (fn < 4) || (let p := portOf s fn
    tget false s.hif.vfEnable p && decide (fn - 4 + 1 ≤ tget 0 s.hif.numVfs p)))

/-- Offsets of the MSI-X table and pending bits, as a PF window holds them (R196, Table 6.2). -/
def isMsix (off : Nat) : Bool := (decide (0x2000 ≤ off) && decide (off < 0x2400)) || (decide (0x2800 ≤ off) && decide (off < 0x2808))

/-- The owner of an offset as an access meets it: MSI-X entries of vectors 1 and 3 of a PF are Holm-owned (R198), the others are reached from either world; the HIF registers held per requester
and HIF_FN_INFO are reached from either world (R199, Table 6.20). DEDUCED. -/
def accessOwner (fn off : Nat) : Own :=
  if isMsix off then (if fn < 4 ∧ (off / 16 = 0x201 ∨ off / 16 = 0x203) then .holm else .both)
  else if off = vfIdOff then .mainland
  else if 0x200010 ≤ off ∧ off < 0x200028 then .both
  else ownerAt off

/-- Is the register listed (R567)? The MSI-X table of a PF ends with its 32 vectors (R196). -/
def listed (fn off : Nat) : Bool := off == vfIdOff || (isMsix off && !(decide (fn < 4) && decide (0x2200 ≤ off) && decide (off < 0x2400))) || (regAt off).isSome

/-- The cases of Table 20.2, in its order. -/
inductive Miss where
  | cross
  | grant (o : Nat)
  | gated
  | unmapped
  | partialWrite
  deriving DecidableEq, Repr

/-- Does the offset belong to the other world (R15, R148)? -/
def crosses (s : State) (rq : Requester) (off : Nat) (write : Bool) : Bool :=
  match accessOwner rq.fn.val off with
  | .holm => rq.world != .holm
  | .mainland => rq.world != .mainland
  | .both => false
  | .bothRead => write && rq.world != .holm
  | .obj o => holmOwned s o != (rq.world == .holm)

/-- The object of an offset that is granted to no function on the requester's port (R152). -/
def grantMiss (s : State) (rq : Requester) (off : Nat) : Option Nat :=
  match accessOwner rq.fn.val off with
  | .obj o =>
    if rq.world = .holm then none
    else match granteeOf s o with
      | none => some o
      | some g => if g = rq.fn.val ∨ portOf s g = rq.fn.val then none else some o
  | _ => none

/-- The first case of Table 20.2 that an access meets. -/
def miss (s : State) (rq : Requester) (off : Nat) (write full : Bool) : Option Miss :=
  if crosses s rq off write then some .cross
  else match grantMiss s rq off with
    | some o => some (.grant o)
    | none =>
      if gateOn s (gateAt off) = false then some .gated
      else if listed rq.fn.val off = false then some .unmapped
      else if write && !full then some .partialWrite
      else none

/-- Count in REG_ERR (Table 20.10). -/
def bumpErr (b : Bits) (s : State) : State := wrF Reg.REG_ERR b ((fld s Reg.REG_ERR b + 1) % 65536) s

/-- The log identity of a requester (Table 5.6). -/
def logReq (rq : Requester) : Nat := rq.fn.val

/-- The object that a register entry of the log names. -/
def logObj (off : Nat) : Nat := match ownerAt off with | .obj o => o | _ => 0xFFFF

/-- What an access without effect leaves (Table 20.2). -/
def noteMiss (rq : Requester) (off : Nat) (write : Bool) (m : Miss) (s : State) : State :=
  let fl := bit write + 2 * bit (rq.world == .holm)
  match m with
  | .cross => isoLog 0x01 (logReq rq) 0 fl off (logObj off) 0 s
  | .grant o => isoLog 0x09 (logReq rq) 0 fl off o 0x0403 s
  | .gated => s
  | .unmapped => bumpErr Fld.REG_ERR_UNMAPPED s
  | .partialWrite => bumpErr Fld.REG_ERR_PARTIAL s

/-! ### Shadow locks (R14, R372) -/

/-- The output of an offset with shadows, and whether its shadows apply in the pixel island (TG, LNK) or in the display engine. -/
def shadowHome (off : Nat) : Option (Nat × Bool) :=
  if 0xA00000 ≤ off ∧ off < 0xA80000 then some ((off - 0xA00000) / 0x10000, false)
  else if 0xB00000 ≤ off ∧ off < 0xB08000 then some ((off - 0xB00000) / 0x1000, true)
  else if 0xC00000 ≤ off ∧ off < 0xC08000 then some ((off - 0xC00000) / 0x1000, false)
  else if 0xD00000 ≤ off ∧ off < 0xD00800 then some ((off - 0xD00000) / 0x100, true)
  else none

/-- The holder whose commits apply the shadows at an offset. -/
def shadowHolder (s : State) (off : Nat) : Option Holder :=
  match ownerAt off with
  | .holm => some ⟨true, 0⟩
  | .obj o => holderOf s o
  | _ => none

/-- Is a write to the SH register or table at an offset refused by a pending commit of its holder (R372)? -/
def shadowLocked (s : State) (off : Nat) : Bool :=
  match shadowHome off with
  | none => false
  | some (n, pix) =>
    isShOff off && (outSt s n).commits.any (fun c => some c.holder == shadowHolder s off && !(pix && c.taken))

/-! ### Plain fields (R12) -/

/-- A write by the access codes alone: RW, RWS, CH and PW bits take the value, W1C bits clear, SH bits go to the shadow, RO and WO bits stay. -/
def plainWrite (off : Nat) (w : Word) (s : State) : State :=
  match regAt off with
  | none => s
  | some d =>
    let mRw := BitVec.ofNat 32 (d.mask (fun a => a == .rw || a == .rws || a == .ch || a == .pw))
    let mW1 := BitVec.ofNat 32 (d.mask (fun a => a == .w1c))
    let mSh := BitVec.ofNat 32 (d.mask (fun a => a == .sh))
    let old := rd s off
    let s := wr off (((old &&& ~~~mRw) ||| (w &&& mRw)) &&& ~~~(w &&& mW1)) s
    if mSh = 0 then s else wrSh off ((rdSh s off &&& ~~~mSh) ||| (w &&& mSh)) s

/-- A per-requester word by its access codes. -/
def plainWriteReq (rq : Requester) (off : Nat) (w : Word) (s : State) : State :=
  match regAt off with
  | none => s
  | some d =>
    let mRw := BitVec.ofNat 32 (d.mask (fun a => a == .rw))
    let mW1 := BitVec.ofNat 32 (d.mask (fun a => a == .w1c))
    wrReq rq off (((rdReq s rq off &&& ~~~mRw) ||| (w &&& mRw)) &&& ~~~(w &&& mW1)) s

/-! ### Snapshot groups (R34 to R38) -/

/-- The members of the snapshot group whose control register stands at an offset. -/
def snapMembers (off : Nat) : List Nat :=
  if off = Reg.MGT_CTR_CTRL then [Reg.MGT_CTR_OPEN, Reg.MGT_CTR_DONE, Reg.MGT_CTR_BREACH, Reg.MGT_CTR_REFUSED]
  else if off = Reg.MGT_SES_CTRL then [Reg.MGT_SES_COUNT, Reg.MGT_SES_AUTH]
  else if off = Reg.REG_GTB_CTRL then [Reg.REG_GTB_LO, Reg.REG_GTB_HI]
  else if off = Reg.VAT_ECC_CTRL then [Reg.VAT_ECC_CNT, Reg.VAT_ECC_LAST]
  else if off = Reg.GPX_CNT_CTRL then [Reg.GPX_CNT_JOBS, Reg.GPX_CNT_TILES, Reg.GPX_CNT_HSR, Reg.GPX_CNT_FAULTS]
  else if off = Reg.GPX_PRE_CTRL then [Reg.GPX_PRE_COMP, Reg.GPX_PRE_SWAP, Reg.GPX_PRE_WORST, Reg.GPX_SKIM_CNT]
  else if off = Reg.TRV_ST_CTRL then [Reg.TRV_ST_RASTER, Reg.TRV_ST_TRAV, Reg.TRV_ST_REF]
  else if 0xB00000 ≤ off ∧ off < 0xB08000 ∧ off % 0x1000 = 0x50 then (List.range 7).map (fun i => off + 4 + 4 * i)
  else if 0xB80000 ≤ off ∧ off < 0xB84000 ∧ off % 0x1000 = 0x40 then (List.range 3).map (fun i => off + 4 + 4 * i)
  else if 0xC00000 ≤ off ∧ off < 0xC08000 ∧ off % 0x1000 = 0x300 then (List.range 5).map (fun i => off + 4 + 4 * i)
  else if 0xE01000 ≤ off ∧ off < 0xE03000 ∧ off % 0x400 = 0x40 then (List.range 3).map (fun i => off + 4 + 4 * i)
  else if 0xE81000 ≤ off ∧ off < 0xE83000 ∧ off % 0x200 = 0x30 then (List.range 3).map (fun i => off + 4 + 4 * i)
  else if off = Reg.AUD_FRM_CTRL then [Reg.AUD_FRM_ORIGIN_LO, Reg.AUD_FRM_ORIGIN_HI, Reg.AUD_FRM_INDEX]
  else if 0xF01000 ≤ off ∧ off < 0xF05000 ∧ off % 0x200 = 0x40 then [off + 4, off + 8]
  else if off = Reg.AUD_WB_SNAP_CTRL then [Reg.AUD_WB_WPTR, Reg.AUD_WB_INDEX]
  else if 0x1000000 ≤ off ∧ off < 0x1008000 ∧ off % 0x100 = 0x20 then [off + 4, off + 8]
  else if 0x1100000 ≤ off ∧ off < 0x1100400 ∧ off % 0x100 = 0x14 then [off + 4, off + 8] ++ (List.range 8).map (fun i => off + 0xC + 4 * i)
  else if off = Reg.CLK_SNAP_CTRL then [Reg.CLK_LOSS_START_LO, Reg.CLK_LOSS_START_HI, Reg.CLK_LOSS_END_LO, Reg.CLK_LOSS_END_HI]
  else if off = Reg.REG_CRC_SNAP_CTRL then [Reg.REG_CRC_HOLM_REF, Reg.REG_CRC_COMMITTED, Reg.REG_CRC_PASSES]
  else []

/-- Is the offset the control register of a snapshot group? -/
def isSnapCtrl (off : Nat) : Bool := !(snapMembers off).isEmpty

/-- Is the offset a holding register? Its group's control register stands at most 44 bytes below it. -/
def isHolding (off : Nat) : Bool := (List.range 12).any (fun i => (snapMembers (off - 4 * i)).contains off)

/-- Registers held per requester (R35): snapshot groups, picks and selects, churn and pair status. -/
def perRequester (off : Nat) : Bool :=
  isSnapCtrl off || isHolding off ||
  [Reg.HIF_FN_PICK_LO, Reg.HIF_FN_PICK_HI, Reg.HIF_FN_PICK_SENSOR, Reg.HIF_FN_SEL, Reg.PWR_GSEL, Reg.LNK_STRAIT_SEL,
   Reg.REG_CHURN_CTRL, Reg.REG_CHURN_STAT, Reg.REG_CHURN_CNT, Reg.REG_PAIR_STAT].contains off

/-! ### Paired writes (Table 20.6) -/

/-- The value register of a complement offset. -/
def pairValueOf (off : Nat) : Option Nat :=
  if off = Reg.ISO_OWN_DATA_N then some Reg.ISO_OWN_DATA
  else if off = Reg.TRV_CTRL_N then some Reg.TRV_CTRL
  else if 0xC00000 ≤ off ∧ off < 0xC08000 ∧ off % 0x1000 = 0x14 then some (off - 4)
  else if off = Reg.RST_REQ_N then some Reg.RST_REQ
  else if off = Reg.RST_BLK_N then some Reg.RST_BLK
  else if off = Reg.RST_WD_SVC_N then some Reg.RST_WD_SVC
  else if off = Reg.REG_CRC_COMMIT_N then some Reg.REG_CRC_COMMIT
  else if off = Reg.REG_CRC_RESYNC_N then some Reg.REG_CRC_RESYNC
  else none

/-- Is the offset a paired-write register? -/
def isPairValue (off : Nat) : Bool := (pairValueOf (off + 4)).isSome

/-- The latch of a requester. -/
def pairRec (s : State) (rq : Requester) : PairRec := tget {} s.rg.latches (reqNo rq)

/-- Set a latch and REG_PAIR_STAT.ARMED (R578). -/
def setPair (rq : Requester) (p : PairRec) (s : State) : State :=
  let s := { s with rg := { s.rg with latches := tput {} s.rg.latches (reqNo rq) p } }
  wrReq rq Reg.REG_PAIR_STAT (setB (rdReq s rq Reg.REG_PAIR_STAT) Fld.REG_PAIR_STAT_ARMED p.armed.isSome) s

/-- Does a complement complete the pair (R577)? The value that then takes effect. -/
def pairMatch (p : PairRec) (off : Nat) (w : Word) (now : Tick) : Option Word :=
  match p.armed with
  | some (o, v, t) => if some o = pairValueOf off ∧ w = ~~~v ∧ now < t + 2000 then some v else none
  | none => none

/-- A complement that completes nothing sets LATE or MISMATCH and counts in FAILS (R578). -/
def pairFail (rq : Requester) (off : Nat) (s : State) : State :=
  let p := pairRec s rq
  let late : Bool := match p.armed, p.lapsed with
    | some (o, _, t), _ => some o == pairValueOf off && decide (t + 2000 ≤ s.gtb)
    | none, some o => some o == pairValueOf off
    | none, none => false
  let w := rdReq s rq Reg.REG_PAIR_STAT
  let w := setF w Fld.REG_PAIR_STAT_FAILS (getF w Fld.REG_PAIR_STAT_FAILS + 1)
  let w := if late then setB w Fld.REG_PAIR_STAT_LATE true else setB w Fld.REG_PAIR_STAT_MISMATCH true
  setPair rq {} (wrReq rq Reg.REG_PAIR_STAT w s)

end Sys2Proof.Machine
end

