-- ==== Sys2Proof/Machine/PowerCore.lean ====
section
/-!
DEFINITION. PowerCore.lean: POWER_EVENT records, the wake queue, wakes and drains (chapter 19).
-/

namespace Sys2Proof.Machine

open Sys2Proof

/-! ### Records (Table 19.6) -/

/-- A POWER_EVENT record. -/
def powerRecord (s : State) (flags gate cause detail loss : Nat) : List Byte :=
  le 2 0x0B01 ++ le 2 flags ++ le 2 gate ++ le 1 cause ++ le 1 detail ++ le 8 s.gtb ++ le 8 loss ++ le 8 0

/-- The PF whose EQ1 takes the other power records (R556). -/
def pwrPf (s : State) : Nat := fld s Reg.PWR_CTRL Fld.PWR_CTRL_EVENT_PF

/-- Post a power record to EQ1 of EVENT_PF. -/
def postPower (flags gate cause detail loss : Nat) (s : State) : State :=
  post (pwrPf s) true (powerRecord s flags gate cause detail loss) s

/-- Post a power record to who asked (R556). -/
def postAsker (gate cause : Nat) (s : State) (a : Asker) : State :=
  match a with
  | .fn f h => post f h (powerRecord s 0 gate cause 0 0) s
  | .holmUse => postPower 0 gate cause 0 0 s

/-! ### Islands (Tables 19.1 and 19.10) -/

/-- PWR_STAT.STATE: 0 RUN, 1 STANDBY, 2 ENTERING, 3 LEAVING. -/
def pwrMode (s : State) : Nat := fld s Reg.PWR_STAT Fld.PWR_STAT_STATE

/-- Set PWR_STAT.STATE. -/
def setPwrMode (m : Nat) (s : State) : State := wrF Reg.PWR_STAT Fld.PWR_STAT_STATE m s

/-- DRAM data rate in kHz by DRC_CFG.RATE (Table 7.5), one eighth of which is the island's clock. -/
def dramKhz (s : State) : Nat :=
  match fld s Reg.DRC_CFG Fld.DRC_CFG_RATE with
  | 0 => 6400000 / 8
  | 1 => 7500000 / 8
  | 2 => 8533000 / 8
  | _ => 0

/-- The locked frequency of an island in kHz (Table 19.1). -/
def islandKhz (s : State) (n : Nat) : Nat :=
  match n with
  | 0 => 25000
  | 1 => 1000000
  | 2 => s.pwr.shdKhz
  | 3 => 800000
  | 4 => dramKhz s
  | 5 => 500000
  | 6 => 98304
  | 7 => 50000
  | _ => if n < 16 then pclk s (n - 8) / 1000 else 0

/-- CLK_ISLn of a stopped island. -/
def islandStop (n : Nat) (s : State) : State := wr (Reg.CLK_ISLn n) 0 s

/-- An island's loop is started: it has a source and no lock yet. -/
def islandStart (n : Nat) (s : State) : State :=
  wr (Reg.CLK_ISLn n) (BitVec.ofNat 32 (packF Fld.CLK_ISLn_SRC 2 + packF Fld.CLK_ISLn_FREQ_KHZ (islandKhz s n))) s

/-- An island's loop has locked and delivered 64 cycles (R535): LOCKED and GOOD. -/
def islandGood (n : Nat) (s : State) : State :=
  let w := rd s (Reg.CLK_ISLn n)
  wr (Reg.CLK_ISLn n) (setB (setB w Fld.CLK_ISLn_LOCKED true) Fld.CLK_ISLn_GOOD true) s

/-- Clock-good of an island. -/
def isGood (s : State) (n : Nat) : Bool := flg s (Reg.CLK_ISLn n) Fld.CLK_ISLn_GOOD

/-- CLK_STAT.CLKIN_OK. -/
def clkinOk (s : State) : Bool := flg s Reg.CLK_STAT Fld.CLK_STAT_CLKIN_OK

/-- Is a gate an island's own (Table 19.4: the island codes are gate numbers)? -/
def isIsland (g : Nat) : Bool := decide (g < 0x10)

/-- The release of a reset (R558, R560): CLKIN is good, the time loop runs the always-on island, the core and fabric island runs on CLKIN bypass at 25 MHz. -/
def releaseReset (s : State) : State :=
  let w := packF Fld.CLK_ISLn_SRC 1 + packF Fld.CLK_ISLn_FREQ_KHZ 25000
  let on (b : Bool) : Word := setB (setB (BitVec.ofNat 32 w) Fld.CLK_ISLn_GOOD true) Fld.CLK_ISLn_LOCKED b
  let s := wrB Reg.CLK_STAT Fld.CLK_STAT_CLKIN_OK true (wr (Reg.CLK_ISLn 0) (on true) (wr (Reg.CLK_ISLn 1) (on false) s))
  { s with pwr := { s.pwr with inReset := false, thermalHold := false } }

/-! ### The wake queue (R553, R554) -/

/-- Order of two entries: Holm first, then the stamp, then the gate number. -/
def wakeBefore (a b : WakeEntry) : Bool :=
  (a.holm && !b.holm) || (a.holm == b.holm && (decide (a.stamp < b.stamp) || (a.stamp == b.stamp && decide (a.gate < b.gate))))

/-- Insert an entry in order. -/
def wakeInsert (e : WakeEntry) : List WakeEntry → List WakeEntry
  | [] => [e]
  | x :: xs => if wakeBefore e x then e :: x :: xs else x :: wakeInsert e xs

/-- Put a gate into the queue; an entry already there keeps its stamp, and moves to the Holm part when a Holm entry needs it. -/
def wakeEnter (g : Nat) (holm : Bool) (stamp : Tick) (q : List WakeEntry) : List WakeEntry :=
  match q.find? (fun e => e.gate == g) with
  | none => wakeInsert ⟨g, holm, stamp⟩ q
  | some e => if holm && !e.holm then wakeInsert { e with holm := true } (q.filter (fun x => x.gate != g)) else q

/-- Inrush units in use: the costs of the gates WAKING. -/
def inrushUsed (s : State) : Nat := (s.pwr.gates.map (fun e => if e.2.state = .waking then gateCost e.1 else 0)).sum

/-- Place a gate that is OFF in the queue. -/
def queueGate (g : Nat) (holm : Bool) (stamp : Tick) (who : List Asker) (s : State) : State :=
  let s := setGate g (fun r => { r with state := .wakeQueued, wakeFor := r.wakeFor ++ who, pendingGate := false }) s
  { s with pwr := { s.pwr with queue := wakeEnter g holm stamp s.pwr.queue } }

/-- An ancestor that is OFF or WAKE_QUEUED enters the queue; one that is DRAINING keeps an enable for the end of its drain (R549, R550). -/
def queueAncestor (holm : Bool) (stamp : Tick) (s : State) (g : Nat) : State :=
  match gateState s g with
  | .off => queueGate g holm stamp [] s
  | .wakeQueued => if gateKind g = some .clock then s else { s with pwr := { s.pwr with queue := wakeEnter g holm stamp s.pwr.queue } }
  | .draining => setGate g (fun r => { r with queued := r.queued.orElse (fun _ => some (stamp, holm, [])) }) s
  | _ => s

/-- A clock gate turns ON. -/
def clockOn (g : Nat) (s : State) : State :=
  let r := gateRec s g
  let s := setGate g (fun r => { r with state := .on, wakeFor := [], retained := false }) s
  r.wakeFor.foldl (postAsker g 1) s

/-- The wake of an OFF gate (R549). -/
def wakeOff (g : Nat) (holm : Bool) (stamp : Tick) (who : List Asker) (s : State) : State :=
  let parentOn : Bool := match gateParent g with | some p => gateState s p == .on | none => true
  if gateKind g = some .clock ∧ parentOn = true then clockOn g (setGate g (fun r => { r with wakeFor := r.wakeFor ++ who }) s)
  else
    let s := (gateAncestors g).reverse.foldl (queueAncestor holm stamp) s
    if gateKind g = some .clock then setGate g (fun r => { r with state := .wakeQueued, wakeFor := r.wakeFor ++ who }) s
    else queueGate g holm stamp who s

/-- A Holm entry now depends on the queued entries of a gate and of its ancestors: they move to the Holm part and keep their stamps (R554). -/
def upgradeWake (g : Nat) (s : State) : State :=
  let up (q : List WakeEntry) (x : Nat) : List WakeEntry := if q.any (fun e => e.gate == x) then wakeEnter x true 0 q else q
  { s with pwr := { s.pwr with queue := (g :: gateAncestors g).foldl up s.pwr.queue } }

/-- A wake for a Holm use (R549, R160): Holm firmware wakes the gate unless it is ON. -/
def holmWake (g : Nat) (s : State) : State :=
  match gateState s g with
  | .on => s
  | .resetting => s
  | .wakeQueued | .waking =>
    upgradeWake g (setGate g (fun r => { r with pendingGate := false, wakeFor := if r.wakeFor.contains .holmUse then r.wakeFor else r.wakeFor ++ [.holmUse] }) s)
  | .draining => setGate g (fun r => { r with queued := r.queued.orElse (fun _ => some (s.gtb, true, [.holmUse])) }) s
  | .off => wakeOff g true s.gtb [.holmUse] s

/-- Admit entries from the head of the queue while the head fits and its parent is ON (R553, R554). The fuel is the queue's length. -/
def admitWakes : Nat → State → State
  | 0, s => s
  | n + 1, s =>
    match s.pwr.queue with
    | [] => s
    | e :: q =>
      let parentOn : Bool := match gateParent e.gate with | some p => gateState s p == .on | none => true
      if decide (inrushUsed s + gateCost e.gate ≤ 8) && parentOn then
        (let s := setGate e.gate (fun r => { r with state := .waking }) { s with pwr := { s.pwr with queue := q } }
         let s := if isIsland e.gate then islandStart e.gate s else s
         admitWakes n s)
      else s

/-! ### Drains (R548) -/

/-- A drain begins: the gate leaves ON; whose POWER_EVENT it is. -/
def beginDrain (g : Nat) (who : List Asker) (s : State) : State :=
  setGate g (fun r => { r with state := .draining, queued := none, pendingGate := false, drainFor := who, losing := gateKind g == some .power }) s

/-- Take a WAKE_QUEUED gate out of the queue, with every queued ancestor that no other entry needs (R547). -/
def unqueue (g : Nat) (s : State) : State :=
  let s := setGate g (fun r => { r with state := .off, wakeFor := [] }) s
  let s := { s with pwr := { s.pwr with queue := s.pwr.queue.filter (fun e => e.gate != g) } }
  (gateAncestors g).foldl (fun s a =>
    if gateState s a == .wakeQueued && (gateRec s a).wakeFor.isEmpty && !((gateChildren a).any (fun c => gateState s c == .wakeQueued)) then
      (let s := setGate a (fun r => { r with state := .off }) s
       { s with pwr := { s.pwr with queue := s.pwr.queue.filter (fun e => e.gate != a) } })
    else s) s

end Sys2Proof.Machine
end

