-- ==== Sys2Proof/Machine/Float32.lean ====
section
/-!
DEFINITION. Float32.lean: binary floating point by exact arithmetic and one rounding, to nearest with ties to even (chapters 8 and 9 compute in FP32).
-/

namespace Sys2Proof.Machine

open Sys2Proof

/-- An exact rational number `n / d`. -/
structure Q where
  n : Int
  d : Nat
  deriving DecidableEq, Repr

/-- A whole number. -/
def qInt (n : Int) : Q := ⟨n, 1⟩
/-- Sum. -/
def qAdd (a b : Q) : Q := ⟨a.n * b.d + b.n * a.d, a.d * b.d⟩
/-- Negative. -/
def qNeg (a : Q) : Q := ⟨-a.n, a.d⟩
/-- Difference. -/
def qSub (a b : Q) : Q := qAdd a (qNeg b)
/-- Product. -/
def qMul (a b : Q) : Q := ⟨a.n * b.n, a.d * b.d⟩
/-- Quotient; by zero it is 0. -/
def qDiv (a b : Q) : Q := if b.n = 0 then ⟨0, 1⟩ else if b.n < 0 then ⟨-(a.n * b.d), a.d * b.n.natAbs⟩ else ⟨a.n * b.d, a.d * b.n.natAbs⟩
/-- Is `a` below `b`? -/
def qLt (a b : Q) : Bool := decide (a.n * b.d < b.n * a.d)
/-- Is `a` at most `b`? -/
def qLe (a b : Q) : Bool := decide (a.n * b.d ≤ b.n * a.d)
/-- The smaller one. -/
def qMin (a b : Q) : Q := if qLe a b then a else b
/-- The larger one. -/
def qMax (a b : Q) : Q := if qLe a b then b else a
/-- `a` held to [lo, hi]. -/
def qClamp (lo hi a : Q) : Q := qMax lo (qMin hi a)

/-- Division of natural numbers rounded to nearest, ties to even. -/
def divRne (a b : Nat) : Nat :=
  if b = 0 then 0
  else
    let q := a / b
    let r := a % b
    if b < 2 * r then q + 1 else if 2 * r = b then q + q % 2 else q

/-- A rational rounded to a whole number, to nearest with ties to even. -/
def qRne (a : Q) : Int := if a.n < 0 then -((divRne a.n.natAbs a.d : Nat) : Int) else ((divRne a.n.natAbs a.d : Nat) : Int)

/-- The floor of a rational. -/
def qFloor (a : Q) : Int := a.n / (a.d : Int)

/-- The exponent e with 2 ^ e ≤ a / d < 2 ^ (e + 1). -/
def qExp (a d : Nat) : Int :=
  let e : Int := (Nat.log2 a : Nat) - ((Nat.log2 d : Nat) : Int)
  let ok : Bool := if 0 ≤ e then decide (d * 2 ^ e.toNat ≤ a) else decide (d ≤ a * 2 ^ (-e).toNat)
  if ok then e else e - 1

/-- A rational rounded to the binary format of `eb` exponent and `mb` fraction bits. `neg` is the sign of a zero. -/
def roundFp (eb mb : Nat) (neg : Bool) (x : Q) : Nat :=
  let bias : Int := ((2 ^ (eb - 1) - 1 : Nat) : Int)
  let sign (b : Bool) : Nat := if b then 2 ^ (eb + mb) else 0
  if x.n = 0 then sign neg
  else
    let e := qExp x.n.natAbs x.d
    let e := if e < 1 - bias then 1 - bias else e
    let sh : Int := (mb : Int) - e
    let m := if 0 ≤ sh then divRne (x.n.natAbs * 2 ^ sh.toNat) x.d else divRne x.n.natAbs (x.d * 2 ^ (-sh).toNat)
    let bits := ((e + bias - 1).toNat) * 2 ^ mb + m
    sign (decide (x.n < 0)) + min bits ((2 ^ eb - 1) * 2 ^ mb)

/-- Is a binary word an infinity or no number? -/
def fpSpecial (eb mb w : Nat) : Bool := natBits w (eb + mb - 1) mb == 2 ^ eb - 1

/-- The value of a finite binary word; infinities and no-numbers read as 0 here. -/
def fpValue (eb mb w : Nat) : Q :=
  let e := natBits w (eb + mb - 1) mb
  let f := w % 2 ^ mb
  let bias := 2 ^ (eb - 1) - 1
  if e = 2 ^ eb - 1 then ⟨0, 1⟩
  else
    let m := if e = 0 then f else f + 2 ^ mb
    let k : Int := ((max e 1 : Nat) : Int) - (bias : Int) - (mb : Int)
    let s : Int := if w.testBit (eb + mb) then -1 else 1
    if 0 ≤ k then ⟨s * ((m * 2 ^ k.toNat : Nat) : Int), 1⟩ else ⟨s * (m : Int), 2 ^ (-k).toNat⟩

/-- FP32 from an exact value. -/
def f32 (x : Q) : Word := BitVec.ofNat 32 (roundFp 8 23 false x)

/-- The exact value of an FP32 word. -/
def f32v (w : Word) : Q := fpValue 8 23 w.toNat

/-- Is an FP32 word an infinity or no number? -/
def f32bad (w : Word) : Bool := fpSpecial 8 23 w.toNat

/-- The quiet no-number. -/
def f32nan : Word := 0x7FC00000

/-- An FP32 operation on finite words by exact arithmetic; an operand that is no finite number gives no number. -/
def f32op (f : Q → Q → Q) (a b : Word) : Word := if f32bad a || f32bad b then f32nan else f32 (f (f32v a) (f32v b))

/-- FP32 sum. -/
def f32add (a b : Word) : Word := f32op qAdd a b
/-- FP32 difference. -/
def f32sub (a b : Word) : Word := f32op qSub a b
/-- FP32 product. -/
def f32mul (a b : Word) : Word := f32op qMul a b
/-- FP32 quotient; a division by zero gives no number. -/
def f32div (a b : Word) : Word := if (f32v b).n = 0 then f32nan else f32op qDiv a b
/-- FP32 minimum. -/
def f32min (a b : Word) : Word := if qLe (f32v a) (f32v b) then a else b
/-- FP32 maximum. -/
def f32max (a b : Word) : Word := if qLe (f32v a) (f32v b) then b else a
/-- 1 as FP32. -/
def f32one : Word := 0x3F800000

/-- A value in [0, 1] as an unsigned normalised number of `w` bits (R266). -/
def toUnorm (w : Nat) (x : Q) : Nat := (qRne (qMul (qClamp (qInt 0) (qInt 1) x) (qInt ((2 ^ w - 1 : Nat) : Int)))).toNat

/-- The value of an unsigned normalised number. -/
def ofUnorm (w n : Nat) : Q := ⟨(n : Int), 2 ^ w - 1⟩

end Sys2Proof.Machine
end

