-- ==== Sys2Proof/Machine/Memory.lean ====
section
/-!
DEFINITION. Memory.lean: the Mainland DRAM pool, IOMMU mappings, leases and their fences, memory faults, the Vat scrubber (chapter 7).
-/

namespace Sys2Proof.Machine

open Sys2Proof

/-! ### Extents -/

/-- Total length of a list of extents. -/
def extLen (es : List (Nat × Nat)) : Nat := (es.map (fun e => e.2)).sum

/-- Take `need` bytes in pages of `pg` bytes, lowest addresses first: the extents taken and those that remain. -/
def takeExt : List (Nat × Nat) → Nat → Nat → Option (List (Nat × Nat) × List (Nat × Nat))
  | [], _, need => if need = 0 then some ([], []) else none
  | (b, n) :: es, pg, need =>
    if need = 0 then some ([], (b, n) :: es)
    else
      let b' := ceilDiv b pg * pg
      let k := min need ((b + n - b') / pg * pg)
      let front := if b < b' ∧ k ≠ 0 then [(b, b' - b)] else []
      let back := if k ≠ 0 ∧ b' + k < b + n then [(b' + k, b + n - (b' + k))] else []
      match takeExt es pg (need - k) with
      | none => none
      | some (got, rest) => if k = 0 then some (got, (b, n) :: rest) else some ((b', k) :: got, front ++ back ++ rest)

/-- Put an extent into a list in order of address, joined with its neighbours. -/
def addExt (b n : Nat) : List (Nat × Nat) → List (Nat × Nat)
  | [] => [(b, n)]
  | (c, m) :: es =>
    if b + n < c then (b, n) :: (c, m) :: es
    else if b + n = c then (b, n + m) :: es
    else if c + m = b then addExt c (m + n) es
    else (c, m) :: addExt b n es

/-- Put several extents. -/
def addExts (es : List (Nat × Nat)) (l : List (Nat × Nat)) : List (Nat × Nat) := es.foldl (fun l e => addExt e.1 e.2 l) l

/-- The extents of `n` bytes from offset `o` into a list of extents. -/
def subExt : List (Nat × Nat) → Nat → Nat → List (Nat × Nat)
  | [], _, _ => []
  | (b, m) :: es, o, n =>
    if n = 0 then []
    else if m ≤ o then subExt es (o - m) n
    else
      let k := min n (m - o)
      (b + o, k) :: subExt es 0 (n - k)

/-- What is left of an extent list after the range [b, b + n) is taken out. -/
def cutExt (b n : Nat) (es : List (Nat × Nat)) : List (Nat × Nat) :=
  es.flatMap (fun e =>
    (if e.1 < b then [(e.1, min e.2 (b - e.1))] else []) ++
    (if b + n < e.1 + e.2 then [(max e.1 (b + n), e.1 + e.2 - max e.1 (b + n))] else []))

/-- Do two ranges overlap? -/
def overlaps (a n b m : Nat) : Bool := decide (a < b + m) && decide (b < a + n)

/-- Zero-fill a range of device memory: every byte reads as 0 and no word of it is poisoned. -/
def zeroFill (a n : Nat) (s : State) : State :=
  unpoison a n { s with mem := { s.mem with dpa := tclear s.mem.dpa a (a + n) } }

/-! ### Mappings (R233 to R239) -/

/-- The size of a page. -/
def pageSize (large : Bool) : Nat := if large then 0x200000 else 0x1000

/-- The first IOVA of device space (R233). -/
def devSpace : Nat := 0x800000000000

/-- Mappings of a function that translate. -/
def mapsOf (s : State) (fn : Nat) : List Mapping := s.mem.maps.filter (fun m => m.fn == fn && m.doomed.isNone)

/-- Does a range overlap a mapping of a function? -/
def mapped (s : State) (fn va len : Nat) : Bool := (mapsOf s fn).any (fun m => overlaps va len m.iova m.len)

/-- The lowest free device-space IOVA aligned to the page size (R236): the start of the space or the end of a mapping. -/
def chooseVa (s : State) (fn len pg : Nat) : Option Nat :=
  let cands := devSpace :: ((mapsOf s fn).filter (fun m => m.kind != 0)).map (fun m => ceilDiv (m.iova + m.len) pg * pg)
  let ok := cands.filter (fun v => decide (v + len ≤ 2 ^ 48) && !mapped s fn v len)
  ok.foldl (fun b v => match b with | none => some v | some w => some (min v w)) none

/-- Scratch space of a function that no mapping holds (R201), as extents. -/
def freeScratch (s : State) (fn : Nat) : List (Nat × Nat) :=
  let f := fnRec s fn
  ((mapsOf s fn).filter (fun m => m.kind == 2)).foldl (fun es m => m.ext.foldl (fun es e => cutExt e.1 e.2 es) es)
    (f.scratch.map (fun (e : Nat × Nat) => (vatBase + 0x3C00000 + e.1, e.2)))

/-- Insert a mapping in order of IOVA. -/
def insertMap (m : Mapping) : List Mapping → List Mapping
  | [] => [m]
  | x :: xs => if m.iova < x.iova then m :: x :: xs else x :: insertMap m xs

/-- Tables of one level that a function's mappings, in order of IOVA, need: the indices IOVA >> sh that they touch. -/
def tablesAt (sh : Nat) (last : Option Nat) : List Mapping → Nat
  | [] => 0
  | m :: ms =>
    let a := m.iova >>> sh
    let b := (m.iova + m.len - 1) >>> sh
    (b + 1 - a - (if last = some a then 1 else 0)) + tablesAt sh (some b) ms

/-- Page tables of a function (R239): one of level 0, and those of levels 1 to 3 that its mappings touch. -/
def tablesOf (ms : List Mapping) : Nat :=
  let sorted := ms.foldl (fun l m => insertMap m l) []
  1 + tablesAt 39 none sorted + tablesAt 30 none sorted + tablesAt 21 none (sorted.filter (fun m => !m.large))

/-- Do the tables of every context fit carve-out 0 (R231, R235)? -/
def tablesFit (s : State) (m : Mapping) : Bool :=
  let ms := m :: s.mem.maps.filter (fun m => m.doomed.isNone)
  decide ((((List.range 64).map (fun f =>
    let own := ms.filter (fun m => m.fn == f)
    if own.isEmpty then 0 else tablesOf own)).sum) * 4096 ≤ fld s (Reg.DRC_COn_SIZE 0) Fld.DRC_COn_SIZE_SIZE * 0x200000)

/-- Does a bus range overlap a BAR of the device (R235, step 7)? -/
def overlapsBar (s : State) (va len : Nat) : Bool := s.hif.bars.any (fun e => e.2.any (fun (b : Nat × Nat) => overlaps va len b.1 b.2))

/-- MEM_MAP (Table 3.6). -/
def opMemMap : OpInfo := ⟨0x0801, (2, 0), .any, none, false, .fixed 24, false⟩

/-- The mapping that a MEM_MAP asks for at an IOVA, with the physical extents it takes and the pool it leaves; none when the pool cannot supply it (step 8 of Table 7.7). -/
def newMapping (s : State) (fn va len mflags : Nat) : Option (Mapping × List (Nat × Nat)) :=
  let kind := natBits mflags 3 2
  let large := mflags.testBit 4
  let m : Mapping := ⟨fn, va, len, kind, large, mflags.testBit 0, mflags.testBit 1, [], none⟩
  if kind = 0 then some (m, s.mem.free)
  else if kind = 1 then (takeExt s.mem.free (pageSize large) len).map (fun x => ({ m with ext := x.1 }, x.2))
  else (takeExt (freeScratch s fn) 0x1000 len).map (fun x => ({ m with ext := x.1 }, s.mem.free))

/-- Step 13 of MEM_MAP (R235, R236): the checks of Table 7.7 in order. -/
def doMemMap (c : Ctx) (s : State) : Ans :=
  let va := leAt c.pay 0 8
  let len := leAt c.pay 8 8
  let fl := leAt c.pay 0x10 4
  let kind := natBits fl 3 2
  let large := fl.testBit 4
  let pg := pageSize large
  let no (st : Status) (off : Nat) : Ans := .reply (stOff st off) s
  if fnQuiet s c.fn then .reply (stOnly .functionQuiesced) s
  else if fl / 32 ≠ 0 then no .reservedSet 0x10
  else if leAt c.pay 0x14 4 ≠ 0 then no .reservedSet 0x14
  else if fl % 4 = 0 ∨ kind = 3 ∨ (large ∧ kind ≠ 1) then no .paramInvalid 0x10
  else if len = 0 ∨ len % pg ≠ 0 then no .paramInvalid 8
  else if va % pg ≠ 0 ∨ (va = 0 ∧ kind = 0) then no .paramInvalid 0
  else
    match (if va = 0 then chooseVa s c.fn len pg else some va) with
    | none => no .addressFault 0
    | some va =>
      if (if kind = 0 then decide (devSpace < va + len) else decide (va < devSpace) || decide (2 ^ 48 < va + len)) then no .addressFault 0
      else if mapped s c.fn va len then no .addressFault 0
      else if kind = 0 ∧ overlapsBar s va len then no .addressFault 0
      else
        match newMapping s c.fn va len fl with
        | none => .reply (stOnly .poolExhausted) s
        | some (m, rest) =>
          if 4096 ≤ (mapsOf s c.fn).length ∨ tablesFit s m = false then .reply (stOnly .poolExhausted) s
          else
            let s := m.ext.foldl (fun s e => zeroFill e.1 e.2 s) s
            .reply (stDone (le 4 0 ++ le 8 va)) { s with mem := { s.mem with maps := insertMap m s.mem.maps, free := rest } }

/-- Meaning of MEM_MAP (R235). -/
def execMemMap (t : Tick) (q : Request) (s : State) : Out := gcp opMemMap t q doMemMap s

/-! ### Leases (R240 to R246) -/

/-- Does a lease include a page of a range? Pages are those of 4 KiB. -/
def leaseTouches (l : Lease) (fn va len : Nat) : Bool :=
  !l.holm && l.fn == fn && !l.dead &&
    l.ranges.any (fun r => overlaps va len (r.1 / 4096 * 4096) (ceilDiv (r.1 + r.2) 4096 * 4096 - r.1 / 4096 * 4096))

/-- Range entries in use (R246). -/
def leaseEntries (s : State) : Nat := (s.mem.leases.map (fun (l : Lease) => l.ranges.length)).sum

/-- Note the most range entries used (Table 7.15). -/
def notePeak (s : State) : State := { s with mem := { s.mem with leasePeak := max s.mem.leasePeak (leaseEntries s) } }

/-- A lease begins (R240). -/
def leaseBegin (l : Lease) (s : State) : State := notePeak { s with mem := { s.mem with leases := s.mem.leases ++ [l] } }

/-- A fetch of a leased buffer, or a write by writeback, at a stamp (R241): the latch points since start anew. -/
def leaseFetch (output layer : Nat) (ranges : List (Nat × Nat)) (stamp : Tick) (s : State) : State :=
  { s with mem := { s.mem with leases := s.mem.leases.map (fun (l : Lease) =>
      if l.output == output && l.layer == layer && l.ranges == ranges && l.freed.isNone then
        { l with lastFetch := max l.lastFetch stamp, after := 0 } else l) } }

/-- A RETIRE record (Table 7.10). -/
def retireRecord (l : Lease) (fence : Tick) (claimed : Bool) : List Byte :=
  le 2 0x0803 ++ le 2 (bit l.freed.isSome + 2 * bit claimed) ++ le 1 l.output ++ le 1 l.layer ++ le 2 0 ++
    le 8 l.base ++ le 8 l.start ++ le 8 fence

/-- Is memory of a function at an IOVA, freed at a stamp, still held by a lease (R207, R237)? -/
def stillHeld (s : State) (fn iova len : Nat) (since : Tick) : Bool :=
  s.mem.leases.any (fun l => !l.holm && l.fn == fn && decide (l.start ≤ since) &&
    l.ranges.any (fun r => overlaps iova len (r.1 / 4096 * 4096) (ceilDiv (r.1 + r.2) 4096 * 4096 - r.1 / 4096 * 4096)))

/-- DRAM returns to the pool by way of its zero-fill (R232). -/
def toClear (es : List (Nat × Nat)) (s : State) : State := { s with mem := { s.mem with clearing := addExts es s.mem.clearing } }

/-- Memory that no lease holds any more goes on: held DRAM to its zero-fill, mappings that a reset left for leases are removed (R207, R237). -/
def letGo (s : State) : State :=
  let m := s.mem
  let keepH (h : HeldExt) : Bool := stillHeld s h.fn h.iova h.len h.since
  let keepM (x : Mapping) : Bool := match x.doomed with | some t => stillHeld s x.fn x.iova x.len t | none => true
  let freed := (m.holds.filter (fun h => !keepH h)).map (fun h => (h.base, h.len)) ++
    ((m.maps.filter (fun x => !keepM x && x.kind == 1)).flatMap (fun x => x.ext))
  toClear freed { s with mem := { m with holds := m.holds.filter keepH, maps := m.maps.filter keepM } }

/-- The end of a lease at its fence (R241 to R243), or at a claim (R245): the LEASE_VIOLATION record of an early free first, then RETIRE, each to the queue of its own world. The lease of a
function that was removed leaves no record (R210). -/
def retire (l : Lease) (fence : Tick) (claimed : Bool) (s : State) : State :=
  let s := { s with mem := { s.mem with leases := s.mem.leases.filter (fun x => x != l) } }
  let s :=
    if l.dead then s
    else
      let s := match l.freed with
        | some (tu, h) => post l.fn h (violationRecord s l.fn tu fence) s
        | none => s
      post l.fn l.holm (retireRecord l fence claimed) s
  letGo s

/-- A latch point of an output passes (R241): leases count it, and those that nothing names any more end at the second one after their last fetch. -/
def leaseLatch (output : Nat) (stamp : Tick) (s : State) : State :=
  let s := { s with mem := { s.mem with leases := s.mem.leases.map (fun (l : Lease) =>
      if l.output = output ∧ l.lastFetch < stamp then { l with after := min 2 (l.after + 1) } else l) } }
  (s.mem.leases.filter (fun (l : Lease) => l.output == output && decide (2 ≤ l.after) && !l.inUse)).foldl (fun s l => retire l stamp false s) s

/-- Every pending fence of an output signals (R241). -/
def leaseAll (output : Nat) (stamp : Tick) (s : State) : State :=
  (s.mem.leases.filter (fun (l : Lease) => l.output == output)).foldl (fun s l => retire l stamp false s) s

/-- Holm claims a layer (0 to 7) or the writeback (9) of an output (R245). -/
def leaseClaim (output layer : Nat) (s : State) : State :=
  (s.mem.leases.filter (fun (l : Lease) => l.output == output && l.layer == layer && !l.holm)).foldl (fun s l => retire l s.gtb true s) s

/-- Meaning of NO_FETCH_IN_FLIGHT (R241): the pipe of an output whose timing generator is disabled reports that no fetch is in flight. -/
def execNoFetchInFlight (t : Tick) (output : BitVec 3) (s : State) : Out :=
  let s := advance t s
  if tgOn s output.toNat then .next s else .next (leaseAll output.toNat s.gtb s)

/-- Early frees (R243): each lease that the unmap breaks stops its layer or writeback until the next latch point, and its breach is charged once. -/
def earlyFree (fn va len : Nat) (holm : Bool) (s : State) : State :=
  let hit (l : Lease) : Bool := leaseTouches l fn va len && l.freed.isNone
  let broken := s.mem.leases.filter hit
  let s := { s with mem := { s.mem with leases := s.mem.leases.map (fun (l : Lease) => if hit l then { l with freed := some (s.gtb, holm) } else l) } }
  broken.foldl (fun s l =>
    let s := countBreach fn fn s
    if l.layer = 9 then setOut l.output (fun o => { o with wbCut := true }) s
    else setLayer (9 * l.output + l.layer) (fun x => { x with cut := true }) s) s

/-! ### Unmapping (R237) -/

/-- Bytes of a range that a function's mappings hold. -/
def coveredLen (s : State) (fn va len : Nat) : Nat :=
  ((mapsOf s fn).map (fun m => if overlaps va len m.iova m.len then min (va + len) (m.iova + m.len) - max va m.iova else 0)).sum

/-- Does a range split a 2 MiB page? -/
def splitsLarge (s : State) (fn va len : Nat) : Bool :=
  (mapsOf s fn).any (fun m => m.large && overlaps va len m.iova m.len &&
    ((decide (m.iova < va) && va % 0x200000 != 0) || (decide (va + len < m.iova + m.len) && (va + len) % 0x200000 != 0)))

/-- The parts of a mapping outside a range. -/
def mapOutside (va len : Nat) (m : Mapping) : List Mapping :=
  if overlaps va len m.iova m.len then
    (if m.iova < va then [{ m with len := va - m.iova, ext := subExt m.ext 0 (va - m.iova) }] else []) ++
    (if va + len < m.iova + m.len then
      [{ m with iova := va + len, len := m.iova + m.len - (va + len), ext := subExt m.ext (va + len - m.iova) (m.iova + m.len - (va + len)) }] else [])
  else [m]

/-- The part of a mapping inside a range: its first IOVA and its extents. -/
def mapInside (va len : Nat) (m : Mapping) : Nat × List (Nat × Nat) :=
  let a := max va m.iova
  let b := min (va + len) (m.iova + m.len)
  (a, subExt m.ext (a - m.iova) (b - a))

/-- DRAM of one removed part: held by a lease, or on its way to the zero-fill (R237). Pieces are taken page by page, as a lease may hold some of them. -/
def freePart (fn : Nat) : Nat → List (Nat × Nat) → State → State
  | _, [], s => s
  | iova, (b, n) :: es, s =>
    let s := if stillHeld s fn iova n s.gtb then { s with mem := { s.mem with holds := s.mem.holds ++ [⟨fn, iova, b, n, s.gtb⟩] } } else toClear [(b, n)] s
    freePart fn (iova + n) es s

/-- Extents cut into pages. -/
def pagesOf (pg : Nat) (es : List (Nat × Nat)) : List (Nat × Nat) :=
  es.flatMap (fun e => (List.range (ceilDiv e.2 pg)).map (fun i => (e.1 + pg * i, min pg (e.2 - pg * i))))

/-- Remove the mapping pages of a range (R237). -/
def unmapRange (fn va len : Nat) (s : State) : State :=
  let hit (m : Mapping) : Bool := m.fn == fn && m.doomed.isNone && overlaps va len m.iova m.len
  let gone := s.mem.maps.filter (fun m => hit m && m.kind == 1)
  let s := { s with mem := { s.mem with maps := s.mem.maps.flatMap (fun m => if hit m then mapOutside va len m else [m]) } }
  gone.foldl (fun s m =>
    let (a, es) := mapInside va len m
    if stillHeld s fn a (extLen es) s.gtb then freePart fn a (pagesOf (pageSize m.large) es) s else toClear es s) s

/-- MEM_UNMAP (Table 3.6). -/
def opMemUnmap : OpInfo := ⟨0x0802, (2, 0), .any, none, false, .fixed 16, false⟩

/-- Step 13 of MEM_UNMAP (R237, R243); tᵤ is the GTB at processing. -/
def doMemUnmap (c : Ctx) (s : State) : Ans :=
  let va := leAt c.pay 0 8
  let len := leAt c.pay 8 8
  if fnQuiet s c.fn then .reply (stOnly .functionQuiesced) s
  else if va % 4096 ≠ 0 then .reply (stOff .paramInvalid 0) s
  else if len = 0 ∨ len % 4096 ≠ 0 then .reply (stOff .paramInvalid 8) s
  else if coveredLen s c.fn va len ≠ len ∨ splitsLarge s c.fn va len then .reply (stOff .addressFault 0) s
  else .reply (stDone []) (unmapRange c.fn va len (earlyFree c.fn va len c.holm s))

/-- Meaning of MEM_UNMAP (R237). -/
def execMemUnmap (t : Tick) (q : Request) (s : State) : Out := gcp opMemUnmap t q doMemUnmap s

/-- Remove every mapping of a function at a reset (Table 6.6a): mappings of leased buffers stay until their fences; its scratch space is zero-filled; its waiting faults go. -/
def resetMaps (fn : Nat) (s : State) : State :=
  let own := mapsOf s fn
  let kept (m : Mapping) : Bool := stillHeld s fn m.iova m.len s.gtb
  let s := { s with mem := { s.mem with
      maps := (s.mem.maps.filter (fun m => !(m.fn == fn && m.doomed.isNone && !kept m))).map
        (fun m => if m.fn == fn && m.doomed.isNone then { m with doomed := some s.gtb } else m),
      faults := tput {} s.mem.faults fn {} } }
  let s := toClear ((own.filter (fun m => m.kind == 1 && !kept m)).flatMap (fun m => m.ext)) s
  (fnRec s fn).scratch.foldl (fun (s : State) (e : Nat × Nat) => zeroFill (vatBase + 0x3C00000 + e.1) e.2 s) s

/-- The leases of a function that is removed leave no record (R210). -/
def deadLeases (fn : Nat) (s : State) : State :=
  { s with mem := { s.mem with leases := s.mem.leases.map (fun (l : Lease) => if l.fn = fn ∧ l.holm = false then { l with dead := true } else l) } }

/-- Meaning of PAGE_ZERO_FILL_DONE (R232): the pages of the first extent that awaits its zero-fill read zero and return to the pool. -/
def execPageZeroFillDone (t : Tick) (s : State) : Out :=
  let s := advance t s
  match s.mem.clearing with
  | [] => .next s
  | (b, n) :: es =>
    let s := zeroFill b n s
    .next { s with mem := { s.mem with clearing := es, free := addExt b n s.mem.free } }

/-! ### Faults and errors -/

/-- Meaning of MEM_FAULT (R238): an access of a function's work at an IOVA, by a source of Table 5.6, is counted when the context has no translation or no permission for it. -/
def execMemFault (t : Tick) (fn : Fn) (source : BitVec 8) (iova : BitVec 48) (write : Bool) (s : State) : Out :=
  let s := advance t s
  match xlate s fn.val write iova.toNat with
  | .fault p => .next (memFault fn.val source.toNat iova.toNat write p s)
  | _ => .next s

/-- Count a corrected error of a Vat word (Tables 7.13 and 7.14). -/
def vatCorrected (s : State) (off : BitVec 26) : State :=
  let s := wrF Reg.VAT_ECC_CNT Fld.VAT_ECC_CNT_CORRECTED ((fld s Reg.VAT_ECC_CNT Fld.VAT_ECC_CNT_CORRECTED + 1) % 65536) s
  wr Reg.VAT_ECC_LAST (BitVec.ofNat 32 (off.toNat / 8 * 8)) s

/-- Meaning of VAT_SCRUB (R220): one sweep corrects every word; the command names the words in which it found a single-bit error. -/
def execVatScrub (t : Tick) (corrected : List (BitVec 26)) (s : State) : Out :=
  .next (corrected.foldl vatCorrected (advance t s))

/-- CO_LOCK (R231): a write of 1 to DRC_CO_LOCK.LOCK by a Holm requester locks every carve-out register. -/
def carveLock (w : Word) (s : State) : State :=
  if getB w Fld.DRC_CO_LOCK_LOCK then wrB Reg.DRC_CO_LOCK Fld.DRC_CO_LOCK_LOCK true s else s

end Sys2Proof.Machine
end

