-- ==== Sys2Proof/Machine/Pixels.lean ====
section
/-!
DEFINITION. Pixels.lean: the arithmetic of an output pipe (R330 to R348), of a skim (R300, R301), of the Holm colour path (R395) and of a tile signature's words (R404).
-/

namespace Sys2Proof.Machine

open Sys2Proof

/-! ### Formats (R330, R331) -/

/-- Widen a value of some bits to 10 bits (R331). -/
def widen (bits v : Nat) : Nat :=
  match bits with
  | 8 => v <<< 2 ||| v >>> 6
  | 6 => v <<< 4 ||| v >>> 2
  | 5 => v <<< 5 ||| v
  | 2 => v * 341
  | _ => v

/-- Is the format luma/chroma? -/
def isYc (f : Nat) : Bool := decide (0x20 ≤ f) && decide (f ≤ 0x27)
/-- Is chroma halved vertically (4:2:0)? -/
def sub420 (f : Nat) : Bool := f == 0x20 || f == 0x22 || f == 0x24 || f == 0x26
/-- Does the format use three planes? -/
def planes3 (f : Nat) : Bool := f == 0x22 || f == 0x23 || f == 0x26 || f == 0x27
/-- Does a sample occupy a 16-bit container? -/
def tenBit (f : Nat) : Bool := decide (0x24 ≤ f) && decide (f ≤ 0x27)
/-- Planes of a format. -/
def planesOf (f : Nat) : Nat := if isYc f then (if planes3 f then 3 else 2) else 1
/-- Bytes of one sample of plane 0 of a single-plane format. -/
def pixBytes (f : Nat) : Nat := match f with | 0x01 => 4 | 0x02 => 4 | 0x03 => 2 | _ => 1

/-- A word of a single-plane format as 10-bit R, G, B and alpha (Table 11.3). -/
def unpackPix (f w : Nat) : List Nat :=
  match f with
  | 0x01 => [widen 8 (natBits w 23 16), widen 8 (natBits w 15 8), widen 8 (natBits w 7 0), widen 8 (natBits w 31 24)]
  | 0x02 => [natBits w 29 20, natBits w 19 10, natBits w 9 0, widen 2 (natBits w 31 30)]
  | 0x03 => [widen 5 (natBits w 15 11), widen 6 (natBits w 10 5), widen 5 (natBits w 4 0), 1023]
  | _ => [0, 0, 0, 1023]

/-! ### Sources -/

/-- A layer's source as its fetch sees it: the address space (Holm: device physical; Mainland: the grantee's context), format, planes, source rectangle, siting, the palette's data register. -/
structure Src where
  holm : Bool
  fn : Nat
  format : Nat
  addr : List Nat
  pitch : List Nat
  x : Nat
  y : Nat
  w : Nat
  h : Nat
  sitH : Bool
  sitV : Bool
  pal : Nat
  deriving DecidableEq, Repr

/-- One byte of a leased fetch. -/
def srcByte (s : State) (r : Src) (a : Nat) : Byte :=
  if r.holm then rdDpa s a
  else match xlateLeased s r.fn false a with
    | .dev d => rdDpa s d
    | .host p h => rdHost s p h
    | .fault _ => 0

/-- A little-endian number of a fetch. -/
def srcLe (s : State) (r : Src) (a n : Nat) : Nat := ofLe ((List.range n).map (fun i => srcByte s r (a + i)))

/-- Would a byte of the fetch fault? -/
def srcFault (s : State) (r : Src) (a : Nat) : Bool :=
  if r.holm then !dpaMapped s a
  else match xlateLeased s r.fn false a with
    | .fault _ => true
    | _ => false

/-- Rows that plane `p` fetches: the first and the number (R333). -/
def planeRows (r : Src) (p : Nat) : Nat × Nat := if p ≠ 0 ∧ sub420 r.format then (r.y / 2, r.h / 2) else (r.y, r.h)

/-- The ranges that a layer fetches (R333): start and length by plane. -/
def srcRanges (r : Src) : List (Nat × Nat) :=
  (List.range (planesOf r.format)).map (fun p =>
    let (y0, h) := planeRows r p
    let pt := r.pitch.getD p 0
    (r.addr.getD p 0 + y0 * pt, h * pt))

/-- Is the whole source mapped (R244)? Mappings are page-grained. -/
def srcMapped (s : State) (r : Src) : Bool :=
  (srcRanges r).all (fun g => (List.range ((g.1 % 4096 + g.2 + 4095) / 4096)).all (fun i =>
    !srcFault s r (if i = 0 then g.1 else g.1 - g.1 % 4096 + 4096 * i)))

/-- Clamp a coordinate into [0, n). -/
def clampIx (n : Nat) (i : Int) : Nat := (clampI 0 ((n : Int) - 1) i).toNat

/-- A pixel of a single-plane source by its coordinates in the source rectangle, as 10-bit components (stages 1 to 3). -/
def rgbAt (s : State) (r : Src) (x y : Int) : List Nat :=
  let bx := r.x + clampIx r.w x
  let by_ := r.y + clampIx r.h y
  let n := pixBytes r.format
  let v := srcLe s r (r.addr.getD 0 0 + by_ * r.pitch.getD 0 0 + bx * n) n
  if r.format = 0x06 then unpackPix 0x01 (tab s r.pal v).toNat else unpackPix r.format v

/-- A stored luma or chroma sample, widened (R331). -/
def ycSample (s : State) (r : Src) (a : Nat) : Nat :=
  if tenBit r.format then natBits (srcLe s r a 2) 15 6 else widen 8 (srcLe s r a 1)

/-- A luma sample by its coordinates in the source rectangle. -/
def lumaAt (s : State) (r : Src) (x y : Int) : Nat :=
  let n := if tenBit r.format then 2 else 1
  ycSample s r (r.addr.getD 0 0 + (r.y + clampIx r.h y) * r.pitch.getD 0 0 + (r.x + clampIx r.w x) * n)

/-- A chroma sample (0 Cb, 1 Cr) by its coordinates in the chroma rectangle. -/
def chromaAt (s : State) (r : Src) (c : Nat) (x y : Int) : Nat :=
  let n := if tenBit r.format then 2 else 1
  let (y0, h) := planeRows r 1
  let cx := r.x / 2 + clampIx (r.w / 2) x
  let cy := y0 + clampIx h y
  if planes3 r.format then ycSample s r (r.addr.getD (1 + c) 0 + cy * r.pitch.getD (1 + c) 0 + cx * n)
  else ycSample s r (r.addr.getD 1 0 + cy * r.pitch.getD 1 0 + (2 * cx + c) * n)

/-! ### Scaling (R340 to R342) -/

/-- Position p_j (R340). -/
def scalePos (src dst j : Nat) : Int :=
  let d : Nat := if dst = 0 then 0 else src * 2 ^ 20 / dst
  asr (d : Int) 1 - 2 ^ 19 + ((j * d : Nat) : Int)

/-- Chroma position (R342). -/
def chromaPos (p : Int) (centred : Bool) : Int := asr (p - (if centred then 2 ^ 19 else 0)) 1

/-- Phase of a position. -/
def phaseOf (p : Int) : Nat := (asr p 14 % 64).toNat

/-- A coefficient: tap `t` of phase `ph` in the table that begins at `base` with `per` words a phase (R341). -/
def coef (s : State) (port base per ph t : Nat) : Int :=
  let w := (tab s port (base + per * ph + t / 2)).toNat
  signedOf 10 (if t % 2 = 0 then natBits w 9 0 else natBits w 25 16)

/-- One filter (R341). -/
def filter10 (cs xs : List Int) : Nat := (clampI 0 1023 (asr (((cs.zip xs).map (fun p => p.1 * p.2)).sum + 128) 8)).toNat

/-- A filtered value at horizontal and vertical positions: 8 taps by row, then 6 rows. -/
def scaleAt (s : State) (port : Nat) (get : Int → Int → Nat) (ph pv : Int) : Nat :=
  let nx := asr ph 20
  let ny := asr pv 20
  let row (y : Int) : Int :=
    filter10 ((List.range 8).map (fun t => coef s port 0 4 (phaseOf ph) t)) ((List.range 8).map (fun (t : Nat) => ((get (nx - 3 + (t : Int)) y : Nat) : Int)))
  filter10 ((List.range 6).map (fun t => coef s port 256 3 (phaseOf pv) t)) ((List.range 6).map (fun (t : Nat) => row (ny - 2 + (t : Int))))

/-- Does the layer take a scaler (R339)? -/
def scaled (f sw sh dw dh : Nat) : Bool := isYc f || sw != dw || sh != dh
/-- Does it take a pair? -/
def paired (f dw : Nat) : Bool := isYc f && decide (4096 < dw)

/-- A layer's pixel at a place of its destination rectangle, after stage 4. `port` is its coefficient data register. -/
def layerPixel (s : State) (port : Nat) (r : Src) (dw dh j k : Nat) : List Nat :=
  let pj := scalePos r.w dw j
  let pk := scalePos r.h dh k
  if isYc r.format then
    (let pcv := if sub420 r.format then chromaPos pk r.sitV else pk
     let chroma (c i : Nat) : Nat := scaleAt s port (chromaAt s r c) (chromaPos (scalePos r.w dw i) r.sitH) pcv
     let cc (c : Nat) : Nat :=
       if paired r.format dw ∧ j % 2 = 1 then
         (if j + 1 < dw then (chroma c (j - 1) + chroma c (j + 1) + 1) / 2 else chroma c (j - 1))
       else chroma c j
     [scaleAt s port (lumaAt s r) pj pk, cc 0, cc 1, 1023])
  else if scaled r.format r.w r.h dw dh then
    (List.range 4).map (fun c => scaleAt s port (fun x y => (rgbAt s r x y).getD c 0) pj pk)
  else rgbAt s r j k

/-! ### Layer CSC (R346) -/

/-- Coefficient (i, k) of a 3 × 3 matrix that lies two to a word from `base`: signed 4.12. -/
def matrixAt (s : State) (base i k : Nat) : Int :=
  let e := 3 * i + k
  let w := (rd s (base + 4 * (e / 2))).toNat
  signedOf 16 (if e % 2 = 0 then natBits w 15 0 else natBits w 31 16)

/-- Stage 5 of a luma/chroma layer. -/
def layerCsc (s : State) (n l : Nat) (p : List Nat) : List Nat :=
  let off := (rd s (Reg.Lx_CSC_OFF n l)).toNat
  let o (k : Nat) : Int := natBits off (10 * k + 9) (10 * k)
  (List.range 3).map (fun i =>
    (clampI 0 1023 (asr (((List.range 3).map (fun k => matrixAt s (Reg.Lx_CSC_M0 n l) i k * ((p.getD k 0 : Int) - o k))).sum + 2048) 12)).toNat) ++ [p.getD 3 1023]

/-! ### Blending (R337, R338) -/

/-- A colour register's components: red, green, blue of 10 bits. -/
def rgb10 (w : Word) : List Nat := [natBits w.toNat 29 20, natBits w.toNat 19 10, natBits w.toNat 9 0]

/-- Blend a source pixel over a colour (R338). -/
def blend10 (mode plane : Nat) (src dst : List Nat) : List Nat :=
  let g := plane <<< 2 ||| plane >>> 6
  let a' := if mode = 0 then 1023 else src.getD 3 1023
  let a := (a' * g + 511) / 1023
  (List.range 3).map (fun i =>
    let c := src.getD i 0
    let d := dst.getD i 0
    if mode = 2 then min 1023 ((c * g + 511) / 1023 + (d * (1023 - a) + 511) / 1023)
    else (c * a + d * (1023 - a) + 511) / 1023)

/-- The word that stage 7 holds. -/
def holdWord (c : List Nat) : Word :=
  BitVec.ofNat 32 (3 * 2 ^ 30 + c.getD 0 0 * 2 ^ 20 + c.getD 1 0 * 2 ^ 10 + c.getD 2 0)

/-- Components of a word that stage 7 holds. -/
def heldRgb (w : Word) : List Nat := rgb10 w

/-- The layer at position `k` of the blend order (R337). -/
def zLayer (s : State) (n k : Nat) : Nat :=
  if flg s (Reg.OP_CTRL n) Fld.OP_CTRL_ZORDER_EN then natBits (rd s (Reg.OP_ZORDER n)).toNat (3 * k + 2) (3 * k) else k

/-! ### Colour stages (R347, R348) -/

/-- The entry of one of the pipe's colour tables: components red, green, blue. -/
def lutEntry (s : State) (n table i : Nat) : List Nat :=
  let g := (tab s (Reg.OP_LUT_DATA0 n) (8192 * table + i)).toNat
  [natBits g 11 0, natBits g 23 12, natBits (tab s (Reg.OP_LUT_DATA1 n) (8192 * table + i)).toNat 11 0]

/-- Offset O_i of the pipe CSC: signed 13-bit. -/
def pipeOff (s : State) (n i : Nat) : Int :=
  match i with
  | 0 => signedOf 13 (natBits (rd s (Reg.OP_CSC_OFF0 n)).toNat 12 0)
  | 1 => signedOf 13 (natBits (rd s (Reg.OP_CSC_OFF0 n)).toNat 28 16)
  | _ => signedOf 13 (natBits (rd s (Reg.OP_CSC_OFF1 n)).toNat 12 0)

/-- Trilinear interpolation of the 3D LUT (R347). -/
def lut3d (s : State) (n : Nat) (v : List Nat) : List Nat :=
  let i (c : Nat) : Nat := v.getD c 0 / 256
  let f (c : Nat) : Nat := v.getD c 0 % 256
  let w (c b : Nat) : Nat := if b = 1 then f c else 256 - f c
  (List.range 3).map (fun o =>
    (((List.range 8).map (fun q =>
      let br := q / 4
      let bg := q / 2 % 2
      let bb := q % 2
      w 0 br * w 1 bg * w 2 bb * (lutEntry s n 2 (289 * (i 0 + br) + 17 * (i 1 + bg) + (i 2 + bb))).getD o 0)).sum + 2 ^ 23) / 2 ^ 24)

/-- Stage 8 (R347): 10-bit components to 12-bit ones. -/
def stage8 (s : State) (n : Nat) (c : List Nat) : List Nat :=
  let on (b : Bits) : Bool := flg s (Reg.OP_CTRL n) b
  let v := (List.range 3).map (fun k =>
    let x := c.getD k 0
    if on Fld.OP_CTRL_DEGAMMA_EN then (lutEntry s n 0 x).getD k 0 else x <<< 2 ||| x >>> 8)
  let v := if on Fld.OP_CTRL_CSC_EN then
      (List.range 3).map (fun i =>
        (clampI 0 4095 (asr (((List.range 3).map (fun k => matrixAt s (Reg.OP_CSC_M0 n) i k * ((v.getD k 0 : Nat) : Int))).sum + 2048) 12 + pipeOff s n i)).toNat)
    else v
  let v := if on Fld.OP_CTRL_LUT3D_EN then lut3d s n v else v
  if on Fld.OP_CTRL_REGAMMA_EN then
    (List.range 3).map (fun k =>
      let x := v.getD k 0
      ((lutEntry s n 1 (x / 4)).getD k 0 * (4 - x % 4) + (lutEntry s n 1 (x / 4 + 1)).getD k 0 * (x % 4) + 2) / 4)
  else v

/-- Bits per component of the panel (OP_CTRL.PANEL_BPC); 3 is not valid and reads as 8 here. -/
def bpcOf (code : Nat) : Nat := match code with | 0 => 6 | 2 => 10 | _ => 8

/-- Panel depth of an output. -/
def panelBits (s : State) (n : Nat) : Nat := bpcOf (fld s (Reg.OP_CTRL n) Fld.OP_CTRL_PANEL_BPC)

/-- Dither threshold B[row][column] (Table 11.4). -/
def ditherB (r c : Nat) : Nat :=
  (([[0, 8, 2, 10], [12, 4, 14, 6], [3, 11, 1, 9], [15, 7, 13, 5]] : List (List Nat)).getD (r % 4) []).getD (c % 4) 0

/-- Stage 9 (R348): a 12-bit component at a pixel of the active area, in frame `f`. -/
def dither (mode d x y f v : Nat) : Nat :=
  let sh := 12 - d
  let px := 2 * (f % 2)
  let py := 2 * (f / 2 % 2)
  let add :=
    if mode = 0 then 2 ^ (sh - 1)
    else
      let t := if mode = 1 then ditherB y x else ditherB (y + py) (x + px)
      t * 2 ^ sh / 16
  min (2 ^ d - 1) ((v + add) >>> sh)

/-- A 10-bit component at panel depth by rounding, with no dither (R395). -/
def roundTo (d v : Nat) : Nat := if d = 10 then v else min (2 ^ d - 1) ((v + 2 ^ (9 - d)) >>> (10 - d))

/-- The word of R404 for components at depth `d`. -/
def linkWord (d : Nat) (c : List Nat) : Word :=
  BitVec.ofNat 32 (widen d (c.getD 0 0) * 2 ^ 20 + widen d (c.getD 1 0) * 2 ^ 10 + widen d (c.getD 2 0))

/-! ### Skims (R300, R301) -/

/-- A signed 16.16 value. -/
def q16 (n : Nat) : Q := ⟨signedOf 32 n, 65536⟩

/-- A view as eight words: SX, SY, TX, TY, P00, P01, P10, P11. -/
def viewQ (v : List Nat) (i : Nat) : Q := q16 (v.getD i 0)

/-- The determinant of a view's pose. -/
def viewDet (v : List Nat) : Q := qSub (qMul (viewQ v 4) (viewQ v 7)) (qMul (viewQ v 5) (viewQ v 6))

/-- Is the pose below the limit of R300: |det P| < 2⁻¹⁶? -/
def poseFlat (v : List Nat) : Bool :=
  let d := viewDet v
  qLt (if d.n < 0 then qNeg d else d) ⟨1, 65536⟩

/-- V⁻¹ of a view at a point. -/
def viewInv (v : List Nat) (x y : Q) : Q × Q :=
  let dx := qSub x (viewQ v 2)
  let dy := qSub y (viewQ v 3)
  let d := viewDet v
  (qAdd (qDiv (qSub (qMul (viewQ v 7) dx) (qMul (viewQ v 5) dy)) d) (viewQ v 0),
   qAdd (qDiv (qSub (qMul (viewQ v 4) dy) (qMul (viewQ v 6) dx)) d) (viewQ v 1))

/-- V of a view at a point. -/
def viewFwd (v : List Nat) (x y : Q) : Q × Q :=
  let dx := qSub x (viewQ v 0)
  let dy := qSub y (viewQ v 1)
  (qAdd (qAdd (qMul (viewQ v 4) dx) (qMul (viewQ v 5) dy)) (viewQ v 2),
   qAdd (qAdd (qMul (viewQ v 6) dx) (qMul (viewQ v 7) dy)) (viewQ v 3))

/-- Bilinear sample of a plane of `w` × `h` samples at a point in its own coordinates, pixel centres at +0.5, clamped to the edge, as a 10-bit value. -/
def bilinear (get : Int → Int → Nat) (x y : Q) : Nat :=
  let hx := qSub x ⟨1, 2⟩
  let hy := qSub y ⟨1, 2⟩
  let ix := qFloor hx
  let iy := qFloor hy
  let fx := qSub hx (qInt ix)
  let fy := qSub hy (qInt iy)
  let g (a b : Int) : Q := qInt ((get a b : Nat) : Int)
  let lerp (a b t : Q) : Q := qAdd a (qMul (qSub b a) t)
  let v := lerp (lerp (g ix iy) (g (ix + 1) iy) fx) (lerp (g ix (iy + 1)) (g (ix + 1) (iy + 1)) fx) fy
  (clampI 0 1023 (qRne (f32v (f32 v)))).toNat

/-- A skimmed pixel (R300): `r`, `dw0`, `dh0` and `vf` are the source, destination size and view of the last composition without a skim, `vn` is the view now; (j, k) is the pixel in the layer's
destination rectangle. -/
def skimPixel (s : State) (r : Src) (dw0 dh0 : Nat) (vf vn : List Nat) (j k : Nat) : List Nat :=
  let o := viewInv vn ⟨2 * (j : Int) + 1, 2⟩ ⟨2 * (k : Int) + 1, 2⟩
  let p := viewFwd vf o.1 o.2
  let bx := qDiv (qMul p.1 (qInt (r.w : Int))) (qInt (dw0 : Int))
  let by_ := qDiv (qMul p.2 (qInt (r.h : Int))) (qInt (dh0 : Int))
  if isYc r.format then
    (let half (q : Q) : Q := qDiv q (qInt 2)
     let cx := if r.sitH then half bx else qAdd (half bx) ⟨1, 4⟩
     let cy := if sub420 r.format then (if r.sitV then half by_ else qAdd (half by_) ⟨1, 4⟩) else by_
     [bilinear (lumaAt s r) bx by_, bilinear (chromaAt s r 0) cx cy, bilinear (chromaAt s r 1) cx cy, 1023])
  else (List.range 4).map (fun c => bilinear (fun x y => (rgbAt s r x y).getD c 0) bx by_)

end Sys2Proof.Machine
end

