-- ==== Sys2Proof/Machine/Raster.lean ====
section
/-!
DEFINITION. Raster.lean: the fixed-function stages of the tile renderer as functions: clipping, snapping, coverage, depth and stencil tests, blending, formats (R256 to R269).
-/

namespace Sys2Proof.Machine

open Sys2Proof

/-! ### Formats (Table 8.4, Table 11.3) -/

/-- Memory bytes per pixel of a target format; 0 for a code that Table 8.4 does not list. -/
def fmtBytes (f : Nat) : Nat :=
  match f with
  | 0x01 => 4 | 0x02 => 4 | 0x03 => 2 | 0x04 => 8 | 0x05 => 4 | 0x06 => 1
  | 0x10 => 2 | 0x11 => 4 | 0x12 => 4 | 0x13 => 8
  | _ => 0

/-- Is it a colour format? -/
def fmtColor (f : Nat) : Bool := decide (1 ≤ f) && decide (f ≤ 6)
/-- Is it a depth format? -/
def fmtDepth (f : Nat) : Bool := decide (0x10 ≤ f) && decide (f ≤ 0x13)
/-- Does a depth format hold a stencil? -/
def fmtStencil (f : Nat) : Bool := f == 0x11 || f == 0x13

/-- Widths of red, green, blue and alpha of the unsigned normalised formats. -/
def unormWidths (f : Nat) : Option (Nat × Nat × Nat × Nat) :=
  match f with
  | 0x01 => some (8, 8, 8, 8)
  | 0x02 => some (10, 10, 10, 2)
  | 0x03 => some (5, 6, 5, 0)
  | _ => none

/-- A colour packed in a format (Table 11.3). -/
def packColor (f : Nat) (c : List Word) : Nat :=
  let v (i : Nat) : Q := f32v (c.getD i 0)
  match f with
  | 0x01 => toUnorm 8 (v 3) * 2 ^ 24 + toUnorm 8 (v 0) * 2 ^ 16 + toUnorm 8 (v 1) * 2 ^ 8 + toUnorm 8 (v 2)
  | 0x02 => toUnorm 2 (v 3) * 2 ^ 30 + toUnorm 10 (v 0) * 2 ^ 20 + toUnorm 10 (v 1) * 2 ^ 10 + toUnorm 10 (v 2)
  | 0x03 => toUnorm 5 (v 0) * 2 ^ 11 + toUnorm 6 (v 1) * 2 ^ 5 + toUnorm 5 (v 2)
  | 0x04 => roundFp 5 10 false (v 0) + roundFp 5 10 false (v 1) * 2 ^ 16 + roundFp 5 10 false (v 2) * 2 ^ 32 + roundFp 5 10 false (v 3) * 2 ^ 48
  | 0x05 => (c.getD 0 0).toNat
  | 0x06 => min 255 (c.getD 0 0).toNat
  | _ => 0

/-- The colour that a stored value holds, exactly, as FP32. -/
def unpackColor (f w : Nat) : List Word :=
  let u (n x : Nat) : Word := f32 (ofUnorm n x)
  match f with
  | 0x01 => [u 8 (natBits w 23 16), u 8 (natBits w 15 8), u 8 (natBits w 7 0), u 8 (natBits w 31 24)]
  | 0x02 => [u 10 (natBits w 29 20), u 10 (natBits w 19 10), u 10 (natBits w 9 0), u 2 (natBits w 31 30)]
  | 0x03 => [u 5 (natBits w 15 11), u 6 (natBits w 10 5), u 5 (natBits w 4 0), f32one]
  | 0x04 => (List.range 4).map (fun i => f32 (fpValue 5 10 (natBits w (16 * i + 15) (16 * i))))
  | 0x05 => [BitVec.ofNat 32 w, 0, 0, f32one]
  | 0x06 => [BitVec.ofNat 32 w, 0, 0, 0]
  | _ => [0, 0, 0, 0]

/-- A depth in [0, 1] or FP32 converted to a depth format (R258), its bits of the stored word. -/
def packDepth (f : Nat) (z : Word) : Nat :=
  match f with
  | 0x10 => toUnorm 16 (f32v z)
  | 0x11 => toUnorm 24 (f32v z)
  | _ => z.toNat

/-- A stored depth-stencil word from its parts: stencil above 24 depth bits, or in byte 4. -/
def joinDs (f depth stencil : Nat) : Nat :=
  match f with
  | 0x11 => depth % 2 ^ 24 + stencil % 256 * 2 ^ 24
  | 0x13 => depth % 2 ^ 32 + stencil % 256 * 2 ^ 32
  | _ => depth

/-- The depth bits of a stored word. -/
def dsDepth (f w : Nat) : Nat := match f with | 0x10 => w % 2 ^ 16 | 0x11 => w % 2 ^ 24 | _ => w % 2 ^ 32
/-- The stencil of a stored word. -/
def dsStencil (f w : Nat) : Nat := match f with | 0x11 => natBits w 31 24 | 0x13 => natBits w 39 32 | _ => 0

/-- The depth bits as a number to compare. -/
def depthQ (f d : Nat) : Q := if f = 0x12 ∨ f = 0x13 then f32v (BitVec.ofNat 32 d) else qInt d

/-! ### Clipping and snapping (R256, R257) -/

/-- A vertex where the edge from `a` to `b` meets the plane on which `da` and `db`, their signed distances, vanish. -/
def clipAt (a b : ClipVtx) (da db : Q) : ClipVtx :=
  let k := qDiv da (qSub da db)
  let m (u v : Word) : Word := f32 (qAdd (f32v u) (qMul k (qSub (f32v v) (f32v u))))
  ⟨m a.x b.x, m a.y b.y, m a.z b.z, m a.w b.w⟩

/-- Clip a convex polygon, or an open chain of two, to a half-space given by a signed distance. -/
def clipPlane (dist : ClipVtx → Q) (vs : List ClipVtx) : List ClipVtx :=
  match vs with
  | [] => []
  | [a] => if qLt (dist a) (qInt 0) then [] else [a]
  | a :: rest =>
    let next := if vs.length = 2 then rest else rest ++ [a]
    let inside (v : ClipVtx) : Bool := !qLt (dist v) (qInt 0)
    let out := (vs.zip next).flatMap (fun p =>
      (if inside p.1 then [p.1] else []) ++
      (if inside p.1 != inside p.2 then [clipAt p.1 p.2 (dist p.1) (dist p.2)] else []))
    if vs.length = 2 then (match vs.getLast? with | some z => if inside z then out ++ [z] else out | none => out) else out

/-- Clip to w ≥ 2⁻¹⁶, and to 0 ≤ z ≤ w when DEPTH_CLIP is set. The guard band lies outside every area and changes no sample of it. -/
def clipPrim (depthClip : Bool) (vs : List ClipVtx) : List ClipVtx :=
  let vs := clipPlane (fun v => qSub (f32v v.w) ⟨1, 65536⟩) vs
  if depthClip then clipPlane (fun v => qSub (f32v v.w) (f32v v.z)) (clipPlane (fun v => f32v v.z) vs) else vs

/-- A viewport as FP32 words: X, Y, W, H, ZMIN, ZMAX. -/
def snapVtx (vp : List Word) (depthClip : Bool) (v : ClipVtx) : SVtx :=
  let g (i : Nat) : Word := vp.getD i 0
  let half : Word := 0x3F000000
  let xs := f32add (g 0) (f32mul (f32mul (g 2) (f32add (f32div v.x v.w) f32one)) half)
  let ys := f32add (g 1) (f32mul (f32mul (g 3) (f32sub f32one (f32div v.y v.w))) half)
  let zs := f32add (g 4) (f32div (f32mul (f32sub (g 5) (g 4)) v.z) v.w)
  let zs := if depthClip then zs else f32max (f32min (g 4) (g 5)) (f32min zs (f32max (g 4) (g 5)))
  ⟨qRne (qMul (f32v xs) (qInt 256)), qRne (qMul (f32v ys) (qInt 256)), zs⟩

/-- Twice the signed area of a polygon: positive when it runs clockwise on a screen whose y increases downward. -/
def area2 (vs : List SVtx) : Int :=
  match vs with
  | [] => 0
  | a :: rest => ((vs.zip (rest ++ [a])).map (fun p => p.1.x * p.2.y - p.2.x * p.1.y)).sum

/-! ### Coverage (R258) -/

/-- Sample positions in 1/8 pixel. -/
def samplePos (samples i : Nat) : Int × Int :=
  if samples = 1 then (4, 4)
  else if samples = 2 then (if i = 0 then (6, 6) else (2, 2))
  else match i with
    | 0 => (3, 1)
    | 1 => (7, 3)
    | 2 => (1, 5)
    | _ => (5, 7)

/-- Is a point inside the edge from `a` to `b` of a clockwise polygon? A point on the edge counts for a top edge or a left edge only. Coordinates in 1/256 pixel. -/
def edgeIn (a b : Int × Int) (p : Int × Int) : Bool :=
  let dx := b.1 - a.1
  let dy := b.2 - a.2
  let e := dx * (p.2 - a.2) - dy * (p.1 - a.1)
  decide (0 < e) || (e == 0 && ((dy == 0 && decide (0 < dx)) || decide (dy < 0)))

/-- Is a point inside a convex polygon? -/
def polyIn (vs : List (Int × Int)) (p : Int × Int) : Bool :=
  match vs with
  | [] => false
  | a :: rest => (vs.zip (rest ++ [a])).all (fun e => edgeIn e.1 e.2 p)

/-- The outline of a primitive, clockwise, in 1/256 pixel (R258): a point's square, a line's parallelogram of width 1.0 along its minor axis, a polygon itself. -/
def outline (p : SPrim) : List (Int × Int) :=
  match p.verts with
  | [a] =>
    let h : Int := 128 * (p.size : Int)
    [(a.x - h, a.y - h), (a.x + h, a.y - h), (a.x + h, a.y + h), (a.x - h, a.y + h)]
  | [a, b] =>
    let steep := decide ((b.x - a.x).natAbs < (b.y - a.y).natAbs)
    let q : List (Int × Int) :=
      if steep then [(a.x - 128, a.y), (a.x + 128, a.y), (b.x + 128, b.y), (b.x - 128, b.y)]
      else [(a.x, a.y - 128), (b.x, b.y - 128), (b.x, b.y + 128), (a.x, a.y + 128)]
    let s : Int := ((q.zip (q.drop 1 ++ q.take 1)).map (fun e => e.1.1 * e.2.2 - e.2.1 * e.1.2)).sum
    if s < 0 then q.reverse else q
  | vs =>
    let o := vs.map (fun v => (v.x, v.y))
    if area2 vs < 0 then o.reverse else o

/-- Samples of pixel (x, y) that a primitive covers. -/
def covered (p : SPrim) (samples x y : Nat) : List Nat :=
  let o := outline p
  (List.range samples).filter (fun i =>
    let s := samplePos samples i
    polyIn o (256 * (x : Int) + 32 * s.1, 256 * (y : Int) + 32 * s.2))

/-- Depth at a point (in 1/256 pixel): the plane through the snapped vertices, exact and rounded once to FP32. -/
def depthAt (p : SPrim) (px py : Int) : Word :=
  match p.verts with
  | a :: b :: c :: _ =>
    let d := (b.x - a.x) * (c.y - a.y) - (c.x - a.x) * (b.y - a.y)
    if d = 0 then a.z
    else
      let u : Q := qDiv (qInt ((px - a.x) * (c.y - a.y) - (c.x - a.x) * (py - a.y))) (qInt d)
      let v : Q := qDiv (qInt ((b.x - a.x) * (py - a.y) - (px - a.x) * (b.y - a.y))) (qInt d)
      f32 (qAdd (f32v a.z) (qAdd (qMul u (qSub (f32v b.z) (f32v a.z))) (qMul v (qSub (f32v c.z) (f32v a.z)))))
  | [a, b] =>
    let steep := decide ((b.x - a.x).natAbs < (b.y - a.y).natAbs)
    let n := if steep then py - a.y else px - a.x
    let d := if steep then b.y - a.y else b.x - a.x
    if d = 0 then a.z else f32 (qAdd (f32v a.z) (qMul (qDiv (qInt n) (qInt d)) (qSub (f32v b.z) (f32v a.z))))
  | [a] => a.z
  | [] => 0

/-- Does a primitive produce a bin entry for the tile at (tx, ty) (R259): its bounding box meets the tile, and no edge has the whole tile on its outer side? -/
def meetsTile (p : SPrim) (tx ty : Nat) : Bool :=
  let o := outline p
  let x0 : Int := 8192 * tx
  let y0 : Int := 8192 * ty
  let corners : List (Int × Int) := [(x0, y0), (x0 + 8192, y0), (x0 + 8192, y0 + 8192), (x0, y0 + 8192)]
  let xs := o.map (·.1)
  let ys := o.map (·.2)
  let lo (l : List Int) : Int := l.foldl min (l.headD 0)
  let hi (l : List Int) : Int := l.foldl max (l.headD 0)
  let outer (e : (Int × Int) × (Int × Int)) : Bool :=
    corners.all (fun c => decide ((e.2.1 - e.1.1) * (c.2 - e.1.2) - (e.2.2 - e.1.2) * (c.1 - e.1.1) < 0))
  !o.isEmpty && decide (lo xs < x0 + 8192) && decide (x0 ≤ hi xs) && decide (lo ys < y0 + 8192) && decide (y0 ≤ hi ys) &&
    !((o.zip (o.drop 1 ++ o.take 1)).any outer)

/-! ### Tests and blending (R254, R264 to R266) -/

/-- A comparison function (Table 8.7). -/
def compareFn (f : Nat) (a b : Q) : Bool :=
  match f with
  | 0 => false
  | 1 => qLt a b
  | 2 => qLe a b && qLe b a
  | 3 => qLe a b
  | 4 => qLt b a
  | 5 => !(qLe a b && qLe b a)
  | 6 => qLe b a
  | _ => true

/-- A stencil operation (Table 8.7). -/
def stencilOp (op v ref : Nat) : Nat :=
  match op with
  | 0 => v
  | 1 => 0
  | 2 => ref
  | 3 => min 255 (v + 1)
  | 4 => v - 1
  | 5 => 255 - v
  | 6 => (v + 1) % 256
  | _ => (v + 255) % 256

/-- Word `i` of a STATE command as a number. -/
def stW (st : List Word) (i : Nat) : Nat := (st.getD i 0).toNat

/-- The depth and stencil tests of one sample (Table 8.7): does it pass, and the stored word after it. -/
def dsTest (st : List Word) (f w : Nat) (z : Nat) (ref : Nat) : Bool × Nat :=
  let a := stW st 4
  let b := stW st 5
  let c := stW st 6
  let sv := dsStencil f w
  let stencilOn := a.testBit 9 && fmtStencil f
  let rm := natBits b 15 8
  let wm := natBits b 23 16
  let sOk := !stencilOn || compareFn (natBits b 26 24) (qInt ((ref &&& rm : Nat) : Int)) (qInt ((sv &&& rm : Nat) : Int))
  let zOk := !a.testBit 7 || compareFn (natBits a 6 4) (depthQ f z) (depthQ f (dsDepth f w))
  let op := if sOk then (if zOk then natBits c 8 6 else natBits c 5 3) else natBits c 2 0
  let sv' := if stencilOn then (sv &&& (255 - wm)) ||| (stencilOp op sv ref &&& wm) else sv
  let d' := if sOk && zOk && a.testBit 8 then z else dsDepth f w
  (sOk && zOk, joinDs f d' sv')

/-- A blend factor (after Table 8.8) for a channel `i` (0 to 2 colour, 3 alpha). -/
def blendFactor (code i : Nat) (src dst cst : List Word) : Word :=
  let g (l : List Word) (k : Nat) : Word := l.getD k 0
  match code with
  | 0 => 0
  | 1 => f32one
  | 2 => g src i
  | 3 => f32sub f32one (g src i)
  | 4 => g dst i
  | 5 => f32sub f32one (g dst i)
  | 6 => g src 3
  | 7 => f32sub f32one (g src 3)
  | 8 => g dst 3
  | 9 => f32sub f32one (g dst 3)
  | 10 => g cst i
  | 11 => f32sub f32one (g cst i)
  | _ => if i = 3 then f32one else f32min (g src 3) (f32sub f32one (g dst 3))

/-- A blend operation of a channel. -/
def blendOp (op : Nat) (s sf d df : Word) : Word :=
  match op with
  | 0 => f32add (f32mul s sf) (f32mul d df)
  | 1 => f32sub (f32mul s sf) (f32mul d df)
  | 2 => f32sub (f32mul d df) (f32mul s sf)
  | 3 => f32min s d
  | _ => f32max s d

/-- Clamp to [0, 1] for the unsigned normalised formats (R266). -/
def clampUnorm (f : Nat) (c : List Word) : List Word :=
  if (unormWidths f).isSome then c.map (fun w => f32max 0 (f32min w f32one)) else c

/-- The stored value of a target after one fragment (R266, Table 8.8). -/
def blendPixel (f : Nat) (bw : Nat) (cst : List Word) (src : List Word) (old : Nat) : Nat :=
  if f = 0x06 then (if bw.testBit 27 then packColor 6 src else old)
  else
    let dst := unpackColor f old
    let src := clampUnorm f src
    let cst := clampUnorm f cst
    let res (i : Nat) : Word :=
      if bw.testBit 0 then
        (if i = 3 then blendOp (natBits bw 16 14) (src.getD 3 0) (blendFactor (natBits bw 21 17) 3 src dst cst) (dst.getD 3 0) (blendFactor (natBits bw 26 22) 3 src dst cst)
         else blendOp (natBits bw 3 1) (src.getD i 0) (blendFactor (natBits bw 8 4) i src dst cst) (dst.getD i 0) (blendFactor (natBits bw 13 9) i src dst cst))
      else src.getD i 0
    let out := clampUnorm f ((List.range 4).map (fun i => if bw.testBit (27 + i) then res i else dst.getD i 0))
    -- a channel that is not written keeps its stored bits
    let new := packColor f out
    match unormWidths f with
    | some (wr, wg, wb, wa) =>
      let keep (i hi lo : Nat) (x : Nat) : Nat := if bw.testBit (27 + i) ∨ hi < lo then x else x - natBits x hi lo * 2 ^ lo + natBits old hi lo * 2 ^ lo
      if wa = 0 then keep 2 4 0 (keep 1 10 5 (keep 0 15 11 new))
      else if wr = 8 then keep 3 31 24 (keep 2 7 0 (keep 1 15 8 (keep 0 23 16 new)))
      else keep 3 31 30 (keep 2 9 0 (keep 1 (9 + wg) 10 (keep 0 (19 + wb) 20 new)))
    | none => new

/-! ### Stores (R267) -/

/-- The mean of colours, in FP32. -/
def meanColor (cs : List (List Word)) : List Word :=
  (List.range 4).map (fun i =>
    f32div (cs.foldl (fun a c => f32add a (c.getD i 0)) 0) (f32 (qInt (cs.length : Int))))

end Sys2Proof.Machine
end

