-- ==== Sys2Proof/Machine/Jobs.lean ====
section
/-!
DEFINITION. Jobs.lean: job descriptors, submission checks and the command stream (R248 to R254, R274, R282, R283).
-/

namespace Sys2Proof.Machine

open Sys2Proof

/-! ### The address space of a job (R248) -/

/-- Bytes at an address of a job's space: device physical for class 0, else the function's context. -/
def jobRead (s : State) (dev : Bool) (fn a n : Nat) : List Byte := if dev then rdDpas s a n else rdIovas s fn a n

/-- Store bytes at an address of a job's space. -/
def jobWrite (dev : Bool) (fn a : Nat) (bs : List Byte) (s : State) : State := if dev then wrDpas a bs s else wrIovas fn 4 a bs s

/-- Is a range mapped with a permission, or in Holm memory for class 0 (Table 8.5)? Ranges of Holm memory are those between region borders of 2 MiB. -/
def jobRange (s : State) (dev : Bool) (fn : Nat) (write : Bool) (a n : Nat) : Bool :=
  if dev then (List.range ((a % 0x200000 + n + 0x1FFFFF) / 0x200000)).all (fun i =>
    let x := if i = 0 then a else a - a % 0x200000 + 0x200000 * i
    dpaMapped s x && dpaHolm s x)
  else rangeOk s fn write a n

/-! ### The descriptor (Tables 8.2 and 8.3) -/

/-- A target record. -/
def parseTarget (p : List Byte) : Target :=
  ⟨leAt p 0 8, leAt p 8 4, leAt p 0xC 1, leAt p 0xD 1, (List.range 4).map (fun i => BitVec.ofNat 32 (leAt p (0x10 + 4 * i) 4))⟩

/-- LOAD_OP. -/
def Target.load (r : Target) : Nat := r.ops % 4
/-- Is the target stored? -/
def Target.stored (r : Target) : Bool := natBits r.ops 3 2 == 0
/-- RESOLVE. -/
def Target.resolve (r : Target) : Bool := r.ops.testBit 4

/-- The number of records that a descriptor implies. -/
def recordCount (p : List Byte) : Nat := leAt p 3 1 + (if leAt p 9 1 = 0 then 0 else 1)

/-- A descriptor with its records; bytes beyond the command buffer do not count (they are not read). -/
def parseDesc (p : List Byte) : Desc :=
  let n := leAt p 3 1
  { jobType := leAt p 2 1, width := leAt p 4 2, height := leAt p 6 2, samples := leAt p 8 1, dflags := leAt p 9 1, cmdOffset := leAt p 0xC 4,
    binAddr := leAt p 0x10 8, binLen := leAt p 0x18 4,
    colors := (List.range n).map (fun i => parseTarget (slice p (0x40 + 32 * i) 32)),
    depth := if leAt p 9 1 = 0 then none else some (parseTarget (slice p (0x40 + 32 * n) 32)) }

/-- Columns and rows of tiles of the area. -/
def Desc.tilesX (d : Desc) : Nat := ceilDiv d.width 32
/-- Rows of tiles. -/
def Desc.tilesY (d : Desc) : Nat := ceilDiv d.height 32
/-- Tiles of the area. -/
def Desc.tileCount (d : Desc) : Nat := d.tilesX * d.tilesY

/-- Every attachment: colour targets, then depth-stencil. -/
def Desc.atts (d : Desc) : List Target := d.colors ++ d.depth.toList

/-- Tile bytes per pixel (R250): the sum of the tile bytes per sample times SAMPLES; a format's tile bytes equal its memory bytes. -/
def Desc.tileBytes (d : Desc) : Nat := ((d.atts.map (fun r => fmtBytes r.format)).sum) * d.samples

/-- Are reserved fields of the descriptor and of the records inside the buffer 0 (step 4)? -/
def descReserved (p : List Byte) (len : Nat) : Bool :=
  leAt p 0xA 2 == 0 && leAt p 0x1C 4 == 0 && leAt p 0x20 32 == 0 && decide (leAt p 9 1 < 4) &&
  (List.range (recordCount p)).all (fun i =>
    let o := 0x40 + 32 * i
    if o + 32 ≤ len then
      leAt p (o + 0xE) 2 == 0 && decide (leAt p (o + 0xD) 1 < 32) &&
        (decide (i < leAt p 3 1) || (leAt p (o + 0x15) 3 == 0 && leAt p (o + 0x18) 8 == 0))
    else true)

/-- A target record in the range of Tables 8.3 and 8.4 (step 6). -/
def targetOk (d : Desc) (isDepth : Bool) (r : Target) : Bool :=
  r.addr % 64 == 0 && r.pitch % 64 == 0 && (if isDepth then fmtDepth r.format else fmtColor r.format) &&
  decide (d.width * fmtBytes r.format * (if r.resolve then 1 else d.samples) ≤ r.pitch) && decide (r.load ≤ 2) && decide (natBits r.ops 3 2 ≤ 1)

/-- Every field in its range (step 6). -/
def descOk (d : Desc) (p : List Byte) (len : Nat) : Bool :=
  let comp := d.jobType == 1
  decide (leAt p 3 1 ≤ 8) && (if comp then leAt p 3 1 == 0 && d.width == 0 && d.height == 0 && d.samples == 1 && d.dflags == 0 && d.binAddr == 0 && d.binLen == 0
    else decide (1 ≤ d.width) && decide (d.width ≤ 16384) && decide (1 ≤ d.height) && decide (d.height ≤ 16384) &&
      (d.samples == 1 || d.samples == 2 || d.samples == 4) && d.binAddr % 4096 == 0) &&
  d.cmdOffset % 8 == 0 && decide (0x40 + 32 * recordCount p ≤ d.cmdOffset) && decide (d.cmdOffset < len) &&
  d.colors.all (targetOk d false) && (match d.depth with | some r => targetOk d true r && (!d.dflags.testBit 1 || fmtStencil r.format) | none => true)

/-- The checks of Table 8.5 on a job of a class, from step 3 on: what the first failing one answers. -/
def descCheck (s : State) (dev : Bool) (fn addr len bins jobType : Nat) : Option Status :=
  if jobRange s dev fn false addr len = false then some .addressFault
  else
    let p := jobRead s dev fn addr (min len (0x40 + 32 * 9))
    let d := parseDesc p
    if descReserved p len = false then some .reservedSet
    else if leAt p 0 2 ≠ 1 ∨ d.jobType ≠ jobType then some .paramInvalid
    else if descOk d p len = false then some .paramInvalid
    else if 128 < d.tileBytes then some .paramInvalid
    else if d.colors.any (fun r => r.format == 6) && !(dev && d.samples == 1) then some .paramInvalid
    else if d.jobType = 0 ∧ d.binLen < 32 * d.tileCount + 8 * bins then some .paramInvalid
    else if (d.atts.all (fun r => jobRange s dev fn true r.addr (r.pitch * d.height) && jobRange s dev fn false r.addr (r.pitch * d.height)) &&
        (d.jobType == 1 || (jobRange s dev fn true d.binAddr d.binLen && jobRange s dev fn false d.binAddr d.binLen))) = false then some .addressFault
    else none

/-- Does the cost block fit the job (R252)? -/
def jobCostOk (d : Desc) (c : Cost) : Bool :=
  if d.jobType = 1 then c.tiles == 0 && c.bins == 0 && c.binsTile == 0 && c.verts == 0 && c.frags == 0 && c.fragsTile == 0
  else decide (c.tiles ≤ d.tileCount) && decide (c.binsTile ≤ c.bins) && decide (c.fragsTile ≤ c.frags)

/-! ### Commands (R253, R254, Table 8.9) -/

/-- A program block (Table 9.4). -/
def parseProg (p : List Byte) : Prog :=
  ⟨leAt p 2 1, leAt p 3 1, leAt p 4 4, leAt p 8 8, leAt p 0x10 8, leAt p 0x18 4, leAt p 0x1C 4, leAt p 0x20 2, leAt p 0x22 2, leAt p 0x24 2, leAt p 0x26 2, leAt p 0x28 8, leAt p 0x30 4⟩

/-- Threads of a workgroup. -/
def Prog.group (g : Prog) : Nat := g.wgX * g.wgY * g.wgZ

/-- Waves that the dispatcher gives a context (R283). -/
def waves (comp : Bool) (attBytes : Nat) (g : Prog) : Nat :=
  let r := if comp then g.fregs else max g.vregs g.fregs
  let t := attBytes + g.workKib * 1024
  if r = 0 then 0 else min 32 (min (1024 / r) ((261120 - t) / (r * 128)))

/-- Is a program block valid (R282, R283)? `attBytes` are the attachment bytes of a tile. -/
def progOk (comp : Bool) (attBytes : Nat) (p : List Byte) : Bool :=
  let g := parseProg p
  let regOk (n : Nat) : Bool := decide (8 ≤ n) && decide (n ≤ 128) && n % 8 == 0
  let lenOk (n : Nat) : Bool := decide (n ≤ 65536) && n % 8 == 0
  leAt p 0 2 == 1 && regOk g.fregs && lenOk g.vlen && lenOk g.flen && decide (g.workKib ≤ 128) && decide (g.constLen ≤ 65536) && decide (g.pflags < 32) &&
  leAt p 0x34 12 == 0 && decide (waves comp attBytes g ≠ 0) &&
  (if comp then g.vregs == 0 && g.pflags == 0 && g.vprog == 0 && g.group % 32 == 0 && decide (32 ≤ g.group) && decide (g.group ≤ 1024) &&
      decide (g.group / 32 ≤ waves comp attBytes g)
   else regOk g.vregs && g.wgX == 0 && g.wgY == 0 && g.wgZ == 0)

/-- A BLEND word valid for its target (Table 8.8). -/
def blendOk (r : Option Target) (w : Nat) : Bool :=
  match r with
  | none => w == 0
  | some r =>
    decide (w < 2 ^ 31) && decide (natBits w 26 22 ≤ 12) && decide (natBits w 21 17 ≤ 12) && decide (natBits w 16 14 ≤ 4) && decide (natBits w 13 9 ≤ 12) &&
      decide (natBits w 8 4 ≤ 12) && decide (natBits w 3 1 ≤ 4) && !(w.testBit 0 && (r.format == 5 || r.format == 6)) &&
      !(r.format == 6 && decide (1 < natBits w 30 27))

/-- A STATE command's own words are valid (Table 8.7). -/
def stateWordsOk (d : Desc) (w : List Word) : Bool :=
  let g (i : Nat) : Nat := stW w i
  g 1 == 0 && natBits (g 4) 31 24 == 0 && natBits (g 4) 15 10 == 0 && g 4 % 4 != 3 && natBits (g 5) 31 27 == 0 && natBits (g 6) 31 9 == 0 && g 7 == 0 &&
  (List.range 8).all (fun i => blendOk d.colors[i]? (g (8 + i)))

/-- A rectangle in two words. -/
def parseRect (a b : Word) : Rect := ⟨natBits a.toNat 15 0, natBits a.toNat 31 16, natBits b.toNat 15 0, natBits b.toNat 31 16⟩

/-- WORDS of a command (Table 8.6); none for a code that is not in the table. -/
def cmdWords (c : Nat) : Option Nat :=
  match c with
  | 0 => some 2 | 1 => some 20 | 2 => some 8 | 3 => some 4 | 4 => some 4 | 5 => some 8 | 6 => some 4 | 7 => some 2 | 8 => some 2
  | _ => none

/-- Is the command allowed in the job type (Table 8.6)? -/
def cmdAllowed (comp : Bool) (c : Nat) : Bool :=
  match c with
  | 2 | 3 | 4 | 5 => !comp
  | 6 => comp
  | _ => true

/-- What reading one command gives. -/
inductive Parsed where
  | done
  | cmd (op : GOp) (words : Nat)
  | fault (code : Nat)
  deriving DecidableEq, Repr

/-- Judge one command (Table 8.9): `st` whether a STATE has come, `sec` whether a section is open, `canSec` whether the job declares sections, `block` reads a program block. -/
def parseCmd (d : Desc) (st sec canSec : Bool) (block : Nat → List Byte) (room : Nat) (w : List Word) : Parsed :=
  let comp := d.jobType == 1
  let h := stW w 0
  let c := natBits h 31 24
  match (if h = 0 then some 0 else cmdWords c) with
  | none => .fault 1
  | some n =>
    if h = 0 ∨ natBits h 15 0 ≠ n ∨ room < 4 * n then .fault 2
    else if cmdAllowed comp c = false then .fault 3
    else if natBits h 23 16 ≠ 0 then .fault 4
    else match c with
      | 0 => if stW w 1 ≠ 0 then .fault 4 else if sec then .fault 7 else .done
      | 1 =>
        let pb := block (stW w 2 + stW w 3 * 2 ^ 32)
        if stateWordsOk d w && progOk comp (1024 * d.tileBytes) pb then .cmd (.state w (parseProg pb)) n else .fault 4
      | 2 =>
        let a := stW w 1
        if a < 64 ∧ a % 16 ≤ 5 ∧ st then .cmd (.draw (a % 16) (stW w 2) (stW w 3)) n else .fault 4
      | 3 =>
        let a := stW w 1
        if decide (a < 1024) && decide (a % 256 < 2 ^ d.colors.length) && (!a.testBit 8 || d.dflags.testBit 0) && (!a.testBit 9 || d.dflags.testBit 1) then
          .cmd (.clear (a % 256) (a.testBit 8) (a.testBit 9) (parseRect (w.getD 2 0) (w.getD 3 0))) n
        else .fault 4
      | 4 =>
        if stW w 1 < 2 then .cmd (.scissor (if stW w 1 = 1 then some (parseRect (w.getD 2 0) (w.getD 3 0)) else none)) n else .fault 4
      | 5 => if stW w 7 = 0 then .cmd (.viewport (slice32 w 1 6)) n else .fault 4
      | 6 =>
        if st ∧ (List.range 3).all (fun i => decide (1 ≤ stW w (1 + i)) && decide (stW w (1 + i) ≤ 65535)) then .cmd (.dispatch (stW w 1) (stW w 2) (stW w 3)) n
        else .fault 4
      | 7 => if stW w 1 ≠ 0 then .fault 4 else if sec ∨ canSec = false then .fault 7 else .cmd .sectionBegin n
      | _ => if stW w 1 ≠ 0 then .fault 4 else if sec then .cmd .sectionEnd n else .fault 7
where
  /-- Words `o` to `o + n - 1`. -/
  slice32 (w : List Word) (o n : Nat) : List Word := (List.range n).map (fun i => w.getD (o + i) 0)

/-- Read the command stream from an offset (R253, R274): the commands up to END or the first fault, and that fault. The fuel is the number of words left. -/
def parseStream (d : Desc) (canSec : Bool) (read : Nat → Nat → List Byte) (block : Nat → List Byte) (len : Nat) :
    Nat → Nat → Bool → Bool → List GCmd × Option (Nat × Nat)
  | 0, off, _, _ => ([], some (6, off))
  | fuel + 1, off, st, sec =>
    if len ≤ off then ([], some (6, off))
    else
      let bs := read off (min 80 (len - off))
      let w := (List.range 20).map (fun i => BitVec.ofNat 32 (leAt bs (4 * i) 4))
      match parseCmd d st sec canSec block (len - off) w with
      | .done => ([], none)
      | .fault c => ([], some (c, off))
      | .cmd op n =>
        let st := match op with | .state _ _ => true | _ => st
        let sec := match op with | .sectionBegin => true | .sectionEnd => false | _ => sec
        let (cs, f) := parseStream d canSec read block len fuel (off + 4 * n) st sec
        (⟨off, op⟩ :: cs, f)

/-- The command buffer of a job, read at its start: descriptor, commands and fault. -/
def readJob (s : State) (dev : Bool) (fn addr len sect : Nat) : Desc × List GCmd × Option (Nat × Nat) :=
  let rd_ (a n : Nat) : List Byte := jobRead s dev fn a n
  let d := parseDesc (rd_ addr (min len (0x40 + 32 * 9)))
  let (cs, f) := parseStream d (decide (sect ≠ 0)) (fun o n => rd_ (addr + o) n) (fun a => rd_ a 64) len (len / 4) d.cmdOffset false false
  (d, cs, f)

/-! ### Submission (R251, R252) -/

/-- RENDER_SUBMIT (Table 3.6). -/
def opRenderSubmit : OpInfo := ⟨0x0401, (2, 0), .any, some .render, false, .fixed 16, false⟩
/-- COMPUTE_SUBMIT (Table 3.6). -/
def opComputeSubmit : OpInfo := ⟨0x0402, (2, 0), .any, some .compute, false, .fixed 16, false⟩

/-- Steps 12 and 13 of a job submission (R251, R551, R72); a poisoned descriptor returns ECC_UNCORRECTABLE (R221, R228). The descriptor read at the checks gives the costs their bounds. -/
def doSubmit (k : Kind) (c : Ctx) (s : State) : Ans :=
  let addr := leAt c.pay 0x68 8
  let len := leAt c.pay 0x70 4
  let fence := leAt c.pay 0x74 4
  let a := baseAsk c k s
  let dev := a.blk.cls == 0
  let jt := if k = .compute then 1 else 0
  if addr % 8 ≠ 0 then .reply (stOff .paramInvalid 0x68) s
  else if len % 8 ≠ 0 ∨ len < 0x48 ∨ 0x1000000 < len then .reply (stOff .paramInvalid 0x70) s
  else if jobRange s dev c.fn false addr len && ctxPoison s (if dev then none else some c.fn) addr (min len (0x40 + 32 * 9)) then .reply (stOnly .eccUncorrectable) s
  else match descCheck s dev c.fn addr len a.cost.bins jt with
    | some st => .reply (stOff st 0x68) s
    | none =>
      match contractGuard s c.fn (gatesNeeded k 0) with
      | some st => .reply (stOnly st) s
      | none =>
        let d := parseDesc (jobRead s dev c.fn addr (min len (0x40 + 32 * 9)))
        let a := { shaderAsk s a with blocksFit := a.blocksFit && jobCostOk d a.cost, params := [addr, len, fence] }
        let (pay, s, _) := admitReply a s
        .reply pay s

/-- Meaning of RENDER_SUBMIT (R251). -/
def execRenderSubmit (t : Tick) (q : Request) (s : State) : Out := gcp opRenderSubmit t q (doSubmit .render) s

/-- Meaning of COMPUTE_SUBMIT (R251). -/
def execComputeSubmit (t : Tick) (q : Request) (s : State) : Out := gcp opComputeSubmit t q (doSubmit .compute) s

/-! ### Fences (R272) -/

/-- FENCE_READ (Table 3.6). -/
def opFenceRead : OpInfo := ⟨0x0403, (2, 0), .any, none, true, .fixed 0, false⟩

/-- The fence of a function and world. -/
def fenceRec (s : State) (fn : Nat) (holm : Bool) : FenceRec := tget {} s.ren.fences (2 * fn + bit holm)

/-- Step 13 of FENCE_READ. -/
def doFenceRead (c : Ctx) (s : State) : Ans :=
  let f := fenceRec s c.fn c.holm
  .reply (stDone (le 4 f.value ++ le 8 f.stamp)) s

/-- Meaning of FENCE_READ (R272). -/
def execFenceRead (t : Tick) (q : Request) (s : State) : Out := gcp opFenceRead t q doFenceRead s

end Sys2Proof.Machine
end

