-- ==== Sys2Proof/Machine/Render.lean ====
section
/-!
DEFINITION. Render.lean: jobs at work: the vertex and fragment phases, compute, delivery, faults, the dispatcher, pre-emption and swaps (chapters 8 and 9).
-/

namespace Sys2Proof.Machine

open Sys2Proof

/-- Change the renderer. -/
def setRen (f : RenderState → RenderState) (s : State) : State := { s with ren := f s.ren }

/-- A job in progress. -/
def jobOf (s : State) (fn id inst : Nat) : Option Job := s.ren.jobs.find? (fun j => j.fn == fn && j.id == id && j.inst == inst)

/-- Change a job. -/
def setJob (fn id inst : Nat) (f : Job → Job) (s : State) : State :=
  setRen (fun r => { r with jobs := r.jobs.map (fun j => if j.fn == fn && j.id == id && j.inst == inst then f j else j) }) s

/-- A core. -/
def coreRec (s : State) (c : Nat) : Core := tget {} s.ren.cores c

/-- Set a core. -/
def setCore (c : Nat) (k : Core) (s : State) : State := setRen (fun r => { r with cores := tput {} r.cores c k }) s

/-- The context saved in a slot. -/
def slotCtx (s : State) (i : Nat) : Option SCtx := tget none s.ren.slots i

/-- The slots in use. -/
def usedSlots (s : State) : List Nat := (List.range 32).filter (fun i => (slotCtx s i).isSome)

/-- Is a context of the job? -/
def SCtx.of (x : SCtx) (fn id inst : Nat) : Bool :=
  x.fn == fn && x.id == id && x.inst == inst && (match x.step with | .skim _ _ _ => false | _ => true)

/-! ### Metering and credits (R275, R286) -/

/-- The pool of a context. -/
def ctxPool (x : SCtx) : Nat := if x.cls = 0 then 0 else if x.cls = 3 then 1 else 2 + x.fn

/-- SHD rate of a pool in kHz × permille. -/
def poolRate (s : State) (k : Nat) : Nat :=
  16 * shdKhz s * (if k = 0 then poolPermille s .reserve .shd else if k = 1 then poolPermille s .whey .shd else poolPermille s (.share (k - 2)) .shd)

/-- Contexts on cores. -/
def running (s : State) : List SCtx := (List.range 16).filterMap (fun c => (coreRec s c).ctx)

/-- Bring meters and credits up to now: every context on a core uses its core's cycles; each credit rises by its pool's rate and stays within 4,000 ticks of it. -/
def accrue (s : State) : State :=
  let dt := s.gtb - s.ren.creditAt
  if dt = 0 then s
  else
    let run := running s
    let credit (t : Table Int) (k : Nat) : Table Int :=
      let rate := poolRate s k
      let used := ((run.filter (fun x => ctxPool x == k)).length : Int) * (shdKhz s : Int) * 1000 * (dt : Int)
      tput 0 t k (min ((4000 * rate : Nat) : Int) (tget 0 t k + (rate : Int) * (dt : Int) - used))
    let s := run.foldl (fun s x => match x.step with | .skim _ _ _ => s | _ => meter x.fn x.id x.inst (shdKhz s * dt) 0 s) s
    setRen (fun r => { r with credits := (List.range 66).foldl credit r.credits, creditAt := s.gtb }) s

/-- Is a pool entitled (R286)? -/
def entitled (s : State) (k : Nat) : Bool := decide (0 < tget 0 s.ren.credits k)

/-- Leave a core: it is free, and remembers its occupant (R285). -/
def freeCore (c : Nat) (s : State) : State :=
  let k := coreRec s c
  setCore c { ctx := none, claimed := false, last := match k.ctx with | some x => some (x.holm, x.fn) | none => k.last } s

/-! ### The start of a job (R248, R299) -/

/-- Tiles that LOAD_OP CLEAR flags: the mask of attachments (bits 0 to 7 colours, 8 depth, 9 stencil). -/
def loadClearMask (d : Desc) : Nat :=
  (((List.range d.colors.length).filter (fun i => match d.colors[i]? with | some r => r.load == 1 | none => false)).map (fun i => 2 ^ i)).sum +
  (match d.depth with | some r => if r.load = 1 then 256 * (d.dflags % 4) else 0 | none => 0)

/-- Every attachment part of a job. -/
def allMask (d : Desc) : Nat := 2 ^ d.colors.length - 1 + 256 * (d.dflags % 4)

/-- The clear flags of a tile (R268). -/
def tileFlags (j : Job) (i : Nat) : Nat := tget 0 j.clears i ||| loadClearMask j.desc

/-- A touched tile (R261). -/
def touched (j : Job) (i : Nat) : Bool := !(tget [] j.bins i).isEmpty || tileFlags j i != 0

/-- Keep the frames that layers may still show: the last 8 of a contract. -/
def addFrame (f : FrameRec) (l : List FrameRec) : List FrameRec :=
  let own := l.filter (fun x => x.fn == f.fn && x.id == f.id)
  (if own.length < 8 then l else match own with | o :: _ => l.erase o | [] => l) ++ [f]

/-- Begin the work of a job whose command buffer lies at an address (R248): the front end reads it. -/
def startJobAt (c : Contract) (cls addr len fence : Nat) (s : State) : State :=
  let (d, cs, f) := readJob s (cls == 0) c.fn addr len c.cost.sect
  let w := instWindow s c
  let j : Job := { fn := c.fn, id := c.id, inst := c.inst, holm := c.holm, cls := cls, deadline := w.2, sect := c.cost.sect, cmdAddr := addr, fence := fence,
                   desc := d, cmds := cs, fault := f, phase := if d.jobType = 1 then .compute else .vertex }
  setRen (fun r => { r with jobs := r.jobs ++ [j], frames := addFrame ⟨c.fn, c.id, c.inst, w.1, none⟩ r.frames }) s

/-- Begin the work of the present instance of a RENDER or COMPUTE contract. -/
def startJob (c : Contract) (s : State) : State :=
  startJobAt c c.blk.cls (c.params.getD 0 0) (c.params.getD 1 0) (c.params.getD 2 0) s

/-! ### State before a command -/

/-- The STATE in force at a command, with its program block and its own byte offset. -/
def stateAt (cs : List GCmd) (i : Nat) : Option (List Word × Prog × Nat) :=
  (cs.take i).foldl (fun a c => match c.op with | .state w g => some (w, g, c.off) | _ => a) none

/-- The scissor in force at a command. -/
def scissorAt (cs : List GCmd) (i : Nat) : Option Rect :=
  (cs.take i).foldl (fun a c => match c.op with | .scissor r => r | _ => a) none

/-- The viewport in force at a command. -/
def viewportAt (d : Desc) (cs : List GCmd) (i : Nat) : List Word :=
  (cs.take i).foldl (fun a c => match c.op with | .viewport v => v | _ => a)
    [0, 0, f32 (qInt (d.width : Int)), f32 (qInt (d.height : Int)), 0, f32one]

/-- Does a command lie in a non-pre-emptible section (R253)? -/
def inSection (cs : List GCmd) (i : Nat) : Bool :=
  (cs.take i).foldl (fun a c => match c.op with | .sectionBegin => true | .sectionEnd => false | _ => a) false

/-- Primitives of a DRAW (R255): of each instance by its topology. -/
def drawPrims (topology count instances : Nat) : Nat :=
  instances * (match topology with
    | 0 => count
    | 1 => count / 2
    | 2 => count - 1
    | 3 => count / 3
    | 4 => count - 2
    | _ => count - 2)

/-- Primitives of command `i`; none for a command that draws nothing. -/
def cmdPrims (j : Job) (i : Nat) : Nat :=
  match j.cmds[i]? with
  | some ⟨_, .draw tp n k⟩ => drawPrims tp n k
  | _ => 0

/-! ### The vertex phase (R255 to R260) -/

/-- The next vertex batch at or after a place: its command, first primitive and length (R284: at most 256). -/
def nextBatch (j : Job) : Nat → Nat → Nat → Option (Nat × Nat × Nat)
  | 0, _, _ => none
  | fuel + 1, cmd, prim =>
    if j.cmds.length ≤ cmd then none
    else if prim < cmdPrims j cmd then some (cmd, prim, min 256 (cmdPrims j cmd - prim))
    else nextBatch j fuel (cmd + 1) 0

/-- The next batch of a job to place. -/
def jobBatch (j : Job) : Option (Nat × Nat × Nat) := if j.phase = .vertex then nextBatch j (j.cmds.length + 1) j.cmd j.prim else none

/-- A primitive after clipping, snapping and culling (R256, R257); none when nothing of it is left. -/
def screenPrim (j : Job) (cmd : Nat) (p : ClipPrim) : Option SPrim :=
  match stateAt j.cmds cmd with
  | none => none
  | some (st, _, _) =>
    let a := stW st 4
    let vs := clipPrim (a.testBit 3) p.verts
    let sv := vs.map (snapVtx (viewportAt j.desc j.cmds cmd) (a.testBit 3))
    let size := if natBits a 23 16 = 0 then max 1 (min 255 p.size) else natBits a 23 16
    if sv.isEmpty then none
    else if p.verts.length < 3 then some ⟨cmd, size, sv⟩
    else
      let ar := area2 sv
      let front := decide (0 < ar) == a.testBit 2
      if ar = 0 ∨ (a % 4 = 1 ∧ front) ∨ (a % 4 = 2 ∧ front = false) then none else some ⟨cmd, size, sv⟩

/-- Tiles of the area that a primitive produces entries for (R259). -/
def primTiles (j : Job) (p : SPrim) : List Nat :=
  (List.range j.desc.tileCount).filter (fun i =>
    let tx := i % j.desc.tilesX
    let ty := i / j.desc.tilesX
    meetsTile p tx ty &&
    (match scissorAt j.cmds p.cmd with
     | none => true
     | some r => decide (r.x0 < 32 * tx + 32) && decide (32 * tx < r.x1) && decide (r.y0 < 32 * ty + 32) && decide (32 * ty < r.y1)))

/-- Does one more bin entry fit (R259)? -/
def entryFits (j : Job) : Bool := decide (32 * j.desc.tileCount + 8 * (j.entries + 1) ≤ j.desc.binLen)

/-- The front end stops at a fault (R274): it executes no further command; what is binned is rendered. -/
def stopFront (code off : Nat) (j : Job) : Job :=
  if j.reported then j
  else { j with fault := some (code, off), cmd := j.cmds.length, bcmd := j.cmds.length, outs := [], wg := 0,
                begun := false }

/-- Add a bin entry to a tile; an entry that does not fit stops binning with BIN_OVERFLOW. -/
def addEntry (cmd : Nat) (p : Option SPrim) (j : Job) (i : Nat) : Job :=
  if j.bcmd = j.cmds.length then j
  else if entryFits j then { j with bins := tput [] j.bins i (tget [] j.bins i ++ [⟨cmd, j.entries, p⟩]), entries := j.entries + 1 }
  else stopFront 5 (match j.cmds[cmd]? with | some c => c.off | none => 0) j

/-- A CLEAR at its place in the stream (R269). -/
def applyClear (cmd mask : Nat) (depth stencil : Bool) (r : Rect) (j : Job) : Job :=
  let d := j.desc
  let x1 := min r.x1 d.width
  let y1 := min r.y1 d.height
  let named := mask + 256 * bit depth + 512 * bit stencil
  if x1 ≤ r.x0 ∨ y1 ≤ r.y0 then j
  else (List.range d.tileCount).foldl (fun j i =>
    let tx := 32 * (i % d.tilesX)
    let ty := 32 * (i / d.tilesX)
    let meets := decide (r.x0 < tx + 32) && decide (tx < x1) && decide (r.y0 < ty + 32) && decide (ty < y1)
    let full := decide (r.x0 ≤ tx) && decide (min (tx + 32) d.width ≤ x1) && decide (r.y0 ≤ ty) && decide (min (ty + 32) d.height ≤ y1)
    if !meets then j
    else if full && named == allMask d then { j with bins := tput [] j.bins i [], clears := tput 0 j.clears i (tget 0 j.clears i ||| named) }
    else if full && (tget [] j.bins i).isEmpty then { j with clears := tput 0 j.clears i (tget 0 j.clears i ||| named) }
    else addEntry cmd none j i) j

/-- The binner goes on in submission order as far as finished batches let it (R255). -/
def binOn : Nat → Job → Job
  | 0, j => j
  | fuel + 1, j =>
    match j.cmds[j.bcmd]? with
    | none => j
    | some c =>
      match c.op with
      | .draw _ _ _ =>
        if cmdPrims j j.bcmd ≤ j.bprim then binOn fuel { j with bcmd := j.bcmd + 1, bprim := 0 }
        else
          (match j.outs.find? (fun o => o.1 == j.bcmd && o.2.1 == j.bprim) with
           | none => j
           | some o =>
             let j := { j with outs := j.outs.erase o, bprim := j.bprim + o.2.2.1 }
             let j := o.2.2.2.foldl (fun j p => (primTiles j p).foldl (addEntry o.1 (some p)) j) j
             binOn fuel j)
      | .clear m d st r => let j := applyClear j.bcmd m d st r j; binOn fuel (if j.bcmd = j.cmds.length then j else { j with bcmd := j.bcmd + 1, bprim := 0 })
      | _ => binOn fuel { j with bcmd := j.bcmd + 1, bprim := 0 }

/-- The end of a batch (R284): its primitives go to the binner. -/
def batchDone (cmd prim len : Nat) (ps : List ClipPrim) (j : Job) : Job :=
  let sp := ps.filterMap (screenPrim j cmd)
  let j := if j.bcmd = j.cmds.length then j else { j with outs := j.outs ++ [(cmd, prim, len, sp)] }
  binOn (2 * j.cmds.length + j.outs.length + 2) j

/-- An address of a job's accesses: those in the Creamline window of an output go to its back buffer (R399). -/
def jobAddr (j : Job) (a : Nat) : Nat :=
  let base := vatBase + 0x400000 * (j.win - 1)
  if j.win ≠ 0 ∧ base ≤ a ∧ a < base + 0x200000 then a + 0x200000 else a

/-- Stores that the programs of a step made. -/
def jobStores (j : Job) (ws : List MemWrite) (s : State) : State :=
  ws.foldl (fun s w => jobWrite (j.cls == 0) j.fn (jobAddr j w.addr.toNat) w.bytes s) s

/-- Meaning of VERTEX_BATCH_END (R284): the batch on a core ends; `prims` are the primitives that assembly formed from its vertices, `writes` the stores of its programs, `drb` its DRAM bytes. -/
def execVertexBatchEnd (t : Tick) (core : BitVec 4) (prims : List ClipPrim) (writes : List MemWrite) (drb : BitVec 40) (s : State) : Out :=
  let s := accrue (advance t s)
  match (coreRec s core.toNat).ctx with
  | some x =>
    (match x.step, jobOf s x.fn x.id x.inst with
     | .batch cmd prim len, some j =>
       let s := freeCore core.toNat (meter x.fn x.id x.inst 0 drb.toNat (jobStores j writes s))
       .next (setJob x.fn x.id x.inst (batchDone cmd prim len prims) s)
     | _, _ => .next s)
  | none => .next s

/-- Is every primitive of the job binned (R261)? CLEARs at the end of the stream are applied by the binner as it passes them. -/
def vertexDone (s : State) (j : Job) : Bool :=
  j.phase == .vertex && (jobBatch j).isNone && decide (j.cmds.length ≤ j.bcmd) &&
  !((running s ++ (usedSlots s).filterMap (slotCtx s)).any (fun x => x.of j.fn j.id j.inst))

/-- The fragment phase begins: the touched tiles in row-major order. -/
def toFragment (j : Job) : Job := { j with phase := .fragment, tiles := (List.range j.desc.tileCount).filter (touched j) }

/-- Meaning of VERTEX_PHASE_DONE (R261). -/
def execVertexPhaseDone (t : Tick) (fn : Fn) (id inst : Word) (s : State) : Out :=
  let s := accrue (advance t s)
  match jobOf s fn.val id.toNat inst.toNat with
  | some j =>
    let j' := binOn (2 * j.cmds.length + 2) j
    if vertexDone s j' then .next (setJob j.fn j.id j.inst (fun _ => toFragment j') s) else .next s
  | none => .next s

/-! ### The fragment phase (R261 to R269) -/

/-- Meaning of TILE_DISPATCH (R261, R262): a core assigned to a job takes its next tile. -/
def execTileDispatch (t : Tick) (core : BitVec 4) (s : State) : Out :=
  let s := accrue (advance t s)
  let k := coreRec s core.toNat
  match k.ctx with
  | some x =>
    (match x.step, jobOf s x.fn x.id x.inst with
     | .tile none, some j =>
       (match j.tiles with
        | i :: rest =>
          let sec := match tget [] j.bins i with | e :: _ => inSection j.cmds e.cmd | [] => false
          let s := setCore core.toNat { k with ctx := some { x with step := .tile (some i), sectAt := if sec then some s.gtb else none } } s
          .next (setJob x.fn x.id x.inst (fun j => { j with tiles := rest, tilesOut := j.tilesOut + 1 }) s)
        | [] => .next (freeCore core.toNat s))
     | _, _ => .next s)
  | none => .next s

/-- The key of a sample of an attachment in tile memory. -/
def tmKey (att pix smp : Nat) : Nat := (att * 1024 + pix) * 4 + smp

/-- Address of a pixel of a target (R267), and its bytes there. -/
def pixAddr (d : Desc) (r : Target) (x y : Nat) : Nat × Nat :=
  let n := fmtBytes r.format * (if r.resolve then 1 else d.samples)
  (r.addr + y * r.pitch + x * n, n)

/-- The packed clear value of an attachment. -/
def clearWord (isDepth : Bool) (r : Target) : Nat :=
  if isDepth then joinDs r.format (packDepth r.format (r.clear.getD 0 0)) ((r.clear.getD 1 0).toNat % 256) else packColor r.format r.clear

/-- The initial word of a sample (R267, R268): from the clear value where flagged, loaded, or zero. A depth-stencil record has a flag for each part. -/
def initWord (s : State) (j : Job) (tile att : Nat) (r : Target) (x y smp : Nat) : Nat :=
  let d := j.desc
  let isDepth := att == d.colors.length
  let fl := tileFlags j tile
  let loaded : Nat :=
    if r.load = 0 then
      (let (a, n) := pixAddr d r x y
       let b := fmtBytes r.format
       leAt (jobRead s (j.cls == 0) j.fn (jobAddr j a) n) (if r.resolve then 0 else smp * b) b)
    else 0
  if isDepth then
    (let c := clearWord true r
     joinDs r.format (dsDepth r.format (if fl.testBit 8 then c else loaded)) (dsStencil r.format (if fl.testBit 9 then c else loaded)))
  else if fl.testBit att then clearWord false r else loaded

/-- Area pixels of a tile. -/
def tilePixels (d : Desc) (tile : Nat) : List (Nat × Nat) :=
  let x0 := 32 * (tile % d.tilesX)
  let y0 := 32 * (tile / d.tilesX)
  (List.range 1024).filterMap (fun p =>
    let x := x0 + p % 32
    let y := y0 + p / 32
    if x < d.width ∧ y < d.height then some (x, y) else none)

/-- Tile memory before the first entry. -/
def initTile (s : State) (j : Job) (tile : Nat) : Table Nat :=
  (j.desc.atts.zipIdx).foldl (fun tm ra =>
    (tilePixels j.desc tile).foldl (fun tm p =>
      (List.range j.desc.samples).foldl (fun tm k => tput 0 tm (tmKey ra.2 (p.1 % 32 + 32 * (p.2 % 32)) k) (initWord s j tile ra.2 ra.1 p.1 p.2 k)) tm) tm) []

/-- A sample that passed the depth pass (R265): its entry, pixel, sample, whether its primitive is opaque, its segment. -/
structure Passed where
  entry : Nat
  pix : Nat
  smp : Nat
  opq : Bool
  seg : Nat
  deriving DecidableEq, Repr

/-- A tile at work: its memory, what passed, the segment. -/
structure TileRun where
  tm : Table Nat
  passed : List Passed
  seg : Nat

/-- Is a primitive opaque under a state (R265)? -/
def isOpaque (d : Desc) (st : List Word) (g : Prog) : Bool :=
  let a := stW st 4
  let f := natBits a 6 4
  (List.range d.colors.length).all (fun i => !(stW st (8 + i)).testBit 0 && natBits (stW st (8 + i)) 30 27 == 15) &&
    a.testBit 7 && a.testBit 8 && (f == 1 || f == 3 || f == 4 || f == 6) && g.pflags % 16 == 0

/-- What a fragment program left for a pixel or sample; a component that the command does not give is a free value. -/
def fragFor (base : Nat) (frags : List Frag) (perSample : Bool) (entry x y smp targets : Nat) : Frag :=
  match frags.find? (fun f => f.entry == entry && f.x.val == x && f.y.val == y && (!perSample || f.sample.val == smp)) with
  | some f => f
  | none =>
    let k := base + ((entry * 1024 + 32 * y + x) * 4 + smp) * 32
    ⟨entry, Fin.ofNat 32 x, Fin.ofNat 32 y, Fin.ofNat 4 smp, false, (List.range targets).map (fun i => (List.range 4).map (fun c => Config.shaded (k + 4 * i + c))), none, none, none⟩

/-- One covered sample of a primitive through tests and blending (R264, R266). -/
def sampleStep (d : Desc) (st : List Word) (f : Frag) (p : SPrim) (ordered opq : Bool) (entry pix px py : Nat) (smp : Nat) (r : TileRun) : TileRun :=
  let pos := samplePos d.samples smp
  let z := match f.depth with | some z => if ordered then z else depthAt p (256 * (px : Int) + 32 * pos.1) (256 * (py : Int) + 32 * pos.2)
                              | none => depthAt p (256 * (px : Int) + 32 * pos.1) (256 * (py : Int) + 32 * pos.2)
  let ref := match f.stencil with | some v => if ordered then v.toNat else natBits (stW st 5) 7 0 | none => natBits (stW st 5) 7 0
  let (pass, tm) : Bool × Table Nat := match d.depth with
    | none => (true, r.tm)
    | some dr =>
      let k := tmKey d.colors.length pix smp
      let (ok, w) := dsTest st dr.format (tget 0 r.tm k) (packDepth dr.format z) ref
      (ok, tput 0 r.tm k w)
  if pass then
    { r with
      tm := (d.colors.zipIdx).foldl (fun tm ra =>
        let k := tmKey ra.2 pix smp
        tput 0 tm k (blendPixel ra.1.format (stW st (8 + ra.2)) ((List.range 4).map (fun i => st.getD (16 + i) 0)) (f.color.getD ra.2 []) (tget 0 tm k))) tm,
      passed := ⟨entry, pix, smp, opq, r.seg⟩ :: r.passed }
  else { r with tm := tm }

/-- One primitive of a tile's list. -/
def primStep (base : Nat) (j : Job) (frags : List Frag) (tile idx : Nat) (p : SPrim) (r : TileRun) : TileRun :=
  match stateAt j.cmds p.cmd with
  | none => r
  | some (st, g, _) =>
    let d := j.desc
    let ordered := g.pflags % 16 != 0
    let opq := isOpaque d st g
    let inSc (x y : Nat) : Bool := match scissorAt j.cmds p.cmd with
      | none => true
      | some c => decide (c.x0 ≤ x) && decide (x < c.x1) && decide (c.y0 ≤ y) && decide (y < c.y1)
    let r := (tilePixels d tile).foldl (fun r px =>
      if inSc px.1 px.2 then
        let pix := px.1 % 32 + 32 * (px.2 % 32)
        (covered p d.samples px.1 px.2).foldl (fun r k =>
          let f := fragFor base frags (g.pflags.testBit 4) idx (px.1 % 32) (px.2 % 32) k d.colors.length
          let masked := match f.mask with | some m => ordered && !m.toNat.testBit k | none => false
          if ordered && f.discard || masked then r else sampleStep d st f p ordered opq idx pix px.1 px.2 k r) r
      else r) r
    if ordered then { r with seg := r.seg + 1 } else r

/-- A fill entry of a CLEAR (R269). -/
def fillStep (j : Job) (tile cmd : Nat) (r : TileRun) : TileRun :=
  match j.cmds[cmd]? with
  | some ⟨_, .clear m dp stn rc⟩ =>
    let d := j.desc
    let tm := (tilePixels d tile).foldl (fun tm px =>
      if rc.x0 ≤ px.1 ∧ px.1 < rc.x1 ∧ rc.y0 ≤ px.2 ∧ px.2 < rc.y1 then
        let pix := px.1 % 32 + 32 * (px.2 % 32)
        (List.range d.samples).foldl (fun tm k =>
          let tm := (d.colors.zipIdx).foldl (fun tm ra => if m.testBit ra.2 then tput 0 tm (tmKey ra.2 pix k) (clearWord false ra.1) else tm) tm
          match d.depth with
          | some dr =>
            let key := tmKey d.colors.length pix k
            let old := tget 0 tm key
            let c := clearWord true dr
            tput 0 tm key (joinDs dr.format (dsDepth dr.format (if dp then c else old)) (dsStencil dr.format (if stn then c else old)))
          | none => tm) tm
      else tm) r.tm
    { r with tm := tm }
  | _ => r

/-- A tile from its first entry to its last. -/
def runTile (s : State) (j : Job) (frags : List Frag) (tile : Nat) : TileRun :=
  ((tget [] j.bins tile).zipIdx).foldl (fun r e =>
    match e.1.prim with
    | some p => primStep s.drawn j frags tile e.2 p r
    | none => fillStep j tile e.1.cmd r) ⟨initTile s j tile, [], 0⟩

/-- Fragments that passed the depth pass and were not shaded (Table 8.16): no sample of them is free of a later opaque fragment of their segment. `passed` has the latest first. -/
def removedCount (passed : List Passed) : Nat :=
  let rec go (later seen shaded : List Passed) : List Passed → List Passed × List Passed
    | [] => (seen, shaded)
    | e :: es =>
      let hidden := later.any (fun q => q.pix == e.pix && q.smp == e.smp && q.seg == e.seg && q.opq && decide (e.entry < q.entry))
      go (e :: later) (if seen.any (fun q => q.entry == e.entry && q.pix == e.pix) then seen else e :: seen)
        (if hidden || shaded.any (fun q => q.entry == e.entry && q.pix == e.pix) then shaded else e :: shaded) es
  let (seen, shaded) := go [] [] [] passed
  seen.length - shaded.length

/-- The bytes that a store writes for one pixel (R267). -/
def storePixel (d : Desc) (isDepth : Bool) (r : Target) (w : Nat → Nat) : List Byte :=
  let b := fmtBytes r.format
  if r.resolve then
    (if isDepth || d.samples == 1 then le b (w 0)
     else le b (packColor r.format (meanColor ((List.range d.samples).map (fun k => unpackColor r.format (w k))))))
  else (List.range d.samples).flatMap (fun k => le b (w k))

/-- Store every attachment of a tile that its STORE_OP stores. -/
def storeTile (j : Job) (tile : Nat) (tm : Table Nat) (s : State) : State :=
  let d := j.desc
  (d.atts.zipIdx).foldl (fun s ra =>
    if ra.1.stored then
      (tilePixels d tile).foldl (fun s px =>
        jobWrite (j.cls == 0) j.fn (jobAddr j (pixAddr d ra.1 px.1 px.2).1)
          (storePixel d (ra.2 == d.colors.length) ra.1 (fun k => tget 0 tm (tmKey ra.2 (px.1 % 32 + 32 * (px.2 % 32)) k))) s) s
    else s) s

/-- Add to a counter register modulo 2³². -/
def bump32 (off n : Nat) (s : State) : State := wr off (rd s off + BitVec.ofNat 32 n) s

/-- Meaning of TILE_STORE_DONE (R264, R267): the tile on a core is complete and stored; `frags` are what its fragment programs left, `writes` the stores they made, `drb` the DRAM bytes. -/
def execTileStoreDone (t : Tick) (core : BitVec 4) (frags : List Frag) (writes : List MemWrite) (drb : BitVec 40) (s : State) : Out :=
  let s := accrue (advance t s)
  match (coreRec s core.toNat).ctx with
  | some x =>
    (match x.step, jobOf s x.fn x.id x.inst with
     | .tile (some i), some j =>
       let r := runTile s j frags i
       let s := { s with drawn := s.drawn + 1 }
       let s := storeTile j i r.tm (jobStores j writes s)
       let s := bump32 Reg.GPX_CNT_TILES 1 (bump32 Reg.GPX_CNT_HSR (removedCount r.passed) s)
       let s := freeCore core.toNat (meter x.fn x.id x.inst 0 drb.toNat s)
       .next (setJob x.fn x.id x.inst (fun j => { j with tilesOut := j.tilesOut - 1 }) s)
     | _, _ => .next s)
  | none => .next s

/-! ### Compute (R270) -/

/-- The DISPATCH in progress or next at or after a command. -/
def nextDispatch (cs : List GCmd) : Nat → Nat → Option (Nat × Nat)
  | 0, _ => none
  | fuel + 1, i =>
    match cs[i]? with
    | none => none
    | some ⟨_, .dispatch x y z⟩ => some (i, x * y * z)
    | some _ => nextDispatch cs fuel (i + 1)

/-- The dispatch of a compute job with its number of workgroups. -/
def jobDispatch (j : Job) : Option (Nat × Nat) := if j.phase = .compute then nextDispatch j.cmds (j.cmds.length + 1) j.cmd else none

/-- The next workgroup of a begun dispatch (R270). -/
def jobGroup (j : Job) : Option (Nat × Nat) :=
  match jobDispatch j with
  | some (i, n) => if j.begun ∧ j.wg < n then some (i, j.wg) else none
  | none => none

/-- Meaning of DISPATCH_BEGIN (R270): the next DISPATCH begins, every workgroup of the previous one being complete. -/
def execDispatchBegin (t : Tick) (fn : Fn) (id inst : Word) (s : State) : Out :=
  let s := accrue (advance t s)
  match jobOf s fn.val id.toNat inst.toNat with
  | some j => if (jobDispatch j).isSome ∧ j.begun = false ∧ j.wgOut = 0 then .next (setJob j.fn j.id j.inst (fun j => { j with begun := true, wg := 0 }) s) else .next s
  | none => .next s

/-- A workgroup leaves its core; the last one of a dispatch moves the job on. -/
def groupEnd (j : Job) : Job :=
  let j := { j with wgOut := j.wgOut - 1 }
  match jobDispatch j with
  | some (i, n) => if j.begun ∧ n ≤ j.wg ∧ j.wgOut = 0 then { j with begun := false, wg := 0, cmd := i + 1 } else j
  | none => j

/-- Meaning of WORKGROUP_DONE (R270): the workgroup on a core completes; `writes` are the stores of its invocations, `drb` its DRAM bytes. -/
def execWorkgroupDone (t : Tick) (core : BitVec 4) (writes : List MemWrite) (drb : BitVec 40) (s : State) : Out :=
  let s := accrue (advance t s)
  match (coreRec s core.toNat).ctx with
  | some x =>
    (match x.step, jobOf s x.fn x.id x.inst with
     | .group _ _, some j =>
       let s := freeCore core.toNat (meter x.fn x.id x.inst 0 drb.toNat (jobStores j writes s))
       .next (setJob x.fn x.id x.inst groupEnd s)
     | _, _ => .next s)
  | none => .next s

/-! ### Faults (R274, R280) -/

/-- A RENDER_FAULT record (Table 8.10). -/
def renderFaultRecord (j : Job) (code off stamp : Nat) : List Byte :=
  le 2 0x0401 ++ le 2 (bit (j.cls == 0)) ++ le 4 j.id ++ le 4 j.inst ++ le 1 code ++ le 3 0 ++ le 8 off ++ le 8 stamp

/-- Report the command fault of a job, once (R274). -/
def reportFault (j : Job) (s : State) : State :=
  match j.fault with
  | some (code, off) =>
    if j.reported then s
    else
      let s := post j.fn (j.cls == 0) (renderFaultRecord j code off s.gtb) s
      let w := rd s Reg.GPX_CNT_FAULTS
      let w := setF w Fld.GPX_CNT_FAULTS_FAULTS (getF w Fld.GPX_CNT_FAULTS_FAULTS + 1)
      let w := if code = 5 then setF w Fld.GPX_CNT_FAULTS_BIN_OVERFLOWS (getF w Fld.GPX_CNT_FAULTS_BIN_OVERFLOWS + 1) else w
      setJob j.fn j.id j.inst (fun j => { j with reported := true }) (wr Reg.GPX_CNT_FAULTS w s)
  | none => s

/-- Meaning of COMMAND_FAULT (R274): the front end finds the fault of a job's stream. -/
def execCommandFault (t : Tick) (fn : Fn) (id inst : Word) (s : State) : Out :=
  let s := accrue (advance t s)
  match jobOf s fn.val id.toNat inst.toNat with
  | some j => .next (reportFault j s)
  | none => .next s

/-- The byte offset of the STATE, or for compute of the DISPATCH, that selected the program of a context (R280). -/
def progOff (j : Job) (cmd : Nat) (disp : Bool) : Nat :=
  if disp then (match j.cmds[cmd]? with | some c => c.off | none => 0)
  else match stateAt j.cmds cmd with | some (_, _, o) => o | none => 0

/-- Meaning of PROGRAM_FAULT (R280): a wave of the context on a core, shading entry `entry` of its tile, stops and its job faults with BAD_STATE. -/
def execProgramFault (t : Tick) (core : BitVec 4) (entry : Word) (s : State) : Out :=
  let s := accrue (advance t s)
  match (coreRec s core.toNat).ctx with
  | some x =>
    (match jobOf s x.fn x.id x.inst with
     | some j =>
       let off := match x.step with
         | .batch cmd _ _ => progOff j cmd false
         | .group cmd _ => progOff j cmd true
         | .tile (some i) => (match (tget [] j.bins i)[entry.toNat]? with | some e => progOff j e.cmd false | none => 0)
         | _ => 0
       let j' := stopFront 4 off j
       .next (reportFault j' (setJob j.fn j.id j.inst (fun _ => j') s))
     | none => .next s)
  | none => .next s

/-! ### Delivery (R272) -/

/-- Is everything of a job done? -/
def jobDone (s : State) (j : Job) : Bool :=
  (match j.phase with
   | .vertex => false
   | .fragment => j.tiles.isEmpty && j.tilesOut == 0
   | .compute => (jobDispatch j).isNone && j.wgOut == 0) &&
  !((running s ++ (usedSlots s).filterMap (slotCtx s)).any (fun x => x.of j.fn j.id j.inst && x.step != .tile none))

/-- Remove a job and its contexts. -/
def dropJob (fn id inst : Nat) (s : State) : State :=
  let s := (List.range 16).foldl (fun s c => match (coreRec s c).ctx with | some x => if x.of fn id inst then freeCore c s else s | none => s) s
  setRen (fun r => { r with
    jobs := r.jobs.filter (fun j => !(j.fn == fn && j.id == id && j.inst == inst)),
    slots := (List.range 32).foldl (fun t i => match tget none t i with | some x => if x.of fn id inst then tput none t i none else t | none => t) r.slots }) s

/-- Stop the jobs of a contract at the next instruction boundary (R273). -/
def stopJobs (fn id : Nat) (s : State) : State :=
  (s.ren.jobs.filter (fun j => j.fn == fn && j.id == id)).foldl (fun s j => dropJob j.fn j.id j.inst s) (accrue s)

/-- The fence of a delivery (R272): of equal stamps the higher CONTRACT_ID stands. -/
def setFence (fn : Nat) (holm : Bool) (value id : Nat) (s : State) : State :=
  let f := fenceRec s fn holm
  if value = 0 ∨ (f.stamp = s.gtb ∧ id < f.id) then s
  else setRen (fun r => { r with fences := tput {} r.fences (2 * fn + bit holm) ⟨value, s.gtb, id⟩ }) s

/-- Mark the frame of an instance delivered (R299). -/
def frameDone (fn id inst : Nat) (stamp : Tick) (s : State) : State :=
  setRen (fun r => { r with frames := r.frames.map (fun f => if f.fn == fn && f.id == id && f.inst == inst then { f with stamp := some stamp } else f) }) s

/-- Meaning of JOB_DELIVERED (R272): every write of the job is visible. A fault is reported before the contract's record; a job that lost a context (R298) is never delivered. A CREAM job's
delivery is that of its update. -/
def execJobDelivered (t : Tick) (fn : Fn) (id inst : Word) (s : State) : Out :=
  let s := accrue (advance t s)
  match jobOf s fn.val id.toNat inst.toNat with
  | some j =>
    if jobDone s j then
      (let s := dropJob j.fn j.id j.inst (reportFault j s)
       if j.lost then .next s
       else
         let s := bump32 Reg.GPX_CNT_JOBS 1 (setFence j.fn j.holm j.fence j.id s)
         let isCream : Bool := match contractOf s j.fn j.id with | some c => c.kind == .cream | none => false
         if isCream then .next (setContract j.fn j.id (fun c => { c with phase := .ended }) s)
         else .next (finish j.fn j.id j.inst s.gtb 0 (frameDone j.fn j.id j.inst s.gtb s)))
    else .next s
  | none => .next s

/-! ### The dispatcher (R286 to R296) -/

/-- A context for a step of a job. -/
def stepCtx (j : Job) (st : Step) : SCtx := { fn := j.fn, id := j.id, inst := j.inst, cls := j.cls, holm := j.cls == 0, deadline := j.deadline, step := st }

/-- Assignments of cores to tiles of a job that have taken none yet. -/
def waitingCores (s : State) (j : Job) : Nat := ((running s).filter (fun x => x.of j.fn j.id j.inst && x.step == .tile none)).length

/-- The steps of a job that could start now. -/
def jobSteps (s : State) (j : Job) : List SCtx :=
  (match jobBatch j with | some (c, p, n) => [stepCtx j (.batch c p n)] | none => []) ++
  (match jobGroup j with | some (c, i) => [stepCtx j (.group c i)] | none => []) ++
  (if waitingCores s j < j.tiles.length then [stepCtx j (.tile none)] else [])

/-- Live non-compositor contexts (R284, R289). -/
def liveCount (s : State) : Nat := ((running s).filter (fun x => x.cls != 0)).length + (usedSlots s).length

/-- One way to fill a core: the context, the slot it is restored from, its rank (0 compositor, 1 entitled, 2 lent). -/
structure Cand where
  ctx : SCtx
  slot : Option Nat
  rank : Nat
  deriving DecidableEq, Repr

/-- Rank of a context (R287). -/
def ctxRank (s : State) (x : SCtx) : Nat := if x.cls = 0 then 0 else if entitled s (ctxPool x) then 1 else 2

/-- Everything that could be placed on a core: new contexts (fewer than 32 live) and saved ones; sectioned items on SC00 to SC03 only (R288, R289). -/
def candidates (s : State) (core : Nat) : List Cand :=
  let sectioned (x : SCtx) : Bool := match jobOf s x.fn x.id x.inst with | some j => j.sect != 0 | none => false
  let fresh := (s.ren.jobs.flatMap (jobSteps s)).filterMap (fun x => if x.cls = 0 ∨ liveCount s < 32 then some (⟨x, none, ctxRank s x⟩ : Cand) else none)
  let saved := (usedSlots s).filterMap (fun i => (slotCtx s i).map (fun x => (⟨x, some i, ctxRank s x⟩ : Cand)))
  (fresh ++ saved).filter (fun c => decide (core < 4) || !sectioned c.ctx)

/-- Order of two ways (R56, R287): rank, class, deadline, contract identifier. -/
def candBefore (a b : Cand) : Bool :=
  let k (c : Cand) : Nat × Nat × Nat × Nat := (c.rank, c.ctx.cls, c.ctx.deadline, c.ctx.id)
  let (r, c, d, i) := k a
  let (r', c', d', i') := k b
  decide (r < r') || (r == r' && (decide (c < c') || (c == c' && (decide (d < d') || (d == d' && decide (i < i'))))))

/-- The first of a list of ways. -/
def bestCand (l : List Cand) : Option Cand :=
  match l with
  | [] => none
  | c :: cs => some (cs.foldl (fun b x => if candBefore x b then x else b) c)

/-- Place a context on a core (R285, R287): a new one begins a step of its job, a saved one leaves its slot. -/
def place (core : Nat) (claimed : Bool) (c : Cand) (s : State) : State :=
  let x := c.ctx
  let sec : Bool := match jobOf s x.fn x.id x.inst, x.step with
    | some j, .batch cmd _ _ => inSection j.cmds cmd
    | some j, .group cmd _ => inSection j.cmds cmd
    | _, _ => false
  let x' := { x with lent := c.rank == 2, placed := s.gtb, sectAt := if c.slot.isSome then x.sectAt else if sec then some s.gtb else none }
  let s := setCore core { coreRec s core with ctx := some x', claimed := claimed } s
  match c.slot with
  | some i => setRen (fun r => { r with slots := tput none r.slots i none }) s
  | none => setJob x.fn x.id x.inst (fun j => match x.step with
      | .batch cmd prim n => { j with cmd := cmd, prim := prim + n }
      | .group _ _ => { j with wg := j.wg + 1, wgOut := j.wgOut + 1 }
      | _ => j) s

/-- Fill one idle core. -/
def fillCore (s : State) (core : Nat) : State :=
  if (coreRec s core).ctx.isSome then s
  else match bestCand (candidates s core) with
    | some c => place core false c s
    | none => s

/-- Meaning of DISPATCHER_DECISION (R287): every idle core takes the first ready context. The shader island must run. -/
def execDispatcherDecision (t : Tick) (s : State) : Out :=
  let s := accrue (advance t s)
  if gateOn s 2 then .next ((List.range 16).foldl fillCore s) else .next s

/-- CLAIM_CORES (R290). -/
def claimCores (s : State) : Nat := ceilDiv (16 * s.ledger.reserveShd) 1000

/-- Order of cores as victims of a claim (R290, steps 3 to 6): LENT, highest class, latest deadline, highest number. -/
def victimBefore (a b : Nat × SCtx) : Bool :=
  let (la, lb) := (bit a.2.lent, bit b.2.lent)
  decide (lb < la) || (la == lb && (decide (b.2.cls < a.2.cls) || (a.2.cls == b.2.cls &&
    (decide (b.2.deadline < a.2.deadline) || (a.2.deadline == b.2.deadline && decide (b.1 < a.1))))))

/-- The core to take from a list of cores with their contexts. -/
def bestVictim (l : List (Nat × SCtx)) : Option (Nat × SCtx) :=
  match l with
  | [] => none
  | c :: cs => some (cs.foldl (fun b x => if victimBefore x b then x else b) c)

/-- Cores with a context that could be taken: none of the compositor's, none in a section. -/
def takeable (s : State) : List (Nat × SCtx) :=
  (List.range 16).filterMap (fun c => match (coreRec s c).ctx with
    | some x => if x.cls ≠ 0 ∧ x.sectAt.isNone then some (c, x) else none
    | none => none)

/-- Save the context of a core into the first free slot (R297). -/
def saveCtx (core : Nat) (s : State) : State :=
  match (coreRec s core).ctx, (List.range 32).find? (fun i => (slotCtx s i).isNone) with
  | some x, some i => freeCore core (setRen (fun r => { r with slots := tput none r.slots i (some { x with lent := false }) }) s)
  | _, _ => s

/-- A core for the compositor (R290, R291): an idle one, or, within CLAIM_CORES and 220 ticks after the last request, the first victim, its context saved. `took` counts the ticks from request to
first instruction. -/
def claimCore (took : Nat) (s : State) : Option (Nat × Bool × State) :=
  match (List.range 16).find? (fun c => (coreRec s c).ctx.isNone) with
  | some c => some (c, false, s)
  | none =>
    let held := ((List.range 16).filter (fun c => (coreRec s c).claimed)).length
    let spaced : Bool := match s.ren.lastClaim with | none => true | some l => decide (l + 220 ≤ s.gtb)
    if held < claimCores s ∧ spaced then
      (match bestVictim (takeable s) with
       | some (c, _) =>
         let s := setRen (fun r => { r with lastClaim := some s.gtb }) (saveCtx c s)
         let s := bump32 Reg.GPX_PRE_COMP 1 s
         let s := wrF Reg.GPX_PRE_WORST Fld.GPX_PRE_WORST_WORST (max (fld s Reg.GPX_PRE_WORST Fld.GPX_PRE_WORST_WORST) (min took 600)) s
         some (c, true, s)
       | none => none)
    else none

/-- Meaning of COMPOSITOR_PREEMPT (R290 to R294): a core runs the first ready compositor context; `took` is the time from request to first instruction, at most 600 ticks. -/
def execCompositorPreempt (t : Tick) (took : BitVec 10) (s : State) : Out :=
  let s := accrue (advance t s)
  match bestCand ((candidates s 0).filter (fun c => c.rank == 0)) with
  | none => .next s
  | some c =>
    (match claimCore took.toNat s with
     | some (core, claimed, s) => .next (place core claimed c s)
     | none => .next s)

/-- Cores that a swap may take (R295): LENT or of a pool that is not entitled, run for 400 ticks. -/
def swappable (s : State) : List (Nat × SCtx) :=
  (takeable s).filter (fun c => (c.2.lent || !entitled s (ctxPool c.2)) && decide (c.2.placed + 400 ≤ s.gtb))

/-- Meaning of MAINLAND_SWAP (R295, R296): no core is idle, an entitled pool has a ready context, and a core's context gives way to it. -/
def execMainlandSwap (t : Tick) (s : State) : Out :=
  let s := accrue (advance t s)
  if (List.range 16).any (fun c => (coreRec s c).ctx.isNone) then .next s
  else
    match bestVictim (swappable s) with
    | none => .next s
    | some (c, _) =>
      (match bestCand ((candidates s c).filter (fun y => y.rank == 1)) with
       | none => .next s
       | some y => .next (place c false y (bump32 Reg.GPX_PRE_SWAP 1 (saveCtx c s))))

/-- Meaning of SECTION_BOUND (R79, R288): the section of the context on a core, entered at `entered`, reaches its declared bound and is ended; its breach is charged to the submitter. -/
def execSectionBound (t : Tick) (core : BitVec 4) (entered : Tick) (s : State) : Out :=
  let s := accrue (advance t s)
  let k := coreRec s core.toNat
  match k.ctx with
  | some x =>
    (match jobOf s x.fn x.id x.inst with
     | some j =>
       let e := match x.sectAt with | some e => e | none => max entered x.placed
       if j.sect ≠ 0 ∧ e + j.sect ≤ s.gtb then
         (let s := setCore core.toNat { k with ctx := some { x with sectAt := none } } s
          let w := fld s Reg.GPX_PRE_WORST Fld.GPX_PRE_WORST_SECTIONS_ENDED
          let s := wrF Reg.GPX_PRE_WORST Fld.GPX_PRE_WORST_SECTIONS_ENDED ((w + 1) % 65536) s
          match openInst s x.fn x.id x.inst with
          | some c => .next (breach c .sectionOverrun c.fn 0 s)
          | none => .next s)
       else .next s
     | none => .next s)
  | none => .next s

/-- GPX_CORE_STATc (Table 8.18). -/
def coreStat (s : State) (c : Nat) : Word :=
  match (coreRec s c).ctx with
  | none => resetWordAt (Reg.GPX_CORE_STATc c)
  | some x =>
    let st := match x.step with | .batch _ _ _ => 1 | .tile _ => 2 | .group _ _ => 3 | .skim _ _ _ => 2
    let fn := match x.step with | .skim _ _ _ => 0xFF | _ => x.fn
    BitVec.ofNat 32 (packF Fld.GPX_CORE_STATc_FUNCTION fn + packF Fld.GPX_CORE_STATc_CLASS x.cls + packF Fld.GPX_CORE_STATc_STATE st)

/-- GPX_SCHED_STAT (Table 9.7). -/
def schedStat (s : State) : Word :=
  let sec := ((List.range 4).map (fun c => match (coreRec s c).ctx with | some x => if x.sectAt.isSome then 2 ^ c else 0 | none => 0)).sum
  BitVec.ofNat 32 (packF Fld.GPX_SCHED_STAT_LIVE (liveCount s) + packF Fld.GPX_SCHED_STAT_SLOTS_FREE (32 - (usedSlots s).length) +
    packF Fld.GPX_SCHED_STAT_CLAIM_CORES (claimCores s) + packF Fld.GPX_SCHED_STAT_IN_SECTION sec)

end Sys2Proof.Machine
end

