-- ==== Sys2Proof/Machine/Compose.lean ====
section
/-!
DEFINITION. Compose.lean: what a layer shows (R329, R334, R335, R353), strips and skims of Prompt mode (R42 to R45, R299 to R303), the frame queue of Bulk mode (R46, R304, R305).
-/

namespace Sys2Proof.Machine

open Sys2Proof

/-! ### Sources of layers -/

/-- In whose address space layer object `i` fetches (R329): Holm with the function whose EQ1 takes its RETIRE records, or the grantee's context; none for a Mainland layer with GRANTED 0. -/
def spaceOf (s : State) (o : Nat) : Option (Bool × Nat) :=
  if holmOwned s o then some (true, eventPf s) else (granteeOf s o).map (fun f => (false, f))

/-- The register words of a layer from Lx_CTRL to Lx_CSC_OFF in effect. -/
def layerWords (s : State) (n l : Nat) : List Word := (List.range 30).map (fun k => rd s (Reg.Lx_CTRL n l + 4 * k))

/-- The source that a layer's words name, with an input's capture in place of its own buffer when SOURCE is 1 (R353). -/
def srcOfWords (s : State) (sp : Bool × Nat) (n l : Nat) (vin : Option (Nat × Nat × Nat)) (ws : List Word) : Option Src :=
  let w (k : Nat) : Nat := (ws.getD k 0).toNat
  let mk (f : Nat) (addr pitch : List Nat) : Src :=
    { holm := sp.1, fn := sp.2, format := f, addr := addr, pitch := pitch, x := natBits (w 12) 15 0, y := natBits (w 12) 31 16, w := natBits (w 13) 15 0, h := natBits (w 13) 31 16,
      sitH := (w 1).testBit 8, sitV := (w 1).testBit 9, pal := Reg.Lx_PAL_DATA n l }
  if (w 0).testBit 1 then
    vin.map (fun v =>
      let i := natBits (w 0) 5 4
      let p := fld s (Reg.VIN_PITCH i) Fld.VIN_PITCH_PITCH
      let a := (rd s (Reg.VIN_BUFk_LO i v.1)).toNat + 2 ^ 32 * (rd s (Reg.VIN_BUFk_HI i v.1)).toNat
      mk (fld s (Reg.VIN_CTRL i) Fld.VIN_CTRL_CAPFMT) [a, a + v.2.2 * p] [p, p])
  else some (mk (natBits (w 1) 7 0) ((List.range 3).map (fun p => w (2 + 2 * p) + 2 ^ 32 * w (3 + 2 * p))) ((List.range 3).map (fun p => natBits (w (8 + p)) 15 0)))

/-- The source of a layer in the configuration in effect. -/
def srcOf (s : State) (n l : Nat) : Option Src :=
  (spaceOf s (layerObj n l)).bind (fun sp => srcOfWords s sp n l (layerSt s (9 * n + l)).vinBuf (layerWords s n l))

/-- The source of a layer's last ready frame (R300). -/
def skimSrc (s : State) (n l : Nat) : Option Src :=
  let x := layerSt s (9 * n + l)
  if x.readyCfg.isEmpty then none else (spaceOf s (layerObj n l)).bind (fun sp => srcOfWords s sp n l x.vinBuf x.readyCfg)

/-- The cursor layer of an output, while CUR_EN is set (R384). -/
def cursorLayer (s : State) (n : Nat) : Option Nat :=
  if flg s (Reg.TG_CUR0 n) Fld.TG_CUR0_CUR_EN then some (fld s (Reg.TG_CUR0 n) Fld.TG_CUR0_CUR_LAYER) else none

/-- The fallback colour of a layer, opaque (R334). -/
def fallbackOf (s : State) (n l : Nat) : List Nat := rgb10 (rd s (Reg.Lx_FALLBACK n l)) ++ [1023]

/-- Set a flag of Lx_STAT. -/
def layerFlag (b : Bits) (n l : Nat) (s : State) : State := wrB (Reg.Lx_STAT n l) b true s

/-- The render contract that a layer binds (R335): an open RENDER contract of the function that holds the layer; for a Holm-owned layer the first match among the Holm contracts of PF0 to PF3. -/
def bindOf (s : State) (n l : Nat) : Option (Nat × Bool × Nat) :=
  let id := (rd s (Reg.Lx_BIND n l)).toNat
  if id = 0 then none
  else
    let isRender (c : Contract) : Bool := c.kind == .render
    match holderOf s (layerObj n l) with
    | none => none
    | some ⟨true, _⟩ =>
      ([0, 1, 2, 3] : List Nat).findSome? (fun f => ((contractOf s f id).filter (fun c => isRender c && c.holm)).map (fun c => (f, c.holm, id)))
    | some ⟨false, f⟩ => ((contractOf s f id).filter isRender).map (fun c => (f, c.holm, id))

/-- The release of the `i`-th instance of a locked contract from its present one, as far as its latch points are known (R52). -/
def lockedRelease (s : State) (c : Contract) (i : Nat) : Int :=
  match c.latches[i]? with
  | some x => ((x : Nat) : Int) + c.blk.release
  | none => (((instWindow s c).1 : Nat) : Int)

/-- The latest instance of a contract whose release is earlier than a stamp (R299): among the instances whose work has begun and those that the open contract still has to come. -/
def instBefore (s : State) (fn id : Nat) (stamp : Tick) : Option Nat :=
  let begun := (s.ren.frames.filter (fun f => f.fn == fn && f.id == id && decide (f.release < stamp))).map (fun f => f.inst)
  let due : List Nat := match contractOf s fn id with
    | none => []
    | some c =>
      if c.blk.locked then
        (List.range (max 1 c.latches.length)).filterMap (fun (i : Nat) => if lockedRelease s c i < ((stamp : Nat) : Int) then some (c.inst + i) else none)
      else
        let r := (instWindow s c).1
        if stamp ≤ r then []
        else if c.blk.periodic && decide (0 < c.blk.period) then
          (let k := c.inst + (stamp - 1 - r) / c.blk.period
           [if c.blk.count = 0 then k else min k (c.blk.count - 1)])
        else [c.inst]
  (begun ++ due).max?

/-- The delivery stamp of an instance's frame, if it has been delivered. -/
def frameStamp (s : State) (fn id inst : Nat) : Option Tick :=
  (s.ren.frames.find? (fun f => f.fn == fn && f.id == id && f.inst == inst)).bind (fun f => f.stamp)

/-- The newest delivered instance of a contract (R304). -/
def newestReady (s : State) (fn id : Nat) : Option Nat :=
  ((s.ren.frames.filter (fun f => f.fn == fn && f.id == id && f.stamp.isSome)).map (fun f => f.inst)).max?

/-! ### Leases of a pipe (R240, R241, R244) -/

/-- Is there a standing lease of a layer (9 writeback) on some ranges? -/
def leaseStands (s : State) (n l : Nat) (holm : Bool) (fn : Nat) (ranges : List (Nat × Nat)) : Bool :=
  s.mem.leases.any (fun (x : Lease) => x.output == n && x.layer == l && x.holm == holm && x.fn == fn && x.ranges == ranges && x.freed.isNone && !x.dead)

/-- Take a lease on some ranges unless one stands. -/
def takeLease (n l : Nat) (sp : Bool × Nat) (ranges : List (Nat × Nat)) (base : Nat) (start : Tick) (s : State) : State :=
  if leaseStands s n l sp.1 sp.2 ranges then s
  else leaseBegin { output := n, layer := l, fn := sp.2, holm := sp.1, ranges := ranges, base := base, start := start, lastFetch := start } s

/-- The ranges that a configuration in effect or an unfinished queue frame names (R246); a capture is named by its frame alone. -/
def namedRanges (s : State) (n l : Nat) : List (List (Nat × Nat)) :=
  (if l < 8 then
    (if layerOn s n l && (layerVin s n l).isNone && !(layerSt s (9 * n + l)).unmapped then (srcOf s n l).toList.map srcRanges else [])
   else if flg s (Reg.OP_WB_CTRL n) Fld.OP_WB_CTRL_WB_EN then
    [[((rd s (Reg.OP_WB_ADDR_LO n)).toNat + 2 ^ 32 * (rd s (Reg.OP_WB_ADDR_HI n)).toNat, vAct s n * fld s (Reg.OP_WB_PITCH n) Fld.OP_WB_PITCH_PITCH)]]
   else []) ++
  (((outSt s n).queue.filter (fun q => !q.complete)).flatMap (fun q => (q.reads.filter (fun r => r.1 == l)).map (fun r => r.2)))

/-- Note which leases of an output something still names. -/
def markLeases (n : Nat) (s : State) : State :=
  { s with mem := { s.mem with leases := s.mem.leases.map (fun (x : Lease) =>
      if x.output = n then { x with inUse := tgOn s n && x.freed.isNone && (namedRanges s n x.layer).contains x.ranges } else x) } }

/-- A layer at a latch point (R243, R244, R329, R335): its binding, the instance of the frame period, whether its source is mapped, its lease. -/
def layerLatch (n : Nat) (stamp : Tick) (s : State) (l : Nat) : State :=
  let i := 9 * n + l
  if layerOn s n l then
    let b := bindOf s n l
    let s := setLayer i (fun x => { x with bound := b, inst := b.bind (fun c => instBefore s c.1 c.2.2 stamp), cut := false, unmapped := false }) s
    if (layerVin s n l).isSome then s
    else match spaceOf s (layerObj n l), srcOf s n l with
      | some sp, some r =>
        if srcMapped s r then takeLease n l sp (srcRanges r) (r.addr.getD 0 0) stamp s
        else
          let s := setLayer i (fun x => { x with unmapped := true }) s
          if sp.1 then s else (srcRanges r).foldl (fun s g => noteFault sp.2 5 false g.1 g.2 s) s
      | _, _ => s
  else setLayer i (fun x => { x with bound := none, inst := none, skim := false, vinBuf := none, held := 0, cut := false, unmapped := false }) s

/-! ### Selecting a capture (R353) -/

/-- The selection of a layer whose SOURCE is 1: the newest complete capture, held for HOLD_FRAMES selections once the signal is lost. -/
def selectVin (n : Nat) (s : State) (l : Nat) : State :=
  match layerVin s n l with
  | none => s
  | some v =>
    if layerOn s n l then
      let i := 9 * n + l
      let sig := flg s (Reg.VIN_STAT v) Fld.VIN_STAT_SIGNAL
      let on := flg s (Reg.VIN_CTRL v) Fld.VIN_CTRL_ENABLE
      let x := layerSt s i
      let held := if sig then 0 else x.held + 1
      let (sx, sy) := srcPos s n l
      let (sw, sh) := srcSize s n l
      let pick : Option (Nat × Nat × Nat) := match (vinSt s v).newest with
        | some (b, w, h) => if on && decide (held ≤ fld s (Reg.VIN_CTRL v) Fld.VIN_CTRL_HOLD_FRAMES) && decide (sx + sw ≤ w) && decide (sy + sh ≤ h) then some (b, w, h) else none
        | none => none
      let s := setLayer i (fun x => { x with vinBuf := pick, held := held }) s
      let s := if pick.isSome && !sig then layerFlag Fld.Lx_STAT_VIN_STALE n l s else s
      match spaceOf s (layerObj n l), srcOf s n l with
      | some sp, some r =>
        if srcMapped s r then takeLease n l sp (srcRanges r) (r.addr.getD 0 0) (outSt s n).lastLatch s
        else setLayer i (fun x => { x with vinBuf := none }) (if sp.1 then s else (srcRanges r).foldl (fun s g => noteFault sp.2 5 false g.1 g.2 s) s)
      | _, _ => s
    else s

/-! ### What a composition shows -/

/-- May a layer show its own source now (R334)? -/
def sourceOk (s : State) (n l : Nat) : Bool :=
  let x := layerSt s (9 * n + l)
  !x.cut && !x.unmapped && (srcOf s n l).isSome

/-- Can a late layer be skimmed (R299, R303): does it have a last ready frame whose lease stands? -/
def skimOk (s : State) (n l : Nat) : Bool :=
  match spaceOf s (layerObj n l), skimSrc s n l with
  | some sp, some r => !(layerSt s (9 * n + l)).cut && leaseStands s n l sp.1 sp.2 (srcRanges r)
  | _, _ => false

/-- What a layer shows in a strip (R299, R300, R334). -/
def stripPlan (s : State) (n l : Nat) : Nat :=
  let x := layerSt s (9 * n + l)
  if layerOn s n l = false ∨ cursorLayer s n = some l then 0
  else if x.bound.isSome ∧ x.skim then (if skimOk s n l && !poseFlat x.applied then 3 else 1)
  else if sourceOk s n l then 2 else 1

/-- What a layer shows in a queue frame (R304, R334). -/
def queuePlan (s : State) (n l : Nat) : Nat :=
  if layerOn s n l = false ∨ cursorLayer s n = some l then 0
  else match (layerSt s (9 * n + l)).bound with
    | some (f, _, id) => if (newestReady s f id).isSome && sourceOk s n l then 2 else 1
    | none => if sourceOk s n l then 2 else 1

/-- Set Lx_STAT.FALLBACK of the layers that a plan shows so. -/
def planFlags (n : Nat) (plan : List Nat) (s : State) : State :=
  (List.range 8).foldl (fun s l => if plan.getD l 0 = 1 then layerFlag Fld.Lx_STAT_FALLBACK n l s else s) s

/-- The layers that a plan fetches, with their ranges. -/
def planReads (s : State) (n : Nat) (plan : List Nat) : List (Nat × List (Nat × Nat)) :=
  (List.range 8).filterMap (fun l => if plan.getD l 0 = 2 then (srcOf s n l).map (fun r => (l, srcRanges r)) else none)

/-- Fetches of some layers at a stamp (R241). -/
def fetched (n : Nat) (reads : List (Nat × List (Nat × Nat))) (stamp : Tick) (s : State) : State :=
  reads.foldl (fun s r => leaseFetch n r.1 r.2 stamp s) s

/-- The source pixel of a layer at an output pixel after stages 1 to 5, and its blend mode; none outside its destination rectangle. -/
def planPixel (s : State) (n l plan : Nat) (skim : List (List Nat)) (x y : Nat) : Option (Nat × List Nat) :=
  let (dx, dy) := dstPos s n l
  let (dw, dh) := dstSize s n l
  if dx ≤ x ∧ x < dx + dw ∧ dy ≤ y ∧ y < dy + dh then
    let mode := fld s (Reg.Lx_CTRL n l) Fld.Lx_CTRL_ALPHA_MODE
    let conv (r : Src) (p : List Nat) : List Nat := if isYc r.format then layerCsc s n l p else p
    match plan with
    | 1 => some (1, fallbackOf s n l)
    | 2 => (srcOf s n l).map (fun r => (mode, conv r (layerPixel s (Reg.Lx_COEF_DATA n l) r dw dh (x - dx) (y - dy))))
    | 3 => (skimSrc s n l).map (fun r => (mode, conv r (skim.getD (x - dx) [0, 0, 0, 0])))
    | _ => none
  else none

/-- A composed word (stages 6 and 7): the background, then the layers in blend order. -/
def composePixel (s : State) (n : Nat) (plan : List Nat) (skims : Nat → List (List Nat)) (x y : Nat) : Word :=
  holdWord ((List.range 8).foldl (fun (d : List Nat) k =>
    let l := zLayer s n k
    match planPixel s n l (plan.getD l 0) (skims l) x y with
    | some (mode, c) => blend10 mode (fld s (Reg.Lx_CTRL n l) Fld.Lx_CTRL_PLANE_ALPHA) c d
    | none => d) (rgb10 (rd s (Reg.OP_BG n))))

/-- A composed line. -/
def composeLine (s : State) (n : Nat) (plan : List Nat) (skims : Nat → List (List Nat)) (y : Nat) : List Word :=
  (List.range (hAct s n)).map (fun x => composePixel s n plan skims x y)

/-- The underflow colour as a held word (R45). -/
def uflowWord (s : State) (n : Nat) : Word := holdWord (rgb10 (rd s (Reg.TG_UFLOW n)))

/-- A line of the underflow colour. -/
def uflowLine (s : State) (n : Nat) : List Word := List.replicate (hAct s n) (uflowWord s n)

/-! ### Strips (R42 to R45) -/

/-- Strips of an output's active area. -/
def stripCount (s : State) (n : Nat) : Nat := ceilDiv (vAct s n) 16

/-- Lines of strip `k`. -/
def stripLines (s : State) (n k : Nat) : Nat := min 16 (vAct s n - 16 * k)

/-- Does the output compose in strips in this frame: Prompt mode, or the first frame of Bulk mode after Prompt (R47)? -/
def inStrips (s : State) (n : Nat) : Bool := isPrompt s n || (outSt s n).stripFirst

/-- Does the output scan frames now: enabled, past latch point 0, not between two timings (R379)? -/
def scanning (s : State) (n : Nat) : Bool := tgOn s n && (outSt s n).latched && (outSt s n).waitNew.isNone

/-- The strip of an output in its ring. -/
def stripOf (s : State) (n k : Nat) : Option Strip := (outSt s n).strips.find? (fun x => x.index == k)

/-- Change a strip. -/
def setStrip (n k : Nat) (f : Strip → Strip) (s : State) : State :=
  setOut n (fun o => { o with strips := o.strips.map (fun x => if x.index = k then f x else x) }) s

/-- The rows of a skim of one strip (R300, R301): one for each line, empty outside the layer's destination rectangle. -/
def skimRows (s : State) (n l : Nat) (st : Strip) : List (List (List Nat)) :=
  let x := layerSt s (9 * n + l)
  match skimSrc s n l with
  | none => []
  | some r =>
    let (_, dy) := dstPos s n l
    let (dw, dh) := dstSize s n l
    let z := (x.readyCfg.getD 15 0).toNat
    (List.range (stripLines s n st.index)).map (fun i =>
      let y := 16 * st.index + i
      if dy ≤ y ∧ y < dy + dh then
        (List.range dw).map (fun j => skimPixel s r (natBits z 15 0) (natBits z 31 16) x.readyView (st.views.getD l []) j (y - dy))
      else [])

/-- Row `i` of the skim of a layer in a strip. -/
def skimRow (st : Strip) (l i : Nat) : List (List Nat) :=
  match st.skims.find? (fun e => e.1 == l) with
  | some e => e.2.getD i []
  | none => []

/-- The blended words of line `i` of a strip. -/
def stripLine (s : State) (n : Nat) (st : Strip) (i : Nat) : List Word := composeLine s n st.plan (fun l => skimRow st l i) (16 * st.index + i)

/-- Compose a strip whose skims are all done. -/
def composeStrip (n k : Nat) (s : State) : State :=
  match stripOf s n k with
  | some st =>
    if st.waiting.isEmpty && !st.complete then
      setStrip n k (fun x => { x with complete := true, lines := (List.range (stripLines s n k)).map (stripLine s n st) }) (fetched n (planReads s n st.plan) s.gtb s)
    else s
  | none => s

/-- Judge a bound layer's readiness for the frame, at the opening of the window that strips 0 and 1 share (R299). -/
def judgeReady (n : Nat) (s : State) (l : Nat) : State :=
  let x := layerSt s (9 * n + l)
  match x.bound, x.inst with
  | some (f, _, id), some i =>
    let ready : Bool := match frameStamp s f id i with | some t => decide (t < s.gtb) | none => false
    setLayer (9 * n + l) (fun x => { x with skim := !ready }) s
  | some _, none => setLayer (9 * n + l) (fun x => { x with skim := true }) s
  | none, _ => setLayer (9 * n + l) (fun x => { x with skim := false }) s

/-- Note the frame, configuration and view of a composition without a skim (R300). -/
def noteReady (n : Nat) (plan : List Nat) (s : State) (l : Nat) : State :=
  let x := layerSt s (9 * n + l)
  match x.bound, x.inst with
  | some (_, _, id), some i =>
    if plan.getD l 0 = 2 then setLayer (9 * n + l) (fun x => { x with readyInst := some (id, i), readyCfg := layerWords s n l, readyView := x.applied }) s else s
  | _, _ => s

/-- Meaning of STRIP_WINDOW_OPEN (R43, R299, R302, R353): strip 0 opens the window that it shares with strip 1, where captures are selected and readiness is judged; each strip samples the views
and what its layers show, releases the skims of late layers, and is composed at once when it has none. -/
def execStripWindowOpen (t : Tick) (output : BitVec 3) (strip : BitVec 10) (s : State) : Out :=
  let s := advance t s
  let n := output.toNat
  let k := strip.toNat
  if scanning s n && inStrips s n && decide (k < stripCount s n) && (stripOf s n k).isNone then
    let s := if k = 0 then (List.range 8).foldl (judgeReady n) ((List.range 8).foldl (selectVin n) s) else s
    let plan := (List.range 8).map (stripPlan s n)
    let st : Strip := { index := k, plan := plan, views := (List.range 8).map (fun l => (layerSt s (9 * n + l)).applied), waiting := (List.range 8).filter (fun l => plan.getD l 0 == 3) }
    let s := setOut n (fun o => { o with strips := o.strips.filter (fun x => decide (k < x.index + 4)) ++ [st] }) s
    let s := planFlags n plan ((List.range 8).foldl (noteReady n plan) s)
    .next (composeStrip n k s)
  else .next s

/-- Meaning of SKIM (R302): a core takes the skim of a late layer's strip as a compositor context; `took` is the time from request to first instruction. -/
def execSkim (t : Tick) (output : BitVec 3) (layer : BitVec 3) (strip : BitVec 10) (took : BitVec 10) (s : State) : Out :=
  let s := accrue (advance t s)
  let n := output.toNat
  let step : Step := .skim n layer.toNat strip.toNat
  let free := !((running s).any (fun x => x.step == step))
  match stripOf s n strip.toNat with
  | some st =>
    if gateOn s 2 && free && st.waiting.contains layer.toNat then
      (match claimCore took.toNat s with
       | some (core, claimed, s) =>
         .next (setCore core { coreRec s core with ctx := some { fn := 0xFF, id := 0, inst := 0, cls := 0, holm := true, deadline := s.gtb, step := step, placed := s.gtb }, claimed := claimed } s)
       | none => .next s)
    else .next s
  | none => .next s

/-- Meaning of SKIM_DONE (R301 to R303): the skim on a core has written its strip; the reads count as fetches of the last ready frame, and the strip is composed once no skim is missing. -/
def execSkimDone (t : Tick) (core : BitVec 4) (s : State) : Out :=
  let s := accrue (advance t s)
  match (coreRec s core.toNat).ctx with
  | some x =>
    (match x.step with
     | .skim n l k =>
       let s := freeCore core.toNat s
       (match stripOf s n k with
        | some st =>
          if st.complete then .next s
          else
            let s := setStrip n k (fun y => { y with waiting := y.waiting.erase l, skims := y.skims ++ [(l, skimRows s n l st)] }) s
            let s := match skimSrc s n l with | some r => leaseFetch n l (srcRanges r) s.gtb s | none => s
            let s := layerFlag Fld.Lx_STAT_SKIMMED n l (bump32 Reg.GPX_SKIM_CNT 1 s)
            .next (composeStrip n k s)
        | none => .next s)
     | _ => .next s)
  | none => .next s

/-- A STRIP_UNDERRUN (R45, R87): the entry of TG_URUN with the stamp of the due point, a record to the holder of the output, the copy and the note of a device breach. -/
def underrun (n k : Nat) (s : State) : State :=
  let c := fld s (Reg.TG_URUN n) Fld.TG_URUN_COUNT
  let s := wrF (Reg.TG_URUN n) Fld.TG_URUN_STRIP k (wrF (Reg.TG_URUN n) Fld.TG_URUN_COUNT ((c + 1) % 65536) s)
  let s := wr (Reg.TG_URUN_LO n) (BitVec.ofNat 32 s.gtb) (wr (Reg.TG_URUN_HI n) (BitVec.ofNat 32 (s.gtb / 2 ^ 32)) s)
  let rec_ := contractRecord 0x0202 (8 * bit s.gcp.stalled) 0 0 (breachDetail .stripUnderrun 0xFF) 0 s.gtb
  let q : Nat × Bool := match spaceOf s (outObj n) with | some (h, f) => (f, h) | none => (64, false)
  let s := if q.1 < 64 then post q.1 q.2 rec_ s else s
  deviceBreach q rec_ (some n) (Reason.stripUnderrun.code * 2 ^ 32 + (q.1 % 64) * 2 ^ 40) s

/-- Meaning of STRIP_DUE_POINT (R45): a strip that is not complete is scanned with the underflow colour beyond the lines that its skims have written. -/
def execStripDuePoint (t : Tick) (output : BitVec 3) (strip : BitVec 10) (lines : BitVec 5) (s : State) : Out :=
  let s := advance t s
  let n := output.toNat
  let k := strip.toNat
  if scanning s n && inStrips s n && decide (k < stripCount s n) then
    match stripOf s n k with
    | some st =>
      if st.complete then .next s
      else
        -- the lines that the unfinished skims have written
        let st' : Strip := { st with skims := st.skims ++ st.waiting.map (fun l => (l, skimRows s n l st)) }
        let ls := (List.range (stripLines s n k)).map (fun i => if i < lines.toNat then stripLine s n st' i else uflowLine s n)
        let s := if lines = 0 then s else fetched n (planReads s n st.plan) s.gtb s
        .next (underrun n k (setStrip n k (fun x => { x with complete := true, lines := ls }) s))
    | none =>
      let st : Strip := { index := k, complete := true, lines := List.replicate (stripLines s n k) (uflowLine s n) }
      .next (underrun n k (setOut n (fun o => { o with strips := o.strips.filter (fun x => decide (k < x.index + 4)) ++ [st] }) s))
  else .next s

/-! ### The Bulk queue (R46, R304, R305) -/

/-- Frames that the queue holds: 2 or 3. -/
def queueDepth (s : State) (n : Nat) : Nat := 2 + fld s (Reg.TG_CTRL n) Fld.TG_CTRL_QDEPTH

/-- Does a bound layer have a ready frame newer than the one used in the previous queue frame (R304)? -/
def newerReady (s : State) (n l : Nat) : Bool :=
  let x := layerSt s (9 * n + l)
  match x.bound with
  | none => true
  | some (f, _, id) =>
    if layerOn s n l = false then true
    else match newestReady s f id, x.usedInst with
      | none, _ => false
      | some _, none => true
      | some k, some (id', k') => id != id' || decide (k' < k)

/-- May the composition of a queue frame begin (R304)? -/
def queueFree (s : State) (n : Nat) : Bool :=
  let o := outSt s n
  scanning s n && !isPrompt s n && o.queue.all (fun q => q.complete) && decide (o.queue.length + bit o.shown.isSome < queueDepth s n) &&
    (o.starved || (List.range 8).all (newerReady s n))

/-- Note the instance that a queue frame uses. -/
def noteUsed (n : Nat) (s : State) (l : Nat) : State :=
  match (layerSt s (9 * n + l)).bound with
  | some (f, _, id) =>
    (match newestReady s f id with
     | some k => setLayer (9 * n + l) (fun x => { x with usedInst := some (id, k) }) s
     | none => s)
  | none => s

/-- Meaning of QUEUE_FRAME_COMPOSE (R304): the composition of a queue frame begins; captures are selected, each layer takes its newest ready frame. -/
def execQueueFrameCompose (t : Tick) (output : BitVec 3) (s : State) : Out :=
  let s := advance t s
  let n := output.toNat
  if queueFree s n then
    let s := (List.range 8).foldl (selectVin n) s
    let plan := (List.range 8).map (queuePlan s n)
    let q : QFrame := { complete := false, lines := (List.range (vAct s n)).map (composeLine s n plan (fun _ => [])), began := s.gtb, plan := plan, reads := planReads s n plan }
    let s := (List.range 8).foldl (noteUsed n) s
    .next (planFlags n plan (markLeases n (setOut n (fun o => { o with queue := o.queue ++ [q], starved := false }) s)))
  else .next s

/-- The line of a queue frame at which an early free at a stamp stops a layer's fetch (R243): composition runs at 2 pixels per display-engine cycle, 8 per tick. -/
def lineAtFree (s : State) (n : Nat) (q : QFrame) (tu : Tick) : Nat := if hAct s n = 0 then 0 else (tu - q.began) * 8 / hAct s n

/-- A queue frame with the fallback colour of the layers whose buffers were freed during its composition, on the lines composed after the free. -/
def freeInQueue (s : State) (n : Nat) (q : QFrame) : QFrame :=
  let cutAt (l : Nat) : Option Nat :=
    s.mem.leases.findSome? (fun (x : Lease) => match x.freed with
      | some (tu, _) => if x.output == n && x.layer == l && q.reads.any (fun r => r.1 == l && r.2 == x.ranges) && decide (q.began ≤ tu) then some (lineAtFree s n q tu) else none
      | none => none)
  if (List.range 8).all (fun l => (cutAt l).isNone) then q
  else
    let planAt (y : Nat) : List Nat := (List.range 8).map (fun l => match cutAt l with | some c => if c ≤ y then 1 else q.plan.getD l 0 | none => q.plan.getD l 0)
    { q with lines := (List.range q.lines.length).map (fun y => if planAt y = q.plan then q.lines.getD y [] else composeLine s n (planAt y) (fun _ => []) y),
             plan := (List.range 8).map (fun l => if (cutAt l).isSome then 1 else q.plan.getD l 0) }

/-- Meaning of QUEUE_FRAME_COMPLETE (R304): the frame being composed becomes available for scan-out. -/
def execQueueFrameComplete (t : Tick) (output : BitVec 3) (s : State) : Out :=
  let s := advance t s
  let n := output.toNat
  match (outSt s n).queue.find? (fun q => !q.complete) with
  | some q =>
    let q' := { freeInQueue s n q with complete := true }
    let s := fetched n q.reads s.gtb s
    .next (planFlags n q'.plan (markLeases n (setOut n (fun o => { o with queue := o.queue.map (fun x => if x.complete then x else q') }) s)))
  | none => .next s

/-- Scan-out takes the oldest complete unscanned frame at a latch point, or scans the last one again (R305). -/
def queueLatch (n : Nat) (s : State) : State :=
  setOut n (fun o => match o.queue with
    | q :: qs => if q.complete then { o with shown := some q, queue := qs } else { o with starved := true }
    | [] => { o with starved := true }) s

/-- The held words of an active line (R44 to R47, R305). Where nothing has been composed, the underflow colour stands. -/
def heldLine (s : State) (n y : Nat) : List Word :=
  if inStrips s n then
    (match stripOf s n (y / 16) with
     | some st => if st.complete then st.lines.getD (y % 16) (uflowLine s n) else uflowLine s n
     | none => uflowLine s n)
  else match (outSt s n).shown with
    | some q => q.lines.getD y (uflowLine s n)
    | none => uflowLine s n

/-- Meaning of VIEW_APPLY (R336): the staging set becomes the applied set, and APPLIED counts. -/
def viewApply (i : Nat) (s : State) : State :=
  let b := layerBase i
  let s := setLayer i (fun x => { x with applied := (List.range 8).map (fun k => (rd s (b + 0x80 + 4 * k)).toNat) }) s
  wrF (b + 0xA4) Fld.Lx_VIEW_STAT_APPLIED ((fld s (b + 0xA4) Fld.Lx_VIEW_STAT_APPLIED + 1) % 65536) s

end Sys2Proof.Machine
end

