-- ==== Sys2Proof/Machine/Scan.lean ====
section
/-!
DEFINITION. Scan.lean: scan-out of a line: the cursor (R384 to R387), the Mainland colour stages, Creamline and the rind (R390 to R395), the raster words (R404), writeback (R350, R351).
-/

namespace Sys2Proof.Machine

open Sys2Proof

/-! ### Creamline geometry (R390 to R394) -/

/-- Creamline state of an output. -/
def crlSt (s : State) (n : Nat) : CrlState := tget {} s.disp.crl n

/-- Change the Creamline state of an output. -/
def setCrl (n : Nat) (f : CrlState → CrlState) (s : State) : State := { s with disp := { s.disp with crl := tmod {} s.disp.crl n f } }

/-- The enabled regions of an output, rising. -/
def regionsOn (s : State) (n : Nat) : List Nat := setBits 16 (rd s (Reg.CRL_REGEN n)).toNat

/-- The rectangle of region `r`. -/
def regionRect (s : State) (n r : Nat) : Zone :=
  let p := (rd s (Reg.CRL_Rr_POS n r)).toNat
  let z := (rd s (Reg.CRL_Rr_SIZE n r)).toNat
  let x := natBits p 15 0
  let y := natBits p 31 16
  ⟨x, y, x + natBits z 15 0, y + natBits z 31 16⟩

/-- RIND_W of a region. -/
def regionRind (s : State) (n r : Nat) : Nat := natBits (rd s (Reg.CRL_Rr_CFG n r)).toNat 22 16
/-- PITCH of a region in bytes. -/
def regionPitch (s : State) (n r : Nat) : Nat := natBits (rd s (Reg.CRL_Rr_CFG n r)).toNat 13 6 * 64
/-- OFF of a region in bytes. -/
def regionOff (s : State) (n r : Nat) : Nat := natBits (rd s (Reg.CRL_Rr_BUF n r)).toNat 20 6 * 64

/-- Does a rectangle hold a point? -/
def Zone.has (z : Zone) (x y : Nat) : Bool := decide (z.x0 ≤ x) && decide (x < z.x1) && decide (z.y0 ≤ y) && decide (y < z.y1)

/-- The rind zone of a region (R393). -/
def regionZone (s : State) (n r : Nat) : Zone :=
  let q := regionRect s n r
  let w := regionRind s n r
  ⟨(q.x0 - w) / 8 * 8, (q.y0 - w) / 8 * 8, min (hAct s n) (ceilDiv (q.x1 + w) 8 * 8), min (vAct s n) (ceilDiv (q.y1 + w) 8 * 8)⟩

/-- The zones of the enabled regions. -/
def zonesOf (s : State) (n : Nat) : List Zone := (regionsOn s n).map (regionZone s n)

/-- The Vat offset of LC buffer `b` of an output (R391). -/
def lcBuffer (n b : Nat) : Nat := 0x400000 * n + 0x200000 * b

/-- The highest-numbered enabled region that covers a pixel (R392). -/
def coverRegion (s : State) (n x y : Nat) : Option Nat := (regionsOn s n).reverse.find? (fun r => (regionRect s n r).has x y)

/-- Panel depth, then a component through the Holm LUT, at that depth (R395). -/
def holmColour (s : State) (n : Nat) (c : List Nat) : List Nat :=
  (List.range 3).map (fun k => roundTo (panelBits s n) (natBits (tab s (Reg.CRL_LUT_DATA n) (1024 * k + c.getD k 0)).toNat 9 0))

/-- The colour of an LC or rind pixel at panel depth (R392 to R395, Table 13.3); none for a pixel of a plain tile. -/
def creamPixel (s : State) (n x y : Nat) : Option (List Nat) :=
  let c := crlSt s n
  let rind := holmColour s n (rgb10 (rd s (Reg.CRL_RIND n)))
  match coverRegion s n x y with
  | some r =>
    if c.state = 3 ∨ c.blanked.testBit r then some rind
    else
      let q := regionRect s n r
      let i := (rdDpa s (vatBase + lcBuffer n c.front + regionOff s n r + (y - q.y0) * regionPitch s n r + (x - q.x0))).toNat
      some (holmColour s n (rgb10 (tab s (Reg.CRL_PAL_DATA n) i)))
  | none => if (zonesOf s n).any (fun z => z.has x y) then some rind else none

/-! ### The cursor (R384 to R388) -/

/-- The cursor's position: DST_POS in effect, signed. -/
def cursorPos (s : State) (n l : Nat) : Int × Int :=
  let w := (rd s (Reg.Lx_DST_POS n l)).toNat
  (signedOf 16 (natBits w 15 0), signedOf 16 (natBits w 31 16))

/-- The rows that the pipe fetches into the cursor store at a latch point; none when the layer shows its fallback colour. -/
def fetchCursor (s : State) (n : Nat) : Option (List (List (List Nat))) :=
  match cursorLayer s n with
  | none => none
  | some l =>
    if layerOn s n l && sourceOk s n l then
      (srcOf s n l).map (fun r => (List.range r.h).map (fun (y : Nat) => (List.range r.w).map (fun (x : Nat) => rgbAt s r (x : Int) (y : Int))))
    else none

/-- A component list with the cursor blended over it at an output pixel (stage 7a, R338, R384). -/
def cursorBlend (s : State) (n x y : Nat) (d : List Nat) : List Nat :=
  match cursorLayer s n with
  | none => d
  | some l =>
    if layerOn s n l then
      let (px, py) := cursorPos s n l
      let (w, h) := dstSize s n l
      let jx := (x : Int) - px
      let jy := (y : Int) - py
      if 0 ≤ jx ∧ jx < (w : Int) ∧ 0 ≤ jy ∧ jy < (h : Int) then
        let plane := fld s (Reg.Lx_CTRL n l) Fld.Lx_CTRL_PLANE_ALPHA
        match (outSt s n).cursor with
        | some rows => blend10 (fld s (Reg.Lx_CTRL n l) Fld.Lx_CTRL_ALPHA_MODE) plane ((rows.getD jy.toNat []).getD jx.toNat [0, 0, 0, 0]) d
        | none => blend10 1 plane (fallbackOf s n l) d
      else d
    else d

/-- The product term of the express path (R385). -/
def expressCoord (c sx : Nat) (off : Int) : Int := clampI (-32768) 32767 ((((c * sx + 0x8000) / 65536 : Nat) : Int) + off)

/-- One output's express path for a report routed to a holder (R385, R386): the new position is written to DST_POS in effect and remembered for command mode. -/
def expressOne (sensor : Nat) (dest : Holder) (cx cy : Nat) (s : State) (n : Nat) : State :=
  match cursorLayer s n with
  | none => s
  | some l =>
    if fld s (Reg.TG_CUR0 n) Fld.TG_CUR0_SENSOR = sensor ∧ holderOf s (layerObj n l) = some dest then
      let off := (rd s (Reg.TG_CUR_OFF n)).toNat
      let x := expressCoord cx (rd s (Reg.TG_CUR_SX n)).toNat (signedOf 16 (natBits off 15 0))
      let y := expressCoord cy (rd s (Reg.TG_CUR_SY n)).toNat (signedOf 16 (natBits off 31 16))
      let s := wr (Reg.Lx_DST_POS n l) (BitVec.ofNat 32 (toTwos 16 y * 65536 + toTwos 16 x)) s
      setOut n (fun o => { o with cursorSeen := o.cursorSeen ++ [(x, y)] }) s
    else s

/-- Meaning of CURSOR_EXPRESS_PATH (R385 to R387): the oldest primary contact report on its way, with the holder it is routed to, is visible in the display engine. -/
def execCursorExpressPath (t : Tick) (s : State) : Out :=
  let s := advance t s
  match s.sense.express with
  | [] => .next s
  | (k, h, cx, cy) :: rest => .next ((List.range 8).foldl (expressOne k h cx cy) { s with sense := { s.sense with express := rest } })

/-! ### Lines (R381) -/

/-- Is the Mainland picture replaced by TG_UFLOW (R380, R412, R414, Table 13.3)? -/
def pictureHidden (s : State) (n : Nat) : Bool :=
  let c := crlSt s n
  (outSt s n).reverify || c.state == 2 || c.state == 3 || c.noscene

/-- The output of stage 8 for a held word at an output pixel. -/
def stage8At (s : State) (n x y : Nat) (w : Word) : List Nat := stage8 s n (cursorBlend s n x y (heldRgb w))

/-- A Mainland pixel at panel depth (stages 7a to 9), or TG_UFLOW in its place. -/
def mainPixel (s : State) (n x y : Nat) (w : Word) : List Nat :=
  let d := panelBits s n
  if pictureHidden s n then (rgb10 (rd s (Reg.TG_UFLOW n))).map (roundTo d)
  else (stage8At s n x y w).map (dither (fld s (Reg.OP_CTRL n) Fld.OP_CTRL_DITHER) d x y (outSt s n).frame)

/-- The words of R404 of an active line as the link carries them. -/
def rasterLine (s : State) (n y : Nat) : List Word :=
  let d := panelBits s n
  ((heldLine s n y).zipIdx).map (fun e => linkWord d (match creamPixel s n e.2 y with | some c => c | none => mainPixel s n e.2 y e.1))

/-- Meaning of LINE_REQUEST (R381): the display engine does the scan-out work of an active line. With line 0 the command says whether the cursor store is complete; if not, the cursor shows its
fallback colour in this frame (R384). -/
def execLineRequest (t : Tick) (output : BitVec 3) (line : BitVec 13) (cursorDone : Bool) (s : State) : Out :=
  let s := advance t s
  let n := output.toNat
  let y := line.toNat
  if scanning s n && decide (y < vAct s n) then
    let s := if y = 0 ∧ cursorDone = false then setOut n (fun o => { o with cursor := none }) s else s
    let s := match cursorLayer s n with
      | some l => if layerOn s n l && (outSt s n).cursor.isNone && decide (y = 0) then layerFlag Fld.Lx_STAT_FALLBACK n l s else s
      | none => s
    .next (setOut n (fun o => { o with raster := tput [] o.raster y (rasterLine s n y) }) s)
  else .next s

/-! ### Writeback (R350, R351) -/

/-- A component of some bits at another width: rounded to nearest, or widened by replication (R350). -/
def convBits (b d v : Nat) : Nat :=
  if d < b then min (2 ^ d - 1) ((v + 2 ^ (b - d - 1)) >>> (b - d))
  else if d = b then v
  else if d = 8 then v <<< 2 ||| v >>> 4
  else widen b v

/-- The components that a writeback takes for a pixel, and their width. -/
def wbTap (s : State) (n x y : Nat) (held : Word) (link : Word) : Nat × List Nat :=
  match fld s (Reg.OP_WB_CTRL n) Fld.OP_WB_CTRL_WB_POINT with
  | 0 => (10, heldRgb held)
  | 1 => (12, stage8At s n x y held)
  | _ => (10, rgb10 link)

/-- A written pixel: WB_FORMAT 0x01 or 0x02, alpha all ones. -/
def wbPixel (f : Nat) (p : Nat × List Nat) : List Byte :=
  let c (d k : Nat) : Nat := convBits p.1 d (p.2.getD k 0)
  if f = 0x02 then le 4 (3 * 2 ^ 30 + c 10 0 * 2 ^ 20 + c 10 1 * 2 ^ 10 + c 10 2)
  else le 4 (255 * 2 ^ 24 + c 8 0 * 2 ^ 16 + c 8 1 * 2 ^ 8 + c 8 2)

/-- Store bytes of a writeback through a function's context, mappings that a reset left for leases among them (R207), in pieces that cross no multiple of 128. -/
def wrLeased (fn : Nat) : Nat → Nat → List Byte → State → State
  | 0, _, _, s => s
  | k + 1, a, bs, s =>
    if bs.isEmpty then s
    else
      let c := 128 - a % 128
      wrLeased fn k (a + c) (bs.drop c)
        (match xlateLeased s fn true a with
         | .dev d => wrDpas d (bs.take c) s
         | .host p h => outTlp p h (bs.take c) s
         | .fault q => memFault fn 5 a true q s)

/-- Meaning of WRITEBACK_LINE (R351): a scanned line enters the writeback FIFO in time and is written, or the frame ends early. -/
def execWritebackLine (t : Tick) (output : BitVec 3) (line : BitVec 13) (inTime : Bool) (s : State) : Out :=
  let s := advance t s
  let n := output.toNat
  let y := line.toNat
  let words := tget [] (outSt s n).raster y
  if flg s (Reg.OP_WB_CTRL n) Fld.OP_WB_CTRL_WB_EN && scanning s n && decide (y < vAct s n) && !words.isEmpty && !(outSt s n).wbStopped then
    if inTime = false then
      .next (wrB (Reg.OP_WB_STAT n) Fld.OP_WB_STAT_INCOMPLETE true (setOut n (fun o => { o with wbStopped := true }) s))
    else
      match spaceOf s (outObj n) with
      | none => .next s
      | some sp =>
        if (outSt s n).wbCut then .next (wrB (Reg.OP_WB_STAT n) Fld.OP_WB_STAT_DISCARDED true s)
        else
          let base := (rd s (Reg.OP_WB_ADDR_LO n)).toNat + 2 ^ 32 * (rd s (Reg.OP_WB_ADDR_HI n)).toNat
          let a := base + y * fld s (Reg.OP_WB_PITCH n) Fld.OP_WB_PITCH_PITCH
          let f := fld s (Reg.OP_WB_CTRL n) Fld.OP_WB_CTRL_WB_FORMAT
          let held := heldLine s n y
          let bs := (words.zipIdx).flatMap (fun e => wbPixel f (wbTap s n e.2 y (held.getD e.2 0) e.1))
          let s := if sp.1 then wrDpas a bs s else wrLeased sp.2 bs.length a bs s
          let s := (namedRanges s n 9).foldl (fun s g => leaseFetch n 9 g s.gtb s) s
          if y + 1 = vAct s n then
            .next (wrF (Reg.OP_WB_STAT n) Fld.OP_WB_STAT_FRAMES ((fld s (Reg.OP_WB_STAT n) Fld.OP_WB_STAT_FRAMES + 1) % 65536) s)
          else .next s
  else .next s

end Sys2Proof.Machine
end

