-- ==== Sys2Proof/Machine/Traversal.lean ====
section
/-!
DEFINITION. Traversal.lean: recovery scenes, rays, arming, the queue of the traversal unit and the self-test (chapter 10).
-/

namespace Sys2Proof.Machine

open Sys2Proof

/-! ### Scenes (R308 to R312) -/

/-- `n` bytes at offset `o` of the scene at a DPA, as a number. -/
def scn (s : State) (b o n : Nat) : Nat := rdDpaLe s (b + o) n

/-- Does the header of a scene keep Table 10.1? -/
def headerOk (s : State) (b : Nat) : Bool :=
  let len := scn s b 0xC 4
  let gl := scn s b 0x14 4
  let gc := scn s b 0x18 2
  rdDpas s b 4 == ascii "ZVRS" && scn s b 4 2 == 1 && decide (8 ≤ scn s b 6 1) && decide (scn s b 6 1 ≤ 64) && scn s b 9 3 == 0 &&
    len % 16 == 0 && decide (0x40 ≤ len) && decide (len ≤ 196608) && scn s b 0x10 4 % 16 == 0 && decide (scn s b 0x10 4 + 128 ≤ len) &&
    gl % 8 == 0 && (gc != 0 || gl == 0) && decide (gc ≤ 4096) && decide (gl + 8 * gc ≤ len) && scn s b 0x1A 2 == 0 && (rdDpas s (b + 0x20) 32).all (· == 0)

/-- SCENE_CRC over the scene with that field taken as zero (Table 10.1). -/
def sceneCrcOk (s : State) (b : Nat) : Bool :=
  let bs := rdDpas s b (scn s b 0xC 4)
  crc32c (bs.take 0x1C ++ [0, 0, 0, 0] ++ bs.drop 0x20) == scn s b 0x1C 4

/-- Does a segment record keep R312? -/
def segOk (s : State) (b o : Nat) : Bool := decide (scn s b o 1 ≤ 1) && scn s b (o + 1) 1 == 0 && scn s b (o + 14) 2 == 0

/-- Does the glyph entry `g` keep R312? -/
def glyphOk (s : State) (b g : Nat) : Bool :=
  let e := scn s b 0x14 4 + 8 * g
  let o := scn s b e 4
  let n := scn s b (e + 4) 2
  o % 16 == 0 && decide (1 ≤ n) && decide (n ≤ 1024) && scn s b (e + 6) 2 == 0 && decide (o + 16 * n ≤ scn s b 0xC 4) &&
    (List.range n).all (fun i => segOk s b (o + 16 * i))

/-- Does a primitive record keep Table 10.3? -/
def primOk (s : State) (b o : Nat) : Bool :=
  scn s b (o + 0xA) 6 == 0 &&
  (match scn s b o 1 with
   | 1 => true
   | 2 => decide (scn s b (o + 8) 2 < scn s b 0x18 2) && glyphOk s b (scn s b (o + 8) 2)
   | _ => false)

/-- Does a box of a child record hold any pixel? -/
def childFull (s : State) (b o : Nat) : Bool := decide (scn s b o 2 < scn s b (o + 4) 2) && decide (scn s b (o + 2) 2 < scn s b (o + 6) 2)

/-- LEAF, COUNT and REF in bytes of a child record. -/
def childRef (s : State) (b o : Nat) : Bool × Nat × Nat :=
  let w := scn s b (o + 8) 4
  (w.testBit 31, natBits w 30 25, natBits w 24 0 * 16)

/-- Does a child record keep Table 10.2, and does its REF name valid records? A child that is empty is never entered, and its REF is not checked. DEDUCED. -/
def childOk (s : State) (b o : Nat) : Bool :=
  let (leaf, n, r) := childRef s b o
  let len := scn s b 0xC 4
  scn s b (o + 0xC) 4 == 0 &&
  (if leaf then decide (1 ≤ n) && decide (n ≤ 32) else n == 0) &&
  (if childFull s b o then
    (if leaf then decide (r + 16 * n ≤ len) && (List.range n).all (fun i => primOk s b (r + 16 * i)) else decide (r + 128 ≤ len))
   else true)

/-- The nodes that a node's children name. -/
def childNodes (s : State) (b o : Nat) : List Nat :=
  (List.range 8).filterMap (fun i =>
    let c := o + 16 * i
    let (leaf, _, r) := childRef s b c
    if childFull s b c && !leaf then some r else none)

/-- Walk the nodes reached from a list and check each once. The fuel bounds the walk: every node has at most 8 children. -/
def nodesOk (s : State) (b : Nat) : Nat → List Nat → List Nat → Bool
  | 0, todo, _ => todo.isEmpty
  | _ + 1, [], _ => true
  | k + 1, o :: rest, seen =>
    if seen.contains o then nodesOk s b k rest seen
    else if (List.range 8).all (fun i => childOk s b (o + 16 * i)) then nodesOk s b k (childNodes s b o ++ rest) (o :: seen)
    else false

/-- The checks of R315 on the scene at a DPA. -/
def sceneOk (s : State) (b : Nat) : Bool :=
  headerOk s b && sceneCrcOk s b && nodesOk s b (scn s b 0xC 4 + 16) [scn s b 0x10 4] []

/-! ### Rays (R310 to R314) -/

/-- A line of a glyph. -/
structure GLine where
  x0 : Int
  y0 : Int
  x1 : Int
  y1 : Int
  deriving DecidableEq, Repr

/-- A coordinate of point Q_j of a curve (R312). -/
def curvePoint (p0 c p1 : Int) (j : Nat) : Int :=
  let a : Int := (((8 - j) * (8 - j) : Nat) : Int)
  let m : Int := ((2 * j * (8 - j) : Nat) : Int)
  let e : Int := ((j * j : Nat) : Int)
  (a * p0 + m * c + e * p1 + 32) / 64

/-- The lines of a segment record (R312). -/
def segLines (s : State) (b o : Nat) : List GLine :=
  let v (i : Nat) : Int := signedOf 16 (scn s b (o + 2 + 2 * i) 2)
  if scn s b o 1 = 0 then [⟨v 0, v 1, v 4, v 5⟩]
  else (List.range 8).map (fun j =>
    ⟨curvePoint (v 0) (v 2) (v 4) j, curvePoint (v 1) (v 3) (v 5) j, curvePoint (v 0) (v 2) (v 4) (j + 1), curvePoint (v 1) (v 3) (v 5) (j + 1)⟩)

/-- The lines of the glyph entry `g`. -/
def glyphLines (s : State) (b g : Nat) : List GLine :=
  let e := scn s b 0x14 4 + 8 * g
  (List.range (scn s b (e + 4) 2)).flatMap (fun i => segLines s b (scn s b e 4 + 16 * i))

/-- What a line adds to the winding number at a point (R313). -/
def lineWind (cx cy : Int) (l : GLine) : Int :=
  let sg : Int := if l.y0 < l.y1 then 1 else if l.y1 < l.y0 then -1 else 0
  let e : Int := (l.x1 - l.x0) * (cy - l.y0) - (cx - l.x0) * (l.y1 - l.y0)
  if sg ≠ 0 ∧ min l.y0 l.y1 ≤ cy ∧ cy < max l.y0 l.y1 ∧ 0 < e * sg then sg else 0

/-- Does the primitive record at an offset cover a pixel (R313)? Table 10.3 gives the bottom edge of a quad no place: it is a free value of the record. -/
def primCovers (s : State) (b o px py : Nat) : Bool :=
  if scn s b o 1 = 1 then
    decide (scn s b (o + 4) 2 ≤ px) && decide (px < scn s b (o + 8) 2) && decide (scn s b (o + 6) 2 ≤ py) && decide (py < Config.quadBottom (rdDpas s (b + o) 16))
  else
    let cx : Int := 64 * ((px : Int) - signedOf 16 (scn s b (o + 4) 2)) + 32
    let cy : Int := 64 * ((py : Int) - signedOf 16 (scn s b (o + 6) 2)) + 32
    let w : Int := ((glyphLines s b (scn s b (o + 8) 2)).map (lineWind cx cy)).sum
    decide (w ≠ 0)

/-- Steps of a test of a primitive (R306, R312). -/
def primSteps (s : State) (b o : Nat) : Nat :=
  if scn s b o 1 = 1 then 1 else 1 + ceilDiv (glyphLines s b (scn s b (o + 8) 2)).length 8

/-- The better of the best primitive so far (priority, offset, index) and the one at an offset (R314). -/
def betterPrim (s : State) (b o : Nat) (best : Option (Nat × Nat × Nat)) : Option (Nat × Nat × Nat) :=
  let p := scn s b (o + 2) 2
  let me := some (p, o, scn s b (o + 1) 1)
  match best with
  | none => me
  | some (q, r, _) => if q < p ∨ (q = p ∧ o < r) then me else best

/-- What a ray enters from a node, in slot order: nodes, and records of leaves in offset order. -/
def enterNode (s : State) (b o px py : Nat) : List (Bool × Nat) :=
  (List.range 8).flatMap (fun i =>
    let c := o + 16 * i
    if scn s b c 2 ≤ px ∧ px < scn s b (c + 4) 2 ∧ scn s b (c + 2) 2 ≤ py ∧ py < scn s b (c + 6) 2 then
      (let (leaf, n, r) := childRef s b c
       if leaf then (List.range n).map (fun j => (false, r + 16 * j)) else [(true, r)])
    else [])

/-- The rest of a ray: what it still visits (true: a node), steps left, the best primitive. The answer is the index, and whether the step limit was reached. -/
def rayOn (s : State) (b px py : Nat) : Nat → Nat → List (Bool × Nat) → Option (Nat × Nat × Nat) → Nat × Bool
  | 0, _, _, _ => (scn s b 8 1, true)
  | _ + 1, _, [], best => (match best with | some (_, _, i) => (i, false) | none => (scn s b 7 1, false))
  | k + 1, left, (node, o) :: q, best =>
    let c := if node then 1 else primSteps s b o
    if left < c then (scn s b 8 1, true)
    else if node then rayOn s b px py k (left - c) (enterNode s b o px py ++ q) best
    else rayOn s b px py k (left - c) q (if primCovers s b o px py then betterPrim s b o best else best)

/-- The index of a pixel, and whether its ray reached STEP_LIMIT (R314). Every visit takes a step, so the limit bounds the ray. -/
def ray (s : State) (b px py : Nat) : Nat × Bool :=
  let n := scn s b 6 1
  rayOn s b px py (n + 2) n [(true, scn s b 0x10 4)] none

/-! ### Arming (R315) -/

/-- A write of 1 to ARM_A or ARM_B: ignored while an arm of the output runs. -/
def armBegin (n : Nat) (b : Bool) (s : State) : State :=
  setArm n (fun r => if r.pending.isSome then r else { r with pending := some b }) s

/-- Meaning of TRV_ARM_COMPLETE (R315): the slot is armed and active when every check passes; else ARM_ERR, and the slot is disarmed. -/
def execTrvArmComplete (t : Tick) (output : BitVec 3) (s : State) : Out :=
  let s := advance t s
  let n := output.toNat
  match (armRec s n).pending with
  | none => .next s
  | some b =>
    if sceneOk s (slotBase n b) then
      .next (holmWake 0x20 (setArm n (fun r => { r with a := r.a || !b, b := r.b || b, active := some b, pending := none }) s))
    else
      .next (wrB (Reg.TRV_ARMn n) Fld.TRV_ARMn_ARM_ERR true (setArm n (fun r => { r with a := r.a && b, b := r.b && !b, pending := none }) s))

/-- Meaning of SLOT_WRITE_DISARM (R316): a Holm master writes bytes in the recovery region; a slot that it touches is disarmed, at once or when the render that reads it ends. -/
def execSlotWriteDisarm (t : Tick) (output : BitVec 3) (slot : Bool) (offset : BitVec 18) (bytes : List Byte) (s : State) : Out :=
  let s := advance t s
  if offset.toNat + bytes.length ≤ 0x30000 then .next (wrDpas (slotBase output.toNat slot + offset.toNat) bytes s) else .next s

/-! ### The queue (R307, R322, R324) -/

/-- Is a path marked faulted? -/
def rasterFault (s : State) : Bool := flg s Reg.TRV_STAT Fld.TRV_STAT_RASTER_FAULT
/-- Is the traversal path marked faulted? -/
def trvFault (s : State) : Bool := flg s Reg.TRV_STAT Fld.TRV_STAT_TRV_FAULT

/-- The DPA of the active scene of an output. -/
def activeScene (s : State) (n : Nat) : Option Nat := (armRec s n).active.map (slotBase n)

/-- Pixels of some regions of an output. -/
def regionPixels (s : State) (n : Nat) (rs : List Nat) : Nat :=
  (rs.map (fun r => let q := regionRect s n r; (q.x1 - q.x0) * (q.y1 - q.y0))).sum

/-- B_REC (R321) of P pixels at step limit S. k is the shader clock in cycles per tick (R60). -/
def bRec (s : State) (p steps : Nat) : Nat := ceilDiv ((20000 + ceilDiv p 2 * steps * 14) * 200000) (shdKhz s)

/-- B_REC of a full scene of an output: every enabled region at the active scene's step limit. -/
def fullRec (s : State) (n : Nat) : Nat :=
  bRec s (regionPixels s n (regionsOn s n)) (match activeScene s n with | some b => scn s b 6 1 | none => 64)

/-- Renders queued or running. -/
def trvCount (s : State) : Nat := s.trv.queue.length + bit s.trv.running.isSome

/-- Put a render at the end of the queue; Holm holds the engines on (R326). -/
def queueRender (r : TrvRender) (s : State) : State := holmWake 0x20 { s with trv := { s.trv with queue := s.trv.queue ++ [r] } }

/-- Is the back buffer of an output in use by a CREAM item or a flip of one (R402)? -/
def backBusy (s : State) (n : Nat) : Bool := s.disp.cream.any (fun w => w.output == n && w.begun) || (crlSt s n).flip.isSome || (crlSt s n).flipTaken.isSome

/-- May a queued render start? A hold render waits for the back buffer (R402). -/
def mayStart (s : State) (r : TrvRender) : Bool := r.kind != 1 || !backBusy s r.output

/-- A request for a hold render (R324, R411, R412): none is queued without a sound path and a scene; one that waits is joined. -/
def holdRequest (n : Nat) (s : State) : State :=
  let s := setCrl n (fun c => { c with cur := { c.cur with holdAsked := true } }) s
  if trvFault s then setCrl n (fun c => { c with cur := { c.cur with noScene := true } }) s
  else match activeScene s n with
    | none => setCrl n (fun c => { c with cur := { c.cur with noScene := true } }) s
    | some b =>
      let s := setCrl n (fun c => { c with holdPending := true }) s
      if s.trv.queue.any (fun r => r.kind == 1 && r.output == n) then s
      else queueRender { kind := 1, output := n, regions := (rd s (Reg.CRL_REGEN n)).toNat, owner := none, pixels := regionPixels s n (regionsOn s n), steps := scn s b 6 1 } s

/-- Meaning of TRAVERSAL_RENDER_START (R307): the unit, idle and with its gate on, starts the first render that can start, in the order of signing and request. -/
def execTraversalRenderStart (t : Tick) (s : State) : Out :=
  let s := advance t s
  if s.trv.running.isNone && gateOn s 0x20 then
    match s.trv.queue.find? (mayStart s) with
    | some r =>
      let r' : TrvRender := if r.kind = 2 then r else { r with slotB := (armRec s r.output).active == some true }
      .next { s with trv := { s.trv with running := some r', queue := s.trv.queue.erase r } }
    | none => .next s
  else .next s

/-- Draw a region of an output from a scene into the back buffer, with the count of rays that reached the step limit. -/
def drawRegion (n b : Nat) (a : State × Nat) (r : Nat) : State × Nat :=
  let s := a.1
  let q := regionRect s n r
  let back := lcBuffer n (1 - (crlSt s n).front)
  (List.range (q.y1 - q.y0)).foldl (fun (a : State × Nat) y =>
    let row := (List.range (q.x1 - q.x0)).map (fun x => ray s b (q.x0 + x) (q.y0 + y))
    (wrVat (back + regionOff s n r + y * regionPitch s n r) (row.map (fun (p : Nat × Bool) => BitVec.ofNat 8 p.1)) a.1,
     a.2 + (row.filter (fun (p : Nat × Bool) => p.2)).length)) a

/-- Writes that a render held take effect when it ends, and only then disarm the slot (R316). -/
def releaseHeld (n : Nat) (s : State) : State :=
  let h := (armRec s n).held
  h.foldl (fun s w => wrDpas w.1 w.2 s) (setArm n (fun r => { r with held := [] }) s)

/-- A flip becomes pending (R399, R411). -/
def flipPending (n : Nat) (f : Flip) (s : State) : State := setCrl n (fun c => { c with flip := some f }) s

/-- Meaning of TRAVERSAL_RENDER_DONE (R307, R321, R411): the running render has drawn its pixels. A hold render leaves a flip pending; a recovery render lets its item go on; the traversal half of
a self-test waits to be classed. -/
def execTraversalRenderDone (t : Tick) (s : State) : Out :=
  let s := advance t s
  match s.trv.running with
  | none => .next s
  | some r =>
    if r.kind = 2 then .next { s with trv := { s.trv with running := none } }
    else
      let n := r.output
      let (s, hits) := (setBits 16 r.regions).foldl (drawRegion n (slotBase n r.slotB)) (s, 0)
      let s := { s with trv := { s.trv with running := none } }
      let w := rd s (Reg.TRV_RECn n)
      let w := setF w Fld.TRV_RECn_LIMIT_HITS (getF w Fld.TRV_RECn_LIMIT_HITS + hits)
      let s := wr (Reg.TRV_RECn n) (setF w Fld.TRV_RECn_RENDERS (getF w Fld.TRV_RECn_RENDERS + 1)) s
      let s := releaseHeld n s
      match r.owner with
      | none => .next (flipPending n ⟨none, r.regions, s.gtb⟩ s)
      | some (fn, id, inst) =>
        .next { s with disp := { s.disp with cream := s.disp.cream.map (fun w => if w.fn == fn && w.id == id && w.inst == inst then { w with rendered := true } else w) } }

/-! ### The flags (R320) -/

/-- A paired write of SET_RASTER or SET_TRV. -/
def faultSet (b : Bits) (s : State) : State :=
  let s := if b = Fld.TRV_STAT_RASTER_FAULT then holmWake 0x20 { s with trv := { s.trv with rasterSetAt := s.gtb } } else { s with trv := { s.trv with travSetAt := s.gtb } }
  wrB Reg.TRV_STAT b true s

/-- A paired write of CLEAR_RASTER or CLEAR_TRV: the last self-test passed and began after the flag was last set, or CLEAR_REFUSED. -/
def faultClear (b : Bits) (s : State) : State :=
  let at_ := if b = Fld.TRV_STAT_RASTER_FAULT then s.trv.rasterSetAt else s.trv.travSetAt
  if fld s Reg.TRV_STAT Fld.TRV_STAT_LAST_CLASS = 1 ∧ at_ < s.trv.lastBegan then wrB Reg.TRV_STAT b false s
  else wrB Reg.TRV_STAT Fld.TRV_STAT_CLEAR_REFUSED true s

/-! ### The self-test (R317 to R319) -/

/-- The fixed cost block of the raster half (R318). -/
def testCost : Cost := { tiles := 64, bins := 2048, binsTile := 64, verts := 8192, iVert := 16, frags := 65536, iFrag := 8, fragsTile := 1024 }

/-- The raster half as an admission request of a function (R318). It has no command buffer: its parameters are empty. -/
def testAsk (s : State) (fn : Nat) : AskFor :=
  let b : Block := { cls := 0, kind := Kind.code .render, deadline := ((s.gtb + 4000000 : Nat) : Int), count := 1 }
  shaderAsk s { fn := fn, holm := true, kind := .render, blk := b, cost := testCost, blocksFit := true, minW := minWindow .render }

/-- SELFTEST (Table 3.6). -/
def opSelftest : OpInfo := ⟨0x0A01, (3, 0), .holm, none, false, .fixed 4, false⟩

/-- A self-test goes on after admission: the raster half signed, the traversal half queued. -/
def testAfter (port : Option Port) (fn : Nat) (s : State) : Admit → Except Status State
  | .refused st _ _ _ _ => .error st
  | .signed c =>
    let s := sign c s
    .ok (queueRender { kind := 2, output := 0, regions := 0, owner := none, pixels := 65536, steps := 24 }
      { s with trv := { s.trv with tests := s.trv.tests ++ [{ port := port, began := s.gtb, raster := some (fn, c.id) }] } })

/-- Begin a self-test. -/
def beginTest (port : Option Port) (fn : Nat) (s : State) : Except Status State := testAfter port fn s (admitAsk s (testAsk s fn))

/-- The answer to a self-test that began, or could not. -/
def testAnswer (s : State) : Except Status State → Ans
  | .error st => .reply (stOnly st) s
  | .ok u => .later u

/-- Step 13 of SELFTEST (R318). -/
def doSelftest (c : Ctx) (s : State) : Ans :=
  if leAt c.pay 0 1 ≠ 0 then .reply (stOff .paramInvalid 0) s
  else if leAt c.pay 1 3 ≠ 0 then .reply (stOff .reservedSet 1) s
  else match contractGuard s c.fn [2] with
    | some st => .reply (stOnly st) s
    | none => testAnswer s (beginTest (some c.port) c.fn s)

/-- Meaning of SELFTEST. -/
def execSelftest (t : Tick) (q : Request) (s : State) : Out := gcp opSelftest t q doSelftest s

/-- The class of two signatures against the reference (Table 10.4). -/
def testClass (raster trav ref : Word) : Nat :=
  if raster = ref then (if trav = ref then 1 else 3)
  else if trav = ref then 2
  else if raster = trav then 5 else 4

/-- The status of a class (Table 10.4). -/
def classStatus (k : Nat) : Status := if k = 1 then .done else if k = 5 then .selftestReference else .selftestFailed

/-- Record a class: LAST_CLASS, the flags, the signatures (R319). -/
def recordClass (k : Nat) (raster trav : Word) (began : Tick) (s : State) : State :=
  let s := wr Reg.TRV_ST_RASTER raster (wr Reg.TRV_ST_TRAV trav (wr Reg.TRV_ST_REF Config.refSig s))
  let s := wrF Reg.TRV_STAT Fld.TRV_STAT_LAST_CLASS k { s with trv := { s.trv with lastBegan := began } }
  let s := if k = 2 ∨ k = 4 ∨ k = 5 then faultSet Fld.TRV_STAT_RASTER_FAULT s else s
  if k = 3 ∨ k = 4 ∨ k = 5 then faultSet Fld.TRV_STAT_TRV_FAULT s else s

/-- Is the traversal half of the oldest self-test complete? -/
def testDone (s : State) : Bool :=
  decide ((s.trv.queue.filter (fun r => r.kind == 2)).length + (match s.trv.running with | some r => bit (r.kind == 2) | none => 0) < s.trv.tests.length)

/-- Meaning of SELFTEST_COMPLETE (R317, R319): the two halves have left their images of 256 × 256 indices; they are signed, classed and recorded, and the request is answered. -/
def execSelftestComplete (t : Tick) (image0 image1 : List Byte) (s : State) : Out :=
  let s := advance t s
  match s.trv.tests with
  | [] => .next s
  | x :: xs =>
    if testDone s && image0.length == 65536 && image1.length == 65536 then
      let s := wrVat 0x33E0000 image0 (wrVat 0x33F0000 image1 { s with trv := { s.trv with tests := xs } })
      let r := BitVec.ofNat 32 (crc32c image0)
      let v := BitVec.ofNat 32 (crc32c image1)
      let k := testClass r v Config.refSig
      let s := recordClass k r v x.began s
      let s := match x.raster with | some (fn, id) => finish fn id 0 s.gtb 0 s | none => s
      match x.port with
      | some p => .next (finishLong p (le 4 (classStatus k).code ++ le 4 r.toNat ++ le 4 v.toNat) s)
      | none => .next s
    else .next s

end Sys2Proof.Machine
end

