-- ==== Sys2Proof/Machine/Cream.lean ====
section
/-!
DEFINITION. Cream.lean: certified updates (R397 to R402), tile signatures (R403 to R408), the mismatch policy (R410 to R415), audit evidence (R416 to R418).
-/

namespace Sys2Proof.Machine

open Sys2Proof

/-! ### CREAM_UPDATE (R397, R398, R322, R323) -/

/-- CREAM_UPDATE (Table 3.6). -/
def opCreamUpdate : OpInfo := ⟨0x0304, (3, 0), .holm, some .cream, false, .fixed 0x38, false⟩

/-- Do the targets of a job lie in the Creamline window of an output (R399)? -/
def inWindow (n : Nat) (d : Desc) : Bool :=
  let base := vatBase + 0x400000 * n
  d.atts.all (fun r => decide (base ≤ r.addr) && decide (r.addr + r.pitch * d.height ≤ base + 0x200000))

/-- The checks of Table 13.1, with the RECOVERY_UNAVAILABLE of R323; none when they pass. -/
def creamCheck (s : State) (c : Ctx) : Option (List Byte) :=
  let b := parseBlock c.pay
  let n := b.target
  let p (o k : Nat) : Nat := leAt c.pay o k
  let src := p 0x6A 1
  let rec_ := src == 0 && rasterFault s
  if b.periodic then some (stOnly .costInvalid)
  else if 8 ≤ n ∨ tgOn s n = false then some (stOff .paramInvalid 4)
  else if (contractsOn s .cream n).isEmpty = false then some (stOnly .creamBusy)
  else if p 0x68 2 = 0 ∨ p 0x68 2 &&& (rd s (Reg.CRL_REGEN n)).toNat ≠ p 0x68 2 then some (stOff .paramInvalid 0x68)
  else if 1 < src then some (stOff .paramInvalid 0x6A)
  else if src = 0 ∧ p 0x78 4 ≠ 0 then some (stOff .reservedSet 0x78)
  else if p 0x7C 4 ≠ 0 then some (stOff .reservedSet 0x7C)
  else if src = 0 ∧ (slice c.pay 0x80 32).any (fun x => x != 0) then some (stOff .reservedSet 0x80)
  else if src = 1 then
    (if 4 ≤ p 0x6B 1 ∨ holmOwned s (obj 4 (p 0x6B 1)) = false then some (stOff .notGranted 0x6B)
     else if p 0x74 4 ≠ (parseCost .cream c.pay).rdBytes ∨ p 0x74 4 % 4 ≠ 0 ∨ p 0x78 4 % 4 ≠ 0 ∨ p 0x74 4 < 4 ∨ 0x200000 < p 0x78 4 + p 0x74 4 then some (stOff .paramInvalid 0x74)
     else none)
  else if rec_ then (if trvFault s || (activeScene s n).isNone then some (stOnly .recoveryUnavailable) else none)
  else
    let addr := p 0x6C 8
    let len := p 0x74 4
    if addr % 8 ≠ 0 then some (stOff .paramInvalid 0x6C)
    else if len % 8 ≠ 0 ∨ len < 0x48 ∨ 0x1000000 < len then some (stOff .paramInvalid 0x74)
    else if jobRange s true c.fn false addr len && ctxPoison s none addr (min len (0x40 + 32 * 9)) then some (stOnly .eccUncorrectable)
    else match descCheck s true c.fn addr len (parseCost .cream c.pay).bins 0 with
      | some st => some (stOff st 0x6C)
      | none => if inWindow n (parseDesc (rdDpas s addr (min len (0x40 + 32 * 9)))) then none else some (stOff .addressFault 0x6C)

/-- The cost block of a recovery render: the shader fields are taken as 0 (R322). -/
def recoveryCost (z : Cost) : Cost := { rdBytes := z.rdBytes, wrBytes := z.wrBytes, vatBytes := z.vatBytes }

/-- What a signed recovery render waits for (R322): every render queued, running or signed and not begun, and the hold render of every output whose policy selects it. -/
def recoveryWait (s : State) : Nat :=
  ((s.trv.queue ++ s.trv.running.toList).map (fun r => bRec s r.pixels r.steps)).sum +
  ((s.ledger.contracts.filter (fun c => c.kind == .cream && c.params.getD 6 0 == 1 && c.phase == .waiting)).map (fun c =>
    match activeScene s c.blk.target with
    | some b => bRec s (regionPixels s c.blk.target (setBits 16 (c.params.getD 0 0))) (scn s b 6 1)
    | none => 0)).sum +
  ((List.range 8).map (fun n => if tgOn s n && fld s (Reg.CRL_CTRL n) Fld.CRL_CTRL_POLICY == 0 && (activeScene s n).isSome then fullRec s n else 0)).sum

/-- A cost over the free capacity of the reserve, in ticks rounded up (R398); no capacity leaves no latch point in reach. -/
def workTicks (cost free : Nat) : Nat := if cost = 0 then 0 else if free = 0 then 2 ^ 40 else ceilDiv (cost * 65536) free

/-- The admission request of a CREAM item. -/
def creamAsk (s : State) (c : Ctx) : AskFor :=
  let a := baseAsk c .cream s
  let n := a.blk.target
  let regions := leAt c.pay 0x68 2
  let src := leAt c.pay 0x6A 1
  let len := leAt c.pay 0x74 4
  let addr := leAt c.pay 0x6C 8
  let isRec := src == 0 && rasterFault s
  let a := { a with blocksFit := a.blocksFit && a.blk.cls == 0, latchOut := some n,
                    params := [regions, src, leAt c.pay 0x6B 1, addr, len, leAt c.pay 0x78 4, bit isRec, 0] ++ (slice c.pay 0x80 32).map (fun (x : Byte) => x.toNat) }
  if isRec then
    let a := shaderAsk s { a with cost := recoveryCost a.cost }
    let b := match activeScene s n with | some b => bRec s (regionPixels s n (setBits 16 regions)) (scn s b 6 1) | none => 0
    { a with shd := 0, tile := 0, prepMore := recoveryWait s, latchWork := 4000 + b + 2000 }
  else
    let a := shaderAsk s a
    let a := if src = 0 then { a with blocksFit := a.blocksFit && jobCostOk (parseDesc (rdDpas s addr (min len (0x40 + 32 * 9)))) a.cost } else a
    { a with latchWork := 4000 + max (workTicks a.shd (poolFree s .reserve .shd)) (workTicks a.drb (poolFree s .reserve .drb)) + (if src = 1 then ceilDiv len 16 else 0) + 2000 }

/-- The request with what R398 asks of its latch point among its parameters, for R84. -/
def keepWork (a : AskFor) : AskFor := { a with params := a.params.set 7 a.latchWork }

/-- Gates of a CREAM item (R551): the display engine, and its source's. -/
def creamGates (s : State) (c : Ctx) : List Nat :=
  if leAt c.pay 0x6A 1 = 1 then [3, 0x21 + leAt c.pay 0x6B 1] else if rasterFault s then [3, 0x20] else [3, 2]

/-- Steps 12 and 13 of CREAM_UPDATE. -/
def doCreamUpdate (c : Ctx) (s : State) : Ans :=
  match creamCheck s c with
  | some pay => .reply pay s
  | none =>
    match contractGuard s c.fn (creamGates s c) with
    | some st => .reply (stOnly st) s
    | none =>
      let (pay, s, _) := admitReply (keepWork (creamAsk s c)) s
      .reply pay s

/-- Meaning of CREAM_UPDATE (R397). -/
def execCreamUpdate (t : Tick) (q : Request) (s : State) : Out := gcp opCreamUpdate t q doCreamUpdate s

/-! ### The work (R399) -/

/-- Copy the range of every enabled region from the front buffer to the back buffer. -/
def copyRegions (n : Nat) (s : State) : State :=
  let f := (crlSt s n).front
  (regionsOn s n).foldl (fun s r =>
    let q := regionRect s n r
    wrVat (lcBuffer n (1 - f) + regionOff s n r) (rdVat s (lcBuffer n f + regionOff s n r) (regionPitch s n r * (q.y1 - q.y0))) s) s

/-- The work of a CREAM contract begins. -/
def creamBegin (c : Contract) (s : State) : State :=
  let n := c.blk.target
  let p (i : Nat) : Nat := c.params.getD i 0
  let s := copyRegions n s
  let w : CreamWork := { fn := c.fn, id := c.id, inst := c.inst, output := n, regions := p 0, source := p 1, cv := p 2, addr := p 3, len := p 4, dest := p 5,
                         hash := (c.params.drop 8).map (fun (x : Nat) => BitVec.ofNat 8 x), recovery := p 6 == 1, begun := true }
  let s := { s with disp := { s.disp with cream := s.disp.cream ++ [w] } }
  let s := setContract c.fn c.id (fun x => { x with phase := .running, startedAt := s.gtb }) s
  if p 1 = 1 then s
  else if p 6 = 1 then
    queueRender { kind := 0, output := n, regions := p 0, owner := some (c.fn, c.id, c.inst), pixels := regionPixels s n (setBits 16 (p 0)),
                  steps := (match activeScene s n with | some b => scn s b 6 1 | none => 64) } s
  else
    let back := 1 - (crlSt s n).front
    setJob c.fn c.id c.inst (fun j => { j with win := if back = 1 then 1 + n else 0 }) (startJobAt c 0 (p 3) (p 4) 0 s)

/-- Meaning of CREAM_WORK_START (R399, R402): at s₀ of the item of an output, and after the flip of a hold render that has the back buffer. -/
def execCreamWorkStart (t : Tick) (output : BitVec 3) (s : State) : Out :=
  let s := advance t s
  let n := output.toNat
  match (contractsOn s .cream n).find? (fun c => c.phase == .waiting && decide (c.s0 ≤ s.gtb)) with
  | some c => if (crlSt s n).holdPending || backBusy s n then .next s else .next (creamBegin c s)
  | none => .next s

/-- Is the work of a CREAM item complete? -/
def creamReady (s : State) (w : CreamWork) : Bool :=
  w.source == 1 || (if w.recovery then w.rendered else (jobOf s w.fn w.id w.inst).isNone)

/-- Meaning of CREAM_WORK_DONE (R399): the loader has copied and the hash is checked, or the render is complete; a flip is pending, or the item is breached. -/
def execCreamWorkDone (t : Tick) (output : BitVec 3) (s : State) : Out :=
  let s := advance t s
  let n := output.toNat
  match s.disp.cream.find? (fun w => w.output == n && w.begun) with
  | none => .next s
  | some w =>
    if creamReady s w then
      let back := lcBuffer n (1 - (crlSt s n).front)
      let s := { s with disp := { s.disp with cream := s.disp.cream.filter (fun x => x != w) } }
      let s := setContract w.fn w.id (fun c => if c.inst = w.inst then { c with phase := .ended } else c) s
      if w.source = 1 then
        let s := meter w.fn w.id w.inst 0 w.len (wrVat (back + w.dest) (rdDpas s w.addr w.len) s)
        if sha256 (rdVat s (back + w.dest) w.len) = w.hash then .next (flipPending n ⟨some (w.fn, w.id, w.inst), w.regions, s.gtb⟩ s)
        else match openInst s w.fn w.id w.inst with
          | some c => .next (breach c .assetMismatch w.fn 0 s)
          | none => .next s
      else .next (flipPending n ⟨some (w.fn, w.id, w.inst), w.regions, s.gtb⟩ s)
    else .next s

/-- A cancelled CREAM item leaves its work and, until a latch point has taken it, its flip (R402). -/
def withdrawCream (fn id : Nat) (s : State) : State :=
  let mine (o : Option (Nat × Nat × Nat)) : Bool := match o with | some (f, i, _) => f == fn && i == id | none => false
  let s := { s with disp := { s.disp with cream := s.disp.cream.filter (fun w => !(w.fn == fn && w.id == id)) } }
  let s := { s with trv := { s.trv with queue := s.trv.queue.filter (fun r => !(mine r.owner)) } }
  (List.range 8).foldl (fun s n => match (crlSt s n).flip with
    | some f => if mine f.owner then setCrl n (fun c => { c with flip := none }) s else s
    | none => s) s

/-! ### Tile signatures (R403 to R407) -/

/-- Tile columns. -/
def tileW (s : State) (n : Nat) : Nat := ceilDiv (hAct s n) 8
/-- Tile rows. -/
def tileH (s : State) (n : Nat) : Nat := ceilDiv (vAct s n) 8

/-- Does a tile lie in a zone of some list? Zones lie on the tile grid. -/
def tileIn (zs : List Zone) (tw idx : Nat) : Bool := tw != 0 && zs.any (fun z => z.has (8 * (idx % tw)) (8 * (idx / tw)))

/-- The Vat offset of a tile's entry (R403). -/
def tileEntry (n idx : Nat) : Nat := 0x2000000 + 8 * (131072 * n + idx)

/-- The pixels of a tile in the active area, row by row. -/
def tilePix (s : State) (n idx : Nat) : List (Nat × Nat) :=
  let tw := tileW s n
  let x0 := 8 * (idx % tw)
  let y0 := 8 * (idx / tw)
  (List.range (min 8 (vAct s n - y0))).flatMap (fun j => (List.range (min 8 (hAct s n - x0))).map (fun i => (x0 + i, y0 + j)))

/-- The signature of a list of words (R404). -/
def signWords (ws : List Word) : Word := BitVec.ofNat 32 (crc32c (ws.flatMap (fun (w : Word) => le 4 w.toNat)))

/-- SIG of a tile from the lines scanned in the frame. -/
def tileSig (s : State) (n idx : Nat) : Word :=
  signWords ((tilePix s n idx).map (fun p => (tget [] (outSt s n).raster p.2).getD p.1 0))

/-- EXP of a certified tile (R406), from the front buffer, palette, LUT, rind colour, geometry and blanking in effect for the frame. -/
def tileExp (s : State) (n idx : Nat) : Word :=
  let d := panelBits s n
  signWords ((tilePix s n idx).map (fun p => linkWord d ((creamPixel s n p.1 p.2).getD [])))

/-- Does a pixel of a tile come from a poisoned word of the front buffer (Table 7.4)? -/
def tilePoisoned (s : State) (n idx : Nat) : Bool :=
  let c := crlSt s n
  !s.mem.poison.isEmpty && (tilePix s n idx).any (fun p => match coverRegion s n p.1 p.2 with
    | some r =>
      let q := regionRect s n r
      !(c.state == 3 || c.blanked.testBit r) && poisoned s (vatBase + lcBuffer n c.front + regionOff s n r + (p.2 - q.y0) * regionPitch s n r + (p.1 - q.x0))
    | none => false)

/-- Have all lines of a tile been scanned in the frame? -/
def tileScanned (s : State) (n idx : Nat) : Bool := (tilePix s n idx).all (fun p => !(tget [] (outSt s n).raster p.2).isEmpty)

/-- A mismatch of a certified tile: counted, and on the first of the frame announced (R407); under policy HOLD a hold render is requested once per frame (R410). -/
def tileMismatch (n idx : Nat) (sig exp : Word) (expLost : Bool) (s : State) : State :=
  let c := crlSt s n
  let s := wr (Reg.CRL_MM_TOTAL n) (rd s (Reg.CRL_MM_TOTAL n) + 1) s
  let s := setCrl n (fun c => { c with cur := { c.cur with bad := c.cur.bad ++ [idx], expLost := c.cur.expLost || expLost } }) s
  let s := if c.cur.first.isNone then raiseHolm 1 (setCrl n (fun c => { c with cur := { c.cur with first := some (idx, sig, exp, expLost, s.gtb) } }) s) else s
  if fld s (Reg.CRL_CTRL n) Fld.CRL_CTRL_POLICY = 0 ∧ c.state ≤ 1 ∧ c.cur.holdAsked = false then holdRequest n s else s

/-- Meaning of TILE_SIGNATURE_DONE (R405 to R407, R420): the signature of a tile is complete, written and, for a certified tile, compared. `upset` is what a fault between the Vat read ports and the comparator
inverts in SIG; `expLost` says that the strait lost EXP. A certified tile with poisoned pixels mismatches (Table 7.4). -/
def execTileSignatureDone (t : Tick) (output : BitVec 3) (tile : BitVec 17) (upset : Word) (expLost : Bool) (s : State) : Out :=
  let s := advance t s
  let n := output.toNat
  let i := tile.toNat
  if scanning s n && decide (i < tileW s n * tileH s n) && tileScanned s n i && !((crlSt s n).cur.signed.contains i) then
    let (hits, s) := meetFaults 2 n 0 i s
    let flips : Word := if hits.length % 2 = 1 then 1 else 0
    let sig := tileSig s n i ^^^ upset ^^^ flips
    let s := setCrl n (fun c => { c with cur := { c.cur with signed := c.cur.signed ++ [i], provoked := c.cur.provoked || !hits.isEmpty } }) s
    let o := outSt s n
    let old := leAt (rdVat s (tileEntry n i) 8) 0 8
    let poison := tilePoisoned s n i
    if tileIn o.zones (tileW s n) i then
      let exp : Word := if expLost then 0 else tileExp s n i
      let s := wrVat (tileEntry n i) (le 4 sig.toNat ++ le 4 exp.toNat) s
      if sig = exp ∧ expLost = false ∧ poison = false then .next s else .next (tileMismatch n i sig exp expLost s)
    else
      let epoch := o.frame % 65536
      if tileIn o.prevZones (tileW s n) i || old % 2 ^ 32 != sig.toNat then .next (wrVat (tileEntry n i) (le 4 sig.toNat ++ le 2 epoch ++ [0, 0]) s) else .next s
  else .next s

/-! ### The frame's judgement (R408 to R415) -/

/-- The certified tiles of the frame, rising. -/
def certTiles (s : State) (n : Nat) : List Nat := (List.range (tileW s n * tileH s n)).filter (tileIn (outSt s n).zones (tileW s n))

/-- The digest of some tiles (R408). -/
def digestOf (s : State) (n : Nat) (ts : List Nat) : Nat := crc32c (ts.flatMap (fun i => rdVat s (tileEntry n i) 4))

/-- The tiles of an update (R401): those with a pixel of a named region. -/
def updateTiles (s : State) (n regions : Nat) : List Nat :=
  let tw := tileW s n
  (certTiles s n).filter (fun i => (setBits 16 regions).any (fun r =>
    let q := regionRect s n r
    decide (q.x0 < 8 * (i % tw) + 8) && decide (8 * (i % tw) < q.x1) && decide (q.y0 < 8 * (i / tw) + 8) && decide (8 * (i / tw) < q.y1)))

/-- Regions whose zone holds a mismatched tile (R410). -/
def badRegions (s : State) (n : Nat) (bad : List Nat) : Nat :=
  (regionsOn s n).foldl (fun a r => if bad.any (tileIn [regionZone s n r] (tileW s n)) then a ||| 2 ^ r else a) 0

/-- Table 13.4: state, blanked regions, FAILS, NOSCENE after a frame that verified or not. -/
def policyNext (c : CrlState) (policy mm : Nat) (verified : Bool) : Nat × Nat × Nat × Bool :=
  let ns := c.noscene || c.cur.noScene
  match c.state with
  | 0 => if verified then (0, c.blanked, 0, false) else if policy = 0 then (1, mm, 1, ns) else (2, c.blanked, 1, ns)
  | 1 =>
    if verified then (if c.blanked = 0 ∧ c.holdPending = false then (0, 0, 0, false) else (1, c.blanked, c.fails, ns))
    else
      let f := if c.cur.holdFlip then c.fails + 1 else c.fails
      (if 3 ≤ f then 3 else 1, c.blanked ||| mm, f, ns)
  | 2 =>
    if verified then (0, c.blanked, 0, false)
    else (if 8 ≤ c.fails + 1 then 3 else 2, c.blanked, c.fails + 1, ns)
  | _ => (3, c.blanked, c.fails, ns)

/-- CONFIG_CRC (R417). -/
def configCrc (s : State) (n : Nat) : Nat :=
  let w (a : Nat) : List Byte := le 4 (rd s a).toNat
  crc32c (w (Reg.CRL_CTRL n) ++ w (Reg.CRL_RIND n) ++ w (Reg.CRL_REGEN n) ++
    (List.range 16).flatMap (fun r => w (Reg.CRL_Rr_POS n r) ++ w (Reg.CRL_Rr_SIZE n r) ++ w (Reg.CRL_Rr_BUF n r) ++ w (Reg.CRL_Rr_CFG n r)) ++
    (List.range 256).flatMap (fun i => le 4 (tab s (Reg.CRL_PAL_DATA n) i).toNat) ++
    (List.range 3072).flatMap (fun i => le 4 (tab s (Reg.CRL_LUT_DATA n) i).toNat))

/-- FLAGS of a frame's evidence record (Table 13.6), less LOST_BEFORE. -/
def evidenceFlags (o : OutState) (c : CrlState) (verified : Bool) : Nat :=
  bit verified + 2 * bit (!verified) + 4 * bit o.reverify + 8 * bit c.cur.flip + 16 * bit c.holdContent + 32 * bit c.cur.provoked + 64 * bit c.cur.crlCommit + 256 * bit o.breachFlag

/-- The bytes of a frame's evidence record, with zeros for INDEX and CHAIN. -/
def evidenceBytes (s : State) (n : Nat) (verified : Bool) (cert whole tiles : Nat) : List Byte :=
  let o := outSt s n
  let c := crlSt s n
  le 8 c.cur.opened ++ le 4 0 ++ le 4 o.frame ++ le 1 n ++ le 1 (c.state + 4 * bit c.noscene + 8 * c.front + 16 * ((rd s Reg.ISO_DBG).toNat % 16)) ++
    le 2 (evidenceFlags o c verified) ++ le 2 (rd s (Reg.CRL_REGEN n)).toNat ++ le 2 c.blanked ++ le 4 cert ++ le 4 whole ++ le 4 tiles ++ le 4 c.cur.bad.length ++
    le 4 c.cur.flipId ++ le 4 (configCrc s n) ++ le 4 0 ++ le 12 0

/-- A CREAM_MISMATCH record (Table 13.5). -/
def mismatchRecord (s : State) (n st mm : Nat) : List Byte :=
  let c := crlSt s n
  let (i, sig, exp, lost, at_) := c.cur.first.getD (0, 0, 0, false, c.cur.opened)
  le 2 0x0301 ++ le 2 (bit c.cur.provoked + 2 * bit c.cur.expLost) ++ le 1 n ++ le 1 st ++ le 2 mm ++ le 4 (outSt s n).frame ++ le 4 i ++ le 4 sig.toNat ++
    le 4 (if lost then 0 else exp.toNat) ++ le 8 at_

/-- The frame that the present latch point ends is judged: the snapshot group, the digests, the records, the state to come, the delivery of the update that it shows (R401). A certified tile that was
not signed does not verify. -/
def judgeFrame (n : Nat) (s : State) : State :=
  let o := outSt s n
  let c := crlSt s n
  let cert := certTiles s n
  let ok (ts : List Nat) : Bool := ts.all (fun i => c.cur.signed.contains i && !(c.cur.bad.contains i))
  let verified := ok cert
  let digest := digestOf s n cert
  let whole := digestOf s n (List.range (tileW s n * tileH s n))
  let s := wr (Reg.CRL_LAST_FRAME n) (BitVec.ofNat 32 o.frame) (wr (Reg.CRL_LAST_DIGEST n) (BitVec.ofNat 32 digest) (wr (Reg.CRL_LAST_MM n) (BitVec.ofNat 32 c.cur.bad.length) s))
  let s := match c.cur.first with
    | some f => wr (Reg.CRL_LAST_TILE n) (BitVec.ofNat 32 (packF Fld.CRL_LAST_TILE_VALID 1 + packF Fld.CRL_LAST_TILE_TILE f.1)) s
    | none => s
  let mm := badRegions s n c.cur.bad
  let nx := policyNext c (fld s (Reg.CRL_CTRL n) Fld.CRL_CTRL_POLICY) mm verified
  let s := if verified then s else post (eventPf s) true (mismatchRecord s n nx.1 mm) s
  let fl := evidenceFlags o c verified
  let due := evidenceBytes s n verified digest whole cert.length
  let s := setCrl n (fun c => { c with next := some nx, verified := verified, due := c.due ++ [(due, decide (fl &&& 0x14A ≠ 0))] }) s
  let s := setOut n (fun o => { o with breachFlag := false, reverifyEnd := o.reverify && verified }) s
  match c.shown with
  | some (fn, id, inst, regions) =>
    if c.blanked &&& regions = 0 ∧ c.state ≠ 3 ∧ ok (updateTiles s n regions) then finish fn id inst c.cur.opened digest (setCrl n (fun c => { c with shown := none }) s) else s
  | none => s

/-! ### Evidence (R416 to R418) -/

/-- What MODE 1 compares of a record: CERT_DIGEST, STATE, BLANKED, REGIONS. -/
def evidenceKey (b : List Byte) : Nat × Nat × Nat × Nat := (leAt b 0x18 4, leAt b 0x11 1, leAt b 0x16 2, leAt b 0x14 2)

/-- The Vat offset of ring slot `k`. -/
def evidenceAt (k : Nat) : Nat := 0x3300000 + 64 * k

/-- Write a record of an output into the ring. -/
def evidencePut (n : Nat) (b : List Byte) (s : State) : State :=
  let i := s.disp.evidence
  let k := i % 14336
  let s := if 14336 ≤ i then
      (let lost := leAt (rdVat s (evidenceAt k) 64) 0x10 1
       wrF Reg.CRL_EV_STAT Fld.CRL_EV_STAT_LOST ((fld s Reg.CRL_EV_STAT Fld.CRL_EV_STAT_LOST + 1) % 65536) (setCrl lost (fun c => { c with lostBefore := true }) s))
    else s
  let c := crlSt s n
  let b := slice b 0 8 ++ le 4 i ++ slice b 0xC 6 ++ le 2 (leAt b 0x12 2 + 128 * bit c.lostBefore) ++ slice b 0x14 0x1C ++ le 4 c.chain ++ le 12 0
  let s := setCrl n (fun c => { c with chain := crc32c b, prevKey := some (evidenceKey b), lostBefore := false }) s
  wrF Reg.CRL_EV_STAT Fld.CRL_EV_STAT_NEXT ((i + 1) % 14336) (wrVat (evidenceAt k) b { s with disp := { s.disp with evidence := i + 1 } })

/-- Meaning of EVIDENCE_RECORD (R416): the record of a frame of an output is written, unless MODE 1 leaves it out. -/
def execEvidenceRecord (t : Tick) (output : BitVec 3) (s : State) : Out :=
  let s := advance t s
  let n := output.toNat
  let c := crlSt s n
  match c.due with
  | [] => .next s
  | (b, must) :: ds =>
    let s := setCrl n (fun c => { c with due := ds }) s
    if flg s Reg.CRL_EV_CTRL Fld.CRL_EV_CTRL_MODE && !must && c.prevKey == some (evidenceKey b) then .next s
    else .next (evidencePut n b s)

/-- EVIDENCE_READ (Table 3.6). -/
def opEvidenceRead : OpInfo := ⟨0x0901, (3, 0), .holm, none, true, .fixed 0x18, false⟩

/-- Step 13 of EVIDENCE_READ (R418). -/
def doEvidenceRead (c : Ctx) (s : State) : Ans :=
  let out := leAt c.pay 0 1
  let n := leAt c.pay 0x14 4
  if 8 ≤ out ∧ out ≠ 0xFF then .reply (stOff .paramInvalid 0) s
  else if leAt c.pay 1 3 ≠ 0 then .reply (stOff .reservedSet 1) s
  else if n % 64 ≠ 0 then .reply (stOff .paramInvalid 0x14) s
  else
    let i := s.disp.evidence
    let m := min i 14336
    let all := (List.range m).map (fun j => rdVat s (evidenceAt ((i - m + j) % 14336)) 64)
    let got := (all.filter (fun b => (out == 0xFF || leAt b 0x10 1 == out) && decide (leAt c.pay 4 8 ≤ leAt b 0 8))).take (n / 64)
    let last := match got.getLast? with | some b => leAt b 0 8 | none => 0
    .reply (stDone (le 4 got.length ++ le 8 last)) (wrIovas c.fn 8 (leAt c.pay 0xC 8) got.flatten s)

/-- Meaning of EVIDENCE_READ. -/
def execEvidenceRead (t : Tick) (q : Request) (s : State) : Out := gcp opEvidenceRead t q doEvidenceRead s

end Sys2Proof.Machine
end

