-- ==== Sys2Proof/Machine/LinkCore.lean ====
section
/-!
DEFINITION. LinkCore.lean: display links: their records, whether they carry a timing, bringing them up (R424 to R429).
-/

namespace Sys2Proof.Machine

open Sys2Proof

/-- The transmit group of an output. -/
def txSt (s : State) (n : Nat) : TxState := tget {} s.lnk.tx n

/-- Change a transmit group. -/
def setTx (n : Nat) (f : TxState → TxState) (s : State) : State := { s with lnk := { s.lnk with tx := tmod {} s.lnk.tx n f } }

/-- The rate of a code of Table 14.8 in Mb/s. -/
def rateMbps (c : Nat) : Nat := ([1620, 2160, 2430, 2700, 3240, 4320, 5400, 8100] : List Nat).getD c 0

/-- PROTO in effect. -/
def txProto (s : State) (n : Nat) : Nat := fld s (Reg.LNK_TXg_CFG n) Fld.LNK_TXg_CFG_PROTO
/-- LANES in effect. -/
def txLanes (s : State) (n : Nat) : Nat := fld s (Reg.LNK_TXg_CFG n) Fld.LNK_TXg_CFG_LANES
/-- RATE in effect. -/
def txRate (s : State) (n : Nat) : Nat := fld s (Reg.LNK_TXg_CFG n) Fld.LNK_TXg_CFG_RATE

/-- Is a rate of eDP alone? -/
def edpOnly (r : Nat) : Bool := r == 1 || r == 2 || r == 4 || r == 5

/-- Is every encoding of LNK_TXg_CFG valid (R424, Table 14.8)? -/
def txCfgOk (s : State) (n : Nat) : Bool :=
  let p := txProto s n
  let m := fld s (Reg.LNK_TXg_CFG n) Fld.LNK_TXg_CFG_DSI_MBPS
  [1, 2, 4].contains (txLanes s n) && (p != 3 || (decide (80 ≤ m) && decide (m ≤ 2500))) && (p != 1 || !edpOnly (txRate s n)) &&
    (p == 2 || !flg s (Reg.LNK_TXg_CFG n) Fld.LNK_TXg_CFG_SU_EN) && (p == 3 || !flg s (Reg.LNK_TXg_CFG n) Fld.LNK_TXg_CFG_DSI_CMD)

/-- Does a link of some lanes and a rate carry the timing (R424)? PANEL_BPC 3 gives no BPC, and no test. -/
def carries (s : State) (n lanes rate : Nat) : Bool :=
  if fld s (Reg.OP_CTRL n) Fld.OP_CTRL_PANEL_BPC = 3 then true
  else
    let need := pclk s n * 3 * panelBits s n * 100
    if txProto s n = 3 then decide (need ≤ lanes * fld s (Reg.LNK_TXg_CFG n) Fld.LNK_TXg_CFG_DSI_MBPS * 1000000 * 85)
    else decide (need ≤ lanes * rateMbps rate * 1000000 * 79)

/-- Step 4 of Table 12.3 on a resulting configuration: the trained values count while the link is active and its configuration stays. -/
def linkFits (s s' : State) (n : Nat) : Bool :=
  txCfgOk s' n &&
  (txProto s' n == 0 ||
   (let x := txSt s n
    if x.state = 2 ∧ rd s' (Reg.LNK_TXg_CFG n) = rd s (Reg.LNK_TXg_CFG n) then carries s' n x.lanes x.rate else carries s' n (txLanes s' n) (txRate s' n)))

/-- A LINK_EVENT record (Table 14.5). -/
def linkRecord (s : State) (n old cause : Nat) : List Byte :=
  let x := txSt s n
  le 2 0x0302 ++ le 2 0 ++ le 1 n ++ le 1 (x.state + 16 * old) ++ le 1 cause ++ le 1 (16 * x.lanes + x.rate) ++ le 8 s.gtb ++ le 8 0 ++ le 8 0

/-- A change of STATE with its LINK_EVENT: to the owner's queue, and a copy to EQ1 of EVENT_PF (R429). The one record serves when both are the same queue. -/
def linkState (n st cause : Nat) (s : State) : State :=
  let old := (txSt s n).state
  let s := setTx n (fun x => { x with state := st }) s
  if old = st then s
  else
    let r := linkRecord s n old cause
    let pf := eventPf s
    let s := match holderOf s (outObj n) with
      | some ⟨false, f⟩ => post f false r s
      | _ => s
    post pf true r s

/-- The configurations to fall back to, in order (R426): lower rates of the protocol at the same lanes, then half the lanes from the configured rate. -/
def fallbacks (s : State) (n : Nat) : List (Nat × Nat) :=
  let lanes := txLanes s n
  let rate := txRate s n
  let rates := ((List.range (rate + 1)).reverse).filter (fun r => txProto s n == 2 || !edpOnly r)
  let low := rates.filter (fun r => r != rate)
  (low.map (fun r => (lanes, r))) ++ (if 2 ≤ lanes then rates.map (fun r => (lanes / 2, r)) else []) ++ (if 4 ≤ lanes then rates.map (fun r => (lanes / 4, r)) else [])

/-- The bring-up of a link begins (R426). PROTO 0 drives no link. -/
def linkBring (n cause : Nat) (s : State) : State :=
  if txProto s n = 0 then linkState n 0 cause (setTx n (fun x => { x with trying := none, rest := [], retryAt := none, lanes := 0, rate := 0 }) s)
  else
    let rest := if flg s (Reg.LNK_TXg_CFG n) Fld.LNK_TXg_CFG_FALLBACK_EN then fallbacks s n else []
    let go (x : TxState) : TxState :=
      { x with trying := some (txLanes s n, txRate s n), second := false, rest := rest, cause := cause, retryAt := none, unplugged := false, lanes := 0, rate := 0, readyBy := some s.gtb }
    linkState n 1 cause (setTx n go s)

/-- The link goes to its idle state as the output is disabled (R427). -/
def linkDown (n : Nat) (s : State) : State :=
  linkState n 0 7 (setTx n (fun x => { x with trying := none, rest := [], retryAt := none, unplugged := false, lanes := 0, rate := 0 }) s)

/-- Is an output ready (R365): its pixel island's clock is good, and its link can carry video? -/
def outReady (s : State) (n : Nat) : Bool := isGood s (8 + n) && (txProto s n == 0 || (txSt s n).state == 2)

/-- Note the tick at which an output became ready. -/
def noteReadyAt (n : Nat) (s : State) : State :=
  if outReady s n then setOut n (fun o => if o.readyAt.isSome then o else { o with readyAt := some s.gtb }) s else setOut n (fun o => { o with readyAt := none }) s

end Sys2Proof.Machine
end

