-- ==== Sys2Proof/Machine/Commit.lean ====
section
/-!
DEFINITION. Commit.lean: commits and their checks (R357, R358, R368 to R376, R419), latch points and the hand-over (R362 to R367, R371 to R382).
-/

namespace Sys2Proof.Machine

open Sys2Proof

/-! ### Checks of a resulting configuration `s` (Tables 12.1, 11.5, 13.7) -/

/-- R363. -/
def timingOk (s : State) (n : Nat) : Bool :=
  let hs := fld s (Reg.TG_H1 n) Fld.TG_H1_HS_START
  let he := fld s (Reg.TG_H1 n) Fld.TG_H1_HS_END
  let vs := fld s (Reg.TG_V1 n) Fld.TG_V1_VS_START
  let ve := fld s (Reg.TG_V1 n) Fld.TG_V1_VS_END
  let total := hTot s n * vTot s n * 200000000
  let ax := fld s (Reg.TG_CMD n) Fld.TG_CMD_ALIGN_X
  let ay := fld s (Reg.TG_CMD n) Fld.TG_CMD_ALIGN_Y
  decide (64 ≤ hAct s n) && decide (hAct s n ≤ 8192) && hAct s n % 2 == 0 && decide (hAct s n + 32 ≤ hTot s n) && decide (hTot s n ≤ 16384) && hTot s n % 2 == 0 &&
    decide (hAct s n ≤ hs) && decide (hs < he) && decide (he ≤ hTot s n) && decide (64 ≤ vAct s n) && decide (vAct s n ≤ 8192) && decide (vAct s n + 8 ≤ vTot s n) &&
    decide (vTot s n ≤ 16384) && decide (vAct s n ≤ vs) && decide (vs < ve) && decide (ve ≤ vTot s n) && decide (25000000 ≤ pclk s n) && decide (pclk s n ≤ 1200000000) &&
    pclk s n % 100 == 0 && decide (833333 * pclk s n ≤ total) && decide (total ≤ 10000000 * pclk s n) && decide (tileW s n * tileH s n ≤ 131072) &&
    decide (3 ≤ ax) && decide (ax ≤ 7) && decide (3 ≤ ay) && decide (ay ≤ 7)

/-- The enabled layers of an output. -/
def layersOn (s : State) (n : Nat) : List Nat := (List.range 8).filter (layerOn s n)

/-- Step 1 of Table 11.5. -/
def encodingOk (s : State) (n : Nat) : Bool :=
  let wf := fld s (Reg.OP_WB_CTRL n) Fld.OP_WB_CTRL_WB_FORMAT
  fld s (Reg.OP_CTRL n) Fld.OP_CTRL_PANEL_BPC != 3 && fld s (Reg.OP_CTRL n) Fld.OP_CTRL_DITHER != 3 && (wf == 1 || wf == 2) &&
    (layersOn s n).all (fun l => bpp2 (layerFormat s n l) != 0 && fld s (Reg.Lx_CTRL n l) Fld.Lx_CTRL_ALPHA_MODE != 3)

/-- Bytes from the start of a row of plane `p` to the end of the last sample fetched (R332). -/
def rowEnd (s : State) (n l p : Nat) : Nat :=
  let f := layerFormat s n l
  let e := (srcPos s n l).1 + (srcSize s n l).1
  let b := if tenBit f then 2 else 1
  if !isYc f then e * pixBytes f else if p = 0 then e * b else if planes3 f then e / 2 * b else e * b

/-- R332 of one layer. -/
def layerGeometry (s : State) (n l : Nat) : Bool :=
  let f := layerFormat s n l
  let (sx, sy) := srcPos s n l
  let (sw, sh) := srcSize s n l
  let (dw, dh) := dstSize s n l
  let (dx, dy) := dstPos s n l
  let dim (v : Nat) : Bool := decide (1 ≤ v) && decide (v ≤ 8192)
  let pitch (p : Nat) : Nat := fld s (Reg.Lx_PITCHp n l p) Fld.Lx_PITCHp_PITCH
  dim sw && dim sh && dim dw && dim dh &&
    (cursorLayer s n == some l || (decide (dx + dw ≤ hAct s n) && decide (dy + dh ≤ vAct s n))) &&
    (!isYc f || (sx % 2 == 0 && sw % 2 == 0)) && (!(isYc f && sub420 f) || (sy % 2 == 0 && sh % 2 == 0)) &&
    ((layerVin s n l).isSome || (List.range (planesOf f)).all (fun p => pitch p % 64 == 0 && decide (rowEnd s n l p ≤ pitch p)))

/-- Step 2 of Table 11.5. -/
def geometryOk (s : State) (n : Nat) : Bool :=
  let wp := fld s (Reg.OP_WB_PITCH n) Fld.OP_WB_PITCH_PITCH
  (layersOn s n).all (layerGeometry s n) &&
    (!flg s (Reg.OP_WB_CTRL n) Fld.OP_WB_CTRL_WB_EN || (wp % 64 == 0 && decide (hAct s n * 4 ≤ wp)))

/-- R337: OP_ZORDER names every layer once. -/
def zorderOk (s : State) (n : Nat) : Bool :=
  let w := (rd s (Reg.OP_ZORDER n)).toNat
  (List.range 8).all (fun l => (List.range 8).any (fun k => natBits w (3 * k + 2) (3 * k) == l))

/-- Does a layer take a scaler (R339)? -/
def layerScaled (s : State) (n l : Nat) : Bool :=
  scaled (layerFormat s n l) (srcSize s n l).1 (srcSize s n l).2 (dstSize s n l).1 (dstSize s n l).2

/-- Does it take a pair? -/
def layerPaired (s : State) (n l : Nat) : Bool := paired (layerFormat s n l) (dstSize s n l).1

/-- The scalers that a layer takes, in ascending layer number (R339): the first of them, if the assignment succeeds. -/
def scalerOf (s : State) (n : Nat) : List (Nat × Nat × Bool) :=
  ((layersOn s n).filter (layerScaled s n)).foldl (fun (a : List (Nat × Nat × Bool)) l =>
    let used (k : Nat) : Bool := a.any (fun e => e.2.1 == k || (e.2.2 && e.2.1 + 1 == k))
    if layerPaired s n l then (match ([0, 2] : List Nat).find? (fun k => !used k && !used (k + 1)) with | some k => a ++ [(l, k, true)] | none => a)
    else (match ([0, 1, 2, 3] : List Nat).find? (fun k => !used k) with | some k => a ++ [(l, k, false)] | none => a)) []

/-- R343 of one scaled layer. -/
def ratioOk (s : State) (n l : Nat) : Bool :=
  let (sw, sh) := srcSize s n l
  let (dw, dh) := dstSize s n l
  decide (dw ≤ 16 * sw) && decide (sw ≤ 4 * dw) && decide (dh ≤ 16 * sh) && decide (sh ≤ 4 * dh)

/-- R344 of one scaled layer. -/
def lineOk (s : State) (n l : Nat) : Bool := if layerPaired s n l then decide ((dstSize s n l).1 ≤ 8192) else decide ((dstSize s n l).1 ≤ 4096)

/-- R345 of one scaled layer. -/
def rateOk (s : State) (n l : Nat) : Bool :=
  let (sw, sh) := srcSize s n l
  decide (ceilDiv sw 8 * ceilDiv sh (dstSize s n l).2 ≤ hTot s n * 800000000 / pclk s n)

/-- Step 8 of Table 11.5: the fetch and writeback rates total at most 25.6 GB/s. -/
def fetchOk (s : State) (n : Nat) : Bool :=
  let layers := ((layersOn s n).map (fun l => (srcSize s n l).1 * (srcSize s n l).2 * bpp2 (layerFormat s n l))).sum
  let wb := if flg s (Reg.OP_WB_CTRL n) Fld.OP_WB_CTRL_WB_EN then 8 * hAct s n * vAct s n else 0
  decide ((layers + wb) * pclk s n ≤ 2 * 25600000000 * (hTot s n * vTot s n))

/-- R354. -/
def vinOk (s : State) (n : Nat) : Bool :=
  (layersOn s n).all (fun l => match layerVin s n l with
    | some v => (holderOf s (layerObj n l)).isSome && holderOf s (obj 0xB v) == holderOf s (layerObj n l)
    | none => true)

/-- R350. -/
def wbPointOk (s : State) (n : Nat) : Bool :=
  let p := fld s (Reg.OP_WB_CTRL n) Fld.OP_WB_CTRL_WB_POINT
  decide (p < 2) || (p == 2 && holmOwned s (outObj n))

/-- The reason with which the pipe refuses a commit (Table 11.5). -/
def pipeReason (s : State) (n : Nat) : Option Nat :=
  let sc := (layersOn s n).filter (layerScaled s n)
  if encodingOk s n = false then some 3
  else if geometryOk s n = false then some 4
  else if zorderOk s n = false then some 5
  else if sc.all (ratioOk s n) = false then some 6
  else if (scalerOf s n).length ≠ sc.length then some 7
  else if sc.all (lineOk s n) = false then some 8
  else if sc.all (rateOk s n) = false then some 9
  else if fetchOk s n = false then some 0xA
  else if vinOk s n = false then some 0xB
  else if wbPointOk s n = false then some 0xC
  else none

/-- The byte range of a region's buffer. -/
def regionRange (s : State) (n r : Nat) : Nat × Nat := (regionOff s n r, regionPitch s n r * natBits (rd s (Reg.CRL_Rr_SIZE n r)).toNat 31 16)

/-- The reason with which Creamline refuses a Holm commit (R419): `s` as it is, `s'` as it will stand. -/
def creamReason (s s' : State) (n : Nat) : Option Nat :=
  let rs := regionsOn s' n
  let inside (r : Nat) : Bool :=
    let q := regionRect s' n r
    decide (q.x0 < q.x1) && decide (q.y0 < q.y1) && decide (q.x1 ≤ hAct s' n) && decide (q.y1 ≤ vAct s' n)
  let fits (r : Nat) : Bool :=
    let q := regionRect s' n r
    decide (q.x1 - q.x0 ≤ regionPitch s' n r) && decide (regionPitch s' n r ≤ 8192) && decide ((regionRange s' n r).1 + (regionRange s' n r).2 ≤ 0x200000) &&
      rs.all (fun p => p == r || !overlaps (regionRange s' n p).1 (regionRange s' n p).2 (regionRange s' n r).1 (regionRange s' n r).2)
  let same (a : Nat) : Bool := rd s a == rd s' a
  if 2 ≤ fld s' (Reg.CRL_CTRL n) Fld.CRL_CTRL_POLICY then some 0x20
  else if rs.all inside = false then some 0x21
  else if rs.all fits = false then some 0x22
  else if rs.all (fun r => decide (1 ≤ regionRind s' n r) && decide (regionRind s' n r ≤ 64)) = false then some 0x23
  else if (contractsOn s .cream n).isEmpty = false ∧ (same (Reg.CRL_REGEN n) && (regionsOn s n ++ rs).all (fun r =>
      same (Reg.CRL_Rr_POS n r) && same (Reg.CRL_Rr_SIZE n r) && same (Reg.CRL_Rr_BUF n r) && same (Reg.CRL_Rr_CFG n r))) = false then some 0x24
  else none

/-- R44. -/
def promptOk (s : State) (n : Nat) : Bool := !isPrompt s n || (decide (hAct s n ≤ 4096) && decide (vAct s n + 48 ≤ vTot s n))

/-- R384. -/
def cursorOk (s : State) (n : Nat) : Bool :=
  match cursorLayer s n with
  | none => true
  | some l =>
    let f := layerFormat s n l
    (layerVin s n l).isNone && (f == 1 || f == 2 || f == 6) && srcSize s n l == dstSize s n l && decide ((srcSize s n l).1 ≤ 256) && decide ((srcSize s n l).2 ≤ 256) &&
      rd s (Reg.Lx_BIND n l) == 0

/-- Step 5 of Table 12.3: KIND 1 only on a link configured for command mode or selective update. -/
def kindOk (s : State) (n : Nat) : Bool :=
  !flg s (Reg.TG_CTRL n) Fld.TG_CTRL_KIND || flg s (Reg.LNK_TXg_CFG n) Fld.LNK_TXg_CFG_DSI_CMD || flg s (Reg.LNK_TXg_CFG n) Fld.LNK_TXg_CFG_SU_EN

/-! ### Locked contracts and latches (R84) -/

/-- Is a configuration a timing change of an enabled output (R378, R425)? -/
def timingChange (s s' : State) (n : Nat) : Bool :=
  tgOn s n && tgOn s' n && (clockChange s s' n || rd s (Reg.TG_H0 n) != rd s' (Reg.TG_H0 n) || rd s (Reg.TG_H1 n) != rd s' (Reg.TG_H1 n) ||
    rd s (Reg.TG_V0 n) != rd s' (Reg.TG_V0 n) || rd s (Reg.TG_V1 n) != rd s' (Reg.TG_V1 n) ||
    flg s (Reg.TG_CTRL n) Fld.TG_CTRL_KIND != flg s' (Reg.TG_CTRL n) Fld.TG_CTRL_KIND)

/-- The usable window of a locked contract at a frame period. -/
def lockedW (c : Contract) (p : Nat) : Int := min ((p : Nat) : Int) (c.blk.deadline - c.blk.release)

/-- A locked contract with its densities at a frame period. -/
def refit (p : Nat) (c : Contract) : Contract :=
  let w := lockedW c p
  let d (cost : Nat) (r : Rate) : Nat := densityOf cost (w - (granularity c.blk.cls r : Nat))
  { c with shd := d c.cShd .shd, drb := d c.cDrb .drb, vat := d c.cost.vatBytes .vat, unit := densityOf c.units (w - 2000) }

/-- Is a contract locked to an output? -/
def lockedTo (n : Nat) (c : Contract) : Bool := c.blk.locked && c.blk.target == n

/-- The ledger with every contract locked to an output at a frame period. -/
def refitAll (n p : Nat) (s : State) : State :=
  { s with ledger := { s.ledger with contracts := s.ledger.contracts.map (fun c => if lockedTo n c then refit p c else c) } }

/-- Does the admission test pass again for the contracts locked to an output (R84)? -/
def lockedFit (s s' : State) (n : Nat) : Bool :=
  let p := framePeriod s' n
  let x := refitAll n p s
  (x.ledger.contracts.filter (lockedTo n)).all (fun c =>
    let pool := poolOf c.blk.cls c.fn
    ([Rate.shd, .drb, .vat] : List Rate).all (fun r => decide (poolUsed x pool r ≤ poolCap x pool r)) &&
    (c.tile == 0 || decide (((4 * c.tile : Nat) : Int) ≤ (shdKhz s : Int) * (lockedW c p - (granularity c.blk.cls .shd : Nat)))) &&
    (c.units == 0 || decide (((contractsOn x c.kind c.blk.target).map (fun y => y.unit)).sum ≤ 65536)))

/-- Does the LATCH check pass again for the signed COMMIT and CREAM items of an output (R84)? -/
def latchesFit (s : State) (n : Nat) : Bool :=
  (contractsOn s .commit n ++ contractsOn s .cream n).all (fun c =>
    match latchFrom s n (c.s0 + (if c.kind = .cream then c.params.getD 7 0 else 0)) with
    | some p => decide (p + pixelLag s n < (instWindow s c).2)
    | none => false)

/-! ### Demands and queue memory (R358, R381) -/

/-- The first party whose increase does not fit: resource, increase, free capacity. `s` holds the demands before the commit, `s'` with it pending. -/
def demandRefusal (s s' : State) : Option (Nat × Nat × Nat) :=
  let bad (p : Pool) (r : Rate) : Option (Nat × Nat × Nat) :=
    let a := poolUsed s p r
    let b := poolUsed s' p r
    if a < b ∧ poolFree s p r < b - a then some (r.code, b - a, poolFree s p r) else none
  ([(Pool.reserve, Rate.shd), (Pool.reserve, Rate.drb)] ++ (List.range 64).map (fun f => (Pool.share f, Rate.drb))).findSome? (fun x => bad x.1 x.2)

/-- Bytes of the frame queue of a configuration, in whole pages of 4 KiB. -/
def queueBytes (s : State) (n : Nat) : Nat :=
  if tgOn s n && !isPrompt s n then ceilDiv (queueDepth s n * (hAct s n * vAct s n * 4)) 4096 * 4096 else 0

/-- Take what a queue of some bytes still needs from the pool. -/
def growQueue (n need : Nat) (s : State) : Option State :=
  let have_ := extLen (outSt s n).queueExt
  if need ≤ have_ then some s
  else match takeExt s.mem.free 0x1000 (need - have_) with
    | some (got, rest) => some (setOut n (fun o => { o with queueExt := o.queueExt ++ got }) { s with mem := { s.mem with free := rest } })
    | none => none

/-- Return what the configuration in effect and those pending do not need. -/
def trimQueue (n : Nat) (s : State) : State :=
  let need := max (queueBytes s n) (queueBytes (pendApplied s n) n)
  let es := (outSt s n).queueExt
  if need < extLen es then toClear (subExt es need (extLen es - need)) (setOut n (fun o => { o with queueExt := subExt es 0 need }) s) else s

/-! ### COMMIT (R369 to R376) -/

/-- COMMIT (Table 3.6). -/
def opCommit : OpInfo := ⟨0x0303, (2, 0), .any, some .commit, false, .fixed 0, false⟩

/-- The holder that a session speaks for (R368). -/
def ctxHolder (c : Ctx) : Holder := if c.holm then ⟨true, 0⟩ else ⟨false, c.fn⟩

/-- Does a holder hold an object of an output? Holm holds the Creamline registers of every output. -/
def holdsAny (s : State) (n : Nat) (h : Holder) : Bool :=
  h.holm || holderOf s (outObj n) == some h || (List.range 8).any (fun l => holderOf s (layerObj n l) == some h)

/-- The pixel rates of the outputs as they will stand (Table 2.6, DEP). -/
def depRate (s' : State) : Nat := ((List.range 8).map (fun n => let x := pendApplied s' n; if tgOn x n then pclk x n else 0)).sum

/-- The reply of a COMMIT that reached the admission test and was refused (R375). -/
def commitNo (st : Status) (res er need avail reason : Nat) : List Byte := refusedReply st res er need avail ++ le 2 reason ++ le 2 0

/-- Steps 3 to 9 of Table 12.3: the reason, if one refuses. -/
def configReason (s s' : State) (n : Nat) (holm : Bool) : Option Nat :=
  if tgOn s' n = false then none
  else if timingOk s' n = false then some 1
  else if linkFits s s' n = false then some 2
  else if kindOk s' n = false then some 0x10
  else match pipeReason s' n with
    | some r => some r
    | none =>
      match (if holm then creamReason s s' n else none) with
      | some r => some r
      | none => if promptOk s' n = false then some 0xD else if cursorOk s' n = false then some 0xE else none

/-- The commit pending of a holder. -/
def pendOf (s : State) (n : Nat) (h : Holder) : Option PendCommit := (outSt s n).commits.find? (fun c => c.holder == h)

/-- Set an entry of an association list. -/
def aset {α β : Type} [BEq α] (k : α) (v : β) : List (α × β) → List (α × β)
  | [] => [(k, v)]
  | (a, b) :: t => if a == k then (k, v) :: t else (a, b) :: aset k v t

/-- The value of a key of an association list. -/
def aget {α β : Type} [BEq α] (d : β) (k : α) (l : List (α × β)) : β := match l.find? (fun e => e.1 == k) with | some e => e.2 | none => d

/-- Step 13 of COMMIT. -/
def doCommit (c : Ctx) (s : State) : Ans :=
  let n := (parseBlock c.pay).target
  let h := ctxHolder c
  if 8 ≤ n then .reply (stOff .paramInvalid 4) s
  else if holdsAny s n h = false then .reply (stOff .notGranted 4) s
  else if (pendOf s n h).isSome then .reply (stOff .shadowLocked 4) s
  else match contractGuard s c.fn (gatesNeeded .commit n) with
    | some st => .reply (stOnly st) s
    | none =>
      -- the commit as it would be pending, for what it will leave
      let add (at_ : Tick) (id : Nat) (x : State) : State := setOut n (fun o => { o with commits := o.commits ++ [({ holder := h, fn := c.fn, id := id, at_ := at_ } : PendCommit)] }) x
      let s' := pendApplied (add 0 0 s) n
      let a := { baseAsk c .commit s with latchOut := if tgOn s n then some n else none, latchNow := !tgOn s n,
                                          depOk := decide (depRate (add 0 0 s) ≤ 4800000000) && (!tgOn s' n || decide (pclk s' n ≤ 1200000000)) }
      match admitAsk s a with
      | .refused st res er need avail => .reply (commitNo st res er need avail 0) s
      | .signed k =>
        let p := add k.s0 k.id s
        match configReason s s' n h.holm with
        | some r => .reply (commitNo .commitRefused 0 0 0 0 r) s
        | none =>
          if timingChange s s' n && !(lockedFit s s' n && latchesFit p n) then .reply (commitNo .commitRefused 0 0 0 0 0xF) s
          else match demandRefusal s p with
            | some (res, need, avail) => .reply (commitNo .budgetExceeded res 0 need avail 0) s
            | none =>
              match growQueue n (max (queueBytes s n) (queueBytes s' n)) p with
              | none => .reply (commitNo .poolExhausted 0 0 0 0 0) s
              | some p =>
                let p := sign k (setOut n (fun o => { o with commitAt := aset h k.s0 o.commitAt }) p)
                .reply (acceptedReply p k) p

/-- Meaning of COMMIT (R369). -/
def execCommit (t : Tick) (q : Request) (s : State) : Out := gcp opCommit t q doCommit s

/-- Meaning of COMMIT_VISIBLE (R371): the COMMIT of a holder is visible in the pixel island. -/
def execCommitVisible (t : Tick) (output : BitVec 3) (holm : Bool) (fn : Fn) (s : State) : Out :=
  let h : Holder := if holm then ⟨true, 0⟩ else ⟨false, fn.val⟩
  .next (setOut output.toNat (fun o => { o with commits := o.commits.map (fun c => if c.holder == h then { c with visible := true } else c) }) (advance t s))

/-- A pending commit is withdrawn (R377): its shadows keep their written values and unlock. -/
def withdrawCommit (n : Nat) (h : Holder) (s : State) : State :=
  trimQueue n (setOut n (fun o => { o with commits := o.commits.filter (fun c => c.holder != h) }) s)

/-! ### Enabling and disabling (R365, R367) -/

/-- ENABLE in effect rises: the pixel island and the transmit group are woken (R552), the link is prepared. -/
def enableOutput (n : Nat) (s : State) : State :=
  let s := holmWake (0x30 + n) (holmWake (8 + n) s)
  let s := setOut n (fun o => { o with latched := false, lastLatch := 0, waitNew := none, readyAt := none, latchDue := false, strips := [], queue := [], shown := none, starved := false,
                                       stripFirst := false, raster := [], cursor := none, cursorSeen := [], push := none, reverify := false, reverifyEnd := false, zones := [], prevZones := [] }) s
  let s := setCrl n (fun c => { c with chain := 0, prevKey := none, cur := {}, next := none }) s
  noteReadyAt n (linkBring n 1 (wr (Reg.CRL_LAST_TILE n) 0 s))

/-- ENABLE in effect falls: no further latch point occurs, the other holders' commits are withdrawn (Table 12.5). -/
def disableOutput (n : Nat) (s : State) : State :=
  let s := setOut n (fun o => { o with latched := false, waitNew := none, readyAt := none, strips := [], queue := [], shown := none, stripFirst := false, raster := [], cursor := none, push := none,
                                       reverify := false, zones := [], prevZones := [] }) s
  let s := (outSt s n).commits.foldl (fun s p =>
    if p.taken then s
    else
      let s := setOut n (fun o => { o with commits := o.commits.filter (fun c => c.holder != p.holder) }) s
      match contractOf s p.fn p.id with
      | some c => cancelContract c s.gtb s
      | none => s) s
  linkDown n (trimQueue n s)

/-- A commit to a disabled output applies in the cycle at which COMMIT is set, at s₀ (R370). -/
def commitNow (n : Nat) (p : PendCommit) (s : State) : State :=
  let s := setOut n (fun o => { o with commits := o.commits.filter (fun c => c.holder != p.holder), commitFrame := aset p.holder 0xFFFFFFFF o.commitFrame }) (applyHolder n p.holder s)
  let s := trimQueue n (if tgOn s n then enableOutput n s else s)
  finish p.fn p.id 0 s.gtb 0 s

/-! ### Latch points (R362, R371, R378 to R380) -/

/-- What kind of latch point: a running raster's, latch point 0, the first of a new timing. -/
inductive LatchKind where
  | running
  | first
  | newTiming
  deriving DecidableEq, Repr

/-- Is a pending commit taken by a latch point with a stamp (R371)? -/
def takenBy (stamp : Tick) (c : PendCommit) : Bool := c.visible && !c.taken && decide (c.at_ ≤ stamp)

/-- A mode switch or a smaller queue at a latch point (R47, R381): `was` says whether Prompt mode was in effect. -/
def modeSwitch (n : Nat) (was : Bool) (s : State) : State :=
  let now := isPrompt s n
  let d := queueDepth s n
  let s := setOut n (fun o =>
    if now then { o with queue := [], shown := none, stripFirst := false }
    else { o with stripFirst := was, queue := o.queue.take (d - bit o.shown.isSome) }) s
  trimQueue n s

/-- Latch points counted by the contracts locked to an output (R52). -/
def countLatch (n : Nat) (stamp : Tick) (s : State) : State :=
  { s with ledger := { s.ledger with contracts := s.ledger.contracts.map (fun c =>
      if lockedTo n c && decide (c.t0 + c.hk ≤ stamp) then { c with latches := c.latches ++ [stamp] } else c) } }

/-- A latch point of an output (Table 12.2, cycles L and L + 1). -/
def latchEvent (k : LatchKind) (n : Nat) (s : State) : State :=
  let l := s.gtb
  let s := if k = .running then judgeFrame n s else s
  let s := setOut n (fun o => { o with commits := o.commits.map (fun c => if takenBy l c then { c with taken := true } else c) }) s
  let taken := (outSt s n).commits.filter (fun c => c.taken)
  let was := isPrompt s n
  let s' := if taken.any (fun c => holderOf s (outObj n) == some c.holder) then applyTiming n s else s
  let change := timingChange s s' n
  let clock := change && clockChange s s' n
  let s := if change then refitAll n (framePeriod s' n) s' else s'
  let f := if k = .first then 0 else ((outSt s n).frame + 1) % 2 ^ 32
  let begins := k != .running || (change && !clock)
  let s := setOut n (fun o =>
    { o with latched := true, lastLatch := l, frame := f, waitNew := if clock then some (latchAfter s n l 4) else none, latchDue := true,
             raster := [], strips := [], stripFirst := false, wbStopped := false, wbCut := false, newTiming := begins,
             reverify := if begins then true else o.reverify && !o.reverifyEnd,
             commitFrame := taken.foldl (fun m c => aset c.holder f m) o.commitFrame }) s
  let s := wr (Reg.TG_FRAME n) (BitVec.ofNat 32 f) (wr (Reg.TG_LATCH_LO n) (BitVec.ofNat 32 l) (wr (Reg.TG_LATCH_HI n) (BitVec.ofNat 32 (l / 2 ^ 32)) s))
  let s := taken.foldl (fun s c => finish c.fn c.id 0 l 0 s) s
  if tgOn s n then
    let s := modeSwitch n was s
    let s := if isPrompt s n then s else queueLatch n s
    let s := setCrl n (fun c => match c.flip with
      | some fl => if fl.since < l then { c with flipTaken := some fl, flip := none } else c
      | none => c) (countLatch n l s)
    let s := leaseLatch n l s
    if clock then linkBring n 2 (setOut n (fun o => { o with readyAt := none }) s) else s
  else disableOutput n s

/-- Meaning of LATCH_POINT (R371): a latch point of a running raster. -/
def execLatchPoint (t : Tick) (output : BitVec 3) (s : State) : Out :=
  let s := advance t s
  let n := output.toNat
  if scanning s n && decide ((outSt s n).lastLatch < s.gtb) then .next (latchEvent .running n s) else .next s

/-- Does alignment to the source timing generator fail (R366)? -/
def alignFails (s : State) (n : Nat) : Bool :=
  let a := fld s (Reg.TG_CTRL n) Fld.TG_CTRL_ALIGN_SRC
  tgOn s a == false || a == n || !(outSt s a).latched || (outSt s a).waitNew.isSome

/-- Does the present tick lie within 2 pixel clocks of the last latch point of the alignment source (R366)? -/
def alignedNow (s : State) (n : Nat) : Bool :=
  let a := fld s (Reg.TG_CTRL n) Fld.TG_CTRL_ALIGN_SRC
  let w := ceilDiv 400000000 (min (pclk s n) (pclk s a))
  decide ((outSt s a).lastLatch ≤ s.gtb + w) && decide (s.gtb ≤ (outSt s a).lastLatch + w)

/-- START of an output. -/
def startTick (s : State) (n : Nat) : Tick := (rd s (Reg.TG_START_LO n)).toNat + 2 ^ 32 * (rd s (Reg.TG_START_HI n)).toNat

/-- Latch point 0 without alignment (R365): at once, or from START on; START_MISSED when the output was not ready by then. -/
def startRaster (n : Nat) (s : State) : State :=
  let st := startTick s n
  if st ≠ 0 ∧ s.gtb < st then s
  else
    let late : Bool := match (outSt s n).readyAt with | some r => decide (st < r) | none => true
    let s := if st ≠ 0 ∧ late = true then wrB (Reg.TG_STAT n) Fld.TG_STAT_START_MISSED true s else s
    latchEvent .first n s

/-- Meaning of RAW_RASTER_START (R365, R366): the output is ready and latch point 0 falls. -/
def execRawRasterStart (t : Tick) (output : BitVec 3) (s : State) : Out :=
  let s := advance t s
  let n := output.toNat
  if tgOn s n && !(outSt s n).latched && outReady s n then
    let s := noteReadyAt n s
    if flg s (Reg.TG_CTRL n) Fld.TG_CTRL_ALIGN_EN then
      (if alignFails s n then .next (startRaster n (wrB (Reg.TG_STAT n) Fld.TG_STAT_ALIGN_FAILED true s))
       else if alignedNow s n then .next (latchEvent .first n s)
       else .next s)
    else .next (startRaster n s)
  else .next s

/-- Meaning of FIRST_LATCH_NEW_TIMING (R379): FL, 2, 3 or 4 periods after L once the output is ready, at the alignment source's latch point, or at L + 4 P′ at the latest, with LINK 3 if the
output is not ready by then. -/
def execFirstLatchNewTiming (t : Tick) (output : BitVec 3) (s : State) : Out :=
  let s := advance t s
  let n := output.toNat
  let o := outSt s n
  match o.waitNew with
  | none => .next s
  | some last =>
    let ready := outReady s n
    let at_ (m : Nat) : Bool := s.gtb == latchAfter s n o.lastLatch m
    let al := flg s (Reg.TG_CTRL n) Fld.TG_CTRL_ALIGN_EN
    if al && !alignFails s n && alignedNow s n && ready && decide (latchAfter s n o.lastLatch 2 ≤ s.gtb) && decide (s.gtb ≤ last) then .next (latchEvent .newTiming n s)
    else
      let s := if al ∧ (alignFails s n ∨ last ≤ s.gtb) then wrB (Reg.TG_STAT n) Fld.TG_STAT_ALIGN_FAILED true s else s
      if al ∧ alignFails s n = false ∧ s.gtb < last then .next s
      else if ready && (at_ 2 || at_ 3) then .next (latchEvent .newTiming n s)
      else if last ≤ s.gtb then .next (latchEvent .newTiming n (if ready then s else linkState n 3 3 s))
      else .next s

/-! ### The display engine's part (R371, R374, R382, R388, R400, R409 to R413) -/

/-- Table 13.4 and the flip take effect: the policy state, then BLANKED as the flip clears it (R410 to R413). -/
def crlHandover (n : Nat) (holmCommit : Bool) (s : State) : State :=
  let c := crlSt s n
  let (st, bl, fa, ns) := c.next.getD (c.state, c.blanked, c.fails, c.noscene)
  let leave := c.recover && st == 3
  let (st, bl, fa, ns) := if leave then (0, 0, 0, false) else if c.recover ∧ ns = true then (st, 0, fa, ns) else (st, bl, fa, ns)
  let bl := match c.flipTaken with
    | some f => if f.owner.isNone then 0 else if st = 1 then bl &&& (0xFFFF ^^^ f.regions) else bl
    | none => bl
  let hold : Bool := match c.flipTaken with | some f => f.owner.isNone | none => false
  let content : Bool := match c.flipTaken with
    | some f => f.owner.isNone || (c.holdContent && (regionsOn s n).any (fun r => !f.regions.testBit r))
    | none => c.holdContent
  let shown := match c.flipTaken with
    | some f => (match f.owner with | some (fn, id, inst) => some (fn, id, inst, f.regions) | none => none)
    | none => c.shown
  let cur : FrameSt := { opened := (outSt s n).lastLatch, flip := c.flipTaken.isSome, flipId := (match c.flipTaken.bind (fun f => f.owner) with | some (_, id, _) => id | none => 0),
                         holdFlip := hold, crlCommit := holmCommit }
  let s := setCrl n (fun c => { c with front := if c.flipTaken.isSome then 1 - c.front else c.front, flipTaken := none, state := st, blanked := bl, fails := fa, noscene := ns, next := none,
                                       recover := false, holdPending := c.holdPending && !hold, holdContent := content, shown := shown, cur := cur }) s
  if leave then setOut n (fun o => { o with reverify := true, reverifyEnd := false }) s else s

/-- The smallest rectangle that holds two. -/
def Zone.join (a b : Zone) : Zone := ⟨min a.x0 b.x0, min a.y0 b.y0, max a.x1 b.x1, max a.y1 b.y1⟩

/-- Is a tile damaged for the frame that opens (R409)? -/
def damaged (s : State) (n i : Nat) : Bool :=
  let o := outSt s n
  let tw := tileW s n
  tileIn o.zones tw i || tileIn o.prevZones tw i || leAt (rdVat s (tileEntry n i + 4) 2) 0 2 == (o.frame + 65535) % 65536

/-- The rectangle of the cursor at a position, clipped to the active area. -/
def cursorZone (s : State) (n l : Nat) (p : Int × Int) : Option Zone :=
  let (w, h) := dstSize s n l
  let cx (v : Int) : Nat := (clampI 0 (hAct s n : Int) v).toNat
  let cy (v : Int) : Nat := (clampI 0 (vAct s n : Int) v).toNat
  let z : Zone := ⟨cx p.1, cy p.2, cx (p.1 + (w : Int)), cy (p.2 + (h : Int))⟩
  if z.x0 < z.x1 ∧ z.y0 < z.y1 then some z else none

/-- The push region of the frame that opens (R382, R388); none in video mode or when nothing is pushed. -/
def pushRegion (s : State) (n : Nat) : Option Zone :=
  let o := outSt s n
  let whole : Zone := ⟨0, 0, hAct s n, vAct s n⟩
  let every := fld s (Reg.TG_CMD n) Fld.TG_CMD_FULL_EVERY
  if flg s (Reg.TG_CTRL n) Fld.TG_CTRL_KIND = false then none
  else if o.newTiming ∨ o.reverifyEnd ∨ (every ≠ 0 ∧ o.frame % every = 0) then some whole
  else
    let tw := tileW s n
    let add (a : Option Zone) (z : Zone) : Option Zone := match a with | some b => some (b.join z) | none => some z
    let base := ((List.range (tw * tileH s n)).filter (damaged s n)).foldl (fun (a : Option Zone) i =>
      add a ⟨8 * (i % tw), 8 * (i / tw), 8 * (i % tw) + 8, 8 * (i / tw) + 8⟩) none
    let withCur := match cursorLayer s n with
      | some l => ((cursorPos s n l :: o.cursorSeen).filterMap (cursorZone s n l)).foldl add base
      | none => base
    let ax := 2 ^ fld s (Reg.TG_CMD n) Fld.TG_CMD_ALIGN_X
    let ay := 2 ^ fld s (Reg.TG_CMD n) Fld.TG_CMD_ALIGN_Y
    withCur.map (fun z => ⟨z.x0 / ax * ax, z.y0 / ay * ay, min (hAct s n) (ceilDiv z.x1 ax * ax), min (vAct s n) (ceilDiv z.y1 ay * ay)⟩)

/-- The lease of the writeback at a latch point (R240): it is claimed while WB_EN is in effect. -/
def wbLatch (n : Nat) (stamp : Tick) (s : State) : State :=
  if flg s (Reg.OP_WB_CTRL n) Fld.OP_WB_CTRL_WB_EN then
    match spaceOf s (outObj n), namedRanges s n 9 with
    | some sp, r :: _ => takeLease n 9 sp r ((r.getD 0 (0, 0)).1) stamp s
    | _, _ => s
  else s

/-- Layers that a function reset disables at a latch point (R207): their ENABLE in effect clears. -/
def layersOff (n : Nat) (s : State) : State :=
  (List.range 8).foldl (fun (s : State) l =>
    if (layerSt s (9 * n + l)).off then setLayer (9 * n + l) (fun x => { x with off := false }) (wrB (Reg.Lx_CTRL n l) Fld.Lx_CTRL_ENABLE false s) else s) s

/-- Meaning of SHADOW_APPLY (R371): the latch event is visible in the display engine. The OP, layer and Creamline shadows of the taken commits apply; buffers flip and the policy state changes in the
same cycle; the layers bind and lease, the cursor store is fetched, the push region is formed. -/
def execShadowApply (t : Tick) (output : BitVec 3) (s : State) : Out :=
  let s := advance t s
  let n := output.toNat
  if (outSt s n).latchDue then
    let taken := (outSt s n).commits.filter (fun c => c.taken)
    let s := taken.foldl (fun s c => applyDisplay n c.holder s) (layersOff n s)
    let s := setOut n (fun o => { o with latchDue := false, commits := o.commits.filter (fun c => !c.taken) }) s
    if tgOn s n then
      let s := crlHandover n (taken.any (fun c => c.holder.holm)) s
      let s := setOut n (fun o => { o with prevZones := o.zones, zones := zonesOf s n }) s
      let l := (outSt s n).lastLatch
      let s := markLeases n (wbLatch n l ((List.range 8).foldl (layerLatch n l) s))
      let s := trimQueue n s
      let seen := match cursorLayer s n with | some c => [cursorPos s n c] | none => []
      .next (setOut n (fun o => { o with cursor := fetchCursor s n, push := pushRegion s n, cursorSeen := seen, reverifyEnd := false }) s)
    else .next (trimQueue n (markLeases n s))
  else .next s

/-- A paired write of CRL_RECOVER (R413): it takes effect at the next latch point. -/
def crlRecover (n : Nat) (s : State) : State := setCrl n (fun c => { c with recover := true }) s

/-! ### OUTPUT_STATUS (R373) -/

/-- OUTPUT_STATUS (Table 3.6). -/
def opOutputStatus : OpInfo := ⟨0x0305, (2, 0), .any, none, true, .fixed 4, false⟩

/-- Step 13 of OUTPUT_STATUS. -/
def doOutputStatus (c : Ctx) (s : State) : Ans :=
  let n := leAt c.pay 0 1
  if 8 ≤ n then .reply (stOff .paramInvalid 0) s
  else if leAt c.pay 1 3 ≠ 0 then .reply (stOff .reservedSet 1) s
  else
    let o := outSt s n
    .reply (stDone (le 4 (aget 0xFFFFFFFF (ctxHolder c) o.commitFrame) ++ le 8 o.lastLatch ++ le 1 (bit (!isPrompt s n)) ++ le 1 (txSt s n).state ++ le 2 0 ++
      le 4 (if pclk s n = 0 then 0 else framePeriod s n))) s

/-- Meaning of OUTPUT_STATUS. -/
def execOutputStatus (t : Tick) (q : Request) (s : State) : Out := gcp opOutputStatus t q doOutputStatus s

end Sys2Proof.Machine
end

