-- ==== Sys2Proof/Machine/Gates.lean ====
section
/-!
DEFINITION. Gates.lean: who holds each gate (R158, Table 5.3), the registers and state behind a gate (R546, R561), standby's way out (R564).
-/

namespace Sys2Proof.Machine

open Sys2Proof

/-! ### Holders (R158) -/

/-- The member of a holder set that stands for Holm; the other members are functions. -/
def holmMember : Nat := 64

/-- The member that an object's owner is, if it has one. -/
def memberOf (s : State) (o : Nat) : Option Nat := (holderOf s o).map (fun h => if h.holm then holmMember else h.fn)

/-- The gates that the item of a contract uses (R551). -/
def contractGates (c : Contract) : List Nat :=
  match c.kind with
  | .cream => 3 :: (if c.params.getD 1 0 = 1 then [0x21 + c.params.getD 2 0] else if c.params.getD 6 0 = 1 then [0x20] else [2])
  | k => gatesNeeded k c.blk.target

/-- Every gate that an owner's configuration runs through. -/
def useBy (s : State) (o : Nat) (on : Bool) (gates : List Nat) : List (Nat × Nat) :=
  if on then (match memberOf s o with | some m => gates.map (fun g => (g, m)) | none => []) else []

/-- Uses of the display path: timing generators, layers, video inputs. -/
def displayUses (s : State) : List (Nat × Nat) :=
  ((List.range 8).flatMap (fun n =>
    useBy s (outObj n) (tgOn s n) [3, 8 + n, 0x28 + n, 0x30 + n] ++
    (List.range 8).flatMap (fun l => useBy s (layerObj n l) (tgOn s n && layerOn s n l) [3, 0x28 + n]))) ++
  ((List.range 4).flatMap (fun v =>
    useBy s (obj 0xB v) (flg s (Reg.VIN_CTRL v) Fld.VIN_CTRL_ENABLE || flg s (Reg.LNK_RXn_CFG v) Fld.LNK_RXn_CFG_HPD_EN) [0x38 + v]))

/-- The gates of an audio port: sinks and inputs 0 to 7 are TDM ports, 8 and 9 headsets. -/
def audioGates (k : Nat) : List Nat := if k < 8 then [6, 0x40 + k] else if k < 10 then [6, 0x48 + (k - 8)] else [6]

/-- Uses of the audio island: open streams, inputs, sinks, ports. -/
def audioUses (s : State) : List (Nat × Nat) :=
  ((List.range 32).flatMap (fun a => useBy s (obj 6 a) (flg s (Reg.AUD_Ss_CFG a) Fld.AUD_Ss_CFG_OPEN) [6])) ++
  ((List.range 10).flatMap (fun e => useBy s (obj 6 (32 + e)) (flg s (Reg.AUD_Ie_CTRL e) Fld.AUD_Ie_CTRL_ENABLE) (audioGates e))) ++
  ((List.range 11).flatMap (fun k => useBy s (obj 6 (64 + k)) (flg s (Reg.AUD_Kk_CTRL k) Fld.AUD_Kk_CTRL_ENABLE) (audioGates k))) ++
  ((List.range 8).flatMap (fun n => if flg s (Reg.AUD_TDMn_FMT n) Fld.AUD_TDMn_FMT_EN then [(6, holmMember), (0x40 + n, holmMember)] else []))

/-- The touch banks of a sensor: channels FIRST to FIRST + COLS + ROWS − 1. -/
def touchBanks (s : State) (k : Nat) : List Nat :=
  let f := fld s (Reg.TCH_Sk_GEOM k) Fld.TCH_Sk_GEOM_FIRST
  let n := fld s (Reg.TCH_Sk_GEOM k) Fld.TCH_Sk_GEOM_COLS + fld s (Reg.TCH_Sk_GEOM k) Fld.TCH_Sk_GEOM_ROWS
  (List.range 8).filter (fun b => decide (f < 32 * (b + 1)) && decide (32 * b < f + n))

/-- Uses of the sense island: touch sensors, haptic channels. -/
def senseUses (s : State) : List (Nat × Nat) :=
  ((List.range 8).flatMap (fun k => if flg s (Reg.TCH_Sk_CTRL k) Fld.TCH_Sk_CTRL_ENABLE then (7 :: (touchBanks s k).map (fun b => 0x50 + b)).map (fun g => (g, holmMember)) else [])) ++
  ((List.range 16).flatMap (fun c => useBy s (obj 7 c) (flg s (Reg.HAP_Cn_CTRL c) Fld.HAP_Cn_CTRL_ENABLE) [7, 0x58 + c]))

/-- Sessions that run through the PCIe island (R158): a session on a ring. -/
def sessionUses (s : State) : List (Nat × Nat) :=
  s.gcp.sessions.flatMap (fun x => match x.state, x.port with
    | .opened, .ring fn _ => [(5, if x.holm then holmMember else fn.val)]
    | _, _ => [])

/-- Are renders of the traversal unit wanted: one queued or running, a scene armed, a raster path at fault, or a self-test? -/
def trvHeld (s : State) : Bool :=
  !s.trv.queue.isEmpty || s.trv.running.isSome || !s.trv.tests.isEmpty || rasterFault s || (List.range 8).any (fun n => (armRec s n).a || (armRec s n).b)

/-- The standing holds of Table 5.3. -/
def standingHolds (s : State) : List Nat :=
  let anyTg := (List.range 8).any (tgOn s)
  [0, 1] ++ (if (List.range 16).any (fun n => fld s (Reg.DRC_COn_SIZE n) Fld.DRC_COn_SIZE_SIZE != 0) then [4] else []) ++
  (if anyTg then [3] else []) ++ ((List.range 8).filter (tgOn s)).map (fun n => 8 + n) ++
  (if s.ledger.contracts.any (fun c => c.blk.cls == 0) || (List.range 8).any (fun n => tgOn s n && isPrompt s n) then [2] else []) ++
  (if trvHeld s then [0x20] else []) ++
  (if (List.range 256).any (fun r => holmOwned s (obj 5 r) && flg s (Reg.TCH_Sk_Rr_CFG (r / 32) (r % 32)) Fld.TCH_Sk_Rr_CFG_ENABLE) ||
      (List.range 16).any (fun c => holmOwned s (obj 7 c)) then [7] else []) ++
  (if flg s Reg.AUD_ATT_STAT Fld.AUD_ATT_STAT_SOUNDING then [6] else []) ++
  (if fld s Reg.ISO_PORT Fld.ISO_PORT_HOLM_PORT != 0 then [5] else [])

/-- Every hold but those of BLOCK_POWER wakes, as (gate, member). -/
def gateUses (s : State) : List (Nat × Nat) :=
  s.ledger.contracts.flatMap (fun c => (contractGates c).map (fun g => (g, if c.holm then holmMember else c.fn))) ++
  displayUses s ++ audioUses s ++ senseUses s ++ sessionUses s ++ (standingHolds s).map (fun g => (g, holmMember))

/-- The holder set of a gate. -/
def holders (s : State) (g : Nat) : List Nat := ((gateUses s ++ s.pwr.explicit).filter (fun e => e.1 == g)).map (fun e => e.2)

/-- Change the power state. -/
def setPwr (f : PowerState → PowerState) (s : State) : State := { s with pwr := f s.pwr }

/-- A requester joins a gate's holder set (R549). -/
def joinGate (g m : Nat) (s : State) : State :=
  setPwr (fun p => if p.explicit.contains (g, m) then p else { p with explicit := p.explicit ++ [(g, m)] }) s

/-- A requester leaves a gate's holder set (R547). -/
def leaveGate (g m : Nat) (s : State) : State := setPwr (fun p => { p with explicit := p.explicit.filter (fun e => e != (g, m)) }) s

/-- A function leaves every holder set (R551). -/
def leaveAllGates (fn : Nat) (s : State) : State := setPwr (fun p => { p with explicit := p.explicit.filter (fun e => e.2 != fn) }) s

/-! ### What stands behind a gate (R546, R561) -/

/-- The register ranges of a gate's block. The traversal unit's registers keep their values while its clock or its island is off; LNK_TXg_PANEL stands with gate 0x01 (R619). -/
def gateRanges (g : Nat) : List (Nat × Nat) :=
  if g = 2 then [(0x800000, 0x900000)]
  else if g = 3 then [(0xC00000, 0xC08000), (0xA00000, 0xA80000)]
  else if g = 6 then [(0xF00000, 0x1000000)]
  else if g = 7 then [(0xE00000, 0xF00000)]
  else if 8 ≤ g ∧ g < 16 then [(0xB00000 + 0x1000 * (g - 8), 0xB01000 + 0x1000 * (g - 8))]
  else if g = 0x20 then [(0x900000, 0xA00000)]
  else if 0x21 ≤ g ∧ g ≤ 0x24 then [(0x1100000 + 0x100 * (g - 0x21), 0x1100100 + 0x100 * (g - 0x21))]
  else if 0x28 ≤ g ∧ g ≤ 0x2F then [(0xA00000 + 0x10000 * (g - 0x28), 0xA10000 + 0x10000 * (g - 0x28))]
  else if 0x30 ≤ g ∧ g ≤ 0x37 then [(0xD00000 + 0x100 * (g - 0x30), 0xD00020 + 0x100 * (g - 0x30))]
  else if 0x38 ≤ g ∧ g ≤ 0x3B then [(0xD00C00 + 0x100 * (g - 0x38), 0xD00D00 + 0x100 * (g - 0x38))]
  else if 0x40 ≤ g ∧ g ≤ 0x47 then [(0xF05400 + 0x10 * (g - 0x40), 0xF05410 + 0x10 * (g - 0x40))]
  else if 0x48 ≤ g ∧ g ≤ 0x49 then [(0xF09000 + 0x100 * (g - 0x48), 0xF09100 + 0x100 * (g - 0x48))]
  else if 0x58 ≤ g ∧ g ≤ 0x67 then [(0xE81000 + 0x200 * (g - 0x58), 0xE81200 + 0x200 * (g - 0x58))]
  else []

/-- The words that requesters hold at the offsets [lo, hi) return to their reset values. -/
def resetReq (lo hi : Nat) (s : State) : State :=
  { s with reqRegs := s.reqRegs.filter (fun e => !(decide (lo ≤ e.1 % 2 ^ 28) && decide (e.1 % 2 ^ 28 < hi))) }

/-- The state that a block holds beside its registers returns to its reset value. -/
def resetInner (g : Nat) (s : State) : State :=
  if g = 2 then { s with ren := { s.ren with jobs := [], cores := [], slots := [], credits := [], lastClaim := none } }
  else if g = 3 then { s with disp := { s.disp with crl := [], layers := [] } }
  else if g = 6 then { s with aud := {} }
  else if g = 7 then { s with sense := {} }
  else if 8 ≤ g ∧ g < 16 then setOut (g - 8) (fun o => { o with latched := false, waitNew := none, readyAt := none, latchDue := false, raster := [], push := none }) s
  else if g = 0x20 then { s with trv := { s.trv with queue := [], running := none, arms := [] } }
  else if 0x21 ≤ g ∧ g ≤ 0x24 then { s with mv := { s.mv with cv := tput {} s.mv.cv (g - 0x21) {} } }
  else if 0x28 ≤ g ∧ g ≤ 0x2F then { s with disp := { s.disp with layers := tclear s.disp.layers (9 * (g - 0x28)) (9 * (g - 0x28) + 9) } }
  else if 0x30 ≤ g ∧ g ≤ 0x37 then { s with lnk := { s.lnk with tx := tput {} s.lnk.tx (g - 0x30) {} } }
  else if 0x48 ≤ g ∧ g ≤ 0x49 then { s with aud := { s.aud with hs := tput {} s.aud.hs (g - 0x48) {} } }
  else if 0x58 ≤ g ∧ g ≤ 0x67 then { s with sense := { s.sense with haps := tput {} s.sense.haps (g - 0x58) {} } }
  else s

/-- The configuration check takes the reset values of the offsets [lo, hi) as their reference: a block that wakes joins with it (R582). -/
def resetUpset (lo hi : Nat) (s : State) : State := { s with rg := { s.rg with upset := tclear s.rg.upset (lo * 65536) (hi * 65536) } }

/-- The fields of TRV_STAT that survive every reset except power-on reset (Table 10.5): LAST_CLASS, TRV_FAULT, RASTER_FAULT. -/
def trvKept (s : State) : Word := rd s Reg.TRV_STAT &&& 0x703

/-- A block returns to its reset state: every register, table and inner state. -/
def resetBlock (g : Nat) (s : State) : State :=
  let k := trvKept s
  let s := resetInner g ((gateRanges g).foldl (fun s r => resetUpset r.1 r.2 (resetReq r.1 r.2 (resetTabs r.1 r.2 (resetRegs r.1 r.2 s)))) s)
  if g = 0x20 then wr Reg.TRV_STAT k s else s

/-- The gates below a gate; the tree is three deep below an island. -/
def gateSubtree (g : Nat) : List Nat :=
  let a := gateChildren g
  g :: a ++ a.flatMap gateChildren

/-! ### Leaving standby (R564) -/

/-- Every gate gated for standby, and DRAM, enters the wake queue as Holm entries with one stamp. -/
def leaveStandby (touch : Bool) (s : State) : State :=
  let s := setPwr (fun p => { p with leaveByTouch := touch }) (setPwrMode 3 s)
  (s.pwr.standbySet ++ [4]).foldl (fun (s : State) (g : Nat) => if gateState s g == GState.off then queueGate g true s.gtb [] s else s) s

/-- A touch wake (R456): it ends standby; during the entry it waits for the entry to complete. -/
def touchWake (s : State) : State :=
  if pwrMode s = 1 then leaveStandby true s
  else if pwrMode s = 2 then setPwr (fun p => { p with leaveByTouch := true }) s
  else s

end Sys2Proof.Machine
end

