-- ==== Sys2Proof/Machine/Touch.lean ====
section
/-!
DEFINITION. Touch.lean: sensors, scans, baselines, contacts, routing and reports, slow scanning, calibration (chapter 15).
-/

namespace Sys2Proof.Machine

open Sys2Proof

/-! ### Sensors -/

/-- A sensor's record. -/
def tsOf (s : State) (k : Nat) : TouchRec := tget {} s.sense.sensors k

/-- Change a sensor's record. -/
def setTs (k : Nat) (f : TouchRec → TouchRec) (s : State) : State := { s with sense := { s.sense with sensors := tmod {} s.sense.sensors k f } }

/-- TCH_Sk_STAT.STATE: 0 OFF, 1 PROFILE, 2 RUN, 3 SLOW, 4 PALM, 5 CALIBRATING. -/
def tState (s : State) (k : Nat) : Nat := fld s (Reg.TCH_Sk_STAT k) Fld.TCH_Sk_STAT_STATE

/-- Set the state of a sensor. -/
def setTState (k v : Nat) (s : State) : State := wrF (Reg.TCH_Sk_STAT k) Fld.TCH_Sk_STAT_STATE v s

/-- The sensor registers that take effect at the start of a scan (R444). -/
def liveCfg (s : State) (k : Nat) : List Word :=
  [rd s (Reg.TCH_Sk_CTRL k), rd s (Reg.TCH_Sk_THR k), rd s (Reg.TCH_Sk_THR2 k), rd s (Reg.TCH_Sk_DEB k), rd s (Reg.TCH_Sk_TRACK k), rd s (Reg.TCH_Sk_TIME k), rd s (Reg.TCH_Sk_IDLE k)]

/-- A field of the registers in effect for the scan. -/
def cfgF (r : TouchRec) (i : Nat) (b : Bits) : Nat := getF (r.cfg.getD i 0) b

/-- T_ON in effect. -/
def tOn (r : TouchRec) : Nat := cfgF r 1 Fld.TCH_Sk_THR_T_ON
/-- T_OFF in effect. -/
def tOff (r : TouchRec) : Nat := cfgF r 1 Fld.TCH_Sk_THR_T_OFF
/-- TRACK_MAX in effect. -/
def trackMax (r : TouchRec) : Nat := cfgF r 4 Fld.TCH_Sk_TRACK_TRACK_MAX

/-- FIRST, COLS, ROWS. -/
def geom (s : State) (k : Nat) : Nat × Nat × Nat :=
  (fld s (Reg.TCH_Sk_GEOM k) Fld.TCH_Sk_GEOM_FIRST, fld s (Reg.TCH_Sk_GEOM k) Fld.TCH_Sk_GEOM_COLS, fld s (Reg.TCH_Sk_GEOM k) Fld.TCH_Sk_GEOM_ROWS)

/-- Channels of a sensor. -/
def channels (s : State) (k : Nat) : Nat := (geom s k).2.1 + (geom s k).2.2

/-- Is the sensor a set of pads? -/
def isPads (s : State) (k : Nat) : Bool := flg s (Reg.TCH_Sk_CTRL k) Fld.TCH_Sk_CTRL_KIND

/-- Is the sensor enabled? -/
def sensorOn (s : State) (k : Nat) : Bool := flg s (Reg.TCH_Sk_CTRL k) Fld.TCH_Sk_CTRL_ENABLE

/-- The scan period in ticks. -/
def scanTicks (s : State) (k : Nat) : Nat := 100 * fld s (Reg.TCH_Sk_PERIOD k) Fld.TCH_Sk_PERIOD_PERIOD

/-- Measurements per scan. -/
def samplesOf (s : State) (k : Nat) : Nat := fld s (Reg.TCH_Sk_MEAS k) Fld.TCH_Sk_MEAS_SAMPLES + 1

/-- The baseline of channel `i` of a sensor. -/
def baseOf (s : State) (k i : Nat) : Nat := fld s (Reg.TCH_CHc ((geom s k).1 + i)) Fld.TCH_CHc_BASE

/-- Set the baseline of channel `i` of a sensor. -/
def setBase (k i b : Nat) (s : State) : State := wrF (Reg.TCH_CHc ((geom s k).1 + i)) Fld.TCH_CHc_BASE b s

/-- Set the baselines of a sensor. -/
def setBases (k : Nat) (bs : List Nat) (s : State) : State := (List.range bs.length).foldl (fun (s : State) i => setBase k i (bs.getD i 0) s) s

/-! ### Enable (R444, Table 15.1) -/

/-- Do the channels of two sensors overlap? -/
def sharesChannels (s : State) (k j : Nat) : Bool :=
  let a := geom s k
  let b := geom s j
  overlaps a.1 (a.2.1 + a.2.2) b.1 (b.2.1 + b.2.2)

/-- The first check of Table 15.1 that a sensor fails, with the word written to TCH_Sk_CTRL; 0 when every check passes. -/
def sensorCheck (s : State) (k : Nat) (w : Word) : Nat :=
  let (f, c, r) := geom s k
  let x := fld s (Reg.TCH_Sk_MEAS k) Fld.TCH_Sk_MEAS_XFER
  let m := fld s (Reg.TCH_Sk_MEAS k) Fld.TCH_Sk_MEAS_MAX_COUNT
  let on := fld s (Reg.TCH_Sk_THR k) Fld.TCH_Sk_THR_T_ON
  let off := fld s (Reg.TCH_Sk_THR k) Fld.TCH_Sk_THR_T_OFF
  if (if getB w Fld.TCH_Sk_CTRL_KIND then !(r == 0 && decide (1 ≤ c) && decide (c ≤ 32))
      else !(decide (3 ≤ r) && decide (r ≤ 64) && decide (3 ≤ c) && decide (c ≤ 64))) then 1
  else if 256 < f + c + r ∨ (List.range 8).any (fun j => j != k && sensorOn s j && sharesChannels s k j) then 2
  else if x < 4 ∨ m < 64 then 3
  else if scanTicks s k < 833400 then 4
  else if scanTicks s k < 4 * samplesOf s k * (m * x + 64) + 40000 then 5
  else if off = 0 ∨ on ≤ off ∨ fld s (Reg.TCH_Sk_PERIOD k) Fld.TCH_Sk_PERIOD_GANG = 3 ∨
      (getB w Fld.TCH_Sk_CTRL_LP_EN ∧ (fld s (Reg.TCH_Sk_THR2 k) Fld.TCH_Sk_THR2_LP_WAKE = 0 ∨ fld s (Reg.TCH_Sk_PERIOD k) Fld.TCH_Sk_PERIOD_LP_PERIOD < 10)) then 6
  else 0

/-! ### Reports (R459, Table 15.3) -/

/-- A TOUCH_REPORT record. -/
def touchRecord (r : TouchRec) (k : Nat) (c : TouchContact) (flags x y : Nat) (stamp : Tick) : List Byte :=
  le 2 0x0501 ++ le 2 flags ++ le 1 k ++ le 1 c.num ++ le 1 c.region ++ le 1 (min 255 (c.peak / 4)) ++ le 2 x ++ le 2 y ++ le 4 r.scan ++ le 8 stamp ++ le 8 c.down

/-- Post a report to the capture owner of a contact; a contact captured by no one, or ended for its owner, is reported to no one. -/
def postTouch (k : Nat) (c : TouchContact) (flags x y : Nat) (stamp : Tick) (s : State) : State :=
  match c.owner with
  | none => s
  | some h =>
    let b := touchRecord (tsOf s k) k c flags x y stamp
    if h.holm then post (fld s Reg.TCH_CTRL Fld.TCH_CTRL_EVENT_PF) true b s else post h.fn false b s

/-- PRIMARY and STATIONARY of a contact (R450, R452). -/
def contactFlags (primary : Bool) (c : TouchContact) : Nat := 4 * bit primary + 8 * bit c.stationary

/-- Set the active contacts and TCH_Sk_STAT.CONTACTS. -/
def setContacts (k : Nat) (cs : List TouchContact) (s : State) : State :=
  wrF (Reg.TCH_Sk_STAT k) Fld.TCH_Sk_STAT_CONTACTS cs.length (setTs k (fun r => { r with contacts := cs }) s)

/-- Every active contact of a sensor ends with UP and CANCELLED (R451, Table 15.4). -/
def cancelContacts (k : Nat) (s : State) : State :=
  let cs := (tsOf s k).contacts
  let s := (List.range cs.length).foldl (fun (s : State) i => match cs[i]? with
    | some c => postTouch k c (0x22 + contactFlags (i == 0) c) c.x c.y s.gtb s
    | none => s) s
  let s := if cs.isEmpty then s else setTs k (fun r => { r with idleSince := s.gtb }) s
  setContacts k [] (setTs k (fun r => { r with cands := [] }) s)

/-- A write to TCH_Sk_CTRL (R444): LP_EN takes its value; KIND while ENABLE is 0; ENABLE by the checks; a write of 0 disables. -/
def writeSensorCtrl (k : Nat) (w : Word) (s : State) : State :=
  let old := rd s (Reg.TCH_Sk_CTRL k)
  let lp (x : Word) : Word := setB x Fld.TCH_Sk_CTRL_LP_EN (getB w Fld.TCH_Sk_CTRL_LP_EN)
  if getB old Fld.TCH_Sk_CTRL_ENABLE then
    (if getB w Fld.TCH_Sk_CTRL_ENABLE then wr (Reg.TCH_Sk_CTRL k) (lp old) s
     else
       let s := cancelContacts k s
       let s := setTState k 0 (setTs k (fun r => { r with busy := none, high := [], groups := [] }) s)
       wr (Reg.TCH_Sk_CTRL k) (setB (setB (lp old) Fld.TCH_Sk_CTRL_KIND (getB w Fld.TCH_Sk_CTRL_KIND)) Fld.TCH_Sk_CTRL_ENABLE false) s)
  else
    let s := wr (Reg.TCH_Sk_CTRL k) (setB (lp old) Fld.TCH_Sk_CTRL_KIND (getB w Fld.TCH_Sk_CTRL_KIND)) s
    if getB w Fld.TCH_Sk_CTRL_ENABLE then
      let e := sensorCheck s k w
      let s := wrF (Reg.TCH_Sk_STAT k) Fld.TCH_Sk_STAT_CFG_ERR e s
      if e = 0 then
        let s := wrB (Reg.TCH_Sk_CTRL k) Fld.TCH_Sk_CTRL_ENABLE true s
        let s := wrF (Reg.TCH_Sk_STAT k) Fld.TCH_Sk_STAT_PROF_RESULT 0 (setTState k 1 s)
        let go (r : TouchRec) : TouchRec := { tEn := s.gtb, dueAt := s.gtb, idleSince := s.gtb, profile := r.profile, cal := r.cal }
        (touchBanks s k).foldl (fun s b => holmWake (0x50 + b) s) (setContacts k [] (setTs k go s))
      else s
    else s

/-! ### Scans (R442, R443) -/

/-- Meaning of TOUCH_SCAN_START (R443): the next scan of a sensor starts when it is due; it is skipped while the previous one is still in process. -/
def execTouchScanStart (t : Tick) (sensor : BitVec 3) (s : State) : Out :=
  let s := advance t s
  let k := sensor.toNat
  let r := tsOf s k
  if sensorOn s k && tState s k != 3 && decide (r.dueAt ≤ s.gtb) then
    let n := r.nextScan
    let s := setTs k (fun r => { r with nextScan := n + 1, dueAt := r.tEn + (n + 1) * scanTicks s k }) s
    if r.busy.isSome then .next (wrB (Reg.TCH_Sk_STAT k) Fld.TCH_Sk_STAT_SKIPPED true s)
    else .next (setTs k (fun r => { r with busy := some n, cfg := liveCfg s k }) s)
  else .next s

/-- The counts of a scan by channel: the floor of the mean, and whether the channel was overrange (R442). -/
def scanCounts (samples maxCount n : Nat) (counts : List (List (BitVec 12))) : List (Nat × Bool) :=
  (List.range n).map (fun i =>
    let ms := (List.range samples).map (fun j => min maxCount (((counts.getD i []).getD j 0).toNat))
    (ms.sum / samples, ms.any (fun m => decide (maxCount ≤ m))))

/-- The signal of a channel. -/
def signalOf (base n : Nat) : Int := (base : Int) - (n : Int)

/-! ### Candidates (R448) -/

/-- Insert a peak in order: the larger signal first, the lower index among equals. -/
def peakInsert (p : Nat × Int) : List (Nat × Int) → List (Nat × Int)
  | [] => [p]
  | q :: qs => if q.2 < p.2 then p :: q :: qs else q :: peakInsert p qs

/-- The peaks of an axis, the largest first. -/
def axisPeaks (on : Nat) (sg : List Int) : List (Nat × Int) :=
  (List.range sg.length).foldl (fun l i =>
    let v := sg.getD i 0
    let lo : Int := if i = 0 then 0 else sg.getD (i - 1) 0
    let hi : Int := sg.getD (i + 1) 0
    if ((on : Nat) : Int) ≤ v ∧ lo < v ∧ hi ≤ v then peakInsert (i, v) l else l) []

/-- The coordinate of a peak on an axis. -/
def axisCoord (sg : List Int) (i : Nat) : Nat :=
  let a : Int := if i = 0 then 0 else max 0 (sg.getD (i - 1) 0)
  let c : Int := max 0 (sg.getD (i + 1) 0)
  let pos : Int := 256 * (i : Int) + 128 + Int.tdiv (256 * (c - a)) (a + sg.getD i 0 + c)
  min 65535 (pos.toNat * 65536 / (256 * sg.length))

/-- The candidates of a scan. -/
def candidatesOf (pads : Bool) (cols on : Nat) (sg : List Int) (stamp : Tick) : List TouchCand :=
  if pads then
    (List.range sg.length).filterMap (fun i => if ((on : Nat) : Int) ≤ sg.getD i 0 then some ⟨i, 0, i, 0, (sg.getD i 0).toNat, stamp⟩ else none)
  else
    let cx := sg.take cols
    let ry := sg.drop cols
    (((axisPeaks on cx).take 2).zip ((axisPeaks on ry).take 2)).map (fun p =>
      ⟨axisCoord cx p.1.1, axisCoord ry p.2.1, p.1.1, p.2.1, (max p.1.2 p.2.2).toNat, stamp⟩)

/-- The longest run of adjacent channels at or above T_ON. -/
def longestRun (on : Nat) (sg : List Int) : Nat :=
  (sg.foldl (fun (a : Nat × Nat) v => let n := if ((on : Nat) : Int) ≤ v then a.1 + 1 else 0; (n, max a.2 n)) (0, 0)).2

/-- Does a scan enter PALM (R451)? -/
def isPalm (pads : Bool) (cols on palmW : Nat) (sg : List Int) : Bool :=
  if pads then decide (palmW < longestRun on sg)
  else
    let cx := sg.take cols
    let ry := sg.drop cols
    decide (palmW < longestRun on cx) || decide (palmW < longestRun on ry) || decide (2 < (axisPeaks on cx).length) || decide (2 < (axisPeaks on ry).length)

/-! ### Matching (R449) -/

/-- Chebyshev distance. -/
def chebyshev (ax ay bx by_ : Nat) : Nat := max (max ax bx - min ax bx) (max ay by_ - min ay by_)

/-- The closest pair (distance, old, new) of a list; the older contact among equals. -/
def closest (l : List (Nat × Nat × Nat)) : Option (Nat × Nat × Nat) :=
  l.foldl (fun b p => match b with
    | none => some p
    | some q => if p.1 < q.1 ∨ (p.1 = q.1 ∧ (p.2.1 < q.2.1 ∨ (p.2.1 = q.2.1 ∧ p.2.2 < q.2.2))) then some p else some q) none

/-- Take closest pairs until none is left. The fuel bounds the pairs. -/
def takePairs : Nat → List (Nat × Nat × Nat) → List (Nat × Nat)
  | 0, _ => []
  | n + 1, l => match closest l with
    | none => []
    | some (_, i, j) => (i, j) :: takePairs n (l.filter (fun p => p.2.1 != i && p.2.2 != j))

/-- Pairs (old, new) of positions matched within a distance, the closest pair first. -/
def matchUp (far : Nat) (olds news : List (Nat × Nat)) : List (Nat × Nat) :=
  takePairs olds.length ((List.range olds.length).flatMap (fun i => (List.range news.length).filterMap (fun j =>
    let a := olds.getD i (0, 0)
    let b := news.getD j (0, 0)
    let d := chebyshev a.1 a.2 b.1 b.2
    if d ≤ far then some (d, i, j) else none)))

/-! ### Routing (R457, R458) -/

/-- Is a region enabled, and does it contain a position? -/
def regionHolds (s : State) (k r x y : Nat) : Bool :=
  let a := (rd s (Reg.TCH_Sk_Rr_RECT0 k r)).toNat
  let b := (rd s (Reg.TCH_Sk_Rr_RECT1 k r)).toNat
  flg s (Reg.TCH_Sk_Rr_CFG k r) Fld.TCH_Sk_Rr_CFG_ENABLE && decide (natBits a 15 0 ≤ x) && decide (x < natBits b 15 0) && decide (natBits a 31 16 ≤ y) && decide (y < natBits b 31 16)

/-- The highest enabled region of a kind that contains a position: kind 0 bound, 1 another Holm-owned one, 2 a Mainland one with GRANTED set. -/
def regionOfKind (s : State) (k kind x y : Nat) : Option Nat :=
  ((List.range 32).reverse).find? (fun r =>
    regionHolds s k r x y &&
    (let o := obj 5 (32 * k + r)
     let bound := regionBound s (32 * k + r)
     match kind with
     | 0 => bound
     | 1 => !bound && holmOwned s o
     | _ => !bound && !holmOwned s o && (granteeOf s o).isSome))

/-- The region that captures a position and its owner. -/
def captureOf (s : State) (k x y : Nat) : Option (Nat × Holder) :=
  match regionOfKind s k 0 x y, regionOfKind s k 1 x y, regionOfKind s k 2 x y with
  | some r, _, _ => some (r, ⟨true, 0⟩)
  | none, some r, _ => some (r, ⟨true, 0⟩)
  | none, none, some r => (granteeOf s (obj 5 (32 * k + r))).map (fun f => (r, ⟨false, f⟩))
  | none, none, none => none

/-- Does a position lie in a region of Holm? -/
def inHolmRegion (s : State) (k x y : Nat) : Bool := (regionOfKind s k 0 x y).isSome || (regionOfKind s k 1 x y).isSome

/-- Is the Creamline region that a touch region is bound to blanked or not enabled (Table 15.3, BLANKED)? -/
def boundBlanked (s : State) (k r : Nat) : Bool :=
  let w := rd s (Reg.TCH_Sk_Rr_CFG k r)
  let n := getF w Fld.TCH_Sk_Rr_CFG_BIND_OUT
  let g := getF w Fld.TCH_Sk_Rr_CFG_BIND_REG
  getB w Fld.TCH_Sk_Rr_CFG_BIND_EN && ((crlSt s n).blanked.testBit g || (crlSt s n).state == 3 || !((regionsOn s n).contains g))

/-! ### A scan in RUN -/

/-- Is a contact due to be released as stuck at a stamp (R453)? -/
def stuckDue (r : TouchRec) (stamp : Tick) (c : TouchContact) : Bool :=
  let u := cfgF r 5 Fld.TCH_Sk_TIME_STUCK_TIME
  u != 0 && decide (c.down + u * 200000000 ≤ stamp)

/-- STATIONARY and the anchor of a contact at a scan (R452). -/
def settleAnchor (r : TouchRec) (stamp : Tick) (c : TouchContact) : TouchContact :=
  let u := cfgF r 5 Fld.TCH_Sk_TIME_STAT_TIME
  if cfgF r 4 Fld.TCH_Sk_TRACK_STAT_RADIUS < chebyshev c.x c.y c.ax c.ay then { c with ax := c.x, ay := c.y, anchor := stamp, stationary := false }
  else { c with stationary := u != 0 && (c.stationary || decide (c.anchor + u * 200000 ≤ stamp)) }

/-- A contact after its match, or its absence, in a scan. -/
def trackContact (stamp : Tick) (m : Option TouchCand) (c : TouchContact) : TouchContact :=
  match m with
  | some d => { c with x := d.x, y := d.y, pc := d.pc, pr := d.pr, peak := d.peak, upFrom := none }
  | none => { c with upFrom := some (c.upFrom.getD stamp) }

/-- Is a contact released by a scan (R449)? -/
def isReleased (r : TouchRec) (stamp : Tick) (c : TouchContact) : Bool :=
  match c.upFrom with
  | some u => decide (u + 1000 * cfgF r 3 Fld.TCH_Sk_DEB_DEB_OFF ≤ stamp)
  | none => false

/-- Report a contact that stays active: the boundary rule, a change of flags, a change of position (R458, R459). A stuck contact waits for its release. -/
def reportContact (k : Nat) (stamp : Tick) (primary : Bool) (old c : TouchContact) (s : State) : State × TouchContact :=
  let r := tsOf s k
  if stuckDue r stamp c then (s, c)
  else match c.owner with
    | none => (s, c)
    | some h =>
      if h.holm = false ∧ inHolmRegion s k c.x c.y then
        (postTouch k c (0x82 + contactFlags primary c) old.x old.y stamp s, { c with owner := none })
      else
        let f := contactFlags primary c
        if (f, c.x, c.y) = c.sent then (s, c)
        else
          let s := postTouch k c f c.x c.y stamp s
          let s := if primary then { s with sense := { s.sense with express := s.sense.express ++ [(k, h, c.x, c.y)] } } else s
          (s, { c with sent := (f, c.x, c.y) })

/-- A candidate is confirmed as a contact (R449, R457): it takes the next number and its capture, and is reported. -/
def confirm (k : Nat) (stamp : Tick) (powerup : Bool) (d : TouchCand) (s : State) : State :=
  let r := tsOf s k
  let cap := captureOf s k d.x d.y
  let blanked : Bool := match cap with | some (g, _) => boundBlanked s k g | none => false
  let c : TouchContact := { num := r.nextNum % 256, x := d.x, y := d.y, pc := d.pc, pr := d.pr, peak := d.peak, down := stamp, ax := d.x, ay := d.y, anchor := stamp,
                            powerup := powerup, blanked := blanked, region := (cap.map (fun e => e.1)).getD 0, owner := cap.map (fun e => e.2) }
  let primary := r.contacts.isEmpty
  let c := { c with sent := (contactFlags primary c, c.x, c.y) }
  let s := if cap.isNone then wrF (Reg.TCH_Sk_STAT k) Fld.TCH_Sk_STAT_UNROUTED ((fld s (Reg.TCH_Sk_STAT k) Fld.TCH_Sk_STAT_UNROUTED + 1) % 256) s else s
  let s := setContacts k (r.contacts ++ [c]) (setTs k (fun r => { r with nextNum := r.nextNum + 1 }) s)
  let s := postTouch k c (1 + contactFlags primary c + 16 * bit powerup + 256 * bit blanked) c.x c.y stamp s
  match cap with
  | some (_, h) => if primary then { s with sense := { s.sense with express := s.sense.express ++ [(k, h, c.x, c.y)] } } else s
  | none => s

/-- Contacts of a scan (R449 to R458): tracked, released, reported, confirmed. -/
def contactsOf (k : Nat) (stamp : Tick) (cands : List TouchCand) (s : State) : State :=
  let r := tsOf s k
  let olds := r.contacts
  let pairs := matchUp (trackMax r) (olds.map (fun c => (c.x, c.y))) (cands.map (fun d => (d.x, d.y)))
  let now := (List.range olds.length).filterMap (fun i => (olds[i]?).map (fun c =>
    (i, c, settleAnchor r stamp (trackContact stamp ((pairs.find? (fun p => p.1 == i)).bind (fun p => cands[p.2]?)) c))))
  let gone := now.filter (fun e => isReleased r stamp e.2.2 && !stuckDue r stamp e.2.2)
  let stay := now.filter (fun e => !(isReleased r stamp e.2.2 && !stuckDue r stamp e.2.2))
  let s := gone.foldl (fun (s : State) (e : Nat × TouchContact × TouchContact) => postTouch k e.2.2 (2 + contactFlags (e.1 == 0) e.2.2) e.2.2.x e.2.2.y stamp s) s
  let s := if gone.isEmpty then s else setTs k (fun r => { r with idleSince := stamp }) s
  let go (a : State × List TouchContact) (e : Nat × TouchContact × TouchContact) : State × List TouchContact :=
    let x := reportContact k stamp a.2.isEmpty e.2.1 e.2.2 a.1
    (x.1, a.2 ++ [x.2])
  let (s, kept) := stay.foldl go (s, [])
  let s := setContacts k kept s
  -- new candidates
  let fresh := ((List.range cands.length).filter (fun j => !(pairs.any (fun p => p.2 == j)))).filterMap (fun j => cands[j]?)
  let old := matchUp (trackMax r) (r.cands.map (fun d => (d.x, d.y))) (fresh.map (fun d => (d.x, d.y)))
  let aged := (List.range fresh.length).filterMap (fun j => (fresh[j]?).map (fun d =>
    match (old.find? (fun p => p.2 == j)).bind (fun p => r.cands[p.1]?) with
    | some o => { d with first := o.first }
    | none => d))
  let put (s : State) (d : TouchCand) : State :=
    if 2 ≤ (tsOf s k).contacts.length then s
    else if d.first + 1000 * cfgF r 3 Fld.TCH_Sk_DEB_DEB_ON ≤ stamp then confirm k stamp false d s
    else setTs k (fun r => { r with cands := r.cands ++ [d] }) s
  let s := aged.foldl put (setTs k (fun r => { r with cands := [] }) s)
  if 2 ≤ (tsOf s k).contacts.length then setTs k (fun r => { r with cands := [] }) s else s

/-- Is channel `i` under a contact (R446)? -/
def underContact (s : State) (k i : Nat) : Bool :=
  let c := (geom s k).2.1
  let near (a b : Nat) : Bool := decide (a ≤ b + 1) && decide (b ≤ a + 1)
  (tsOf s k).contacts.any (fun x =>
    if isPads s k then x.pc == i
    else if i < c then near i x.pc else near (i - c) x.pr)

/-- A baseline moves one count toward a mean. -/
def stepToward (b m : Nat) : Nat := if b < m then b + 1 else if m < b then b - 1 else b

/-- The baseline of one channel at a scan (R446, R447). -/
def adaptChannel (k : Nat) (ns : List Nat) (s : State) (i : Nat) : State :=
  let r := tsOf s k
  let n := ns.getD i 0
  if underContact s k i then setTs k (fun r => { r with high := r.high.filter (fun j => j != i) }) s
  else
    let above := decide ((((tOn r : Nat)) : Int) ≤ (n : Int) - (baseOf s k i : Int))
    let s :=
      if above && r.high.contains i then
        wrB (Reg.TCH_CHc ((geom s k).1 + i)) Fld.TCH_CHc_ANTI true (setBase k i n (setTs k (fun r => { r with high := r.high.filter (fun j => j != i) }) s))
      else if above then setTs k (fun r => { r with high := r.high ++ [i] }) s
      else setTs k (fun r => { r with high := r.high.filter (fun j => j != i) }) s
    let a := cfgF r 4 Fld.TCH_Sk_TRACK_ADAPT_SCANS
    if a = 0 then s
    else
      let (c, q) := tget (0, 0) r.adapt i
      if a ≤ c + 1 then setBase k i (stepToward (baseOf s k i) ((q + n) / (c + 1))) (setTs k (fun r => { r with adapt := tput (0, 0) r.adapt i (0, 0) }) s)
      else setTs k (fun r => { r with adapt := tput (0, 0) r.adapt i (c + 1, q + n) }) s

/-- The signals of a scan. -/
def signals (s : State) (k : Nat) (ns : List Nat) : List Int := (List.range ns.length).map (fun i => signalOf (baseOf s k i) (ns.getD i 0))

/-- Enter PALM (R451). -/
def enterPalm (k : Nat) (s : State) : State := setTState k 4 (cancelContacts k s)

/-- A scan in RUN or PALM. -/
def runScan (k : Nat) (stamp : Tick) (ns : List Nat) (s : State) : State :=
  let r := tsOf s k
  let sg := signals s k ns
  let cols := (geom s k).2.1
  if tState s k = 4 then (if sg.all (fun v => decide (v < ((tOff r : Nat) : Int))) then setTState k 2 s else s)
  else if isPalm (isPads s k) cols (tOn r) (cfgF r 2 Fld.TCH_Sk_THR2_PALM_W) sg then enterPalm k s
  else
    let s := contactsOf k stamp (candidatesOf (isPads s k) cols (tOn r) sg stamp) s
    (List.range ns.length).foldl (adaptChannel k ns) s

/-! ### The profile (R454, Table 15.2) -/

/-- MEAS_CRC of a sensor. -/
def measCrc (s : State) (k : Nat) : Nat :=
  crc32c (le 4 (rd s (Reg.TCH_Sk_GEOM k)).toNat ++ le 4 (rd s (Reg.TCH_Sk_MEAS k)).toNat ++ le 4 (rd s (Reg.TCH_Sk_PERIOD k)).toNat)

/-- The profile of a sensor with given baselines. -/
def profileBytes (s : State) (k : Nat) (bs : List Nat) : List Byte :=
  ascii "ZVTP" ++ le 2 1 ++ le 1 k ++ le 1 bs.length ++ le 4 (measCrc s k) ++ le 4 0 ++ bs.flatMap (le 2)

/-- Does the profile check pass with the means of the 4 scans? -/
def profileOk (s : State) (k : Nat) (ms : List Nat) : Bool :=
  let r := tsOf s k
  let tol := cfgF r 2 Fld.TCH_Sk_THR2_PROF_TOL
  flg s (Reg.TCH_Sk_PROF k) Fld.TCH_Sk_PROF_VALID && leAt r.profile 8 4 == measCrc s k &&
  (List.range ms.length).all (fun i =>
    let d := signalOf (leAt r.profile (0x10 + 2 * i) 2) (ms.getD i 0)
    decide (((tOn r : Nat) : Int) ≤ d) || (decide (d ≤ ((tol : Nat) : Int)) && decide (-((tol : Nat) : Int) ≤ d)))

/-- The end of the fourth profile scan. -/
def profileEnd (k : Nat) (stamp : Tick) (ns ms : List Nat) (s : State) : State :=
  let r := tsOf s k
  let ok := profileOk s k ms
  let bases := (List.range ms.length).map (fun i =>
    let m := ms.getD i 0
    let b := leAt r.profile (0x10 + 2 * i) 2
    if ok && decide (((tOn r : Nat) : Int) ≤ signalOf b m) then b else m)
  let s := setBases k bases s
  let s := wrF (Reg.TCH_Sk_STAT k) Fld.TCH_Sk_STAT_PROF_RESULT (if ok then 1 else if flg s (Reg.TCH_Sk_PROF k) Fld.TCH_Sk_PROF_VALID then 2 else 3) (setTState k 2 s)
  if ok then
    let sg := signals s k ns
    let cols := (geom s k).2.1
    if isPalm (isPads s k) cols (tOn r) (cfgF r 2 Fld.TCH_Sk_THR2_PALM_W) sg then enterPalm k s
    else ((candidatesOf (isPads s k) cols (tOn r) sg stamp).take 2).foldl (fun s d => confirm k stamp true d s) s
  else s

/-- Add counts by channel. -/
def addSums (a b : List Nat) : List Nat := (List.range b.length).map (fun i => a.getD i 0 + b.getD i 0)

/-- A scan in PROFILE. -/
def profileScan (k : Nat) (stamp : Tick) (ns : List Nat) (s : State) : State :=
  let r := tsOf s k
  let sums := addSums r.sums ns
  if r.profScans + 1 = 4 then profileEnd k stamp ns (sums.map (fun x => x / 4)) (setTs k (fun r => { r with sums := [], profScans := 4 }) s)
  else setTs k (fun r => { r with sums := sums, profScans := r.profScans + 1 }) s

/-- A scan in CALIBRATING (R455): the 64 scans are summed until a channel reaches T_ON. -/
def calScan (k : Nat) (cs : List (Nat × Bool)) (s : State) : State :=
  let r := tsOf s k
  let ns := cs.map (fun c => c.1)
  let hit := (signals s k ns).any (fun v => decide (((tOn r : Nat) : Int) ≤ v))
  let go (c : TouchCal) : TouchCal :=
    if c.contact || decide (64 ≤ c.scans) then c
    else if hit then { c with contact := true }
    else { c with scans := c.scans + 1, sums := addSums c.sums ns, exceeded := c.exceeded ++ (List.range cs.length).filter (fun i => (cs.getD i (0, false)).2 && !(c.exceeded.contains i)) }
  setTs k (fun r => { r with cal := r.cal.map go }) s

/-- Meaning of TOUCH_SCAN_END (R442 to R459): the measurement of the scan in progress ends at its stamp; `counts` are the measurements of each channel. -/
def execTouchScanEnd (t : Tick) (sensor : BitVec 3) (counts : List (List (BitVec 12))) (s : State) : Out :=
  let s := advance t s
  let k := sensor.toNat
  match (tsOf s k).busy with
  | none => .next s
  | some n =>
    let stamp := s.gtb
    let cs := scanCounts (samplesOf s k) (fld s (Reg.TCH_Sk_MEAS k) Fld.TCH_Sk_MEAS_MAX_COUNT) (channels s k) counts
    let ns := cs.map (fun c => c.1)
    let first := (geom s k).1
    let s := (List.range ns.length).foldl (fun s i => wrF (Reg.TCH_CHc (first + i)) Fld.TCH_CHc_COUNT (ns.getD i 0) s) s
    let s := wrF (Reg.TCH_Sk_STAT k) Fld.TCH_Sk_STAT_OVERRANGE (cs.filter (fun c => c.2)).length s
    let s := wr (Reg.TCH_Sk_SCAN k) (BitVec.ofNat 32 n) (wr (Reg.TCH_Sk_STAMP_LO k) (BitVec.ofNat 32 stamp) (wr (Reg.TCH_Sk_STAMP_HI k) (BitVec.ofNat 32 (stamp / 2 ^ 32)) s))
    let s := setTs k (fun r => { r with busy := none, scan := n, stamp := stamp }) s
    .next (match tState s k with
      | 1 => profileScan k stamp ns s
      | 5 => calScan k cs s
      | 2 => runScan k stamp ns s
      | 4 => runScan k stamp ns s
      | _ => s)

/-- Meaning of TOUCH_STUCK_RELEASE (R453): a contact whose last scan reached STUCK_TIME is released with STUCK, and the channels under it take the counts of that scan as their baselines. -/
def execTouchStuckRelease (t : Tick) (sensor : BitVec 3) (contact : BitVec 8) (s : State) : Out :=
  let s := advance t s
  let k := sensor.toNat
  let r := tsOf s k
  match r.contacts.find? (fun c => c.num == contact.toNat && stuckDue r r.stamp c) with
  | none => .next s
  | some c =>
    let s := postTouch k c (0x42 + contactFlags (r.contacts.head? == some c) c) c.x c.y r.stamp s
    let only := setContacts k [c] s
    let under := (List.range (channels s k)).filter (underContact only k)
    let s := under.foldl (fun s i => setBase k i (fld s (Reg.TCH_CHc ((geom s k).1 + i)) Fld.TCH_CHc_COUNT) s) s
    .next (setContacts k (r.contacts.filter (fun x => x != c)) (setTs k (fun r => { r with idleSince := r.stamp }) s))

/-! ### Slow scanning (R456) -/

/-- May a sensor enter SLOW: in RUN with LP_EN, no contact, and idle long enough or in standby? -/
def slowDueNow (s : State) (k : Nat) : Bool :=
  let r := tsOf s k
  tState s k == 2 && flg s (Reg.TCH_Sk_CTRL k) Fld.TCH_Sk_CTRL_LP_EN && r.contacts.isEmpty && r.busy.isNone &&
    (pwrMode s == 1 || pwrMode s == 2 || decide (r.idleSince + 200000000 * fld s (Reg.TCH_Sk_IDLE k) Fld.TCH_Sk_IDLE_LP_IDLE ≤ s.gtb))

/-- A sensor enters SLOW. -/
def enterSlow (k : Nat) (s : State) : State :=
  if slowDueNow s k then setTState k 3 (setTs k (fun r => { r with groups := [], cands := [], high := [], slowDue := s.gtb }) s) else s

/-- Meaning of TOUCH_ENTER_SLOW (R456). -/
def execTouchEnterSlow (t : Tick) (sensor : BitVec 3) (s : State) : Out := .next (enterSlow sensor.toNat (advance t s))

/-- Full scans begin again: the scan of the present period at once, the later ones on the sensor's grid. -/
def resumeScans (k : Nat) (s : State) : State :=
  let p := scanTicks s k
  setTs k (fun r => { r with nextScan := if p = 0 then r.nextScan else max r.nextScan ((s.gtb - r.tEn) / p), dueAt := s.gtb, cands := [] }) s

/-- The groups after a slow scan under R446. -/
def adaptGroups (a : Nat) (gs : List (Nat × Nat × Nat)) (ns : List Nat) : List (Nat × Nat × Nat) :=
  (List.range gs.length).map (fun i =>
    let (b, c, q) := gs.getD i (0, 0, 0)
    let n := ns.getD i 0
    if a = 0 then (b, c, q) else if a ≤ c + 1 then (stepToward b ((q + n) / (c + 1)), 0, 0) else (b, c + 1, q + n))

/-- Meaning of TOUCH_SLOW_SCAN (R456): the groups are measured; the first slow scan sets their baselines; a signal of LP_WAKE returns the sensor to RUN, and ends standby. -/
def execTouchSlowScan (t : Tick) (sensor : BitVec 3) (counts : List (List (BitVec 12))) (s : State) : Out :=
  let s := advance t s
  let k := sensor.toNat
  let r := tsOf s k
  if tState s k = 3 ∧ r.slowDue ≤ s.gtb then
    let g := 2 ^ fld s (Reg.TCH_Sk_PERIOD k) Fld.TCH_Sk_PERIOD_GANG
    let ns := (scanCounts (samplesOf s k) (fld s (Reg.TCH_Sk_MEAS k) Fld.TCH_Sk_MEAS_MAX_COUNT) g counts).map (fun c => c.1)
    let s := setTs k (fun r => { r with slowDue := r.slowDue + 200000 * fld s (Reg.TCH_Sk_PERIOD k) Fld.TCH_Sk_PERIOD_LP_PERIOD }) s
    if r.groups.isEmpty then .next (setTs k (fun r => { r with groups := ns.map (fun n => (n, 0, 0)) }) s)
    else if (List.range g).any (fun i => decide (((fld s (Reg.TCH_Sk_THR2 k) Fld.TCH_Sk_THR2_LP_WAKE : Nat) : Int) ≤ signalOf (r.groups.getD i (0, 0, 0)).1 (ns.getD i 0))) then
      .next (touchWake (resumeScans k (setTState k 2 s)))
    else .next (setTs k (fun r => { r with groups := adaptGroups (fld s (Reg.TCH_Sk_TRACK k) Fld.TCH_Sk_TRACK_ADAPT_SCANS) r.groups ns }) s)
  else .next s

/-! ### Calibration (R455) -/

/-- TOUCH_CALIBRATE (Table 3.6). A sensor is always Holm-owned. -/
def opTouchCalibrate : OpInfo := ⟨0x0503, (3, 0), .holm, none, false, .fixed 4, false⟩

/-- Step 13 of TOUCH_CALIBRATE. -/
def doTouchCalibrate (c : Ctx) (s : State) : Ans :=
  let k := leAt c.pay 0 1
  if 8 ≤ k ∨ sensorOn s k = false then .reply (stOff .paramInvalid 0) s
  else if 1 < leAt c.pay 1 1 then .reply (stOff .paramInvalid 1) s
  else if leAt c.pay 2 2 ≠ 0 then .reply (stOff .reservedSet 2) s
  else
    let r := tsOf s k
    if r.contacts.isEmpty = false ∨ tState s k = 4 then .reply (stOnly .sensorContact) s
    else
      let st := leAt c.pay 1 1 == 1
      match r.cal with
      | some x => .later (setTs k (fun r => { r with cal := some { x with ports := x.ports ++ [c.port], store := x.store || st } }) s)
      | none =>
        let s := if tState s k = 3 then resumeScans k s else s
        .later (setTState k 5 (setTs k (fun r => { r with cal := some { ports := [c.port], store := st }, cands := [] }) s))

/-- Meaning of TOUCH_CALIBRATE. -/
def execTouchCalibrate (t : Tick) (q : Request) (s : State) : Out := gcp opTouchCalibrate t q doTouchCalibrate s

/-- Erase a range of the boot flash and program bytes at its start. -/
def flashPut (a len : Nat) (bs : List Byte) (s : State) : State :=
  { s with boot := { s.boot with flash := tputs 0xFF (tclear s.boot.flash a (a + len)) a bs } }

/-- Bytes of the boot flash. -/
def rdFlash (s : State) (a n : Nat) : List Byte := tgets 0xFF s.boot.flash a n

/-- Load a profile into the touch unit, or none. -/
def loadProfile (k : Nat) (p : List Byte) (s : State) : State :=
  let s := setTs k (fun r => { r with profile := p }) s
  wr (Reg.TCH_Sk_PROF_CRC k) (if p.isEmpty then 0 else BitVec.ofNat 32 (crc32c p)) (wrB (Reg.TCH_Sk_PROF k) Fld.TCH_Sk_PROF_VALID (!p.isEmpty) s)

/-- Load the profiles of the boot flash (Table 21.2): each that is valid. -/
def loadProfiles (s : State) : State :=
  (List.range 8).foldl (fun s k =>
    let a := 0x20000 + 0x1000 * k
    let h := rdFlash s a 16
    let n := 16 + 2 * leAt h 7 1
    let p := rdFlash s a n
    if slice h 0 4 = ascii "ZVTP" ∧ leAt h 4 2 = 1 ∧ leAt h 6 1 = k ∧ ofLe (rdFlash s (a + n) 4) = crc32c p then loadProfile k p s else loadProfile k [] s) s

/-- Meaning of TOUCH_CALIBRATION_DONE (R455): the scans are over, or a channel reached T_ON; `flashOk` says whether the flash took a stored profile. -/
def execTouchCalibrationDone (t : Tick) (sensor : BitVec 3) (flashOk : Bool) (s : State) : Out :=
  let s := advance t s
  let k := sensor.toNat
  match (tsOf s k).cal with
  | none => .next s
  | some c =>
    let off (s : State) : State := setTs k (fun r => { r with cal := none }) s
    let tell (pay : List Byte) (s : State) : State := c.ports.foldl (fun s p => finishLong p pay s) s
    if tState s k ≠ 5 then .next (tell (stOff .paramInvalid 0) (off s))
    else if c.contact then .next (tell (stOnly .sensorContact) (setTState k 2 (off s)))
    else if c.scans < 64 then .next s
    else
      let bs := c.sums.map (fun x => x / 64)
      let n := ((List.range bs.length).filter (fun i => !(c.exceeded.contains i) && decide (16 ≤ bs.getD i 0))).length
      let p := profileBytes s k bs
      let s := setTState k 2 (off (setBases k bs s))
      if c.store ∧ flashOk = false then .next (tell (stOnly .flashError) s)
      else
        let s := if c.store then loadProfile k p (flashPut (0x20000 + 0x1000 * k) 0x1000 (p ++ le 4 (crc32c p)) s) else s
        .next (tell (stDone (le 4 (crc32c p) ++ le 2 n ++ le 2 0)) s)

/-! ### Ends of captures (Table 15.4) -/

/-- Holm claims a touch region: the contacts that it captured end for their owners. -/
def touchClaim (k r : Nat) (s : State) : State :=
  let cs := (tsOf s k).contacts
  let hit (c : TouchContact) : Bool := c.region == r && c.owner.isSome && c.owner != some ⟨true, 0⟩
  let s := (List.range cs.length).foldl (fun (s : State) i => match cs[i]? with
    | some c => if hit c then postTouch k c (0x22 + contactFlags (i == 0) c) c.x c.y s.gtb s else s
    | none => s) s
  setTs k (fun x => { x with contacts := x.contacts.map (fun c => if hit c then { c with owner := none } else c) }) s

/-- A function is reset or removed: its contacts reach no one. -/
def touchForget (fn : Nat) (s : State) : State :=
  (List.range 8).foldl (fun s k => setTs k (fun x => { x with contacts := x.contacts.map (fun c => if c.owner = some ⟨false, fn⟩ then { c with owner := none } else c) }) s) s

end Sys2Proof.Machine
end

