-- ==== Sys2Proof/Machine/Power.lean ====
section
/-!
DEFINITION. Power.lean: gate and wake requests, drains and wakes, the shader clock, loss of CLKIN, standby, block resets (chapter 19).
-/

namespace Sys2Proof.Machine

open Sys2Proof

/-- A DONE reply whose one field is a state in one byte, with three reserved bytes (Table 3.6). -/
def stateReply (n : Nat) : List Byte := stDone (le 4 n)

/-- The member of a holder set and the asker that a request stands for. -/
def reqMember (c : Ctx) : Nat := if c.holm then holmMember else c.fn

/-- Who receives the records of a request. -/
def reqAsker (c : Ctx) : Asker := .fn c.fn c.holm

/-- Add an asker once: one record for each transition and requester. -/
def addAsker (a : Asker) (l : List Asker) : List Asker := if l.contains a then l else l ++ [a]

/-! ### BLOCK_POWER (R547 to R550, R638, R159) -/

/-- BLOCK_POWER (Table 3.6). -/
def opBlockPower : OpInfo := ⟨0x0B01, (2, 0), .any, none, false, .fixed 4, true⟩

/-- The judgement of a gate request before the child check: R159 for Mainland, R638 for Holm; the refusal, and whether it is logged. -/
def gateRefusal (s : State) (c : Ctx) (g : Nat) : Option (List Byte × Bool) :=
  let o := obj 9 g
  let hs := holders s g
  if c.holm then
    (if !holmOwned s o then some (stOff .notGranted 0, false)
     else if hs.any (fun m => m != holmMember) || (gateUses s).any (fun e => e.1 == g) then some (stOnly .resourceHeld, false)
     else none)
  else if holmOwned s o || hs.contains holmMember then some (stOnly .resourceHeld, true)
  else if granteeOf s o ≠ some c.fn then some (stOff .notGranted 0, false)
  else if hs.any (fun m => m != c.fn) then some (stOnly .resourceHeld, false)
  else none

/-- Register work of a block is discarded as its drain begins (R548): the register job of a check-value unit. -/
def discardWork (g : Nat) (s : State) : State :=
  if 0x21 ≤ g ∧ g ≤ 0x24 then
    wrB (Reg.CV_Un_STAT (g - 0x21)) Fld.CV_Un_STAT_BUSY false { s with mv := { s.mv with cv := tmod {} s.mv.cv (g - 0x21) (fun u => { u with reg := none, pause := false }) } }
  else s

/-- A drain begins (R548). -/
def drainGate (g : Nat) (who : List Asker) (s : State) : State := discardWork g (beginDrain g who s)

/-- A gate request past its judgement acts by the gate's state (R547). A gate under a block reset drains when the reset ends: DEDUCED. -/
def gateAct (c : Ctx) (g : Nat) (s : State) : Ans :=
  let s := leaveGate g (reqMember c) s
  match gateState s g with
  | .off => .reply (stateReply 0) s
  | .draining => .reply (stateReply 2) (setGate g (fun r => { r with queued := none, drainFor := addAsker (reqAsker c) r.drainFor }) s)
  | .wakeQueued => .reply (stateReply 0) (unqueue g s)
  | .waking => .reply (stateReply 3) (setGate g (fun r => { r with pendingGate := true }) s)
  | .on => .reply (stateReply 2) (drainGate g [reqAsker c] s)
  | .resetting => .reply (stateReply 1) (setGate g (fun r => { r with pendingGate := true }) s)

/-- A gate request (ACTION 0). -/
def doGate (c : Ctx) (g : Nat) (s : State) : Ans :=
  match gateRefusal s c g with
  | some (p, logged) => .reply p (if logged then isoLog 4 c.fn 8 0 0 (obj 9 g) Status.resourceHeld.code s else s)
  | none => if (gateChildren g).any (fun x => gateState s x != .off) then .reply (stOnly .resourceHeld) s else gateAct c g s

/-- Is a gate, or one above it, gated for standby (R549)? -/
def standbyNeeds (s : State) (g : Nat) : Bool := (pwrMode s == 1 || pwrMode s == 2) && (g :: gateAncestors g).any (fun x => s.pwr.standbySet.contains x)

/-- A wake request past its judgement acts by the gate's state (R549). -/
def wakeAct (c : Ctx) (g : Nat) (s : State) : Ans :=
  let s := joinGate g (reqMember c) s
  let who := reqAsker c
  match gateState s g with
  | .on => .reply (stateReply 1) s
  | .resetting => .reply (stateReply 1) (setGate g (fun r => { r with pendingGate := false }) s)
  | .wakeQueued | .waking =>
    let s := setGate g (fun r => { r with pendingGate := false, wakeFor := addAsker who r.wakeFor }) s
    .reply (stateReply 3) (if c.holm then upgradeWake g s else s)
  | .draining => .reply (stOnly .draining) (setGate g (fun r => { r with queued := r.queued.orElse (fun _ => some (c.stamp, c.holm, [who])) }) s)
  | .off =>
    let parentOn : Bool := match gateParent g with | some p => gateState s p == .on | none => true
    if gateKind g = some .clock ∧ parentOn = true then .reply (stateReply 1) (clockOn g s)
    else .reply (stateReply 3) (wakeOff g c.holm c.stamp [who] s)

/-- A wake request (ACTION 1): CLOCK_LOST first for a gate of kind Power (R539), then R549. -/
def doWake (c : Ctx) (g : Nat) (s : State) : Ans :=
  let o := obj 9 g
  if clkLost s ∧ gateKind g ≠ some .clock then .reply (stOnly .clockLost) s
  else if holmOwned s o ∧ c.holm = false then .reply (stOff .notGranted 0) s
  else if holmOwned s o = false ∧ granteeOf s o ≠ some c.fn then .reply (stOff .notGranted 0) s
  else if standbyNeeds s g then .reply (stOnly .blockGated) s
  else wakeAct c g s

/-- Steps 12 and 13 of BLOCK_POWER (R547). -/
def doBlockPower (c : Ctx) (s : State) : Ans :=
  let g := leAt c.pay 0 2
  let a := leAt c.pay 2 1
  if gateKind g ≠ some .power ∧ gateKind g ≠ some .clock then .reply (stOff .paramInvalid 0) s
  else if 1 < a then .reply (stOff .paramInvalid 2) s
  else if leAt c.pay 3 1 ≠ 0 then .reply (stOff .reservedSet 3) s
  else if a = 0 then doGate c g s
  else doWake c g s

/-- Meaning of BLOCK_POWER_GATE (R547). -/
def execBlockPowerGate (t : Tick) (q : Request) (s : State) : Out := gcp opBlockPower t q doBlockPower s

/-- Meaning of BLOCK_POWER_WAKE (R549). -/
def execBlockPowerWake (t : Tick) (q : Request) (s : State) : Out := gcp opBlockPower t q doBlockPower s

/-! ### Drains and wakes (R548, R553 to R555) -/

/-- The output whose readiness a gate bears on (R365). -/
def gateOutput (g : Nat) : Option Nat := if 8 ≤ g ∧ g < 16 then some (g - 8) else if 0x30 ≤ g ∧ g < 0x38 then some (g - 0x30) else none

/-- Note the readiness of the output that a gate serves. -/
def noteGate (g : Nat) (s : State) : State := match gateOutput g with | some n => noteReadyAt n s | none => s

/-- A drain ends: the gate is OFF, its records are posted, a queued enable takes effect (R548, R550). The registers of a pixel island and of a transmit group, which are written before the wake
(R552), return to reset here; those of the other blocks when they wake (R546). -/
def drainEnd (g : Nat) (s : State) : State :=
  let r := gateRec s g
  let early : Bool := r.losing && (gateOutput g).isSome
  let s := setGate g (fun r => { r with state := .off, queued := none, drainFor := [], losing := r.losing && !early }) s
  let s := if isIsland g then islandStop g s else s
  let s := if early then resetBlock g s else s
  let s := noteGate g (r.drainFor.foldl (postAsker g 2) s)
  match r.queued with
  | some (stamp, holm, who) => wakeOff g holm stamp who s
  | none => s

/-- Meaning of DRAIN_END (R548). -/
def execDrainEnd (t : Tick) (gate : BitVec 8) (s : State) : Out :=
  let s := advance t s
  if gateState s gate.toNat = .draining then .next (drainEnd gate.toNat s) else .next s

/-- Meaning of WAKE_ADMISSION (R553, R554). -/
def execWakeAdmission (t : Tick) (s : State) : Out :=
  let s := advance t s
  .next (admitWakes s.pwr.queue.length s)

/-- DRAM has left self-refresh (R229): held requests go on. -/
def leaveSelfRefresh (s : State) : State :=
  let w := rd s Reg.DRC_SR_STAT
  let w := setF w Fld.DRC_SR_STAT_EXITS (getF w Fld.DRC_SR_STAT_EXITS + 1)
  wr Reg.DRC_SR_STAT (setB (setB w Fld.DRC_SR_STAT_HELD false) Fld.DRC_SR_STAT_IN_SR false) s

/-- A gate that was pending drains at once (R547), keeping its block's state when it is gated for standby. -/
def drainPending (g : Nat) (retained : Bool) (s : State) : State :=
  let s := drainGate g [] s
  if retained then setGate g (fun r => { r with losing := false }) s else s

/-- A wake ends: the gate is ON and releases its units; records, clock gates below that waited, a pending gate. -/
def wakeComplete (g : Nat) (s : State) : State :=
  let r := gateRec s g
  let s := if r.losing then resetBlock g s else s
  let s := setGate g (fun x => { x with state := .on, wakeFor := [], losing := false, pendingGate := false, retained := r.retained && r.pendingGate }) s
  let s := r.wakeFor.foldl (postAsker g 1) s
  let s := (gateChildren g).foldl (fun (s : State) (c : Nat) => if gateKind c == some .clock && gateState s c == .wakeQueued then clockOn c s else s) s
  let s := if g = 4 ∧ flg s Reg.DRC_SR_STAT Fld.DRC_SR_STAT_IN_SR = true then leaveSelfRefresh s else s
  let s := if g = 7 ∧ r.losing = true then loadProfiles s else s
  let s := noteGate g s
  if r.pendingGate then drainPending g r.retained s else s

/-- Meaning of WAKE_COMPLETE (R555): the gate of an island is ON only with a good clock (R558). -/
def execWakeComplete (t : Tick) (gate : BitVec 8) (s : State) : Out :=
  let s := advance t s
  let g := gate.toNat
  if gateState s g = .waking ∧ (isIsland g → isGood s g = true) then .next (wakeComplete g s) else .next s

/-- Meaning of LOOP_LOCK (R535): a started loop locks; none can while CLKIN is lost. -/
def execLoopLock (t : Tick) (island : BitVec 5) (s : State) : Out :=
  let s := advance t s
  let n := island.toNat
  if n < 20 ∧ fld s (Reg.CLK_ISLn n) Fld.CLK_ISLn_SRC ≠ 0 ∧ isGood s n = false ∧ flg s (Reg.CLK_ISLn n) Fld.CLK_ISLn_COASTING = false ∧ clkinOk s = true then
    .next (noteGate n (islandGood n s))
  else .next s

/-! ### The shader clock (R543, R544) -/

/-- CLOCK_SET (Table 3.6). -/
def opClockSet : OpInfo := ⟨0x0B02, (2, 0), .holm, none, false, .fixed 8, false⟩

/-- The highest shader frequency at which an open contract was admitted (R86). -/
def admittedKhz (s : State) : Nat := s.ledger.contracts.foldl (fun m c => max m c.khz) 0

/-- Step 13 of CLOCK_SET (R544). -/
def doClockSet (c : Ctx) (s : State) : Ans :=
  let n := leAt c.pay 0 1
  let f := leAt c.pay 4 4
  if clkLost s then .reply (stOnly .clockLost) s
  else if 19 < n then .reply (stOff .paramInvalid 0) s
  else if leAt c.pay 1 3 ≠ 0 then .reply (stOff .reservedSet 1) s
  else if n ≠ 2 then
    (if f = fld s (Reg.CLK_ISLn n) Fld.CLK_ISLn_FREQ_KHZ then .reply (stDone (le 4 f)) s else .reply (stOff .paramInvalid 4) s)
  else if f % 25000 ≠ 0 ∨ f < 700000 ∨ 1400000 < f then .reply (stOff .paramInvalid 4) s
  else if f < admittedKhz s then .reply (stOnly .resourceHeld) s
  else if gateState s 2 = .off then .reply (stDone (le 4 f)) (setPwr (fun p => { p with shdKhz := f }) s)
  else .later (setPwr (fun p => { p with shdNext := p.shdNext ++ [f] }) s)

/-- Meaning of CLOCK_SET (R544). -/
def execClockSet (t : Tick) (q : Request) (s : State) : Out := gcp opClockSet t q doClockSet s

/-- Insert a port by the tick at which its request began. -/
def insertPort (l : List (Tick × Port)) (x : Tick × Port) : List (Tick × Port) :=
  l.takeWhile (fun y => decide (y.1 ≤ x.1)) ++ x :: l.dropWhile (fun y => decide (y.1 ≤ x.1))

/-- The ports with a long request of an opcode in progress, the earliest first. -/
def longPorts (s : State) (op : Nat) : List (Tick × Port) :=
  let rs : List (Tick × Port) := s.gcp.rings.filterMap (fun e => match e.2.busy with
    | some l => if l.opcode = op then some (l.began, Port.ring (Fin.ofNat 64 (e.1 / 2)) (e.1 % 2 == 1)) else none
    | none => none)
  let sp : List (Tick × Port) := match s.gcp.spi.long with | some l => if l.opcode = op then [(l.began, Port.spi)] else [] | none => []
  (rs ++ sp).foldl insertPort []

/-- Meaning of SOURCE_SWITCH (R543): the shader island takes its other loop at the frequency set, and CLOCK_SET replies; the core and fabric island leaves CLKIN bypass for its loop. -/
def execSourceSwitch (t : Tick) (island : BitVec 5) (s : State) : Out :=
  let s := advance t s
  if island.toNat = 2 then
    (match s.pwr.shdNext with
     | [] => .next s
     | f :: rest =>
       let w := rd s (Reg.CLK_ISLn 2)
       let src := getF w Fld.CLK_ISLn_SRC
       let w := setF (setF w Fld.CLK_ISLn_FREQ_KHZ f) Fld.CLK_ISLn_SRC (if src = 2 then 3 else 2)
       let s := setPwr (fun p => { p with shdKhz := f, shdNext := rest }) (if src = 0 then s else wr (Reg.CLK_ISLn 2) w s)
       .next (match longPorts s 0x0B02 with
         | [] => s
         | x :: _ => finishLong x.2 (stDone (le 4 f)) s))
  else if island.toNat = 1 ∧ fld s (Reg.CLK_ISLn 1) Fld.CLK_ISLn_SRC = 1 ∧ clkinOk s = true then .next (islandGood 1 (islandStart 1 s))
  else .next s

/-! ### Loss of CLKIN (R536 to R542) -/

/-- The islands whose loops follow CLKIN and run; receive loops follow their links (R537). -/
def loopIslands (s : State) : List Nat := (List.range 16).filter (fun n => decide (1 ≤ n) && decide (2 ≤ fld s (Reg.CLK_ISLn n) Fld.CLK_ISLn_SRC))

/-- A loop coasts. -/
def coast (s : State) (n : Nat) : State :=
  let w := rd s (Reg.CLK_ISLn n)
  wr (Reg.CLK_ISLn n) (setB (setB (setB w Fld.CLK_ISLn_COASTING true) Fld.CLK_ISLn_LOCKED false) Fld.CLK_ISLn_GOOD false) s

/-- Is a loss provoked (R440): an armed fault of TARGET 3? -/
def lossForced (s : State) : Bool := s.lnk.faults.any (fun f => f.armed && f.target == 3)

/-- The LOSS_START and LOSS_END words. -/
def setLossRegs (a b : Nat) (s : State) : State :=
  wr Reg.CLK_LOSS_START_LO (BitVec.ofNat 32 a) (wr Reg.CLK_LOSS_START_HI (BitVec.ofNat 32 (a / 2 ^ 32))
    (wr Reg.CLK_LOSS_END_LO (BitVec.ofNat 32 b) (wr Reg.CLK_LOSS_END_HI (BitVec.ofNat 32 (b / 2 ^ 32)) s)))

/-- A provoked loss counts one injection of each fault that forces it; the fault stays until it is disarmed. -/
def countForced (s : State) : State :=
  setLnk (fun l => { l with faults := l.faults.map (fun f => if f.armed && f.target == 3 then { f with injected := (f.injected + 1) % 2 ^ 32 } else f) }) s

/-- What the ZV880 does as a check fails (R537). Instances that an earlier loss met keep that mark (R540). -/
def clkinLoss (s : State) : State :=
  let forced := lossForced s
  let s := { s with ledger := { s.ledger with contracts := s.ledger.contracts.map (fun c => { c with lost := lossMeets s c }) } }
  let s := (loopIslands s).foldl coast s
  let s := [0, 1].foldl (fun (s : State) (n : Nat) => wrB (Reg.CLK_ISLn n) Fld.CLK_ISLn_GOOD false s) s
  let w := rd s Reg.CLK_STAT
  let w := setF w Fld.CLK_STAT_LOSSES (getF w Fld.CLK_STAT_LOSSES + 1)
  let w := setB (setB (setB (setB w Fld.CLK_STAT_CLK_LOST true) Fld.CLK_STAT_CLKIN_OK false) Fld.CLK_STAT_RELOCKING false) Fld.CLK_STAT_FORCED forced
  let s := setLossRegs s.gtb 0 (wr Reg.CLK_STAT w s)
  let s := setPwr (fun p => { p with lossStart := s.gtb, lossEnd := 0 }) s
  let s := if forced then countForced s else s
  let s := faultNote 0x47 8 s.gtb 0x0603 (raiseHolm 3 s)
  postPower (bit forced) 0xFFFF 5 0 s.gtb s

/-- Meaning of CLKIN_LOSS (R536, R537). -/
def execClkinLoss (t : Tick) (s : State) : Out :=
  let s := advance t s
  if clkinOk s then .next (clkinLoss s) else .next s

/-- Meaning of CLKIN_RETURN (R541): not while a provoked loss stands (R440). A reset that waits for CLKIN is released (R558, R560). -/
def execClkinReturn (t : Tick) (s : State) : Out :=
  let s := advance t s
  if clkinOk s || (lossForced s && flg s Reg.CLK_STAT Fld.CLK_STAT_FORCED) then .next s
  else
    let w := setB (setB (rd s Reg.CLK_STAT) Fld.CLK_STAT_CLKIN_OK true) Fld.CLK_STAT_RELOCKING (flg s Reg.CLK_STAT Fld.CLK_STAT_CLK_LOST)
    let s := wr Reg.CLK_STAT w s
    if s.pwr.inReset && !s.pwr.thermalHold then .next (releaseReset s)
    else .next ([0, 1].foldl (fun (s : State) (n : Nat) => if fld s (Reg.CLK_ISLn n) Fld.CLK_ISLn_SRC = 1 then wrB (Reg.CLK_ISLn n) Fld.CLK_ISLn_GOOD true s else s) s)

/-- A coasting loop has relocked. -/
def relock (s : State) (n : Nat) : State :=
  if flg s (Reg.CLK_ISLn n) Fld.CLK_ISLn_COASTING then noteGate n (islandGood n (wrB (Reg.CLK_ISLn n) Fld.CLK_ISLn_COASTING false s)) else s

/-- Meaning of LOOPS_RELOCKED (R541). -/
def execLoopsRelocked (t : Tick) (s : State) : Out :=
  let s := advance t s
  if clkinOk s && flg s Reg.CLK_STAT Fld.CLK_STAT_RELOCKING then
    (let s := (List.range 16).foldl relock s
     let s := wrB Reg.CLK_STAT Fld.CLK_STAT_RELOCKING false s
     let s := setLossRegs s.pwr.lossStart s.gtb (setPwr (fun p => { p with lossEnd := s.gtb }) s)
     .next (postPower (bit (flg s Reg.CLK_STAT Fld.CLK_STAT_FORCED)) 0xFFFF 6 0 s.pwr.lossStart s))
  else .next s

/-- A write of CLK_STAT (R542): CLK_LOST clears unless CLKIN is lost or loops relock. -/
def clkLostClear (w : Word) (s : State) : State :=
  if getB w Fld.CLK_STAT_CLK_LOST && clkinOk s && !flg s Reg.CLK_STAT Fld.CLK_STAT_RELOCKING then wrB Reg.CLK_STAT Fld.CLK_STAT_CLK_LOST false s else s

/-! ### Standby (R563, R564) -/

/-- POWER_STATE (Table 3.6). -/
def opPowerState : OpInfo := ⟨0x0B03, (3, 0), .holm, none, false, .fixed 4, false⟩

/-- Is the device in use (check 4 of R563)? -/
def standbyBusy (s : State) : Bool :=
  !s.ledger.contracts.isEmpty || (List.range 8).any (tgOn s) || (List.range 11).any (fun k => flg s (Reg.AUD_Kk_STAT k) Fld.AUD_Kk_STAT_RUNNING) ||
    (List.range 4).any (fun v => flg s (Reg.VIN_CTRL v) Fld.VIN_CTRL_ENABLE)

/-- Gate a block for standby, with retention. -/
def standbyGate (s : State) (g : Nat) : State :=
  let into (s : State) : State := setPwr (fun p => { p with standbySet := p.standbySet ++ [g] }) s
  match gateState s g with
  | .on => into (setGate g (fun r => { r with losing := false, retained := true }) (beginDrain g [] s))
  | .waking | .resetting => into (setGate g (fun r => { r with pendingGate := true, retained := true }) s)
  | .wakeQueued =>
    let who := (gateRec s g).wakeFor
    into (setGate g (fun r => { r with state := .off, retained := true, wakeFor := who })
      (setPwr (fun p => { p with queue := p.queue.filter (fun e => e.gate != g) }) s))
  | _ => s

/-- Standby entry begins (R563): the gates, DRAM towards self-refresh, sensors with LP_EN to SLOW. -/
def enterStandby (s : State) : State :=
  let s := setPwr (fun p => { p with standbySet := [], leaveByTouch := false }) (setPwrMode 2 s)
  let s := (([2, 3] : List Nat) ++ (List.range 8).map (fun n => 8 + n) ++ [6]).foldl standbyGate s
  (List.range 8).foldl (fun (s : State) (k : Nat) => enterSlow k s) { s with mem := { s.mem with srDraining := true } }

/-- Steps 12 and 13 of POWER_STATE (R563). -/
def doPowerState (c : Ctx) (s : State) : Ans :=
  let n := leAt c.pay 0 1
  let m := pwrMode s
  if clkLost s then .reply (stOnly .clockLost) s
  else if 1 < n then .reply (stOff .paramInvalid 0) s
  else if leAt c.pay 1 3 ≠ 0 then .reply (stOff .reservedSet 1) s
  else if m = n then .reply (stateReply n) s
  else if n = 1 then
    (if m = 0 then
      (if standbyBusy s then .reply (stOnly .resourceHeld) s
       else .later (setPwr (fun p => { p with enterWaiters := [c.port] }) (enterStandby s)))
     else .later (setPwr (fun p => { p with enterWaiters := p.enterWaiters ++ [c.port] }) s))
  else
    let s := setPwr (fun p => { p with leaveWaiters := p.leaveWaiters ++ [c.port] }) s
    .later (if m = 1 then leaveStandby false s else s)

/-- Meaning of POWER_STATE_STANDBY (R563). -/
def execPowerStateStandby (t : Tick) (q : Request) (s : State) : Out := gcp opPowerState t q doPowerState s

/-- Meaning of POWER_STATE_RUN (R564). -/
def execPowerStateRun (t : Tick) (q : Request) (s : State) : Out := gcp opPowerState t q doPowerState s

/-- Standby is reached: DRAM is in self-refresh, the replies are written; an exit asked for meanwhile begins. -/
def standbyReached (s : State) : State :=
  let s := wrB Reg.DRC_SR_STAT Fld.DRC_SR_STAT_IN_SR true { s with mem := { s.mem with srDraining := false } }
  let s := setPwrMode 1 (islandStop 4 (setGate 4 (fun r => { r with state := .off, retained := true }) s))
  let s := postPower 0 0xFFFF 3 0 0 s
  let ws := s.pwr.enterWaiters
  let s := ws.foldl (fun (s : State) (p : Port) => finishLong p (stateReply 1) s) (setPwr (fun p => { p with enterWaiters := [] }) s)
  if s.pwr.leaveWaiters.isEmpty then (if s.pwr.leaveByTouch then leaveStandby true s else s) else leaveStandby false s

/-- Meaning of STANDBY_REACHED (R563). -/
def execStandbyReached (t : Tick) (s : State) : Out :=
  let s := advance t s
  if pwrMode s = 2 ∧ s.pwr.standbySet.all (fun g => gateState s g == .off) = true then .next (standbyReached s) else .next s

/-- Standby is left: RUN, the record, the replies; entries asked for meanwhile are judged now. -/
def standbyLeft (s : State) : State :=
  let s := postPower 0 0xFFFF 4 (if s.pwr.leaveByTouch then 2 else 1) 0 (setPwrMode 0 s)
  let ls := s.pwr.leaveWaiters
  let es := s.pwr.enterWaiters
  let s := setPwr (fun p => { p with leaveWaiters := [], standbySet := [], leaveByTouch := false }) s
  let s := ls.foldl (fun (s : State) (p : Port) => finishLong p (stateReply 0) s) s
  if es.isEmpty then s
  else if standbyBusy s then
    es.foldl (fun (s : State) (p : Port) => finishLong p (stOnly .resourceHeld) s) (setPwr (fun p => { p with enterWaiters := [] }) s)
  else enterStandby s

/-- Meaning of STANDBY_LEFT (R564). -/
def execStandbyLeft (t : Tick) (s : State) : Out :=
  let s := advance t s
  if pwrMode s = 3 ∧ (s.pwr.standbySet ++ [4]).all (fun g => gateState s g == GState.on) = true then .next (standbyLeft s) else .next s

/-- Meaning of SELF_REFRESH_WAKE (R229): the first DRAM request held while IN_SR is 1 wakes DRAM alone. -/
def execSelfRefreshWake (t : Tick) (s : State) : Out :=
  let s := advance t s
  if flg s Reg.DRC_SR_STAT Fld.DRC_SR_STAT_IN_SR then
    (let s := wrB Reg.DRC_SR_STAT Fld.DRC_SR_STAT_HELD true s
     .next (if gateState s 4 = .off then queueGate 4 true s.gtb [] s else s))
  else .next s

/-! ### POWER_STATUS (R631) -/

/-- POWER_STATUS (Table 3.6). -/
def opPowerStatus : OpInfo := ⟨0x0B04, (2, 0), .any, none, true, .fixed 0, true⟩

/-- Step 13 of POWER_STATUS. -/
def doPowerStatus (_ : Ctx) (s : State) : Ans :=
  .reply (stDone (le 4 s.pwr.milliwatts ++ le 2 (fld s Reg.PWR_THERM Fld.PWR_THERM_TEMP) ++ le 1 (inrushUsed s) ++ le 1 s.pwr.queue.length)) s

/-- Meaning of POWER_STATUS (R631). -/
def execPowerStatus (t : Tick) (q : Request) (s : State) : Out := gcp opPowerStatus t q doPowerStatus s

/-! ### Resetting one block (R561) -/

/-- Is work in progress in a block's own gate (R561)? -/
def gateBusy (s : State) (g : Nat) : Bool :=
  s.ledger.contracts.any (fun c => c.phase == .running && (contractGates c).contains g) ||
  (if g = 2 then !s.ren.jobs.isEmpty
   else if g = 3 then (List.range 8).any (tgOn s)
   else if g = 5 then !s.lnk.held.isEmpty
   else if g = 6 then (List.range 11).any (fun k => flg s (Reg.AUD_Kk_STAT k) Fld.AUD_Kk_STAT_RUNNING) || flg s Reg.AUD_ATT_STAT Fld.AUD_ATT_STAT_SOUNDING
   else if g = 7 ∨ (0x50 ≤ g ∧ g ≤ 0x57) then s.sense.sensors.any (fun e => e.2.busy.isSome || e.2.cal.isSome)
   else if 8 ≤ g ∧ g < 16 then tgOn s (g - 8)
   else if g = 0x20 then s.trv.running.isSome || !s.trv.queue.isEmpty
   else if 0x21 ≤ g ∧ g ≤ 0x24 then (tget {} s.mv.cv (g - 0x21)).reg.isSome || !(tget {} s.mv.cv (g - 0x21)).jobs.isEmpty
   else if 0x28 ≤ g ∧ g ≤ 0x2F then tgOn s (g - 0x28)
   else if 0x30 ≤ g ∧ g ≤ 0x37 then tgOn s (g - 0x30) || (txSt s (g - 0x30)).sb.isSome
   else if 0x38 ≤ g ∧ g ≤ 0x3B then flg s (Reg.VIN_CTRL (g - 0x38)) Fld.VIN_CTRL_ENABLE
   else if 0x40 ≤ g ∧ g ≤ 0x47 then flg s (Reg.AUD_TDMn_FMT (g - 0x40)) Fld.AUD_TDMn_FMT_EN
   else if 0x48 ≤ g ∧ g ≤ 0x49 then flg s (Reg.AUD_Kk_STAT (8 + (g - 0x48))) Fld.AUD_Kk_STAT_RUNNING
   else if 0x58 ≤ g ∧ g ≤ 0x67 then
     (let h : HapRec := tget {} s.sense.haps (g - 0x58)
      h.drive.isSome || h.brake.isSome || h.cal.isSome || !h.queue.isEmpty)
   else false)

/-- May a block be reset? -/
def resettable (s : State) (g : Nat) : Bool :=
  (gateKind g == some .power || gateKind g == some .clock || (decide (2 ≤ g) && decide (g ≤ 0x0F))) && gateState s g == .on && !((gateSubtree g).any (gateBusy s))

/-- A paired write of RST_BLK (R561). -/
def rstBlk (g : Nat) (s : State) : State :=
  if resettable s g then
    (let s := setGate g (fun r => { r with state := .resetting }) s
     let s := (gateSubtree g).foldl (fun (s : State) (x : Nat) => resetBlock x s) s
     setPwr (fun p => { p with resets := p.resets ++ [g] }) (wrB Reg.RST_BLK_STAT Fld.RST_BLK_STAT_BUSY true s))
  else wrB Reg.RST_BLK_STAT Fld.RST_BLK_STAT_REFUSED true s

/-- A block reset releases (R561). -/
def blockResetDone (g : Nat) (s : State) : State :=
  let r := gateRec s g
  let s := setGate g (fun r => { r with state := .on, pendingGate := false }) s
  let s := setPwr (fun p => { p with resets := p.resets.erase g }) s
  let s := wrB Reg.RST_BLK_STAT Fld.RST_BLK_STAT_BUSY (!s.pwr.resets.isEmpty) (wrB Reg.RST_BLK_STAT Fld.RST_BLK_STAT_DONE true s)
  let s := wrF Reg.RST_CAUSE Fld.RST_CAUSE_SOURCE (fld s Reg.RST_CAUSE Fld.RST_CAUSE_SOURCE ||| (if isIsland g then 0x80 else 0x100)) s
  let s := postPower 0 g 7 0 0 s
  let s := if g = 7 then loadProfiles s else s
  if r.pendingGate then drainPending g r.retained s else s

/-- Meaning of BLOCK_RESET_DONE (R561): the reset that began first ends. -/
def execBlockResetDone (t : Tick) (s : State) : Out :=
  let s := advance t s
  match s.pwr.resets with
  | [] => .next s
  | g :: _ => .next (blockResetDone g s)

end Sys2Proof.Machine
end

