-- ==== Sys2Proof/Machine/Haptics.lean ====
section
/-!
DEFINITION. Haptics.lean: haptic channels: levels, effects, braking, limits, calibration, HAPTIC_PLAY (chapter 16).
-/

namespace Sys2Proof.Machine

open Sys2Proof

/-! ### Channels -/

/-- A channel's record. -/
def hapOf (s : State) (n : Nat) : HapRec := tget {} s.sense.haps n

/-- Change a channel's record. -/
def setHap (n : Nat) (f : HapRec → HapRec) (s : State) : State := { s with sense := { s.sense with haps := tmod {} s.sense.haps n f } }

/-- HAP_Cn_STAT.STATE: 0 OFF, 1 CALIBRATING, 2 IDLE, 3 DRIVING, 4 BRAKING, 5 FAULT. -/
def hapState (s : State) (n : Nat) : Nat := fld s (Reg.HAP_Cn_STAT n) Fld.HAP_Cn_STAT_STATE

/-- Set the state of a channel. -/
def setHapState (n v : Nat) (s : State) : State := wrF (Reg.HAP_Cn_STAT n) Fld.HAP_Cn_STAT_STATE v s

/-- Is the channel enabled? -/
def hapOn (s : State) (n : Nat) : Bool := flg s (Reg.HAP_Cn_CTRL n) Fld.HAP_Cn_CTRL_ENABLE

/-- Does the channel drive an ERM? -/
def isErm (s : State) (n : Nat) : Bool := flg s (Reg.HAP_Cn_CTRL n) Fld.HAP_Cn_CTRL_KIND

/-- HALF_PERIOD as it reads. -/
def halfPeriod (s : State) (n : Nat) : Nat := (rd s (Reg.HAP_Cn_HP n)).toNat

/-- The drive unit U_D (R465). -/
def driveUnit (s : State) (n : Nat) : Nat := if isErm s n then 100000 else halfPeriod s n

/-- The braking unit U_B (R465). -/
def brakeUnit (s : State) (n : Nat) : Nat := if isErm s n then 600000 else halfPeriod s n

/-- The braking bound (R76): min(4 × half-period, 2,400,000). -/
def brakeBound (s : State) (n : Nat) : Nat := min (4 * brakeUnit s n) 2400000

/-- Show the calibration that is in effect (R465, R477): of an enabled ERM 600,000 with CAL_VALID 1, else the last one of an LRA. -/
def showCal (n : Nat) (s : State) : State :=
  let (hp, fr, ok) := if hapOn s n && isErm s n then (600000, 0, true)
    else match (hapOf s n).lra with
      | some (h, f) => (h, f, true)
      | none => (0, 0, false)
  wrB (Reg.HAP_Cn_STAT n) Fld.HAP_Cn_STAT_CAL_VALID ok (wr (Reg.HAP_Cn_FRES n) (BitVec.ofNat 32 fr) (wr (Reg.HAP_Cn_HP n) (BitVec.ofNat 32 hp) s))

/-- A HAPTIC_EVENT record to the channel owner's queue (R481). -/
def hapEvent (n cause detail id : Nat) (s : State) : State :=
  let r := le 2 0x0601 ++ le 2 0 ++ le 1 n ++ le 1 cause ++ le 1 detail ++ le 1 0 ++ le 4 id ++ le 4 (halfPeriod s n) ++ le 8 s.gtb ++ le 8 0
  match holderOf s (obj 7 n) with
  | some h => if h.holm then post (fld s Reg.HAP_CTRL Fld.HAP_CTRL_EVENT_PF) true r s else post h.fn false r s
  | none => s

/-! ### Budget windows (R473) -/

/-- The ticks of a budget window in effect; 0 while no budget is in effect. -/
def winTicks (r : HapRec) : Nat :=
  let b := r.lim.getD 1 0
  if getF b Fld.HAP_Cn_BUDGET_BUDGET = 0 then 0 else 200000000 * getF b Fld.HAP_Cn_BUDGET_WIN

/-- Sum the ticks of drive and braking up to now into the present window; a window that has ended gives way to the present one. -/
def accountHap (n : Nat) (s : State) : State :=
  let r := hapOf s n
  let active := r.drive.isSome || r.brake.isSome
  let w := winTicks r
  let start := if w = 0 then r.window else r.tEn + (s.gtb - r.tEn) / w * w
  let used := if active then s.gtb - max r.since start else 0
  setHap n (fun r => { r with window := start, spent := (if start = r.window then r.spent else 0) + used, since := s.gtb }) s

/-- Is the budget of the present window spent? -/
def budgetSpent (r : HapRec) : Bool := winTicks r != 0 && decide (200000 * getF (r.lim.getD 1 0) Fld.HAP_Cn_BUDGET_BUDGET ≤ r.spent)

/-! ### The end of a drive, and braking (R466 to R470) -/

/-- The registers that take effect at a drive start (R477). -/
def limRegs (s : State) (n : Nat) : List Word := [rd s (Reg.HAP_Cn_LIMIT n), rd s (Reg.HAP_Cn_BUDGET n), rd s (Reg.HAP_Cn_BRAKE n)]

/-- Is drive unit `j` of an effect reverse? -/
def unitReverse (erm : Bool) (e : Effect) (j : Nat) : Bool := if erm then e.reverse else (j % 2 == 1) != e.reverse

/-- What follows a drive or braking that is over: the channel calibrates, is idle or is off. -/
def restState (n : Nat) (s : State) : State :=
  setHapState n (if (hapOf s n).cal.isSome then 1 else if hapOn s n then 2 else 0) s

/-- The drive in progress ends now: braking follows when its effect has BRAKE_EN (R466). -/
def endDrive (n : Nat) (s : State) : State :=
  let s := accountHap n s
  let r := hapOf s n
  match r.drive with
  | none => s
  | some (e, b) =>
    let ud := driveUnit s n
    let done := min (s.gtb - b) e.len
    let j := if ud = 0 then 0 else (done - 1) / ud
    let s := setHap n (fun r => { r with drive := none, lastEnd := some s.gtb }) s
    if e.brakeEn then
      let br : BrakeRec := { eff := e, began := s.gtb, unit := 0, unitAt := s.gtb, rev := !unitReverse (isErm s n) e j, ub := brakeUnit s n, erm := isErm s n }
      setHapState n 4 (setHap n (fun r => { r with brake := some br }) s)
    else restState n s

/-- Meaning of BRAKING_UNIT_END (R469): `peak` is the peak |code| of the unit's listen interval. -/
def execBrakingUnitEnd (t : Tick) (channel : BitVec 4) (peak : BitVec 12) (s : State) : Out :=
  let n := channel.toNat
  let s := accountHap n (advance t s)
  let r := hapOf s n
  match r.brake with
  | none => .next s
  | some b =>
    let cut := decide (b.began + 2400000 ≤ s.gtb)
    if s.gtb < b.unitAt + b.ub ∧ cut = false then .next s
    else if cut ∨ peak.toNat < getF (r.lim.getD 2 0) Fld.HAP_Cn_BRAKE_BRAKE_STOP ∨ b.eff.brakeMax ≤ b.unit + 1 then
      .next (restState n (setHap n (fun r => { r with brake := none }) s))
    else .next (setHap n (fun r => { r with brake := some { b with unit := b.unit + 1, unitAt := b.unitAt + b.ub, rev := if b.erm then b.rev else !b.rev } }) s)

/-- Meaning of HAPTIC_DRIVE_END (R466): the drive length has elapsed. -/
def execHapticDriveEnd (t : Tick) (channel : BitVec 4) (s : State) : Out :=
  let s := advance t s
  let n := channel.toNat
  match (hapOf s n).drive with
  | some (e, b) => if b + e.len ≤ s.gtb then .next (endDrive n s) else .next s
  | none => .next s

/-- A limit ends a drive (R472, R473): the flag, LIMIT_ENDS, the record. -/
def limitEnd (n cause id : Nat) (flag : Bits) (s : State) : State :=
  let s := endDrive n s
  let s := wrB (Reg.HAP_Cn_STAT n) flag true s
  let s := wrF (Reg.HAP_Cn_CNT n) Fld.HAP_Cn_CNT_LIMIT_ENDS (fld s (Reg.HAP_Cn_CNT n) Fld.HAP_Cn_CNT_LIMIT_ENDS + 1) s
  hapEvent n cause 0 id s

/-- Meaning of HAPTIC_ON_MAX (R472): the drive has lasted ON_MAX; one whose drive length ends then ends by itself. -/
def execHapticOnMax (t : Tick) (channel : BitVec 4) (s : State) : Out :=
  let s := advance t s
  let n := channel.toNat
  let r := hapOf s n
  let m := 200000 * getF (r.lim.getD 0 0) Fld.HAP_Cn_LIMIT_ON_MAX
  match r.drive with
  | some (e, b) => if m < e.len ∧ b + m ≤ s.gtb then .next (limitEnd n 3 e.id Fld.HAP_Cn_STAT_LIMIT_ON s) else .next s
  | none => .next s

/-- Meaning of HAPTIC_BUDGET_SPENT (R473). -/
def execHapticBudgetSpent (t : Tick) (channel : BitVec 4) (s : State) : Out :=
  let n := channel.toNat
  let s := accountHap n (advance t s)
  let r := hapOf s n
  match r.drive with
  | some (e, _) => if budgetSpent r then .next (limitEnd n 4 e.id Fld.HAP_Cn_STAT_LIMIT_BUDGET s) else .next s
  | none => .next s

/-- Meaning of HAPTIC_BUDGET_WINDOW (R473): a new window has begun; its sum starts with the drive or braking under way. -/
def execHapticBudgetWindow (t : Tick) (channel : BitVec 4) (s : State) : Out := .next (accountHap channel.toNat (advance t s))

/-! ### The start of a drive (R467, R468) -/

/-- The drive of an effect begins: it is delivered (R467). -/
def beginDrive (n : Nat) (e : Effect) (s : State) : State :=
  let s := setHap n (fun r => { r with queue := r.queue.tail, drive := some (e, s.gtb), lim := limRegs s n }) s
  let s := setHapState n 3 s
  let s := wrF (Reg.HAP_Cn_CNT n) Fld.HAP_Cn_CNT_EFFECTS (fld s (Reg.HAP_Cn_CNT n) Fld.HAP_Cn_CNT_EFFECTS + 1) s
  finish e.fn e.id 0 s.gtb 0 s

/-- Meaning of HAPTIC_DRIVE_BEGIN (R467, R468, R473): the first effect reaches its start instant; an effect that still drives is superseded, and its braking comes first. -/
def execHapticDriveBegin (t : Tick) (channel : BitVec 4) (s : State) : Out :=
  let n := channel.toNat
  let s := accountHap n (advance t s)
  let r := hapOf s n
  match r.queue with
  | [] => .next s
  | e :: _ =>
    if s.gtb < e.s0 ∨ r.brake.isSome ∨ r.cal.isSome ∨ hapState s n = 5 ∨ hapOn s n = false ∨ budgetSpent r then .next s
    else
      let s := endDrive n s
      if (hapOf s n).brake.isSome then .next s else .next (beginDrive n e s)

/-! ### Overcurrent (R474) -/

/-- |code| of a signed 12-bit sample. -/
def codeAbs (c : BitVec 12) : Nat := (signedOf 12 c.toNat).natAbs

/-- Meaning of OVERCURRENT (R474): four consecutive samples during drive or braking, each at I_LIMIT or above. -/
def execOvercurrent (t : Tick) (channel : BitVec 4) (c0 c1 c2 c3 : BitVec 12) (s : State) : Out :=
  let n := channel.toNat
  let s := accountHap n (advance t s)
  let r := hapOf s n
  let lim := getF (r.lim.getD 0 0) Fld.HAP_Cn_LIMIT_I_LIMIT
  let who : Option Effect := match r.drive, r.brake with
    | some (e, _), _ => some e
    | none, some b => some b.eff
    | none, none => none
  match who with
  | none => .next s
  | some e =>
    if [c0, c1, c2, c3].all (fun c => decide (lim ≤ codeAbs c)) then
      (let s := setHap n (fun r => { r with drive := none, brake := none, lastEnd := some s.gtb }) s
       let s := wrB (Reg.HAP_Cn_STAT n) Fld.HAP_Cn_STAT_OVERCURRENT true (if hapOn s n then setHapState n 5 s else setHapState n 0 s)
       .next (hapEvent n 5 0 e.id s))
    else .next s

/-! ### Effects that go -/

/-- Remove effects that have not begun. -/
def dropEffects (n : Nat) (p : Effect → Bool) (s : State) : State := setHap n (fun r => { r with queue := r.queue.filter (fun e => !p e) }) s

/-- The effect of a cancelled contract leaves its queue. -/
def withdrawEffect (fn id : Nat) (s : State) : State :=
  (List.range 16).foldl (fun (s : State) n => if (hapOf s n).queue.any (fun e => e.fn == fn && e.id == id) then dropEffects n (fun e => e.fn == fn && e.id == id) s else s) s

/-- The drive of a function's effect ends, as its function is reset or removed (Table 16.3). -/
def hapForget (fn : Nat) (s : State) : State :=
  (List.range 16).foldl (fun (s : State) n =>
    let s := if (hapOf s n).queue.any (fun e => e.fn == fn) then dropEffects n (fun e => e.fn == fn) s else s
    match (hapOf s n).drive with
    | some (e, _) => if e.fn = fn then endDrive n s else s
    | none => s) s

/-! ### Enable and disable (R477, Table 16.3) -/

/-- The first check of Table 16.1 that a channel fails, with the word written to HAP_Cn_CTRL; 0 when every check passes. -/
def hapCheck (s : State) (n : Nat) (w : Word) : Nat :=
  let vs := fld s (Reg.HAP_Cn_SUPPLY n) Fld.HAP_Cn_SUPPLY_V_SUPPLY
  let vm := fld s (Reg.HAP_Cn_SUPPLY n) Fld.HAP_Cn_SUPPLY_V_MAX
  let pd := fld s (Reg.HAP_Cn_PWM n) Fld.HAP_Cn_PWM_PWM_DIV
  let lo := fld s (Reg.HAP_Cn_CAL0 n) Fld.HAP_Cn_CAL0_F_LO
  let hi := fld s (Reg.HAP_Cn_CAL0 n) Fld.HAP_Cn_CAL0_F_HI
  let cl := fld s (Reg.HAP_Cn_CAL1 n) Fld.HAP_Cn_CAL1_CAL_LEVEL
  let bu := fld s (Reg.HAP_Cn_BUDGET n) Fld.HAP_Cn_BUDGET_BUDGET
  let wi := fld s (Reg.HAP_Cn_BUDGET n) Fld.HAP_Cn_BUDGET_WIN
  if vs < 1000 ∨ 24000 < vs then 1
  else if vm = 0 ∨ vs < vm then 2
  else if pd < 500 ∨ 4000 < pd then 3
  else if fld s (Reg.HAP_Cn_LIMIT n) Fld.HAP_Cn_LIMIT_ON_MAX = 0 ∨ fld s (Reg.HAP_Cn_LIMIT n) Fld.HAP_Cn_LIMIT_I_LIMIT = 0 ∨
      fld s (Reg.HAP_Cn_BRAKE n) Fld.HAP_Cn_BRAKE_BRAKE_STOP = 0 then 4
  else if cl = 0 ∨ vm < cl ∨ (getB w Fld.HAP_Cn_CTRL_KIND = false ∧ ¬(50 ≤ lo ∧ lo < hi ∧ hi ≤ 500)) then 5
  else if bu ≠ 0 ∧ (wi = 0 ∨ 1000 * wi < bu) then 6
  else 0

/-- The channel is enabled (R477): it calibrates or is idle; braking still under way completes first. -/
def hapEnable (n : Nat) (auto : Bool) (s : State) : State :=
  let s := wrB (Reg.HAP_Cn_CTRL n) Fld.HAP_Cn_CTRL_ENABLE true s
  let s := setHap n (fun r => { r with tEn := s.gtb, window := s.gtb, spent := 0, since := s.gtb, lim := limRegs s n, cal := if auto then some (none, s.gtb) else none }) s
  let s := showCal n s
  if (hapOf s n).brake.isSome then s else restState n s

/-- ENABLE written 0 (Table 16.3): the drive ends, braking completes unless the channel is in FAULT, effects not begun are cancelled. A calibration in progress is given up, and one asked for fails:
DESIGN CHOICE. -/
def hapDisable (n : Nat) (s : State) : State :=
  let q := (hapOf s n).queue
  let cal := (hapOf s n).cal
  let s := endDrive n s
  let s := wrB (Reg.HAP_Cn_CTRL n) Fld.HAP_Cn_CTRL_ENABLE false s
  let s := setHap n (fun r => { r with queue := [], cal := none }) s
  let s := q.foldl (fun (s : State) (e : Effect) => match contractOf s e.fn e.id with | some c => cancelContract c s.gtb s | none => s) s
  let s := match cal with | some (some p, _) => finishLong p (stOnly .calibrationFailed) s | _ => s
  let s := showCal n s
  if (hapOf s n).brake.isSome then s else setHapState n 0 s

/-- A write to HAP_Cn_CTRL: AUTO_CAL takes its value, KIND while ENABLE is 0, ENABLE by the checks of Table 16.1. -/
def writeHapCtrl (n : Nat) (w : Word) (s : State) : State :=
  let old := rd s (Reg.HAP_Cn_CTRL n)
  let auto := getB w Fld.HAP_Cn_CTRL_AUTO_CAL
  let s := wrB (Reg.HAP_Cn_CTRL n) Fld.HAP_Cn_CTRL_AUTO_CAL auto s
  if getB old Fld.HAP_Cn_CTRL_ENABLE then
    (if getB w Fld.HAP_Cn_CTRL_ENABLE then s
     else wrB (Reg.HAP_Cn_CTRL n) Fld.HAP_Cn_CTRL_KIND (getB w Fld.HAP_Cn_CTRL_KIND) (hapDisable n s))
  else
    let s := wrB (Reg.HAP_Cn_CTRL n) Fld.HAP_Cn_CTRL_KIND (getB w Fld.HAP_Cn_CTRL_KIND) s
    if getB w Fld.HAP_Cn_CTRL_ENABLE then
      let e := hapCheck s n w
      let s := wrF (Reg.HAP_Cn_STAT n) Fld.HAP_Cn_STAT_CFG_ERR e s
      if e = 0 then hapEnable n auto s else s
    else s

/-- Is a write to a channel register ignored (R477): SUPPLY, PWM, CAL0 and CAL1 while ENABLE is 1? `o` is the offset in the channel's set. -/
def hapLocked (s : State) (n o : Nat) : Bool := hapOn s n && (o == 4 || o == 8 || o == 0x14 || o == 0x18)

/-! ### Calibration (R475, R476, R478) -/

/-- The step with the greatest ring-down, the lowest among equals, and that ring-down. -/
def bestStep (amps : List Nat) : Nat := amps.foldl max 0

/-- How a calibration ends: HALF_PERIOD and F_RES, or the cause of its failure: 1 OPEN, 2 NO_RING, 3 OUT_OF_RANGE. -/
def calResult (erm : Bool) (lo hi calMin : Nat) (amps crossings : List Nat) : Nat × Nat × Nat :=
  if (if erm then amps.headD 0 else bestStep (amps.take 32)) < calMin then (0, 0, 1)
  else if erm then (600000, 0, 0)
  else match crossings with
    | t1 :: _ :: _ :: _ :: t5 :: _ =>
      let hp := (t5 - t1 + 2) / 4
      let fr := (100000000000 + hp / 2) / hp
      if fr < 1000 * lo ∨ 1000 * hi < fr then (0, 0, 3) else (hp, fr, 0)
    | _ => (0, 0, 2)

/-- Meaning of HAPTIC_CALIBRATION_DONE (R475, R476): `amps` are the peaks |code| A_i of the sweep (of an ERM, the one peak), `crossings` the stamps of the sign changes of the ring-down that came in time. A failure of a
calibration at enable enters FAULT, one that HAPTIC_CALIBRATE asked for leaves the channel idle. DEDUCED. -/
def execHapticCalibrationDone (t : Tick) (channel : BitVec 4) (amps : List (BitVec 12)) (crossings : List Tick) (s : State) : Out :=
  let s := advance t s
  let n := channel.toNat
  let r := hapOf s n
  match r.cal with
  | none => .next s
  | some (port, began) =>
    if r.brake.isSome ∨ (isErm s n ∧ s.gtb < began + 800000) then .next s
    else
      let (hp, fr, bad) := calResult (isErm s n) (fld s (Reg.HAP_Cn_CAL0 n) Fld.HAP_Cn_CAL0_F_LO) (fld s (Reg.HAP_Cn_CAL0 n) Fld.HAP_Cn_CAL0_F_HI)
        (fld s (Reg.HAP_Cn_CAL1 n) Fld.HAP_Cn_CAL1_CAL_MIN) (amps.map BitVec.toNat) crossings
      let s := setHap n (fun r => { r with cal := none }) s
      if bad = 0 then
        (let s := if isErm s n then s else setHap n (fun r => { r with lra := some (hp, fr) }) s
         let s := hapEvent n 1 0 0 (setHapState n 2 (showCal n s))
         .next (match port with | some p => finishLong p (stDone (le 4 hp ++ le 4 fr)) s | none => s))
      else
        (let s := wrB (Reg.HAP_Cn_STAT n) Fld.HAP_Cn_STAT_CAL_FAIL true (setHapState n (if port.isSome then 2 else 5) s)
         let s := hapEvent n 2 bad 0 s
         .next (match port with | some p => finishLong p (stOnly .calibrationFailed) s | none => s))

/-- Is channel object `n` granted to the session's holder (R152, R153)? A Mainland session that names a Holm-owned object leaves a TARGET_CROSS entry. -/
def holdsTarget (s : State) (c : Ctx) (o : Nat) : Bool := holderOf s o == some ⟨c.holm, if c.holm then 0 else c.fn⟩

/-- NOT_GRANTED with its log entry (R153). -/
def notGrantedTarget (c : Ctx) (o off : Nat) (s : State) : List Byte × State :=
  (stOff .notGranted off, if holmOwned s o ∧ c.holm = false then isoLog 7 c.fn 8 0 0 o Status.notGranted.code s else s)

/-- HAPTIC_CALIBRATE (Table 3.6). -/
def opHapticCalibrate : OpInfo := ⟨0x0604, (3, 0), .owner, none, false, .fixed 4, false⟩

/-- Steps 12 and 13 of HAPTIC_CALIBRATE (R478). -/
def doHapticCalibrate (c : Ctx) (s : State) : Ans :=
  let n := leAt c.pay 0 1
  if leAt c.pay 1 3 ≠ 0 then .reply (stOff .reservedSet 1) s
  else if 15 < n then .reply (stOff .paramInvalid 0) s
  else if holdsTarget s c (obj 7 n) = false then
    (let (p, s) := notGrantedTarget c (obj 7 n) 0 s
     .reply p s)
  else if gateOn s (0x58 + n) = false ∨ hapOn s n = false ∨ hapState s n = 5 ∨ (hapOf s n).cal.isSome then .reply (stOnly .channelNotReady) s
  else if (hapOf s n).queue.isEmpty = false ∨ (hapOf s n).drive.isSome ∨ (hapOf s n).brake.isSome then .reply (stOnly .channelBusy) s
  else .later (setHapState n 1 (setHap n (fun r => { r with cal := some (some c.port, s.gtb) }) s))

/-- Meaning of HAPTIC_CALIBRATE (R478). -/
def execHapticCalibrate (t : Tick) (q : Request) (s : State) : Out := gcp opHapticCalibrate t q doHapticCalibrate s

/-! ### HAPTIC_PLAY (R466, R479, R480) -/

/-- HAPTIC_PLAY (Table 3.6). -/
def opHapticPlay : OpInfo := ⟨0x0603, (2, 0), .owner, some .haptic, false, .fixed 4, false⟩

/-- The effect of a slot as it is copied at signing (R466). -/
def slotEffect (s : State) (n k : Nat) : Effect :=
  let f0 := rd s (Reg.HAP_Cn_FXs_0 n k)
  let f1 := rd s (Reg.HAP_Cn_FXs_1 n k)
  let f2 := rd s (Reg.HAP_Cn_FXs_2 n k)
  let f3 := rd s (Reg.HAP_Cn_FXs_3 n k)
  let od := getF f1 Fld.HAP_Cn_FXs_1_OD_LEN
  let su := getF f2 Fld.HAP_Cn_FXs_2_SUS_LEN
  { fn := 0, id := 0, holm := false, release := 0, s0 := 0, odLen := od, odLevel := getF f1 Fld.HAP_Cn_FXs_1_OD_LEVEL, susLen := su,
    susLevel := getF f0 Fld.HAP_Cn_FXs_0_SUS_LEVEL, brakeEn := getB f0 Fld.HAP_Cn_FXs_0_BRAKE_EN, reverse := getB f0 Fld.HAP_Cn_FXs_0_REVERSE,
    brakeMax := getF f3 Fld.HAP_Cn_FXs_3_BRAKE_MAX, brakeLevel := getF f3 Fld.HAP_Cn_FXs_3_BRAKE_LEVEL, len := (od + su) * driveUnit s n }

/-- May the slot be played (step 5 of Table 16.2)? -/
def slotOk (s : State) (n k : Nat) : Bool :=
  let e := slotEffect s n k
  flg s (Reg.HAP_Cn_FXs_0 n k) Fld.HAP_Cn_FXs_0_VALID && decide (1 ≤ e.odLen + e.susLen) && (!e.brakeEn || (decide (1 ≤ e.brakeMax) && decide (e.brakeMax ≤ 4)))

/-- The checks of Table 16.2; the TARGET_CROSS entry of step 3 is left by the caller. -/
def playCheck (s : State) (c : Ctx) : Option (List Byte) :=
  let b := parseBlock c.pay
  let n := b.target
  let k := leAt c.pay 0x30 1
  if b.periodic then some (stOnly .costInvalid)
  else if 15 < n then some (stOff .paramInvalid 4)
  else if holdsTarget s c (obj 7 n) = false then some (stOff .notGranted 4)
  else if leAt c.pay 0x31 3 ≠ 0 then some (stOff .reservedSet 0x31)
  else if 15 < k ∨ slotOk s n k = false then some (stOff .paramInvalid 0x30)
  else if hapOn s n = false ∨ hapState s n = 5 ∨ (hapOf s n).cal.isSome ∨ flg s (Reg.HAP_Cn_STAT n) Fld.HAP_Cn_STAT_CAL_VALID = false then some (stOnly .channelNotReady)
  else if (parseCost .haptic c.pay).amount < (slotEffect s n k).len then some (stOnly .costInvalid)
  else none

/-- The signed effects of a channel that have not ended: those that wait, and the one that drives. -/
def liveEffects (r : HapRec) : List Effect := r.queue ++ (match r.drive with | some (e, _) => [e] | none => [])

/-- Can the channel be braking at an instant (R76): does an effect signed earlier end, or is it superseded, within the braking bound before it? -/
def canBrake (s : State) (n at_ : Nat) : Bool :=
  let r := hapOf s n
  let b := brakeBound s n
  r.queue.any (fun e => decide (e.s0 ≤ at_) && decide (at_ ≤ e.s0 + e.len + b)) ||
  (match r.drive with | some (e, d) => decide (at_ ≤ d + e.len + b) | none => false) ||
  (match r.lastEnd with | some x => decide (at_ ≤ x + b) | none => false)

/-- The spacing of R480. -/
def hapFull (s : State) (n at_ : Nat) : Bool :=
  let r := hapOf s n
  let d := brakeBound s n + 1000
  decide (2 ≤ r.queue.length) || (liveEffects r).any (fun e => decide (at_ ≤ e.s0 + d) && decide (e.s0 ≤ at_ + d))

/-- What HAPTIC_PLAY asks of admission. -/
def playAsk (s : State) (c : Ctx) : AskFor :=
  let a := baseAsk c .haptic s
  let n := a.blk.target
  let s0 := startOf s a 0
  { a with objRes := 9, full := hapFull s n s0, minW := if canBrake s n s0 then brakeBound s n + 1000 else 1000 }

/-- Does effect `a` start before effect `b` (R467)? -/
def effectBefore (a b : Effect) : Bool := decide (a.release < b.release) || (a.release == b.release && decide (a.id < b.id))

/-- Insert an effect in order of start. -/
def effectInsert (e : Effect) : List Effect → List Effect
  | [] => [e]
  | x :: xs => if effectBefore e x then e :: x :: xs else x :: effectInsert e xs

/-- Step 13 of HAPTIC_PLAY (R479): CLOCK_LOST and FUNCTION_QUIESCED, Table 16.2, BLOCK_GATED, admission; the slot is copied at signing. -/
def doHapticPlay (c : Ctx) (s : State) : Ans :=
  match contractGuard s c.fn [] with
  | some st => .reply (stOnly st) s
  | none =>
    let n := (parseBlock c.pay).target
    match playCheck s c with
    | some p => .reply p (if p = stOff .notGranted 4 then (notGrantedTarget c (obj 7 n) 4 s).2 else s)
    | none =>
      match contractGuard s c.fn (gatesNeeded .haptic n) with
      | some st => .reply (stOnly st) s
      | none =>
        let (p, s', k) := admitReply (playAsk s c) s
        match k with
        | none => .reply p s'
        | some k =>
          let e := slotEffect s n (leAt c.pay 0x30 1)
          .reply p (setHap n (fun r => { r with queue := effectInsert { e with fn := k.fn, id := k.id, holm := k.holm, release := k.blk.release.toNat, s0 := k.s0 } r.queue }) s')

/-- Meaning of HAPTIC_PLAY (R479). -/
def execHapticPlay (t : Tick) (q : Request) (s : State) : Out := gcp opHapticPlay t q doHapticPlay s

/-! ### Outputs (R463, R466, R469) -/

/-- d of a level (R463): the cycles of each PWM period for which the driving output is high. -/
def pwmHigh (s : State) (n level : Nat) : Nat :=
  min level (fld s (Reg.HAP_Cn_SUPPLY n) Fld.HAP_Cn_SUPPLY_V_MAX) * fld s (Reg.HAP_Cn_PWM n) Fld.HAP_Cn_PWM_PWM_DIV / fld s (Reg.HAP_Cn_SUPPLY n) Fld.HAP_Cn_SUPPLY_V_SUPPLY

/-- The outputs of a channel now, outside calibration: polarity (0 Off, 1 forward, 2 reverse) and d. -/
def hapOutput (s : State) (n : Nat) : Nat × Nat :=
  let r := hapOf s n
  match r.drive, r.brake with
  | some (e, b), _ =>
    let ud := driveUnit s n
    let j := if ud = 0 then 0 else (s.gtb - b) / ud
    let d := pwmHigh s n (if j < e.odLen then e.odLevel else e.susLevel)
    if d = 0 then (0, 0) else (if unitReverse (isErm s n) e j then 2 else 1, d)
  | none, some b =>
    let d := pwmHigh s n b.eff.brakeLevel
    if s.gtb - b.unitAt < b.ub - b.ub / 8 ∧ d ≠ 0 then (if b.rev then 2 else 1, d) else (0, 0)
  | none, none => (0, 0)

end Sys2Proof.Machine
end

