-- ==== Sys2Proof/Machine/AudioCore.lean ====
section
/-!
DEFINITION. AudioCore.lean: the arithmetic of the audio graph: conversion, gains, routes, mixing, the limiter, the attention tone (chapter 17).
-/

namespace Sys2Proof.Machine

open Sys2Proof

/-- Change the audio state. -/
def setAud (f : AudioState → AudioState) (s : State) : State := { s with aud := f s.aud }

/-- A host stream. -/
def streamOf (s : State) (a : Nat) : StreamRec := tget {} s.aud.streams a

/-- Show the number of buffers queued (AUD_Ss_STAT.QUEUED). -/
def showQueued (a : Nat) (s : State) : State := wrF (Reg.AUD_Ss_STAT a) Fld.AUD_Ss_STAT_QUEUED (streamOf s a).bufs.length s

/-- Change a host stream. -/
def setStream (a : Nat) (f : StreamRec → StreamRec) (s : State) : State :=
  showQueued a (setAud (fun x => { x with streams := tmod {} x.streams a f }) s)

/-- Is a stream open? -/
def streamIsOpen (s : State) (a : Nat) : Bool := flg s (Reg.AUD_Ss_CFG a) Fld.AUD_Ss_CFG_OPEN

/-- The source rate of a stream. -/
def streamRate (s : State) (a : Nat) : Nat := fld s (Reg.AUD_Ss_RATE a) Fld.AUD_Ss_RATE_RATE_HZ

/-! ### Conversion (R487) -/

/-- Saturate to 32 bits. -/
def sat32 (x : Int) : Int := clampI (-2147483648) 2147483647 x

/-- Round `n / d` to nearest, ties to even. -/
def divEven (n d : Nat) : Nat :=
  let q := n / d
  let r := n % d
  if 2 * r < d then q else if d < 2 * r then q + 1 else q + q % 2

/-- A stream sample in FP32 (Table 17.2). -/
def f32Sample (w : Nat) : Int :=
  let e := natBits w 30 23
  let f := natBits w 22 0
  let m := if e = 0 then f else f + 0x800000
  let k := if e = 0 then 1 else e
  -- the value is m × 2 ^ (k − 150); times 2 ^ 31
  let v : Nat := if e = 255 then (if f = 0 then 2 ^ 32 else 0) else if 119 ≤ k then m * 2 ^ min (k - 119) 64 else divEven m (2 ^ (119 - k))
  let x : Int := if w.testBit 31 then -(v : Int) else (v : Int)
  sat32 x

/-- A stream sample by its format (Table 17.2). -/
def streamSample (fmt : Nat) (bs : List Byte) : Int :=
  match fmt with
  | 0 => signedOf 16 (ofLe bs) * 65536
  | 1 => signedOf 24 (ofLe bs) * 256
  | 2 => signedOf 32 (ofLe bs)
  | _ => f32Sample (ofLe bs)

/-- Bytes of a sample (R489). -/
def sampleBytes (fmt : Nat) : Nat := if fmt = 0 then 2 else 4

/-- Bits of a width code: 16, 24 or 32 (Table 17.10). -/
def widthBits (c : Nat) : Nat := if c = 0 then 16 else if c = 1 then 24 else 32

/-- Slots of a TDM port. -/
def tdmSlots (s : State) (n : Nat) : Nat := fld s (Reg.AUD_TDMn_FMT n) Fld.AUD_TDMn_FMT_SLOTS + 1

/-- Is a TDM port enabled? -/
def tdmOn (s : State) (n : Nat) : Bool := flg s (Reg.AUD_TDMn_FMT n) Fld.AUD_TDMn_FMT_EN

/-- The word width of a sink (R501). -/
def sinkWidth (s : State) (k : Nat) : Nat :=
  if k < 8 then widthBits (fld s (Reg.AUD_TDMn_FMT k) Fld.AUD_TDMn_FMT_SAMPLE_W) else if k < 10 then 24 else 32

/-- The channels of a sink (Table 17.1). -/
def sinkChannels (s : State) (k : Nat) : Nat :=
  if k < 8 then tdmSlots s k else if k < 10 then 2 else fld s (Reg.AUD_Kk_CTRL k) Fld.AUD_Kk_CTRL_WB_CH

/-- The output word of width `w` (R501). -/
def toWidth (w : Nat) (y : Int) : Int :=
  if 32 ≤ w then y
  else
    let m : Int := (2 : Int) ^ (w - 1)
    clampI (-m) (m - 1) (asr (y + (2 : Int) ^ (31 - w)) (32 - w))

/-! ### Gains (R498) -/

/-- Is a gain register's element muted? MUTE of a sink acts on its sink gain. -/
def gainMuted (s : State) (off : Nat) : Bool :=
  if off < 0xF05000 then flg s (Reg.AUD_Ss_CTRL ((off - 0xF01000) / 0x200)) Fld.AUD_Ss_CTRL_MUTE
  else if off < 0xF05280 then flg s (Reg.AUD_Ie_CTRL ((off - 0xF05000) / 0x40)) Fld.AUD_Ie_CTRL_MUTE
  else if (off - 0xF06000) % 0x400 = 4 then flg s (Reg.AUD_Kk_CTRL ((off - 0xF06000) / 0x400)) Fld.AUD_Kk_CTRL_MUTE
  else false

/-- The gain that a gain register asks for. Every gain register has GAIN in bits [15:0] and RAMP in [22:16]. -/
def gainGoal (s : State) (off : Nat) : Nat := if gainMuted s off then 0 else natBits (rd s off).toNat 15 0

/-- The gain in effect. -/
def gainNow (s : State) (off : Nat) : Nat := match tget none s.aud.gains off with | some r => r.now | none => gainGoal s off

/-- Begin a gain's way from `g0` to what its register asks for, with the register's own RAMP. -/
def startRamp (s : State) (e : Nat × Nat) : State :=
  let goal := gainGoal s e.1
  let n := 96 * natBits (rd s e.1).toNat 22 16
  setAud (fun a => { a with gains := tput none a.gains e.1 (if n = 0 ∨ goal = e.2 then none else some ⟨e.2, e.2, goal, 0, n⟩) }) s

/-- A change of registers that bears on some gains. -/
def regain (offs : List Nat) (change : State → State) (s : State) : State :=
  (offs.map (fun o => (o, gainNow s o))).foldl startRamp (change s)

/-- The next frame of a ramp; one that has arrived is over. -/
def stepRamp (r : Ramp) : Option Ramp :=
  let j := r.made + 1
  if r.frames ≤ j then none
  else some { r with made := j, now := ((r.start : Int) + Int.tdiv (((r.goal : Int) - (r.start : Int)) * (j : Int)) (r.frames : Int)).toNat }

/-- Every ramp makes a frame. -/
def stepGains (a : AudioState) : AudioState :=
  { a with gains := a.gains.filterMap (fun e => match e.2 with
      | some r => (stepRamp r).map (fun x => (e.1, some x))
      | none => none) }

/-! ### Routes (R497) -/

/-- Is a source element open or enabled? -/
def elementLive (s : State) (e : Nat) : Bool :=
  if e < 32 then streamIsOpen s e
  else if e < 42 then flg s (Reg.AUD_Ie_CTRL (e - 32)) Fld.AUD_Ie_CTRL_ENABLE
  else if e = 42 then true
  else flg s (Reg.AUD_Kk_STAT (e - 64)) Fld.AUD_Kk_STAT_RUNNING

/-- The channels of an element. -/
def elementChannels (s : State) (e : Nat) : Nat :=
  if e < 32 then fld s (Reg.AUD_Ss_CFG e) Fld.AUD_Ss_CFG_CHANNELS
  else if e < 40 then tdmSlots s (e - 32)
  else if e < 43 then 1
  else sinkChannels s (e - 64)

/-- May a sink reach an element? Sink 10 is always Holm. -/
def mayReach (s : State) (k e : Nat) : Bool :=
  let sink := obj 6 (64 + k)
  if e < 42 then
    (if holmOwned s sink then true
     else if holmOwned s (obj 6 e) then false
     else decide (e < 32) || ((granteeOf s sink).isSome && granteeOf s (obj 6 e) == granteeOf s sink))
  else k == 10 && (e == 42 || (decide (64 ≤ e) && decide (e ≤ 74)))

/-- A route: it carries the element (none), or it is silent with ROUTE_DENIED or without it. -/
def routeOf (s : State) (k e ch : Nat) : Option Bool :=
  if mayReach s k e = false then some true
  else if elementLive s e = false then some false
  else if elementChannels s e ≤ ch then some true
  else none

/-- The sample of an element's channel as the mixer takes it: of a source, past 16 frames of conversion (R486); the tone, or what a sink emitted, for the writeback. -/
def mixerSample (s : State) (e ch : Nat) : Int :=
  if e < 42 then ((tget [] s.aud.delay e).getD 16 []).getD ch 0
  else if e = 42 then s.aud.toneNow.1
  else ((tget {} s.aud.sinks (e - 64)).emitted.getD ch 0) * (2 : Int) ^ (32 - sinkWidth s (e - 64))

/-- The channel gain of an element. -/
def elementGain (s : State) (e ch : Nat) : Nat :=
  if e < 32 then gainNow s (Reg.AUD_Ss_GAINc e ch) else if e < 42 then gainNow s (Reg.AUD_Ie_GAINc (e - 32) ch) else 4096

/-! ### Mixing (R499) -/

/-- What one mixer input adds to the accumulator, and whether its route is denied. -/
def mixInput (s : State) (k c i : Nat) : Int × Bool :=
  let w := rd s (Reg.AUD_Kk_SELc_i k c i)
  if getB w Fld.AUD_Kk_SELc_i_EN then
    (let e := getF w Fld.AUD_Kk_SELc_i_ELEMENT
     let ch := getF w Fld.AUD_Kk_SELc_i_CHANNEL
     match routeOf s k e ch with
     | some d => (0, d)
     | none =>
       let x := sat32 (asr (mixerSample s e ch * (elementGain s e ch : Int) + 2048) 12)
       (asr (x * (gainNow s (Reg.AUD_Kk_MGc_i k c i) : Int) + 2048) 12, false))
  else (0, false)

/-- z of a channel, whether a route is denied, whether z saturated. -/
def mixChannel (s : State) (k c : Nat) : Int × Bool × Bool :=
  let is := (List.range 8).map (mixInput s k c)
  let acc : Int := (is.map (fun x => x.1)).foldl (· + ·) 0
  let z := asr (acc * (gainNow s (Reg.AUD_Kk_GAIN k) : Int) + 2048) 12
  let q := clampI (-549755813888) 549755813887 z
  (q, is.any (fun x => x.2), q != z)

/-! ### The limiter (R500) and the adder (R503) -/

/-- T of a sink. -/
def limitT (s : State) (k : Nat) : Nat := 65536 * fld s (Reg.AUD_Kk_LIM k) Fld.AUD_Kk_LIM_THR

/-- The limiter's gain for the present frame. -/
def limitGain (s : State) (k : Nat) (zs : List (List Int)) (g : Nat) : Nat :=
  let t := limitT s k
  let m := zs.foldl (fun a f => f.foldl (fun a (z : Int) => max a z.natAbs) a) 0
  let r := if t < m then t * 1073741824 / m else 1073741824
  min r (g + 1073741824 / (96 * max 1 (fld s (Reg.AUD_Kk_LIM k) Fld.AUD_Kk_LIM_RELEASE)))

/-- y of a sample and whether the clamp held it. -/
def limitSample (t : Int) (g : Nat) (z : Int) : Int × Bool :=
  let y := asr (z * (g : Int) + 536870912) 30
  let q := clampI (-t) t y
  (q, q != y)

/-- Does the tone sound on a sink? -/
def toneOn (s : State) (k : Nat) : Bool := flg s Reg.AUD_ATT_STAT Fld.AUD_ATT_STAT_SOUNDING && (fld s Reg.AUD_ATT_SINKS Fld.AUD_ATT_SINKS_SINKS).testBit k

/-- d of R503 with the envelope e. -/
def duckOf (s : State) (e : Nat) : Int := 32768 + Int.tdiv (((fld s Reg.AUD_ATT_LEVEL Fld.AUD_ATT_LEVEL_DUCK : Int) - 32768) * (e : Int)) 192

/-- y′ (R503). -/
def addTone (s : State) (k : Nat) (y : Int) : Int :=
  if toneOn s k then sat32 (asr (y * duckOf s s.aud.toneNow.2) 15 + s.aud.toneNow.1) else y

/-! ### The attention tone (R502) -/

/-- The terms of the sine series from the `n`th on: `t` is the present term, scaled by 2 ^ 60, and `x2` the square of the angle. -/
def sineTail : Nat → Nat → Int → Int → Int
  | 0, _, _, _ => 0
  | fuel + 1, n, x2, t => t + sineTail fuel (n + 1) x2 (-(Int.tdiv (t * x2) (2 ^ 60)) / (((2 * n + 2) * (2 * n + 3) : Nat) : Int))

/-- round(32,767 × sin(2π × i / 1,024)) for i up to 256, a quarter of the circle. -/
def sineQuarter (i : Nat) : Int :=
  let x : Int := 3622009729038561421 * (i : Int) / 512
  roundShr (32767 * sineTail 14 0 (x * x / 2 ^ 60) x) 60

/-- S of the tone for the ten top bits of the phase. -/
def sineStep (i : Nat) : Int :=
  let j := i % 256
  match i / 256 % 4 with
  | 0 => sineQuarter j
  | 1 => sineQuarter (256 - j)
  | 2 => -(sineQuarter j)
  | _ => -(sineQuarter (256 - j))

/-- Steps of the sequence. -/
def toneSteps (s : State) : Nat := fld s Reg.AUD_ATT_CTRL Fld.AUD_ATT_CTRL_STEPS + 1
/-- FREQ of a step. -/
def toneFreq (s : State) (j : Nat) : Nat := fld s (Reg.AUD_ATT_STEPj j) Fld.AUD_ATT_STEPj_FREQ
/-- Frames of a step. -/
def toneFrames (s : State) (j : Nat) : Nat := 96 * fld s (Reg.AUD_ATT_STEPj j) Fld.AUD_ATT_STEPj_DUR

/-- Is the present repetition the last one? -/
def toneLastRep (s : State) (r : ToneRec) : Bool :=
  let n := fld s Reg.AUD_ATT_CTRL Fld.AUD_ATT_CTRL_REPEAT
  n != 0 && decide (n ≤ r.rep + 1)

/-- The envelope of a frame of a step. -/
def toneEnvelope (s : State) (r : ToneRec) : Nat :=
  let steps := toneSteps s
  if toneFreq s r.step = 0 then 0
  else
    let after : Bool := if r.step = 0 then r.rep == 0 || toneFreq s (steps - 1) == 0 else toneFreq s (r.step - 1) == 0
    let before : Bool := if steps ≤ r.step + 1 then toneLastRep s r || toneFreq s 0 == 0 else toneFreq s (r.step + 1) == 0
    let up := if after then min r.frame 192 else 192
    let down := if before then min (toneFrames s r.step - 1 - r.frame) 192 else 192
    min up down

/-- The tone sample. -/
def toneSample (s : State) (phase e : Nat) : Int :=
  Int.tdiv (sat32 ((fld s Reg.AUD_ATT_LEVEL Fld.AUD_ATT_LEVEL_LEVEL : Int) * sineStep (phase / 2 ^ 22) * 2) * (e : Int)) 192

/-- The tone after a frame. -/
def toneNext (s : State) (r : ToneRec) (phase : Nat) : ToneRec :=
  match r.fall with
  | some n => { r with phase := phase, frame := r.frame + 1, fall := some (n - 1), done := decide (n ≤ 1) }
  | none =>
    if r.frame + 1 < toneFrames s r.step then { r with frame := r.frame + 1, phase := phase }
    else if r.step + 1 < toneSteps s then { r with step := r.step + 1, frame := 0, phase := 0 }
    else if toneLastRep s r then { r with done := true }
    else { r with step := 0, frame := 0, phase := 0, rep := r.rep + 1 }

/-- One frame of the tone. -/
def toneFrame (s : State) : State :=
  match s.aud.tone with
  | none => setAud (fun a => { a with toneNow := (0, 0) }) s
  | some r =>
    if r.done then setAud (fun a => { a with toneNow := (0, 0) }) s
    else
      let phase := (r.phase + (toneFreq s r.step * 2 ^ 32 + 48000) / 96000) % 2 ^ 32
      let e := match r.fall with | some n => n - 1 | none => toneEnvelope s r
      let a := if toneFreq s r.step = 0 then 0 else toneSample s phase e
      setAud (fun x => { x with toneNow := (a, e), tone := some (toneNext s r phase) }) s

/-- Does a START pass its check (R502)? -/
def toneOk (s : State) : Bool := (List.range (toneSteps s)).all (fun j => decide (384 ≤ toneFrames s j) && decide (toneFreq s j ≤ 20000))

end Sys2Proof.Machine
end

