-- ==== Sys2Proof/Machine/Audio.lean ====
section
/-!
DEFINITION. Audio.lean: frame boundaries, host streams, ports, sinks, the attention tone, headsets, the writeback (chapter 17).
-/

namespace Sys2Proof.Machine

open Sys2Proof

/-! ### Register writes take effect at a boundary (R485) -/

/-- The gain registers of a stream. -/
def streamGains (a : Nat) : List Nat := (List.range 8).map (Reg.AUD_Ss_GAINc a)

/-- The gain registers of an input, by its place from element 32. -/
def inputGains (i : Nat) : List Nat := (List.range 8).map (Reg.AUD_Ie_GAINc i)

/-- The check of R495 that a TDM format fails; 0 when every check passes. -/
def tdmCheck (w : Word) : Nat :=
  let slots := getF w Fld.AUD_TDMn_FMT_SLOTS + 1
  let sw := getF w Fld.AUD_TDMn_FMT_SLOT_W
  let pw := getF w Fld.AUD_TDMn_FMT_SAMPLE_W
  let r := getF w Fld.AUD_TDMn_FMT_RATE
  let d := slots * widthBits sw * (48000 * 2 ^ r)
  if getF w Fld.AUD_TDMn_FMT_MODE < 2 ∧ slots ≠ 2 then 1
  else if sw < pw ∨ sw = 3 ∨ pw = 3 then 2
  else if getB w Fld.AUD_TDMn_FMT_MASTER ∧ (2 < r ∨ 98304000 % d ≠ 0 ∨ 98304000 / d < 2) then 3
  else 0

/-- A write of AUD_TDMn_FMT (R495): every field above EN while EN is 0. -/
def writeTdm (n : Nat) (w : Word) (s : State) : State :=
  if tdmOn s n then (if getB w Fld.AUD_TDMn_FMT_EN then s else wrB (Reg.AUD_TDMn_FMT n) Fld.AUD_TDMn_FMT_EN false s)
  else
    let s := wrB (Reg.AUD_TDMn_FMT n) Fld.AUD_TDMn_FMT_EN false (plainWrite (Reg.AUD_TDMn_FMT n) w s)
    if getB w Fld.AUD_TDMn_FMT_EN then
      let w := rd s (Reg.AUD_TDMn_FMT n)
      let e := tdmCheck w
      let s := wrF (Reg.AUD_TDMn_FMT_ERR n) Fld.AUD_TDMn_FMT_ERR_CFG_ERR e s
      if e = 0 then
        let s := wrB (Reg.AUD_TDMn_FMT n) Fld.AUD_TDMn_FMT_EN true s
        if getB w Fld.AUD_TDMn_FMT_MASTER then wrF (Reg.AUD_TDMn_PSTAT n) Fld.AUD_TDMn_PSTAT_RATE (48000 * 2 ^ getF w Fld.AUD_TDMn_FMT_RATE) s else s
      else s
    else s

/-- A write of AUD_ATT_CTRL (R502): START begins the sequence when its check passes, STOP ends it with the envelope fall. -/
def writeAtt (w : Word) (s : State) : State :=
  let s := plainWrite Reg.AUD_ATT_CTRL w s
  let s :=
    if getB w Fld.AUD_ATT_CTRL_START then
      (if toneOk s then wrB Reg.AUD_ATT_STAT Fld.AUD_ATT_STAT_SOUNDING true (setAud (fun a => { a with tone := some {}, toneNow := (0, 0) }) s)
       else wrB Reg.AUD_ATT_STAT Fld.AUD_ATT_STAT_CFG_ERR true s)
    else s
  if getB w Fld.AUD_ATT_CTRL_STOP then
    (match s.aud.tone with
     | some r => if r.done then s else setAud (fun a => { a with tone := some { r with fall := some (match r.fall with | some n => n | none => a.toneNow.2), done := a.toneNow.2 == 0 } }) s
     | none => s)
  else s

/-- WB_BASE. -/
def wbBase (s : State) : Nat := fld s Reg.AUD_WB_BASE_HI Fld.AUD_WB_BASE_HI_BASE_HI * 2 ^ 32 + fld s Reg.AUD_WB_BASE_LO Fld.AUD_WB_BASE_LO_BASE_LO * 64
/-- WB_LEN. -/
def wbLen (s : State) : Nat := (rd s Reg.AUD_WB_LEN).toNat

/-- Does a range lie wholly in one DRAM carve-out? -/
def inOneCarveout (s : State) (a n : Nat) : Bool :=
  (List.range 16).any (fun i =>
    let b := fld s (Reg.DRC_COn_BASE i) Fld.DRC_COn_BASE_BASE * 0x200000
    let z := fld s (Reg.DRC_COn_SIZE i) Fld.DRC_COn_SIZE_SIZE * 0x200000
    decide (b ≤ a) && decide (a + n ≤ b + z))

/-- The check that an enable of a sink fails (Table 17.12, R509): 1 THR, 2 the writeback ring, 3 its DRB; 0 when every check passes. -/
def sinkCheck (s : State) (k : Nat) : Nat :=
  let ch := fld s (Reg.AUD_Kk_CTRL 10) Fld.AUD_Kk_CTRL_WB_CH
  let b := wbBase s
  let n := wbLen s
  if fld s (Reg.AUD_Kk_LIM k) Fld.AUD_Kk_LIM_THR = 0 then 1
  else if k ≠ 10 then 0
  else if ch = 0 ∨ 8 < ch ∨ n % (256 * ch) ≠ 0 ∨ n < 4096 ∨
      ¬((vatBase ≤ b ∧ b + n ≤ vatBase + vatSize) ∨ inOneCarveout s b n = true) then 2
  else if b < vatBase ∧ poolFree s .reserve .drb < streamDemand ch then 3
  else 0

/-- ENABLE of a sink is written (R504, R509, R510): a disable of a sink that holds the floor waits for the end of the tone. -/
def writeSinkEnable (k : Nat) (on : Bool) (s : State) : State :=
  let old := flg s (Reg.AUD_Kk_CTRL k) Fld.AUD_Kk_CTRL_ENABLE
  if on then
    let s := setAud (fun a => { a with heldOff := a.heldOff.filter (fun x => x != k) }) s
    if old then s
    else
      let e := sinkCheck s k
      let s := wrF (Reg.AUD_Kk_STAT k) Fld.AUD_Kk_STAT_CFG_ERR e s
      if e = 0 then
        let s := wrB (Reg.AUD_Kk_CTRL k) Fld.AUD_Kk_CTRL_ENABLE true s
        if k = 10 then wr Reg.AUD_WB_INDEX (BitVec.ofNat 32 s.aud.index) (wr Reg.AUD_WB_WPTR 0 (setAud (fun a => { a with wptr := 0 }) s)) else s
      else s
  else if toneOn s k then
    let s := wrB (Reg.AUD_Kk_STAT k) Fld.AUD_Kk_STAT_ATT_HELD true s
    if old then setAud (fun a => { a with heldOff := if a.heldOff.contains k then a.heldOff else a.heldOff ++ [k] }) s else s
  else wrB (Reg.AUD_Kk_CTRL k) Fld.AUD_Kk_CTRL_ENABLE false s

/-- A write of a sink's AUD_Kk_CTRL. WB_CH stands in sink 10 alone. -/
def writeSinkCtrl (k : Nat) (w : Word) (s : State) : State :=
  let s := regain [Reg.AUD_Kk_GAIN k] (wrB (Reg.AUD_Kk_CTRL k) Fld.AUD_Kk_CTRL_MUTE (getB w Fld.AUD_Kk_CTRL_MUTE)) s
  let s := if k = 10 then wrF (Reg.AUD_Kk_CTRL k) Fld.AUD_Kk_CTRL_WB_CH (getF w Fld.AUD_Kk_CTRL_WB_CH) s else s
  writeSinkEnable k (getB w Fld.AUD_Kk_CTRL_ENABLE) s

/-- A write of an input's AUD_Ie_CTRL. A TDM input has no preamplifier. -/
def writeInputCtrl (i : Nat) (w : Word) (s : State) : State :=
  let w := if i < 8 then setF w Fld.AUD_Ie_CTRL_MIC_GAIN 0 else w
  let s := regain (inputGains i) (plainWrite (Reg.AUD_Ie_CTRL i) w) s
  if getB w Fld.AUD_Ie_CTRL_ENABLE then s else setAud (fun a => { a with delay := tput [] a.delay (32 + i) [] }) s

/-- One write that was visible before the boundary takes effect. -/
def applyAud (s : State) (e : Nat × Word) : State :=
  let off := e.1
  let w := e.2
  if 0xF01000 ≤ off ∧ off < 0xF05000 then
    (let a := (off - 0xF01000) / 0x200
     let o := off % 0x200
     if o = 8 then regain (streamGains a) (plainWrite off w) s
     else if 0x10 ≤ o ∧ o < 0x30 then regain [off] (plainWrite off w) s
     else plainWrite off w s)
  else if 0xF05000 ≤ off ∧ off < 0xF05280 then
    (let o := off % 0x40
     if o = 0 then writeInputCtrl ((off - 0xF05000) / 0x40) w s
     else if 8 ≤ o ∧ o < 0x28 then regain [off] (plainWrite off w) s
     else plainWrite off w s)
  else if 0xF05400 ≤ off ∧ off < 0xF05480 then (if off % 0x10 = 0 then writeTdm ((off - 0xF05400) / 0x10) w s else s)
  else if off = Reg.AUD_ATT_CTRL then writeAtt w s
  else if 0xF06000 ≤ off ∧ off < 0xF08C00 then
    (let o := (off - 0xF06000) % 0x400
     if o = 0 then writeSinkCtrl ((off - 0xF06000) / 0x400) w s
     else if o = 4 ∨ 0x200 ≤ o then regain [off] (plainWrite off w) s
     else plainWrite off w s)
  else if 0xF09400 ≤ off ∧ off < 0xF0940C then (if flg s (Reg.AUD_Kk_CTRL 10) Fld.AUD_Kk_CTRL_ENABLE then s else plainWrite off w s)
  else plainWrite off w s

/-- A write to an AUD register waits for its boundary (R485). -/
def queueAud (off : Nat) (w : Word) (s : State) : State := setAud (fun a => { a with writes := a.writes ++ [(off, w)] }) s

/-! ### Host streams (R491 to R493) -/

/-- The number of the first boundary at or after a tick (R484). -/
def boundaryAt (s : State) (x : Tick) : Nat := ceilDiv (3 * x - 3 * s.aud.origin.getD x) 6250

/-- The boundary b of a buffer (R491). -/
def bufStart (s : State) (b : AudBuf) : Nat := boundaryAt s b.s0

/-- The first boundary at or after a buffer's end E. -/
def bufEnd (s : State) (b : AudBuf) : Nat := bufStart s b + ceilDiv (3 * b.dur) 6250

/-- A buffer's first sample enters the mixer: its contract is delivered (R491). -/
def deliverBuf (a : Nat) (b : AudBuf) (s : State) : State :=
  finish b.fn b.id 0 s.gtb 0 (setStream a (fun r => { r with bufs := r.bufs.map (fun x => if x.fn == b.fn && x.id == b.id then { x with begun := true } else x) }) s)

/-- The bytes of the next frame of a buffer. A fetch that faults reads zero and is counted for its MEM_FAULT record (R238). -/
def frameBytesOf (b : AudBuf) (s : State) : List Byte × State :=
  let at_ := b.addr + b.pos * b.frameBytes
  if b.holm then (rdDpas s at_ b.frameBytes, s) else (rdIovas s b.fn at_ b.frameBytes, noteFault b.fn 5 false at_ b.frameBytes s)

/-- Take one source frame of a stream (R492): none when no joined buffer holds one; the run then ends. -/
def takeFrame (a : Nat) (missed : Bool) (s : State) : Option (List Int) × State :=
  let fmt := fld s (Reg.AUD_Ss_CFG a) Fld.AUD_Ss_CFG_FORMAT
  match (streamOf s a).bufs with
  | [] => (none, setStream a (fun r => { r with run := none }) s)
  | b :: rest =>
    let (bs, s) := frameBytesOf b s
    let z := sampleBytes fmt
    let f := (List.range (b.frameBytes / z)).map (fun c => if missed then 0 else streamSample fmt (slice bs (z * c) z))
    let last := decide (b.frames ≤ b.pos + 1)
    let s := if last && !b.begun then deliverBuf a b s else s
    let joined : Bool := match rest with | n :: _ => bufStart s n == bufEnd s b | [] => false
    let go (r : StreamRec) : StreamRec :=
      if last then { r with bufs := rest, used := (r.used + 1) % 2 ^ 32, run := if joined then r.run.map (fun x => (x.1, x.2 + 1)) else none }
      else { r with bufs := { b with pos := b.pos + 1 } :: rest, used := (r.used + 1) % 2 ^ 32, run := r.run.map (fun x => (x.1, x.2 + 1)) }
    let s := if missed then wrF (Reg.AUD_Ss_STAT a) Fld.AUD_Ss_STAT_MISSED (fld s (Reg.AUD_Ss_STAT a) Fld.AUD_Ss_STAT_MISSED + 1) s else s
    (some f, setStream a go s)

/-- Put a frame at the head of an element's converter. -/
def pushFrame (e : Nat) (f : List Int) (s : State) : State := setAud (fun a => { a with delay := tput [] a.delay e ((f :: tget [] a.delay e).take 17) }) s

/-- `n` samples whose value spec/ leaves to the converters. -/
def freeFrame (n : Nat) (s : State) : List Int × State :=
  ((List.range n).map (fun i => signedOf 32 (Config.analogue (s.drawn + i))), { s with drawn := s.drawn + n })

/-- A stream makes the source frames of one boundary (R488, R492). A 96 kHz stream passes unchanged; what the converter makes of another rate is a free value. -/
def streamBoundary (missed : Nat) (s : State) (a : Nat) : State :=
  if streamIsOpen s a = false then s
  else
    let m := s.aud.index
    let due := (streamOf s a).bufs.filter (fun b => !b.begun && decide (bufStart s b ≤ m))
    let s := due.foldl (fun (s : State) b => deliverBuf a b s) s
    let s := match (streamOf s a).run, (streamOf s a).bufs with
      | none, b :: _ => if bufStart s b ≤ m then setStream a (fun r => { r with run := some (m, 0) }) s else s
      | _, _ => s
    let want := match (streamOf s a).run with | some (b0, taken) => (m - b0) * streamRate s a / 96000 + 1 - taken | none => 0
    let (f, s) := (List.range want).foldl (fun (x : Option (List Int) × State) _ =>
      if (streamOf x.2 a).run.isSome then (let y := takeFrame a (missed.testBit a) x.2; (y.1.orElse (fun _ => x.1), y.2)) else x) (none, s)
    let s := wr (Reg.AUD_Ss_INDEX a) (BitVec.ofNat 32 m) (wr (Reg.AUD_Ss_FRAMES a) (BitVec.ofNat 32 (streamOf s a).used) s)
    let ch := fld s (Reg.AUD_Ss_CFG a) Fld.AUD_Ss_CFG_CHANNELS
    if streamRate s a = 96000 then pushFrame a (f.getD (List.replicate ch 0)) s
    else if (streamOf s a).used = 0 then pushFrame a (List.replicate ch 0) s
    else (let (v, s) := freeFrame ch s; pushFrame a v s)

/-! ### Inputs and sinks -/

/-- One boundary of an input (R487, R488, R496, R507): `ext` holds what its port brought, by place from element 32. The sample of a master port at 96 kHz and of a microphone is exact. -/
def inputBoundary (ext : List (List Word)) (s : State) (i : Nat) : State :=
  if flg s (Reg.AUD_Ie_CTRL i) Fld.AUD_Ie_CTRL_ENABLE = false then s
  else
    let got (c : Nat) : Nat := ((ext.getD i []).getD c 0).toNat
    if i < 8 then
      let f := rd s (Reg.AUD_TDMn_FMT i)
      let w := widthBits (getF f Fld.AUD_TDMn_FMT_SAMPLE_W)
      if tdmOn s i = false ∨ flg s (Reg.AUD_Ie_STAT i) Fld.AUD_Ie_STAT_NO_CLOCK then pushFrame (32 + i) [] s
      else if getB f Fld.AUD_TDMn_FMT_MASTER ∧ getF f Fld.AUD_TDMn_FMT_RATE = 1 then
        pushFrame (32 + i) ((List.range (tdmSlots s i)).map (fun c => signedOf w (got c) * (2 : Int) ^ (32 - w))) s
      else (let (v, s) := freeFrame (tdmSlots s i) s; pushFrame (32 + i) v s)
    else
      let st := rd s (Reg.AUD_HSn_STAT (i - 8))
      let ty := getF st Fld.AUD_HSn_STAT_TYPE
      pushFrame (32 + i) [if (ty = 2 ∨ ty = 3) ∧ getF st Fld.AUD_HSn_STAT_BUTTON = 7 then signedOf 24 (got 0) * 256 else 0] s

/-- RUNNING and NO_PORT of a sink (R504, R510). -/
def refreshSink (s : State) (k : Nat) : State :=
  let run := flg s (Reg.AUD_Kk_CTRL k) Fld.AUD_Kk_CTRL_ENABLE || toneOn s k
  let s := if run == flg s (Reg.AUD_Kk_STAT k) Fld.AUD_Kk_STAT_RUNNING then s
    else wrB (Reg.AUD_Kk_STAT k) Fld.AUD_Kk_STAT_LIMITING false (wrB (Reg.AUD_Kk_STAT k) Fld.AUD_Kk_STAT_RUNNING run (setAud (fun a => { a with sinks := tput {} a.sinks k {} }) s))
  wrB (Reg.AUD_Kk_STAT k) Fld.AUD_Kk_STAT_NO_PORT (run && decide (k < 8) && !tdmOn s k) s

/-- One frame of a sink: mixing, limiter, adder, width, and the two frames of output (R486, R499 to R503). A sink that only the tone runs has a Mainland mix of zero (R504). -/
def sinkFrame (s : State) (k : Nat) : State :=
  if flg s (Reg.AUD_Kk_STAT k) Fld.AUD_Kk_STAT_RUNNING = false then s
  else
    let n := sinkChannels s k
    let mixed := if flg s (Reg.AUD_Kk_CTRL k) Fld.AUD_Kk_CTRL_ENABLE then (List.range n).map (mixChannel s k) else List.replicate n (0, false, false)
    let r : SinkRec := tget {} s.aud.sinks k
    let zs := (mixed.map (fun x => x.1) :: r.zs).take 49
    let g := limitGain s k zs r.g
    let ys := (List.range n).map (fun c => limitSample (limitT s k) g ((zs.getD 48 []).getD c 0))
    let out := (ys.map (fun y => toWidth (sinkWidth s k) (addTone s k y.1)) :: r.out).take 3
    let w := rd s (Reg.AUD_Kk_STAT k)
    let sat := (mixed.filter (fun x => x.2.2)).length
    let w := setF w Fld.AUD_Kk_STAT_SAT (min 15 (getF w Fld.AUD_Kk_STAT_SAT + sat))
    let w := setF w Fld.AUD_Kk_STAT_CLAMPED (getF w Fld.AUD_Kk_STAT_CLAMPED + (ys.filter (fun y => y.2)).length)
    let w := setB w Fld.AUD_Kk_STAT_LIMITING (decide (g < 1073741824))
    let w := if mixed.any (fun x => x.2.1) then setB w Fld.AUD_Kk_STAT_ROUTE_DENIED true else w
    let rec_ : SinkRec := { zs := zs, g := g, out := out, emitted := if getB w Fld.AUD_Kk_STAT_NO_PORT then [] else out.getD 2 [] }
    wr (Reg.AUD_Kk_STAT k) w (setAud (fun a => { a with sinks := tput {} a.sinks k rec_ }) s)

/-- The writeback stores the frame that left (R509). -/
def writebackFrame (s : State) : State :=
  if flg s (Reg.AUD_Kk_CTRL 10) Fld.AUD_Kk_CTRL_ENABLE && decide (0 < wbLen s) then
    (let e := (tget {} s.aud.sinks 10).emitted
     let bs := (List.range (sinkChannels s 10)).flatMap (fun c => le 4 (toTwos 32 (e.getD c 0)))
     let p := s.aud.wptr
     let s := wrDpas (wbBase s + p) bs s
     let q := (p + bs.length) % wbLen s
     wr Reg.AUD_WB_INDEX (BitVec.ofNat 32 (s.aud.index + 1)) (wr Reg.AUD_WB_WPTR (BitVec.ofNat 32 q) (setAud (fun a => { a with wptr := q }) s)))
  else s

/-- The number of the boundary that comes: the first one sets ORIGIN (R484). -/
def nextBoundary (s : State) : State :=
  let s := match s.aud.origin with
    | none => setAud (fun a => { a with origin := some s.gtb, index := 0 }) s
    | some _ => setAud (fun a => { a with index := a.index + 1 }) s
  let o := s.aud.origin.getD 0
  wr Reg.AUD_FRM_INDEX (BitVec.ofNat 32 s.aud.index) (wr Reg.AUD_FRM_ORIGIN_HI (BitVec.ofNat 32 (o / 2 ^ 32)) (wr Reg.AUD_FRM_ORIGIN_LO (BitVec.ofNat 32 o) s))

/-- Has the next boundary come: the island runs, and boundary m falls at ORIGIN + m × 6,250 / 3? -/
def boundaryDue (s : State) : Bool :=
  gateOn s 6 && fld s (Reg.CLK_ISLn 6) Fld.CLK_ISLn_SRC != 0 &&
  (match s.aud.origin with | none => isGood s 6 | some o => decide (3 * o + (s.aud.index + 1) * 6250 ≤ 3 * s.gtb + 2))

/-- Meaning of AUDIO_FRAME_BOUNDARY (R484 to R503, R509): ramps make a frame, writes take effect together, the tone, the sources and every sink make a frame. `ext` is what the ports bring, by input from
element 32 and channel; `missed` has a bit for each stream whose next frame has not arrived (R493). -/
def execAudioFrameBoundary (t : Tick) (ext : List (List Word)) (missed : BitVec 32) (s : State) : Out :=
  let s := advance t s
  if boundaryDue s then
    (let s := setAud stepGains (nextBoundary s)
     let s := s.aud.writes.foldl applyAud (setAud (fun a => { a with writes := [] }) s)
     let s := toneFrame ((List.range 11).foldl refreshSink s)
     let s := (List.range 10).foldl (inputBoundary ext) ((List.range 32).foldl (streamBoundary missed.toNat) s)
     .next (writebackFrame ((List.range 11).foldl sinkFrame s)))
  else .next s

/-- Meaning of ATTENTION_END (R504): the sequence has ended; SOUNDING falls, and writes that were held take effect. -/
def execAttentionEnd (t : Tick) (s : State) : Out :=
  let s := advance t s
  match s.aud.tone with
  | some r =>
    if r.done then
      (let held := s.aud.heldOff
       let s := wrB Reg.AUD_ATT_STAT Fld.AUD_ATT_STAT_SOUNDING false (setAud (fun a => { a with tone := none, toneNow := (0, 0), heldOff := [] }) s)
       let s := held.foldl (fun (s : State) (k : Nat) => wrB (Reg.AUD_Kk_CTRL k) Fld.AUD_Kk_CTRL_ENABLE false s) s
       .next ((List.range 11).foldl refreshSink s))
    else .next s
  | none => .next s

/-! ### TDM clocks (R496) -/

/-- Meaning of TDM_CLOCK_LOSS (R496): a slave port has not seen FSYNC for 4 frames. -/
def execTdmClockLoss (t : Tick) (port : BitVec 3) (s : State) : Out :=
  let s := advance t s
  let n := port.toNat
  let f := rd s (Reg.AUD_TDMn_FMT n)
  if getB f Fld.AUD_TDMn_FMT_EN && !getB f Fld.AUD_TDMn_FMT_MASTER && !flg s (Reg.AUD_Ie_STAT n) Fld.AUD_Ie_STAT_NO_CLOCK then
    (let w := rd s (Reg.AUD_Ie_STAT n)
     let w := setF w Fld.AUD_Ie_STAT_CLOCK_LOSSES (getF w Fld.AUD_Ie_STAT_CLOCK_LOSSES + 1)
     .next (wr (Reg.AUD_Ie_STAT n) (setB w Fld.AUD_Ie_STAT_NO_CLOCK true) s))
  else .next s

/-- Meaning of TDM_CLOCK_RETURN (R496): 8 consecutive frames at a stable rate, which AUD_TDMn_PSTAT shows in hertz. -/
def execTdmClockReturn (t : Tick) (port : BitVec 3) (rate : BitVec 18) (s : State) : Out :=
  let s := advance t s
  let n := port.toNat
  let f := rd s (Reg.AUD_TDMn_FMT n)
  if getB f Fld.AUD_TDMn_FMT_EN && !getB f Fld.AUD_TDMn_FMT_MASTER then
    .next (wrB (Reg.AUD_Ie_STAT n) Fld.AUD_Ie_STAT_NO_CLOCK false (wrF (Reg.AUD_TDMn_PSTAT n) Fld.AUD_TDMn_PSTAT_RATE rate.toNat s))
  else .next s

/-! ### Opening, closing, queueing (R489 to R494) -/

/-- The session's holder (R368). -/
def Ctx.holder (c : Ctx) : Holder := ⟨c.holm, if c.holm then 0 else c.fn⟩

/-- The pool of a holder. -/
def holderPool (h : Holder) : Pool := if h.holm then .reserve else .share h.fn

/-- STREAM_OPEN (Table 3.6). -/
def opStreamOpen : OpInfo := ⟨0x0703, (2, 0), .any, none, false, .fixed 8, false⟩

/-- Step 13 of STREAM_OPEN (R489). A stream of a gated audio island cannot be opened (R546). DEDUCED. -/
def doStreamOpen (c : Ctx) (s : State) : Ans :=
  let ch := leAt c.pay 0 1
  let fmt := leAt c.pay 1 1
  let rate := leAt c.pay 4 4
  if fnQuiet s c.fn then .reply (stOnly .functionQuiesced) s
  else if ch = 0 ∨ 8 < ch then .reply (stOff .paramInvalid 0) s
  else if 3 < fmt then .reply (stOff .paramInvalid 1) s
  else if leAt c.pay 2 2 ≠ 0 then .reply (stOff .reservedSet 2) s
  else if rate < 8000 ∨ 192000 < rate then .reply (stOff .paramInvalid 4) s
  else match (List.range 32).find? (fun a => holderOf s (obj 6 a) == some c.holder && !streamIsOpen s a) with
    | none => .reply (stOnly .poolExhausted) s
    | some a =>
      if poolFree s (holderPool c.holder) .drb < streamDemand ch then .reply (stOnly .budgetExceeded) s
      else if gateOn s 6 = false then .reply (stOnly .blockGated) s
      else
        let s := (streamGains a).foldl (fun (s : State) (o : Nat) => wr o (resetWordAt o) (setAud (fun x => { x with gains := tput none x.gains o none }) s)) s
        let s := setStream a (fun _ => {}) (setAud (fun x => { x with delay := tput [] x.delay a [] }) s)
        let w := setB (setF (setF 0 Fld.AUD_Ss_CFG_CHANNELS ch) Fld.AUD_Ss_CFG_FORMAT fmt) Fld.AUD_Ss_CFG_OPEN true
        .reply (stateReply a) (wr (Reg.AUD_Ss_RATE a) (BitVec.ofNat 32 rate) (wr (Reg.AUD_Ss_CFG a) w s))

/-- Meaning of STREAM_OPEN (R489). -/
def execStreamOpen (t : Tick) (q : Request) (s : State) : Out := gcp opStreamOpen t q doStreamOpen s

/-- A stream returns to its reset values and is closed; writes that wait for its registers go. -/
def streamClear (a : Nat) (s : State) : State :=
  let lo := 0xF01000 + 0x200 * a
  let go (x : AudioState) : AudioState :=
    { x with streams := tput {} x.streams a {}, delay := tput [] x.delay a [], gains := tclear x.gains lo (lo + 0x200),
             writes := x.writes.filter (fun e => !(decide (lo ≤ e.1) && decide (e.1 < lo + 0x200))) }
  resetRegs lo (lo + 0x200) (setAud go s)

/-- Close a stream (R494): buffers whose first sample has not entered the mixer are cancelled. -/
def streamClose (a : Nat) (s : State) : State :=
  let bs := (streamOf s a).bufs.filter (fun b => !b.begun)
  streamClear a (bs.foldl (fun (s : State) (b : AudBuf) => match contractOf s b.fn b.id with | some c => cancelContract c s.gtb s | none => s) s)

/-- A buffer whose contract is cancelled leaves its stream. -/
def withdrawBuffer (fn id : Nat) (s : State) : State :=
  (List.range 32).foldl (fun (s : State) a =>
    if (streamOf s a).bufs.any (fun b => b.fn == fn && b.id == id && !b.begun) then
      setStream a (fun r => { r with bufs := r.bufs.filter (fun b => !(b.fn == fn && b.id == id && !b.begun)) }) s
    else s) s

/-- STREAM_CLOSE (Table 3.6). -/
def opStreamClose : OpInfo := ⟨0x0704, (2, 0), .any, none, false, .fixed 4, false⟩

/-- Steps 12 and 13 of STREAM_CLOSE (R494). -/
def doStreamClose (c : Ctx) (s : State) : Ans :=
  let a := leAt c.pay 0 1
  if leAt c.pay 1 3 ≠ 0 then .reply (stOff .reservedSet 1) s
  else if 31 < a ∨ streamIsOpen s a = false ∨ holderOf s (obj 6 a) ≠ some c.holder then .reply (stOff .paramInvalid 0) s
  else .reply (stDone []) (streamClose a s)

/-- Meaning of STREAM_CLOSE (R494). -/
def execStreamClose (t : Tick) (q : Request) (s : State) : Out := gcp opStreamClose t q doStreamClose s

/-- AUDIO_QUEUE (Table 3.6). -/
def opAudioQueue : OpInfo := ⟨0x0705, (2, 0), .any, some .audio, false, .fixed 12, false⟩

/-- The frame size of a stream (R489). -/
def streamFrameBytes (s : State) (a : Nat) : Nat :=
  fld s (Reg.AUD_Ss_CFG a) Fld.AUD_Ss_CFG_CHANNELS * sampleBytes (fld s (Reg.AUD_Ss_CFG a) Fld.AUD_Ss_CFG_FORMAT)

/-- The checks of Table 17.3; the TARGET_CROSS entry of step 3 is left by the caller. -/
def audioCheck (s : State) (c : Ctx) : Option (List Byte) :=
  let b := parseBlock c.pay
  let a := b.target
  let addr := leAt c.pay 0x30 8
  let n := leAt c.pay 0x38 4
  let f := streamFrameBytes s a
  if b.periodic then some (stOnly .costInvalid)
  else if 31 < a then some (stOff .paramInvalid 4)
  else if holdsTarget s c (obj 6 a) = false then some (stOff .notGranted 4)
  else if streamIsOpen s a = false then some (stOff .paramInvalid 4)
  else if addr % 4 ≠ 0 then some (stOff .paramInvalid 0x30)
  else if n = 0 ∨ n % f ≠ 0 ∨ 0x1000000 < n then some (stOff .paramInvalid 0x38)
  else if (parseCost .audio c.pay).amount ≠ n / f then some (stOnly .costInvalid)
  else if jobRange s c.holm c.fn false addr n = false then some (stOff .addressFault 0x30)
  else none

/-- ⌈b⌉ of an AUDIO item with effective start `s0` (R491): the tick at or after its boundary; before the first boundary s₀ itself. -/
def boundaryTick (s : State) (s0 : Tick) : Nat :=
  match s.aud.origin with
  | none => s0
  | some o => ceilDiv (3 * o + 6250 * boundaryAt s s0) 3

/-- ⌈E⌉ of a buffer (R491). -/
def bufEndTick (s : State) (b : AudBuf) : Nat := boundaryTick s b.s0 + b.dur

/-- What AUDIO_QUEUE asks of admission: a queue of 4, no start before the end of the buffer ahead (R77), the window of R491. A RELEASE of 0 stands for s₀. -/
def audioAsk (s : State) (c : Ctx) : AskFor :=
  let a := baseAsk c .audio s
  let s0 := startOf s a 0
  let bs := (streamOf s a.blk.target).bufs
  let early : Bool := match bs.getLast? with | some b => decide ((if a.blk.release = 0 then s0 else a.blk.release.toNat) < bufEndTick s b) | none => false
  { a with objRes := 8, full := decide (4 ≤ bs.length) || early, minW := max 2084 (boundaryTick s s0 + 7 - s0) }

/-- Step 13 of AUDIO_QUEUE (R490). -/
def doAudioQueue (c : Ctx) (s : State) : Ans :=
  match contractGuard s c.fn [] with
  | some st => .reply (stOnly st) s
  | none =>
    let a := (parseBlock c.pay).target
    match audioCheck s c with
    | some p => .reply p (if p = stOff .notGranted 4 then (notGrantedTarget c (obj 6 a) 4 s).2 else s)
    | none =>
      match contractGuard s c.fn (gatesNeeded .audio a) with
      | some st => .reply (stOnly st) s
      | none =>
        let (p, s', k) := admitReply (audioAsk s c) s
        match k with
        | none => .reply p s'
        | some k =>
          let n := (parseCost .audio c.pay).amount
          let b : AudBuf := { fn := k.fn, id := k.id, holm := k.holm, addr := leAt c.pay 0x30 8, frames := n, frameBytes := streamFrameBytes s a, s0 := k.s0,
                              dur := ceilDiv (n * 200000000) (streamRate s a) }
          .reply p (setStream a (fun r => { r with bufs := r.bufs ++ [b] }) s')

/-- Meaning of AUDIO_QUEUE (R490). -/
def execAudioQueue (t : Tick) (q : Request) (s : State) : Out := gcp opAudioQueue t q doAudioQueue s

/-! ### Headsets (R505 to R508) -/

/-- A headset port. -/
def hsOf (s : State) (n : Nat) : HsRec := tget {} s.aud.hs n

/-- Change a headset port. -/
def setHs (n : Nat) (f : HsRec → HsRec) (s : State) : State := setAud (fun a => { a with hs := tmod {} a.hs n f }) s

/-- A HEADSET_EVENT record to the owner of object 72 + n (R508). -/
def hsEvent (n cause detail : Nat) (stamp : Tick) (s : State) : State :=
  let r := le 2 0x0701 ++ le 2 0 ++ le 1 n ++ le 1 cause ++ le 1 detail ++ le 1 0 ++ le 8 stamp ++ le 16 0
  match holderOf s (obj 6 (72 + n)) with
  | some h => if h.holm then post (fld s Reg.AUD_CTRL Fld.AUD_CTRL_EVENT_PF) true r s else post h.fn false r s
  | none => s

/-- Set the fields of AUD_HSn_STAT. -/
def setHsStat (n : Nat) (plugged measuring : Bool) (ty button : Nat) (s : State) : State :=
  wr (Reg.AUD_HSn_STAT n) (setB (setB (setF (setF 0 Fld.AUD_HSn_STAT_TYPE ty) Fld.AUD_HSn_STAT_BUTTON button) Fld.AUD_HSn_STAT_MEASURING measuring) Fld.AUD_HSn_STAT_PLUGGED plugged) s

/-- Does a headset port run: its island and its codec are ON? -/
def hsLive (s : State) (n : Nat) : Bool := gateOn s (0x48 + n)

/-- Meaning of HEADSET_INSERT_CONFIRM (R505): `since` is the stamp of the first sample that shows the insertion; type measurement starts. -/
def execHeadsetInsertConfirm (t : Tick) (port : BitVec 1) (since : Tick) (s : State) : Out :=
  let s := advance t s
  let n := port.toNat
  let plugged := flg s (Reg.AUD_HSn_STAT n) Fld.AUD_HSn_STAT_PLUGGED
  if hsLive s n && decide (since + 200000 * fld s (Reg.AUD_HSn_DET n) Fld.AUD_HSn_DET_DET_DEB ≤ s.gtb) && (!plugged || (hsOf s n).removing.isSome) then
    .next (setHsStat n true true 0 7 (setHs n (fun h => { h with since := since, removing := none }) s))
  else .next s

/-- The class of a contact's resistance in ohms (R506): 0 ground, 1 microphone, 2 open, 3 none of them. -/
def contactClass (r : Nat) : Nat := if r < 100 then 0 else if r < 600 then 3 else if r ≤ 20000 then 1 else 2

/-- The type of Table 17.4. -/
def headsetType (ring2 sleeve : Nat) : Nat :=
  match contactClass ring2, contactClass sleeve with
  | 0, 0 => 1
  | 0, 1 => 2
  | 1, 0 => 3
  | _, _ => 4

/-- Meaning of HEADSET_TYPE_MEASURED (R506): the resistances of the two contacts in ohms. -/
def execHeadsetTypeMeasured (t : Tick) (port : BitVec 1) (ring2 sleeve : BitVec 24) (s : State) : Out :=
  let s := advance t s
  let n := port.toNat
  if hsLive s n && flg s (Reg.AUD_HSn_STAT n) Fld.AUD_HSn_STAT_MEASURING then
    (let ty := headsetType ring2.toNat sleeve.toNat
     .next (hsEvent n 1 ty (hsOf s n).since (setHsStat n true false ty 7 s)))
  else .next s

/-- Meaning of HEADSET_REMOVAL (R505, Table 17.6): a sample at `since` shows removal: outputs into their clamp, switches open, a measurement is abandoned; once the level has held, removal is confirmed. -/
def execHeadsetRemoval (t : Tick) (port : BitVec 1) (since : Tick) (s : State) : Out :=
  let s := advance t s
  let n := port.toNat
  if hsLive s n && flg s (Reg.AUD_HSn_STAT n) Fld.AUD_HSn_STAT_PLUGGED then
    (let measuring := flg s (Reg.AUD_HSn_STAT n) Fld.AUD_HSn_STAT_MEASURING
     let s := setHs n (fun h => { h with removing := some since }) (setHsStat n true false 0 7 s)
     if since + 200000 * fld s (Reg.AUD_HSn_DET n) Fld.AUD_HSn_DET_DET_DEB ≤ s.gtb then
       .next (let s := setHs n (fun h => { h with removing := none }) (setHsStat n false false 0 7 s)
              if measuring then s else hsEvent n 2 0 since s)
     else .next s)
  else .next s

/-- The button band of a resistance in ohms; 7 is no button (R507). -/
def buttonBand (s : State) (n r : Nat) : Nat :=
  let w := rd s (Reg.AUD_HSn_BTN n)
  if r ≤ 4 * getF w Fld.AUD_HSn_BTN_BTN0_MAX then 0
  else if r ≤ 4 * getF w Fld.AUD_HSn_BTN_BTN1_MAX then 1
  else if r ≤ 4 * getF w Fld.AUD_HSn_BTN_BTN2_MAX then 2
  else if r ≤ 4 * getF w Fld.AUD_HSn_BTN_BTN3_MAX then 3
  else 7

/-- Meaning of HEADSET_BUTTON_CONFIRM (R507): a resistance in a band has held since `since`; a change of band is a release and then a press. -/
def execHeadsetButtonConfirm (t : Tick) (port : BitVec 1) (ohms : BitVec 24) (since : Tick) (s : State) : Out :=
  let s := advance t s
  let n := port.toNat
  let st := rd s (Reg.AUD_HSn_STAT n)
  let ty := getF st Fld.AUD_HSn_STAT_TYPE
  let old := getF st Fld.AUD_HSn_STAT_BUTTON
  let b := buttonBand s n ohms.toNat
  if hsLive s n && (ty == 2 || ty == 3) && b != old && decide (since + 200000 * fld s (Reg.AUD_HSn_DET n) Fld.AUD_HSn_DET_BTN_DEB ≤ s.gtb) then
    (let s := if old = 7 then s else hsEvent n 4 old since s
     let s := wrF (Reg.AUD_HSn_STAT n) Fld.AUD_HSn_STAT_BUTTON b s
     .next (if b = 7 then s else hsEvent n 3 b since s))
  else .next s

/-- Are a headset's outputs in their clamp (R505, R506)? -/
def hsClamped (s : State) (n : Nat) : Bool :=
  let ty := fld s (Reg.AUD_HSn_STAT n) Fld.AUD_HSn_STAT_TYPE
  ty == 0 || ty == 4 || (hsOf s n).removing.isSome || !flg s (Reg.AUD_Kk_STAT (8 + n)) Fld.AUD_Kk_STAT_RUNNING

/-- The attenuation applied to a headset output in dB, none while it is muted (R504). -/
def hsAttenuation (s : State) (n : Nat) : Option Nat :=
  let a := fld s (Reg.AUD_HSn_OUT n) Fld.AUD_HSn_OUT_ATTEN
  if toneOn s (8 + n) then some (min a (fld s Reg.AUD_ATT_FLOOR Fld.AUD_ATT_FLOOR_FLOOR_ATTEN))
  else if flg s (Reg.AUD_HSn_OUT n) Fld.AUD_HSn_OUT_AMUTE then none else some a

end Sys2Proof.Machine
end

