-- ==== Sys2Proof/Machine/Queues.lean ====
section
/-!
DEFINITION. Queues.lean: event queues (R192 to R195) and MSI-X (R196 to R198).
-/

namespace Sys2Proof.Machine

open Sys2Proof

/-- Vectors of a function (R196). -/
def vectorsOf (s : State) (fn : Nat) : Nat := if fn < 4 then 32 else (fnRec s fn).vectors

/-- The vector that an interrupt source signals (R197). -/
def sourceVector (s : State) (fn field : Nat) (holm : Bool) : Nat :=
  if fn < 4 then (if field < 4 ∨ vectorsOf s fn ≤ field then (if holm then 3 else 2) else field)
  else if field < 2 ∨ vectorsOf s fn ≤ field then 1 else field

/-- The word of an MSI-X table or pending-bit offset (PCIe MSI-X format), the offset counted from the table's start in a PF window. -/
def msixRead (s : State) (fn off : Nat) : Word :=
  if off < 0x800 then
    (let v := off / 16
     let m := tget {} s.hif.msix (64 * fn + v)
     if v < vectorsOf s fn then
       BitVec.ofNat 32 (match off % 16 / 4 with | 0 => m.addr | 1 => m.addr / 2 ^ 32 | 2 => m.data | _ => bit m.masked)
     else 0)
  else
    BitVec.ofNat 32 ((List.range 32).foldl (fun a i =>
      let v := (off - 0x800) / 4 * 32 + i
      if v < vectorsOf s fn ∧ v < 64 ∧ (tget {} s.hif.msix (64 * fn + v)).pending then a + 2 ^ i else a) 0)

/-- A write of an MSI-X table word: the masked bit falling sends a pending message (PCIe MSI-X). Pending bits are read-only. -/
def msixWrite (fn off : Nat) (w : Word) (s : State) : State :=
  let v := off / 16
  if off < 0x400 ∧ v < vectorsOf s fn then
    (let k := 64 * fn + v
     let m := tget {} s.hif.msix k
     let m := match off % 16 / 4 with
       | 0 => { m with addr := m.addr / 2 ^ 32 * 2 ^ 32 + w.toNat }
       | 1 => { m with addr := w.toNat * 2 ^ 32 + m.addr % 2 ^ 32 }
       | 2 => { m with data := w.toNat }
       | _ => { m with masked := w.toNat.testBit 0 }
     let send := m.pending && !m.masked
     let s := { s with hif := { s.hif with msix := tput {} s.hif.msix k (if send then { m with pending := false } else m) } }
     if send then sendMsix fn v s else s)
  else s

/-! ### Event queues -/

/-- An event queue. -/
def eqRec (s : State) (fn : Nat) (holm : Bool) : EqRec := tget {} s.hif.eqs (eqKey fn holm)

/-- Change an event queue. -/
def setEq (fn : Nat) (holm : Bool) (f : EqRec → EqRec) (s : State) : State :=
  { s with hif := { s.hif with eqs := tmod {} s.hif.eqs (eqKey fn holm) f } }

/-- Records in a queue's ring. -/
def eqSlots (q : EqRec) : Nat := 2 ^ (q.size + 6)

/-- Records held (R193). -/
def eqHeld (q : EqRec) : Nat := modDist 8192 q.ri q.wi

/-- Can a record be written now (R195)? -/
def eqOpen (q : EqRec) : Bool := q.enable && decide (eqHeld q < eqSlots q)

/-- The vector of an event queue (Table 6.3). -/
def eqVector (fn : Nat) (holm : Bool) : Nat := if fn < 4 then (if holm then 3 else 2) else 1

/-- Write one record: 32 bytes to host memory, then WI, then the message (R194). -/
def eqWrite (fn : Nat) (holm : Bool) (rec_ : List Byte) (s : State) : State :=
  let q := eqRec s fn holm
  let s := wrIovas fn 8 (q.base + 32 * (q.wi % eqSlots q)) rec_ s
  let s := setEq fn holm (fun q => { q with wi := (q.wi + 1) % 8192 }) s
  if q.irqEn then sendMsix fn (eqVector fn holm) s else s

/-- The first record waiting for a queue, and the others. -/
def takePost (k : Nat) : List (Nat × List Byte) → Option (List Byte × List (Nat × List Byte))
  | [] => none
  | (j, r) :: ps =>
    if j = k then some (r, ps)
    else match takePost k ps with
      | some (r', rest) => some (r', (j, r) :: rest)
      | none => none

/-- Post to a queue (R194, R195): the oldest backlog record goes first; a new record is written, held in the backlog of 64, or lost. A queue of an ABSENT function takes no record (R210). -/
def eqPost (fn : Nat) (holm : Bool) (s : State) : State :=
  let q := eqRec s fn holm
  match q.backlog with
  | b :: bs =>
    if eqOpen q then setEq fn holm (fun q => { q with backlog := bs }) (eqWrite fn holm b s)
    else
      match takePost (eqKey fn holm) s.hif.posts with
      | none => s
      | some (r, rest) =>
        let s := { s with hif := { s.hif with posts := rest } }
        if (fnRec s fn).state = .absent then s
        else if q.backlog.length < 64 then setEq fn holm (fun q => { q with backlog := q.backlog ++ [r] }) s
        else setEq fn holm (fun q => { q with lost := (q.lost + 1) % 65536, overflow := true }) s
  | [] =>
    match takePost (eqKey fn holm) s.hif.posts with
    | none => s
    | some (r, rest) =>
      let s := { s with hif := { s.hif with posts := rest } }
      if (fnRec s fn).state = .absent then s
      else if eqOpen q then eqWrite fn holm r s
      else setEq fn holm (fun q => { q with backlog := [r] }) s

/-- Meaning of EVENT_RECORD_POST: the management plane posts the next record of a queue, a MEM_FAULT record that is due among them (R238); while it does not run, and during a stall (R40, R85), nothing is posted. -/
def execEventRecordPost (t : Tick) (fn : Fn) (holm : Bool) (s : State) : Out :=
  let s := advance t s
  if mgmtUp s = false then .next s else .next (eqPost fn.val holm (dueFault fn.val holm s))

/-- Is a write of RI accepted (R193)? -/
def eqRiOk (q : EqRec) (ri : Nat) : Bool := decide (modDist 8192 ri q.wi ≤ eqHeld q)

/-- A write of RI (R193). -/
def eqRiWrite (fn : Nat) (holm : Bool) (ri : Nat) (s : State) : State :=
  setEq fn holm (fun q => if eqRiOk q ri then { q with ri := ri } else { q with riErr := true }) s

/-- A write to a queue's register at offset `o` from its base (Tables 6.11 to 6.15). BASE and SIZE are ignored while ENABLE is 1, a SIZE above 6 is ignored. -/
def eqRegWrite (fn : Nat) (holm : Bool) (o : Nat) (w : Word) (s : State) : State :=
  let q := eqRec s fn holm
  if o = 0 then (if q.enable then s else setEq fn holm (fun q => { q with base := q.base / 2 ^ 32 * 2 ^ 32 + w.toNat / 4096 * 4096 }) s)
  else if o = 4 then (if q.enable then s else setEq fn holm (fun q => { q with base := w.toNat * 2 ^ 32 + q.base % 2 ^ 32 }) s)
  else if o = 8 then
    (let z := getF w Fld.EQ_CTRL_SIZE
     setEq fn holm (fun q => { q with size := if q.enable ∨ 6 < z then q.size else z, irqEn := getB w Fld.EQ_CTRL_IRQ_EN, enable := getB w Fld.EQ_CTRL_ENABLE }) s)
  else if o = 0xC then eqRiWrite fn holm (getF w Fld.EQ_RD_RI) s
  else if o = 0x14 then
    setEq fn holm (fun q => { q with overflow := q.overflow && !getB w Fld.EQ_STATUS_OVERFLOW, riErr := q.riErr && !getB w Fld.EQ_STATUS_RI_ERR }) s
  else s

/-- The word of a queue's register. -/
def eqRegRead (s : State) (fn : Nat) (holm : Bool) (o : Nat) : Word :=
  let q := eqRec s fn holm
  BitVec.ofNat 32 (match o with
    | 0 => q.base
    | 4 => q.base / 2 ^ 32
    | 8 => packF Fld.EQ_CTRL_SIZE q.size + packF Fld.EQ_CTRL_IRQ_EN (bit q.irqEn) + packF Fld.EQ_CTRL_ENABLE (bit q.enable)
    | 0xC => q.ri
    | 0x10 => packF Fld.EQ_PTR_RI q.ri + packF Fld.EQ_PTR_WI q.wi
    | 0x14 => packF Fld.EQ_STATUS_LOST q.lost + packF Fld.EQ_STATUS_BACKLOG q.backlog.length + packF Fld.EQ_STATUS_OVERFLOW (bit q.overflow) +
        packF Fld.EQ_STATUS_RI_ERR (bit q.riErr)
    | _ => 0)

/-- A write to a ring's register (Tables 3.7 to 3.12). The base is changed only while ENABLE is 0. -/
def ringRegWrite (fn : Nat) (holm : Bool) (o : Nat) (w : Word) (s : State) : State :=
  let r := ringRec s fn holm
  if o = 0 then (if r.enable then s else setRing fn holm (fun r => { r with base := r.base / 2 ^ 32 * 2 ^ 32 + w.toNat / 4096 * 4096 }) s)
  else if o = 4 then (if r.enable then s else setRing fn holm (fun r => { r with base := w.toNat * 2 ^ 32 + r.base % 2 ^ 32 }) s)
  else if o = 8 then
    setRing fn holm (fun r => { r with irqEn := getB w Fld.MGT_RINGn_CTRL_IRQ_EN, enable := getB w Fld.MGT_RINGn_CTRL_ENABLE,
                                       resetPending := r.resetPending || getB w Fld.MGT_RINGn_CTRL_RESET }) s
  else if o = 0x14 then
    setRing fn holm (fun r => { r with fetchErr := r.fetchErr && !getB w Fld.MGT_RINGn_STATUS_FETCH_ERR,
                                       dbOverrun := r.dbOverrun && !getB w Fld.MGT_RINGn_STATUS_DB_OVERRUN }) s
  else s

/-- The word of a ring's register. -/
def ringRegRead (s : State) (fn : Nat) (holm : Bool) (o : Nat) : Word :=
  let r := ringRec s fn holm
  BitVec.ofNat 32 (match o with
    | 0 => r.base
    | 4 => r.base / 2 ^ 32
    | 8 => packF Fld.MGT_RINGn_CTRL_IRQ_EN (bit r.irqEn) + packF Fld.MGT_RINGn_CTRL_ENABLE (bit r.enable)
    | 0x10 => packF Fld.MGT_RINGn_PTR_RI r.ri + packF Fld.MGT_RINGn_PTR_CI r.ci + packF Fld.MGT_RINGn_PTR_PI r.pi
    | 0x14 => packF Fld.MGT_RINGn_STATUS_FETCH_ERR (bit r.fetchErr) + packF Fld.MGT_RINGn_STATUS_DB_OVERRUN (bit r.dbOverrun) +
        packF Fld.MGT_RINGn_STATUS_RESET_PENDING (bit r.resetPending) + packF Fld.MGT_RINGn_STATUS_BUSY (bit r.busy.isSome)
    | _ => 0)

end Sys2Proof.Machine
end

