-- ==== Sys2Proof/Machine/Iso.lean ====
section
/-!
DEFINITION. Iso.lean: the ISO log and its notices (R179 to R183), the control cores, their interrupts and landings (R164 to R170), the debug paths (R174 to R176, R184).
-/

namespace Sys2Proof.Machine

open Sys2Proof

/-- Change the isolation state. -/
def setIso (f : IsoState → IsoState) (s : State) : State := { s with iso := f s.iso }

/-- Change the control cores. -/
def setCores (f : CoreState → CoreState) (s : State) : State := { s with iso := { s.iso with cores := f s.iso.cores } }

/-! ### The log -/

/-- Move one entry from the FIFO into the ring of 4,096, over the oldest when it is full (R180). -/
def drainOne (s : State) (e : IsoEntry) : State :=
  let s := ringMirror e s
  setIso (fun i => { i with
    ring := (i.ring ++ [e]).drop (i.ring.length + 1 - 4096), ringNext := (e.index + 1) % 2 ^ 32,
    noticeStamp := match i.noticeStamp with | some x => some x | none => some e.stamp }) s

/-- Meaning of ISO_LOG_DRAIN (R180): Holm firmware drains the FIFO; not while it does not run, nor during a stall (R85). -/
def execIsoLogDrain (t : Tick) (s : State) : Out :=
  let s := advance t s
  if mgmtUp s = false then .next s
  else .next (s.iso.fifo.foldl drainOne (setIso (fun i => { i with fifo := [] }) s))

/-- Entries written to the ring since the last notice (R182). -/
def newEntries (i : IsoState) : Nat := modDist (2 ^ 32) i.noticeFirst i.ringNext

/-- Is a notice due (R182)? -/
def noticeDue (s : State) : Bool :=
  flg s Reg.ISO_CTRL Fld.ISO_CTRL_NOTICE_EN && decide (0 < newEntries s.iso) &&
  (match s.iso.lastNotice with | none => true | some l => decide (l + 2000000 ≤ s.gtb)) && mgmtUp s

/-- An ISO_NOTICE record (Table 5.8). -/
def noticeRecord (i : IsoState) : List Byte :=
  le 2 0x0901 ++ le 2 0 ++ le 4 i.noticeFirst ++ le 4 (newEntries i) ++ le 4 i.lost ++ le 8 (i.noticeStamp.getD 0) ++ le 8 0

/-- Meaning of ISO_NOTICE (R182). -/
def execIsoNotice (t : Tick) (s : State) : Out :=
  let s := advance t s
  if noticeDue s then
    (let s := post (fld s Reg.ISO_CTRL Fld.ISO_CTRL_NOTICE_PF) true (noticeRecord s.iso) s
     .next (setIso (fun i => { i with noticeFirst := i.ringNext, noticeStamp := none, lastNotice := some s.gtb }) s))
  else .next s

/-- ISO_LOG_READ (Table 3.6). -/
def opIsoLogRead : OpInfo := ⟨0x0903, (3, 0), .holm, none, true, .fixed 20, false⟩

/-- Entries of the ring with an INDEX at least `first` (R181). -/
def entriesFrom (i : IsoState) (first : Nat) : List IsoEntry := i.ring.filter (fun e => decide (modDist (2 ^ 32) first e.index < 2 ^ 31))

/-- Step 13 of ISO_LOG_READ (R181). -/
def doIsoLogRead (c : Ctx) (s : State) : Ans :=
  let first := leAt c.pay 0 4
  let dest := leAt c.pay 8 8
  let len := leAt c.pay 0x10 4
  if leAt c.pay 4 4 ≠ 0 then .reply (stOff .reservedSet 4) s
  else if len % 32 ≠ 0 then .reply (stOff .paramInvalid 0x10) s
  else
    let es := entriesFrom s.iso first
    let out := es.take (len / 32)
    let next := match out.getLast?, es with
      | some e, _ => (e.index + 1) % 2 ^ 32
      | none, e :: _ => e.index
      | none, [] => (match s.iso.fifo with | e :: _ => e.index | [] => s.iso.nextIndex)
    .reply (stDone (le 4 out.length ++ le 4 next)) (wrIovas c.fn 8 dest (out.flatMap IsoEntry.bytes) s)

/-- Meaning of ISO_LOG_READ (R181). -/
def execIsoLogRead (t : Tick) (q : Request) (s : State) : Out := gcp opIsoLogRead t q doIsoLogRead s

/-! ### The control cores -/

/-- The pending interrupt of the highest level, the oldest of equals, and the others. -/
def takeIrq (l : List (Nat × Nat)) : Option ((Nat × Nat) × List (Nat × Nat)) :=
  match l with
  | [] => none
  | x :: xs =>
    let b := xs.foldl (fun b y => if b.1 < y.1 then y else b) x
    some (b, l.erase b)

/-- Meaning of GATE n (R169): `pc` is the address of the instruction that follows it, `regs` are the Mainland general registers g1 and up as the program holds them. -/
def execGate (t : Tick) (n : BitVec 32) (pc : Word) (regs : List Word) (s : State) : Out :=
  let s := advance t s
  let c := s.iso.cores
  if c.world = .holm then .next (setCores (fun c => { c with trap := 3 }) s)
  else if c.landings.contains n.toNat && c.landMarks.contains n.toNat then
    .next (setCores (fun c => { c with world := .holm, gate := some (pc, regs), landing := some n.toNat, holmSince := s.gtb, byInterrupt := false }) s)
  else .next (setCores (fun c => { c with trap := 1 }) (isoLog 0x05 0xFC 6 0 n.toNat 0xFFFF 0 s))

/-- The cores come back to Mainland: a deferred halt takes effect (R176) and the highest pending Mainland interrupt is taken (R164, R165). -/
def toMainland (s : State) : State :=
  let s := setCores (fun c => { c with
    world := .mainland, byInterrupt := false, landing := none,
    pendingMainland := match takeIrq c.pendingMainland with | some (_, r) => r | none => [] }) s
  if flg s Reg.DBG_STAT Fld.DBG_STAT_DEFERRED then
    wrB Reg.DBG_STAT Fld.DBG_STAT_DEFERRED false (wrF Reg.DBG_STAT Fld.DBG_STAT_HALTED (fld s Reg.DBG_STAT Fld.DBG_STAT_HALTED ||| 1) s)
  else s

/-- Meaning of GATE_RET (R170): back to the instruction after the GATE, g1 and g2 with the results, every other general register as it was. -/
def execGateRet (t : Tick) (g1 g2 : Word) (s : State) : Out :=
  let s := advance t s
  match s.iso.cores.gate with
  | some (pc, regs) =>
    if s.iso.cores.world = .holm ∧ s.iso.cores.byInterrupt = false then
      .next (toMainland (setCores (fun c => { c with gate := none, pc := pc, regs := g1 :: g2 :: regs.drop 2 }) s))
    else .next s
  | none => .next s

/-- Meaning of FETCH_CROSS (R169): Mainland control reaches the Holm partition without GATE. -/
def execFetchCross (t : Tick) (s : State) : Out :=
  let s := advance t s
  if s.iso.cores.world = .mainland then .next (setCores (fun c => { c with trap := 2 }) (isoLog 0x06 0xFC 6 0 0 0xFFFF 0 s))
  else .next s

/-- Meaning of HOLM_INTERRUPT (R164, R166): the pending Holm interrupt of the highest level pre-empts Mainland execution; pc, status and general registers as the program holds them are
saved. While Holm executes, nothing is pre-empted. -/
def execHolmInterrupt (t : Tick) (pc status : Word) (regs : List Word) (s : State) : Out :=
  let s := advance t s
  let c := s.iso.cores
  match takeIrq c.pendingHolm with
  | some (_, rest) =>
    if c.world = .mainland then
      .next (setCores (fun c => { c with world := .holm, byInterrupt := true, saved := some (pc, status, regs), pendingHolm := rest, holmSince := s.gtb }) s)
    else .next (setCores (fun c => { c with pendingHolm := rest }) s)
  | none => .next s

/-- Meaning of MAINLAND_RETURN (R165, R166): the Mainland registers are restored exactly, pending Mainland interrupts and halts are taken. A landing in progress returns by GATE_RET. -/
def execMainlandReturn (t : Tick) (s : State) : Out :=
  let s := advance t s
  let c := s.iso.cores
  if c.world = .holm ∧ (c.byInterrupt ∨ c.gate.isNone) then
    (match c.saved with
     | some (pc, st, regs) => .next (toMainland (setCores (fun c => { c with saved := none, pc := pc, status := st, regs := regs }) s))
     | none => .next (toMainland s))
  else .next s

/-! ### Debug -/

/-- Is an enable in force: 0 WATCH_M, 1 STEER_M, 2 WATCH_H, 3 STEER_H (Table 5.5)? A steer enable takes effect only together with the watch enable of its world. -/
def dbgEnabled (s : State) (n : Nat) : Bool :=
  let w := (rd s Reg.ISO_DBG).toNat
  w.testBit n && (if n = 1 then w.testBit 0 else if n = 3 then w.testBit 2 else true)

/-- The enable that a debug access needs: none for IDCODE and BYPASS (R175). -/
def dbgNeed : DebugReq → Option Nat
  | .scan .idcode _ => none
  | .scan .bypass _ => none
  | .scan .sample _ => some 2
  | .scan .extest _ => some 3
  | .scan .intest _ => some 3
  | .scan .clamp _ => some 3
  | .scan .highz _ => some 3
  | .dap holm steer _ _ => some (2 * bit holm + bit steer)

/-- Does the access touch a secret (R174)? -/
def dbgSecret : DebugReq → Bool
  | .scan _ secret => secret
  | .dap _ _ secret _ => secret

/-- The scan instruction in force relies on an enable: TAP_USE of Table 5.17. -/
def tapUse : DebugReq → Option Nat
  | .scan i _ => some (match dbgNeed (.scan i false) with | some 2 => 1 | some 3 => 2 | _ => 0)
  | .dap _ _ _ _ => none

/-- A refused access (R175, Table 5.18). -/
def dbgRefuse (r : DebugReq) (need code : Nat) (s : State) : State :=
  let s := isoLog 0x08 0xFD 7 0 0 0xFFFF 0 s
  let w := rd s Reg.DBG_DENY
  let w := setF w Fld.DBG_DENY_DENIED (getF w Fld.DBG_DENY_DENIED + 1)
  let w := setB w Fld.DBG_DENY_SECRET (dbgSecret r)
  let w := setF w Fld.DBG_DENY_LAST_NEED (2 ^ need)
  wr Reg.DBG_DENY (setF w Fld.DBG_DENY_LAST_INSTR code) s

/-- A permitted access (R175, Table 5.17): the first one of an attachment leaves a DEBUG_ATTACH note. -/
def dbgProceed (r : DebugReq) (first : Bool) (s : State) : State :=
  let s := match tapUse r with | some u => wrF Reg.DBG_STAT Fld.DBG_STAT_TAP_USE u (wrB Reg.DBG_STAT Fld.DBG_STAT_TAP_RESET false s) | none => s
  let s := match r with
    | .dap holm _ _ _ =>
      let s := wrB Reg.DBG_STAT Fld.DBG_STAT_DAP_ATTACHED true s
      wrB Reg.DBG_STAT Fld.DBG_STAT_DAP_HOLM (holm || (!first && flg s Reg.DBG_STAT Fld.DBG_STAT_DAP_HOLM)) s
    | .scan _ _ => s
  if first ∧ (dbgNeed r).isSome then
    (let s := wrF Reg.DBG_STAT Fld.DBG_STAT_ATTACHES ((fld s Reg.DBG_STAT Fld.DBG_STAT_ATTACHES + 1) % 65536) s
     let s := isoLog 0x40 0xFD 7 0 0 0xFFFF 0 s
     if flg s Reg.DBG_CTRL Fld.DBG_CTRL_NOTICE_EN then raiseHolm 5 s else s)
  else s

/-- Halt or resume that a permitted steer transaction makes (Table 5.5, R176): a Mainland halt while Holm executes is deferred. -/
def dbgHalt (holm : Bool) (s : State) : State :=
  if holm then wrF Reg.DBG_STAT Fld.DBG_STAT_HALTED (fld s Reg.DBG_STAT Fld.DBG_STAT_HALTED ||| 2) s
  else if s.iso.cores.world = .holm then wrB Reg.DBG_STAT Fld.DBG_STAT_DEFERRED true s
  else wrF Reg.DBG_STAT Fld.DBG_STAT_HALTED (fld s Reg.DBG_STAT Fld.DBG_STAT_HALTED ||| 1) s

/-- Execution that a debugger had halted goes on. -/
def dbgResume (holm : Bool) (s : State) : State :=
  let h := fld s Reg.DBG_STAT Fld.DBG_STAT_HALTED
  if holm then wrF Reg.DBG_STAT Fld.DBG_STAT_HALTED (h &&& 1) s
  else wrB Reg.DBG_STAT Fld.DBG_STAT_DEFERRED false (wrF Reg.DBG_STAT Fld.DBG_STAT_HALTED (h &&& 2) s)

/-- What a permitted access does beyond being made. -/
def dbgAct (r : DebugReq) (s : State) : State :=
  match r with
  | .dap holm _ _ .halt => dbgHalt holm s
  | .dap holm _ _ .resume => dbgResume holm s
  | .dap _ _ _ .access => s
  | .dap _ _ _ .detach => wrB Reg.DBG_STAT Fld.DBG_STAT_DAP_HOLM false (wrB Reg.DBG_STAT Fld.DBG_STAT_DAP_ATTACHED false s)
  | .scan _ _ => s

/-- One debug access against the enables and the secrets rule (R174, R175). -/
def dbgAccess (r : DebugReq) (first : Bool) (code : Nat) (s : State) : State :=
  match dbgNeed r with
  | none => dbgAct r (dbgProceed r first s)
  | some n => if dbgEnabled s n && !dbgSecret r then dbgAct r (dbgProceed r first s) else dbgRefuse r n code s

/-- Meaning of DEBUG_ACCESS (R175): a scan instruction with its code, or a transaction of the debug access port; `first` says that a debug attachment begins with it. -/
def execDebugAccess (t : Tick) (req : DebugReq) (code : BitVec 8) (first : Bool) (s : State) : Out :=
  let code := match req with | .scan _ _ => code.toNat | .dap _ _ _ _ => 0xFF
  .next (dbgAccess req first code (advance t s))

/-- Meaning of DEBUG_HALT_REQUEST (R176): a request to halt a world, which needs its steer enable. -/
def execDebugHaltRequest (t : Tick) (world : World) (first : Bool) (s : State) : Out :=
  .next (dbgAccess (.dap (world == .holm) true false .halt) first 0xFF (advance t s))

/-- The enables after a write of 1 to some of them (R174, Table 5.10): clearing a watch enable clears the steer enable of its world. -/
def dbgAfterClear (old w : Nat) : Nat :=
  let c := w % 16
  let c := if c.testBit 0 then c ||| 2 else c
  let c := if c.testBit 2 then c ||| 8 else c
  old / 16 * 16 + ((old % 16) &&& (15 - c))

end Sys2Proof.Machine
end

