-- ==== Sys2Proof/Machine/Dma.lean ====
section
/-!
DEFINITION. Dma.lean: DMA channels and check-value units (chapter 18).
-/

namespace Sys2Proof.Machine

open Sys2Proof

/-! ### Channels and units -/

/-- A channel's record. -/
def dmaOf (s : State) (n : Nat) : DmaRec := tget {} s.mv.dma n

/-- A unit's record. -/
def cvOf (s : State) (u : Nat) : CvRec := tget {} s.mv.cv u

/-- Change a unit's record. -/
def setCv (u : Nat) (f : CvRec → CvRec) (s : State) : State := { s with mv := { s.mv with cv := tmod {} s.mv.cv u f } }

/-- Is a set a register set? -/
def DmaSet.isReg (x : DmaSet) : Bool := x.owner.isNone

/-- Is a set loaded in the channel (BUSY, Table 18.6)? -/
def DmaRec.loaded (r : DmaRec) : Bool := r.running.isSome || r.shadow.isSome || !r.regs.isEmpty

/-- The register sets of a channel that run or wait. -/
def DmaRec.regSets (r : DmaRec) : List DmaSet := (r.running.toList ++ r.shadow.toList ++ r.regs).filter DmaSet.isReg

/-- Show a channel's sets in DMA_Cn_STAT. -/
def showDma (n : Nat) (s : State) : State :=
  let r := dmaOf s n
  let w := rd s (Reg.DMA_Cn_STAT n)
  let w := setB w Fld.DMA_Cn_STAT_BUSY r.loaded
  let w := setB w Fld.DMA_Cn_STAT_SHADOW_FULL r.shadow.isSome
  let w := setB w Fld.DMA_Cn_STAT_CONTRACT (match r.running with | some x => !x.isReg | none => false)
  let w := setB w Fld.DMA_Cn_STAT_ALIAS (match r.running with | some x => x.aliased | none => false)
  wr (Reg.DMA_Cn_STAT n) w s

/-- Change a channel's record and show it. -/
def setDma (n : Nat) (f : DmaRec → DmaRec) (s : State) : State := showDma n { s with mv := { s.mv with dma := tmod {} s.mv.dma n f } }

/-- Signal an interrupt source (R197): the vector of the function that its object is granted to; a Holm-owned source signals the PF of DMA_CTRL.EVENT_PF. -/
def raiseSource (o field : Nat) (s : State) : State :=
  match holderOf s o with
  | none => s
  | some h =>
    let pf := fld s Reg.DMA_CTRL Fld.DMA_CTRL_EVENT_PF
    if h.holm then sendMsix pf (sourceVector s pf field true) s else sendMsix h.fn (sourceVector s h.fn field false) s

/-! ### Address contexts (R513) -/

/-- The context of one side of a set: the function whose IOVAs it names, none for a DPA. -/
def dmaCtx (s : State) (n dflags : Nat) (dst : Bool) : Option Nat :=
  match holderOf s (obj 3 n) with
  | some h =>
    if h.holm then
      (if dst then (if dflags.testBit 15 then some (natBits dflags 13 8) else none)
       else if dflags.testBit 7 then some (natBits dflags 5 0) else none)
    else some h.fn
  | none => none

/-- The physical page of 4 KiB of an address in a context: device pages and host pages are numbered apart. -/
def physPage (s : State) (ctx : Option Nat) (write : Bool) (a : Nat) : Option (Nat × Nat) :=
  match ctx with
  | none => if dpaMapped s a then some (0, a / 4096) else none
  | some f =>
    match xlate s f write a with
    | .dev d => some (0, d / 4096)
    | .host p h => some (p + 1, h / 4096)
    | .fault _ => none

/-- The physical pages of a range. -/
def physPages (s : State) (ctx : Option Nat) (write : Bool) (a n : Nat) : List (Nat × Nat) :=
  (List.range ((a % 4096 + n + 4095) / 4096)).filterMap (fun i => physPage s ctx write (a - a % 4096 + 4096 * i))

/-- Do the sides of a set lie in different contexts and share a physical page (R521)? -/
def sharesPages (s : State) (n src dst count dflags : Nat) : Bool :=
  let a := dmaCtx s n dflags false
  let b := dmaCtx s n dflags true
  a != b &&
    (let ps := physPages s a false src count
     (physPages s b true dst count).any (fun p => ps.contains p))

/-- May a Holm channel write a DPA range (R513)? In the Vat, only the scene slots, the Holm firmware data and the scratch pool. -/
def dmaDstOk (a n : Nat) : Bool :=
  let lo := vatBase
  let hi := vatBase + vatSize
  if n = 0 ∨ a + n ≤ lo ∨ hi ≤ a then true
  else (decide (lo + 0x3000000 ≤ a) && decide (a + n ≤ lo + 0x3300000)) || (decide (lo + 0x3800000 ≤ a) && decide (a + n ≤ hi))

/-- Is a range accessible in its context: mapped with the permission, or assigned DPA (Tables 18.2 and 18.4)? -/
def ctxRange (s : State) (ctx : Option Nat) (write : Bool) (a n : Nat) : Bool :=
  match ctx with
  | some f => rangeOk s f write a n
  | none => (List.range ((a % 0x200000 + n + 0x1FFFFF) / 0x200000)).all (fun i =>
      dpaMapped s (if i = 0 then a else a - a % 0x200000 + 0x200000 * i)) && (n == 0 || dpaMapped s (a + n - 1))

/-- Bytes of a range in its context; a fault reads zero (R530). -/
def ctxRead (s : State) (ctx : Option Nat) (a n : Nat) : List Byte :=
  match ctx with
  | none => rdDpas s a n
  | some f => rdIovas s f a n

/-- Does an access of a range fault in the IOMMU? -/
def ctxFaults (s : State) (ctx : Option Nat) (write : Bool) (a n : Nat) : Option (Nat × Nat × Bool) :=
  match ctx with
  | none => none
  | some f => (firstFault s f write a n).map (fun x => (f, x.1, x.2))

/-- Record what an access of a range by a channel (SOURCE 2) or unit (SOURCE 3) left: the fault for the next MEM_FAULT record (R530), the note on an unassigned DPA that is read (R216). -/
def ctxNote (holm : Bool) (src : Nat) (ctx : Option Nat) (write : Bool) (a n : Nat) (s : State) : State :=
  let s := match ctxFaults s ctx write a n with
    | some (f, v, p) => countFault (if holm then 64 else f) f src v write p s
    | none => s
  match ctx with
  | some _ => s
  | none =>
    if write then s
    else match (List.range n).find? (fun i => !dpaMapped s (a + i)) with
      | some i => faultNote 0x44 src (a + i) 0 s
      | none => s

/-! ### Moving bytes -/

/-- Copy `k` bytes from offset `o` of a set, all read before any is written; set FAULTED for a fault (R530). -/
def dmaCopy (n : Nat) (x : DmaSet) (o k : Nat) (s : State) : State :=
  let a := dmaCtx s n x.dflags false
  let b := dmaCtx s n x.dflags true
  let holm := holmOwned s (obj 3 n)
  let bs := ctxRead s a (x.src + o) k
  let bad := (ctxFaults s a false (x.src + o) k).isSome || (ctxFaults s b true (x.dst + o) k).isSome
  let s := ctxNote holm 2 b true (x.dst + o) k (ctxNote holm 2 a false (x.src + o) k s)
  let s := match b with
    | none => wrDpas (x.dst + o) bs s
    | some f => wrIovaBytes f k (x.dst + o) bs s
  if bad then wrB (Reg.DMA_Cn_STAT n) Fld.DMA_Cn_STAT_FAULTED true s else s

/-- Copy blocks of 4,096 bytes of a set in ascending order, each read whole and then written whole (R521). The fuel is the number of blocks. -/
def dmaBlocks (n : Nat) (x : DmaSet) (upto : Nat) : Nat → Nat → State → State
  | 0, _, s => s
  | f + 1, o, s => if upto ≤ o then s else dmaBlocks n x upto f (o + 4096) (dmaCopy n x o (min 4096 (upto - o)) s)

/-- What a set leaves in memory (R520, R521): a memmove, or block by block when it shares pages through different contexts. -/
def dmaRun (n : Nat) (x : DmaSet) (s : State) : State :=
  if x.aliased then dmaBlocks n x x.count (ceilDiv x.count 4096) 0 s else dmaCopy n x 0 x.count s

/-- Is a set copied descending (R520)? -/
def dmaDescends (s : State) (n : Nat) (x : DmaSet) : Bool :=
  dmaCtx s n x.dflags false == dmaCtx s n x.dflags true && decide (x.src < x.dst) && decide (x.dst < x.src + x.count)

/-- A set stops at a beat before its end: the bytes written so far stay (Table 18.5). How many they are is a free value; a set that never began has written none. -/
def dmaStopSet (n : Nat) (x : DmaSet) (s : State) : State :=
  if x.begun then
    let (w, s) := draw s
    let k := w % (x.count + 1)
    let s := if x.aliased then dmaBlocks n x k (ceilDiv x.count 4096) 0 s
      else if dmaDescends s n x then dmaCopy n x (x.count - k) k s else dmaCopy n x 0 k s
    wr (Reg.DMA_Cn_MOVED n) (BitVec.ofNat 32 k) s
  else s

/-! ### Serving a channel (R515, R516) -/

/-- The contract's identifier in a set, for the order among equal deadlines. -/
def DmaSet.id (x : DmaSet) : Nat := match x.owner with | some o => o.2 | none => 0

/-- Does contracted set `a` come before set `b`? Contracted sets come before register sets (R523). -/
def setBefore (a b : DmaSet) : Bool :=
  if a.isReg then false
  else b.isReg || decide (a.deadline < b.deadline) || (a.deadline == b.deadline && decide (a.id < b.id))

/-- The first of the contracted sets that are ready. -/
def bestSet (now : Tick) (q : List DmaSet) : Option DmaSet :=
  (q.filter (fun x => decide (x.s0 ≤ now))).foldl (fun b x => match b with | none => some x | some y => if setBefore x y then some x else some y) none

/-- What the channel would load next: a ready contracted set, else the oldest register set. -/
def nextSet (now : Tick) (r : DmaRec) : Option DmaSet := (bestSet now r.queue).or r.regs.head?

/-- Take a set out of those that wait. -/
def takeSet (x : DmaSet) (r : DmaRec) : DmaRec :=
  if x.isReg then { r with regs := r.regs.tail } else { r with queue := r.queue.filter (fun y => y.owner != x.owner) }

/-- Put a set back among those that wait. -/
def backSet (x : DmaSet) (r : DmaRec) : DmaRec := if x.isReg then { r with regs := x :: r.regs } else { r with queue := r.queue ++ [x] }

/-- RATE and PRIO of a channel come into effect (R517). -/
def showRate (n : Nat) (s : State) : State :=
  let w := rd s (Reg.DMA_RATEn n)
  let st := setF (rd s (Reg.DMA_Cn_STAT n)) Fld.DMA_Cn_STAT_RATE (getF w Fld.DMA_RATEn_RATE)
  wr (Reg.DMA_Cn_STAT n) (setF st Fld.DMA_Cn_STAT_PRIO (getF w Fld.DMA_RATEn_PRIO)) s

/-- A set begins: its pages are compared (R521), RATE and PRIO of the channel take effect (R517), its contract runs. -/
def beginSet (n : Nat) (x : DmaSet) (s : State) : State :=
  let x := { x with begun := true, aliased := if x.begun then x.aliased else sharesPages s n x.src x.dst x.count x.dflags }
  let s := showRate n s
  let s := match x.owner with
    | some o => setContract o.1 o.2 (fun c => { c with phase := .running, startedAt := s.gtb }) s
    | none => s
  setDma n (fun r => { r with running := some x }) s

/-- Meaning of DMA_SET_LOAD (R515, R516): with no set running the next one begins; an earlier contracted set pre-empts the running one at a beat; in shadowed mode the next set fills the shadow,
in the place of a later one. -/
def execDmaSetLoad (t : Tick) (channel : BitVec 7) (s : State) : Out :=
  let s := advance t s
  let n := channel.toNat
  let r := dmaOf s n
  if flg s (Reg.DMA_Cn_CTRL n) Fld.DMA_Cn_CTRL_ENABLE = false then .next s
  else
    match nextSet s.gtb r with
    | none => .next s
    | some x =>
      match r.running with
      | none => .next (beginSet n x (setDma n (takeSet x) s))
      | some y =>
        if setBefore x y then
          let back (q : DmaRec) : DmaRec := match r.shadow with
            | some z => backSet y (backSet z { q with shadow := none })
            | none => backSet y q
          .next (beginSet n x (setDma n (fun q => back (takeSet x q)) s))
        else if flg s (Reg.DMA_Cn_CTRL n) Fld.DMA_Cn_CTRL_MODE then
          (match r.shadow with
           | none => .next (setDma n (fun q => { takeSet x q with shadow := some x }) s)
           | some z => if setBefore x z then .next (setDma n (fun q => { backSet z (takeSet x q) with shadow := some x }) s) else .next s)
        else .next s

/-- A contracted set whose pages came to be shared after t₀ and that is late has overrun its cost (R521). -/
def dmaAliasLate (x : DmaSet) (c : Contract) : Bool := x.aliased && c.params.getD 3 0 == 0

/-- A contracted set's last write is visible (R519): its contract is delivered, or breached. -/
def dmaDeliver (x : DmaSet) (poison : Bool) (s : State) : State :=
  match x.owner with
  | none => s
  | some o =>
    match contractOf s o.1 o.2 with
    | none => s
    | some c =>
      if poison then breach c .deviceFault 0xFF s.gtb s
      else if (instWindow s c).2 ≤ s.gtb ∧ dmaAliasLate x c then breach c .costOverrun c.fn s.gtb s
      else finish c.fn c.id c.inst s.gtb 0 s

/-- Meaning of DMA_SET_DONE (R519, R523): the bytes of the running set are in place; it is delivered, or DONE is set and the source raised; a set in the shadow follows (R516). -/
def execDmaSetDone (t : Tick) (channel : BitVec 7) (s : State) : Out :=
  let s := advance t s
  let n := channel.toNat
  match (dmaOf s n).running with
  | none => .next s
  | some x =>
    let poison := ctxPoison s (dmaCtx s n x.dflags false) x.src x.count
    let s := wr (Reg.DMA_Cn_MOVED n) (BitVec.ofNat 32 x.count) (dmaRun n x s)
    let s := setDma n (fun r => { r with running := none }) s
    let cnt (b : Bits) (s : State) : State := wrF (Reg.DMA_Cn_SETS n) b (fld s (Reg.DMA_Cn_SETS n) b + 1) s
    let s := if x.isReg then
        raiseSource (obj 8 (0x200 + n)) (fld s (Reg.DMA_Cn_CTRL n) Fld.DMA_Cn_CTRL_VECTOR)
          (cnt Fld.DMA_Cn_SETS_REGISTER (wrB (Reg.DMA_Cn_STAT n) Fld.DMA_Cn_STAT_DONE true s))
      else dmaDeliver x poison (cnt Fld.DMA_Cn_SETS_CONTRACTED s)
    match (dmaOf s n).shadow with
    | none => .next s
    | some y => .next (beginSet n y (setDma n (fun r => { r with shadow := none }) s))

/-! ### Register sets and control (R522, R523, R531) -/

/-- End the register sets of a channel (R523): STOPPED when there was one. -/
def dmaStopRegs (n : Nat) (s : State) : State :=
  let r := dmaOf s n
  if r.regSets.isEmpty then s
  else
    let s := r.regSets.foldl (fun s x => dmaStopSet n x s) s
    let drop (x : Option DmaSet) : Option DmaSet := x.filter (fun y => !y.isReg)
    wrB (Reg.DMA_Cn_STAT n) Fld.DMA_Cn_STAT_STOPPED true (setDma n (fun r => { r with running := drop r.running, shadow := drop r.shadow, regs := [] }) s)

/-- The contracted sets of a channel. -/
def DmaRec.contracted (r : DmaRec) : List DmaSet := (r.running.toList ++ r.shadow.toList ++ r.queue).filter (fun x => !x.isReg)

/-- Every set of a channel stops at the next beat. -/
def dmaStopAll (n : Nat) (s : State) : State :=
  let s := dmaStopRegs n s
  let s := (dmaOf s n).contracted.foldl (fun s x => dmaStopSet n x s) s
  setDma n (fun _ => {}) s

/-- The sets of a contract stop (Table 18.5, CONTRACT_CANCEL). -/
def dmaWithdraw (n fn id : Nat) (s : State) : State :=
  let mine (x : DmaSet) : Bool := x.owner == some (fn, id)
  let r := dmaOf s n
  if r.contracted.any mine then
    let s := (r.contracted.filter mine).foldl (fun s x => dmaStopSet n x s) s
    let drop (x : Option DmaSet) : Option DmaSet := x.filter (fun y => !mine y)
    setDma n (fun r => { r with running := drop r.running, shadow := drop r.shadow, queue := r.queue.filter (fun x => !mine x) }) s
  else s

/-- Cancel the open DMA contracts of a channel (R531). -/
def dmaCancel (n : Nat) (s : State) : State := (contractsOn s .dma n).foldl (fun s c => cancelContract c s.gtb s) s

/-- SRC, DST, COUNT and DFLAGS as the set registers hold them. -/
def regSet (s : State) (n : Nat) : DmaSet :=
  { src := (rd s (Reg.DMA_Cn_SRC_LO n)).toNat + 2 ^ 32 * (rd s (Reg.DMA_Cn_SRC_HI n)).toNat,
    dst := (rd s (Reg.DMA_Cn_DST_LO n)).toNat + 2 ^ 32 * (rd s (Reg.DMA_Cn_DST_HI n)).toNat,
    count := fld s (Reg.DMA_Cn_COUNT n) Fld.DMA_Cn_COUNT_COUNT, dflags := (rd s (Reg.DMA_Cn_DFLAGS n)).toNat }

/-- Step 4 of Table 18.2: reserved bits of DFLAGS are 0, and a Mainland channel has DFLAGS 0. -/
def dflagsOk (holm : Bool) (d : Nat) : Bool := if holm then natBits d 31 16 == 0 && natBits d 14 14 == 0 && natBits d 6 6 == 0 else d == 0

/-- Is a START refused (R522)? -/
def startRefused (s : State) (n : Nat) : Bool :=
  let r := dmaOf s n
  let x := regSet s n
  let holm := holmOwned s (obj 3 n)
  let most := if flg s (Reg.DMA_Cn_CTRL n) Fld.DMA_Cn_CTRL_MODE then 2 else 1
  !flg s (Reg.DMA_Cn_CTRL n) Fld.DMA_Cn_CTRL_ENABLE || decide (most ≤ r.regSets.length) || x.count == 0 || decide (2 ^ 30 < x.count) ||
    !dflagsOk holm x.dflags || (holm && !x.dflags.testBit 15 && !dmaDstOk x.dst x.count)

/-- Start a register set, or refuse it with START_ERR (R522). -/
def dmaStart (n : Nat) (s : State) : State :=
  if startRefused s n then wrB (Reg.DMA_Cn_STAT n) Fld.DMA_Cn_STAT_START_ERR true s
  else setDma n (fun r => { r with regs := r.regs ++ [regSet s n] }) s

/-- A write of DMA_Cn_CTRL (Table 18.6): the fields, then disabling (R531), STOP and START. MODE is kept while a set is loaded. -/
def writeDmaCtrl (n : Nat) (w : Word) (s : State) : State :=
  let old := rd s (Reg.DMA_Cn_CTRL n)
  let new := setF old Fld.DMA_Cn_CTRL_VECTOR (getF w Fld.DMA_Cn_CTRL_VECTOR)
  let new := setF new Fld.DMA_Cn_CTRL_ENABLE (getF w Fld.DMA_Cn_CTRL_ENABLE)
  let new := if (dmaOf s n).loaded then new else setF new Fld.DMA_Cn_CTRL_MODE (getF w Fld.DMA_Cn_CTRL_MODE)
  let s := wr (Reg.DMA_Cn_CTRL n) new s
  let s := if getB old Fld.DMA_Cn_CTRL_ENABLE && !getB new Fld.DMA_Cn_CTRL_ENABLE then dmaCancel n (dmaStopAll n s) else s
  let s := if getB w Fld.DMA_Cn_CTRL_STOP then dmaStopRegs n s else s
  if getB w Fld.DMA_Cn_CTRL_START then dmaStart n s else s

/-- The sum of RATE over all channels. -/
def rateSum (s : State) : Nat := ((List.range 128).map (fun i => fld s (Reg.DMA_RATEn i) Fld.DMA_RATEn_RATE)).sum

/-- A write of DMA_RATEn (R517). A RATE outside 1 to 320 is ignored with RATE_ERR too. DEDUCED. -/
def writeDmaRate (n : Nat) (w : Word) (s : State) : State :=
  let old := fld s (Reg.DMA_RATEn n) Fld.DMA_RATEn_RATE
  let new := getF w Fld.DMA_RATEn_RATE
  if new = 0 ∨ 320 < new ∨ 320 < rateSum s - old + new ∨ (new < old ∧ (contractsOn s .dma n) ≠ []) then
    wrB Reg.DMA_RATE_STAT Fld.DMA_RATE_STAT_RATE_ERR true s
  else
    let s := wrF (Reg.DMA_RATEn n) Fld.DMA_RATEn_PRIO (getF w Fld.DMA_RATEn_PRIO) (wrF (Reg.DMA_RATEn n) Fld.DMA_RATEn_RATE new s)
    wrF Reg.DMA_RATE_STAT Fld.DMA_RATE_STAT_SUM (rateSum s) s

/-! ### DMA_SUBMIT (R514) -/

/-- DMA_SUBMIT (Table 3.6). -/
def opDmaSubmit : OpInfo := ⟨0x0803, (2, 0), .any, some .dma, false, .fixed 20, false⟩

/-- The checks of Table 18.2 in order. -/
def dmaCheck (s : State) (c : Ctx) : Option (List Byte) :=
  let b := parseBlock c.pay
  let n := b.target
  let bytes := (parseCost .dma c.pay).amount
  let d := leAt c.pay 0x40 4
  let sc := dmaCtx s n d false
  let dc := dmaCtx s n d true
  let absent (f : Nat) : Bool := decide ((fnRec s f).state = .absent)
  if b.periodic ∨ bytes = 0 ∨ 2 ^ 30 < bytes then some (stOnly .costInvalid)
  else if 127 < n then some (stOff .paramInvalid 4)
  else if holdsTarget s c (obj 3 n) = false then some (stOff .notGranted 4)
  else if dflagsOk c.holm d = false then some (stOff .reservedSet 0x40)
  else if (d.testBit 15 && absent (natBits d 13 8)) || (d.testBit 7 && absent (natBits d 5 0)) then some (stOff .paramInvalid 0x40)
  else if ctxRange s sc false (leAt c.pay 0x30 8) bytes = false then some (stOff .addressFault 0x30)
  else if ctxRange s dc true (leAt c.pay 0x38 8) bytes = false ∨ (dc = none ∧ dmaDstOk (leAt c.pay 0x38 8) bytes = false) then some (stOff .addressFault 0x38)
  else if flg s (Reg.DMA_Cn_CTRL n) Fld.DMA_Cn_CTRL_ENABLE = false then some (stOnly .channelNotReady)
  else none

/-- The share of an object that its open contracts leave free, in 16.16 (R519, R527). -/
def objLeft (s : State) (k : Kind) (n : Nat) : Nat := 65536 - ((contractsOn s k n).map (fun c => c.unit)).sum

/-- The ticks for which a set occupies its channel (R68, R521). -/
def dmaUnits (s : State) (n bytes : Nat) (shared : Bool) : Nat :=
  let rate := fld s (Reg.DMA_RATEn n) Fld.DMA_RATEn_RATE
  let r := if shared then min rate 8 else rate
  if r = 0 then 2 ^ 62 else ceilDiv bytes r

/-- What DMA_SUBMIT asks of admission (R68, R519). -/
def dmaAsk (s : State) (c : Ctx) : AskFor :=
  let a := baseAsk c .dma s
  let n := a.blk.target
  let src := leAt c.pay 0x30 8
  let dst := leAt c.pay 0x38 8
  let d := leAt c.pay 0x40 4
  let shared := sharesPages s n src dst a.cost.amount d
  { a with drb := 2 * a.cost.amount, units := dmaUnits s n a.cost.amount shared, objRes := 7, objFree := objLeft s .dma n,
           params := [src, dst, d, bit shared] }

/-- Step 13 of DMA_SUBMIT (R514): CLOCK_LOST and FUNCTION_QUIESCED, Table 18.2, admission; the set waits in its channel. -/
def doDmaSubmit (c : Ctx) (s : State) : Ans :=
  match contractGuard s c.fn [] with
  | some st => .reply (stOnly st) s
  | none =>
    let n := (parseBlock c.pay).target
    match dmaCheck s c with
    | some p => .reply p (if p = stOff .notGranted 4 then (notGrantedTarget c (obj 3 n) 4 s).2 else s)
    | none =>
      let (p, s', k) := admitReply (dmaAsk s c) s
      match k with
      | none => .reply p s'
      | some k =>
        let x : DmaSet := { owner := some (k.fn, k.id), deadline := k.blk.deadline.toNat, s0 := k.s0, src := leAt c.pay 0x30 8, dst := leAt c.pay 0x38 8,
                            count := k.cost.amount, dflags := leAt c.pay 0x40 4 }
        .reply p (setDma n (fun r => { r with queue := r.queue ++ [x] }) s')

/-- Meaning of DMA_SUBMIT (R514). -/
def execDmaSubmit (t : Tick) (q : Request) (s : State) : Out := gcp opDmaSubmit t q doDmaSubmit s

/-! ### Check values (R524 to R529) -/

/-- The running value of a unit: STATE0 to STATE7 and COUNT (R525). -/
structure CvValue where
  state : List Word
  count : Nat
  deriving DecidableEq, Repr

/-- The initial state of an algorithm (Table 18.3); the words that it does not use stay. -/
def cvInit (alg : Nat) (v : CvValue) : CvValue :=
  match alg with
  | 3 => ⟨sha256Init, 0⟩
  | 2 => ⟨0xFFFF#32 :: v.state.tail, 0⟩
  | _ => ⟨0xFFFFFFFF#32 :: v.state.tail, 0⟩

/-- Absorb bytes; SHA-256 absorbs whole blocks of 64. -/
def cvAbsorb (alg : Nat) (bs : List Byte) (v : CvValue) : CvValue :=
  let s0 := (v.state.headD 0).toNat
  let w (x : Nat) : List Word := BitVec.ofNat 32 x :: v.state.tail
  match alg with
  | 0 => ⟨w (crcRefl 0x82F63B78 s0 bs), v.count + bs.length⟩
  | 1 => ⟨w (crcRefl 0xEDB88320 s0 bs), v.count + bs.length⟩
  | 2 => ⟨w (crc16 0x1021 s0 bs), v.count + bs.length⟩
  | _ => ⟨sha256Blocks (bs.length / 64) v.state bs, v.count + bs.length⟩

/-- Absorb the last bytes of a job, and finalise (R525). -/
def cvFinal (alg : Nat) (bs : List Byte) (v : CvValue) : CvValue :=
  match alg with
  | 3 =>
    let tail := bs.drop (bs.length / 64 * 64)
    let p := bs.take (bs.length / 64 * 64) ++ sha256Pad (v.count + bs.length) tail
    ⟨sha256Blocks (p.length / 64) v.state p, v.count + bs.length⟩
  | 2 => cvAbsorb 2 bs v
  | a =>
    let v := cvAbsorb a bs v
    ⟨(v.state.headD 0 ^^^ 0xFFFFFFFF#32) :: v.state.tail, v.count⟩

/-- The result bytes of a finalised value (R527): a CRC little-endian, a digest in FIPS byte order; 32 bytes, the rest 0. -/
def cvBytes (alg : Nat) (v : CvValue) : List Byte :=
  match alg with
  | 3 => slice (sha256Out v.state) 0 32
  | _ => slice (le 4 (v.state.headD 0).toNat) 0 32

/-- The value that a unit's registers hold. -/
def cvValue (s : State) (u : Nat) : CvValue :=
  ⟨(List.range 8).map (fun i => rd s (Reg.CV_Un_STATEi u i)), (rd s (Reg.CV_Un_COUNT_LO u)).toNat + 2 ^ 32 * (rd s (Reg.CV_Un_COUNT_HI u)).toNat⟩

/-- Put a value into a unit's registers. -/
def putCvValue (u : Nat) (v : CvValue) (s : State) : State :=
  let s := (List.range 8).foldl (fun (s : State) i => wr (Reg.CV_Un_STATEi u i) (v.state.getD i 0) s) s
  wr (Reg.CV_Un_COUNT_HI u) (BitVec.ofNat 32 (v.count / 2 ^ 32)) (wr (Reg.CV_Un_COUNT_LO u) (BitVec.ofNat 32 v.count) s)

/-- The first failing check of R528 for a GO write, 0 when all pass. -/
def goError (s : State) (u : Nat) (w : Word) : Nat :=
  let alg := getF w Fld.CV_Un_CTRL_ALG
  let len := fld s (Reg.CV_Un_LEN u) Fld.CV_Un_LEN_LEN
  let final := getB w Fld.CV_Un_CTRL_FINAL
  let resv := natBits w.toNat 31 30 + natBits w.toNat 23 22 + natBits w.toNat 15 11 + natBits w.toNat 7 6 + natBits w.toNat 3 2
  let count := if getB w Fld.CV_Un_CTRL_INIT then 0 else (cvValue s u).count
  if resv ≠ 0 ∨ (holmOwned s (obj 4 u) = false ∧ getB w Fld.CV_Un_CTRL_CTX_EN) then 1
  else if 2 ^ 30 < len ∨ (len = 0 ∧ final = false) then 2
  else if alg = 3 ∧ final = false ∧ (len % 64 ≠ 0 ∨ count % 64 ≠ 0) then 3
  else if getB w Fld.CV_Un_CTRL_INIT = false ∧ flg s (Reg.CV_Un_STAT u) Fld.CV_Un_STAT_FINALISED then 4
  else if flg s (Reg.CV_Un_STAT u) Fld.CV_Un_STAT_BUSY then 5
  else 0

/-- The context of a unit's register job: a function's IOVAs, none for a DPA (R526, Table 18.8). -/
def cvCtx (s : State) (u : Nat) (w : Word) : Option Nat :=
  match holderOf s (obj 4 u) with
  | some h => if h.holm then (if getB w Fld.CV_Un_CTRL_CTX_EN then some (getF w Fld.CV_Un_CTRL_FN) else none) else some h.fn
  | none => none

/-- Start a register job (R528). -/
def cvGo (u : Nat) (w : Word) (s : State) : State :=
  let e := goError s u w
  if e ≠ 0 then wrF (Reg.CV_Un_STAT u) Fld.CV_Un_STAT_CFG_ERR e s
  else
    let alg := getF w Fld.CV_Un_CTRL_ALG
    let addr := (rd s (Reg.CV_Un_ADDR_LO u)).toNat + 2 ^ 32 * (rd s (Reg.CV_Un_ADDR_HI u)).toNat
    let job := (addr, fld s (Reg.CV_Un_LEN u) Fld.CV_Un_LEN_LEN, alg, getB w Fld.CV_Un_CTRL_FINAL, cvCtx s u w)
    let s := if getB w Fld.CV_Un_CTRL_INIT then putCvValue u (cvInit alg (cvValue s u)) s else s
    let st := rd s (Reg.CV_Un_STAT u)
    let st := setF (setB (setB (setB st Fld.CV_Un_STAT_BUSY true) Fld.CV_Un_STAT_PAUSED false) Fld.CV_Un_STAT_FINALISED false) Fld.CV_Un_STAT_CFG_ERR 0
    setCv u (fun r => { r with reg := some job, pause := false }) (wr (Reg.CV_Un_STAT u) st s)

/-- A write of CV_Un_CTRL (Table 18.8): the fields, then PAUSE and GO. The fields that a running job uses are those of its GO write. -/
def writeCvCtrl (u : Nat) (w : Word) (s : State) : State :=
  let resv : Word := 0x3F3F0730#32
  let err := if getB w Fld.CV_Un_CTRL_GO then goError s u w else 0
  let s := if err ≠ 0 then s else wr (Reg.CV_Un_CTRL u) (w &&& resv) s
  let s := if getB w Fld.CV_Un_CTRL_PAUSE then setCv u (fun r => { r with pause := r.reg.isSome }) s else s
  if getB w Fld.CV_Un_CTRL_GO then cvGo u w s else s

/-- Reads of a unit that fault: FAULTED and the record (R530). -/
def cvNote (u : Nat) (ctx : Option Nat) (a n : Nat) (s : State) : State :=
  let bad := (ctxFaults s ctx false a n).isSome
  let s := ctxNote (holmOwned s (obj 4 u)) 3 ctx false a n s
  if bad then wrB (Reg.CV_Un_STAT u) Fld.CV_Un_STAT_FAULTED true s else s

/-- A register job ends (R528): the value, FINALISED, DONE and the source; BUSY clears. -/
def cvRegDone (u : Nat) (job : Nat × Nat × Nat × Bool × Option Nat) (s : State) : State :=
  let (a, n, alg, final, ctx) := job
  let bs := ctxRead s ctx a n
  let s := cvNote u ctx a n s
  let v := cvValue s u
  let s := putCvValue u (if final then cvFinal alg bs v else cvAbsorb alg bs v) s
  let st := setB (setB (setB (rd s (Reg.CV_Un_STAT u)) Fld.CV_Un_STAT_BUSY false) Fld.CV_Un_STAT_DONE true) Fld.CV_Un_STAT_FINALISED final
  raiseSource (obj 8 (0x280 + u)) (fld s (Reg.CV_Un_CTRL u) Fld.CV_Un_CTRL_VECTOR)
    (setCv u (fun r => { r with reg := none, pause := false }) (wr (Reg.CV_Un_STAT u) st s))

/-- A register job stops after `k` bytes (R529): ADDR and LEN are written back, PAUSED is set, BUSY clears. -/
def cvPauseAt (u : Nat) (job : Nat × Nat × Nat × Bool × Option Nat) (k : Nat) (s : State) : State :=
  let (a, n, alg, _, ctx) := job
  let s := if n ≤ k then cvRegDone u job s
    else
      let bs := ctxRead s ctx a k
      setCv u (fun r => { r with reg := none, pause := false }) (putCvValue u (cvAbsorb alg bs (cvValue s u)) (cvNote u ctx a k s))
  let s := wr (Reg.CV_Un_ADDR_HI u) (BitVec.ofNat 32 ((a + min k n) / 2 ^ 32)) (wr (Reg.CV_Un_ADDR_LO u) (BitVec.ofNat 32 (a + min k n)) s)
  let s := wr (Reg.CV_Un_LEN u) (BitVec.ofNat 32 (n - k)) s
  wr (Reg.CV_Un_STAT u) (setB (setB (rd s (Reg.CV_Un_STAT u)) Fld.CV_Un_STAT_PAUSED true) Fld.CV_Un_STAT_BUSY false) s

/-- Meaning of CV_PAUSED (R529): the job has absorbed `bytes` bytes, whole blocks of 64 or its whole length, and stops. -/
def execCvPaused (t : Tick) (unit : BitVec 2) (bytes : BitVec 31) (s : State) : Out :=
  let s := advance t s
  let u := unit.toNat
  let r := cvOf s u
  match r.reg with
  | none => .next s
  | some job => if r.pause ∧ (bytes.toNat % 64 = 0 ∨ job.2.1 ≤ bytes.toNat) then .next (cvPauseAt u job bytes.toNat s) else .next s

/-- Does job `a` come before job `b` (R515, R527)? -/
def jobBefore (a b : CvJob) : Bool := decide (a.deadline < b.deadline) || (a.deadline == b.deadline && decide (a.id < b.id))

/-- The contracted job that a unit serves: the first of those that are ready. -/
def cvCurrent (now : Tick) (r : CvRec) : Option CvJob :=
  (r.jobs.filter (fun j => decide (j.s0 ≤ now))).foldl (fun b x => match b with | none => some x | some y => if jobBefore x y then some x else some y) none

/-- Keep a delivered value: the last 16 of its function and world stay (R527). -/
def keepResult (x : CvResult) (l : List CvResult) : List CvResult :=
  let l := l ++ [x]
  let same (y : CvResult) : Bool := y.fn == x.fn && y.holm == x.holm
  if (l.filter same).length ≤ 16 then l else l.eraseP same

/-- A contracted job ends (R527): its value can be read; its contract is delivered, or breached for data past correction (R530). -/
def cvJobDone (u : Nat) (j : CvJob) (s : State) : State :=
  let ctx : Option Nat := if j.holm then none else some j.fn
  let bs := ctxRead s ctx j.addr j.len
  let poison := ctxPoison s ctx j.addr j.len
  let s := cvNote u ctx j.addr j.len s
  let v := cvFinal j.alg bs (cvInit j.alg ⟨List.replicate 8 0, 0⟩)
  let s := setCv u (fun r => { r with jobs := r.jobs.filter (fun x => x != j) }) s
  let s := { s with mv := { s.mv with results := keepResult ⟨j.fn, j.holm, j.id, j.alg, cvBytes j.alg v⟩ s.mv.results } }
  match contractOf s j.fn j.id with
  | none => s
  | some c => if poison then breach c .deviceFault 0xFF s.gtb s else finish c.fn c.id c.inst s.gtb 0 s

/-- Meaning of CV_JOB_DONE (R527, R528): the contracted job that the unit serves ends, else its register job. -/
def execCvJobDone (t : Tick) (unit : BitVec 2) (s : State) : Out :=
  let s := advance t s
  let u := unit.toNat
  let r := cvOf s u
  if gateOn s (0x21 + u) = false then .next s
  else match cvCurrent s.gtb r with
  | some j => .next (cvJobDone u j s)
  | none =>
    match r.reg with
    | some job => .next (cvRegDone u job s)
    | none => .next s

/-- The check-value job of a contract stops; its partial value is discarded (Table 18.5). -/
def cvWithdraw (u fn id : Nat) (s : State) : State := setCv u (fun r => { r with jobs := r.jobs.filter (fun j => !(j.fn == fn && j.id == id)) }) s

/-- Register work of a unit is discarded (Table 18.5). -/
def cvDiscard (u : Nat) (s : State) : State :=
  wrB (Reg.CV_Un_STAT u) Fld.CV_Un_STAT_BUSY false (setCv u (fun r => { r with reg := none, pause := false }) s)

/-- CHECK_SUBMIT (Table 3.6). -/
def opCheckSubmit : OpInfo := ⟨0x0804, (2, 0), .any, some .check, false, .fixed 12, false⟩

/-- The context of CHECK_SUBMIT: DPAs on a Holm-owned unit, the granted function's IOVAs else (R526). -/
def checkCtx (c : Ctx) : Option Nat := if c.holm then none else some c.fn

/-- The checks of Table 18.4 in order. -/
def checkCheck (s : State) (c : Ctx) : Option (List Byte) :=
  let b := parseBlock c.pay
  let bytes := (parseCost .check c.pay).amount
  if b.periodic ∨ bytes = 0 ∨ 2 ^ 30 < bytes then some (stOnly .costInvalid)
  else if 3 < b.target then some (stOff .paramInvalid 4)
  else if holdsTarget s c (obj 4 b.target) = false then some (stOff .notGranted 4)
  else if leAt c.pay 0x39 3 ≠ 0 then some (stOff .reservedSet 0x39)
  else if 3 < leAt c.pay 0x38 1 then some (stOff .paramInvalid 0x38)
  else if ctxRange s (checkCtx c) false (leAt c.pay 0x30 8) bytes = false then some (stOff .addressFault 0x30)
  else none

/-- Does a range lie in DRAM (R68)? -/
def inDram (s : State) (ctx : Option Nat) (a n : Nat) : Bool := (physPages s ctx false a n).any (fun p => p.1 == 0 && decide (p.2 < vatBase / 4096))

/-- What CHECK_SUBMIT asks of admission (R68, R527). -/
def checkAsk (s : State) (c : Ctx) : AskFor :=
  let a := baseAsk c .check s
  let u := a.blk.target
  let alg := leAt c.pay 0x38 1
  let addr := leAt c.pay 0x30 8
  { a with drb := if inDram s (checkCtx c) addr a.cost.amount then a.cost.amount else 0, units := ceilDiv a.cost.amount (if alg = 3 then 16 else 64),
           objRes := 0xA, objFree := objLeft s .check u, params := [addr, alg] }

/-- Step 13 of CHECK_SUBMIT (R526): CLOCK_LOST and FUNCTION_QUIESCED, Table 18.4, BLOCK_GATED, admission. -/
def doCheckSubmit (c : Ctx) (s : State) : Ans :=
  match contractGuard s c.fn [] with
  | some st => .reply (stOnly st) s
  | none =>
    let u := (parseBlock c.pay).target
    match checkCheck s c with
    | some p => .reply p (if p = stOff .notGranted 4 then (notGrantedTarget c (obj 4 u) 4 s).2 else s)
    | none =>
      match contractGuard s c.fn (gatesNeeded .check u) with
      | some st => .reply (stOnly st) s
      | none =>
        let (p, s', k) := admitReply (checkAsk s c) s
        match k with
        | none => .reply p s'
        | some k =>
          let j : CvJob := { fn := k.fn, id := k.id, holm := k.holm, deadline := k.blk.deadline.toNat, s0 := k.s0, addr := leAt c.pay 0x30 8,
                             len := k.cost.amount, alg := leAt c.pay 0x38 1 }
          .reply p (setCv u (fun r => { r with jobs := r.jobs ++ [j] }) s')

/-- Meaning of CHECK_SUBMIT (R526). -/
def execCheckSubmit (t : Tick) (q : Request) (s : State) : Out := gcp opCheckSubmit t q doCheckSubmit s

/-- CHECK_RESULT (Table 3.6). -/
def opCheckResult : OpInfo := ⟨0x0805, (2, 0), .any, none, true, .fixed 4, false⟩

/-- Step 13 of CHECK_RESULT (R527). -/
def doCheckResult (c : Ctx) (s : State) : Ans :=
  match s.mv.results.reverse.find? (fun x => x.fn == c.fn && x.holm == c.holm && x.id == leAt c.pay 0 4) with
  | some x => .reply (stDone (le 1 x.alg ++ le 3 0 ++ x.value)) s
  | none => .reply (stOff .paramInvalid 0) s

/-- Meaning of CHECK_RESULT (R527). -/
def execCheckResult (t : Tick) (q : Request) (s : State) : Out := gcp opCheckResult t q doCheckResult s

end Sys2Proof.Machine
end

