-- ==== Sys2Proof/Machine/Sessions.lean ====
section
/-!
DEFINITION. Sessions.lean: rings and doorbells (R104 to R110), the SPI management port (R111 to R113), identity and sessions (chapter 4), management stalls (R85).
-/

namespace Sys2Proof.Machine

open Sys2Proof

/-! ### Rings -/

/-- Is a doorbell value accepted (R106)? -/
def doorbellOk (r : RingRec) (piNew : Nat) : Bool :=
  decide (modDist 128 r.ri piNew ≤ 64) && decide (modDist 128 r.pi piNew ≤ modDist 128 r.ri piNew)

/-- A doorbell on a ring's record at a stamp (R106): each packet it makes available carries the stamp. -/
def doorbell (piNew : Nat) (stamp : Tick) (r : RingRec) : RingRec :=
  if doorbellOk r piNew then
    { r with pi := piNew, stamps := r.stamps ++ List.replicate (modDist 128 r.pi piNew) stamp }
  else { r with dbOverrun := true }

/-- Is a ring reset free to take effect (R110): no packet in progress, ENABLE 0? -/
def resetFree (r : RingRec) : Bool := r.busy.isNone && !r.enable

/-- The ring after a reset: indices 0, packets not fetched discarded (R110). -/
def ringZero (r : RingRec) : RingRec := { r with pi := 0, ci := 0, ri := 0, stamps := [], resetPending := false }

/-- Meaning of RING_RESET_TAKES_EFFECT (R110). -/
def execRingResetTakesEffect (t : Tick) (fn : Fn) (holm : Bool) (s : State) : Out :=
  let s := advance t s
  if portExists (.ring fn holm) then
    .next (setRing fn.val holm (fun r => if r.resetPending && resetFree r then ringZero r else r) s)
  else .fault .noSuchWindow

/-- Meaning of RING_FETCH_ERROR: the slot read ends in a bus error; FETCH_ERR is set, ENABLE cleared, the slot gets no reply (R110). -/
def execRingFetchError (t : Tick) (fn : Fn) (holm : Bool) (s : State) : Out :=
  let s := advance t s
  if portExists (.ring fn holm) then
    (if ringOpen s fn.val holm then .next (setRing fn.val holm (fun r => { r with fetchErr := true, enable := false }) s)
     else .next s)
  else .fault .noSuchWindow

/-! ### The SPI management port -/

/-- Is a WRITE_PACKET transaction well framed (R112): LENGTH agrees with the header and every byte was sent? -/
def spiFramed (length : Nat) (bytes : List Byte) : Bool :=
  decide (bytes.length ≥ length) && decide (16 ≤ length) &&
    length == 16 + leAt bytes 12 2 + 4 + (if (leAt bytes 14 2).testBit 2 then 8 else 0)

/-- Meaning of SPI_WRITE_PACKET (R111, R112): the port holds the packet, or drops it with OVERRUN or FRAMING. -/
def execSpiWritePacket (t : Tick) (length : BitVec 16) (bytes : List Byte) (s : State) : Out :=
  let s := advance t s
  if s.gcp.spi.busy || s.gcp.spi.replyReady then .next (setSpi (fun r => { r with overrun := true }) s)
  else if spiFramed length.toNat bytes then
    .next (setSpi (fun r => { r with busy := true, held := bytes.take length.toNat, heldStamp := s.gtb }) s)
  else .next (setSpi (fun r => { r with framing := true }) s)

/-- The status byte of the port (Table 3.13). -/
def spiStatus (r : SpiRec) : Nat := bit r.replyReady + 2 * bit r.busy + 4 * bit r.overrun + 8 * bit r.framing

/-- Meaning of SPI_READ_STATUS: the byte goes out, OVERRUN and FRAMING clear (R111). -/
def execSpiReadStatus (t : Tick) (s : State) : Out :=
  let s := advance t s
  .next (setSpi (fun r => { r with overrun := false, framing := false }) { s with busData := BitVec.ofNat 32 (spiStatus s.gcp.spi) })

/-- Meaning of SPI_READ_REPLY: LENGTH and the reply go out (LENGTH 0 when none is ready), REPLY_READY clears (R111). The read data window shows LENGTH. -/
def execSpiReadReply (t : Tick) (s : State) : Out :=
  let s := advance t s
  let n := if s.gcp.spi.replyReady then s.gcp.spi.reply.length else 0
  .next (setSpi (fun r => { r with replyReady := false }) { s with busData := BitVec.ofNat 32 n })

/-! ### Identity -/

/-- REG_DEVICE_ID (R2, Table 0.2). -/
def deviceId (s : State) : Nat := 0x0880B000 + 16 * (s.boot.otp.grade % 16)

/-- The reply fields of IDENTIFY (R140, Table 3.6); in ROM recovery the stop code (R594). -/
def identifyFields (s : State) (fn : Nat) : List Byte :=
  match s.boot.recovery with
  | some c => le 4 (deviceId s) ++ [0, 0] ++ le 2 c ++ [0xFF, 0, 0, 0, 0] ++ le 1 fn ++ le 2 0
  | none =>
    let v := s.boot.version
    le 4 (deviceId s) ++ le 1 (natBits v 31 24) ++ le 1 (natBits v 23 16) ++ le 2 (natBits v 15 0) ++ le 1 s.boot.slot ++
      [3, 2, 2, 0] ++ le 1 fn ++ le 2 0

/-- IDENTIFY (Table 3.6). -/
def opIdentify : OpInfo := ⟨0x0100, (2, 0), .any, none, true, .fixed 0, true⟩

/-- Step 13 of IDENTIFY (R140). -/
def doIdentify (c : Ctx) (s : State) : Ans := .reply (stDone (identifyFields s c.fn)) s

/-- Meaning of IDENTIFY. -/
def execIdentify (t : Tick) (q : Request) (s : State) : Out := gcp opIdentify t q doIdentify s

/-! ### Opening a session -/

/-- The minor versions this firmware serves (R140): 2.0 to 2.3, 3.0 to 3.2. -/
def topMinor (major : Nat) : Option Nat := if major = 2 then some 3 else if major = 3 then some 2 else none

/-- The version granted to a request for (M, m) (R140). -/
def grantVersion (major minor : Nat) : Option (Nat × Nat) :=
  match topMinor major with
  | none => none
  | some h => some (major, min minor h)

/-- The key that a KEY_ID names, whether it is a Holm key, its LAB attribute and its requester mask (R119, Table 4.2). -/
def keyOf (s : State) (id : Nat) : Option (List Byte × Bool × Bool × Nat) :=
  if 1 ≤ id ∧ id ≤ 4 then
    let k := s.boot.otp.keys.getD (id - 1) {}
    if k.valid && !k.revoked then some (k.key, true, k.lab, 2 ^ 65 - 1) else none
  else if 0x00010000 ≤ id ∧ id ≤ 0x0001000F then
    (s.boot.mainKeys.find? (fun k => k.id == id)).map (fun k => (k.key, false, false, k.mask))
  else none

/-- The bit of a port in a requester mask (Table 4.2). -/
def maskBit : Port → Nat
  | .ring fn _ => fn.val
  | .spi => 64

/-- Does R119 let a session of a class name the key from a port? -/
def keyPermits (s : State) (p : Port) (holm : Bool) (id : Nat) : Bool :=
  match keyOf s id with
  | none => false
  | some (_, h, _, m) => h == holm && m.testBit (maskBit p)

/-- Sessions pending or open on a port (Table 4.4). -/
def portSessions (s : State) (p : Port) : Nat :=
  (s.gcp.sessions.filter (fun x => x.port == p && !(x.state == .expired))).length

/-- Sessions pending or open on the device (Table 4.4). -/
def liveSessions (s : State) : Nat := (s.gcp.sessions.filter (fun x => !(x.state == .expired))).length

/-- The most sessions of a port (Table 4.4). -/
def portLimit : Port → Nat
  | .ring _ holm => if holm then 2 else 4
  | .spi => 2

/-- The authentication record of a port. -/
def authRec (s : State) (p : Port) : AuthRec := tget {} s.gcp.auth (portKey p)

/-- Is a port locked at a stamp (R128)? -/
def lockedAt (a : AuthRec) (t : Tick) : Bool :=
  match a.lock with
  | none => false
  | some (b, e) => decide (b ≤ t) && decide (t < e)

/-- The checks of R122, after the lock of R128; the first failure decides. -/
def sessionOpenCheck (c : Ctx) (s : State) : Option (List Byte) :=
  let cls := leAt c.pay 0 1
  let opts := leAt c.pay 3 1
  let keyId := leAt c.pay 4 4
  if lockedAt (authRec s c.port) c.stamp then some (stOnly .sessionLimit)
  else if 1 < cls then some (stOff .paramInvalid 0)
  else if cls = 1 ∧ portHolm c.port = false then some (stOnly .worldDenied)
  else if opts / 2 ≠ 0 then some (stOff .reservedSet 3)
  else if (slice c.pay 8 32).all (· == 0) then some (stOff .paramInvalid 8)
  else if keyPermits s c.port (cls == 1) keyId = false then some (stOff .paramInvalid 4)
  else if grantVersion (leAt c.pay 1 1) (leAt c.pay 2 1) = none then some (stOnly .versionUnsupported)
  else if portLimit c.port ≤ portSessions s c.port ∨ 160 ≤ liveSessions s then some (stOnly .sessionLimit)
  else none

/-- A tag made from a drawn number: never 0 and never held (R118). The first number of the walk that no slot holds is taken. -/
def freshTag (s : State) : Nat → Nat → Word
  | 0, n => BitVec.ofNat 32 (n + 1)
  | k + 1, n =>
    let w := BitVec.ofNat 32 n
    if w ≠ 0 ∧ (sessionOf s w).isNone then w else freshTag s k (n + 1)

/-- SESSION_OPEN (Table 3.6). -/
def opSessionOpen : OpInfo := ⟨0x0101, (2, 0), .any, none, true, .fixed 40, true⟩

/-- The slot that a SESSION_OPEN places in PENDING (R122). -/
def newSession (c : Ctx) (s : State) (tag : Word) (dn : List Byte) (ver : Nat × Nat) : Session :=
  { tag := tag, state := .pending, port := c.port, holm := leAt c.pay 0 1 == 1, verMajor := ver.1, verMinor := ver.2,
    options := byteAt c.pay 3, keyId := leAt c.pay 4 4, hostNonce := slice c.pay 8 32, deviceNonce := dn, pk := [],
    tOpen := c.stamp, r := c.stamp, h := 0, cache := [], expiredAt := 0,
    lab := (match keyOf s (leAt c.pay 4 4) with
            | some (_, _, lab, _) => lab && flg s Reg.ISO_DBG Fld.ISO_DBG_WATCH_H && leAt c.pay 0 1 == 1
            | none => false) }

/-- Step 13 of SESSION_OPEN (R122). -/
def doSessionOpen (c : Ctx) (s : State) : Ans :=
  match sessionOpenCheck c s with
  | some pay => .reply pay s
  | none =>
    match grantVersion (leAt c.pay 1 1) (leAt c.pay 2 1) with
    | none => .reply (stOnly .versionUnsupported) s
    | some ver =>
      let (n, s) := draw s
      let (dn, s) := drawBytes 32 s
      let tag := freshTag s (s.gcp.sessions.length + 2) n
      let x := newSession c s tag dn ver
      .reply (stDone (le 4 tag.toNat ++ le 1 ver.1 ++ le 1 ver.2 ++ le 2 0 ++ dn))
        { s with gcp := { s.gcp with sessions := s.gcp.sessions ++ [x] } }

/-- Meaning of SESSION_OPEN. -/
def execSessionOpen (t : Tick) (q : Request) (s : State) : Out := gcp opSessionOpen t q doSessionOpen s

/-! ### Proving a session -/

/-- The 80-byte proof input (Table 4.3). -/
def proofInput (x : Session) (device : Bool) : List Byte :=
  ascii (if device then "GCP-DEVC" else "GCP-HOST") ++
    (if device then x.hostNonce ++ x.deviceNonce else x.deviceNonce ++ x.hostNonce) ++
    le 4 x.tag.toNat ++ le 1 (bit x.holm) ++ le 1 x.verMajor ++ le 1 x.verMinor ++ [x.options]

/-- The packet key (R129). -/
def packetKey (x : Session) (k : List Byte) : List Byte :=
  hkdf32 (x.hostNonce ++ x.deviceNonce) k
    (ascii "GCP packet key" ++ le 4 x.tag.toNat ++ le 1 (bit x.holm) ++ le 1 x.verMajor ++ le 1 x.verMinor)

/-- An AUTH_FAILED reply counts (R128): the fourth inside a window of 200,000,000 ticks locks the port for as long. -/
def authFail (stamp : Tick) (a : AuthRec) : AuthRec :=
  let st := (a.stamps ++ [stamp]).filter (fun x => decide (stamp < x + 200000000))
  { a with stamps := st, fails := (a.fails + 1) % 65536,
           lock := if 4 ≤ st.length then some (stamp, stamp + 200000000) else a.lock }

/-- SESSION_PROVE (Table 3.6). -/
def opSessionProve : OpInfo := ⟨0x0102, (2, 0), .any, none, false, .fixed 32, true⟩

/-- Step 13 of SESSION_PROVE (R126). -/
def doSessionProve (c : Ctx) (s : State) : Ans :=
  match c.ses with
  | none => .reply (stOnly .sessionUnknown) s
  | some x =>
    let k := match keyOf s x.keyId with | some (k, _, _, _) => k | none => []
    if (keyOf s x.keyId).isSome && slice c.pay 0 32 == hmac k (proofInput x false) then
      .reply (stDone (hmac k (proofInput x true)))
        (setSession x.tag (fun y => { y with state := .opened, pk := packetKey x k }) s)
    else
      .reply (stOnly .authFailed)
        (freeSession x.tag { s with gcp := { s.gcp with auth := tmod {} s.gcp.auth (portKey c.port) (authFail c.stamp) } })

/-- Meaning of SESSION_PROVE. -/
def execSessionProve (t : Tick) (q : Request) (s : State) : Out := gcp opSessionProve t q doSessionProve s

/-- Meaning of AUTH_LOCK_END (R128): the lock lapses at its end. -/
def execAuthLockEnd (t : Tick) (port : Port) (s : State) : Out :=
  let s := advance t s
  if portExists port then
    .next { s with gcp := { s.gcp with auth := tmod {} s.gcp.auth (portKey port) (fun a =>
      match a.lock with
      | some (_, e) => if e ≤ s.gtb then { a with lock := none } else a
      | none => a) } }
  else .fault .noSuchWindow

/-- Meaning of PENDING_LIMIT (R124): a pending session not proved within 40,000,000 ticks is freed. -/
def execPendingLimit (t : Tick) (tag : Word) (s : State) : Out :=
  let s := advance t s
  match sessionOf s tag with
  | some x => if x.state = .pending ∧ x.tOpen + 40000000 ≤ s.gtb then .next (freeSession tag s) else .next s
  | none => .next s

/-! ### Ends of sessions -/

/-- SESSION_KEEPALIVE (Table 3.6). -/
def opSessionKeepalive : OpInfo := ⟨0x0104, (3, 0), .any, none, true, .fixed 0, true⟩

/-- Step 13 of SESSION_KEEPALIVE (R134): the GTB at processing and the expiry that follows from the refreshed window. -/
def doSessionKeepalive (c : Ctx) (s : State) : Ans :=
  match c.ses with
  | none => .reply (stOnly .sessionUnknown) s
  | some x => .reply (stDone (le 8 s.gtb ++ le 8 (expiry { x with r := c.stamp }))) s

/-- Meaning of SESSION_KEEPALIVE. -/
def execSessionKeepalive (t : Tick) (q : Request) (s : State) : Out := gcp opSessionKeepalive t q doSessionKeepalive s

/-- Meaning of EXPIRED_TAG_RELEASE (R135): 12,000,000,000 ticks after expiry the tag is released and its packet key erased. -/
def execExpiredTagRelease (t : Tick) (tag : Word) (s : State) : Out :=
  let s := advance t s
  match sessionOf s tag with
  | some x => if x.state = .expired ∧ x.expiredAt + 12000000000 ≤ s.gtb then .next (freeSession tag s) else .next s
  | none => .next s

/-! ### Management stalls (R40, R85) -/

/-- Meaning of MANAGEMENT_STALL: packets wait unanswered and idle windows stop; the data plane goes on. -/
def execManagementStall (t : Tick) (s : State) : Out :=
  let s := advance t s
  if s.gcp.stalled then .next s
  else .next { s with gcp := { s.gcp with stalled := true, stallSince := s.gtb } }

/-- Meaning of MGMT_STALL_RESUME (R85, R133): waiting packets can be taken, and every open session's idle window moves by the time of the stall. -/
def execMgmtStallResume (t : Tick) (s : State) : Out :=
  let s := advance t s
  if s.gcp.stalled then
    .next { s with gcp := { s.gcp with
      stalled := false,
      sessions := s.gcp.sessions.map (fun x => if x.state = .opened then { x with r := x.r + (s.gtb - s.gcp.stallSince) } else x) } }
  else .next s

end Sys2Proof.Machine
end

