-- ==== Sys2Proof/Machine/Lifecycle.lean ====
section
/-!
DEFINITION. Lifecycle.lean: how contracts begin, miss their deadlines and are cancelled (R49 to R54, R74 to R90), the ledger's opcodes (R64, R633), how sessions end (R131 to R138).
-/

namespace Sys2Proof.Machine

open Sys2Proof

/-! ### Stopping the work of a contract (R81) -/

/-- The holder for which a contract acts on an output (R368). -/
def contractHolder (c : Contract) : Holder := if c.holm then ⟨true, 0⟩ else ⟨false, c.fn⟩

/-- Stop the work of a contract at the next instruction boundary, beat or block (R81). -/
def stopWork (c : Contract) (s : State) : State :=
  match c.kind with
  | .render => stopJobs c.fn c.id s
  | .compute => stopJobs c.fn c.id s
  | .commit =>
    if (outSt s c.blk.target).commits.any (fun p => p.fn == c.fn && p.id == c.id && !p.taken) then withdrawCommit c.blk.target (contractHolder c) s else s
  | .cream => withdrawCream c.fn c.id (stopJobs c.fn c.id s)
  | .audio => withdrawBuffer c.fn c.id s
  | .haptic => withdrawEffect c.fn c.id s
  | .dma => dmaWithdraw c.blk.target c.fn c.id s
  | .check => cvWithdraw c.blk.target c.fn c.id s

/-- Return what the pending commits of every output no longer need. -/
def trimAll (s : State) : State := (List.range 8).foldl (fun s n => trimQueue n s) s

/-- Cancel a contract with its work, the record going to a queue (R81, R82), and with it its successors (R80). -/
def cancelWorkTo (q : Nat × Bool) (c : Contract) (stamp : Tick) (s : State) : State := trimAll (cancelChain 16 q c stamp (stopWork c s))

/-- Cancel a contract with its work, the record going to its own queue. -/
def cancelWork (c : Contract) (stamp : Tick) (s : State) : State := cancelWorkTo (recordQueue c) c stamp s

/-- Cancel the contracts that satisfy a predicate, in order of signing; those that an earlier cancel of the list has ended are skipped. -/
def cancelWhere (p : Contract → Bool) (s : State) : State :=
  (s.ledger.contracts.filter p).foldl (fun s c => match contractOf s c.fn c.id with | some x => cancelWork x s.gtb s | none => s) s

/-! ### Beginning and deadline of an instance -/

/-- May work on the present instance begin (R50, R52)? A locked instance waits for its latch point, unless its RELEASE lies before it. -/
def released (s : State) (c : Contract) : Bool :=
  c.phase == .waiting &&
  (c.inst != 0 || decide (c.s0 ≤ s.gtb)) && decide ((instWindow s c).1 ≤ s.gtb) &&
  (!c.blk.locked || !c.latches.isEmpty || (decide (c.blk.release < 0) && (latchFrom s (lockOut c.blk) (c.t0 + c.hk)).isSome))

/-- Begin the work of an instance: a RENDER or COMPUTE job becomes ready, a CHECK job is loaded. The raster half of a self-test runs in the unit's own time. -/
def beginWork (c : Contract) (s : State) : State :=
  let run (s : State) : State := setContract c.fn c.id (fun x => { x with phase := .running, startedAt := s.gtb }) s
  match c.kind with
  | .render => if c.params.isEmpty then run s else startJob c (run s)
  | .compute => startJob c (run s)
  | .check => run s
  | .commit => s
  | .cream => s
  | .audio => s
  | .haptic => s
  | .dma => s

/-- Meaning of INSTANCE_RELEASE (R50, R52): at its release the work of a RENDER, COMPUTE or CHECK instance begins. The other kinds begin with the steps of their own blocks. -/
def execInstanceRelease (t : Tick) (fn : Fn) (id : Word) (s : State) : Out :=
  let s := advance t s
  match contractOf s fn.val id.toNat with
  | none => .next s
  | some c => if released s c then .next (beginWork c s) else .next s

/-- Is a CREAM item being verified in a frame that opened before its deadline (R398, R415)? Its fate is known at the end of that frame. -/
def creamPending (s : State) (c : Contract) : Bool :=
  let n := c.blk.target
  let k := crlSt s n
  let d := (instWindow s c).2
  let mine (o : Option (Nat × Nat × Nat)) : Bool := o == some (c.fn, c.id, c.inst)
  (match k.shown with
   | some (f, i, j, r) => f == c.fn && i == c.id && j == c.inst && decide (k.cur.opened < d) && k.next.isNone && k.blanked &&& r == 0 && k.state != 3
   | none => false) ||
  (match k.flipTaken with | some f => mine f.owner && decide ((outSt s n).lastLatch < d) | none => false)

/-- Why an instance that was not delivered by its deadline is breached, and who bears it (Table 2.14). -/
def missReason (s : State) (c : Contract) : Reason × Nat :=
  if lossMeets s c then (.clockLost, 0xFF)
  else match c.depCharged with
    | some p => (.dependency, p)
    | none =>
      if c.overran then (.costOverrun, c.fn)
      else match c.kind with
        | .cream => (.signatureMismatch, 0xFF)
        | .haptic => if hapState s c.blk.target = 5 then (.deviceFault, 0xFF) else (.hapticLimit, c.fn)
        | .dma =>
          if (dmaOf s c.blk.target).contracted.any (fun x => x.owner == some (c.fn, c.id) && dmaAliasLate x c) then (.costOverrun, c.fn) else (.deviceFault, 0xFF)
        | _ => (.deviceFault, 0xFF)

/-- Meaning of CONTRACT_DEADLINE (R50, R87): an instance not delivered by its deadline is breached; work of a function that is being quiesced stops there (R204). -/
def execContractDeadline (t : Tick) (fn : Fn) (id : Word) (s : State) : Out :=
  let s := advance t s
  match contractOf s fn.val id.toNat with
  | none => .next s
  | some c =>
    if s.gtb < (instWindow s c).2 ∨ (c.blk.locked ∧ c.latches.isEmpty) ∨ (c.kind = .cream ∧ creamPending s c) then .next s
    else
      let r := missReason s c
      let s := if (fnRec s c.fn).state = .quiescing then stopWork c s else s
      .next (breach c r.1 r.2 0 s)

/-- Meaning of PROBATION_END (R74): 2,000,000,000 ticks without a charged breach. -/
def execProbationEnd (t : Tick) (fn : Fn) (s : State) : Out :=
  let s := advance t s
  let a := tget {} s.ledger.acct fn.val
  if a.probation ∧ a.lastBreach + 2000000000 ≤ s.gtb then
    .next { s with ledger := { s.ledger with acct := tput {} s.ledger.acct fn.val { a with probation := false } } }
  else .next s

/-! ### The opcodes on contracts (R81, R131) -/

/-- CONTRACT_CANCEL (Table 3.6). -/
def opContractCancel : OpInfo := ⟨0x0201, (2, 0), .any, none, false, .fixed 4, false⟩

/-- Has a latch point taken the flip of a CREAM item (R402)? Its delivery stamp then lies before a cancel. -/
def flipGone (s : State) (c : Contract) : Bool :=
  let k := crlSt s c.blk.target
  c.kind == .cream &&
  ((match k.shown with | some (f, i, _, _) => f == c.fn && i == c.id | none => false) ||
   (match k.flipTaken with | some f => (match f.owner with | some (a, b, _) => a == c.fn && b == c.id | none => false) | none => false))

/-- Step 13 of CONTRACT_CANCEL (R81, R131): tc is the GTB now. -/
def doContractCancel (c : Ctx) (s : State) : Ans :=
  match contractOf s c.fn (leAt c.pay 0 4) with
  | none => .reply (stOnly .contractClosed) s
  | some k =>
    if k.holm ≠ c.holm then .reply (stOnly .worldDenied) s
    else if flipGone s k then .reply (stOnly .contractClosed) s
    else .reply (stDone []) (cancelWork k s.gtb s)

/-- Meaning of CONTRACT_CANCEL (R81). -/
def execContractCancel (t : Tick) (q : Request) (s : State) : Out := gcp opContractCancel t q doContractCancel s

/-- CONTRACT_QUERY (Table 3.6). -/
def opContractQuery : OpInfo := ⟨0x0202, (2, 0), .any, none, true, .fixed 4, false⟩

/-- Step 13 of CONTRACT_QUERY (R131): the earliest instance that has not ended, its window, the densities. -/
def doContractQuery (c : Ctx) (s : State) : Ans :=
  match contractOf s c.fn (leAt c.pay 0 4) with
  | none => .reply (stOnly .contractClosed) s
  | some k =>
    if k.holm ≠ c.holm then .reply (stOnly .worldDenied) s
    else
      let w := instWindow s k
      .reply (stDone (le 4 k.inst ++ le 8 w.1 ++ le 8 w.2 ++ le 4 k.shd ++ le 4 k.drb)) s

/-- Meaning of CONTRACT_QUERY (R131). -/
def execContractQuery (t : Tick) (q : Request) (s : State) : Out := gcp opContractQuery t q doContractQuery s

/-! ### The ledger (R64, R633) -/

/-- RESERVE_SET (Table 3.6). -/
def opReserveSet : OpInfo := ⟨0x0203, (3, 0), .holm, none, false, .fixed 4, false⟩

/-- May the reserve of a resource become `p` permille (R64)? -/
def reserveFits (s : State) (r : Rate) (p : Nat) : Bool :=
  decide (poolUsed s .reserve r ≤ fullCap s r * p * 65536 / 200000000) && decide (sharesSum s r + p ≤ 1000)

/-- Step 13 of RESERVE_SET (R64). -/
def doReserveSet (c : Ctx) (s : State) : Ans :=
  let a := leAt c.pay 0 2
  let b := leAt c.pay 2 2
  if a < 100 ∨ 400 < a then .reply (stOff .paramInvalid 0) s
  else if b < 50 ∨ 300 < b then .reply (stOff .paramInvalid 2) s
  else if reserveFits s .shd a && reserveFits s .drb b then
    .reply (stDone (le 2 a ++ le 2 b)) { s with ledger := { s.ledger with reserveShd := a, reserveDrb := b } }
  else .reply (stOnly .reserveInUse) s

/-- Meaning of RESERVE_SET (R64). -/
def execReserveSet (t : Tick) (q : Request) (s : State) : Out := gcp opReserveSet t q doReserveSet s

/-- LEDGER_READ (Table 3.6). -/
def opLedgerRead : OpInfo := ⟨0x0204, (3, 1), .any, none, true, .fixed 4, false⟩

/-- The pool that a POOL number names. -/
def poolNamed (p : Nat) : Pool := if p = 0xFE then .whey else if p = 0xFF then .reserve else .share p

/-- May a session read a pool (R633)? -/
def poolReadable (s : State) (c : Ctx) (p : Nat) : Bool :=
  c.holm || p == c.fn || p == 0xFE || (decide (c.fn < 4) && decide (4 ≤ p) && decide (p < 64) && portOf s p == c.fn)

/-- Step 12 of LEDGER_READ (R633), and its reply. -/
def doLedgerRead (c : Ctx) (s : State) : Ans :=
  let p := leAt c.pay 0 1
  if (64 ≤ p ∧ p < 0xFE) ∨ (p < 64 ∧ (fnRec s p).state = .absent) then .reply (stOff .paramInvalid 0) s
  else if leAt c.pay 1 3 ≠ 0 then .reply (stOff .reservedSet 1) s
  else if poolReadable s c p = false then .reply (stOff .notGranted 0) s
  else
    let pool := poolNamed p
    let w (n : Nat) : List Byte := le 4 (min n 0xFFFFFFFF)
    let one (r : Rate) : List Byte := w (poolCap s pool r) ++ w (poolUsed s pool r)
    let n := (s.ledger.contracts.filter (fun k => poolOf k.blk.cls k.fn == pool)).length
    .reply (stDone (one .shd ++ one .drb ++ one .vat ++ le 2 n ++ le 1 (bit (decide (p < 64) && onProbation s p)) ++ le 1 0)) s

/-- Meaning of LEDGER_READ (R633). -/
def execLedgerRead (t : Tick) (q : Request) (s : State) : Out := gcp opLedgerRead t q doLedgerRead s

/-! ### Ends of sessions (R132 to R138) -/

/-- SESSION_CLOSE (Table 3.6). -/
def opSessionClose : OpInfo := ⟨0x0103, (2, 0), .any, none, false, .fixed 0, true⟩

/-- Step 13 of SESSION_CLOSE (R138): the slot is free, the key erased; the reply still carries the session's MAC. -/
def doSessionClose (c : Ctx) (s : State) : Ans :=
  match c.ses with
  | none => .reply (stOnly .sessionUnknown) s
  | some x => .reply (stDone []) (freeSession x.tag s)

/-- Meaning of SESSION_CLOSE (R138). -/
def execSessionClose (t : Tick) (q : Request) (s : State) : Out := gcp opSessionClose t q doSessionClose s

/-- The request in progress on a port. -/
def portBusy (s : State) : Port → Option LongOp
  | .ring fn holm => (ringRec s fn.val holm).busy
  | .spi => s.gcp.spi.long

/-- Does a port hold a packet, not yet taken, that was rung before a tick? -/
def rungBefore (s : State) (p : Port) (t : Tick) : Bool :=
  match p with
  | .ring fn holm => (ringRec s fn.val holm).stamps.any (fun x => decide (x < t))
  | .spi => s.gcp.spi.busy && s.gcp.spi.long.isNone && decide (s.gcp.spi.heldStamp < t)

/-- Meaning of IDLE_OR_LIFETIME_EXPIRY (R132, R133): an open session whose idle or lifetime window has ended enters EXPIRED at that tick. The idle window stands still while a request of the session is in progress and
during a stall; packets rung inside the window are served first. -/
def execIdleOrLifetimeExpiry (t : Tick) (tag : Word) (s : State) : Out :=
  let s := advance t s
  match sessionOf s tag with
  | none => .next s
  | some x =>
    let held := s.gcp.stalled || (match portBusy s x.port with | some l => l.pkt.tag == tag | none => false)
    let life := x.tOpen + lifetime
    let idle := x.r + idleLimit x
    let due (at_ : Tick) : Bool := decide (at_ ≤ s.gtb) && !rungBefore s x.port at_
    if x.state ≠ .opened then .next s
    else if held = false ∧ due idle = true ∧ (x.holm = false ∨ idle ≤ life) then .next (expireSession tag idle s)
    else if x.holm ∧ due life = true then .next (expireSession tag life s)
    else .next s

end Sys2Proof.Machine
end

