-- ==== Sys2Proof/Machine/Links.lean ====
section
/-!
DEFINITION. Links.lean: training, hot plug and sideband of display links (R426 to R431), video inputs (R352 to R356, R434), straits (R436, R439), provoked faults (R437 to R440), PCIe (R432, R433).
-/

namespace Sys2Proof.Machine

open Sys2Proof

/-! ### Training (R426, R427) -/

/-- May a configuration be tried: it carries the timing, and an eDP panel lists its rate (R426)? -/
def tryable (s : State) (n : Nat) (panel : Nat) (c : Nat × Nat) : Bool := carries s n c.1 c.2 && (txProto s n != 2 || panel.testBit c.2)

/-- A training attempt passed. -/
def trainPass (n : Nat) (c : Nat × Nat) (s : State) : State :=
  let cause := (txSt s n).cause
  let s := setTx n (fun x => { x with lanes := c.1, rate := if txProto s n = 3 then 0 else c.2, trying := none, rest := [], second := false, retryAt := none, trainings := x.trainings + 1 }) s
  noteReadyAt n (linkState n 2 cause s)

/-- A training attempt failed: once more at the same configuration, then the next one, then FAULT. -/
def trainFail (n panel : Nat) (s : State) : State :=
  let x := txSt s n
  if x.second = false then setTx n (fun x => { x with second := true }) s
  else match x.rest.dropWhile (fun c => !tryable s n panel c) with
    | d :: ds => setTx n (fun x => { x with trying := some d, rest := ds, second := false }) s
    | [] => linkState n 3 3 (setTx n (fun x => { x with trying := none, rest := [], second := false, retryAt := some (s.gtb + 200000000) }) s)

/-- Meaning of LINK_TRAINING_ATTEMPT (R426): an attempt of a transmit group ends. `panelRates` has the bit of each rate code that an eDP panel lists. -/
def execLinkTrainingAttempt (t : Tick) (output : BitVec 3) (passed : Bool) (panelRates : BitVec 8) (s : State) : Out :=
  let s := advance t s
  let n := output.toNat
  match (txSt s n).trying with
  | none => .next s
  | some c =>
    if tgOn s n = false ∨ gateOn s (0x30 + n) = false then .next s
    else if passed then .next (trainPass n c s) else .next (trainFail n panelRates.toNat s)

/-- Meaning of LINK_RETRY (R426): a link in FAULT begins the whole sequence again. STATE stays 3 until it trains. -/
def execLinkRetry (t : Tick) (output : BitVec 3) (s : State) : Out :=
  let s := advance t s
  let n := output.toNat
  match (txSt s n).retryAt with
  | some r =>
    if r ≤ s.gtb ∧ tgOn s n then
      let rest := if flg s (Reg.LNK_TXg_CFG n) Fld.LNK_TXg_CFG_FALLBACK_EN then fallbacks s n else []
      let go (x : TxState) : TxState := { x with trying := some (txLanes s n, txRate s n), second := false, rest := rest, cause := 8, retryAt := none }
      .next (setTx n go s)
    else .next s
  | none => .next s

/-- A sideband transaction ends (R431). -/
def sbEnd (n result count : Nat) (s : State) : State :=
  let w := packF Fld.LNK_TXg_SB_STAT_COUNT count + packF Fld.LNK_TXg_SB_STAT_RESULT result
  wr (Reg.LNK_TXg_SB_STAT n) (BitVec.ofNat 32 w) (setTx n (fun x => { x with sb := none }) s)

/-- Meaning of HPD_LOW_PULSE (R428): DTX_HPDg was low for some ticks; `lostLock` is what the link status says that an IRQ reads. -/
def execHpdLowPulse (t : Tick) (output : BitVec 3) (ticks : Word) (lostLock : Bool) (s : State) : Out :=
  let s := advance t s
  let n := output.toNat
  if txProto s n ≠ 1 ∧ txProto s n ≠ 2 then .next s
  else if ticks.toNat < 100000 then .next s
  else if ticks.toNat < 400000 then
    (if lostLock ∧ (txSt s n).state = 2 then .next (linkBring n 6 s) else .next s)
  else
    let s := wrB (Reg.LNK_TXg_STAT n) Fld.LNK_TXg_STAT_HPD false s
    let s := if (txSt s n).sb.isSome then sbEnd n 4 0 s else s
    if (txSt s n).state = 0 then .next s
    else .next (noteReadyAt n (linkState n 3 4 (setTx n (fun x => { x with trying := none, rest := [], retryAt := none, unplugged := true, lanes := 0, rate := 0 }) s)))

/-- Meaning of HPD_REPLUG (R428): HPD has been high for 20,000 ticks; after an unplug, training begins. -/
def execHpdReplug (t : Tick) (output : BitVec 3) (s : State) : Out :=
  let s := advance t s
  let n := output.toNat
  let s := wrB (Reg.LNK_TXg_STAT n) Fld.LNK_TXg_STAT_HPD true s
  if (txSt s n).unplugged ∧ tgOn s n then .next (linkBring n 5 s) else .next s

/-- LNK_TXg_STAT as it reads (Table 14.9): RETRAINS counts the trainings after the first. -/
def txStat (s : State) (n : Nat) : Word :=
  let x := txSt s n
  BitVec.ofNat 32 (packF Fld.LNK_TXg_STAT_RETRAINS ((x.trainings - 1) % 65536) + packF Fld.LNK_TXg_STAT_RATE x.rate + packF Fld.LNK_TXg_STAT_LANES x.lanes +
    packF Fld.LNK_TXg_STAT_HPD (fld s (Reg.LNK_TXg_STAT n) Fld.LNK_TXg_STAT_HPD) + packF Fld.LNK_TXg_STAT_STATE x.state)

/-! ### Sideband (R431) -/

/-- Does a transaction suit the protocol, with valid encodings? -/
def sbValid (s : State) (n cmd len : Nat) : Bool :=
  decide (1 ≤ len) && decide (len ≤ 16) && (if cmd ≤ 3 then txProto s n == 1 || txProto s n == 2 else decide (cmd ≤ 6) && txProto s n == 3)

/-- START written to LNK_TXg_SB_CTRL, whose fields stand. -/
def sbStart (n : Nat) (s : State) : State :=
  let cmd := fld s (Reg.LNK_TXg_SB_CTRL n) Fld.LNK_TXg_SB_CTRL_CMD
  let len := fld s (Reg.LNK_TXg_SB_CTRL n) Fld.LNK_TXg_SB_CTRL_LEN
  let addr := fld s (Reg.LNK_TXg_SB_CTRL n) Fld.LNK_TXg_SB_CTRL_ADDR
  if (txSt s n).sb.isSome then s
  else if sbValid s n cmd len = false then sbEnd n 6 0 s
  else if cmd = 1 ∧ addr < 0x200 ∧ 0x100 < addr + len then sbEnd n 5 0 s
  else wr (Reg.LNK_TXg_SB_STAT n) (BitVec.ofNat 32 (packF Fld.LNK_TXg_SB_STAT_BUSY 1)) (setTx n (fun x => { x with sb := some ⟨cmd, len, addr⟩ }) s)

/-- Meaning of SB_TRANSACTION_END (R431): result 1 ACK, 2 NACK, 3 DEFER_LIMIT, 4 TIMEOUT, with the bytes transferred; those of a read stand in the data registers. -/
def execSbTransactionEnd (t : Tick) (output : BitVec 3) (result : BitVec 3) (bytes : List Byte) (s : State) : Out :=
  let s := advance t s
  let n := output.toNat
  match (txSt s n).sb with
  | none => .next s
  | some x =>
    if result.toNat = 0 ∨ 4 < result.toNat then .next s
    else
      let bs := bytes.take x.len
      let isRead := x.cmd == 0 || x.cmd == 2 || x.cmd == 6
      let s := if isRead then
          (List.range bs.length).foldl (fun s i => wrF (Reg.LNK_TXg_SB_DATAi n (i / 4)) ⟨8 * (i % 4) + 7, 8 * (i % 4)⟩ (byteAt bs i).toNat s) s
        else s
      .next (sbEnd n result.toNat bs.length s)

/-! ### Video inputs (R352, R355, R356, R434) -/

/-- Meaning of VIN_LINK_TRAINING (R434): a source trains an input's link, within the limits that its DPCD advertises; the video-in island runs while the link is trained. -/
def execVinLinkTraining (t : Tick) (vin : BitVec 2) (lanes : BitVec 3) (rate : BitVec 2) (trained : Bool) (errors : BitVec 16) (s : State) : Out :=
  let s := advance t s
  let v := vin.toNat
  let cfg := Reg.LNK_RXn_CFG v
  let ok := trained && flg s cfg Fld.LNK_RXn_CFG_HPD_EN && [1, 2, 4].contains lanes.toNat && decide (lanes.toNat ≤ fld s cfg Fld.LNK_RXn_CFG_MAX_LANES) &&
    decide (rate.toNat ≤ fld s cfg Fld.LNK_RXn_CFG_MAX_RATE)
  let w := rd s (Reg.LNK_RXn_STAT v)
  let w := setF w Fld.LNK_RXn_STAT_SYMBOL_ERRS (getF w Fld.LNK_RXn_STAT_SYMBOL_ERRS + errors.toNat)
  let w := setF (setF (setF w Fld.LNK_RXn_STAT_RATE (if ok then rate.toNat else 0)) Fld.LNK_RXn_STAT_LANES (if ok then lanes.toNat else 0)) Fld.LNK_RXn_STAT_STATE (if ok then 2 else 0)
  .next (setVin v (fun x => { x with island := ok }) (wr (Reg.LNK_RXn_STAT v) w s))

/-- What a write of VIN_CTRL with ENABLE 1 asks of the owner's free DRB share (R355); none when it fits. -/
def vinRefused (s : State) (v : Nat) : Bool :=
  match bearer s (obj 0xB v) with
  | some p => decide (poolFree s p .drb < vinDemand s v)
  | none => false

/-- Capture starts: no buffer has been written since ENABLE (R352). -/
def vinStart (v : Nat) (s : State) : State :=
  let s := wrF (Reg.VIN_STAT v) Fld.VIN_STAT_NEWEST_VALID 0 s
  setVin v (fun x => { x with done := [none, none, none, none], writing := none, newest := none, seq := 0 }) s

/-- Capture stops at once (R356). -/
def vinStop (v : Nat) (s : State) : State := setVin v (fun x => { x with writing := none }) s

/-- The address of buffer `k` of an input. -/
def vinBufAddr (s : State) (v k : Nat) : Nat := (rd s (Reg.VIN_BUFk_LO v k)).toNat + 2 ^ 32 * (rd s (Reg.VIN_BUFk_HI v k)).toNat

/-- Does a lease hold buffer `k` of an input (R352)? -/
def vinLeased (s : State) (v k : Nat) : Bool :=
  match spaceOf s (obj 0xB v) with
  | some sp =>
    let a := vinBufAddr s v k
    let n := fld s (Reg.VIN_PITCH v) Fld.VIN_PITCH_PITCH * fld s (Reg.VIN_LIMIT0 v) Fld.VIN_LIMIT0_MAX_H * 2
    s.mem.leases.any (fun (l : Lease) => l.holm == sp.1 && l.fn == sp.2 && l.ranges.any (fun r => overlaps r.1 r.2 a n))
  | none => false

/-- The buffer that a capture takes (R352). -/
def vinPick (s : State) (v : Nat) : Option Nat :=
  let x := vinSt s v
  let isNewest (k : Nat) : Bool := match x.newest with | some (b, _, _) => b == k | none => false
  let ok := (List.range 4).filter (fun k => !vinLeased s v k && !isNewest k)
  match ok.find? (fun k => (x.done.getD k none).isNone) with
  | some k => some k
  | none => ok.foldl (fun (b : Option Nat) k => match b with
      | none => some k
      | some j => if (x.done.getD k none).getD 0 < (x.done.getD j none).getD 0 then some k else b) none

/-- The bytes of one captured row of each plane (R356): pixels of components R, G, B or Y, Cb, Cr of `depth` bits; alpha, which spec/ does not give, is a free value. -/
def vinRow (f depth : Nat) (c444 : Bool) (seed : Nat) (row : List (List Nat)) : List Byte × List Byte :=
  let px (x k d : Nat) : Nat := convBits depth d ((row.getD x []).getD k 0)
  let a (x : Nat) : Nat := (Config.freeByte (seed + x)).toNat
  let xs := List.range row.length
  if f = 1 then (xs.flatMap (fun x => le 4 (a x * 2 ^ 24 + px x 0 8 * 2 ^ 16 + px x 1 8 * 2 ^ 8 + px x 2 8)), [])
  else if f = 2 then (xs.flatMap (fun x => le 4 (a x % 4 * 2 ^ 30 + px x 0 10 * 2 ^ 20 + px x 1 10 * 2 ^ 10 + px x 2 10)), [])
  else
    let d := if f = 0x25 then 10 else 8
    let put (v : Nat) : List Byte := if f = 0x25 then le 2 (v * 64) else le 1 v
    let ch (x k : Nat) : Nat := if c444 then (px (2 * x) k d + px (2 * x + 1) k d + 1) / 2 else px (2 * x) k d
    (xs.flatMap (fun x => put (px x 0 d)), (List.range (row.length / 2)).flatMap (fun x => put (ch x 1) ++ put (ch x 2)))

/-- Store bytes in an input's buffer: device physical for a Holm-owned input, else the owner's context. -/
def vinStore (sp : Bool × Nat) (a : Nat) (bs : List Byte) (s : State) : State := if sp.1 then wrDpas a bs s else wrIovas sp.2 5 a bs s

/-- Write the rows received of a frame (R352): plane 1 of a luma/chroma capture follows plane 0 after HEIGHT rows. -/
def vinWrite (v k h depth : Nat) (c444 : Bool) (rows : List (List (List Nat))) (s : State) : State :=
  match spaceOf s (obj 0xB v) with
  | none => s
  | some sp =>
    let f := fld s (Reg.VIN_CTRL v) Fld.VIN_CTRL_CAPFMT
    let p := fld s (Reg.VIN_PITCH v) Fld.VIN_PITCH_PITCH
    let a := vinBufAddr s v k
    (List.range rows.length).foldl (fun s y =>
      let row := rows.getD y []
      let b := vinRow f depth c444 s.drawn row
      let s := { s with drawn := s.drawn + row.length }
      vinStore sp (a + (h + y) * p) b.2 (vinStore sp (a + y * p) b.1 s)) s

/-- Meaning of VIN_FRAME_RECEIVED (R352, R356): a frame of some size, kind (0 RGB, 1 YCbCr 4:4:4, 2 YCbCr 4:2:2), depth and period arrives, with the rows received before a stop. It is captured, dropped or
flagged. -/
def execVinFrameReceived (t : Tick) (vin : BitVec 2) (width height : BitVec 16) (kind : BitVec 2) (depth : BitVec 4) (interlaced : Bool) (period : Word) (rows : List (List (List Nat))) (s : State) : Out :=
  let s := advance t s
  let v := vin.toNat
  let w := width.toNat
  let h := height.toNat
  if (vinSt s v).island = false then .next s
  else
    let st := rd s (Reg.VIN_STAT v)
    let s := wr (Reg.VIN_STAT v) (setF (setB st Fld.VIN_STAT_SIGNAL true) Fld.VIN_STAT_KIND kind.toNat) s
    let s := wr (Reg.VIN_DET v) (BitVec.ofNat 32 (h * 65536 + w)) (wr (Reg.VIN_PERIOD v) period s)
    let s := setVin v (fun x => { x with width := w, height := h, period := period.toNat }) s
    if flg s (Reg.VIN_CTRL v) Fld.VIN_CTRL_ENABLE = false then .next s
    else
      let f := fld s (Reg.VIN_CTRL v) Fld.VIN_CTRL_CAPFMT
      let within := decide (w ≤ fld s (Reg.VIN_LIMIT0 v) Fld.VIN_LIMIT0_MAX_W) && decide (h ≤ fld s (Reg.VIN_LIMIT0 v) Fld.VIN_LIMIT0_MAX_H) &&
        decide (200000000 ≤ fld s (Reg.VIN_LIMIT1 v) Fld.VIN_LIMIT1_MAX_RATE * period.toNat)
      let suits := !interlaced && (if f = 1 ∨ f = 2 then kind.toNat == 0 else (f == 0x21 || f == 0x25) && (kind.toNat == 1 || kind.toNat == 2))
      let s := if within then s else wrB (Reg.VIN_STAT v) Fld.VIN_STAT_OVER_LIMIT true s
      let s := if suits then s else wrB (Reg.VIN_STAT v) Fld.VIN_STAT_FMT_MISMATCH true s
      if (within && suits) = false then .next s
      else match vinPick s v with
        | none =>
          let c := fld s (Reg.VIN_CNT v) Fld.VIN_CNT_DROPPED
          .next (wrF (Reg.VIN_CNT v) Fld.VIN_CNT_DROPPED ((c + 1) % 65536) s)
        | some k =>
          let s := setVin v (fun x => { x with done := x.done.set k (some x.seq), seq := x.seq + 1, writing := if h ≤ rows.length then some (k, w, h) else none }) s
          .next (vinWrite v k h depth.toNat (kind.toNat == 1) (rows.take h) s)

/-- Meaning of VIN_CAPTURE_COMPLETE (R352): the last write of a capture is visible; its buffer is the newest complete one. -/
def execVinCaptureComplete (t : Tick) (vin : BitVec 2) (s : State) : Out :=
  let s := advance t s
  let v := vin.toNat
  match (vinSt s v).writing with
  | none => .next s
  | some (k, w, h) =>
    let st := rd s (Reg.VIN_STAT v)
    let s := wr (Reg.VIN_STAT v) (setB (setF st Fld.VIN_STAT_NEWEST k) Fld.VIN_STAT_NEWEST_VALID true) s
    let s := wrF (Reg.VIN_CNT v) Fld.VIN_CNT_FRAMES ((fld s (Reg.VIN_CNT v) Fld.VIN_CNT_FRAMES + 1) % 65536) s
    .next (setVin v (fun x => { x with writing := none, newest := some (k, w, h), done := x.done.set k (some x.seq), seq := x.seq + 1, frames := x.frames + 1 }) s)

/-- Meaning of VIN_SIGNAL_LOST (R353): the stream stops, and a capture in progress with it. -/
def execVinSignalLost (t : Tick) (vin : BitVec 2) (s : State) : Out :=
  let s := advance t s
  let v := vin.toNat
  let st := rd s (Reg.VIN_STAT v)
  .next (vinStop v (wr (Reg.VIN_STAT v) (setF (setB st Fld.VIN_STAT_SIGNAL false) Fld.VIN_STAT_KIND 3) s))

/-! ### Straits (R30, R436, R439) -/

/-- Is an identity listed in Table 14.6? -/
def straitListed (i : Nat) : Bool :=
  decide (i ≤ 7) || (decide (0x10 ≤ i) && decide (i ≤ 0x1A)) || (decide (0x20 ≤ i) && decide (i ≤ 0x3F)) || (decide (0x40 ≤ i) && decide (i ≤ 0x47))

/-- The record of a strait. -/
def straitRec (s : State) (i : Nat) : StraitRec := tget {} s.lnk.straits i

/-- Change a strait. -/
def setStrait (i : Nat) (f : StraitRec → StraitRec) (s : State) : State := setLnk (fun l => { l with straits := tmod {} l.straits i f }) s

/-- Errors of a strait: each is counted and raises STRAIT_ERROR. -/
def straitErrors (i : Nat) : Nat → State → State
  | 0, s => s
  | k + 1, s => straitErrors i k (raiseHolm 6 (faultNote 0x46 8 i 0 (setStrait i (fun r => { r with errors := (r.errors + 1) % 2 ^ 32 }) s)))

/-- An entry reaches the destination (R436). -/
def straitArrive (i seq : Nat) (good : Bool) (s : State) : State :=
  let e := (straitRec s i).expect
  if good = false then straitErrors i 1 (setStrait i (fun r => { r with expect := (e + 1) % 16 }) s)
  else
    let d := (seq + 16 - e) % 16
    if d ≤ 7 then straitErrors i d (setStrait i (fun r => { r with expect := (seq + 1) % 16 }) s)
    else straitErrors i 1 s

/-- The item of a lost entry is breached: the device bears it (R30, Table 2.14). -/
def lostItem (item : Option (Fn × Word)) (s : State) : State :=
  match item with
  | some (f, id) => (match contractOf s f.val id.toNat with | some c => breach c .deviceFault 0xFF 0 s | none => s)
  | none => s

/-- Meaning of STRAIT_ENTRY_ARRIVAL (R436, R439): an entry comes to a strait past the faults that meet it; `item` is the work of an entry that an error loses. -/
def execStraitEntryArrival (t : Tick) (id : Byte) (seq : BitVec 4) (parityGood : Bool) (item : Option (Fn × Word)) (s : State) : Out :=
  let s := advance t s
  let i := id.toNat
  if straitListed i then
    let n := (straitRec s i).errors
    let (hits, s) := meetFaults 1 i 0 0 s
    let prev := (straitRec s i).held
    let s :=
      if hits.contains 0 then s
      else
        let good := parityGood && !hits.contains 1
        if hits.contains 2 && prev.isNone then setStrait i (fun r => { r with held := some (seq.toNat, good) }) s
        else
          let s := straitArrive i seq.toNat good s
          match prev with
          | some (q, g) => straitArrive i q g (setStrait i (fun r => { r with held := none }) s)
          | none => s
    if (straitRec s i).errors = n then .next s else .next (lostItem item s)
  else .next s

/-! ### Provoked faults (R437, R178) -/

/-- FAULT_ARM (Table 3.6). -/
def opFaultArm : OpInfo := ⟨0x0A10, (3, 2), .lab, none, false, .fixed 16, false⟩

/-- The checks of Table 14.7 before step 9. -/
def faultCheck (s : State) (p : List Byte) : Option (Status × Nat) :=
  let b (i : Nat) : Nat := leAt p i 1
  let tg := b 0
  let inst := b 1
  let amount := leAt p 8 4
  let tile := leAt p 0xC 4
  let instOk : Bool := match tg with
    | 0 => decide (inst < 4) && (fnRec s inst).state != .absent
    | 1 => straitListed inst
    | 2 => decide (inst < 8) && tgOn s inst
    | _ => inst == 0
  let faultOk : Bool := match tg with
    | 0 => decide (b 3 ≤ 2)
    | 1 => decide (b 3 ≤ 2)
    | 2 => b 3 == 1
    | _ => b 3 == 0
  if 3 < tg then some (.paramInvalid, 0)
  else if leAt p 5 3 ≠ 0 then some (.reservedSet, 5)
  else if tile ≠ 0 ∧ tg ≠ 2 then some (.reservedSet, 0xC)
  else if instOk = false then some (.paramInvalid, 1)
  else if (if tg = 0 then 1 else 0) < b 2 then some (.paramInvalid, 2)
  else if faultOk = false then some (.paramInvalid, 3)
  else if 1 < b 4 ∨ (tg = 3 ∧ b 4 ≠ 0) then some (.paramInvalid, 4)
  else if (if b 4 = 0 then decide (amount = 0) || decide (65535 < amount) || (tg == 3 && amount != 1) else amount == 0) = true then some (.paramInvalid, 8)
  else if tg = 2 ∧ tileW s inst * tileH s inst ≤ tile then some (.paramInvalid, 0xC)
  else none

/-- Step 13 of FAULT_ARM. -/
def doFaultArm (c : Ctx) (s : State) : Ans :=
  let p := c.pay
  match faultCheck s p with
  | some (st, o) => .reply (stOff st o) s
  | none =>
    if 16 ≤ (s.lnk.faults.filter (fun f => f.armed)).length then .reply (stOnly .poolExhausted) s
    else
      let id := s.lnk.nextFault
      let f : FaultRec := { id := id, tag := c.pkt.tag, target := leAt p 0 1, inst := leAt p 1 1, dir := leAt p 2 1, fault := leAt p 3 1, mode := leAt p 4 1, amount := leAt p 8 4,
                            tile := leAt p 0xC 4, left := if leAt p 4 1 = 0 then leAt p 8 4 else 0 }
      -- the LAB_ARM note of R177
      .reply (stDone (le 4 id)) (isoLog 0x43 c.fn 8 (2 * bit c.holm) 0 0xFFFF 0 (setLnk (fun l => { l with faults := l.faults ++ [f], nextFault := id + 1 }) s))

/-- Meaning of FAULT_ARM (R437). -/
def execFaultArm (t : Tick) (q : Request) (s : State) : Out := gcp opFaultArm t q doFaultArm s

/-- The fault of a session by its number. -/
def faultOf (s : State) (tag : Word) (id : Nat) : Option FaultRec := s.lnk.faults.find? (fun f => f.id == id && f.tag == tag)

/-- FAULT_DISARM (Table 3.6). -/
def opFaultDisarm : OpInfo := ⟨0x0A11, (3, 2), .lab, none, false, .fixed 4, false⟩

/-- Step 13 of FAULT_DISARM: one fault of the session, or all of them. -/
def doFaultDisarm (c : Ctx) (s : State) : Ans :=
  let id := leAt c.pay 0 4
  if id = 0xFFFFFFFF then .reply (stOnly .done) (disarmSession c.pkt.tag s)
  else match faultOf s c.pkt.tag id with
    | none => .reply (stOff .paramInvalid 0) s
    | some f => .reply (stOnly .done) (disarm (fun x => x.id == f.id) s)

/-- Meaning of FAULT_DISARM (R437). -/
def execFaultDisarm (t : Tick) (q : Request) (s : State) : Out := gcp opFaultDisarm t q doFaultDisarm s

/-- FAULT_STATUS (Table 3.6). -/
def opFaultStatus : OpInfo := ⟨0x0A12, (3, 2), .lab, none, true, .fixed 4, false⟩

/-- Step 13 of FAULT_STATUS. -/
def doFaultStatus (c : Ctx) (s : State) : Ans :=
  match faultOf s c.pkt.tag (leAt c.pay 0 4) with
  | none => .reply (stOff .paramInvalid 0) s
  | some f => .reply (stDone (le 4 f.injected ++ le 1 (bit f.armed) ++ le 3 0)) s

/-- Meaning of FAULT_STATUS (R437). -/
def execFaultStatus (t : Tick) (q : Request) (s : State) : Out := gcp opFaultStatus t q doFaultStatus s

/-! ### PCIe (R432, R433) -/

/-- Meaning of PCIE_LINK_UP (R432): a port's link is up with a width and speed; the host has placed the BARs and set NumVFs and VF Enable (R188). -/
def execPcieLinkUp (t : Tick) (port : BitVec 2) (width : BitVec 5) (speed : BitVec 3) (reversed : Bool) (bars : List (BitVec 64 × BitVec 40)) (numVfs : BitVec 6) (vfEnable : Bool) (s : State) : Out :=
  let s := advance t s
  let p := port.toNat
  if (fnRec s p).state = .absent then .next s
  else
    let w := packF Fld.LNK_PCIEp_STAT_WIDTH width.toNat + packF Fld.LNK_PCIEp_STAT_SPEED speed.toNat + packF Fld.LNK_PCIEp_STAT_REVERSED (bit reversed) + packF Fld.LNK_PCIEp_STAT_LINK_UP 1
    let old := rd s (Reg.LNK_PCIEp_STAT p)
    let rec_ := getF old Fld.LNK_PCIEp_STAT_RECOVERIES + (if getB old Fld.LNK_PCIEp_STAT_LINK_UP then 1 else 0)
    let s := wr (Reg.LNK_PCIEp_STAT p) (setF (BitVec.ofNat 32 w) Fld.LNK_PCIEp_STAT_RECOVERIES rec_) s
    .next { s with hif := { s.hif with bars := tput [] s.hif.bars p (bars.map (fun (b : BitVec 64 × BitVec 40) => (b.1.toNat, b.2.toNat))), numVfs := tput 0 s.hif.numVfs p numVfs.toNat,
                                       vfEnable := tput false s.hif.vfEnable p vfEnable } }

end Sys2Proof.Machine
end

