-- ==== Sys2Proof/Machine/Ownership.lean ====
section
/-!
DEFINITION. Ownership.lean: claims, releases and grants of ownable objects (R151 to R157, R636, R637).
-/

namespace Sys2Proof.Machine

open Sys2Proof

/-! ### Objects and their registers -/

/-- The ranges of register offsets that belong to an object (Table 20.1). -/
def objRanges (o : Nat) : List (Nat × Nat) :=
  let i := o % 4096
  match o / 4096 with
  | 2 => [(layerBase i, layerBase i + 0x400)]
  | 3 => [(0x1000000 + 0x100 * i, 0x1000100 + 0x100 * i)]
  | 4 => [(0x1100000 + 0x100 * i, 0x1100100 + 0x100 * i)]
  | 5 => [(Reg.TCH_Sk_Rr_RECT0 (i / 32) (i % 32), Reg.TCH_Sk_Rr_RECT0 (i / 32) (i % 32) + 16)]
  | 6 =>
    if i < 32 then [(0xF01000 + 0x200 * i, 0xF01200 + 0x200 * i)]
    else if i < 42 then [(0xF05000 + 0x40 * (i - 32), 0xF05040 + 0x40 * (i - 32))]
    else if 72 ≤ i ∧ i < 74 then [(0xF06000 + 0x400 * (i - 64), 0xF06400 + 0x400 * (i - 64)), (0xF09000 + 0x100 * (i - 72), 0xF09100 + 0x100 * (i - 72))]
    else if 64 ≤ i then [(0xF06000 + 0x400 * (i - 64), 0xF06400 + 0x400 * (i - 64))]
    else []
  | 7 => [(0xE81000 + 0x200 * i, 0xE81200 + 0x200 * i)]
  | 0xB => [(0xB80000 + 0x1000 * i, 0xB81000 + 0x1000 * i), (0xD00C00 + 0x100 * i, 0xD00D00 + 0x100 * i)]
  | 0xC => [(0xA00000 + 0x10000 * i, 0xA01000 + 0x10000 * i), (0xA03000 + 0x10000 * i, 0xA10000 + 0x10000 * i), (0xB00000 + 0x1000 * i, 0xB01000 + 0x1000 * i),
            (0xD00000 + 0x100 * i, 0xD00100 + 0x100 * i)]
  | _ => []

/-- Discard the shadow values of an object (Table 12.5): its shadows return to the values in effect. -/
def discardShadows (o : Nat) (s : State) : State := (objRanges o).foldl (fun s r => revertShadow r.1 r.2 s) s

/-- Return an object to its reset state (R156): its registers, the tables behind its ports, what the model keeps of it. -/
def resetObject (o : Nat) (s : State) : State :=
  let i := o % 4096
  let s := (objRanges o).foldl (fun s r => resetTabs r.1 r.2 (resetRegs r.1 r.2 s)) s
  match o / 4096 with
  | 2 => setLayer i (fun _ => {}) s
  | 3 => showRate i { s with mv := { s.mv with dma := tput {} s.mv.dma i {} } }
  | 4 => { s with mv := { s.mv with cv := tput {} s.mv.cv i {} } }
  | 6 =>
    let inR (k : Nat) : Bool := (objRanges o).any (fun r => decide (r.1 ≤ k) && decide (k < r.2))
    let go (x : AudioState) : AudioState :=
      { x with writes := x.writes.filter (fun e => !inR e.1), gains := x.gains.filter (fun e => !inR e.1),
               streams := if i < 32 then tput {} x.streams i {} else x.streams, sinks := if 64 ≤ i then tput {} x.sinks (i - 64) {} else x.sinks }
    setAud go s
  | 7 => setHap i (fun _ => {}) s
  | 0xB => setVin i (fun x => { island := x.island }) s
  | _ => s

/-! ### Claims (R154, R155) -/

/-- Does the item of an open contract need an object (R155)? A COMMIT applies without what a claim takes (Table 12.5). -/
def contractNeeds (s : State) (o : Nat) (c : Contract) : Bool :=
  let i := o % 4096
  match o / 4096 with
  | 2 => c.kind == .render && (match (layerSt s i).bound with | some (f, h, id) => f == c.fn && h == c.holm && id == c.id | none => false)
  | 3 => c.kind == .dma && c.blk.target == i
  | 4 => c.kind == .check && c.blk.target == i
  | 6 => decide (i < 32) && c.kind == .audio && c.blk.target == i
  | 7 => c.kind == .haptic && c.blk.target == i
  | _ => false

/-- Work that an object carries for Mainland stops (R154, R245, R460, Table 16.3, R531). A layer, a writeback and a capture are disabled by it; a DMA channel or unit discards its register work; LNK_TXg_PANEL returns to its reset value (R619). -/
def stopObject (o : Nat) (s : State) : State :=
  let i := o % 4096
  match o / 4096 with
  | 2 =>
    let s := leaseClaim (i / 9) (i % 9) s
    let off := Reg.Lx_CTRL (i / 9) (i % 9)
    let s := wrSh off (setB (rdSh s off) Fld.Lx_CTRL_ENABLE false) (wrB off Fld.Lx_CTRL_ENABLE false s)
    setLayer i (fun x => { x with bound := none, inst := none, readyInst := none, usedInst := none, vinBuf := none }) s
  | 3 => dmaStopAll i s
  | 4 => setCv i (fun r => { r with jobs := [] }) (cvDiscard i s)
  | 5 => touchClaim (i / 32) (i % 32) s
  | 6 => if i < 32 then streamClose i s else s
  | 7 => endDrive i s
  | 0xB => wrB (Reg.VIN_CTRL i) Fld.VIN_CTRL_ENABLE false (vinStop i s)
  | 0xC =>
    let s := leaseClaim i 9 s
    let off := Reg.OP_WB_CTRL i
    wr (Reg.LNK_TXg_PANEL i) 0 (wrSh off (setB (rdSh s off) Fld.OP_WB_CTRL_WB_EN false) (wrB off Fld.OP_WB_CTRL_WB_EN false s))
  | _ => s

/-- Show PENDING and DONE of ISO_OWN_STAT. -/
def showChange (pending done : Bool) (s : State) : State :=
  wrB Reg.ISO_OWN_STAT Fld.ISO_OWN_STAT_DONE done (wrB Reg.ISO_OWN_STAT Fld.ISO_OWN_STAT_PENDING pending s)

/-- A claim (R154, R155): the owner changes at once, contracts are cancelled, work stops, a CLAIM note names the function that held the object. -/
def claimObject (o : Nat) (s : State) : State :=
  let who := match granteeOf s o with | some f => f | none => 0xFC
  let s := discardShadows o (cancelWhere (contractNeeds s o) s)
  let s := stopObject o s
  let s := setOwn o {} s
  let s := isoLog 0x41 who 6 3 0 o 0 s
  showChange true false { s with iso := { s.iso with change := some { obj := o, release := false, entry := {} } } }

/-! ### Releases (R156) -/

/-- Is an open Holm contract's item tied to an object? -/
def holmContractOn (s : State) (o : Nat) : Bool :=
  let i := o % 4096
  s.ledger.contracts.any (fun c => c.holm &&
    (contractNeeds s o c ||
     ((c.kind == .commit || c.kind == .cream) &&
      ((o / 4096 == 2 && c.blk.target == i / 9) || (o / 4096 == 0xC && c.blk.target == i)))))

/-- Is an active Holm configuration in effect on an object? -/
def holmActive (s : State) (o : Nat) : Bool :=
  let i := o % 4096
  let pend (n : Nat) : Bool := (outSt s n).commits.any (fun p => p.holder.holm)
  match o / 4096 with
  | 2 => flg s (Reg.Lx_CTRL (i / 9) (i % 9)) Fld.Lx_CTRL_ENABLE || pend (i / 9)
  | 3 => (dmaOf s i).loaded
  | 4 => (cvOf s i).reg.isSome || flg s (Reg.CV_Un_STAT i) Fld.CV_Un_STAT_PAUSED
  | 5 => flg s (Reg.TCH_Sk_Rr_CFG (i / 32) (i % 32)) Fld.TCH_Sk_Rr_CFG_ENABLE || regionBound s i
  | 6 =>
    if i < 32 then streamIsOpen s i
    else if 64 ≤ i then flg s (Reg.AUD_Kk_CTRL (i - 64)) Fld.AUD_Kk_CTRL_ENABLE
    else false
  | 7 => hapOn s i || (hapOf s i).brake.isSome
  | 0xB => flg s (Reg.VIN_CTRL i) Fld.VIN_CTRL_ENABLE
  | 0xC => tgOn s i || flg s (Reg.OP_WB_CTRL i) Fld.OP_WB_CTRL_WB_EN || pend i
  | _ => false

/-- Is an object idle (R156)? -/
def objIdle (s : State) (o : Nat) : Bool := !holmContractOn s o && !holmActive s o

/-- A release (R156): refused while the object is not idle or is FIXED; else the object returns to its reset state and stays Holm-owned until the fill is complete. -/
def releaseObject (o : Nat) (e : OwnRec) (s : State) : State :=
  if objFixed s o ∨ objIdle s o = false then wrB Reg.ISO_OWN_STAT Fld.ISO_OWN_STAT_REFUSED true s
  else
    let s := resetObject o s
    showChange true false { s with iso := { s.iso with change := some { obj := o, release := true, entry := e } } }

/-! ### The paired write of ISO_OWN_DATA -/

/-- The object that ISO_OWN_IDX selects. -/
def ownSelected (s : State) : Nat := natBits (rd s Reg.ISO_OWN_IDX).toNat 15 0

/-- The entry that a written word spells (Table 5.14); GRANTED and FN are ignored while WORLD is 1. -/
def ownWord (w : Word) : OwnRec :=
  if getB w Fld.ISO_OWN_DATA_WORLD then {} else ⟨false, getB w Fld.ISO_OWN_DATA_GRANTED, getF w Fld.ISO_OWN_DATA_FN⟩

/-- A paired write of ISO_OWN_DATA (R154 to R157, R636, R637): a claim, a release or a grant of the selected object. -/
def ownWrite (w : Word) (s : State) : State :=
  let o := ownSelected s
  let e := ownWord w
  if s.iso.change.isSome then s
  else if objExists o = false then wrB Reg.ISO_OWN_STAT Fld.ISO_OWN_STAT_INVALID true s
  else if (followed o).isSome then wrB Reg.ISO_OWN_STAT Fld.ISO_OWN_STAT_REFUSED true s
  else if e.holm then (if holmOwned s o then s else claimObject o s)
  else if holmOwned s o then releaseObject o e s
  else setOwn o e s

/-- The word that a read of ISO_OWN_DATA returns (Table 5.14); an index that names no object reads the entry of an object that is always Holm. -/
def ownReadWord (s : State) : Word :=
  let o := ownSelected s
  let e := entryOf s o
  setB (setF (setB (setB 0 Fld.ISO_OWN_DATA_FIXED (objFixed s o || !objExists o)) Fld.ISO_OWN_DATA_GRANTED e.granted) Fld.ISO_OWN_DATA_FN e.fn) Fld.ISO_OWN_DATA_WORLD e.holm

/-- A write of ISO_OWN_IDX is ignored while a change is pending (R157). -/
def ownSelect (w : Word) (s : State) : State :=
  if s.iso.change.isSome then s else wr Reg.ISO_OWN_IDX (BitVec.ofNat 32 (natBits w.toNat 15 0)) s

/-- Meaning of ISO_OWN_CLAIM_DONE (R154): the straits into the object's island have drained. -/
def execIsoOwnClaimDone (t : Tick) (s : State) : Out :=
  let s := advance t s
  match s.iso.change with
  | some c => if c.release then .next s else .next (showChange false true { s with iso := { s.iso with change := none } })
  | none => .next s

/-- Meaning of ISO_OWN_RELEASE_DONE (R156): the fill is complete, the new entry stands. -/
def execIsoOwnReleaseDone (t : Tick) (s : State) : Out :=
  let s := advance t s
  match s.iso.change with
  | some c => if c.release then .next (showChange false true (setOwn c.obj c.entry { s with iso := { s.iso with change := none } })) else .next s
  | none => .next s

end Sys2Proof.Machine
end

