-- ==== Sys2Proof/Machine/FnReset.lean ====
section
/-!
DEFINITION. FnReset.lean: quiescing of functions (R204 to R206), function resets, FLR, VF Enable and port resets (R82, R207 to R209), completion timeouts (R433).
-/

namespace Sys2Proof.Machine

open Sys2Proof

/-! ### Quiesce (R204, R205) -/

/-- Has work on the present instance of a contract begun (R204)? An audio buffer or an effect that has begun is delivered. -/
def workBegun (s : State) (c : Contract) : Bool :=
  match c.kind with
  | .commit => (outSt s c.blk.target).commits.any (fun p => p.fn == c.fn && p.id == c.id && (p.visible || p.taken))
  | .audio => false
  | .haptic => false
  | .dma => (dmaOf s c.blk.target).contracted.any (fun x => x.owner == some (c.fn, c.id) && x.begun)
  | _ => c.phase != .waiting

/-- The CONTRACT_CANCELLED record of the instances after the one in progress, which a quiesce cancels (R204): it carries LAST. -/
def cancelRest (c : Contract) (tq : Tick) (s : State) : State :=
  if c.isLast then s
  else
    let k : Contract := { c with inst := c.inst + 1, latches := c.latches.tail, predL := c.predL + periodTicks s c.blk }
    let q := recordQueue c
    let s := post q.1 q.2 (contractRecord 0x0203 (2 + 4 + 8 * bit s.gcp.stalled) c.id k.inst 0 tq (instWindow s k).2) s
    setContract c.fn c.id (fun x => { x with blk := { x.blk with count := c.inst + 1 } }) s

/-- What a quiesce does to one contract: an instance on which work has begun runs on as the last one, another contract is cancelled with STAMP tq (R204). -/
def quiesceContract (tq : Tick) (s : State) (c : Contract) : State :=
  match contractOf s c.fn c.id with
  | none => s
  | some x => if workBegun s x then cancelRest x tq s else cancelWork x tq s

/-- Check-value units granted to a function. -/
def unitsOf (s : State) (fn : Nat) : List Nat := grantedOf s 4 4 fn

/-- DMA channels granted to a function. -/
def channelsOf (s : State) (fn : Nat) : List Nat := grantedOf s 3 128 fn

/-- Register work of a function stops at a quiesce: sets with STOPPED, jobs by a pause (R529, Table 18.7). -/
def quiesceRegs (fn : Nat) (s : State) : State :=
  let s := (channelsOf s fn).foldl (fun (s : State) n => dmaStopRegs n s) s
  (unitsOf s fn).foldl (fun (s : State) u => setCv u (fun r => { r with pause := r.reg.isSome }) s) s

/-- FN_QUIESCE takes effect (R204). -/
def quiesce (fn : Nat) (s : State) : State :=
  let tq := s.gtb
  let s := setFn fn (fun f => { f with state := .quiescing, quiesceAt := tq }) s
  quiesceRegs fn ((s.ledger.contracts.filter (fun c => c.fn == fn)).foldl (quiesceContract tq) s)

/-- Does a context run or wait for a Mainland item of a function? -/
def fnResident (s : State) (fn : Nat) : Bool :=
  s.ren.cores.any (fun e => match e.2.ctx with | some c => c.fn == fn && !c.holm | none => false) ||
  s.ren.slots.any (fun e => match e.2 with | some c => c.fn == fn && !c.holm | none => false)

/-- Is a function quiet (R205)? -/
def fnStill (s : State) (fn : Nat) : Bool :=
  s.ledger.contracts.all (fun c => c.fn != fn) && s.ren.jobs.all (fun j => j.fn != fn) && !fnResident s fn &&
  (channelsOf s fn).all (fun n => !(dmaOf s n).loaded) &&
  (unitsOf s fn).all (fun u => (cvOf s u).reg.isNone && (cvOf s u).jobs.isEmpty) &&
  (ringRec s fn false).busy.isNone && (eqRec s fn false).backlog.isEmpty && s.hif.posts.all (fun p => p.1 != eqKey fn false)

/-- Answer the ports that wait on a function. -/
def answerWaiters (fn : Nat) (payload : List Byte) (s : State) : State :=
  let ps := (fnRec s fn).waiters
  ps.foldl (fun (s : State) (p : Port) => finishLong p payload s) (setFn fn (fun f => { f with waiters := [] }) s)

/-- Meaning of FN_QUIET_REACHED (R205): a function that is quiet enters QUIESCED and FN_QUIESCE replies DONE. -/
def execFnQuietReached (t : Tick) (fn : Fn) (s : State) : Out :=
  let s := advance t s
  if (fnRec s fn.val).state = .quiescing ∧ fnStill s fn.val then
    .next (answerWaiters fn.val (stDone []) (setFn fn.val (fun f => { f with state := .quiesced }) s))
  else .next s

/-! ### Resets (R207, Table 6.6a) -/

/-- Ports that a reset takes away wait for nothing any more: their long requests are discarded with the ring (Table 4.6). -/
def forgetPort (p : Port) (s : State) : State :=
  let s := (s.hif.fns.map (fun e => e.1)).foldl (fun (s : State) k => setFn k (fun f => { f with waiters := f.waiters.filter (fun x => x != p) }) s) s
  let s := setPwr (fun x => { x with enterWaiters := x.enterWaiters.filter (fun y => y != p), leaveWaiters := x.leaveWaiters.filter (fun y => y != p) }) s
  let s := { s with trv := { s.trv with tests := s.trv.tests.map (fun x => if x.port = some p then { x with port := none } else x) } }
  let s := (List.range 8).foldl (fun (s : State) k =>
    setTs k (fun r => { r with cal := r.cal.map (fun c => { c with ports := c.ports.filter (fun y => y != p) }) }) s) s
  (List.range 16).foldl (fun (s : State) n => setHap n (fun r => { r with cal := r.cal.map (fun c => if c.1 = some p then (none, c.2) else c) }) s) s

/-- The rings, event queues, records, sessions and MSI-X entries of a function return to their reset state (Table 6.6a, Table 4.6). -/
def resetPorts (fn : Nat) (s : State) : State :=
  let f : Fn := Fin.ofNat 64 fn
  let mine (p : Port) : Bool := p == .ring f false || p == .ring f true
  let s := (s.gcp.sessions.filter (fun x => mine x.port)).foldl (fun (s : State) (x : Session) => freeSession x.tag s) s
  let s := forgetPort (.ring f true) (forgetPort (.ring f false) s)
  let s := { s with gcp := { s.gcp with rings := tclear s.gcp.rings (2 * fn) (2 * fn + 2) } }
  { s with hif := { s.hif with eqs := tclear s.hif.eqs (2 * fn) (2 * fn + 2), posts := s.hif.posts.filter (fun p => p.1 / 2 != fn),
                               msix := tclear s.hif.msix (64 * fn) (64 * fn + 64) } }

/-- The counters of the accounting and session groups of a function clear (R89, R145). -/
def clearCounters (fn : Nat) (s : State) : State :=
  let s := { s with ledger := { s.ledger with acct := tmod {} s.ledger.acct fn (fun a => { a with done := 0, charged := 0, notCharged := 0, refused := 0 }) } }
  let s := { s with gcp := { s.gcp with auth := tmod {} (tmod {} s.gcp.auth (2 * fn) (fun a => { a with fails := 0 })) (2 * fn + 1) (fun a => { a with fails := 0 }) } }
  let clr (q : Nat) (s : State) : State :=
    { s with reqRegs := tclear s.reqRegs (2 ^ 28 * q + 0x800) (2 ^ 28 * q + 0x830) }
  clr (2 * fn + 1) (clr (2 * fn) s)

/-- The layers granted to a function are disabled from the next latch point of their output, at once where none comes (Table 6.6a). -/
def disableLayers (fn : Nat) (s : State) : State :=
  (layersOf s fn).foldl (fun (s : State) i =>
    let off := Reg.Lx_CTRL (i / 9) (i % 9)
    let s := wrSh off (setB (rdSh s off) Fld.Lx_CTRL_ENABLE false) s
    if tgOn s (i / 9) then setLayer i (fun x => { x with off := true }) s else wrB off Fld.Lx_CTRL_ENABLE false s) s

/-- Objects with shadows that are granted to a function: layers and outputs. -/
def shadowObjects (s : State) (fn : Nat) : List Nat := (layersOf s fn).map (obj 2) ++ (grantedOf s 0xC 8 fn).map (obj 0xC)

/-- The output of an object with shadows. -/
def shadowOutput (o : Nat) : Nat := if o / 4096 = 2 then o % 4096 / 9 else o % 4096

/-- The shadows of a function's objects return to the values in effect (Table 12.5), but for those that a latch point has already taken. -/
def dropShadows (fn : Nat) (s : State) : State :=
  (shadowObjects s fn).foldl (fun (s : State) o =>
    if (outSt s (shadowOutput o)).commits.any (fun p => p.taken && p.holder == ⟨false, fn⟩) then s else discardShadows o s) s

/-- Cancel every open contract of a function: its work stops, the records go where R82 and R209 say (none: no record). -/
def cancelFn (fn : Nat) (queue : Option (Contract → Nat × Bool)) (s : State) : State :=
  trimAll ((s.ledger.contracts.filter (fun c => c.fn == fn)).foldl (fun (s : State) c =>
    let s := stopWork c s
    match queue with
    | some q => cancelTo (q c) c s.gtb s
    | none => dropContract c.fn c.id (forgetItem c s)) s)

/-- The churn buffers of a PF are emptied, with no flag (Table 20.5). -/
def emptyChurn (fn : Nat) (s : State) : State :=
  if fn < 4 then { s with rg := { s.rg with churn := tclear s.rg.churn (2 * fn) (2 * fn + 2) } } else s

/-- The effects of a function reset (Table 6.6a) after its own records have been posted by `first`. -/
def resetFn (fn : Nat) (first : State → State) (queue : Option (Contract → Nat × Bool)) (s : State) : State :=
  let s := cancelFn fn queue (first (resetPorts fn s))
  let s := disableLayers fn (dropShadows fn s)
  let s := resetMaps fn s
  let s := (streamsOf s fn).foldl (fun (s : State) a => if streamIsOpen s a then streamClose a s else s) s
  let s := (channelsOf s fn).foldl (fun (s : State) n =>
    setDma n (fun r => { r with running := r.running.filter (fun x => !x.isReg), shadow := r.shadow.filter (fun x => !x.isReg), regs := [] }) s) s
  let s := (unitsOf s fn).foldl (fun (s : State) u => cvDiscard u s) s
  leaveAllGates fn (touchForget fn (hapForget fn (emptyChurn fn (clearCounters fn s))))

/-- Where the cancel records of a reset go (R82): of a VF to its manager's EQ0, of a PF to its own queues by world. -/
def resetQueue (s : State) (fn : Nat) (c : Contract) : Nat × Bool := if fn < 4 then recordQueue c else (portOf s fn, false)

/-- An FN_EVENT record (Table 6.8). -/
def fnEvent (fn cause cancelled : Nat) (stamp : Tick) : List Byte :=
  le 2 0x0801 ++ le 2 0 ++ le 1 fn ++ le 1 cause ++ le 2 0 ++ le 8 stamp ++ le 4 cancelled ++ le 12 0

/-- Enter RESETTING. A save in progress stops and replies FUNCTION_BUSY (Table 6.7). -/
def beginReset (fn : Nat) (s : State) : State :=
  let s := if (fnRec s fn).state = .saving then answerWaiters fn (stOnly .functionBusy) s else s
  setFn fn (fun f => { f with state := .resetting }) s

/-- VFs on a port, rising. -/
def vfsOn (s : State) (port : Nat) : List Nat := (List.range 64).filter (fun f => decide (4 ≤ f) && (fnRec s f).state != .absent && (fnRec s f).port == port)

/-- Reset every VF of a port with no record of its own, and make them unreachable (R209). -/
def resetVfs (port : Nat) (s : State) : State :=
  let s := { s with hif := { s.hif with vfEnable := tput false s.hif.vfEnable port false } }
  (vfsOn s port).foldl (fun (s : State) f => resetFn f id none (beginReset f s)) s

/-- Open contracts of the VFs of a port. -/
def vfContracts (s : State) (port : Nat) : Nat := ((vfsOn s port).map (openOf s)).sum

/-- The VF_DISABLED record of a port (R209); without a VF none is posted. -/
def vfDisabled (s : State) (port : Nat) (u : State) : State :=
  if (vfsOn s port).isEmpty then u else post port false (fnEvent port 2 (vfContracts s port) s.gtb) u

/-- An FLR of a function that is not ABSENT (R208, R209). -/
def flr (fn : Nat) (s : State) : State :=
  let n := openOf s fn
  let t := s.gtb
  let quiet := (fnRec s fn).state = .quiesced
  let port := if fn < 4 then fn else portOf s fn
  let forced (u : State) : State := if quiet then u else post port false (fnEvent fn 1 n t) u
  let s₀ := s
  let s := if fn < 4 then resetVfs fn s else s
  resetFn fn (fun u => if fn < 4 then vfDisabled s₀ fn (forced u) else forced u) (some (resetQueue s fn)) (beginReset fn s)

/-- Meaning of FLR (R208, R209). -/
def execFlr (t : Tick) (fn : Fn) (s : State) : Out :=
  let s := advance t s
  if (fnRec s fn.val).state = .absent then .next s else .next (flr fn.val s)

/-- Meaning of VF_ENABLE_CLEAR (R209): the host clears VF Enable of a port by a configuration write. -/
def execVfEnableClear (t : Tick) (port : BitVec 2) (s : State) : Out :=
  let s := advance t s
  if (fnRec s port.toNat).state = .absent then .next s else .next (resetVfs port.toNat (vfDisabled s port.toNat s))

/-- Meaning of PORT_RESET (R209, R433, R557): every function on the port is reset as by a forced FLR, with no record. The link is down, VF Enable and NumVFs are clear. -/
def execPortReset (t : Tick) (port : BitVec 2) (s : State) : Out :=
  let s := advance t s
  let p := port.toNat
  if (fnRec s p).state = .absent then .next s
  else
    let s := wrF Reg.RST_CAUSE Fld.RST_CAUSE_PORT (fld s Reg.RST_CAUSE Fld.RST_CAUSE_PORT ||| 2 ^ p) s
    let w := rd s (Reg.LNK_PCIEp_STAT p)
    let s := wr (Reg.LNK_PCIEp_STAT p) (setF 0 Fld.LNK_PCIEp_STAT_RECOVERIES (getF w Fld.LNK_PCIEp_STAT_RECOVERIES)) s
    let s := { s with hif := { s.hif with numVfs := tput 0 s.hif.numVfs p 0, bars := tput [] s.hif.bars p [] } }
    .next (resetFn p id none (beginReset p (resetVfs p s)))

/-- Meaning of FUNCTION_RESET_END (R207, R208, Table 6.7): the function returns to ACTIVE; an FN_QUIESCE that was pending replies DONE. -/
def execFunctionResetEnd (t : Tick) (fn : Fn) (s : State) : Out :=
  let s := advance t s
  if (fnRec s fn.val).state = .resetting then .next (answerWaiters fn.val (stDone []) (setFn fn.val (fun f => { f with state := .active }) s))
  else .next s

/-! ### Completion timeouts -/

/-- Meaning of PCIE_COMPLETION_TIMEOUT (R433): a read to a host was not completed in 10,000,000 ticks. It counts as a bus error of the block that issued it; for the fetch of a slot of a ring
that is the bus error of R110. -/
def execPcieCompletionTimeout (t : Tick) (ring : Option (Fn × Bool)) (source : BitVec 8) (s : State) : Out :=
  let s := advance t s
  let s := setLnk (fun l => { l with timeouts := tmod 0 l.timeouts source.toNat (· + 1) }) s
  match ring with
  | none => .next s
  | some (fn, holm) =>
    if portExists (.ring fn holm) then
      (if ringOpen s fn.val holm then .next (setRing fn.val holm (fun r => { r with fetchErr := true, enable := false }) s) else .next s)
    else .fault .noSuchWindow

end Sys2Proof.Machine
end

