-- ==== Sys2Proof/Machine/Functions.lean ====
section
/-!
DEFINITION. Functions.lean: creating, quiescing, resetting, removing, saving and restoring functions (R199 to R215, R639).
-/

namespace Sys2Proof.Machine

open Sys2Proof

/-! ### Creation (R199 to R202) -/

/-- What FN_CREATE and FN_RESTORE ask for: slot (0xFF any), shares, counts, vectors. -/
structure FnAsk where
  port : Nat
  vf : Nat
  shd : Nat
  drb : Nat
  vat : Nat
  layers : Nat
  dma : Nat
  aud : Nat
  touch : Nat
  msix : Nat
  deriving DecidableEq, Repr

/-- The requester of a session on a ring (R199). -/
def ctxRequester (c : Ctx) : Requester := ⟨Fin.ofNat 64 c.fn, if c.holm then .holm else .mainland⟩

/-- The layer objects that a requester has picked (Table 6.17), in order: bit 8o + l is layer l of output o. -/
def pickedLayers (s : State) (rq : Requester) : List Nat :=
  let m := (rdReq s rq Reg.HIF_FN_PICK_LO).toNat + 2 ^ 32 * (rdReq s rq Reg.HIF_FN_PICK_HI).toNat
  (setBits 64 m).map (fun b => 9 * (b / 8) + b % 8)

/-- The sensors that a requester has picked (Table 6.18). -/
def pickedSensors (s : State) (rq : Requester) : List Nat := setBits 8 (rdReq s rq Reg.HIF_FN_PICK_SENSOR).toNat

/-- Bytes of scratch space that a share gives (R201). -/
def scratchBytes (vat : Nat) : Nat := vat * 0x400000 / 1000 / 65536 * 65536

/-- Idle DMA channels that a manager holds (R201). -/
def idleChannels (s : State) (m : Nat) : List Nat :=
  (channelsOf s m).filter (fun n => (contractsOn s .dma n).isEmpty && (dmaOf s n).regSets.isEmpty)

/-- Closed host streams that a manager holds. -/
def closedStreams (s : State) (m : Nat) : List Nat := (streamsOf s m).filter (fun a => !streamIsOpen s a)

/-- Undefined touch regions that a manager holds on some sensors, in order. -/
def freeRegions (s : State) (m : Nat) (ks : List Nat) : List Nat :=
  (grantedOf s 5 256 m).filter (fun r => ks.contains (r / 32) && !flg s (Reg.TCH_Sk_Rr_CFG (r / 32) (r % 32)) Fld.TCH_Sk_Rr_CFG_ENABLE)

/-- Does a manager's share of a resource, less the requested one, still cover what is admitted against it (R201)? -/
def shareCovers (s : State) (m : Nat) (r : Rate) (p : Nat) : Bool :=
  decide (p ≤ shareOf s m r) && decide (poolUsed s (.share m) r ≤ fullCap s r * (shareOf s m r - p) * 65536 / 200000000)

/-- Take `need` bytes from the top of extents listed from the highest address down: what is taken and what stays. -/
def takeTop : List (Nat × Nat) → Nat → List (Nat × Nat) × List (Nat × Nat)
  | [], _ => ([], [])
  | (b, n) :: es, need =>
    let k := min n need
    let r := takeTop es (need - k)
    ((if k = 0 then [] else [(b + (n - k), k)]) ++ r.1, (if n - k = 0 then [] else [(b, n - k)]) ++ r.2)

/-- The highest-addressed part of a manager's scratch space (R202), and what it keeps. -/
def splitScratch (s : State) (m need : Nat) : List (Nat × Nat) × List (Nat × Nat) :=
  let r := takeTop (fnRec s m).scratch.reverse need
  (r.1.reverse, r.2.reverse)

/-- Is that part free of the manager's mappings, so that the rest covers its use (R201)? -/
def scratchCovers (s : State) (m need : Nat) : Bool :=
  let got := (splitScratch s m need).1
  extLen got == need &&
  got.all (fun e => (mapsOf s m).all (fun x => x.kind != 2 || x.ext.all (fun y => !overlaps (vatBase + 0x3C00000 + e.1) e.2 y.1 y.2)))

/-- Can the pool supply a request (R201)? -/
def poolSupplies (s : State) (m : Nat) (ks : List Nat) (a : FnAsk) : Bool :=
  decide (a.dma ≤ (idleChannels s m).length) && decide (a.aud ≤ (closedStreams s m).length) && decide (a.touch ≤ (freeRegions s m ks).length) &&
  decide (a.msix ≤ s.hif.vfPool) && shareCovers s m .shd a.shd && shareCovers s m .drb a.drb && shareCovers s m .vat a.vat && scratchCovers s m (scratchBytes a.vat)

/-- The slot that a request takes: the named one, or the lowest-numbered free one. -/
def slotFor (s : State) (vf : Nat) : Option Nat :=
  if vf = 0xFF then (List.range 60).find? (fun i => (fnRec s (4 + i)).state == .absent)
  else if (fnRec s (4 + vf)).state = .absent then some vf else none

/-- The first field of a request that is out of range (step 4 of Table 6.4). -/
def badField (a : FnAsk) : Option Nat :=
  if 1000 < a.shd then some 2 else if 1000 < a.drb then some 4 else if 1000 < a.vat then some 6
  else if 16 < a.layers then some 8 else if 32 < a.dma then some 9 else if 8 < a.aud then some 0xA else if 32 < a.touch then some 0xB
  else if a.msix < 2 ∨ 64 < a.msix then some 0xC else none

/-- The checks of Table 6.4 in order. -/
def fnAskCheck (s : State) (c : Ctx) (a : FnAsk) : Option (List Byte) :=
  let rq := ctxRequester c
  let ls := pickedLayers s rq
  if 4 ≤ a.port ∨ (fnRec s a.port).state = .absent then some (stOff .paramInvalid 0)
  else if a.port ≠ c.fn then some (stOff .notGranted 0)
  else if 60 ≤ a.vf ∧ a.vf ≠ 0xFF then some (stOff .paramInvalid 1)
  else match badField a with
  | some o => some (stOff .paramInvalid o)
  | none =>
    if ls.length ≠ a.layers then some (stOff .paramInvalid 8)
    else if ls.all (fun i => ownedBy s (obj 2 i) false c.fn) = false then some (stOff .notGranted 8)
    else if (slotFor s a.vf).isNone then some (stOnly (if a.vf = 0xFF then .poolExhausted else .resourceHeld))
    else if poolSupplies s c.fn (pickedSensors s rq) a then none
    else some (stOnly .poolExhausted)

/-- Move an object to a function: it returns to its reset state (R156, R202). -/
def moveObject (fn : Nat) (s : State) (o : Nat) : State := setOwn o ⟨false, true, fn⟩ (resetObject o s)

/-- The objects that a creation moves (R202). -/
def movedObjects (s : State) (m : Nat) (rq : Requester) (a : FnAsk) : List Nat :=
  (pickedLayers s rq).map (obj 2) ++ ((idleChannels s m).take a.dma).map (obj 3) ++ ((closedStreams s m).take a.aud).map (obj 6) ++
    ((freeRegions s m (pickedSensors s rq)).take a.touch).map (obj 5)

/-- What an earlier function in the slot may have left, and the state that a new function starts in: no sessions, no mappings, no counters, no results. -/
def freshFn (fn : Nat) (s : State) : State :=
  let s := { s with ledger := { s.ledger with acct := tput {} s.ledger.acct fn {} } }
  let s := { s with gcp := { s.gcp with auth := tclear s.gcp.auth (2 * fn) (2 * fn + 2) } }
  let s := { s with reqRegs := tclear s.reqRegs (2 ^ 28 * (2 * fn)) (2 ^ 28 * (2 * fn + 2)) }
  let s := { s with rg := { s.rg with latches := tclear s.rg.latches (2 * fn) (2 * fn + 2) } }
  let s := { s with mv := { s.mv with results := s.mv.results.filter (fun r => r.fn != fn) } }
  let s := { s with ren := { s.ren with fences := tclear s.ren.fences (2 * fn) (2 * fn + 2) } }
  resetPorts fn s

/-- The whole creation as one step (R202). -/
def buildFn (m slot : Nat) (st : FnState) (rq : Requester) (a : FnAsk) (s : State) : State :=
  let fn := 4 + slot
  let cut := splitScratch s m (scratchBytes a.vat)
  let s := (movedObjects s m rq a).foldl (moveObject fn) (freshFn fn s)
  let s := cut.1.foldl (fun (s : State) (e : Nat × Nat) => zeroFill (vatBase + 0x3C00000 + e.1) e.2 s) s
  let s := setFn m (fun f => { f with shd := f.shd - a.shd, drb := f.drb - a.drb, vat := f.vat - a.vat, scratch := cut.2 }) s
  let s := setFn fn (fun _ => { state := st, port := m, vectors := a.msix, shd := a.shd, drb := a.drb, vat := a.vat, scratch := cut.1 }) s
  { s with hif := { s.hif with vfPool := s.hif.vfPool - a.msix } }

/-- FN_CREATE (Table 3.6). -/
def opFnCreate : OpInfo := ⟨0x0810, (3, 0), .mgr, none, false, .fixed 16, false⟩

/-- The fields of FN_CREATE. -/
def parseFnAsk (p : List Byte) : FnAsk :=
  ⟨leAt p 0 1, leAt p 1 1, leAt p 2 2, leAt p 4 2, leAt p 6 2, leAt p 8 1, leAt p 9 1, leAt p 0xA 1, leAt p 0xB 1, leAt p 0xC 2⟩

/-- Steps 12 and 13 of FN_CREATE (R200 to R202). -/
def doFnCreate (c : Ctx) (s : State) : Ans :=
  let a := parseFnAsk c.pay
  if leAt c.pay 0xE 2 ≠ 0 then .reply (stOff .reservedSet 0xE) s
  else match fnAskCheck s c a, slotFor s a.vf with
  | some pay, _ => .reply pay s
  | none, none => .reply (stOnly .poolExhausted) s
  | none, some slot => .reply (stDone (le 1 (4 + slot) ++ le 3 0)) (buildFn c.fn slot .active (ctxRequester c) a s)

/-- Meaning of FN_CREATE (R202). -/
def execFnCreate (t : Tick) (q : Request) (s : State) : Out := gcp opFnCreate t q doFnCreate s

/-! ### FN_QUIESCE, FN_RESUME, FN_RESET, FN_REMOVE (R204 to R210, R639) -/

/-- The checks of R639. -/
def fnTarget (s : State) (c : Ctx) : Option (List Byte) :=
  let f := leAt c.pay 0 1
  if leAt c.pay 1 3 ≠ 0 then some (stOff .reservedSet 1)
  else if f < 4 ∨ 64 ≤ f ∨ (fnRec s f).state = .absent then some (stOff .paramInvalid 0)
  else if (fnRec s f).port ≠ c.fn then some (stOff .notGranted 0)
  else none

/-- FN_QUIESCE (Table 3.6). -/
def opFnQuiesce : OpInfo := ⟨0x0811, (3, 0), .mgr, none, false, .fixed 4, false⟩

/-- Step 13 of FN_QUIESCE (R204, R205): the reply comes when the function is quiet. -/
def doFnQuiesce (c : Ctx) (s : State) : Ans :=
  match fnTarget s c with
  | some pay => .reply pay s
  | none =>
    let f := leAt c.pay 0 1
    let wait (s : State) : State := setFn f (fun x => { x with waiters := x.waiters ++ [c.port] }) s
    match (fnRec s f).state with
    | .quiesced | .saving => .reply (stDone []) s
    | .resetting => .reply (stOnly .functionBusy) s
    | .quiescing => .later (wait s)
    | _ => .later (wait (quiesce f s))

/-- Meaning of FN_QUIESCE (R204). -/
def execFnQuiesce (t : Tick) (q : Request) (s : State) : Out := gcp opFnQuiesce t q doFnQuiesce s

/-- FN_RESUME (Table 3.6). -/
def opFnResume : OpInfo := ⟨0x0812, (3, 0), .mgr, none, false, .fixed 4, false⟩

/-- Step 13 of FN_RESUME (R206). -/
def doFnResume (c : Ctx) (s : State) : Ans :=
  match fnTarget s c with
  | some pay => .reply pay s
  | none =>
    let f := leAt c.pay 0 1
    match (fnRec s f).state with
    | .quiescing | .resetting | .saving => .reply (stOnly .functionBusy) s
    | _ => .reply (stDone []) (setFn f (fun x => { x with state := .active }) s)

/-- Meaning of FN_RESUME (R206). -/
def execFnResume (t : Tick) (q : Request) (s : State) : Out := gcp opFnResume t q doFnResume s

/-- FN_RESET (Table 3.6). -/
def opFnReset : OpInfo := ⟨0x0813, (3, 0), .mgr, none, false, .fixed 4, false⟩

/-- A reset that a manager asks for, from RESETTING back to ACTIVE within its service. -/
def resetNow (f : Nat) (s : State) : State :=
  setFn f (fun x => { x with state := .active }) (resetFn f id (some (resetQueue s f)) (beginReset f s))

/-- Step 13 of FN_RESET (R207, R208). -/
def doFnReset (c : Ctx) (s : State) : Ans :=
  match fnTarget s c with
  | some pay => .reply pay s
  | none =>
    let f := leAt c.pay 0 1
    if (fnRec s f).state ≠ .quiesced then .reply (stOnly .functionBusy) s else .reply (stDone []) (resetNow f s)

/-- Meaning of FN_RESET (R207). -/
def execFnReset (t : Tick) (q : Request) (s : State) : Out := gcp opFnReset t q doFnReset s

/-- FN_REMOVE (Table 3.6). -/
def opFnRemove : OpInfo := ⟨0x0814, (3, 0), .mgr, none, false, .fixed 4, false⟩

/-- Objects granted to a function, of the classes that a manager gives or that Holm grants. -/
def objectsOf (s : State) (fn : Nat) : List Nat := ((s.iso.own.filter (fun e => !e.2.holm && e.2.granted && e.2.fn == fn)).map (fun e => e.1))

/-- A function goes (R210): its objects, shares, scratch space and vectors return to the manager. -/
def removeFn (f m : Nat) (s : State) : State :=
  let s := deadLeases f (resetNow f s)
  let s := (objectsOf s f).foldl (moveObject m) s
  let r := fnRec s f
  let s := setFn m (fun x => { x with shd := x.shd + r.shd, drb := x.drb + r.drb, vat := x.vat + r.vat, scratch := addExts r.scratch x.scratch }) s
  setFn f (fun _ => {}) { s with hif := { s.hif with vfPool := s.hif.vfPool + r.vectors, posts := s.hif.posts.filter (fun p => p.1 / 2 != f) } }

/-- Step 13 of FN_REMOVE (R210). -/
def doFnRemove (c : Ctx) (s : State) : Ans :=
  match fnTarget s c with
  | some pay => .reply pay s
  | none =>
    let f := leAt c.pay 0 1
    if (fnRec s f).state ≠ .quiesced then .reply (stOnly .functionBusy) s else .reply (stDone []) (removeFn f c.fn s)

/-- Meaning of FN_REMOVE (R210). -/
def execFnRemove (t : Tick) (q : Request) (s : State) : Out := gcp opFnRemove t q doFnRemove s

/-! ### Images (R212, R213) -/

/-- Bits of a register that the shadow holds. -/
def shMask (off : Nat) : Word := match regAt off with | some d => BitVec.ofNat 32 (d.mask (fun a => a == .sh)) | none => 0

/-- A register word of an image: SH fields from the shadow, the others in effect (Table 6.9a). -/
def imageWord (s : State) (off : Nat) : Word := (rd s off &&& ~~~(shMask off)) ||| (rdSh s off &&& shMask off)

/-- The register image of `n` bytes from an offset. -/
def regImage (s : State) (off n : Nat) : List Byte := (List.range (n / 4)).flatMap (fun i => le 4 (imageWord s (off + 4 * i)).toNat)

/-- A section of an image. -/
def section_ (ty : Nat) (data : List Byte) : List Byte := le 2 ty ++ le 2 0 ++ le 4 data.length ++ data

/-- MFLAGS of a mapping (Table 7.6). -/
def mapFlags (m : Mapping) : Nat := bit m.rd + 2 * bit m.wr + 4 * m.kind + 16 * bit m.large

/-- The bytes of a device mapping in order. -/
def mapBytes (s : State) (m : Mapping) : List Byte := m.ext.flatMap (fun e => rdDpas s e.1 e.2)

/-- The body of a function's image (Table 6.9a). -/
def imageBody (s : State) (fn : Nat) : List Byte :=
  let w (x : Word) : List Byte := le 4 x.toNat
  let rings := ([0, 4, 8, 0xC, 0x10, 0x14].flatMap (fun o => w (ringRegRead s fn false o))) ++ ([0, 4, 8, 0xC, 0x10, 0x14].flatMap (fun o => w (eqRegRead s fn false o)))
  let msix := (List.range (4 * vectorsOf s fn)).flatMap (fun i => w (msixRead s fn (4 * i)))
  let maps := mapsOf s fn
  section_ 1 rings ++ section_ 2 msix ++
  section_ 3 (maps.flatMap (fun m => le 8 m.iova ++ le 8 m.len ++ le 4 (mapFlags m) ++ le 4 0)) ++
  section_ 4 ((maps.filter (fun m => m.kind != 0)).flatMap (mapBytes s)) ++
  (layersOf s fn).flatMap (fun i => section_ 5 (regImage s (layerBase i) 0x400)) ++
  (streamsOf s fn).flatMap (fun a => section_ 6 (regImage s (0xF01000 + 0x200 * a) 0x200)) ++
  section_ 7 ((grantedOf s 5 256 fn).flatMap (fun r => regImage s (Reg.TCH_Sk_Rr_RECT0 (r / 32) (r % 32)) 16)) ++
  section_ 8 ((fnRec s fn).scratch.flatMap (fun e => rdDpas s (vatBase + 0x3C00000 + e.1) e.2))

/-- IMAGE_LEN of a function's image. -/
def imageLen (s : State) (fn : Nat) : Nat := 0x60 + (imageBody s fn).length

/-- The image key (R213). -/
def imageKey (mk nonce : List Byte) (id : Nat) : List Byte := hkdf32 nonce mk (ascii "ZV880 function image" ++ le 4 id)

/-- The 80-byte header of an image (Table 6.9). -/
def imageHeader (s : State) (fn : Nat) (id : Nat) (nonce : List Byte) (bodyLen : Nat) : List Byte :=
  let f := fnRec s fn
  ascii "ZVFN" ++ le 2 1 ++ le 2 0 ++ le 4 (0x60 + bodyLen) ++ le 4 id ++ le 4 (deviceId s) ++ nonce ++ le 8 f.saveAt ++
    le 1 (layersOf s fn).length ++ le 1 (channelsOf s fn).length ++ le 1 (streamsOf s fn).length ++ le 1 (grantedOf s 5 256 fn).length ++
    le 2 f.vectors ++ le 2 0 ++ le 2 f.shd ++ le 2 f.drb ++ le 2 f.vat ++ le 2 0 ++ le 4 bodyLen ++ le 20 0

/-- The migration key of a number; an unprovisioned key is not given by spec/. -/
def migrationKey (s : State) (i : Nat) : List Byte :=
  match s.boot.otp.mks.getD i none with
  | some k => k
  | none => (List.range 32).map (fun j => Config.freeByte (32 * i + j))

/-- The image of a function under a fresh nonce (R213), and the state that has drawn it. -/
def makeImage (fn : Nat) (s : State) : List Byte × State :=
  let (nonce, s) := drawBytes 12 s
  let id := 0x20000 + s.boot.mkeyActive
  let body := imageBody s fn
  let hdr := imageHeader s fn id nonce body.length
  let r := gcmSeal (imageKey (migrationKey s s.boot.mkeyActive) nonce id) nonce hdr body
  (hdr ++ r.1 ++ r.2, s)

/-- FN_SAVE (Table 3.6). -/
def opFnSave : OpInfo := ⟨0x0815, (3, 0), .mgr, none, false, .fixed 16, false⟩

/-- Step 13 of FN_SAVE (R212): the reply comes when the image is written. -/
def doFnSave (c : Ctx) (s : State) : Ans :=
  match fnTarget s c with
  | some pay => .reply pay s
  | none =>
    let f := leAt c.pay 0 1
    let len := leAt c.pay 0xC 4
    if (fnRec s f).state ≠ .quiesced then .reply (stOnly .functionBusy) s
    else if len = 0 then .reply (stDone (le 4 (imageLen s f))) s
    else if len < imageLen s f then .reply (stOff .paramInvalid 0xC) s
    else .later (setFn f (fun x => { x with state := .saving, waiters := [c.port], saveDest := leAt c.pay 4 8, saveLen := len, saveAt := s.gtb }) s)

/-- Meaning of FN_SAVE (R212). -/
def execFnSave (t : Tick) (q : Request) (s : State) : Out := gcp opFnSave t q doFnSave s

/-- Does the memory that a save reads hold a poisoned word? -/
def savePoisoned (s : State) (fn : Nat) : Bool :=
  let es := ((mapsOf s fn).filter (fun m => m.kind != 0)).flatMap (fun m => m.ext) ++ (fnRec s fn).scratch.map (fun (e : Nat × Nat) => (vatBase + 0x3C00000 + e.1, e.2))
  s.mem.poison.any (fun w => es.any (fun e => decide (e.1 < w + 8) && decide (w < e.1 + e.2)))

/-- Meaning of FN_SAVE_DONE (R212): the image is written through the manager's context, the function returns to QUIESCED. A poisoned word returns ECC_UNCORRECTABLE (R221, R228). -/
def execFnSaveDone (t : Tick) (fn : Fn) (s : State) : Out :=
  let s := advance t s
  let f := fnRec s fn.val
  if f.state = .saving ∧ savePoisoned s fn.val = true then
    .next (answerWaiters fn.val (stOnly .eccUncorrectable) (setFn fn.val (fun x => { x with state := .quiesced }) s))
  else if f.state = .saving then
    (let (img, s) := makeImage fn.val s
     let s := wrIovas f.port 8 f.saveDest img s
     .next (answerWaiters fn.val (stDone (le 4 img.length)) (setFn fn.val (fun x => { x with state := .quiesced }) s)))
  else .next s

/-! ### Restore (R214) -/

/-- FN_RESTORE (Table 3.6). -/
def opFnRestore : OpInfo := ⟨0x0816, (3, 0), .mgr, none, false, .fixed 16, false⟩

/-- The body of an image that is right (R214): MAGIC, FORMAT, IMAGE_LEN, a provisioned key, the tag. -/
def openImage (s : State) (img : List Byte) (len : Nat) : Option (List Byte) :=
  let n := leAt img 0x38 4
  let id := leAt img 0xC 4
  if slice img 0 4 ≠ ascii "ZVFN" ∨ leAt img 4 2 ≠ 1 ∨ leAt img 8 4 ≠ len ∨ len ≠ 0x60 + n then none
  else if id < 0x20000 ∨ 0x20002 ≤ id then none
  else
    match s.boot.otp.mks.getD (id - 0x20000) none with
    | none => none
    | some k =>
      let nonce := slice img 0x14 12
      gcmOpen (imageKey k nonce id) nonce (slice img 0 0x50) (slice img 0x50 n) (slice img (0x50 + n) 16)

/-- The request that an image's header makes. -/
def imageAsk (port vf : Nat) (img : List Byte) : FnAsk :=
  ⟨port, vf, leAt img 0x30 2, leAt img 0x32 2, leAt img 0x34 2, leAt img 0x28 1, leAt img 0x29 1, leAt img 0x2A 1, leAt img 0x2B 1, leAt img 0x2C 2⟩

/-- The sections of a body. The fuel is its length. -/
def sectionsOf : Nat → List Byte → List (Nat × List Byte)
  | 0, _ => []
  | n + 1, bs => if bs.length < 8 then [] else (leAt bs 0 2, slice bs 8 (leAt bs 4 4)) :: sectionsOf n (bs.drop (8 + leAt bs 4 4))

/-- The data of the sections of a type, in order. -/
def sectionData (secs : List (Nat × List Byte)) (ty : Nat) : List (List Byte) := (secs.filter (fun x => x.1 == ty)).map (fun x => x.2)

/-- Write an image of registers: SH fields to the shadow only, other fields by their access codes. -/
def writeImage (off : Nat) (img : List Byte) (shadowOnly : Bool) (s : State) : State :=
  (List.range (img.length / 4)).foldl (fun (s : State) i =>
    let o := off + 4 * i
    let w : Word := BitVec.ofNat 32 (leAt img (4 * i) 4)
    if shadowOnly then (let m := shMask o; if m = 0 then s else wrSh o ((rdSh s o &&& ~~~m) ||| (w &&& m)) s) else plainWrite o w s) s

/-- Write bytes over the extents of a mapping in order. -/
def writeExts : List (Nat × Nat) → List Byte → State → State
  | [], _, s => s
  | (b, n) :: es, bs, s => writeExts es (bs.drop n) (wrDpas b (bs.take n) s)

/-- Make the device mappings of an image again with their contents; none when the pool cannot supply one. -/
def remakeMaps (fn : Nat) : List (Nat × Nat × Nat) → List Byte → State → Option State
  | [], _, s => some s
  | (va, len, fl) :: ms, bs, s =>
    match newMapping s fn va len fl with
    | none => none
    | some (m, rest) =>
      let s := writeExts m.ext bs { s with mem := { s.mem with maps := insertMap m s.mem.maps, free := rest } }
      remakeMaps fn ms (bs.drop len) s

/-- The mapping list of an image, without host mappings. -/
def imageMaps (data : List Byte) : List (Nat × Nat × Nat) :=
  ((List.range (data.length / 24)).map (fun i => (leAt data (24 * i) 8, leAt data (24 * i + 8) 8, leAt data (24 * i + 16) 4))).filter (fun m => natBits m.2.2 3 2 != 0)

/-- The ring, the event queue and the MSI-X table of an image: ENABLE 0, every entry masked. -/
def restorePorts (fn : Nat) (ring msix : List Byte) (s : State) : State :=
  let w (i : Nat) : Word := BitVec.ofNat 32 (leAt ring (4 * i) 4)
  let rp := w 4
  let pi := getF rp Fld.MGT_RINGn_PTR_PI
  let ci := getF rp Fld.MGT_RINGn_PTR_CI
  let s := setRing fn false (fun r => { r with
    base := (w 0).toNat + 2 ^ 32 * (w 1).toNat, irqEn := getB (w 2) Fld.MGT_RINGn_CTRL_IRQ_EN, pi := pi, ci := ci, ri := getF rp Fld.MGT_RINGn_PTR_RI,
    stamps := List.replicate (modDist 128 ci pi) s.gtb, fetchErr := getB (w 5) Fld.MGT_RINGn_STATUS_FETCH_ERR, dbOverrun := getB (w 5) Fld.MGT_RINGn_STATUS_DB_OVERRUN }) s
  let s := setEq fn false (fun q => { q with
    base := (w 6).toNat + 2 ^ 32 * (w 7).toNat, size := getF (w 8) Fld.EQ_CTRL_SIZE, irqEn := getB (w 8) Fld.EQ_CTRL_IRQ_EN, ri := getF (w 10) Fld.EQ_PTR_RI,
    wi := getF (w 10) Fld.EQ_PTR_WI, lost := getF (w 11) Fld.EQ_STATUS_LOST, overflow := getB (w 11) Fld.EQ_STATUS_OVERFLOW, riErr := getB (w 11) Fld.EQ_STATUS_RI_ERR }) s
  (List.range (msix.length / 16)).foldl (fun (s : State) v =>
    { s with hif := { s.hif with msix := tput {} s.hif.msix (64 * fn + v) { addr := leAt msix (16 * v) 8, data := leAt msix (16 * v + 8) 4 } } }) s

/-- What an image says of a function that has just been built; its layers come in PICK order. -/
def restoreParts (fn : Nat) (secs : List (Nat × List Byte)) (s : State) : Option State :=
  let one (ty : Nat) : List Byte := (sectionData secs ty).headD []
  let s := restorePorts fn (one 1) (one 2) s
  let s := ((layersOf s fn).zip (sectionData secs 5)).foldl (fun (s : State) x => writeImage (layerBase x.1) x.2 true s) s
  let s := ((streamsOf s fn).zip (sectionData secs 6)).foldl (fun (s : State) x => writeImage (0xF01000 + 0x200 * x.1) x.2 false s) s
  let rs := grantedOf s 5 256 fn
  let s := (List.range rs.length).foldl (fun (s : State) i =>
    let r := rs.getD i 0
    writeImage (Reg.TCH_Sk_Rr_RECT0 (r / 32) (r % 32)) (slice (one 7) (16 * i) 16) false s) s
  let s := writeExts ((fnRec s fn).scratch.map (fun (e : Nat × Nat) => (vatBase + 0x3C00000 + e.1, e.2))) (one 8) s
  remakeMaps fn (imageMaps (one 3)) (one 4) s

/-- Step 13 of FN_RESTORE (R214): the image first (a poisoned word in it returns ECC_UNCORRECTABLE, R228), then Table 6.4, then the device memory that its mappings need. -/
def doFnRestore (c : Ctx) (s : State) : Ans :=
  let len := leAt c.pay 0xC 4
  let src := leAt c.pay 4 8
  if leAt c.pay 2 2 ≠ 0 then .reply (stOff .reservedSet 2) s
  else
    let img := rdIovas s c.fn src len
    let s := noteFault c.fn 8 false src len s
    match (if ctxPoison s (some c.fn) src len then none else openImage s img len) with
    | none => .reply (stOnly (if ctxPoison s (some c.fn) src len then .eccUncorrectable else .imageInvalid)) s
    | some body =>
      let a := imageAsk (leAt c.pay 0 1) (leAt c.pay 1 1) img
      match fnAskCheck s c a, slotFor s a.vf with
      | some pay, _ => .reply pay s
      | none, none => .reply (stOnly .poolExhausted) s
      | none, some slot =>
        match restoreParts (4 + slot) (sectionsOf body.length body) (buildFn c.fn slot .quiesced (ctxRequester c) a s) with
        | none => .reply (stOnly .poolExhausted) s
        | some x => .reply (stDone (le 1 (4 + slot) ++ le 3 0)) x

/-- Meaning of FN_RESTORE (R214). -/
def execFnRestore (t : Tick) (q : Request) (s : State) : Out := gcp opFnRestore t q doFnRestore s

end Sys2Proof.Machine
end

