-- ==== Sys2Proof/Machine/ConfigCrc.lean ====
section
/-!
DEFINITION. ConfigCrc.lean: the running configuration CRC: covered words, segments, references (R580 to R585).
-/

namespace Sys2Proof.Machine

open Sys2Proof

/-! ### Covered words (R580) -/

/-- Registers that hold an index of a table port, and the registers of the check-value units that R580 leaves out, by the offset of their first instance. -/
def uncoveredBases : List Nat :=
  [Reg.OP_LUT_IDX 0, Reg.Lx_COEF_IDX 0 0, Reg.Lx_PAL_IDX 0 0, Reg.CRL_PAL_IDX 0, Reg.CRL_LUT_IDX 0, Reg.LNK_RXn_EDID_IDX 0, Reg.ISO_OWN_IDX,
   Reg.CV_Un_ADDR_LO 0, Reg.CV_Un_ADDR_HI 0, Reg.CV_Un_LEN 0, Reg.CV_Un_COUNT_LO 0, Reg.CV_Un_COUNT_HI 0, Reg.CV_Un_STATEi 0 0]

/-- The covered bits of a register. -/
def covMask (d : RegDef) : Nat :=
  if uncoveredBases.contains d.base || perRequester d.base then 0
  else d.mask (fun a => a == .rw || a == .rws || a == .pw || a == .ch || a == .sh)

/-- The offsets of a register's instances, rising. -/
def RegDef.offsets (d : RegDef) : List Nat :=
  match d.dims with
  | [] => [d.base]
  | [(n, s)] => (List.range n).map (fun i => d.base + s * i)
  | (n, s) :: (n2, s2) :: rest =>
    (List.range n).flatMap (fun i => (List.range n2).flatMap (fun j =>
      match rest with
      | [] => [d.base + s * i + s2 * j]
      | (n3, s3) :: _ => (List.range n3).map (fun k => d.base + s * i + s2 * j + s3 * k)))

/-- The keys of the table entries behind a data register (R581), in index order; none for a register that is no data port. The table behind ISO_OWN_DATA has an entry for each object. -/
def portKeys (off : Nat) : Option (List Nat) :=
  if 0xA00000 ≤ off ∧ off < 0xA80000 then
    (let o := off % 0x10000
     if 0x1000 ≤ o ∧ o < 0x3400 then
       (if o % 0x400 = 0x104 then some (List.range 448) else if o % 0x400 = 0x10C then some (List.range 256) else none)
     else if o = 0x44 ∨ o = 0x48 then
       some (List.range 1024 ++ (List.range 1025).map (fun i => 8192 + i) ++ (List.range 4913).map (fun i => 16384 + i))
     else none)
  else if 0xC00000 ≤ off ∧ off < 0xC08000 then
    (if off % 0x1000 = 0x204 then some (List.range 256) else if off % 0x1000 = 0x20C then some (List.range 3072) else none)
  else if 0xD00C00 ≤ off ∧ off < 0xD01000 ∧ off % 0x100 = 0x0C then some (List.range 64)
  else if off = Reg.ISO_OWN_DATA then
    some ((List.range 13).flatMap (fun c => ((List.range 0x284).map (obj c)).filter objExists))
  else none

/-- The segment of an offset outside the MGT block (Table 20.1). -/
def segOf (off : Nat) : Option Nat :=
  if off < 0x100000 then none
  else if off < 0x400000 then some (1 + off / 0x100000)
  else if off < 0x800000 then some 0x05
  else if off < 0xA00000 then some (off / 0x100000 - 2)
  else if off < 0xA80000 then some (0x08 + (off - 0xA00000) / 0x10000)
  else if off < 0xB00000 then none
  else if off < 0xB08000 then some (0x10 + (off - 0xB00000) / 0x1000)
  else if off < 0xB80000 then none
  else if off < 0xB84000 then some (0x18 + (off - 0xB80000) / 0x1000)
  else if off < 0xC00000 then none
  else if off < 0xC08000 then some (0x1C + (off - 0xC00000) / 0x1000)
  else if off < 0xD00000 then some 0x24
  else if off < 0xE00000 then some 0x25
  else if off < 0xF00000 then (if off < 0xE80000 then some 0x26 else some 0x27)
  else if off < 0x1200000 then some (0x28 + (off - 0xF00000) / 0x100000)
  else if off < 0x1230000 then some (0x2B + (off - 0x1200000) / 0x10000)
  else if off < 0x1300000 then some 0x2E
  else if off < 0x1400000 then some 0x2F
  else none

/-- One covered word: its offset, an index (the key of a table entry, or the function whose ring or event queue it belongs to), the covered bits. -/
structure CovWord where
  off : Nat
  idx : Nat
  mask : Nat
  deriving DecidableEq, Repr

/-- Insert an offset in rising order. -/
def insertOff (x : Nat × Nat) : List (Nat × Nat) → List (Nat × Nat)
  | [] => [x]
  | y :: ys => if x.1 ≤ y.1 then x :: y :: ys else y :: insertOff x ys

/-- Offsets with covered bits in a segment outside MGT, rising. -/
def segOffsets (seg : Nat) : List (Nat × Nat) :=
  (regDefs.flatMap (fun d =>
    let m := covMask d
    if m = 0 then [] else (d.offsets.filter (fun o => segOf o == some seg)).map (fun o => (o, m)))).foldr insertOff []

/-- Ring and event-queue offsets of one world in a window. -/
def queueWords (fn : Nat) (holm : Bool) : List CovWord :=
  let b := if holm then 0x40 else 0
  ([0x100, 0x104, 0x108, 0x200, 0x204, 0x208, 0x20C].map (fun o => o + b)).map (fun o =>
    ⟨o, fn, match regAt o with | some d => covMask d | none => 0⟩)

/-- The segments (R566, Table 20.1): those of the blocks, then those of the VFs present. -/
def segments (s : State) : List Nat :=
  List.range 0x30 ++ ((List.range 60).filter (fun v => (fnRec s (4 + v)).state != .absent)).map (fun v => 0x40 + v)

/-- The covered words of a segment and partition, in string order (R580, R581). The rings and queues of the PFs follow one another, PF0 first. -/
def covWords (s : State) (seg : Nat) (holm : Bool) : List CovWord :=
  if seg = 0 ∨ seg = 1 then
    (if holm = (seg == 1) then ((List.range 4).filter (fun p => (fnRec s p).state != .absent)).flatMap (fun p => queueWords p holm) else [])
  else if 0x40 ≤ seg then (if holm then [] else queueWords (4 + (seg - 0x40)) false)
  else
    let mine (off : Nat) : Bool :=
      match ownerAt off with
      | .holm => holm
      | .mainland => !holm
      | .obj o => holmOwned s o == holm
      | .both => holm
      | .bothRead => holm
    (segOffsets seg).flatMap (fun e =>
      if gateOn s (gateAt e.1) && mine e.1 then
        (match portKeys e.1 with
         | some ks => ks.map (fun k => ⟨e.1, k, e.2⟩)
         | none => [⟨e.1, 0, e.2⟩])
      else [])

/-- The word of an ownership entry as ISO_OWN_DATA reads it (Table 5.14). -/
def ownEntryWord (s : State) (o : Nat) : Word :=
  let e := entryOf s o
  setB (setF (setB (setB 0 Fld.ISO_OWN_DATA_FIXED (objFixed s o || !objExists o)) Fld.ISO_OWN_DATA_GRANTED e.granted) Fld.ISO_OWN_DATA_FN e.fn) Fld.ISO_OWN_DATA_WORLD e.holm

/-- What the flops of a covered word hold. -/
def covValue (s : State) (c : CovWord) : Word :=
  if c.off < 0x200 then ringRegRead s c.idx (decide (0x140 ≤ c.off)) (c.off % 0x40)
  else if c.off < 0x280 then eqRegRead s c.idx (decide (0x240 ≤ c.off)) (c.off % 0x40)
  else if c.off = Reg.ISO_OWN_DATA then ownEntryWord s c.idx
  else if (portKeys c.off).isSome then tab s c.off c.idx
  else rd s c.off

/-- The difference between the flops of a covered word and what they ought to hold. -/
def covUpset (s : State) (c : CovWord) : Word := tget 0 s.rg.upset (portEntry c.off c.idx)

/-- The configuration CRC of some words (R581): of what they ought to hold, or of what the flops hold. -/
def covCrc (s : State) (ws : List CovWord) (run : Bool) : Nat :=
  if ws.isEmpty then 0
  else crc32c (ws.flatMap (fun c => le 4 ((if run then covValue s c else covValue s c ^^^ covUpset s c).toNat &&& c.mask)))

/-- The reference of a segment and partition (R582): the CRC of its string as it ought to stand. -/
def segRef (s : State) (seg : Nat) (holm : Bool) : Nat := covCrc s (covWords s seg holm) false

/-- The running value of a segment and partition: the CRC of what its flops hold (R583). -/
def segRun (s : State) (seg : Nat) (holm : Bool) : Nat := covCrc s (covWords s seg holm) true

/-- HOLM_REF (R585). -/
def holmRef (s : State) : Word := BitVec.ofNat 32 (crc32c ((segments s).flatMap (fun g => le 4 (segRef s g true))))

/-- REG_CRC_STAT.DRIFT (R584, R585): HOLM_REF differs from COMMITTED, or a resync awaits a commit. -/
def drift (s : State) : Bool := s.rg.resynced || holmRef s != rd s Reg.REG_CRC_COMMITTED

/-! ### Upsets -/

/-- Make the flops of a ring register hold a word, whatever ENABLE says: no write did it. -/
def forceRing (fn : Nat) (holm : Bool) (o : Nat) (w : Word) (s : State) : State :=
  setRing fn holm (fun r =>
    if o = 0 then { r with base := r.base / 2 ^ 32 * 2 ^ 32 + w.toNat / 4096 * 4096 }
    else if o = 4 then { r with base := w.toNat * 2 ^ 32 + r.base % 2 ^ 32 }
    else { r with irqEn := getB w Fld.MGT_RINGn_CTRL_IRQ_EN, enable := getB w Fld.MGT_RINGn_CTRL_ENABLE }) s

/-- Make the flops of an event-queue register hold a word. -/
def forceEq (fn : Nat) (holm : Bool) (o : Nat) (w : Word) (s : State) : State :=
  setEq fn holm (fun q =>
    if o = 0 then { q with base := q.base / 2 ^ 32 * 2 ^ 32 + w.toNat / 4096 * 4096 }
    else if o = 4 then { q with base := w.toNat * 2 ^ 32 + q.base % 2 ^ 32 }
    else if o = 8 then { q with size := getF w Fld.EQ_CTRL_SIZE, irqEn := getB w Fld.EQ_CTRL_IRQ_EN, enable := getB w Fld.EQ_CTRL_ENABLE }
    else { q with ri := getF w Fld.EQ_RD_RI }) s

/-- Make the flops of a covered word hold a value. -/
def forceWord (c : CovWord) (w : Word) (s : State) : State :=
  if c.off < 0x200 then forceRing c.idx (decide (0x140 ≤ c.off)) (c.off % 0x40) w s
  else if c.off < 0x280 then forceEq c.idx (decide (0x240 ≤ c.off)) (c.off % 0x40) w s
  else if c.off = Reg.ISO_OWN_DATA then
    setOwn c.idx ⟨getB w Fld.ISO_OWN_DATA_WORLD, getB w Fld.ISO_OWN_DATA_GRANTED, getF w Fld.ISO_OWN_DATA_FN⟩ s
  else if (portKeys c.off).isSome then setTab c.off c.idx w s
  else wr c.off w s

/-- A configuration flop changes without a write: covered bits of one word flip, and the reference does not follow. -/
def upsetWord (off idx : Nat) (flip : Word) (s : State) : State :=
  match (segments s).findSome? (fun g => ((covWords s g true) ++ (covWords s g false)).find? (fun c => c.off == off && c.idx == idx)) with
  | none => s
  | some c =>
    let m := flip &&& BitVec.ofNat 32 c.mask
    let s := forceWord c (covValue s c ^^^ m) s
    { s with rg := { s.rg with upset := tput 0 s.rg.upset (portEntry off idx) (covUpset s c ^^^ m) } }

/-- Does a resync request name a segment (R584)? -/
def resyncs (s : State) (seg : Nat) : Bool := s.rg.resync.contains seg || s.rg.resync.contains 0xFF

/-- The keys of the words of a segment. -/
def segKeys (s : State) (seg : Nat) : List Nat := ((covWords s seg true) ++ (covWords s seg false)).map (fun c => portEntry c.off c.idx)

/-- The segments that were asked for take their running values as references. -/
def resyncAll (s : State) : State :=
  if s.rg.resync.isEmpty then s
  else
    let ks := ((segments s).filter (resyncs s)).flatMap (segKeys s)
    { s with rg := { s.rg with upset := s.rg.upset.filter (fun e => !ks.contains e.1), resync := [], resynced := true } }

/-- The mismatches of a pass, in segment order, Holm before Mainland. -/
def passMismatches (s : State) : List (Nat × Bool × Word × Word) :=
  (segments s).flatMap (fun g => [true, false].filterMap (fun h =>
    let a := segRef s g h
    let b := segRun s g h
    if a = b then none else some (g, h, BitVec.ofNat 32 a, BitVec.ofNat 32 b)))

/-- A CONFIG_EVENT record (Table 20.7). -/
def configRecord (s : State) (ms : List (Nat × Bool × Word × Word)) (pass : Nat) : List Byte :=
  let f := ms.headD (0, false, 0, 0)
  let fl := bit (ms.any (fun m => m.2.1)) + 2 * bit (ms.any (fun m => !m.2.1))
  le 2 0x0A01 ++ le 2 fl ++ le 1 f.1 ++ le 1 (min 255 ms.length) ++ le 2 0 ++ le 4 pass ++ le 4 f.2.2.1.toNat ++ le 4 f.2.2.2.toNat ++ le 4 0 ++ le 8 s.gtb

/-- A scanner pass ends (R583, R584): the segments to resynchronise, the comparison, MISMATCH with its record and interrupt, PASSES. The answer tells whether a Holm partition mismatched. -/
def passEnd (s : State) : State × Bool :=
  let s := resyncAll s
  let ms := passMismatches s
  let p := (rd s Reg.REG_CRC_PASSES).toNat
  let s := wr Reg.REG_CRC_PASSES (BitVec.ofNat 32 (p + 1)) { s with rg := { s.rg with mismatches := ms } }
  if ms.isEmpty then (s, false)
  else
    let last := (ms.getLast?.getD (0, false, 0, 0)).1
    let s := raiseHolm 2 s
    let s := wrB Reg.REG_CRC_STAT Fld.REG_CRC_STAT_MISMATCH true (wrF Reg.REG_CRC_STAT Fld.REG_CRC_STAT_LAST_SEG last s)
    let s := wrF Reg.REG_CRC_STAT Fld.REG_CRC_STAT_MISMATCH_PASSES ((fld s Reg.REG_CRC_STAT Fld.REG_CRC_STAT_MISMATCH_PASSES + 1) % 65536) s
    (post (fld s Reg.REG_CRC_CTRL Fld.REG_CRC_CTRL_EVENT_PF) true (configRecord s ms (p + 1)) s, ms.any (fun m => m.2.1))

end Sys2Proof.Machine
end

