-- ==== Sys2Proof/Machine/Dump.lean ====
section
/-!
DEFINITION. Dump.lean: the Ramkeris log (R603, R604) and the fatal dump (R607 to R610).
-/

namespace Sys2Proof.Machine

open Sys2Proof

/-- Change the boot state. -/
def setBoot (f : BootState → BootState) (s : State) : State := { s with boot := f s.boot }

/-! ### The Ramkeris log (R603) -/

/-- The 64 bytes of an entry. -/
def ramEntryBytes (i : Nat) (e : RamEntry) : List Byte := le 4 i ++ le 2 e.kind ++ le 2 e.flags ++ le 8 e.stamp ++ slice e.data 0 16 ++ slice e.digest 0 32

/-- Append an entry to a log, and extend the chain; a full log of 1,023 entries counts it in DROPPED. -/
def ramAppend (e : RamEntry) (l : RamLog) : RamLog :=
  if l.entries.length < 1023 then
    { l with entries := l.entries ++ [e], chain := sha256 (l.chain ++ ramEntryBytes l.entries.length e) }
  else { l with full := true, dropped := l.dropped + 1 }

/-- Measure (Table 21.7): an entry with the stamp of now. -/
def measure (kind flags : Nat) (data digest : List Byte) (s : State) : State :=
  setBoot (fun b => { b with log := ramAppend ⟨kind, flags, s.gtb, data, digest⟩ b.log }) s

/-- TOTAL of R603. -/
def ramTotal (l : RamLog) : Nat := 64 + 64 * l.entries.length

/-- The bytes of the log: header, then entries. -/
def ramBytes (l : RamLog) : List Byte :=
  ascii "RMKL" ++ le 2 1 ++ le 2 (bit l.full) ++ le 4 l.entries.length ++ le 4 l.dropped ++ le 8 l.bootStamp ++ le 8 0 ++ slice l.chain 0 32 ++
    (List.range l.entries.length).flatMap (fun i => match l.entries[i]? with | some e => ramEntryBytes i e | none => [])

/-- MEASURE_READ (Table 3.6). -/
def opMeasureRead : OpInfo := ⟨0x0902, (2, 0), .any, none, true, .fixed 8, true⟩

/-- Step 13 of MEASURE_READ (R604). -/
def doMeasureRead (c : Ctx) (s : State) : Ans :=
  let off := leAt c.pay 0 4
  let len := leAt c.pay 4 4
  if off % 4 ≠ 0 then .reply (stOff .paramInvalid 0) s
  else if len % 4 ≠ 0 ∨ 4056 < len then .reply (stOff .paramInvalid 4) s
  else
    let t := ramTotal s.boot.log
    .reply (stDone (le 4 t ++ ((ramBytes s.boot.log).drop off).take (min len (t - off)))) s

/-- Meaning of MEASURE_READ. -/
def execMeasureRead (t : Tick) (q : Request) (s : State) : Out := gcp opMeasureRead t q doMeasureRead s

/-! ### The dump (R607 to R609) -/

/-- Change the dump state. -/
def setDump (f : DumpState → DumpState) (s : State) : State := setBoot (fun b => { b with dump := f b.dump }) s

/-- A dump trigger (R608): the sequencer starts, or the trigger is late. `reset` is the cause of the device reset that follows a hardware trigger, 0 with none. -/
def dumpTrigger (trigger reset : Nat) (s : State) : State :=
  match s.boot.dump.writing with
  | some _ => setDump (fun d => { d with late := d.late ||| 2 ^ trigger, thenReset := if d.thenReset = 0 then reset else d.thenReset }) s
  | none => setDump (fun d => { d with writing := some (trigger, s.gtb), late := 0, present := false, thenReset := reset }) s

/-- Bytes whose layout spec/ does not give: free values drawn at their place. -/
def freeBytes (seed n : Nat) : List Byte := (List.range n).map (fun i => Config.freeByte (seed + i))

/-- A section: TYPE, reserved, LENGTH, data padded to a multiple of 8 (R609). -/
def dumpSection (type : Nat) (data : List Byte) : List Byte :=
  le 2 type ++ le 2 0 ++ le 4 data.length ++ data ++ List.replicate ((8 - data.length % 8) % 8) 0

/-- Every covered word as offset and value, at most 1 MiB (Table 21.11). -/
def dumpRegisters (s : State) : List Byte :=
  (((segments s).flatMap (fun g => covWords s g false ++ covWords s g true)).flatMap (fun c =>
    le 4 c.off ++ le 4 ((covValue s c).toNat &&& c.mask))).take 0x100000

/-- The sections before FIRMWARE (Table 21.11). What a control core and the lockstep comparator hold has no layout in spec/: free bytes. -/
def dumpSections (s : State) : List (Nat × List Byte) :=
  [(1, freeBytes s.drawn 2048),
   (2, freeBytes (s.drawn + 2048) 64),
   (3, le 4 (fld s Reg.RST_WD_CTRL Fld.RST_WD_CTRL_MIN) ++ le 4 (fld s Reg.RST_WD_CTRL Fld.RST_WD_CTRL_MAX) ++ le 8 s.pwr.wdLast ++
      le 4 (fld s Reg.RST_WD_STAT Fld.RST_WD_STAT_SERVICES) ++ le 4 (bit s.pwr.wdEarly) ++ le 8 0),
   (4, dumpRegisters s),
   (5, le 4 (packF Fld.ISO_LOG_STAT_LOST s.iso.lost + packF Fld.ISO_LOG_STAT_FIFO_LEVEL s.iso.fifo.length) ++ rdVat s 0x3840000 0x20000),
   (6, le 4 (rd s Reg.CRL_EV_STAT).toNat ++ rdVat s 0x3300000 0xE0000),
   (7, ramBytes s.boot.log),
   (8, s.rg.mismatches.flatMap (fun m => le 1 m.1 ++ le 1 (bit m.2.1) ++ le 2 0 ++ le 4 m.2.2.1.toNat ++ le 4 m.2.2.2.toNat))]

/-- The header of a dump with CRC as given (Table 21.10). -/
def dumpHeader (s : State) (trigger : Nat) (at_ : Tick) (len secs crc : Nat) : List Byte :=
  let d := s.boot.dump
  ascii "ZVDP" ++ le 2 1 ++ le 1 trigger ++ le 1 d.late ++ le 4 len ++ le 4 (d.dumps + 1) ++ le 8 at_ ++ le 8 s.gtb ++ le 4 (rd s Reg.RST_CAUSE).toNat ++
    le 4 s.boot.version ++ le 1 s.boot.slot ++ le 1 (fld s Reg.REG_BOOT_STAT Fld.REG_BOOT_STAT_TRIAL) ++ le 2 secs ++
    le 4 d.index ++ le 8 d.stamp ++ le 1 d.trigger ++ le 1 (bit d.read) ++ le 6 0 ++ slice s.boot.log.chain 0 32 ++ le 8 0 ++ le 8 0 ++ le 8 0 ++ le 4 0 ++ le 4 crc

/-- The sequencer finishes (R608): sections, header last, PRESENT; DUMP_STREAK counts it (R602). -/
def dumpWrite (trigger : Nat) (at_ : Tick) (s : State) : State :=
  let secs := dumpSections s
  let body := secs.flatMap (fun e => dumpSection e.1 e.2)
  let room := 0x400000 - 0x80 - body.length - 8
  let body := body ++ dumpSection 9 (rdVat s 0x3860000 (min 0x3A0000 (room - room % 8)))
  let len := 0x80 + body.length
  let crc := crc32c (dumpHeader s trigger at_ len 9 0 ++ body)
  let h := dumpHeader s trigger at_ len 9 crc
  let s := wrVat 0x3400000 (h ++ body) s
  let go (d : DumpState) : DumpState :=
    { d with present := true, read := false, trigger := trigger, dumps := d.dumps + 1, writing := none, index := d.dumps + 1, stamp := at_, len := len }
  let n := fld s Reg.REG_BOOT_STAT Fld.REG_BOOT_STAT_DUMP_STREAK
  wrF Reg.REG_BOOT_STAT Fld.REG_BOOT_STAT_DUMP_STREAK (min 15 (n + 1)) (setDump go { s with drawn := s.drawn + 2112 })

/-- REG_DUMP_STAT (Table 21.14). -/
def dumpStat (s : State) : Word :=
  let d := s.boot.dump
  BitVec.ofNat 32 (packF Fld.REG_DUMP_STAT_DUMPS d.dumps + packF Fld.REG_DUMP_STAT_TRIGGER (if d.present then d.trigger else 0) +
    packF Fld.REG_DUMP_STAT_WRITING (bit d.writing.isSome) + packF Fld.REG_DUMP_STAT_READ (bit d.read) + packF Fld.REG_DUMP_STAT_PRESENT (bit d.present))

/-- CLEAR of REG_DUMP_CTRL (R610). -/
def dumpClear (s : State) : State := setDump (fun d => { d with present := false, read := false }) s

/-- A write of REG_DUMP_CTRL (Table 21.14): TRIGGER stands, CLEAR and FIRE act; FIRE with a TRIGGER outside 3 to 5 is ignored. -/
def writeDumpCtrl (w : Word) (s : State) : State :=
  let t := getF w Fld.REG_DUMP_CTRL_TRIGGER
  let s := wrF Reg.REG_DUMP_CTRL Fld.REG_DUMP_CTRL_TRIGGER t s
  let s := if getB w Fld.REG_DUMP_CTRL_CLEAR then dumpClear s else s
  if getB w Fld.REG_DUMP_CTRL_FIRE ∧ 3 ≤ t ∧ t ≤ 5 then dumpTrigger t 0 s else s

/-- DUMP_READ (Table 3.6). -/
def opDumpRead : OpInfo := ⟨0x0904, (2, 0), .holm, none, true, .fixed 20, false⟩

/-- Step 13 of DUMP_READ (R610). -/
def doDumpRead (c : Ctx) (s : State) : Ans :=
  let off := leAt c.pay 0 4
  let dest := leAt c.pay 8 8
  let len := leAt c.pay 0x10 4
  if off % 4 ≠ 0 then .reply (stOff .paramInvalid 0) s
  else if leAt c.pay 4 4 ≠ 0 then .reply (stOff .reservedSet 4) s
  else if len % 4 ≠ 0 then .reply (stOff .paramInvalid 0x10) s
  else
    let d := s.boot.dump
    let total := if d.present then d.len else 0
    let n := min len (total - off)
    let s := wrIovas c.fn 8 dest (rdVat s (0x3400000 + off) n) s
    let s := if 0 < n ∧ off + n = total then setDump (fun d => { d with read := true }) s else s
    .reply (stDone (le 4 total ++ le 4 n)) s

/-- Meaning of DUMP_READ. -/
def execDumpRead (t : Tick) (q : Request) (s : State) : Out := gcp opDumpRead t q doDumpRead s

end Sys2Proof.Machine
end

