-- ==== Sys2Proof/Machine/Reset.lean ====
section
/-!
DEFINITION. Reset.lean: power-on reset and device reset (R557 to R560, R622), the watchdog (R562), dumps' ends (R602, R608), uncorrectable errors (R221, R228), the die sensors and
thermal trips (R631, R632).
-/

namespace Sys2Proof.Machine

open Sys2Proof

/-! ### What resets leave (R557 to R560) -/

/-- Registers whose whole word survives a device reset: RST_CAUSE (R557), the loss record (R542), the always-on island's own clock (R559), the carve-outs and their lock (R231), the port
configuration (R185, R147), the counters since power-on reset (Tables 13.23, 9.20) and the evidence ring's pointers. -/
def keptWords : List Nat :=
  [Reg.RST_CAUSE, Reg.CLK_STAT, Reg.CLK_LOSS_START_LO, Reg.CLK_LOSS_START_HI, Reg.CLK_LOSS_END_LO, Reg.CLK_LOSS_END_HI, Reg.CLK_ISLn 0, Reg.DRC_CO_LOCK, Reg.HIF_PORTCFG, Reg.ISO_PORT,
   Reg.CRL_EV_STAT, Reg.GPX_PRE_WORST] ++
  (List.range 16).flatMap (fun n => [Reg.DRC_COn_BASE n, Reg.DRC_COn_SIZE n]) ++ (List.range 8).map Reg.CRL_MM_TOTAL

/-- Fields that survive a device reset while the rest of their register does not: TRV_STAT (Table 10.5), PWR_THERM.MAX (Table 22.12), DUMP_STREAK (R611), the DBG counters (R184). -/
def keptFields : List (Nat × Bits) :=
  [(Reg.TRV_STAT, Fld.TRV_STAT_LAST_CLASS), (Reg.TRV_STAT, Fld.TRV_STAT_TRV_FAULT), (Reg.TRV_STAT, Fld.TRV_STAT_RASTER_FAULT), (Reg.PWR_THERM, Fld.PWR_THERM_MAX),
   (Reg.REG_BOOT_STAT, Fld.REG_BOOT_STAT_DUMP_STREAK), (Reg.DBG_STAT, Fld.DBG_STAT_ATTACHES), (Reg.DBG_DENY, Fld.DBG_DENY_DENIED)]

/-- Reset values that come from the OTP: ISO_PORT.HOLM_PORT at power-on reset (R147) with its unprogrammed default, and ALARM_AT by grade (Table 22.12). -/
def otpResets (por : Bool) (s : State) : State :=
  let s := if por ∧ s.boot.otp.holmPort % 16 ≠ 0 then wrF Reg.ISO_PORT Fld.ISO_PORT_HOLM_PORT s.boot.otp.holmPort s else s
  if s.boot.otp.grade = 2 then wrF Reg.PWR_THERM_CTRL Fld.PWR_THERM_CTRL_ALARM_AT 0x44C s else s

/-- Power-on reset (R559, R560): everything returns to its reset state but OTP, the board's flash, host memory and the commands that wait. It is released at once when CLKIN is good,
and GTB counts from 0. -/
def powerOnReset (clkinGood : Bool) (s : State) : State :=
  let r : State := { State.reset with
    pending := s.pending, drawn := s.drawn, busData := s.busData, mem := { State.reset.mem with host := s.mem.host },
    boot := { State.reset.boot with otp := s.boot.otp, flash := s.boot.flash } }
  let r := otpResets true r
  if clkinGood then releaseReset r else r

/-- The state after a device reset before its surviving registers are put back (R559): GTB, the Vat, the ISO log, the evidence count, the dump, the loss record, host memory, OTP, flash. -/
def deviceBase (s : State) : State :=
  { State.reset with
    pending := s.pending, gtb := s.gtb, drawn := s.drawn, busData := s.busData,
    mem := { State.reset.mem with dpa := s.mem.dpa.filter (fun e => decide (vatBase ≤ e.1)), poison := s.mem.poison.filter (fun w => decide (vatBase ≤ w)), host := s.mem.host, leasePeak := s.mem.leasePeak },
    iso := { State.reset.iso with fifo := s.iso.fifo, ring := s.iso.ring, nextIndex := s.iso.nextIndex, lost := s.iso.lost, ringNext := s.iso.ringNext, noticeFirst := s.iso.noticeFirst,
                                  noticeStamp := s.iso.noticeStamp },
    disp := { State.reset.disp with evidence := s.disp.evidence },
    lnk := { State.reset.lnk with nextFault := s.lnk.nextFault, straits := s.lnk.straits.map (fun e => (e.1, { errors := e.2.errors })) |>.filter (fun e => e.2 != {}) },
    pwr := { State.reset.pwr with lossStart := s.pwr.lossStart, lossEnd := s.pwr.lossEnd, sensors := s.pwr.sensors, milliwatts := s.pwr.milliwatts },
    boot := { State.reset.boot with otp := s.boot.otp, flash := s.boot.flash, dump := { s.boot.dump with writing := none, late := 0, thenReset := 0 } } }

/-- A device reset with a cause of Table 19.7 (R557, R558, R559); `hold` keeps it asserted, and so does the lack of CLKIN (R558). -/
def deviceReset (cause : Nat) (hold : Bool) (s : State) : State :=
  let r := otpResets false (deviceBase s)
  let r := keptWords.foldl (fun (r : State) o => wr o (rd s o) r) r
  let r := keptFields.foldl (fun (r : State) (e : Nat × Bits) => wrF e.1 e.2 (fld s e.1 e.2) r) r
  let r := wrF Reg.RST_CAUSE Fld.RST_CAUSE_SOURCE (fld s Reg.RST_CAUSE Fld.RST_CAUSE_SOURCE ||| 2 ^ cause) r
  if hold then setPwr (fun p => { p with inReset := true, thermalHold := true }) r
  else if clkinOk s then releaseReset r
  else r

/-- Meaning of POWER_ON_RESET (R560). -/
def execPowerOnReset (_ : Tick) (clkinGood : Bool) (s : State) : Out := .next (powerOnReset clkinGood s)

/-- Meaning of SUPPLY_DIP (R622): a rail below its assert threshold for 2 µs (400 ticks) asserts power-on reset; a shorter dip is ignored. -/
def execSupplyDip (t : Tick) (_rail : BitVec 3) (ticks : Word) (s : State) : Out :=
  if 400 ≤ ticks.toNat then .next (powerOnReset false s) else .next (advance t s)

/-- Meaning of DEVICE_RESET (R557, R559): by RESET_N (1), by a restart that FW_ACTIVATE has announced (4, R599), through the debug access port (5), which needs STEER_H. The causes 2 and 3 follow their dump (DUMP_COMPLETE),
6 is THERMAL_TRIP. -/
def execDeviceReset (t : Tick) (cause : BitVec 4) (s : State) : Out :=
  let s := advance t s
  let c := cause.toNat
  if c = 1 then .next (deviceReset 1 s.pwr.thermalHold s)
  else if c = 4 ∧ s.boot.resetPending.isSome = true then .next (deviceReset 4 false s)
  else if c = 5 then
    (let s' := dbgAccess (.dap true true false .access) false 0xFF s
     if dbgEnabled s 3 then .next (deviceReset 5 s.pwr.thermalHold s') else .next s')
  else .next s

/-! ### Lockstep and watchdog (R40, R562) -/

/-- A hardware dump trigger halts the control cores at once (R607). -/
def hardwareDump (trigger cause : Nat) (s : State) : State := setBoot (fun b => { b with running := false }) (dumpTrigger trigger cause s)

/-- Meaning of LOCKSTEP_MISMATCH (R40). -/
def execLockstepMismatch (t : Tick) (s : State) : Out := .next (hardwareDump 2 3 (advance t s))

/-- Is the watchdog enabled? -/
def wdRunning (s : State) : Bool := flg s Reg.RST_WD_STAT Fld.RST_WD_STAT_RUNNING

/-- The tick at which the watchdog's window opens, and the tick at which it ends (R562). -/
def wdWindow (s : State) : Nat × Nat :=
  (s.pwr.wdLast + fld s Reg.RST_WD_CTRL Fld.RST_WD_CTRL_MIN * 65536, s.pwr.wdLast + fld s Reg.RST_WD_CTRL Fld.RST_WD_CTRL_MAX * 65536)

/-- The watchdog expires: the dump, then a device reset (R562). -/
def wdExpire (early : Bool) (s : State) : State := hardwareDump 1 2 (setPwr (fun p => { p with wdEarly := early }) s)

/-- Is the dump of a watchdog expiry under way? -/
def wdDumping (s : State) : Bool := match s.boot.dump.writing with | some (1, _) => true | _ => false

/-- Meaning of WATCHDOG_EXPIRY (R562): no service by the end of the window. -/
def execWatchdogExpiry (t : Tick) (s : State) : Out :=
  let s := advance t s
  if wdRunning s ∧ (wdWindow s).2 ≤ s.gtb ∧ wdDumping s = false then .next (wdExpire false s) else .next s

/-- A service (R562): early before the window, an expiry from its end on. -/
def wdService (s : State) : State :=
  if wdRunning s = false ∨ wdDumping s then s
  else if s.gtb < (wdWindow s).1 then wdExpire true s
  else if (wdWindow s).2 ≤ s.gtb then wdExpire false s
  else
    wrF Reg.RST_WD_STAT Fld.RST_WD_STAT_SERVICES ((fld s Reg.RST_WD_STAT Fld.RST_WD_STAT_SERVICES + 1) % 65536) (setPwr (fun p => { p with wdLast := s.gtb }) s)

/-- A write of RST_WD_CTRL (R562): ignored once EN is 1; EN starts the watchdog, and its window counts from the enable. -/
def writeWdCtrl (w : Word) (s : State) : State :=
  if flg s Reg.RST_WD_CTRL Fld.RST_WD_CTRL_EN then s
  else
    let s := plainWrite Reg.RST_WD_CTRL w s
    if getB w Fld.RST_WD_CTRL_EN then
      wr Reg.RST_WD_STAT (BitVec.ofNat 32 (packF Fld.RST_WD_STAT_RUNNING 1)) (setPwr (fun p => { p with wdLast := s.gtb }) s)
    else s

/-! ### Dumps (R602, R608) -/

/-- Meaning of DUMP_COMPLETE (R608): the header is written last, PRESENT rises; the device reset that the trigger calls for follows (Table 21.9). -/
def execDumpComplete (t : Tick) (s : State) : Out :=
  let s := advance t s
  match s.boot.dump.writing with
  | none => .next s
  | some (trigger, at_) =>
    let cause := s.boot.dump.thenReset
    let s := dumpWrite trigger at_ s
    if cause = 0 then .next s else .next (deviceReset cause false s)

/-- Meaning of DUMP_STREAK_CLEAR (R602): 2,000,000,000 ticks after BOOT_DONE without a dump. -/
def execDumpStreakClear (t : Tick) (s : State) : Out :=
  let s := advance t s
  match s.boot.bootDone with
  | none => .next s
  | some b =>
    let d := s.boot.dump
    if b + 2000000000 ≤ s.gtb ∧ d.writing.isNone = true ∧ (d.dumps = 0 ∨ d.stamp < b) then .next (wrF Reg.REG_BOOT_STAT Fld.REG_BOOT_STAT_DUMP_STREAK 0 s)
    else .next s

/-! ### Uncorrectable errors (R221, R228) -/

/-- A word is delivered poisoned (R221): the bytes as the array delivers them, marked until the word is written in full. -/
def poisonWord (a : Nat) (data : List Byte) (s : State) : State :=
  let s := wrDpaBytes a data s
  { s with mem := { s.mem with poison := if s.mem.poison.contains a then s.mem.poison else s.mem.poison ++ [a] } }

/-- The item that the error hits is breached with DEVICE_FAULT, charged to the device. -/
def eccItem (item : Option (Fn × Word)) (s : State) : State := lostItem item s

/-- A tile-table entry in error is a mismatch of its tile (Table 7.4), when the tile is certified and signed in the frame. -/
def eccTile (o : Nat) (s : State) : State :=
  let e := (o - 0x2000000) / 8
  let n := e / 131072
  let i := e % 131072
  let c := crlSt s n
  if c.cur.signed.contains i && !c.cur.bad.contains i && tileIn (outSt s n).zones (tileW s n) i then
    (let w := rdVat s (tileEntry n i) 8
     tileMismatch n i (BitVec.ofNat 32 (leAt w 0 4)) (BitVec.ofNat 32 (leAt w 4 4)) false s)
  else s

/-- What an uncorrectable error of a Vat word leads to (Table 7.4). The Creamline buffers' pixels mismatch when their tile is signed. Firmware that runs fires the dump of trigger 3 and requests a reset (Table 21.9). -/
def eccRegion (o : Nat) (item : Option (Fn × Word)) (s : State) : State :=
  if o < 0x2000000 then s
  else if o < 0x2800000 then eccTile o s
  else if o < 0x3000000 then
    eccItem item (match item with | some (f, id) => stopJobs f.val id.toNat s | none => s)
  else if o < 0x3C00000 then (if s.boot.running then dumpTrigger 3 4 s else s)
  else eccItem item s

/-- Meaning of ECC_UNCORRECTABLE (R221, R228): the word at a DPA is delivered poisoned; `item` is the contract item whose access met it. -/
def execEccUncorrectable (t : Tick) (dpa : BitVec 40) (data : BitVec 64) (item : Option (Fn × Word)) (s : State) : Out :=
  let s := advance t s
  let a := dpa.toNat / 8 * 8
  if dpaMapped s a = false then .next s
  else
    let s := faultNote 0x45 2 a 0x0602 (poisonWord a (le 8 data.toNat) s)
    if a < vatBase then .next (eccItem item s)
    else
      let o := a - vatBase
      let s := wrF Reg.VAT_ECC_CNT Fld.VAT_ECC_CNT_UNCORRECTED ((fld s Reg.VAT_ECC_CNT Fld.VAT_ECC_CNT_UNCORRECTED + 1) % 65536) s
      let s := wr Reg.VAT_ECC_LAST (BitVec.ofNat 32 (packF Fld.VAT_ECC_LAST_UE 1 + o)) s
      .next (eccRegion o item s)

/-! ### Die sensors (R631, R632) -/

/-- A temperature in 0.1 °C. -/
def tempOf (w : Nat) : Int := signedOf 16 w

/-- TEMP (R631). -/
def dieTemp (s : State) : Int := tempOf (fld s Reg.PWR_THERM Fld.PWR_THERM_TEMP)

/-- ALARM_AT. -/
def alarmAt (s : State) : Int := tempOf (fld s Reg.PWR_THERM_CTRL Fld.PWR_THERM_CTRL_ALARM_AT)

/-- Meaning of DIE_SENSOR_READ (R631, R632): the hottest sensor is TEMP, MAX follows, the alarm is armed again 2 °C below ALARM_AT, a thermal hold ends below its release level. -/
def execDieSensorRead (t : Tick) (temps : List (BitVec 16)) (s : State) : Out :=
  let s := advance t s
  match temps.map (fun w => tempOf w.toNat) with
  | [] => .next s
  | x :: xs =>
    let hot := xs.foldl max x
    let top := max hot (tempOf (fld s Reg.PWR_THERM Fld.PWR_THERM_MAX))
    let s := wrF Reg.PWR_THERM Fld.PWR_THERM_TEMP (toTwos 16 hot) (wrF Reg.PWR_THERM Fld.PWR_THERM_MAX (toTwos 16 top) s)
    let s := setPwr (fun p => { p with sensors := temps.map (fun w => w.toNat) }) s
    let s := if hot ≤ alarmAt s - 20 then setPwr (fun p => { p with alarmArmed := true }) s else s
    let level : Int := if s.boot.otp.grade = 2 then 1100 else 1000
    if s.pwr.thermalHold ∧ hot < level then
      (let s := setPwr (fun p => { p with thermalHold := false }) s
       if clkinOk s then .next (releaseReset s) else .next s)
    else .next s

/-- Meaning of THERMAL_ALARM (R631). -/
def execThermalAlarm (t : Tick) (s : State) : Out :=
  let s := advance t s
  if flg s Reg.PWR_THERM_CTRL Fld.PWR_THERM_CTRL_ALARM_EN ∧ s.pwr.alarmArmed ∧ alarmAt s ≤ dieTemp s then
    (let s := wrB Reg.PWR_THERM_CTRL Fld.PWR_THERM_CTRL_ALARM true (setPwr (fun p => { p with alarmArmed := false }) s)
     .next (postPower 0 0xFFFF 8 0 0 (raiseHolm 4 s)))
  else .next s

/-- Meaning of THERMAL_TRIP (R632): a device reset with cause THERMAL, with no dump, held until the junction cools. -/
def execThermalTrip (t : Tick) (s : State) : Out := .next (deviceReset 6 true (advance t s))

end Sys2Proof.Machine
end

