-- ==== Sys2Proof/Machine/Boot.lean ====
section
/-!
DEFINITION. Boot.lean: signed objects (R590, R591), the selection record (R593), the boot sequence (R592 to R597), FW_WRITE and FW_ACTIVATE (R598 to R601).
-/

namespace Sys2Proof.Machine

open Sys2Proof

/-! ### Signed objects (R590, R591) -/

/-- The flash area of a FW_WRITE SLOT: offset and size (Table 21.2). -/
def flashArea (slot : Nat) : Nat × Nat :=
  if slot = 0 then (0x100000, 0x800000) else if slot = 1 then (0x900000, 0x800000) else if slot = 2 then (0, 0x10000) else (0x12000, 0x1000)

/-- The MAGIC that suits an area (Table 21.3). -/
def areaMagic (slot : Nat) : List Byte := if slot < 2 then ascii "ZVFW" else if slot = 2 then ascii "ZVPC" else ascii "ZVDC"

/-- C, the anti-rollback counter of the OTP. -/
def counterC (s : State) : Nat := s.boot.otp.rollback

/-- Does an object verify for an area (R591)? A certificate carries the device's own UID and the present C. -/
def objectOk (s : State) (slot : Nat) (o : List Byte) : Bool :=
  let len := o.length
  let rb := leAt o 0xC 1
  decide (192 ≤ len) && (slice o 0 4 == areaMagic slot) && (leAt o 4 2 == 1) && (leAt o 6 2 == 0x0880) && (leAt o 0xD 3 == 0) && (leAt o 0x14 4 == 0) &&
  (leAt o 0x2E 18 == 0) && (sha256 (slice o 0x40 64) == s.boot.otp.rootHash) &&
  ecdsaVerify (slice o 0x40 64) (sha256 (o.take (len - 64))) (o.drop (len - 64)) &&
  (if slot = 3 then rb == counterC s && slice o 0x18 16 == s.boot.otp.uid else decide (counterC s ≤ rb) && leAt o 0x18 16 == 0)

/-- The object that stands in an area: LENGTH bytes, when LENGTH is a multiple of 4 that fits the area. -/
def areaObject (s : State) (slot : Nat) : Option (List Byte) :=
  let a := flashArea slot
  let len := ofLe (rdFlash s (a.1 + 0x10) 4)
  if len % 4 = 0 ∧ len ≤ a.2 then some (rdFlash s a.1 len) else none

/-- The object of an area that verifies. -/
def verified (s : State) (slot : Nat) : Option (List Byte) := (areaObject s slot).filter (objectOk s slot)

/-- The digest of an object (R591). -/
def objectDigest (o : List Byte) : List Byte := sha256 o

/-- VERSION of an object. -/
def objVersion (o : List Byte) : Nat := leAt o 8 4

/-- ROLLBACK of an object. -/
def objRollback (o : List Byte) : Nat := leAt o 0xC 1

/-! ### The selection record (R593) -/

/-- A selection record: SEQ, PREFERRED, STATE (1 TRIAL), TRIES_LEFT, the digest. -/
structure SelRec where
  seq : Nat
  preferred : Nat
  trial : Bool
  tries : Nat
  digest : List Byte
  deriving DecidableEq, Repr

/-- The 48 bytes of a record. -/
def selBytes (r : SelRec) : List Byte :=
  let b := ascii "ZVSL" ++ le 4 r.seq ++ le 1 r.preferred ++ le 1 (bit r.trial) ++ le 1 r.tries ++ [0] ++ slice r.digest 0 32
  b ++ le 4 (crc32c b)

/-- Flash offset of a copy. -/
def selAt (copy : Nat) : Nat := 0x10000 + 0x1000 * copy

/-- A valid copy. -/
def selCopy (s : State) (copy : Nat) : Option SelRec :=
  let b := rdFlash s (selAt copy) 48
  if slice b 0 4 = ascii "ZVSL" ∧ leAt b 44 4 = crc32c (b.take 44) then some ⟨leAt b 4 4, leAt b 8 1 % 2, leAt b 9 1 == 1, leAt b 10 1, slice b 12 32⟩ else none

/-- The record in force with its copy: the valid one whose SEQ is newer (R101). -/
def selInForce (s : State) : Option (Nat × SelRec) :=
  match selCopy s 0, selCopy s 1 with
  | some a, some b => if a.seq ≠ b.seq ∧ modDist (2 ^ 32) a.seq b.seq < 2 ^ 31 then some (1, b) else some (0, a)
  | some a, none => some (0, a)
  | none, some b => some (1, b)
  | none, none => none

/-- Write a record to the other copy with SEQ + 1; the first record of all goes to copy 0. A write that fails leaves the copies. -/
def writeRecord (ok : Bool) (preferred : Nat) (trial : Bool) (tries : Nat) (digest : List Byte) (s : State) : State :=
  if ok then
    (match selInForce s with
     | some (c, r) => flashPut (selAt (1 - c)) 0x1000 (selBytes ⟨(r.seq + 1) % 2 ^ 32, preferred, trial, tries, digest⟩) s
     | none => flashPut (selAt 0) 0x1000 (selBytes ⟨1, preferred, trial, tries, digest⟩) s)
  else s

/-- A slot chosen: slot, object, CODE, whether it is the preferred slot. -/
structure Chosen where
  slot : Nat
  obj : List Byte
  code : Nat
  preferred : Bool
  deriving DecidableEq, Repr

/-- The preferred slot of a record, if it passes. -/
def tryPreferred (s : State) (r : SelRec) : Option Chosen :=
  ((verified s r.preferred).filter (fun o => objectDigest o == r.digest)).map (fun o => ⟨r.preferred, o, 0, true⟩)

/-- The other slot of a record, if it verifies. -/
def tryOther (s : State) (r : SelRec) (code : Nat) : Option Chosen := (verified s (1 - r.preferred)).map (fun o => ⟨1 - r.preferred, o, code, false⟩)

/-- With no record: the slot that verifies with the higher ROLLBACK, then the higher VERSION, then A. -/
def tryAny (s : State) : Option Chosen :=
  match verified s 0, verified s 1 with
  | some a, some b =>
    if objRollback a < objRollback b ∨ (objRollback a = objRollback b ∧ objVersion a < objVersion b) then some ⟨1, b, 1, false⟩ else some ⟨0, a, 1, false⟩
  | some a, none => some ⟨0, a, 1, false⟩
  | none, some b => some ⟨1, b, 1, false⟩
  | none, none => none

/-- The choice of the boot ROM (R593). -/
def chooseSlot (s : State) : Option Chosen :=
  match selInForce s with
  | none => tryAny s
  | some (_, r) =>
    if r.trial ∧ r.tries = 0 then (tryOther s r 2).orElse (fun _ => tryPreferred s r)
    else (tryPreferred s r).orElse (fun _ => tryOther s r 3)

/-- The records of the choice: one try fewer before a trial; the booted slot CONFIRMED when it was not preferred. -/
def chooseRecords (ok : Bool) (c : Option Chosen) (s : State) : State :=
  let s := match selInForce s with
    | some (_, r) => if r.trial ∧ 0 < r.tries then writeRecord ok r.preferred true (r.tries - 1) r.digest s else s
    | none => s
  match c with
  | some c => if c.preferred then s else writeRecord ok c.slot false 0 (objectDigest c.obj) s
  | none => s

/-! ### The configuration (R596) -/

/-- The sections of a body; none when one is cut short. The fuel is the body's length. -/
def cfgSections : Nat → List Byte → Option (List (Nat × List Byte))
  | 0, bs => if bs.isEmpty then some [] else none
  | n + 1, bs =>
    if bs.isEmpty then some []
    else
      let len := leAt bs 4 4
      if bs.length < 8 + len then none
      else (cfgSections n (bs.drop (8 + len))).map (fun l => (leAt bs 0 2, slice bs 8 len) :: l)

/-- The sections of a configuration that is complete: each TYPE known and at most once, PORTS, DRAM and CARVEOUTS there, PORTMODE shipped (Table 6.1, Table 21.5). -/
def cfgParse (o : List Byte) : Option (List (Nat × List Byte)) :=
  let body := (o.drop 0x80).take (o.length - 192)
  (cfgSections body.length body).filter (fun l =>
    let ts := l.map (fun e => e.1)
    ts.all (fun t => decide (1 ≤ t) && decide (t ≤ 10)) && ts.Nodup && [1, 2, 3].all (fun t => ts.contains t) &&
      l.all (fun e => e.1 != 1 || decide (leAt e.2 0 4 ≤ 4)))

/-- The data of a section, empty when it is absent. -/
def cfgData (l : List (Nat × List Byte)) (t : Nat) : List Byte := match l.find? (fun e => e.1 == t) with | some e => e.2 | none => []

/-- Change the OTP. -/
def setOtp (f : Otp → Otp) (s : State) : State := setBoot (fun b => { b with otp := f b.otp }) s

/-- Blow the REVOKED fuses that the REVOKE section names (step 3). -/
def blowRevoked (mask : Nat) (s : State) : State :=
  setOtp (fun o => { o with keys := o.keys.zipIdx.map (fun e => if mask.testBit e.2 then { e.1 with revoked := true } else e.1) }) s

/-- The PFs present in a port mode (Table 6.1). -/
def modePfs (m : Nat) : List Nat := if m = 0 then [0, 1, 2, 3] else if m = 1 then [0, 2, 3] else if m = 2 then [0, 1, 2] else if m = 3 then [0, 2] else [0]

/-- Apply PORTS (R185, R186): the mode holds until power-on reset; the PFs present become ACTIVE, the vectors of the others join the pool. -/
def applyPorts (mode : Nat) (s : State) : State :=
  let s := if fld s Reg.HIF_PORTCFG Fld.HIF_PORTCFG_PF_PRESENT = 0 then
      wr Reg.HIF_PORTCFG (BitVec.ofNat 32 (packF Fld.HIF_PORTCFG_PF_PRESENT ((modePfs mode).map (fun p => 2 ^ p)).sum + packF Fld.HIF_PORTCFG_PORTMODE mode)) s
    else s
  let ps := modePfs (fld s Reg.HIF_PORTCFG Fld.HIF_PORTCFG_PORTMODE)
  ps.foldl (fun (s : State) p => setFn p (fun f => { f with state := .active, port := p, vectors := 32 }) s) { s with hif := { s.hif with vfPool := 1920 + 32 * (4 - ps.length) } }

/-- The codes of the DRAM section as DRC_CFG has them: rate, density, ranks; none for a population that R222 refuses. -/
def dramCodes (d : List Byte) : Option (Nat × Nat × Nat) :=
  let r := leAt d 0 1
  let n := leAt d 1 1
  let k := leAt d 2 1
  if r ≤ 2 ∧ n ≤ 2 ∧ k ≤ 1 then some (r, n, k) else none

/-- Apply DRAM (R222, R223, R228): the population, the capacity, the island woken and trained. -/
def applyDram (c : Nat × Nat × Nat) (linkEcc : Bool) (s : State) : State :=
  let cap := if c.1 = 0 then 375 else if c.1 = 1 then 439 else 500
  let s := wr Reg.DRC_CFG (BitVec.ofNat 32 (packF Fld.DRC_CFG_DRB_CAP cap + packF Fld.DRC_CFG_LINK_ECC (bit linkEcc) + packF Fld.DRC_CFG_DENSITY c.2.1 +
    packF Fld.DRC_CFG_RANKS c.2.2 + packF Fld.DRC_CFG_RATE c.1)) s
  let s := { s with mem := { s.mem with populated := 4 * 2 ^ (31 + c.2.1), free := [(0, 4 * 2 ^ (31 + c.2.1))] } }
  setGate 4 (fun r => { r with state := .on }) (islandGood 4 (islandStart 4 s))

/-- Apply CARVEOUTS (R231) while they are not locked, lock them, and take them out of the Mainland pool (R232). -/
def applyCarveouts (d : List Byte) (s : State) : State :=
  let s := if flg s Reg.DRC_CO_LOCK Fld.DRC_CO_LOCK_LOCK then s
    else (List.range 16).foldl (fun (s : State) n =>
      wrF (Reg.DRC_COn_SIZE n) Fld.DRC_COn_SIZE_SIZE (leAt d (8 * n + 4) 4) (wrF (Reg.DRC_COn_BASE n) Fld.DRC_COn_BASE_BASE (leAt d (8 * n) 4) s)) s
  let s := wrB Reg.DRC_CO_LOCK Fld.DRC_CO_LOCK_LOCK true s
  (List.range 16).foldl (fun (s : State) n =>
    { s with mem := { s.mem with free := cutExt (fld s (Reg.DRC_COn_BASE n) Fld.DRC_COn_BASE_BASE * 0x200000) (fld s (Reg.DRC_COn_SIZE n) Fld.DRC_COn_SIZE_SIZE * 0x200000) s.mem.free } }) s

/-- Apply GRANTS (R151, R152): each entry releases an object to Mainland and grants it to a function. -/
def applyGrants (d : List Byte) (s : State) : State :=
  (List.range (d.length / 4)).foldl (fun (s : State) i =>
    let o := leAt d (4 * i) 2
    let f := leAt d (4 * i + 2) 1
    if objExists o && !objFixed s o && (fnRec s f).state != .absent then setOwn o ⟨false, true, f⟩ s else s) s

/-- Apply SHARES (R62, R64): SHD, DRB and VAT permille of each PF, then the reserve's SHD and DRB; shares that exceed a resource are not applied. -/
def applyShares (d : List Byte) (s : State) : State :=
  let v (i : Nat) : Nat := leAt d (2 * i) 2
  let sum (k : Nat) : Nat := ((List.range 4).map (fun p => v (3 * p + k))).sum
  if d.length < 28 ∨ 1000 < sum 0 + v 12 ∨ 1000 < sum 1 + v 13 ∨ 1000 < sum 2 then s
  else
    let s := { s with ledger := { s.ledger with reserveShd := v 12, reserveDrb := v 13 } }
    ((List.range 4).foldl (fun (a : Nat × State) p =>
      let n := scratchBytes (v (3 * p + 2))
      if (fnRec a.2 p).state = .absent then a
      else (a.1 + n, setFn p (fun f => { f with shd := v (3 * p), drb := v (3 * p + 1), vat := v (3 * p + 2), scratch := if n = 0 then [] else [(a.1, n)] }) a.2)) (0, s)).2

/-- Apply DMA_RATES (R517) when every rate is from 1 to 320 and their sum is at most 320. -/
def applyRates (d : List Byte) (s : State) : State :=
  let r (i : Nat) : Nat := leAt d (4 * i) 2
  let sum := ((List.range 128).map r).sum
  if d.length < 512 ∨ 320 < sum ∨ (List.range 128).any (fun i => r i == 0) then s
  else
    let s := (List.range 128).foldl (fun (s : State) i =>
      showRate i (wrF (Reg.DMA_RATEn i) Fld.DMA_RATEn_PRIO (leAt d (4 * i + 2) 2) (wrF (Reg.DMA_RATEn i) Fld.DMA_RATEn_RATE (r i) s))) s
    wrF Reg.DMA_RATE_STAT Fld.DMA_RATE_STAT_SUM sum s

/-- Apply TDM (R495): the eight words; a port that they enable has its gate woken. -/
def applyTdm (d : List Byte) (s : State) : State :=
  (List.range (min 8 (d.length / 4))).foldl (fun (s : State) n =>
    let w : Word := BitVec.ofNat 32 (leAt d (4 * n) 4)
    let s := if getB w Fld.AUD_TDMn_FMT_EN then setGate (0x40 + n) (fun r => { r with state := .on }) s else s
    writeTdm n w s) s

/-- A Mainland key record unwrapped (R597). -/
def unwrapKey (kw rec_ : List Byte) : Option MainKey :=
  let id := leAt rec_ 0 4
  let nonce := slice rec_ 24 12
  let key := hkdf32 nonce kw (ascii "ZV880 key record" ++ le 4 id)
  if id < 0x10000 ∨ 0x10010 ≤ id then none
  else (gcmOpen key nonce (slice rec_ 0 24) (slice rec_ 40 32) (slice rec_ 72 16)).map (fun k => ⟨id, leAt rec_ 8 16, k⟩)

/-- Apply KEYS (R597). -/
def applyKeys (d : List Byte) (s : State) : State :=
  setBoot (fun b => { b with mainKeys := (List.range (d.length / 96)).filterMap (fun i => unwrapKey b.otp.kw (slice d (96 * i) 96)) }) s

/-- Apply MIGRATION (R212). -/
def applyMigration (d : List Byte) (s : State) : State := setBoot (fun b => { b with mkeyActive := if leAt d 0 4 = 0x20001 then 1 else 0 }) s

/-! ### The boot sequence (R592) -/

/-- What the outside gives a boot: whether DRAM trains and its link ECC, the ROM's version and hash, the two self-test images, the landings of the image that begin with LAND, whether flash record writes succeed. -/
structure BootInput where
  trained : Bool
  linkEcc : Bool
  romVersion : Word
  romHash : List Byte
  image0 : List Byte
  image1 : List Byte
  landMarks : BitVec 64
  recordOk : Bool

/-- REG_OTP_STAT (Table 21.13). -/
def otpStat (o : Otp) : Word :=
  let bits (f : HolmKey → Bool) : Nat := (o.keys.zipIdx.map (fun e => bit (f e.1) * 2 ^ e.2)).sum
  BitVec.ofNat 32 (packF Fld.REG_OTP_STAT_ROLLBACK o.rollback + packF Fld.REG_OTP_STAT_LIFECYCLE o.lifecycle +
    packF Fld.REG_OTP_STAT_MKEY_VALID (bit (o.mks.getD 0 none).isSome + 2 * bit (o.mks.getD 1 none).isSome) +
    packF Fld.REG_OTP_STAT_KEY_REVOKED (bits (fun k => k.revoked)) + packF Fld.REG_OTP_STAT_KEY_LAB (bits (fun k => k.lab)) + packF Fld.REG_OTP_STAT_KEY_VALID (bits (fun k => k.valid)))

/-- Step 1: the core loop, the log begun, ROM, DEVICE and OTP_STATE measured. -/
def bootStep1 (b : BootInput) (s : State) : State :=
  let s := islandGood 1 (islandStart 1 s)
  let s := setBoot (fun x => { x with log := { bootStamp := s.gtb }, erased := [] }) s
  let o := s.boot.otp
  let s := measure 0x0001 0 (le 4 b.romVersion.toNat) b.romHash s
  let s := measure 0x0002 0 o.uid [] s
  measure 0x0003 0 (le 1 o.lifecycle ++ le 1 o.rollback ++ le 1 o.holmPort ++ le 1 o.grade ++ le 4 (otpStat o).toNat) [] s

/-- A steer enable stands only with the watch enable of its world (R174). -/
def pairEnables (e : Nat) : Nat := (if e.testBit 0 then e &&& 3 else 0) + (if e.testBit 2 then e &&& 12 else 0)

/-- Step 2: the debug enables (R595), DEBUG measured. -/
def bootStep2 (s : State) : State :=
  let cert := if s.boot.otp.lifecycle < 2 then none else verified s 3
  let e := if s.boot.otp.lifecycle < 2 then 15 else match cert with | some o => pairEnables (leAt o 0x28 4 % 16) | none => 0
  let s := wr Reg.ISO_DBG (BitVec.ofNat 32 (e + 16 * e)) s
  let s := wrB Reg.REG_BOOT_STAT Fld.REG_BOOT_STAT_CERT cert.isSome s
  measure 0x0004 0 (le 1 e ++ le 1 (bit cert.isSome)) (match cert with | some o => objectDigest o | none => []) s

/-- The boot stops in ROM recovery (R594). -/
def bootStop (code : Nat) (s : State) : State :=
  setBoot (fun b => { b with recovery := some code }) (islandStop 4 (setGate 4 (fun _ => {}) s))

/-- Step 3 past its verification: CONFIG measured, fuses blown. -/
def bootStep3 (o : List Byte) (l : List (Nat × List Byte)) (s : State) : State :=
  let s := setBoot (fun b => { b with cfgRollback := objRollback o }) s
  blowRevoked (leAt (cfgData l 9) 0 1 % 16) (measure 0x0005 0 (le 4 (objVersion o) ++ le 1 (objRollback o)) (objectDigest o) s)

/-- Step 5: the key store is zero-filled (after a power-on reset the whole Vat reads zero already), RESET_CAUSE measured. -/
def bootStep5 (s : State) : State :=
  let s := zeroFill (vatBase + 0x3800000) 0x40000 s
  measure 0x0008 0 (le 4 (rd s Reg.RST_CAUSE).toNat ++ le 4 (if s.boot.dump.present then s.boot.dump.index else 0)) [] s

/-- Step 6 past its choice: the facts of the slot, FW_IMAGE and LANDINGS measured. -/
def bootStep6 (b : BootInput) (old : Option (Nat × SelRec)) (c : Chosen) (s : State) : State :=
  let trial : Bool := c.preferred && (match old with | some (_, r) => r.trial | none => false)
  let tries := match old with | some (_, r) => if trial then r.tries - 1 else 0 | none => 0
  let count := leAt c.obj 0x2C 2
  let s := setBoot (fun x => { x with slot := c.slot, version := objVersion c.obj, fwRollback := objRollback c.obj }) s
  let s := wrF Reg.REG_BOOT_STAT Fld.REG_BOOT_STAT_CODE (if c.preferred then 0 else c.code) (wrB Reg.REG_BOOT_STAT Fld.REG_BOOT_STAT_FALLBACK (!c.preferred) s)
  let s := wrF Reg.REG_BOOT_STAT Fld.REG_BOOT_STAT_TRIES_LEFT tries (wrB Reg.REG_BOOT_STAT Fld.REG_BOOT_STAT_TRIAL trial (wrF Reg.REG_BOOT_STAT Fld.REG_BOOT_STAT_SLOT c.slot s))
  let s := setCores (fun k => { k with landings := List.range count, landMarks := setBits 64 b.landMarks.toNat }) s
  let s := measure 0x0006 (bit trial + 2 * bit (!c.preferred)) (le 1 c.slot ++ le 4 (objVersion c.obj) ++ le 1 (objRollback c.obj)) (objectDigest c.obj) s
  measure 0x0007 0 (le 2 count) (sha256 (slice c.obj (leAt c.obj 0x28 4) (4 * count))) s

/-- Step 7: the self-test (R318, R319), SELFTEST measured. -/
def bootStep7 (b : BootInput) (s : State) : State :=
  let s := wrVat 0x33E0000 (slice b.image0 0 65536) (wrVat 0x33F0000 (slice b.image1 0 65536) s)
  let r := BitVec.ofNat 32 (crc32c (slice b.image0 0 65536))
  let v := BitVec.ofNat 32 (crc32c (slice b.image1 0 65536))
  let k := testClass r v Config.refSig
  let s := recordClass k r v s.gtb s
  measure 0x0009 0 (le 4 k ++ le 4 r.toNat ++ le 4 v.toNat) [] s

/-- A Holm wake of an island at boot (R552), with its record. -/
def bootWake (s : State) (g : Nat) : State :=
  postPower 0 g 1 0 0 (setGate g (fun r => { r with state := .on }) (islandGood g (islandStart g s)))

/-- The DUMP_FOUND note carries the dump's trigger stamp (R606). -/
def noteDump (s : State) : State :=
  if s.boot.dump.present then
    { faultNote 0x48 8 s.boot.dump.index 0 { s with gtb := s.boot.dump.stamp } with gtb := s.gtb }
  else s

/-- Steps 8 to 10: the firmware runs at landing 0, wakes the islands, applies the configuration, loads the touch profiles, and sets BOOT_DONE. -/
def bootStep8 (l : List (Nat × List Byte)) (s : State) : State :=
  let s := setCores (fun k => { k with world := .holm, landing := some 0, holmSince := s.gtb }) (setBoot (fun b => { b with running := true }) s)
  let s := ([2, 3, 5, 6, 7] : List Nat).foldl bootWake (setPwr (fun p => { p with shdKhz := 1400000 }) s)
  let s := applyShares (cfgData l 5) (applyCarveouts (cfgData l 3) s)
  let s := applyTdm (cfgData l 7) (applyRates (cfgData l 6) s)
  let s := applyMigration (cfgData l 10) (applyKeys (cfgData l 8) s)
  let s := noteDump (loadProfiles (applyGrants (cfgData l 4) s))
  measure 0x000A 0 [] [] (wrB Reg.REG_BOOT_STAT Fld.REG_BOOT_STAT_BOOT_DONE true (setBoot (fun b => { b with bootDone := some s.gtb }) s))

/-- Steps 5 to 10. -/
def bootFirmware (b : BootInput) (l : List (Nat × List Byte)) (s : State) : State :=
  let s := bootStep5 s
  if 4 ≤ fld s Reg.REG_BOOT_STAT Fld.REG_BOOT_STAT_DUMP_STREAK then bootStop 4 s
  else
    let old := selInForce s
    let c := chooseSlot s
    let s := chooseRecords b.recordOk c s
    match c with
    | none => bootStop 1 s
    | some c => bootStep8 l (bootStep7 b (bootStep6 b old c s))

/-- The boot (R592, Table 21.4). -/
def bootRun (b : BootInput) (s : State) : State :=
  let s := bootStep2 (bootStep1 b s)
  match verified s 2 with
  | none => bootStop 2 s
  | some o =>
    match cfgParse o with
    | none => bootStop 2 s
    | some l =>
      let s := applyPorts (leAt (cfgData l 1) 0 4) (bootStep3 o l s)
      match dramCodes (cfgData l 2) with
      | none => bootStop 3 s
      | some c => if b.trained then bootFirmware b l (applyDram c b.linkEcc s) else bootStop 3 s

/-- Meaning of BOOT_SEQUENCE (R592): once after each reset, when the core and fabric island is released. -/
def execBootSequence (t : Tick) (trained linkEcc : Bool) (romVersion : Word) (romHash image0 image1 : List Byte) (landMarks : BitVec 64) (recordOk : Bool) (s : State) : Out :=
  let s := advance t s
  if s.pwr.inReset || s.boot.running || s.boot.recovery.isSome || s.boot.bootDone.isSome || s.boot.dump.writing.isSome then .next s
  else .next (bootRun ⟨trained, linkEcc, romVersion, romHash, image0, image1, landMarks, recordOk⟩ s)

/-! ### FW_WRITE and FW_ACTIVATE (R598 to R601) -/

/-- FW_WRITE (Table 3.6). -/
def opFwWrite : OpInfo := ⟨0x0A02, (2, 0), .holm, none, false, .data 12 8, false⟩

/-- FW_ACTIVATE (Table 3.6). -/
def opFwActivate : OpInfo := ⟨0x0A03, (2, 0), .holm, none, false, .fixed 36, false⟩

/-- The erase sector of an area: 64 KiB, 4 KiB where the area is no larger. -/
def eraseSize (slot : Nat) : Nat := if slot = 3 then 0x1000 else 0x10000

/-- Erase a sector once (R598). -/
def eraseOnce (size : Nat) (s : State) (a : Nat) : State :=
  if s.boot.erased.contains a then s
  else setBoot (fun b => { b with flash := tclear b.flash a (a + size), erased := b.erased ++ [a] }) s

/-- Program bytes: a programmed bit only falls from 1 to 0. -/
def flashProgram : Nat → List Byte → State → State
  | _, [], s => s
  | a, x :: xs, s => flashProgram (a + 1) xs (setBoot (fun b => { b with flash := tput 0xFF b.flash a (tget 0xFF b.flash a &&& x) }) s)

/-- Step 13 of FW_WRITE (R598). What a failure leaves in the bytes is open. -/
def doFwWrite (ok : Bool) (c : Ctx) (s : State) : Ans :=
  let slot := leAt c.pay 0 1
  let off := leAt c.pay 4 4
  let len := leAt c.pay 8 4
  if 3 < slot then .reply (stOff .paramInvalid 0) s
  else if leAt c.pay 1 3 ≠ 0 then .reply (stOff .reservedSet 1) s
  else
    let a := flashArea slot
    if off % 4 ≠ 0 then .reply (stOff .paramInvalid 4) s
    else if len % 4 ≠ 0 ∨ len < 4 ∨ 4056 < len then .reply (stOff .paramInvalid 8) s
    else if a.2 < off + len then .reply (stOff .paramInvalid (if a.2 ≤ off then 4 else 8)) s
    else if slot = s.boot.slot then .reply (stOnly .resourceHeld) s
    else
      let z := eraseSize slot
      let first := (a.1 + off) / z
      let s := ((List.range ((a.1 + off + len - 1) / z - first + 1)).map (fun i => (first + i) * z)).foldl (eraseOnce z) s
      if ok then .reply (stDone []) (flashProgram (a.1 + off) (slice c.pay 0xC len) s)
      else .reply (stOnly .flashError) (flashProgram (a.1 + off) (freeBytes s.drawn len) { s with drawn := s.drawn + len })

/-- Meaning of FW_WRITE (R598); `flashOk` says whether the flash takes the erase and the program. -/
def execFwWrite (t : Tick) (q : Request) (flashOk : Bool) (s : State) : Out := gcp opFwWrite t q (doFwWrite flashOk) s

/-- The confirmation of the running slot (R600). -/
def fwConfirm (ok : Bool) (o : List Byte) (s : State) : Ans :=
  let trial : Bool := match selInForce s with | some (_, r) => r.trial && r.preferred == s.boot.slot | none => false
  if trial && !ok then .reply (stOnly .flashError) s
  else
    let s := if trial then writeRecord ok s.boot.slot false 0 (objectDigest o) s else s
    let old := s.boot.otp.rollback
    let new := max old (min s.boot.fwRollback s.boot.cfgRollback)
    .reply (stDone []) (measure 0x0011 0 (le 1 old ++ le 1 new) [] (setOtp (fun x => { x with rollback := new }) s))

/-- Step 13 of FW_ACTIVATE (R599). -/
def doFwActivate (ok : Bool) (c : Ctx) (s : State) : Ans :=
  let slot := leAt c.pay 0 1
  if 3 < slot then .reply (stOff .paramInvalid 0) s
  else if leAt c.pay 1 3 ≠ 0 then .reply (stOff .reservedSet 1) s
  else match (verified s slot).filter (fun o => objectDigest o == slice c.pay 4 32) with
    | none => .reply (stOnly .imageRejected) s
    | some o =>
      let a := flashArea slot
      let s := setBoot (fun b => { b with erased := b.erased.filter (fun x => decide (x < a.1) || decide (a.1 + a.2 ≤ x)) }) s
      let staged (s : State) : State := measure 0x0012 0 (le 1 slot) (objectDigest o) s
      if 2 ≤ slot then .reply (stDone []) (staged s)
      else if slot = s.boot.slot then fwConfirm ok o s
      else if ok then .reply (stDone []) (setBoot (fun b => { b with resetPending := some s.gtb }) (staged (writeRecord ok slot true 2 (objectDigest o) s)))
      else .reply (stOnly .flashError) s

/-- Meaning of FW_ACTIVATE (R599, R600); `flashOk` says whether the flash takes the record. -/
def execFwActivate (t : Tick) (q : Request) (flashOk : Bool) (s : State) : Out := gcp opFwActivate t q (doFwActivate flashOk) s

end Sys2Proof.Machine
end

