-- ==== Sys2Proof/Machine/BusRead.lean ====
section
/-!
DEFINITION. BusRead.lean: what a register read returns (R12, R33, R567 to R570), snapshot captures (R34 to R36), table data ports (R635).
-/

namespace Sys2Proof.Machine

open Sys2Proof

/-! ### Composed registers -/

/-- The holder on whose behalf a requester acts (R368). -/
def reqHolder (rq : Requester) : Holder := if rq.world = .holm then ⟨true, 0⟩ else ⟨false, rq.fn.val⟩

/-- VF_ID (Table 6.10). -/
def vfIdWord (s : State) (fn : Nat) : Word :=
  BitVec.ofNat 32 (256 * fn + 16 * (portOf s fn % 4) + (fnRec s fn).state.code)

/-- HIF_FN_INFO (Table 6.20): the function that HIF_FN_SEL names; a Mainland requester reads 0 for a function of another port. -/
def fnInfoWord (s : State) (rq : Requester) : Word :=
  let f := getF (rdReq s rq Reg.HIF_FN_SEL) Fld.HIF_FN_SEL_FN
  if (fnRec s f).state = .absent then 0
  else if rq.world = .holm ∨ portOf s f = portOf s rq.fn.val then
    BitVec.ofNat 32 (packF Fld.HIF_FN_INFO_DMA_CH (channelsOf s f).length + packF Fld.HIF_FN_INFO_LAYERS (layersOf s f).length +
      packF Fld.HIF_FN_INFO_MSIX (vectorsOf s f) + packF Fld.HIF_FN_INFO_PORT (portOf s f) + packF Fld.HIF_FN_INFO_STATE (fnRec s f).state.code)
  else 0

/-- PWR_GINFO (Table 19.12): the gate that PWR_GSEL names. -/
def gateInfoWord (s : State) (rq : Requester) : Word :=
  let g := getF (rdReq s rq Reg.PWR_GSEL) Fld.PWR_GSEL_GATE
  let r := gateRec s g
  BitVec.ofNat 32 (packF Fld.PWR_GINFO_STATE (gateState s g).code + packF Fld.PWR_GINFO_QUEUED_ENABLE (bit r.queued.isSome) +
    packF Fld.PWR_GINFO_PENDING_GATE (bit r.pendingGate) + packF Fld.PWR_GINFO_RETAINED (bit r.retained) +
    packF Fld.PWR_GINFO_COST (gateCost g) + packF Fld.PWR_GINFO_PARENT (match gateParent g with | some p => p | none => 0xFFFF))

/-- PWR_STAT (Table 19.12). -/
def pwrStatWord (s : State) : Word :=
  setF (setF (rd s Reg.PWR_STAT) Fld.PWR_STAT_WAKE_QUEUED s.pwr.queue.length) Fld.PWR_STAT_INRUSH_USED (inrushUsed s)

/-- TRV_STAT (Table 10.5). -/
def trvStatWord (s : State) : Word :=
  setF (setB (rd s Reg.TRV_STAT) Fld.TRV_STAT_BUSY s.trv.running.isSome) Fld.TRV_STAT_QUEUED (min 255 (trvCount s))

/-- TRV_ARMn (Table 10.9). -/
def trvArmWord (s : State) (n : Nat) : Word :=
  let r := armRec s n
  let w := rd s (Reg.TRV_ARMn n)
  let w := setB (setB w Fld.TRV_ARMn_PENDING r.pending.isSome) Fld.TRV_ARMn_ACTIVE (r.active == some true)
  setB (setB (setB w Fld.TRV_ARMn_ACTIVE_VALID r.active.isSome) Fld.TRV_ARMn_ARMED_B r.b) Fld.TRV_ARMn_ARMED_A r.a

/-- OP_STAT (Table 11.11): the scalers in use in the configuration in effect. -/
def opStatWord (s : State) (n : Nat) : Word :=
  BitVec.ofNat 32 ((scalerOf s n).foldl (fun (a : Nat) e => a ||| 2 ^ e.2.1 ||| (if e.2.2 then 2 ^ (e.2.1 + 1) else 0)) 0)

/-- Lx_STAT (Table 11.18). -/
def layerStatWord (s : State) (n l : Nat) : Word :=
  let w := rd s (Reg.Lx_STAT n l)
  match (scalerOf s n).find? (fun e => e.1 == l) with
  | some e => setF (setB (setB w Fld.Lx_STAT_SCALED true) Fld.Lx_STAT_PAIRED e.2.2) Fld.Lx_STAT_SCALER e.2.1
  | none => w

/-- TG_STAT (Table 12.15). -/
def tgStatWord (s : State) (n : Nat) : Word :=
  let o := outSt s n
  let w := setB (setF (rd s (Reg.TG_STAT n)) Fld.TG_STAT_LINK (txSt s n).state) Fld.TG_STAT_REVERIFY o.reverify
  setB (setB w Fld.TG_STAT_IDLE (!(tgOn s n && o.latched))) Fld.TG_STAT_RUNNING (tgOn s n && o.latched)

/-- TG_CMT to TG_COMMIT_AT_HI (Table 12.13), by the requester's holder; `o` is the offset within the output's block. -/
def commitWord (s : State) (rq : Requester) (n o : Nat) : Word :=
  let h := reqHolder rq
  let c := (outSt s n).commits
  if o = 0x40 then BitVec.ofNat 32 (packF Fld.TG_CMT_ANY (bit !c.isEmpty) + packF Fld.TG_CMT_COMMIT (bit (c.any (fun x => x.holder == h))))
  else if o = 0x44 then BitVec.ofNat 32 (aget 0xFFFFFFFF h (outSt s n).commitFrame)
  else
    let t := aget 0 h (outSt s n).commitAt
    BitVec.ofNat 32 (if o = 0x48 then t else t / 2 ^ 32)

/-- CRL_STAT (Table 13.9). -/
def crlStatWord (s : State) (n : Nat) : Word :=
  let c := crlSt s n
  BitVec.ofNat 32 (packF Fld.CRL_STAT_BLANKED c.blanked + packF Fld.CRL_STAT_FAILS c.fails + packF Fld.CRL_STAT_NOSCENE (bit c.noscene) +
    packF Fld.CRL_STAT_HOLD_PENDING (bit c.holdPending) + packF Fld.CRL_STAT_FLIP_PENDING (bit (c.flip.isSome || c.flipTaken.isSome)) +
    packF Fld.CRL_STAT_FRONT c.front + packF Fld.CRL_STAT_VERIFIED (bit c.verified) + packF Fld.CRL_STAT_STATE c.state)

/-- DRC_POOL (Table 7.17), in mebibytes. -/
def drcPoolWord (s : State) : Word :=
  BitVec.ofNat 32 (packF Fld.DRC_POOL_CLEARING (extLen s.mem.clearing / 2 ^ 20) + packF Fld.DRC_POOL_FREE (extLen s.mem.free / 2 ^ 20))

/-- The churn buffer of a requester of a PF window (R572). -/
def churnKey (rq : Requester) : Nat := 2 * rq.fn.val + bit (rq.world == .holm)

/-- The churn buffer of a requester. -/
def churnRec (s : State) (rq : Requester) : ChurnRec := tget {} s.rg.churn (churnKey rq)

/-- REG_CHURN_STAT (Table 20.8). -/
def churnStatWord (s : State) (rq : Requester) : Word :=
  let c := churnRec s rq
  setB (setF (rdReq s rq Reg.REG_CHURN_STAT) Fld.REG_CHURN_STAT_ENTRIES c.entries.length) Fld.REG_CHURN_STAT_BUSY c.busy

/-! ### Table data ports (R635) -/

/-- A table data port: its index register, the selected entry's key, the number of entries of the selected table; none for TABLE 3, which selects no table. -/
structure PortSel where
  idx : Nat
  entry : Option Nat
  size : Nat
  deriving DecidableEq, Repr

/-- The port whose data register stands at an offset. -/
def portAt (s : State) (off : Nat) : Option PortSel :=
  if 0xA00000 ≤ off ∧ off < 0xA80000 then
    (let o := off % 0x10000
     if 0x1000 ≤ o ∧ o < 0x3400 ∧ (o % 0x400 = 0x104 ∨ o % 0x400 = 0x10C) then
       some ⟨off - 4, some (rd s (off - 4)).toNat, if o % 0x400 = 0x104 then 448 else 256⟩
     else if o = 0x44 ∨ o = 0x48 then
       (let r := off - o + 0x40
        let t := fld s r Fld.OP_LUT_IDX_TABLE
        let i := fld s r Fld.OP_LUT_IDX_INDEX
        some ⟨r, if t = 3 then none else some (8192 * t + i), if t = 0 then 1024 else if t = 1 then 1025 else 4913⟩)
     else none)
  else if 0xC00000 ≤ off ∧ off < 0xC08000 then
    (if off % 0x1000 = 0x204 then some ⟨off - 4, some (rd s (off - 4)).toNat, 256⟩
     else if off % 0x1000 = 0x20C then
       (let t := fld s (off - 4) Fld.CRL_LUT_IDX_TABLE
        some ⟨off - 4, if t = 3 then none else some (1024 * t + fld s (off - 4) Fld.CRL_LUT_IDX_INDEX), 1024⟩)
     else none)
  else if 0xD00C00 ≤ off ∧ off < 0xD01000 ∧ off % 0x100 = 0xC then some ⟨off - 4, some (rd s (off - 4)).toNat, 64⟩
  else none

/-- INDEX of a port moves to the next entry, past the last one to 0 (R635). INDEX stands in the low 13 bits of every index register. -/
def bumpIndex (p : PortSel) (s : State) : State :=
  let b : Bits := ⟨12, 0⟩
  let i := fld s p.idx b
  wrF p.idx b (if p.size ≤ i + 1 then 0 else i + 1) s

/-- Does a read of the data register at an offset move INDEX (R569)? OP_LUT_DATA0 and OP_LUT_DATA1 do not. -/
def readMoves (off : Nat) : Bool := !(decide (0xA00000 ≤ off) && decide (off < 0xA80000) && decide (off % 0x10000 < 0x1000))

/-! ### The word that a register reads as -/

/-- Registers of the blocks below ISO: rings, event queues, MSI-X and VF_ID. -/
def mgtWord (s : State) (fn off : Nat) : Word :=
  if isMsix off then msixRead s fn (off - 0x2000)
  else if 0x100 ≤ off ∧ off < 0x118 then ringRegRead s fn false (off - 0x100)
  else if 0x140 ≤ off ∧ off < 0x158 then ringRegRead s fn true (off - 0x140)
  else if 0x200 ≤ off ∧ off < 0x218 then eqRegRead s fn false (off - 0x200)
  else if 0x240 ≤ off ∧ off < 0x258 then eqRegRead s fn true (off - 0x240)
  else 0

/-- Registers of the display blocks (OP, TG, CRL) that are composed of state. -/
def displayWord (s : State) (rq : Requester) (off : Nat) : Word :=
  if off < 0xA80000 then
    (let n := (off - 0xA00000) / 0x10000
     let o := off % 0x10000
     if o = 0x50 then opStatWord s n
     else if 0x1000 ≤ o ∧ o < 0x3400 ∧ o % 0x400 = 0x110 then layerStatWord s n ((o - 0x1000) / 0x400)
     else rd s off)
  else if 0xB00000 ≤ off ∧ off < 0xB08000 then
    (let n := (off - 0xB00000) / 0x1000
     let o := off % 0x1000
     if o = 0x70 then tgStatWord s n
     else if 0x40 ≤ o ∧ o < 0x50 then commitWord s rq n o
     else rd s off)
  else if 0xC00000 ≤ off ∧ off < 0xC08000 ∧ off % 0x1000 = 0xC then crlStatWord s ((off - 0xC00000) / 0x1000)
  else rd s off

/-- A register held per requester (R35). -/
def reqWord (s : State) (rq : Requester) (off : Nat) : Word :=
  if off = Reg.REG_CHURN_STAT then churnStatWord s rq else rdReq s rq off

/-- The word that a register reads as, a table data port apart. Complement registers read 0 (chapter 20); so do the paired-write registers without a stored value. -/
def regWord (s : State) (rq : Requester) (off : Nat) : Word :=
  if off = vfIdOff then vfIdWord s rq.fn.val
  else if (pairValueOf off).isSome then 0
  else if off = Reg.ISO_OWN_DATA then ownReadWord s
  else if isPairValue off then 0
  else if perRequester off then reqWord s rq off
  else if off < 0x100000 then mgtWord s rq.fn.val off
  else if off = Reg.ISO_WHOAMI then BitVec.ofNat 32 (256 * bit (rq.world == .holm) + rq.fn.val)
  else if off = Reg.ISO_LOG_STAT then BitVec.ofNat 32 (packF Fld.ISO_LOG_STAT_LOST s.iso.lost + packF Fld.ISO_LOG_STAT_FIFO_LEVEL s.iso.fifo.length)
  else if off = Reg.HIF_FN_INFO then fnInfoWord s rq
  else if off = Reg.HIF_MSIX_POOL then BitVec.ofNat 32 s.hif.vfPool
  else if off = Reg.VAT_LEASE_STAT then BitVec.ofNat 32 (packF Fld.VAT_LEASE_STAT_PEAK s.mem.leasePeak + packF Fld.VAT_LEASE_STAT_IN_USE (leaseEntries s))
  else if off = Reg.DRC_POOL then drcPoolWord s
  else if 0x800100 ≤ off ∧ off < 0x800140 then coreStat s ((off - 0x800100) / 4)
  else if off = Reg.GPX_SCHED_STAT then schedStat s
  else if off = Reg.TRV_STAT then trvStatWord s
  else if 0x900100 ≤ off ∧ off < 0x900140 ∧ off % 8 = 0 then trvArmWord s ((off - 0x900100) / 8)
  else if 0xA00000 ≤ off ∧ off < 0xC08000 then displayWord s rq off
  else if 0xD00000 ≤ off ∧ off < 0xD00800 ∧ off % 0x100 = 4 then txStat s ((off - 0xD00000) / 0x100)
  else if off = Reg.LNK_STRAIT_CNT then BitVec.ofNat 32 (straitRec s (getF (rdReq s rq Reg.LNK_STRAIT_SEL) Fld.LNK_STRAIT_SEL_ID)).errors
  else if 0xE81000 ≤ off ∧ off < 0xE83000 ∧ off % 0x200 = 0x20 then
    setF (rd s off) Fld.HAP_Cn_STAT_QUEUED (hapOf s ((off - 0xE81000) / 0x200)).queue.length
  else if off = Reg.PWR_STAT then pwrStatWord s
  else if off = Reg.PWR_GINFO then gateInfoWord s rq
  else if off = Reg.REG_DEVICE_ID then BitVec.ofNat 32 (deviceId s)
  else if off = Reg.REG_OTP_STAT then otpStat s.boot.otp
  else if off = Reg.REG_DUMP_STAT then dumpStat s
  else if off = Reg.REG_CRC_STAT then setB (setB (rd s off) Fld.REG_CRC_STAT_DRIFT (drift s)) Fld.REG_CRC_STAT_SCANNING (flg s Reg.REG_CRC_CTRL Fld.REG_CRC_CTRL_EN)
  else rd s off

/-! ### A read -/

/-- Is the requester's aperture there (R147, R186 to R189)? A Holm requester reaches a PF window whose port presents BAR2. -/
def reached (s : State) (rq : Requester) : Bool :=
  windowOpen s rq.fn.val &&
  (rq.world == .mainland || (decide (rq.fn.val < 4) && (fld s Reg.ISO_PORT Fld.ISO_PORT_HOLM_PORT).testBit rq.fn.val))

/-- A read of the register that stands at a PF-window offset: the word and the state after it. -/
def readReg (rq : Requester) (off : Nat) (s : State) : Word × State :=
  match portAt s off with
  | some p =>
    (match p.entry with
     | some e => (tab s off e, if readMoves off then bumpIndex p s else s)
     | none => (0, s))
  | none => (regWord s rq off, s)

/-- The word a bus read of a window offset returns, and the state after it: a read that misses returns 0 (Table 20.2), whatever its byte enables (R568). A VF window reads 0 at an offset that
Table 6.2 does not list (R190), an unbacked VF everywhere (R189). -/
def busRead (rq : Requester) (off : Nat) (s : State) : Word × State :=
  if reached s rq = false then (0, s)
  else match windowOff s rq.fn.val (off / 4 * 4) with
    | none => (0, s)
    | some o =>
      match miss s rq o false true with
      | some m => (0, if m = .unmapped ∧ 4 ≤ rq.fn.val then s else noteMiss rq o false m s)
      | none => readReg rq o s

/-! ### Captures (R34) -/

/-- The source values of the contract accounting group (Tables 2.16 to 2.20). -/
def ctrSource (s : State) (fn : Nat) : List Nat :=
  let a := tget {} s.ledger.acct fn
  let cs := s.ledger.contracts.filter (fun c => c.fn == fn)
  [packF Fld.MGT_CTR_OPEN_OPEN_PERIODIC (cs.filter (fun c => c.blk.periodic)).length + packF Fld.MGT_CTR_OPEN_OPEN_ONESHOT (cs.filter (fun c => !c.blk.periodic)).length,
   a.done, packF Fld.MGT_CTR_BREACH_CHARGED a.charged + packF Fld.MGT_CTR_BREACH_NOT_CHARGED a.notCharged, a.refused]

/-- The source values of the session group (Tables 4.8, 4.9): the ring 1 fields read 0 for a Mainland requester. -/
def sesSource (s : State) (rq : Requester) : List Nat :=
  let fn := rq.fn
  let count (holm : Bool) (st : SesState) : Nat := (s.gcp.sessions.filter (fun x => x.port == .ring fn holm && x.state == st)).length
  let auth (holm : Bool) : AuthRec := authRec s (.ring fn holm)
  let one := decide (rq.world = .holm)
  let on (n : Nat) : Nat := if one then n else 0
  [packF Fld.MGT_SES_COUNT_R1_PENDING (on (count true .pending)) + packF Fld.MGT_SES_COUNT_R1_OPEN (on (count true .opened)) +
     packF Fld.MGT_SES_COUNT_R0_PENDING (count false .pending) + packF Fld.MGT_SES_COUNT_R0_OPEN (count false .opened),
   packF Fld.MGT_SES_AUTH_AUTH_FAILS ((auth false).fails + on (auth true).fails) + packF Fld.MGT_SES_AUTH_R1_LOCKED (on (bit (lockedAt (auth true) s.gtb))) +
     packF Fld.MGT_SES_AUTH_R0_LOCKED (bit (lockedAt (auth false) s.gtb))]

/-- Free words from the analogue part. -/
def freeWords (n : Nat) (s : State) : List Nat × State :=
  ((List.range n).map (fun i => Config.analogue (s.drawn + i) % 2 ^ 32), { s with drawn := s.drawn + n })

/-- The bytes moved by the set that runs on a channel (R520): free, at most its count; the last count when nothing runs. -/
def movedNow (n : Nat) (s : State) : Nat × State :=
  match (dmaOf s n).running with
  | some x => (Config.analogue s.drawn % (x.count + 1), { s with drawn := s.drawn + 1 })
  | none => ((rd s (Reg.DMA_Cn_MOVED n)).toNat, s)

/-- The values that a capture takes, in the order of `snapMembers`. Values of a unit at work that spec/ does not fix are free: the raster position, the bytes moved, the running value of a unit. -/
def snapValues (rq : Requester) (off : Nat) (s : State) : List Nat × State :=
  if off = Reg.MGT_CTR_CTRL then (ctrSource s rq.fn.val, s)
  else if off = Reg.MGT_SES_CTRL then (sesSource s rq, s)
  else if off = Reg.REG_GTB_CTRL then ([s.gtb % 2 ^ 32, s.gtb / 2 ^ 32 % 2 ^ 32], s)
  else if off = Reg.TRV_ST_CTRL then ([(rd s Reg.TRV_ST_RASTER).toNat, (rd s Reg.TRV_ST_TRAV).toNat, Config.refSig.toNat], s)
  else if off = Reg.REG_CRC_SNAP_CTRL then ([(holmRef s).toNat, (rd s Reg.REG_CRC_COMMITTED).toNat, (rd s Reg.REG_CRC_PASSES).toNat], s)
  else if 0x1000000 ≤ off ∧ off < 0x1008000 then
    (let (m, s) := movedNow ((off - 0x1000000) / 0x100) s
     ([m, (rd s (off + 8)).toNat], s))
  else if 0x1100000 ≤ off ∧ off < 0x1100400 ∧ flg s (off - 4) Fld.CV_Un_STAT_BUSY then freeWords 10 s
  else
    let vs := (snapMembers off).map (fun m => (rd s m).toNat)
    if 0xB00000 ≤ off ∧ off < 0xB08000 then
      (let (f, s) := freeWords 1 s
       (vs.set 3 (if (outSt s ((off - 0xB00000) / 0x1000)).latched then f.headD 0 else 0), s))
    else (vs, s)

/-- A write of 1 to the SNAP field of the group whose control register stands at an offset (R34): the members are captured for the requester, SEQ counts, VALID is set; PROBATION stands as it was
at the capture (Table 2.16). -/
def snapCapture (rq : Requester) (off : Nat) (s : State) : State :=
  let (vs, s) := snapValues rq off s
  let s := capture rq off ((snapMembers off).zip vs) s
  if off = Reg.MGT_CTR_CTRL then wrReq rq off (setB (rdReq s rq off) Fld.MGT_CTR_CTRL_PROBATION (tget {} s.ledger.acct rq.fn.val).probation) s else s

end Sys2Proof.Machine
end

