-- ==== Sys2Proof/Machine/BusWrite.lean ====
section
/-!
DEFINITION. BusWrite.lean: what a register write does: the effect of every register by its chapter, paired writes (R577 to R579), shadow locks (R372), the churn buffer (R572, R573).
-/

namespace Sys2Proof.Machine

open Sys2Proof

/-! ### Table ports (R635) -/

/-- The bits of a register that some field covers. -/
def fieldMask (off : Nat) : Word := match regAt off with | some d => BitVec.ofNat 32 (d.mask (fun _ => true)) | none => 0

/-- Is the offset an index register of a table port? -/
def isPortIdx (off : Nat) : Bool :=
  if 0xA00000 ≤ off ∧ off < 0xA80000 then
    (let o := off % 0x10000
     o == 0x40 || (decide (0x1000 ≤ o) && decide (o < 0x3400) && (o % 0x400 == 0x100 || o % 0x400 == 0x108)))
  else if 0xC00000 ≤ off ∧ off < 0xC08000 then off % 0x1000 == 0x200 || off % 0x1000 == 0x208
  else decide (0xD00C00 ≤ off) && decide (off < 0xD01000) && off % 0x100 == 8

/-- Would the index register hold an INDEX beyond the last entry of the table it selects? -/
def indexBeyond (off : Nat) (w : Word) : Bool :=
  let o := off % 0x10000
  if 0xA00000 ≤ off ∧ off < 0xA80000 ∧ o = 0x40 then
    (let t := getF w Fld.OP_LUT_IDX_TABLE
     let i := getF w Fld.OP_LUT_IDX_INDEX
     decide ((t = 0 ∧ 1023 < i) ∨ (t = 1 ∧ 1024 < i) ∨ (t = 2 ∧ 4912 < i)))
  else if 0xA00000 ≤ off ∧ off < 0xA80000 ∧ o % 0x400 = 0x100 then decide (448 ≤ getF w ⟨8, 0⟩)
  else false

/-- A write of an index register. -/
def writeIndex (off : Nat) (w : Word) (s : State) : State := if indexBeyond off w then s else plainWrite off w s

/-- A write of a table data register: the entry at INDEX takes the value in the shadow table (an EDID word at once) and INDEX moves. OP_LUT_DATA0 keeps R and G for the write of OP_LUT_DATA1,
which stores the whole entry (Table 11.11). While TABLE selects no table the write is ignored. -/
def writePort (off : Nat) (p : PortSel) (w : Word) (s : State) : State :=
  let v := w &&& fieldMask off
  match p.entry with
  | none => s
  | some e =>
    if 0xA00000 ≤ off ∧ off < 0xA80000 ∧ off % 0x10000 = 0x44 then wrSh off v s
    else if 0xA00000 ≤ off ∧ off < 0xA80000 ∧ off % 0x10000 = 0x48 then bumpIndex p (setTabSh off e v (setTabSh (off - 4) e (rdSh s (off - 4)) s))
    else if 0xD00C00 ≤ off then bumpIndex p (setTab off e v s)
    else bumpIndex p (setTabSh off e v s)

/-! ### Fields that a write leaves as they stand -/

/-- The bits of a register that the chapter keeps from a write now: carve-outs after LOCK (R231), buffers of an input that captures (R356), limits of a video receiver (Table 14.11), a sensor's
geometry while it is enabled (R444), a Mainland region's BIND_EN (R457), a haptic channel's configuration while it is enabled (R477), the value of a busy check-value unit (Table 18.8). -/
def lockMask (s : State) (off : Nat) (w : Word) : Word :=
  if 0x400100 ≤ off ∧ off ≤ 0x400180 then (if flg s Reg.DRC_CO_LOCK Fld.DRC_CO_LOCK_LOCK then 0xFFFFFFFF#32 else 0)
  else if 0xB80000 ≤ off ∧ off < 0xB84000 then
    (let o := off % 0x1000
     if (o = 0xC ∨ (0x10 ≤ o ∧ o < 0x30)) ∧ flg s (off - o) Fld.VIN_CTRL_ENABLE then 0xFFFFFFFF#32 else 0)
  else if 0xD00C00 ≤ off ∧ off < 0xD01000 ∧ off % 0x100 = 0 then
    (if flg s off Fld.LNK_RXn_CFG_HPD_EN then 0x73#32
     else
       (if [1, 2, 4].contains (getF w Fld.LNK_RXn_CFG_MAX_LANES) then 0 else 0x70#32) ||| (if getF w Fld.LNK_RXn_CFG_MAX_RATE = 3 then 3#32 else 0))
  else if 0xE01000 ≤ off ∧ off < 0xE03000 then
    (let k := (off - 0xE01000) / 0x400
     let o := off % 0x400
     if o = 4 ∨ o = 8 ∨ o = 0xC then (if sensorOn s k then 0xFFFFFFFF#32 else 0)
     else if 0x100 ≤ o ∧ o < 0x300 ∧ o % 16 = 8 then (if holmOwned s (obj 5 (32 * k + (o - 0x100) / 16)) then 0 else 0x100#32)
     else 0)
  else if 0xE81000 ≤ off ∧ off < 0xE83000 then (if hapLocked s ((off - 0xE81000) / 0x200) (off % 0x200) then 0xFFFFFFFF#32 else 0)
  else if 0x1100000 ≤ off ∧ off < 0x1100400 ∧ 0x18 ≤ off % 0x100 then
    (if flg s (off - off % 0x100 + 0x10) Fld.CV_Un_STAT_BUSY then 0xFFFFFFFF#32 else 0)
  else 0

/-- A write by the access codes, with the bits of `lockMask` left as they stand. -/
def lockedWrite (off : Nat) (w : Word) (s : State) : State :=
  let m := lockMask s off w
  plainWrite off ((w &&& ~~~m) ||| (rd s off &&& m)) s

/-! ### Registers with an effect of their own -/

/-- A write of VIN_CTRL (R355, R356): CAPFMT stands while ENABLE is 1; ENABLE rises when the demand fits. -/
def writeVinCtrl (v : Nat) (w : Word) (s : State) : State :=
  let r := Reg.VIN_CTRL v
  let old := rd s r
  let was := getB old Fld.VIN_CTRL_ENABLE
  let w' := setB w Fld.VIN_CTRL_ENABLE was
  let s := plainWrite r (if was then setF w' Fld.VIN_CTRL_CAPFMT (getF old Fld.VIN_CTRL_CAPFMT) else w') s
  if getB w Fld.VIN_CTRL_ENABLE && !was then (if vinRefused s v then s else vinStart v (wrB r Fld.VIN_CTRL_ENABLE true s))
  else if was && !getB w Fld.VIN_CTRL_ENABLE then vinStop v (wrB r Fld.VIN_CTRL_ENABLE false s)
  else s

/-- A write of ISO_DBG (R174): enables clear; the clear is logged and measured. -/
def writeDbg (rq : Requester) (w : Word) (s : State) : State :=
  let old := (rd s Reg.ISO_DBG).toNat
  let new := dbgAfterClear old w.toNat
  if new = old then s
  else
    let s := wr Reg.ISO_DBG (BitVec.ofNat 32 new) s
    let s := isoLog 0x42 (logReq rq) 0 3 Reg.ISO_DBG 0xFFFF 0 s
    measure 0x0010 0 (le 1 (new % 16)) [] s

/-- A write of TRV_ARMn (R315, R316): the flags clear, ARM_A and ARM_B begin an arm. -/
def writeArm (n : Nat) (w : Word) (s : State) : State :=
  let s := plainWrite (Reg.TRV_ARMn n) w s
  let s := if getB w Fld.TRV_ARMn_ARM_A then armBegin n false s else s
  if getB w Fld.TRV_ARMn_ARM_B then armBegin n true s else s

/-- A write of LNK_TXg_SB_CTRL (R431). -/
def writeSbCtrl (n : Nat) (w : Word) (s : State) : State :=
  let s := plainWrite (Reg.LNK_TXg_SB_CTRL n) w s
  if getB w Fld.LNK_TXg_SB_CTRL_START then sbStart n s else s

/-- A write to a value register of a check-value unit clears FINALISED (Table 18.8). -/
def writeCvValue (off : Nat) (w : Word) (s : State) : State :=
  let st := off - off % 0x100 + 0x10
  if flg s st Fld.CV_Un_STAT_BUSY then s else wrB st Fld.CV_Un_STAT_FINALISED false (plainWrite off w s)

/-- A paired write that completes (Table 20.6). -/
def pairEffect (off : Nat) (v : Word) (s : State) : State :=
  if off = Reg.ISO_OWN_DATA then ownWrite v s
  else if off = Reg.TRV_CTRL then
    (let s := if getB v Fld.TRV_CTRL_SET_RASTER then faultSet Fld.TRV_STAT_RASTER_FAULT s else s
     let s := if getB v Fld.TRV_CTRL_SET_TRV then faultSet Fld.TRV_STAT_TRV_FAULT s else s
     let s := if getB v Fld.TRV_CTRL_CLEAR_RASTER then faultClear Fld.TRV_STAT_RASTER_FAULT s else s
     if getB v Fld.TRV_CTRL_CLEAR_TRV then faultClear Fld.TRV_STAT_TRV_FAULT s else s)
  else if 0xC00000 ≤ off ∧ off < 0xC08000 then (if getB v Fld.CRL_RECOVER_RECOVER then crlRecover ((off - 0xC00000) / 0x1000) s else s)
  else if off = Reg.RST_REQ then (if getB v Fld.RST_REQ_DEVICE then deviceReset 4 false s else s)
  else if off = Reg.RST_BLK then rstBlk (getF v Fld.RST_BLK_GATE) s
  else if off = Reg.RST_WD_SVC then wdService s
  else if off = Reg.REG_CRC_COMMIT then
    (if getB v Fld.REG_CRC_COMMIT_COMMIT then
       (let h := holmRef s
        measure 0x0013 0 (le 4 h.toNat) [] { wr Reg.REG_CRC_COMMITTED h s with rg := { s.rg with resynced := false } })
     else s)
  else if off = Reg.REG_CRC_RESYNC then
    (let g := getF v Fld.REG_CRC_RESYNC_SEG
     { s with rg := { s.rg with resync := if s.rg.resync.contains g then s.rg.resync else s.rg.resync ++ [g] } })
  else s

/-- A ring or event-queue register of a window; the doorbell is R106. -/
def writeMgt (fn off : Nat) (w : Word) (s : State) : State :=
  if isMsix off then msixWrite fn (off - 0x2000) w s
  else if 0x100 ≤ off ∧ off < 0x180 then
    (let holm := decide (0x140 ≤ off)
     let o := off % 0x40
     if o = 0xC then setRing fn holm (doorbell (getF w Fld.MGT_RINGn_DB_PI) s.gtb) s else ringRegWrite fn holm o w s)
  else if 0x200 ≤ off ∧ off < 0x280 then eqRegWrite fn (decide (0x240 ≤ off)) (off % 0x40) w s
  else s

/-- A write of a layer's register set: VIEW_APPLY is R336. -/
def writeLayer (off : Nat) (w : Word) (s : State) : State :=
  let o := off % 0x10000 - 0x1000
  let i := 9 * ((off - 0xA00000) / 0x10000) + o / 0x400
  if o % 0x400 = 0xA0 then (if getB w Fld.Lx_VIEW_APPLY_APPLY then viewApply i s else s) else plainWrite off w s

/-- The effect of a full write of a register, by the register's chapter. -/
def applyReg (rq : Requester) (off : Nat) (w : Word) (s : State) : State :=
  if isSnapCtrl off then (if w.toNat.testBit 0 then snapCapture rq off s else s)
  else if perRequester off then plainWriteReq rq off w s
  else if off < 0x100000 then writeMgt rq.fn.val off w s
  else if off = Reg.ISO_DBG then writeDbg rq w s
  else if off = Reg.ISO_OWN_IDX then ownSelect w s
  else if isPortIdx off then writeIndex off w s
  else if 0x900100 ≤ off ∧ off < 0x900140 ∧ off % 8 = 0 then writeArm ((off - 0x900100) / 8) w s
  else if 0xB80000 ≤ off ∧ off < 0xB84000 ∧ off % 0x1000 = 0 then writeVinCtrl ((off - 0xB80000) / 0x1000) w s
  else if 0xD00000 ≤ off ∧ off < 0xD00800 ∧ off % 0x100 = 8 then writeSbCtrl ((off - 0xD00000) / 0x100) w s
  else if 0xE01000 ≤ off ∧ off < 0xE03000 ∧ off % 0x400 = 0 then writeSensorCtrl ((off - 0xE01000) / 0x400) w s
  else if 0xE81000 ≤ off ∧ off < 0xE83000 ∧ off % 0x200 = 0 then writeHapCtrl ((off - 0xE81000) / 0x200) w s
  else if 0xF00000 ≤ off ∧ off < 0x1000000 then queueAud off w s
  else if 0x1000000 ≤ off ∧ off < 0x1008000 ∧ off % 0x100 = 0 then writeDmaCtrl ((off - 0x1000000) / 0x100) w s
  else if 0x1008100 ≤ off ∧ off < 0x1008300 then writeDmaRate ((off - 0x1008100) / 4) w s
  else if 0x1100000 ≤ off ∧ off < 0x1100400 ∧ off % 0x100 = 0 then writeCvCtrl ((off - 0x1100000) / 0x100) w s
  else if 0x1100000 ≤ off ∧ off < 0x1100400 ∧ 0x18 ≤ off % 0x100 then writeCvValue off w s
  else if off = Reg.CLK_STAT then clkLostClear w s
  else if off = Reg.RST_WD_CTRL then writeWdCtrl w s
  else if off = Reg.REG_DUMP_CTRL then writeDumpCtrl w s
  else
    match portAt s off with
    | some p => writePort off p w s
    | none =>
      if 0xA00000 ≤ off ∧ off < 0xA80000 ∧ 0x1000 ≤ off % 0x10000 then writeLayer off w s else lockedWrite off w s

/-! ### The churn buffer (R572, R573) -/

/-- Registers that no churn buffer takes. -/
def churnExempt (off : Nat) : Bool := off == Reg.REG_CHURN_CTRL || off == Reg.REG_CHURN_STAT || off == Reg.REG_PAIR_STAT

/-- Does a register hold a CH field? -/
def isCh (off : Nat) : Bool := match regAt off with | some d => d.fields.any (fun f => f.acc == .ch) | none => false

/-- Does a write enter the requester's churn buffer? -/
def buffered (s : State) (rq : Requester) (off : Nat) : Bool :=
  decide (rq.fn.val < 4) && !churnExempt off && (getB (rdReq s rq Reg.REG_CHURN_CTRL) Fld.REG_CHURN_CTRL_OPEN || isCh off)

/-- Change the churn buffer of a requester. -/
def setChurn (rq : Requester) (f : ChurnRec → ChurnRec) (s : State) : State :=
  { s with rg := { s.rg with churn := tmod {} s.rg.churn (churnKey rq) f } }

/-- Set a flag of REG_CHURN_STAT. -/
def churnFlag (rq : Requester) (b : Bits) (v : Bool) (s : State) : State := wrReq rq Reg.REG_CHURN_STAT (setB (rdReq s rq Reg.REG_CHURN_STAT) b v) s

/-- A write enters the buffer; the 33rd entry sets OVERFLOW and is lost. -/
def churnPush (rq : Requester) (off : Nat) (w : Word) (s : State) : State :=
  if (churnRec s rq).entries.length < 32 then setChurn rq (fun c => { c with entries := c.entries ++ [(off, w)] }) s
  else churnFlag rq Fld.REG_CHURN_STAT_OVERFLOW true (setChurn rq (fun c => { c with overflowed := true }) s)

/-- OPEN of a requester. -/
def setOpen (rq : Requester) (v : Bool) (s : State) : State :=
  wrReq rq Reg.REG_CHURN_CTRL (setB (rdReq s rq Reg.REG_CHURN_CTRL) Fld.REG_CHURN_CTRL_OPEN v) s

/-- The buffer is emptied, OPEN and OVERFLOW clear (R576). -/
def churnEmpty (rq : Requester) (s : State) : State :=
  churnFlag rq Fld.REG_CHURN_STAT_OVERFLOW false (setOpen rq false (setChurn rq (fun c => { c with entries := [], overflowed := false, discard := false }) s))

/-- A write of 1 to DISCARD waits for a strobe in progress (R576). -/
def churnDiscard (rq : Requester) (s : State) : State :=
  if (churnRec s rq).busy then setChurn rq (fun c => { c with discard := true }) s else churnEmpty rq s

/-! ### The batch check (R574, Table 20.3) -/

/-- Is an action that a write asks for refused or ignored by its chapter: a doorbell, an arm while one runs, START of a busy sideband, an attention tone, a register set, a check-value job, a dump? -/
def actRefused (s : State) (rq : Requester) (off : Nat) (w : Word) : Bool :=
  if 0x100 ≤ off ∧ off < 0x180 ∧ off % 0x40 = 0xC then !doorbellOk (ringRec s rq.fn.val (decide (0x140 ≤ off))) (getF w Fld.MGT_RINGn_DB_PI)
  else if 0x900100 ≤ off ∧ off < 0x900140 ∧ off % 8 = 0 then (w.toNat % 4 != 0) && (armRec s ((off - 0x900100) / 8)).pending.isSome
  else if 0xD00000 ≤ off ∧ off < 0xD00800 ∧ off % 0x100 = 8 then getB w Fld.LNK_TXg_SB_CTRL_START && (txSt s ((off - 0xD00000) / 0x100)).sb.isSome
  else if off = Reg.AUD_ATT_CTRL then getB w Fld.AUD_ATT_CTRL_START && !toneOk (plainWrite off w s)
  else if 0x1000000 ≤ off ∧ off < 0x1008000 ∧ off % 0x100 = 0 then
    (let n := (off - 0x1000000) / 0x100
     getB w Fld.DMA_Cn_CTRL_START && startRefused (writeDmaCtrl n (setB w Fld.DMA_Cn_CTRL_START false) s) n)
  else if 0x1100000 ≤ off ∧ off < 0x1100400 ∧ off % 0x100 = 0 then getB w Fld.CV_Un_CTRL_GO && goError s ((off - 0x1100000) / 0x100) w != 0
  else if off = Reg.REG_DUMP_CTRL then
    (let t := getF w Fld.REG_DUMP_CTRL_TRIGGER
     getB w Fld.REG_DUMP_CTRL_FIRE && (decide (t < 3) || decide (5 < t)))
  else
    match portAt s off with
    | some p => p.entry.isNone
    | none => false

/-- Does a written field not take its value? RW and CH fields are compared with what then stands, SH fields with their shadow, W1C fields with 0. A disable of a sink that holds the floor (R504)
is held and not refused. POLICY 2 and 3 are refused (Table 20.9). -/
def valueRefused (s : State) (rq : Requester) (off : Nat) (w : Word) : Bool :=
  match regAt off with
  | none => false
  | some d =>
    if (portAt s off).isSome ∨ isPairValue off = true then false
    else if 0xF06000 ≤ off ∧ off < 0xF08C00 ∧ (off - 0xF06000) % 0x400 = 0 ∧ toneOn s ((off - 0xF06000) / 0x400) = true then false
    else
      let s' := if 0xF00000 ≤ off ∧ off < 0x1000000 then applyAud s (off, w) else applyReg rq off w s
      let v := regWord s' rq off
      let mRw := BitVec.ofNat 32 (d.mask (fun a => a == .rw || a == .rws || a == .ch))
      let mSh := BitVec.ofNat 32 (d.mask (fun a => a == .sh))
      let mW1 := BitVec.ofNat 32 (d.mask (fun a => a == .w1c))
      ((v ^^^ w) &&& mRw) != 0 || ((rdSh s' off ^^^ w) &&& mSh) != 0 || (v &&& w &&& mW1) != 0 ||
        (off == Reg.REG_CRC_CTRL && decide (2 ≤ getF w Fld.REG_CRC_CTRL_POLICY))

/-- Does the field's chapter ignore or refuse the write (reason FIELD)? -/
def fieldRefuses (s : State) (rq : Requester) (off : Nat) (w : Word) : Bool := actRefused s rq off w || valueRefused s rq off w

/-- Does a completed pair refuse or ignore its value (R157, R320, R561)? -/
def pairRefuses (s : State) (off : Nat) (v : Word) : Bool :=
  if off = Reg.ISO_OWN_DATA then
    s.iso.change.isSome || (let s' := ownWrite v (wrF Reg.ISO_OWN_STAT ⟨3, 2⟩ 0 s)
      flg s' Reg.ISO_OWN_STAT Fld.ISO_OWN_STAT_INVALID || flg s' Reg.ISO_OWN_STAT Fld.ISO_OWN_STAT_REFUSED)
  else if off = Reg.TRV_CTRL then
    flg (pairEffect off v (wrB Reg.TRV_STAT Fld.TRV_STAT_CLEAR_REFUSED false s)) Reg.TRV_STAT Fld.TRV_STAT_CLEAR_REFUSED
  else if off = Reg.RST_BLK then !resettable s (getF v Fld.RST_BLK_GATE)
  else false

/-- The result of a batch: every entry applied, or the reason, the entry that failed, and the case of Table 20.2 to log for it. -/
inductive Batch where
  | applied (s : State)
  | failed (reason entry : Nat) (note : Option (Nat × Miss))
  deriving DecidableEq, Repr

/-- The reason for a case of Table 20.2. -/
def missReasonCode : Miss → Nat
  | .cross => 1
  | .grant _ => 2
  | .gated => 3
  | .unmapped => 7
  | .partialWrite => 7

/-- The check of one entry before its field is judged: reasons WORLD, GRANT, GATED, UNMAPPED, SHADOW. -/
def entryFails (s : State) (rq : Requester) (off : Nat) : Option (Nat × Option (Nat × Miss)) :=
  match miss s rq off true true with
  | some m => some (missReasonCode m, if missReasonCode m ≤ 2 then some (off, m) else none)
  | none => if shadowLocked s off then some (4, none) else none

/-- Judge the entries in order, each on the state that the entries before it leave (R574); the two entries of a pair stand next to each other (R579). -/
def batchRun (rq : Requester) : Nat → List (Nat × Word) → State → Batch
  | _, [], s => .applied s
  | i, [e], s =>
    match entryFails s rq e.1 with
    | some (r, n) => .failed r i n
    | none =>
      if isPairValue e.1 || (pairValueOf e.1).isSome then .failed 5 i none
      else if fieldRefuses s rq e.1 e.2 then .failed 6 i none
      else .applied (applyReg rq e.1 e.2 s)
  | i, e :: f :: es, s =>
    match entryFails s rq e.1 with
    | some (r, n) => .failed r i n
    | none =>
      if isPairValue e.1 then
        (if pairValueOf f.1 = some e.1 ∧ f.2 = ~~~e.2 then
           (if pairRefuses s e.1 e.2 then .failed 6 i none else batchRun rq (i + 2) es (pairEffect e.1 e.2 s))
         else .failed 5 i none)
      else if (pairValueOf e.1).isSome then .failed 5 i none
      else if fieldRefuses s rq e.1 e.2 then .failed 6 i none
      else batchRun rq (i + 1) (f :: es) (applyReg rq e.1 e.2 s)

/-- The result of a strobe in REG_CHURN_STAT and REG_CHURN_CNT (Table 20.8); a batch that applied shows APPLIED when it is confirmed. -/
def churnResult (rq : Requester) (refused : Bool) (reason entry : Nat) (s : State) : State :=
  let w := rdReq s rq Reg.REG_CHURN_STAT
  let w := setF (setF w Fld.REG_CHURN_STAT_REASON reason) Fld.REG_CHURN_STAT_FAIL_ENTRY entry
  let s := wrReq rq Reg.REG_CHURN_STAT (if refused then setB w Fld.REG_CHURN_STAT_REFUSED true else w) s
  let c := rdReq s rq Reg.REG_CHURN_CNT
  let c := setF c Fld.REG_CHURN_CNT_STROBES (getF c Fld.REG_CHURN_CNT_STROBES + 1)
  wrReq rq Reg.REG_CHURN_CNT (if refused then setF c Fld.REG_CHURN_CNT_REFUSALS (getF c Fld.REG_CHURN_CNT_REFUSALS + 1) else c) s

/-- The batch is refused whole: no entry applies, the buffer is emptied, OPEN is cleared (R574). -/
def churnRefuse (rq : Requester) (reason entry : Nat) (s : State) : State :=
  churnResult rq true reason entry (setOpen rq false (setChurn rq (fun c => { c with entries := [], overflowed := false }) s))

/-- A strobe (R574): ignored while one is in progress. An empty buffer sets APPLIED. A batch whose own entry resets the requester's buffers shows nothing. -/
def churnStrobe (rq : Requester) (s : State) : State :=
  let c := churnRec s rq
  if c.busy then s
  else if c.overflowed then churnRefuse rq 8 32 s
  else
    match batchRun rq 0 c.entries s with
    | .failed r i n => churnRefuse rq r i (match n with | some (o, m) => noteMiss rq o true m s | none => s)
    | .applied s' =>
      if c.entries.isEmpty then churnFlag rq Fld.REG_CHURN_STAT_APPLIED true (churnResult rq false 0 0 (setOpen rq false s))
      else if churnRec s' rq = c then
        churnResult rq false 0 0 (setOpen rq false (setChurn rq (fun c => { c with entries := [], busy := true }) s'))
      else s'

/-- A write of REG_CHURN_CTRL: OPEN takes its value, then DISCARD and STROBE act. -/
def writeChurnCtrl (rq : Requester) (w : Word) (s : State) : State :=
  let s := setOpen rq (getB w Fld.REG_CHURN_CTRL_OPEN) s
  let s := if getB w Fld.REG_CHURN_CTRL_DISCARD then churnDiscard rq s else s
  if getB w Fld.REG_CHURN_CTRL_STROBE then churnStrobe rq s else s

/-! ### A write -/

/-- The requester's latch clears (R578). -/
def dropLatch (rq : Requester) (s : State) : State := if (pairRec s rq) = {} then s else setPair rq {} s

/-- A full unbuffered write that reaches its register: a value write of a pair arms the latch, a complement completes it or fails, a locked shadow is refused with SHADOW_REFUSED (R372), every
other write has its effect. -/
def reachWrite (rq : Requester) (off : Nat) (w : Word) (s : State) : State :=
  if isPairValue off then setPair rq { armed := some (off, w, s.gtb) } s
  else if (pairValueOf off).isSome then
    (match pairMatch (pairRec s rq) off w s.gtb with
     | some v => pairEffect (off - 4) v (setPair rq {} s)
     | none => pairFail rq off s)
  else
    let s := dropLatch rq s
    if off = Reg.REG_CHURN_CTRL then writeChurnCtrl rq w s
    else if shadowLocked s off then
      (match shadowHome off with
       | some (n, _) => wrB (Reg.TG_STAT n) Fld.TG_STAT_SHADOW_REFUSED true s
       | none => s)
    else applyReg rq off w s

/-- A write to a PF-window offset. -/
def offWrite (rq : Requester) (off : Nat) (w : Word) (full : Bool) (s : State) : State :=
  if full && buffered s rq off then churnPush rq off w (dropLatch rq s)
  else
    match miss s rq off true full with
    | some m => (if m = .unmapped ∧ 4 ≤ rq.fn.val then dropLatch rq s else noteMiss rq off true m (dropLatch rq s))
    | none => reachWrite rq off w s

/-- A bus write of one word at a window offset with its byte enables (R567, R568, R571). A VF window ignores a write at an offset that Table 6.2 does not list, an unbacked VF everywhere. -/
def busWrite (rq : Requester) (off : Nat) (w : Word) (be : BitVec 4) (s : State) : State :=
  if reached s rq = false then s
  else match windowOff s rq.fn.val (off / 4 * 4) with
    | none => dropLatch rq s
    | some o => offWrite rq o w (be == 15#4) s

/-- A write of a register that a PF window or one of the requester's slots holds, named by its PF-window offset. -/
def regWrite (rq : Requester) (off : Nat) (w : Word) (s : State) : State := if reached s rq then offWrite rq off w true s else s

/-- The paired write of a value and its complement (R577), as one 8-byte write makes it (R579). -/
def pairWrite (rq : Requester) (off : Nat) (v : Word) (s : State) : State := regWrite rq (off + 4) (~~~v) (regWrite rq off v s)

end Sys2Proof.Machine
end

