-- ==== Sys2Proof/Machine/BusTlp.lean ====
section
/-!
DEFINITION. BusTlp.lean: register accesses as inbound TLPs of a port (R438), and the commands that are register accesses without a row of their own: writes, reads, table ports, snapshots, the churn
buffer and paired writes (chapter 20).
-/

namespace Sys2Proof.Machine

open Sys2Proof

/-! ### Inbound TLPs (R438) -/

/-- The TLP held by a port's inbound direction is passed on. -/
def passHeld (port : Nat) (s : State) : State :=
  match tget none s.lnk.held (heldKey port 0) with
  | some (.inbound x _) => busWrite x.rq x.off x.value x.be (setLnk (fun l => { l with held := tput none l.held (heldKey port 0) none }) s)
  | _ => s

/-- An inbound write TLP arrives, is dropped, or is held and passed on directly after the next TLP of the port. -/
def tlpWrite (x : BusWrite) (s : State) : State :=
  let port := portOf s x.rq.fn.val
  let (hits, s) := meetFaults 0 port 0 0 s
  if hits.contains 0 then passHeld port s
  else if hits.contains 2 then
    setLnk (fun l => { l with held := tput none l.held (heldKey port 0) (some (.inbound x s.gtb)) }) (passHeld port s)
  else passHeld port (busWrite x.rq x.off x.value x.be s)

/-- An inbound read: the read data window takes the word. A dropped read never completes; a reorder does not move a read past a write: DESIGN CHOICE. -/
def tlpRead (rq : Requester) (off : Nat) (s : State) : State :=
  let port := portOf s rq.fn.val
  let (hits, s) := meetFaults 0 port 0 0 s
  if hits.contains 0 then passHeld port s
  else
    let (w, s) := busRead rq off s
    passHeld port { s with busData := w }

/-- One full write TLP to a window offset. -/
def fullWrite (rq : Requester) (off : Nat) (w : Word) (s : State) : State := tlpWrite ⟨rq, off, w, 15#4⟩ s

/-- The two accesses of a paired write (R577, R579), one after the other. -/
def pairTlps (rq : Requester) (off : Nat) (v : Word) (s : State) : State := fullWrite rq (off + 4) (~~~v) (fullWrite rq off v s)

/-- A requester of a PF window. -/
def pfReq (pf : BitVec 2) (w : World) : Requester := ⟨Fin.ofNat 64 pf.toNat, w⟩

/-- A bus access of a window offset. -/
def busAccess (rq : Requester) (off : Nat) (a : Access) (s : State) : State :=
  match a with
  | .read => tlpRead rq off s
  | .write v be => tlpWrite ⟨rq, off, v, be⟩ s

/-- Meaning of HELD_TLP_RELEASE (R438): 200,000 ticks have passed with no next TLP of the port and direction. -/
def execHeldTlpRelease (t : Tick) (port : BitVec 2) (outbound : Bool) (s : State) : Out :=
  let s := advance t s
  let k := heldKey port.toNat (bit outbound)
  let clear (s : State) : State := setLnk (fun l => { l with held := tput none l.held k none }) s
  match tget none s.lnk.held k with
  | some (.inbound x since) => if since + 200000 ≤ s.gtb then .next (busWrite x.rq x.off x.value x.be (clear s)) else .next s
  | some (.outbound a bs since) => if since + 200000 ≤ s.gtb then .next (wrHost port.toNat a bs (clear s)) else .next s
  | none => .next s

/-! ### Accesses -/

/-- Meaning of REGISTER_WRITE (R12, R567, R568): an access of a register of a window, by its access code and owner rules. An access of kind `read` shows the word in the read data window. -/
def execRegisterWrite (t : Tick) (requester : Requester) (offset : BitVec 26) (access : Access) (s : State) : Out :=
  .next (busAccess requester offset.toNat access (advance t s))

/-- Meaning of TABLE_PORT_ACCESS (R635). -/
def execTablePortAccess (t : Tick) (requester : Requester) (offset : BitVec 26) (access : Access) (s : State) : Out :=
  .next (busAccess requester offset.toNat access (advance t s))

/-- Meaning of SNAP (R34): a write of 1 to the SNAP field of a group's control register. -/
def execSnap (t : Tick) (requester : Requester) (offset : BitVec 26) (s : State) : Out :=
  .next (fullWrite requester offset.toNat 1 (advance t s))

/-! ### Churn (R572 to R576) -/

/-- Meaning of CHURN_BUFFERED_WRITE (R572): a write of a PF window that enters the requester's buffer when OPEN is 1 or its field is CH. -/
def execChurnBufferedWrite (t : Tick) (pf : BitVec 2) (world : World) (offset : BitVec 26) (value : Word) (s : State) : Out :=
  .next (fullWrite (pfReq pf world) offset.toNat value (advance t s))

/-- Meaning of CHURN_STROBE (R574): OPEN is written with it. -/
def execChurnStrobe (t : Tick) (pf : BitVec 2) (world : World) (open_ : Bool) (s : State) : Out :=
  .next (fullWrite (pfReq pf world) Reg.REG_CHURN_CTRL (BitVec.ofNat 32 (2 + bit open_)) (advance t s))

/-- Meaning of CHURN_DISCARD (R576). -/
def execChurnDiscard (t : Tick) (pf : BitVec 2) (world : World) (s : State) : Out :=
  .next (fullWrite (pfReq pf world) Reg.REG_CHURN_CTRL 4 (advance t s))

/-- Meaning of CHURN_APPLY_CONFIRMED (R575): every island has applied the batch; a DISCARD that waited then acts. -/
def execChurnApplyConfirmed (t : Tick) (pf : BitVec 2) (world : World) (s : State) : Out :=
  let s := advance t s
  let rq := pfReq pf world
  let c := churnRec s rq
  if c.busy then
    let s := churnFlag rq Fld.REG_CHURN_STAT_APPLIED true (setChurn rq (fun c => { c with busy := false }) s)
    .next (if c.discard then churnEmpty rq s else s)
  else .next s

/-! ### Paired writes (R577, R578) -/

/-- The paired-write registers (Table 20.6). -/
def pairOffsets : List Nat :=
  [Reg.ISO_OWN_DATA, Reg.TRV_CTRL] ++ (List.range 8).map Reg.CRL_RECOVER ++ [Reg.RST_REQ, Reg.RST_BLK, Reg.RST_WD_SVC, Reg.REG_CRC_COMMIT, Reg.REG_CRC_RESYNC]

/-- Meaning of PAIR_VALUE_WRITE (R578): a value write to the paired-write register of a place in Table 20.6. -/
def execPairValueWrite (t : Tick) (pf : BitVec 2) (world : World) (register : Fin 15) (value : Word) (s : State) : Out :=
  .next (fullWrite (pfReq pf world) (pairOffsets.getD register.val 0) value (advance t s))

/-- Meaning of PAIR_LATCH_LAPSE (R577, R578): the latch of a requester clears at the end of its window. -/
def execPairLatchLapse (t : Tick) (requester : Requester) (s : State) : Out :=
  let s := advance t s
  match (pairRec s requester).armed with
  | some (o, _, at_) => if at_ + 2000 ≤ s.gtb then .next (setPair requester { lapsed := some o } s) else .next s
  | none => .next s

/-! ### Configuration CRC (R583 to R585) -/

/-- Meaning of CRC_COMMIT (R585). -/
def execCrcCommit (t : Tick) (pf : BitVec 2) (world : World) (s : State) : Out :=
  .next (pairTlps (pfReq pf world) Reg.REG_CRC_COMMIT 1 (advance t s))

/-- Meaning of CRC_RESYNC (R584). -/
def execCrcResync (t : Tick) (pf : BitVec 2) (world : World) (segment : Byte) (s : State) : Out :=
  .next (pairTlps (pfReq pf world) Reg.REG_CRC_RESYNC (segment.setWidth 32) (advance t s))

/-- Meaning of CRC_PASS_END (R583, R584): bits of configuration flops that flipped before the pass (word offset, index, bits), then the comparison; with POLICY 1 a Holm mismatch starts the dump of
trigger 4. -/
def execCrcPassEnd (t : Tick) (flips : List (BitVec 26 × BitVec 16 × Word)) (s : State) : Out :=
  let s := flips.foldl (fun (s : State) (f : BitVec 26 × BitVec 16 × Word) => upsetWord f.1.toNat f.2.1.toNat f.2.2 s) (advance t s)
  if flg s Reg.REG_CRC_CTRL Fld.REG_CRC_CTRL_EN then
    let (s, bad) := passEnd s
    .next (if bad && fld s Reg.REG_CRC_CTRL Fld.REG_CRC_CTRL_POLICY == 1 then dumpTrigger 4 4 s else s)
  else .next s

end Sys2Proof.Machine
end

