-- ==== Sys2Proof/Machine/Lists.lean ====
section
/-!
DEFINITION. Lists.lean: the pair lists and read lists of the display, touch, haptic and audio opcodes (R114, Table 3.14).
-/

namespace Sys2Proof.Machine

open Sys2Proof

/-! ### Head and entries (Table 3.14) -/

/-- The block instance that a list names: the PF-window offset it starts at and its size, or the offset of the head field that names none. `cls` is the opcode's class. -/
def listInstance (cls object block : Nat) : Except Nat (Nat × Nat) :=
  if cls = 3 then
    (if block = 0 then (if object < 8 then .ok (0xA00000 + 0x10000 * object, 0x10000) else .error 0)
     else if block = 1 then (if object < 8 then .ok (0xB00000 + 0x1000 * object, 0x1000) else .error 0)
     else if block = 2 then (if object < 8 then .ok (0xC00000 + 0x1000 * object, 0x1000) else .error 0)
     else if block = 3 then (if object < 4 then .ok (0xB80000 + 0x1000 * object, 0x1000) else .error 0)
     else .error 1)
  else if block ≠ 0 then .error 1
  else if cls = 5 then (if object < 8 then .ok (0xE01000 + 0x400 * object, 0x400) else .error 0)
  else if cls = 6 then (if object < 16 then .ok (0xE81000 + 0x200 * object, 0x200) else .error 0)
  else (if object = 0 then .ok (0xF00000, 0x100000) else .error 0)

/-- Entries of a list with `step` bytes each: payload offset, OFFSET, and VALUE (0 in a read list). -/
def listEntries (write : Bool) (pay : List Byte) (count : Nat) : List (Nat × Nat × Word) :=
  let step := if write then 8 else 4
  (List.range count).map (fun i =>
    let at_ := 4 + step * i
    (at_, leAt pay at_ 4, if write then BitVec.ofNat 32 (leAt pay (at_ + 4) 4) else 0))

/-- The first entry whose OFFSET is no multiple of 4 within the instance. -/
def badEntry (size : Nat) (es : List (Nat × Nat × Word)) : Option Nat :=
  (es.find? (fun e => e.2.1 % 4 != 0 || decide (size ≤ e.2.1))).map (fun e => e.1)

/-- Does an entry reach an object that the session's own function does not hold (R114, R152)? -/
def listGrantMiss (s : State) (rq : Requester) (off : Nat) : Bool :=
  match ownerAt off with
  | .obj o => rq.world == .mainland && granteeOf s o != some rq.fn.val
  | _ => false

/-- The first case of R114 that an entry meets. -/
def listMiss (s : State) (rq : Requester) (write : Bool) (off : Nat) : Option Status :=
  if crosses s rq off write then some .worldDenied
  else if listGrantMiss s rq off then some .notGranted
  else if gateOn s (gateAt off) = false then some .blockGated
  else if write && shadowLocked s off then some .shadowLocked
  else none

/-- The first entry of a list that a case of R114 refuses: its payload offset, its PF-window offset and the status. -/
def listRefusal (s : State) (rq : Requester) (write : Bool) (base : Nat) : List (Nat × Nat × Word) → Option (Nat × Nat × Status)
  | [] => none
  | e :: es =>
    match listMiss s rq write (base + e.2.1) with
    | some st => some (e.1, base + e.2.1, st)
    | none => listRefusal s rq write base es

/-! ### Applying and reading -/

/-- Apply the entries of a pair list in order as register writes of the session's requester; no entry enters the churn buffer (R572), and a pair takes two consecutive entries (R579). None where the
list is refused whole because a video input's demand does not fit (R355). -/
def listApply (rq : Requester) (base : Nat) : List (Nat × Nat × Word) → State → Option State
  | [], s => some (dropLatch rq s)
  | e :: es, s =>
    let off := base + e.2.1
    let s' := reachWrite rq off e.2.2 s
    let vin := decide (0xB80000 ≤ off) && decide (off < 0xB84000) && off % 0x1000 == 0
    if vin && getB e.2.2 Fld.VIN_CTRL_ENABLE && !flg s' off Fld.VIN_CTRL_ENABLE then none
    else listApply rq base es s'

/-- The values of a read list in order. -/
def listRead (rq : Requester) (base : Nat) : List (Nat × Nat × Word) → State → List Byte × State
  | [], s => ([], s)
  | e :: es, s =>
    let r := readReg rq (base + e.2.1) s
    let (bs, s') := listRead rq base es r.2
    (le 4 r.1.toNat ++ bs, s')

/-- Steps 12 and 13 of a pair list or a read list (R114, R203). -/
def doList (cls : Nat) (write : Bool) (c : Ctx) (s : State) : Ans :=
  let count := leAt c.pay 2 2
  if write && fnQuiet s c.fn then .reply (stOnly .functionQuiesced) s
  else if count = 0 ∨ 508 < count then .reply (stOff .paramInvalid 2) s
  else
    match listInstance cls (leAt c.pay 0 1) (leAt c.pay 1 1) with
    | .error o => .reply (stOff .paramInvalid o) s
    | .ok (base, size) =>
      let es := listEntries write c.pay count
      let rq := ctxRequester c
      match badEntry size es with
      | some o => .reply (stOff .paramInvalid o) s
      | none =>
        match listRefusal s rq write base es with
        | some (at_, off, st) =>
          let s := if st = .worldDenied then isoLog 0x02 (logReq rq) 1 (bit write + 2 * bit (rq.world == .holm)) off (logObj off) 0x0203 s else s
          .reply (stOff st at_) s
        | none =>
          if write then
            (match listApply rq base es (dropLatch rq s) with
             | some s => .reply (stDone []) s
             | none => .reply (stOnly .budgetExceeded) s)
          else
            (let (bs, s) := listRead rq base es s
             .reply (stDone bs) s)

/-! ### The opcodes -/

/-- DISPLAY_WRITE (Table 3.6). -/
def opDisplayWrite : OpInfo := ⟨0x0301, (2, 0), .any, none, false, .pairs, false⟩

/-- DISPLAY_READ (Table 3.6). -/
def opDisplayRead : OpInfo := ⟨0x0302, (2, 0), .any, none, true, .reads, false⟩

/-- TOUCH_WRITE (Table 3.6). -/
def opTouchWrite : OpInfo := ⟨0x0501, (2, 0), .owner, none, false, .pairs, false⟩

/-- TOUCH_READ (Table 3.6). -/
def opTouchRead : OpInfo := ⟨0x0502, (2, 0), .owner, none, true, .reads, false⟩

/-- HAPTIC_WRITE (Table 3.6). -/
def opHapticWrite : OpInfo := ⟨0x0601, (2, 0), .owner, none, false, .pairs, false⟩

/-- HAPTIC_READ (Table 3.6). -/
def opHapticRead : OpInfo := ⟨0x0602, (2, 0), .owner, none, true, .reads, false⟩

/-- AUDIO_WRITE (Table 3.6). -/
def opAudioWrite : OpInfo := ⟨0x0701, (2, 0), .owner, none, false, .pairs, false⟩

/-- AUDIO_READ (Table 3.6). -/
def opAudioRead : OpInfo := ⟨0x0702, (2, 0), .owner, none, true, .reads, false⟩

/-- Meaning of DISPLAY_WRITE (R114): OP, TG, CRL or VIN registers. -/
def execDisplayWrite (t : Tick) (q : Request) (s : State) : Out := gcp opDisplayWrite t q (doList 3 true) s

/-- Meaning of DISPLAY_READ (R114). -/
def execDisplayRead (t : Tick) (q : Request) (s : State) : Out := gcp opDisplayRead t q (doList 3 false) s

/-- Meaning of TOUCH_WRITE (R114). -/
def execTouchWrite (t : Tick) (q : Request) (s : State) : Out := gcp opTouchWrite t q (doList 5 true) s

/-- Meaning of TOUCH_READ (R114). -/
def execTouchRead (t : Tick) (q : Request) (s : State) : Out := gcp opTouchRead t q (doList 5 false) s

/-- Meaning of HAPTIC_WRITE (R114). -/
def execHapticWrite (t : Tick) (q : Request) (s : State) : Out := gcp opHapticWrite t q (doList 6 true) s

/-- Meaning of HAPTIC_READ (R114). -/
def execHapticRead (t : Tick) (q : Request) (s : State) : Out := gcp opHapticRead t q (doList 6 false) s

/-- Meaning of AUDIO_WRITE (R114). -/
def execAudioWrite (t : Tick) (q : Request) (s : State) : Out := gcp opAudioWrite t q (doList 7 true) s

/-- Meaning of AUDIO_READ (R114). -/
def execAudioRead (t : Tick) (q : Request) (s : State) : Out := gcp opAudioRead t q (doList 7 false) s

end Sys2Proof.Machine
end

