-- ==== Sys2Proof/Machine/RegWrite.lean ====
section
/-!
DEFINITION. RegWrite.lean: the commands that are writes of one register: each is a write TLP of a requester, with the row's bit set, and acts as BusWrite.lean says for its register.
-/

namespace Sys2Proof.Machine

open Sys2Proof

/-! ### Rings and event queues -/

/-- The window offset of a ring register of a window (R104, Table 6.2). -/
def ringOff (fn : Nat) (holm : Bool) (o : Nat) : Nat := if fn < 4 then 0x100 + 0x40 * bit holm + o else 0x100 + o

/-- Meaning of RING_DOORBELL (R106). -/
def execRingDoorbell (t : Tick) (fn : Fn) (holm : Bool) (world : World) (pi : BitVec 7) (s : State) : Out :=
  let s := advance t s
  if portExists (.ring fn holm) && portExists (.ring fn (world == .holm)) then .next (fullWrite ⟨fn, world⟩ (ringOff fn.val holm 0xC) (pi.setWidth 32) s)
  else .fault .noSuchWindow

/-- Meaning of RING_RESET (R110): a write of MGT_RINGn_CTRL with RESET set; ENABLE and IRQ_EN are written with it. -/
def execRingReset (t : Tick) (fn : Fn) (holm : Bool) (world : World) (enable irqEn : Bool) (s : State) : Out :=
  let s := advance t s
  if portExists (.ring fn holm) && portExists (.ring fn (world == .holm)) then
    .next (fullWrite ⟨fn, world⟩ (ringOff fn.val holm 8) (BitVec.ofNat 32 (4 + 2 * bit irqEn + bit enable)) s)
  else .fault .noSuchWindow

/-- Meaning of EQ_READ_INDEX_WRITE (R193). -/
def execEqReadIndexWrite (t : Tick) (fn : Fn) (holm : Bool) (world : World) (ri : BitVec 13) (s : State) : Out :=
  let s := advance t s
  if portExists (.ring fn holm) && portExists (.ring fn (world == .holm)) then
    .next (fullWrite ⟨fn, world⟩ (ringOff fn.val holm 0x10C) (ri.setWidth 32) s)
  else .fault .noSuchWindow

/-! ### Ownership (R154 to R157) -/

/-- The word of an ownership entry as a paired write spells it (Table 5.14). -/
def ownSpell (holm granted : Bool) (fn : Nat) : Word :=
  setB (setF (setB 0 Fld.ISO_OWN_DATA_GRANTED granted) Fld.ISO_OWN_DATA_FN fn) Fld.ISO_OWN_DATA_WORLD holm

/-- A requester selects an object in ISO_OWN_IDX and makes the paired write of an entry. -/
def ownChange (rq : Requester) (o : BitVec 16) (w : Word) (s : State) : State :=
  pairTlps rq Reg.ISO_OWN_DATA w (fullWrite rq Reg.ISO_OWN_IDX (o.setWidth 32) s)

/-- Meaning of ISO_OWN_CLAIM (R154). -/
def execIsoOwnClaim (t : Tick) (pf : BitVec 2) (world : World) (object : BitVec 16) (s : State) : Out :=
  .next (ownChange (pfReq pf world) object (ownSpell true false 0) (advance t s))

/-- Meaning of ISO_OWN_RELEASE (R156). -/
def execIsoOwnRelease (t : Tick) (pf : BitVec 2) (world : World) (object : BitVec 16) (granted : Bool) (fn : Fn) (s : State) : Out :=
  .next (ownChange (pfReq pf world) object (ownSpell false granted fn.val) (advance t s))

/-- Meaning of ISO_OWN_GRANT (R152). -/
def execIsoOwnGrant (t : Tick) (pf : BitVec 2) (world : World) (object : BitVec 16) (granted : Bool) (fn : Fn) (s : State) : Out :=
  .next (ownChange (pfReq pf world) object (ownSpell false granted fn.val) (advance t s))

/-! ### Debug, carve-outs, scenes -/

/-- Meaning of DBG_CLEAR (R174): a write of 1 to enables of ISO_DBG. -/
def execDbgClear (t : Tick) (pf : BitVec 2) (world : World) (enables : BitVec 4) (s : State) : Out :=
  .next (fullWrite (pfReq pf world) Reg.ISO_DBG (enables.setWidth 32) (advance t s))

/-- Meaning of CO_LOCK (R231). -/
def execCoLock (t : Tick) (pf : BitVec 2) (world : World) (s : State) : Out :=
  .next (fullWrite (pfReq pf world) Reg.DRC_CO_LOCK 1 (advance t s))

/-- Meaning of TRV_ARM_A (R315). -/
def execTrvArmA (t : Tick) (pf : BitVec 2) (world : World) (output : BitVec 3) (s : State) : Out :=
  .next (fullWrite (pfReq pf world) (Reg.TRV_ARMn output.toNat) 1 (advance t s))

/-- Meaning of TRV_ARM_B (R315). -/
def execTrvArmB (t : Tick) (pf : BitVec 2) (world : World) (output : BitVec 3) (s : State) : Out :=
  .next (fullWrite (pfReq pf world) (Reg.TRV_ARMn output.toNat) 2 (advance t s))

/-- Meaning of TRV_SET_RASTER (R320). -/
def execTrvSetRaster (t : Tick) (pf : BitVec 2) (world : World) (s : State) : Out :=
  .next (pairTlps (pfReq pf world) Reg.TRV_CTRL 1 (advance t s))

/-- Meaning of TRV_SET_TRV (R320). -/
def execTrvSetTrv (t : Tick) (pf : BitVec 2) (world : World) (s : State) : Out :=
  .next (pairTlps (pfReq pf world) Reg.TRV_CTRL 2 (advance t s))

/-- Meaning of TRV_CLEAR_RASTER (R320). -/
def execTrvClearRaster (t : Tick) (pf : BitVec 2) (world : World) (s : State) : Out :=
  .next (pairTlps (pfReq pf world) Reg.TRV_CTRL 4 (advance t s))

/-- Meaning of TRV_CLEAR_TRV (R320). -/
def execTrvClearTrv (t : Tick) (pf : BitVec 2) (world : World) (s : State) : Out :=
  .next (pairTlps (pfReq pf world) Reg.TRV_CTRL 8 (advance t s))

/-! ### Display -/

/-- Where a list has an entry. -/
def placeOf (x : Nat) : List Nat → Nat → Option Nat
  | [], _ => none
  | y :: ys, i => if y = x then some i else placeOf x ys (i + 1)

/-- The window offset of a layer's register set in a window (R191): a VF's slots hold its granted layers. -/
def layerWindow (s : State) (fn i : Nat) : Option Nat :=
  if fn < 4 then some (layerBase i) else (placeOf i (layersOf s fn) 0).map (fun k => 0x4000 + 0x400 * k)

/-- Meaning of VIEW_APPLY (R336): a write of 1 to Lx_VIEW_APPLY; a VF window that no slot gives the layer does not reach it. -/
def execViewApply (t : Tick) (requester : Requester) (output : BitVec 3) (layer : Fin 9) (s : State) : Out :=
  let s := advance t s
  match layerWindow s requester.fn.val (9 * output.toNat + layer.val) with
  | some b => .next (fullWrite requester (b + 0xA0) 1 s)
  | none => .next s

/-- Meaning of VIN_ENABLE (R355): a write of VIN_CTRL with ENABLE 1. -/
def execVinEnable (t : Tick) (pf : BitVec 2) (world : World) (vin : BitVec 2) (value : Word) (s : State) : Out :=
  .next (fullWrite (pfReq pf world) (Reg.VIN_CTRL vin.toNat) (setB value Fld.VIN_CTRL_ENABLE true) (advance t s))

/-- Meaning of CRL_RECOVER (R413). -/
def execCrlRecover (t : Tick) (pf : BitVec 2) (world : World) (output : BitVec 3) (s : State) : Out :=
  .next (pairTlps (pfReq pf world) (Reg.CRL_RECOVER output.toNat) 1 (advance t s))

/-! ### Sideband (R431) -/

/-- A write of LNK_TXg_SB_CTRL with START set. -/
def sbWrite (rq : Requester) (n cmd len addr : Nat) (s : State) : State :=
  fullWrite rq (Reg.LNK_TXg_SB_CTRL n)
    (BitVec.ofNat 32 (packF Fld.LNK_TXg_SB_CTRL_START 1 + packF Fld.LNK_TXg_SB_CTRL_CMD cmd + packF Fld.LNK_TXg_SB_CTRL_LEN len + packF Fld.LNK_TXg_SB_CTRL_ADDR addr)) s

/-- Meaning of SB_AUX_READ (R431). -/
def execSbAuxRead (t : Tick) (pf : BitVec 2) (world : World) (output : BitVec 3) (len : BitVec 5) (addr : BitVec 20) (s : State) : Out :=
  .next (sbWrite (pfReq pf world) output.toNat 0 len.toNat addr.toNat (advance t s))

/-- Meaning of SB_AUX_WRITE (R431). -/
def execSbAuxWrite (t : Tick) (pf : BitVec 2) (world : World) (output : BitVec 3) (len : BitVec 5) (addr : BitVec 20) (s : State) : Out :=
  .next (sbWrite (pfReq pf world) output.toNat 1 len.toNat addr.toNat (advance t s))

/-- Meaning of SB_I2C_READ (R431). -/
def execSbI2cRead (t : Tick) (pf : BitVec 2) (world : World) (output : BitVec 3) (len : BitVec 5) (addr : BitVec 20) (s : State) : Out :=
  .next (sbWrite (pfReq pf world) output.toNat 2 len.toNat addr.toNat (advance t s))

/-- Meaning of SB_I2C_WRITE (R431). -/
def execSbI2cWrite (t : Tick) (pf : BitVec 2) (world : World) (output : BitVec 3) (len : BitVec 5) (addr : BitVec 20) (s : State) : Out :=
  .next (sbWrite (pfReq pf world) output.toNat 3 len.toNat addr.toNat (advance t s))

/-- Meaning of SB_DCS_SHORT_WRITE (R431). -/
def execSbDcsShortWrite (t : Tick) (pf : BitVec 2) (world : World) (output : BitVec 3) (len : BitVec 5) (addr : BitVec 20) (s : State) : Out :=
  .next (sbWrite (pfReq pf world) output.toNat 4 len.toNat addr.toNat (advance t s))

/-- Meaning of SB_DCS_LONG_WRITE (R431). -/
def execSbDcsLongWrite (t : Tick) (pf : BitVec 2) (world : World) (output : BitVec 3) (len : BitVec 5) (addr : BitVec 20) (s : State) : Out :=
  .next (sbWrite (pfReq pf world) output.toNat 5 len.toNat addr.toNat (advance t s))

/-- Meaning of SB_DCS_READ (R431). -/
def execSbDcsRead (t : Tick) (pf : BitVec 2) (world : World) (output : BitVec 3) (len : BitVec 5) (addr : BitVec 20) (s : State) : Out :=
  .next (sbWrite (pfReq pf world) output.toNat 6 len.toNat addr.toNat (advance t s))

/-! ### Touch, haptics, audio -/

/-- Meaning of TOUCH_SENSOR_ENABLE (R444). -/
def execTouchSensorEnable (t : Tick) (pf : BitVec 2) (world : World) (sensor : BitVec 3) (value : Word) (s : State) : Out :=
  .next (fullWrite (pfReq pf world) (Reg.TCH_Sk_CTRL sensor.toNat) (setB value Fld.TCH_Sk_CTRL_ENABLE true) (advance t s))

/-- Meaning of HAPTIC_CHANNEL_ENABLE (R477). -/
def execHapticChannelEnable (t : Tick) (pf : BitVec 2) (world : World) (channel : BitVec 4) (value : Word) (s : State) : Out :=
  .next (fullWrite (pfReq pf world) (Reg.HAP_Cn_CTRL channel.toNat) (setB value Fld.HAP_Cn_CTRL_ENABLE true) (advance t s))

/-- Meaning of TDM_PORT_ENABLE (R495): the write applies at the boundary of R485. -/
def execTdmPortEnable (t : Tick) (pf : BitVec 2) (world : World) (port : BitVec 3) (value : Word) (s : State) : Out :=
  .next (fullWrite (pfReq pf world) (Reg.AUD_TDMn_FMT port.toNat) (setB value Fld.AUD_TDMn_FMT_EN true) (advance t s))

/-- Meaning of AUDIO_SINK_ENABLE (R504): ENABLE of a sink is written 1 or 0. -/
def execAudioSinkEnable (t : Tick) (pf : BitVec 2) (world : World) (sink : Fin 11) (value : Word) (s : State) : Out :=
  .next (fullWrite (pfReq pf world) (Reg.AUD_Kk_CTRL sink.val) value (advance t s))

/-- Meaning of AUDIO_WRITEBACK_ENABLE (R509): sink 10 is enabled. -/
def execAudioWritebackEnable (t : Tick) (pf : BitVec 2) (world : World) (value : Word) (s : State) : Out :=
  .next (fullWrite (pfReq pf world) (Reg.AUD_Kk_CTRL 10) (setB value Fld.AUD_Kk_CTRL_ENABLE true) (advance t s))

/-- Meaning of ATTENTION_START (R502): STEPS and REPEAT are written with it. -/
def execAttentionStart (t : Tick) (pf : BitVec 2) (world : World) (value : Word) (s : State) : Out :=
  .next (fullWrite (pfReq pf world) Reg.AUD_ATT_CTRL (setB value Fld.AUD_ATT_CTRL_START true) (advance t s))

/-- Meaning of ATTENTION_STOP (R502). -/
def execAttentionStop (t : Tick) (pf : BitVec 2) (world : World) (value : Word) (s : State) : Out :=
  .next (fullWrite (pfReq pf world) Reg.AUD_ATT_CTRL (setB value Fld.AUD_ATT_CTRL_STOP true) (advance t s))

/-! ### DMA and check values -/

/-- Meaning of DMA_START (R522). -/
def execDmaStart (t : Tick) (pf : BitVec 2) (world : World) (channel : BitVec 7) (value : Word) (s : State) : Out :=
  .next (fullWrite (pfReq pf world) (Reg.DMA_Cn_CTRL channel.toNat) (setB value Fld.DMA_Cn_CTRL_START true) (advance t s))

/-- Meaning of DMA_STOP (R523). -/
def execDmaStop (t : Tick) (pf : BitVec 2) (world : World) (channel : BitVec 7) (value : Word) (s : State) : Out :=
  .next (fullWrite (pfReq pf world) (Reg.DMA_Cn_CTRL channel.toNat) (setB value Fld.DMA_Cn_CTRL_STOP true) (advance t s))

/-- Meaning of DMA_CHANNEL_DISABLE (R531). -/
def execDmaChannelDisable (t : Tick) (pf : BitVec 2) (world : World) (channel : BitVec 7) (value : Word) (s : State) : Out :=
  .next (fullWrite (pfReq pf world) (Reg.DMA_Cn_CTRL channel.toNat) (setB value Fld.DMA_Cn_CTRL_ENABLE false) (advance t s))

/-- Meaning of DMA_RATE_WRITE (R517). -/
def execDmaRateWrite (t : Tick) (pf : BitVec 2) (world : World) (channel : BitVec 7) (value : Word) (s : State) : Out :=
  .next (fullWrite (pfReq pf world) (Reg.DMA_RATEn channel.toNat) value (advance t s))

/-- Meaning of CV_GO (R528). -/
def execCvGo (t : Tick) (pf : BitVec 2) (world : World) (unit : BitVec 2) (value : Word) (s : State) : Out :=
  .next (fullWrite (pfReq pf world) (Reg.CV_Un_CTRL unit.toNat) (setB value Fld.CV_Un_CTRL_GO true) (advance t s))

/-- Meaning of CV_PAUSE (R529). -/
def execCvPause (t : Tick) (pf : BitVec 2) (world : World) (unit : BitVec 2) (value : Word) (s : State) : Out :=
  .next (fullWrite (pfReq pf world) (Reg.CV_Un_CTRL unit.toNat) (setB value Fld.CV_Un_CTRL_PAUSE true) (advance t s))

/-! ### Clocks, resets, dumps -/

/-- Meaning of CLK_LOST_CLEAR (R542). -/
def execClkLostClear (t : Tick) (pf : BitVec 2) (world : World) (s : State) : Out :=
  .next (fullWrite (pfReq pf world) Reg.CLK_STAT 1 (advance t s))

/-- Meaning of RST_REQ_DEVICE (R557). -/
def execRstReqDevice (t : Tick) (pf : BitVec 2) (world : World) (s : State) : Out :=
  .next (pairTlps (pfReq pf world) Reg.RST_REQ 1 (advance t s))

/-- Meaning of RST_BLK (R561). -/
def execRstBlk (t : Tick) (pf : BitVec 2) (world : World) (gate : BitVec 16) (s : State) : Out :=
  .next (pairTlps (pfReq pf world) Reg.RST_BLK (gate.setWidth 32) (advance t s))

/-- Meaning of WATCHDOG_ENABLE (R562). -/
def execWatchdogEnable (t : Tick) (pf : BitVec 2) (world : World) (min : BitVec 14) (max : BitVec 16) (s : State) : Out :=
  .next (fullWrite (pfReq pf world) Reg.RST_WD_CTRL
    (BitVec.ofNat 32 (packF Fld.RST_WD_CTRL_MAX max.toNat + packF Fld.RST_WD_CTRL_MIN min.toNat + packF Fld.RST_WD_CTRL_EN 1)) (advance t s))

/-- Meaning of WATCHDOG_SERVICE (R562): any word and its complement. -/
def execWatchdogService (t : Tick) (pf : BitVec 2) (world : World) (value : Word) (s : State) : Out :=
  .next (pairTlps (pfReq pf world) Reg.RST_WD_SVC value (advance t s))

/-- Meaning of DUMP_FIRE (R607): FIRE with a TRIGGER. -/
def execDumpFire (t : Tick) (pf : BitVec 2) (world : World) (trigger : BitVec 3) (s : State) : Out :=
  .next (fullWrite (pfReq pf world) Reg.REG_DUMP_CTRL (BitVec.ofNat 32 (packF Fld.REG_DUMP_CTRL_TRIGGER trigger.toNat + packF Fld.REG_DUMP_CTRL_FIRE 1)) (advance t s))

/-- Meaning of DUMP_CLEAR (R610): CLEAR; TRIGGER is written with it. -/
def execDumpClear (t : Tick) (pf : BitVec 2) (world : World) (trigger : BitVec 3) (s : State) : Out :=
  .next (fullWrite (pfReq pf world) Reg.REG_DUMP_CTRL (BitVec.ofNat 32 (packF Fld.REG_DUMP_CTRL_TRIGGER trigger.toNat + packF Fld.REG_DUMP_CTRL_CLEAR 1)) (advance t s))

end Sys2Proof.Machine
end

