-- ==== Sys2Proof/Machine/Dispatch.lean ====
section
/-!
DEFINITION. Dispatch.lean: one arm for each command, one direct call of its meaning.
-/

namespace Sys2Proof.Machine

open Sys2Proof

def exec (i : Instr) (s : State) : Host.Outcome State Fault Refusal :=
  match i with
  | .ringDoorbell t fn holm world pi => Sys2Proof.Machine.execRingDoorbell t fn holm world pi s
  | .ringReset t fn holm world enable irqEn => Sys2Proof.Machine.execRingReset t fn holm world enable irqEn s
  | .ringResetTakesEffect t fn holm => Sys2Proof.Machine.execRingResetTakesEffect t fn holm s
  | .ringFetchError t fn holm => Sys2Proof.Machine.execRingFetchError t fn holm s
  | .identify t q => Sys2Proof.Machine.execIdentify t q s
  | .sessionOpen t q => Sys2Proof.Machine.execSessionOpen t q s
  | .sessionProve t q => Sys2Proof.Machine.execSessionProve t q s
  | .authLockEnd t port => Sys2Proof.Machine.execAuthLockEnd t port s
  | .pendingLimit t tag => Sys2Proof.Machine.execPendingLimit t tag s
  | .sessionClose t q => Sys2Proof.Machine.execSessionClose t q s
  | .sessionKeepalive t q => Sys2Proof.Machine.execSessionKeepalive t q s
  | .expiredTagRelease t tag => Sys2Proof.Machine.execExpiredTagRelease t tag s
  | .contractCancel t q => Sys2Proof.Machine.execContractCancel t q s
  | .contractQuery t q => Sys2Proof.Machine.execContractQuery t q s
  | .reserveSet t q => Sys2Proof.Machine.execReserveSet t q s
  | .ledgerRead t q => Sys2Proof.Machine.execLedgerRead t q s
  | .displayWrite t q => Sys2Proof.Machine.execDisplayWrite t q s
  | .displayRead t q => Sys2Proof.Machine.execDisplayRead t q s
  | .commit t q => Sys2Proof.Machine.execCommit t q s
  | .creamUpdate t q => Sys2Proof.Machine.execCreamUpdate t q s
  | .outputStatus t q => Sys2Proof.Machine.execOutputStatus t q s
  | .renderSubmit t q => Sys2Proof.Machine.execRenderSubmit t q s
  | .computeSubmit t q => Sys2Proof.Machine.execComputeSubmit t q s
  | .fenceRead t q => Sys2Proof.Machine.execFenceRead t q s
  | .touchWrite t q => Sys2Proof.Machine.execTouchWrite t q s
  | .touchRead t q => Sys2Proof.Machine.execTouchRead t q s
  | .touchCalibrate t q => Sys2Proof.Machine.execTouchCalibrate t q s
  | .touchCalibrationDone t sensor flashOk => Sys2Proof.Machine.execTouchCalibrationDone t sensor flashOk s
  | .hapticWrite t q => Sys2Proof.Machine.execHapticWrite t q s
  | .hapticRead t q => Sys2Proof.Machine.execHapticRead t q s
  | .hapticPlay t q => Sys2Proof.Machine.execHapticPlay t q s
  | .hapticCalibrate t q => Sys2Proof.Machine.execHapticCalibrate t q s
  | .audioWrite t q => Sys2Proof.Machine.execAudioWrite t q s
  | .audioRead t q => Sys2Proof.Machine.execAudioRead t q s
  | .streamOpen t q => Sys2Proof.Machine.execStreamOpen t q s
  | .streamClose t q => Sys2Proof.Machine.execStreamClose t q s
  | .audioQueue t q => Sys2Proof.Machine.execAudioQueue t q s
  | .memMap t q => Sys2Proof.Machine.execMemMap t q s
  | .memUnmap t q => Sys2Proof.Machine.execMemUnmap t q s
  | .dmaSubmit t q => Sys2Proof.Machine.execDmaSubmit t q s
  | .checkSubmit t q => Sys2Proof.Machine.execCheckSubmit t q s
  | .checkResult t q => Sys2Proof.Machine.execCheckResult t q s
  | .fnCreate t q => Sys2Proof.Machine.execFnCreate t q s
  | .fnQuiesce t q => Sys2Proof.Machine.execFnQuiesce t q s
  | .fnQuietReached t fn => Sys2Proof.Machine.execFnQuietReached t fn s
  | .fnResume t q => Sys2Proof.Machine.execFnResume t q s
  | .fnReset t q => Sys2Proof.Machine.execFnReset t q s
  | .fnRemove t q => Sys2Proof.Machine.execFnRemove t q s
  | .fnSave t q => Sys2Proof.Machine.execFnSave t q s
  | .fnSaveDone t fn => Sys2Proof.Machine.execFnSaveDone t fn s
  | .fnRestore t q => Sys2Proof.Machine.execFnRestore t q s
  | .evidenceRead t q => Sys2Proof.Machine.execEvidenceRead t q s
  | .measureRead t q => Sys2Proof.Machine.execMeasureRead t q s
  | .isoLogRead t q => Sys2Proof.Machine.execIsoLogRead t q s
  | .dumpRead t q => Sys2Proof.Machine.execDumpRead t q s
  | .selftest t q => Sys2Proof.Machine.execSelftest t q s
  | .selftestComplete t image0 image1 => Sys2Proof.Machine.execSelftestComplete t image0 image1 s
  | .fwWrite t q flashOk => Sys2Proof.Machine.execFwWrite t q flashOk s
  | .fwActivate t q flashOk => Sys2Proof.Machine.execFwActivate t q flashOk s
  | .faultArm t q => Sys2Proof.Machine.execFaultArm t q s
  | .faultDisarm t q => Sys2Proof.Machine.execFaultDisarm t q s
  | .faultStatus t q => Sys2Proof.Machine.execFaultStatus t q s
  | .blockPowerGate t q => Sys2Proof.Machine.execBlockPowerGate t q s
  | .blockPowerWake t q => Sys2Proof.Machine.execBlockPowerWake t q s
  | .clockSet t q => Sys2Proof.Machine.execClockSet t q s
  | .powerStateStandby t q => Sys2Proof.Machine.execPowerStateStandby t q s
  | .powerStateRun t q => Sys2Proof.Machine.execPowerStateRun t q s
  | .powerStatus t q => Sys2Proof.Machine.execPowerStatus t q s
  | .spiWritePacket t length bytes => Sys2Proof.Machine.execSpiWritePacket t length bytes s
  | .spiReadStatus t => Sys2Proof.Machine.execSpiReadStatus t s
  | .spiReadReply t => Sys2Proof.Machine.execSpiReadReply t s
  | .instanceRelease t fn id => Sys2Proof.Machine.execInstanceRelease t fn id s
  | .contractDeadline t fn id => Sys2Proof.Machine.execContractDeadline t fn id s
  | .probationEnd t fn => Sys2Proof.Machine.execProbationEnd t fn s
  | .sectionBound t core entered => Sys2Proof.Machine.execSectionBound t core entered s
  | .eventRecordPost t fn holm => Sys2Proof.Machine.execEventRecordPost t fn holm s
  | .eqReadIndexWrite t fn holm world ri => Sys2Proof.Machine.execEqReadIndexWrite t fn holm world ri s
  | .mgmtStallResume t => Sys2Proof.Machine.execMgmtStallResume t s
  | .lockstepMismatch t => Sys2Proof.Machine.execLockstepMismatch t s
  | .isoOwnClaim t pf world object => Sys2Proof.Machine.execIsoOwnClaim t pf world object s
  | .isoOwnClaimDone t => Sys2Proof.Machine.execIsoOwnClaimDone t s
  | .isoOwnRelease t pf world object granted fn => Sys2Proof.Machine.execIsoOwnRelease t pf world object granted fn s
  | .isoOwnReleaseDone t => Sys2Proof.Machine.execIsoOwnReleaseDone t s
  | .isoOwnGrant t pf world object granted fn => Sys2Proof.Machine.execIsoOwnGrant t pf world object granted fn s
  | .isoLogDrain t => Sys2Proof.Machine.execIsoLogDrain t s
  | .isoNotice t => Sys2Proof.Machine.execIsoNotice t s
  | .gate t n pc regs => Sys2Proof.Machine.execGate t n pc regs s
  | .gateRet t g1 g2 => Sys2Proof.Machine.execGateRet t g1 g2 s
  | .fetchCross t => Sys2Proof.Machine.execFetchCross t s
  | .holmInterrupt t pc status regs => Sys2Proof.Machine.execHolmInterrupt t pc status regs s
  | .mainlandReturn t => Sys2Proof.Machine.execMainlandReturn t s
  | .debugAccess t req code first => Sys2Proof.Machine.execDebugAccess t req code first s
  | .debugHaltRequest t world first => Sys2Proof.Machine.execDebugHaltRequest t world first s
  | .dbgClear t pf world enables => Sys2Proof.Machine.execDbgClear t pf world enables s
  | .flr t fn => Sys2Proof.Machine.execFlr t fn s
  | .vfEnableClear t port => Sys2Proof.Machine.execVfEnableClear t port s
  | .portReset t port => Sys2Proof.Machine.execPortReset t port s
  | .pcieCompletionTimeout t ring source => Sys2Proof.Machine.execPcieCompletionTimeout t ring source s
  | .vatScrub t corrected => Sys2Proof.Machine.execVatScrub t corrected s
  | .eccUncorrectable t dpa data item => Sys2Proof.Machine.execEccUncorrectable t dpa data item s
  | .pageZeroFillDone t => Sys2Proof.Machine.execPageZeroFillDone t s
  | .memFault t fn source iova write => Sys2Proof.Machine.execMemFault t fn source iova write s
  | .selfRefreshWake t => Sys2Proof.Machine.execSelfRefreshWake t s
  | .vertexPhaseDone t fn id inst => Sys2Proof.Machine.execVertexPhaseDone t fn id inst s
  | .tileDispatch t core => Sys2Proof.Machine.execTileDispatch t core s
  | .tileStoreDone t core frags writes drb => Sys2Proof.Machine.execTileStoreDone t core frags writes drb s
  | .commandFault t fn id inst => Sys2Proof.Machine.execCommandFault t fn id inst s
  | .programFault t core entry => Sys2Proof.Machine.execProgramFault t core entry s
  | .dispatchBegin t fn id inst => Sys2Proof.Machine.execDispatchBegin t fn id inst s
  | .workgroupDone t core writes drb => Sys2Proof.Machine.execWorkgroupDone t core writes drb s
  | .jobDelivered t fn id inst => Sys2Proof.Machine.execJobDelivered t fn id inst s
  | .dispatcherDecision t => Sys2Proof.Machine.execDispatcherDecision t s
  | .compositorPreempt t took => Sys2Proof.Machine.execCompositorPreempt t took s
  | .mainlandSwap t => Sys2Proof.Machine.execMainlandSwap t s
  | .stripWindowOpen t output strip => Sys2Proof.Machine.execStripWindowOpen t output strip s
  | .skim t output layer strip took => Sys2Proof.Machine.execSkim t output layer strip took s
  | .skimDone t core => Sys2Proof.Machine.execSkimDone t core s
  | .stripDuePoint t output strip lines => Sys2Proof.Machine.execStripDuePoint t output strip lines s
  | .queueFrameCompose t output => Sys2Proof.Machine.execQueueFrameCompose t output s
  | .queueFrameComplete t output => Sys2Proof.Machine.execQueueFrameComplete t output s
  | .trvArmA t pf world output => Sys2Proof.Machine.execTrvArmA t pf world output s
  | .trvArmB t pf world output => Sys2Proof.Machine.execTrvArmB t pf world output s
  | .trvArmComplete t output => Sys2Proof.Machine.execTrvArmComplete t output s
  | .slotWriteDisarm t output slot offset bytes => Sys2Proof.Machine.execSlotWriteDisarm t output slot offset bytes s
  | .traversalRenderStart t => Sys2Proof.Machine.execTraversalRenderStart t s
  | .traversalRenderDone t => Sys2Proof.Machine.execTraversalRenderDone t s
  | .trvSetRaster t pf world => Sys2Proof.Machine.execTrvSetRaster t pf world s
  | .trvSetTrv t pf world => Sys2Proof.Machine.execTrvSetTrv t pf world s
  | .trvClearRaster t pf world => Sys2Proof.Machine.execTrvClearRaster t pf world s
  | .trvClearTrv t pf world => Sys2Proof.Machine.execTrvClearTrv t pf world s
  | .viewApply t requester output layer => Sys2Proof.Machine.execViewApply t requester output layer s
  | .tablePortAccess t requester offset access => Sys2Proof.Machine.execTablePortAccess t requester offset access s
  | .writebackLine t output line inTime => Sys2Proof.Machine.execWritebackLine t output line inTime s
  | .vinEnable t pf world vin value => Sys2Proof.Machine.execVinEnable t pf world vin value s
  | .vinFrameReceived t vin width height kind depth interlaced period rows => Sys2Proof.Machine.execVinFrameReceived t vin width height kind depth interlaced period rows s
  | .vinCaptureComplete t vin => Sys2Proof.Machine.execVinCaptureComplete t vin s
  | .vinSignalLost t vin => Sys2Proof.Machine.execVinSignalLost t vin s
  | .commitVisible t output holm fn => Sys2Proof.Machine.execCommitVisible t output holm fn s
  | .latchPoint t output => Sys2Proof.Machine.execLatchPoint t output s
  | .shadowApply t output => Sys2Proof.Machine.execShadowApply t output s
  | .rawRasterStart t output => Sys2Proof.Machine.execRawRasterStart t output s
  | .firstLatchNewTiming t output => Sys2Proof.Machine.execFirstLatchNewTiming t output s
  | .lineRequest t output line cursorDone => Sys2Proof.Machine.execLineRequest t output line cursorDone s
  | .cursorExpressPath t => Sys2Proof.Machine.execCursorExpressPath t s
  | .creamWorkStart t output => Sys2Proof.Machine.execCreamWorkStart t output s
  | .creamWorkDone t output => Sys2Proof.Machine.execCreamWorkDone t output s
  | .tileSignatureDone t output tile upset expLost => Sys2Proof.Machine.execTileSignatureDone t output tile upset expLost s
  | .evidenceRecord t output => Sys2Proof.Machine.execEvidenceRecord t output s
  | .crlRecover t pf world output => Sys2Proof.Machine.execCrlRecover t pf world output s
  | .linkTrainingAttempt t output passed panelRates => Sys2Proof.Machine.execLinkTrainingAttempt t output passed panelRates s
  | .linkRetry t output => Sys2Proof.Machine.execLinkRetry t output s
  | .hpdLowPulse t output ticks lostLock => Sys2Proof.Machine.execHpdLowPulse t output ticks lostLock s
  | .hpdReplug t output => Sys2Proof.Machine.execHpdReplug t output s
  | .sbAuxRead t pf world output len addr => Sys2Proof.Machine.execSbAuxRead t pf world output len addr s
  | .sbAuxWrite t pf world output len addr => Sys2Proof.Machine.execSbAuxWrite t pf world output len addr s
  | .sbI2cRead t pf world output len addr => Sys2Proof.Machine.execSbI2cRead t pf world output len addr s
  | .sbI2cWrite t pf world output len addr => Sys2Proof.Machine.execSbI2cWrite t pf world output len addr s
  | .sbDcsShortWrite t pf world output len addr => Sys2Proof.Machine.execSbDcsShortWrite t pf world output len addr s
  | .sbDcsLongWrite t pf world output len addr => Sys2Proof.Machine.execSbDcsLongWrite t pf world output len addr s
  | .sbDcsRead t pf world output len addr => Sys2Proof.Machine.execSbDcsRead t pf world output len addr s
  | .sbTransactionEnd t output result bytes => Sys2Proof.Machine.execSbTransactionEnd t output result bytes s
  | .vinLinkTraining t vin lanes rate trained errors => Sys2Proof.Machine.execVinLinkTraining t vin lanes rate trained errors s
  | .straitEntryArrival t id seq parityGood item => Sys2Proof.Machine.execStraitEntryArrival t id seq parityGood item s
  | .touchSensorEnable t pf world sensor value => Sys2Proof.Machine.execTouchSensorEnable t pf world sensor value s
  | .touchScanStart t sensor => Sys2Proof.Machine.execTouchScanStart t sensor s
  | .touchScanEnd t sensor counts => Sys2Proof.Machine.execTouchScanEnd t sensor counts s
  | .touchStuckRelease t sensor contact => Sys2Proof.Machine.execTouchStuckRelease t sensor contact s
  | .touchEnterSlow t sensor => Sys2Proof.Machine.execTouchEnterSlow t sensor s
  | .touchSlowScan t sensor counts => Sys2Proof.Machine.execTouchSlowScan t sensor counts s
  | .hapticChannelEnable t pf world channel value => Sys2Proof.Machine.execHapticChannelEnable t pf world channel value s
  | .hapticCalibrationDone t channel amps crossings => Sys2Proof.Machine.execHapticCalibrationDone t channel amps crossings s
  | .hapticDriveBegin t channel => Sys2Proof.Machine.execHapticDriveBegin t channel s
  | .hapticDriveEnd t channel => Sys2Proof.Machine.execHapticDriveEnd t channel s
  | .brakingUnitEnd t channel peak => Sys2Proof.Machine.execBrakingUnitEnd t channel peak s
  | .hapticOnMax t channel => Sys2Proof.Machine.execHapticOnMax t channel s
  | .hapticBudgetSpent t channel => Sys2Proof.Machine.execHapticBudgetSpent t channel s
  | .hapticBudgetWindow t channel => Sys2Proof.Machine.execHapticBudgetWindow t channel s
  | .overcurrent t channel c0 c1 c2 c3 => Sys2Proof.Machine.execOvercurrent t channel c0 c1 c2 c3 s
  | .audioFrameBoundary t ext missed => Sys2Proof.Machine.execAudioFrameBoundary t ext missed s
  | .tdmPortEnable t pf world port value => Sys2Proof.Machine.execTdmPortEnable t pf world port value s
  | .tdmClockLoss t port => Sys2Proof.Machine.execTdmClockLoss t port s
  | .audioSinkEnable t pf world sink value => Sys2Proof.Machine.execAudioSinkEnable t pf world sink value s
  | .audioWritebackEnable t pf world value => Sys2Proof.Machine.execAudioWritebackEnable t pf world value s
  | .attentionStart t pf world value => Sys2Proof.Machine.execAttentionStart t pf world value s
  | .attentionStop t pf world value => Sys2Proof.Machine.execAttentionStop t pf world value s
  | .attentionEnd t => Sys2Proof.Machine.execAttentionEnd t s
  | .headsetInsertConfirm t port since => Sys2Proof.Machine.execHeadsetInsertConfirm t port since s
  | .headsetRemoval t port since => Sys2Proof.Machine.execHeadsetRemoval t port since s
  | .headsetTypeMeasured t port ring2 sleeve => Sys2Proof.Machine.execHeadsetTypeMeasured t port ring2 sleeve s
  | .headsetButtonConfirm t port ohms since => Sys2Proof.Machine.execHeadsetButtonConfirm t port ohms since s
  | .dmaStart t pf world channel value => Sys2Proof.Machine.execDmaStart t pf world channel value s
  | .dmaStop t pf world channel value => Sys2Proof.Machine.execDmaStop t pf world channel value s
  | .dmaChannelDisable t pf world channel value => Sys2Proof.Machine.execDmaChannelDisable t pf world channel value s
  | .dmaSetLoad t channel => Sys2Proof.Machine.execDmaSetLoad t channel s
  | .dmaSetDone t channel => Sys2Proof.Machine.execDmaSetDone t channel s
  | .dmaRateWrite t pf world channel value => Sys2Proof.Machine.execDmaRateWrite t pf world channel value s
  | .cvGo t pf world unit value => Sys2Proof.Machine.execCvGo t pf world unit value s
  | .cvPause t pf world unit value => Sys2Proof.Machine.execCvPause t pf world unit value s
  | .cvPaused t unit bytes => Sys2Proof.Machine.execCvPaused t unit bytes s
  | .cvJobDone t unit => Sys2Proof.Machine.execCvJobDone t unit s
  | .clkinLoss t => Sys2Proof.Machine.execClkinLoss t s
  | .clkinReturn t => Sys2Proof.Machine.execClkinReturn t s
  | .loopsRelocked t => Sys2Proof.Machine.execLoopsRelocked t s
  | .clkLostClear t pf world => Sys2Proof.Machine.execClkLostClear t pf world s
  | .loopLock t island => Sys2Proof.Machine.execLoopLock t island s
  | .sourceSwitch t island => Sys2Proof.Machine.execSourceSwitch t island s
  | .drainEnd t gate => Sys2Proof.Machine.execDrainEnd t gate s
  | .wakeAdmission t => Sys2Proof.Machine.execWakeAdmission t s
  | .wakeComplete t gate => Sys2Proof.Machine.execWakeComplete t gate s
  | .standbyReached t => Sys2Proof.Machine.execStandbyReached t s
  | .standbyLeft t => Sys2Proof.Machine.execStandbyLeft t s
  | .powerOnReset t clkinGood => Sys2Proof.Machine.execPowerOnReset t clkinGood s
  | .deviceReset t cause => Sys2Proof.Machine.execDeviceReset t cause s
  | .rstReqDevice t pf world => Sys2Proof.Machine.execRstReqDevice t pf world s
  | .rstBlk t pf world gate => Sys2Proof.Machine.execRstBlk t pf world gate s
  | .blockResetDone t => Sys2Proof.Machine.execBlockResetDone t s
  | .watchdogEnable t pf world min max => Sys2Proof.Machine.execWatchdogEnable t pf world min max s
  | .watchdogService t pf world value => Sys2Proof.Machine.execWatchdogService t pf world value s
  | .watchdogExpiry t => Sys2Proof.Machine.execWatchdogExpiry t s
  | .thermalAlarm t => Sys2Proof.Machine.execThermalAlarm t s
  | .thermalTrip t => Sys2Proof.Machine.execThermalTrip t s
  | .supplyDip t rail ticks => Sys2Proof.Machine.execSupplyDip t rail ticks s
  | .churnBufferedWrite t pf world offset value => Sys2Proof.Machine.execChurnBufferedWrite t pf world offset value s
  | .churnStrobe t pf world open_ => Sys2Proof.Machine.execChurnStrobe t pf world open_ s
  | .churnApplyConfirmed t pf world => Sys2Proof.Machine.execChurnApplyConfirmed t pf world s
  | .churnDiscard t pf world => Sys2Proof.Machine.execChurnDiscard t pf world s
  | .pairValueWrite t pf world register value => Sys2Proof.Machine.execPairValueWrite t pf world register value s
  | .pairLatchLapse t requester => Sys2Proof.Machine.execPairLatchLapse t requester s
  | .crcCommit t pf world => Sys2Proof.Machine.execCrcCommit t pf world s
  | .crcResync t pf world segment => Sys2Proof.Machine.execCrcResync t pf world segment s
  | .crcPassEnd t flips => Sys2Proof.Machine.execCrcPassEnd t flips s
  | .coLock t pf world => Sys2Proof.Machine.execCoLock t pf world s
  | .snap t requester offset => Sys2Proof.Machine.execSnap t requester offset s
  | .registerWrite t requester offset access => Sys2Proof.Machine.execRegisterWrite t requester offset access s
  | .bootSequence t trained linkEcc romVersion romHash image0 image1 landMarks recordOk => Sys2Proof.Machine.execBootSequence t trained linkEcc romVersion romHash image0 image1 landMarks recordOk s
  | .dumpStreakClear t => Sys2Proof.Machine.execDumpStreakClear t s
  | .dumpFire t pf world trigger => Sys2Proof.Machine.execDumpFire t pf world trigger s
  | .dumpComplete t => Sys2Proof.Machine.execDumpComplete t s
  | .dumpClear t pf world trigger => Sys2Proof.Machine.execDumpClear t pf world trigger s
  | .idleOrLifetimeExpiry t tag => Sys2Proof.Machine.execIdleOrLifetimeExpiry t tag s
  | .functionResetEnd t fn => Sys2Proof.Machine.execFunctionResetEnd t fn s
  | .vertexBatchEnd t core prims writes drb => Sys2Proof.Machine.execVertexBatchEnd t core prims writes drb s
  | .managementStall t => Sys2Proof.Machine.execManagementStall t s
  | .heldTlpRelease t port outbound => Sys2Proof.Machine.execHeldTlpRelease t port outbound s
  | .pcieLinkUp t port width speed reversed bars numVfs vfEnable => Sys2Proof.Machine.execPcieLinkUp t port width speed reversed bars numVfs vfEnable s
  | .dieSensorRead t temps => Sys2Proof.Machine.execDieSensorRead t temps s
  | .noFetchInFlight t output => Sys2Proof.Machine.execNoFetchInFlight t output s
  | .tdmClockReturn t port rate => Sys2Proof.Machine.execTdmClockReturn t port rate s

end Sys2Proof.Machine
end

