-- ==== Sys2Proof/Safety.lean ====
section
/-!
DEFINITION. Safety.lean: the terms in which claims about runs are made: the canonical form of every memory and register file, what no command may undo, and how an outcome is related to the
state before it.
-/

namespace Sys2Proof.Machine

open Sys2Proof

/-- Every register file and memory has its canonical form: keys strictly rising, no entry equal to what an unlisted key reads as. -/
def memWf (s : State) : Prop :=
  twf 0 s.regs = true ∧ twf 0 s.shadow = true ∧ twf 0 s.reqRegs = true ∧ twf 0 s.tabs = true ∧ twf 0 s.tabShadow = true ∧
    twf 0 s.mem.dpa = true ∧ twf 0 s.mem.host = true ∧ twf 0xFF s.boot.flash = true

/-- OTP only gains (R588, R599): identity, root key hash, grade, life cycle and wrapped keys stand; the rollback counter never falls; a revoked Holm key stays revoked. -/
structure OtpKept (a b : Otp) : Prop where
  uid : b.uid = a.uid
  rootHash : b.rootHash = a.rootHash
  grade : b.grade = a.grade
  lifecycle : b.lifecycle = a.lifecycle
  holmPort : b.holmPort = a.holmPort
  kw : b.kw = a.kw
  mks : b.mks = a.mks
  rollback : a.rollback ≤ b.rollback
  revoked : ∀ i : Nat, a.keys[i]?.map HolmKey.revoked = some true → b.keys[i]?.map HolmKey.revoked = some true

/-- What a command never undoes, from a state `a` to a state `b` after it: the queue of waiting commands stands, the canonical form is kept, OTP only gains; with `timed`, time never runs
backward (R16, R538). -/
structure Flow (timed : Bool) (a b : State) : Prop where
  queue : b.pending = a.pending
  time : timed = true → a.gtb ≤ b.gtb
  otp : OtpKept a.boot.otp b.boot.otp
  wf : memWf a → memWf b

/-- An outcome that is a next state flows from the state before. -/
structure OutFlow (timed : Bool) (a : State) (x : Out) : Prop where
  flows : match x with
    | .next b => Flow timed a b
    | _ => True

/-! ### Requests that are served (Table 3.4) -/

/-- The doorbell stamp of the request about to be taken. -/
def stampOf (t : Tick) (q : Request) (s : State) : Tick := portStamp (advance t s) q.port

/-- The state once the packet is taken. -/
def taken (t : Tick) (q : Request) (s : State) : State := takePacket q.port (advance t s)

/-- The state that the opcode's own checks see: the packet is taken, the session's idle window moved, its sequence number consumed (R100, R132). -/
def handed (t : Tick) (q : Request) (s : State) (x : Session) : State :=
  setSession x.tag (fun y => { y with r := stampOf t q s, h := q.pkt.seq }) (taken t q s)

/-- What the opcode's own checks see of the request. -/
def ctxOf (t : Tick) (q : Request) (s : State) (x : Session) : Ctx := ⟨q.port, q.pkt, payloadOf q.pkt, stampOf t q s, some x⟩

/-- A request on a session that the management plane takes next and that passes steps 1 to 11 of Table 3.4 as a new request. -/
structure Accepted (o : OpInfo) (t : Tick) (q : Request) (s : State) (x : Session) : Prop where
  port : portExists q.port = true
  ready : portReady o.code q (advance t s) = true
  served : s.boot.recovery = none
  fresh : verdict o q (stampOf t q s) (taken t q s) = .new x none
  unproved : o.code = 0x0102 → x.state ≠ .opened

/-- The requests of the table of commands: the opcode, the tick and the packet of each. -/
def gcpRow (i : Instr) : Option (OpInfo × Tick × Request) :=
  match i with
  | .identify t q => some (opIdentify, t, q)
  | .sessionOpen t q => some (opSessionOpen, t, q)
  | .sessionProve t q => some (opSessionProve, t, q)
  | .sessionClose t q => some (opSessionClose, t, q)
  | .sessionKeepalive t q => some (opSessionKeepalive, t, q)
  | .contractCancel t q => some (opContractCancel, t, q)
  | .contractQuery t q => some (opContractQuery, t, q)
  | .reserveSet t q => some (opReserveSet, t, q)
  | .ledgerRead t q => some (opLedgerRead, t, q)
  | .displayWrite t q => some (opDisplayWrite, t, q)
  | .displayRead t q => some (opDisplayRead, t, q)
  | .commit t q => some (opCommit, t, q)
  | .creamUpdate t q => some (opCreamUpdate, t, q)
  | .outputStatus t q => some (opOutputStatus, t, q)
  | .renderSubmit t q => some (opRenderSubmit, t, q)
  | .computeSubmit t q => some (opComputeSubmit, t, q)
  | .fenceRead t q => some (opFenceRead, t, q)
  | .touchWrite t q => some (opTouchWrite, t, q)
  | .touchRead t q => some (opTouchRead, t, q)
  | .touchCalibrate t q => some (opTouchCalibrate, t, q)
  | .hapticWrite t q => some (opHapticWrite, t, q)
  | .hapticRead t q => some (opHapticRead, t, q)
  | .hapticPlay t q => some (opHapticPlay, t, q)
  | .hapticCalibrate t q => some (opHapticCalibrate, t, q)
  | .audioWrite t q => some (opAudioWrite, t, q)
  | .audioRead t q => some (opAudioRead, t, q)
  | .streamOpen t q => some (opStreamOpen, t, q)
  | .streamClose t q => some (opStreamClose, t, q)
  | .audioQueue t q => some (opAudioQueue, t, q)
  | .memMap t q => some (opMemMap, t, q)
  | .memUnmap t q => some (opMemUnmap, t, q)
  | .dmaSubmit t q => some (opDmaSubmit, t, q)
  | .checkSubmit t q => some (opCheckSubmit, t, q)
  | .checkResult t q => some (opCheckResult, t, q)
  | .fnCreate t q => some (opFnCreate, t, q)
  | .fnQuiesce t q => some (opFnQuiesce, t, q)
  | .fnResume t q => some (opFnResume, t, q)
  | .fnReset t q => some (opFnReset, t, q)
  | .fnRemove t q => some (opFnRemove, t, q)
  | .fnSave t q => some (opFnSave, t, q)
  | .fnRestore t q => some (opFnRestore, t, q)
  | .evidenceRead t q => some (opEvidenceRead, t, q)
  | .measureRead t q => some (opMeasureRead, t, q)
  | .isoLogRead t q => some (opIsoLogRead, t, q)
  | .dumpRead t q => some (opDumpRead, t, q)
  | .selftest t q => some (opSelftest, t, q)
  | .fwWrite t q _ => some (opFwWrite, t, q)
  | .fwActivate t q _ => some (opFwActivate, t, q)
  | .faultArm t q => some (opFaultArm, t, q)
  | .faultDisarm t q => some (opFaultDisarm, t, q)
  | .faultStatus t q => some (opFaultStatus, t, q)
  | .blockPowerGate t q => some (opBlockPower, t, q)
  | .blockPowerWake t q => some (opBlockPower, t, q)
  | .clockSet t q => some (opClockSet, t, q)
  | .powerStateStandby t q => some (opPowerState, t, q)
  | .powerStateRun t q => some (opPowerState, t, q)
  | .powerStatus t q => some (opPowerStatus, t, q)
  | _ => none

/-- What a request without a session shows to its opcode: no session (R121). -/
def bareCtx (t : Tick) (q : Request) (s : State) : Ctx := ⟨q.port, q.pkt, payloadOf q.pkt, stampOf t q s, none⟩

/-- A request that the management plane takes next (R70, R107), with the firmware running normally. -/
structure Served (o : OpInfo) (t : Tick) (q : Request) (s : State) : Prop where
  port : portExists q.port = true
  ready : portReady o.code q (advance t s) = true
  normal : s.boot.recovery = none

/-- The state once the reply is cached and written and the packet completed (R96 to R101, R107). -/
def finished (o : OpInfo) (c : Ctx) (x : Session) (pay : List Byte) (u : State) : State := answer o c (replyMac o x) false pay (cacheReply c pay u)

/-- The state once a request is held in progress on its port (R108). -/
def inProgress (o : OpInfo) (c : Ctx) (u : State) : State := holdPort c.port ⟨o.code, c.pkt, c.stamp, u.gtb⟩ u

/-! ### Register accesses that reach their register (R571, Table 20.2) -/

/-- A full write of a requester at a window offset that reaches the register at offset `o` of the PF window: no fault is armed on the port's inbound TLPs, the window answers and lists the offset, the
write is not buffered, and no case of Table 20.2 stands against it. -/
structure Lands (rq : Requester) (woff o : Nat) (s : State) : Prop where
  calm : ∀ f ∈ s.lnk.faults, faultAims f 0 (portOf s rq.fn.val) 0 0 = false
  window : reached s rq = true
  offset : windowOff s rq.fn.val (woff / 4 * 4) = some o
  direct : buffered s rq o = false
  allowed : miss s rq o true true = none

/-- Such a write of a register that is neither half of a pair, nor the churn control, nor a shadow that a pending commit locks. -/
structure Plain (rq : Requester) (woff o : Nat) (s : State) : Prop where
  lands : Lands rq woff o s
  noValue : isPairValue o = false
  noComplement : pairValueOf o = none
  noChurn : o ≠ Reg.REG_CHURN_CTRL
  unlocked : shadowLocked (dropLatch rq s) o = false

/-- The state once a value write has armed the requester's pair latch (R578). -/
def armed (rq : Requester) (off : Nat) (v : Word) (s : State) : State := setPair rq { armed := some (off, v, s.gtb) } s

/-- Both writes of a pair reach their registers, one after the other and in the window of R577. -/
structure PairLands (rq : Requester) (off : Nat) (v : Word) (s : State) : Prop where
  value : Lands rq off off s
  free : tget none s.lnk.held (heldKey (portOf s rq.fn.val) 0) = none
  complement : Lands rq (off + 4) (off + 4) (armed rq off v s)
  matched : pairMatch (pairRec (armed rq off v s) rq) (off + 4) (~~~v) s.gtb = some v

/-- The state in which a completed pair has its effect: the latch is clear again. -/
def pairDone (rq : Requester) (off : Nat) (v : Word) (s : State) : State := setPair rq {} (armed rq off v s)

end Sys2Proof.Machine
end

