-- ==== Sys2Proof/WellFormed.lean ====
section
/-!
DEFINITION. WellFormed.lean: the commands that can reach the device: none names ring 1 of a VF window, which does not exist (R104, R148).
-/

namespace Sys2Proof

/-- Does the port exist: ring 1 is the Holm ring of a PF (R104)? -/
def Port.there : Port → Bool
  | .spi => true
  | .ring fn holm => !(holm && decide (4 ≤ fn.val))

/-- A ring's registers are reached in a world that the window has (R148). -/
def ringReach (fn : Fn) (holm : Bool) (w : World) : Bool := Port.there (.ring fn holm) && Port.there (.ring fn (w == .holm))

/-- The port of a GCP request. -/
def Request.there (q : Request) : Bool := q.port.there

/-- Does every window and ring that a command names exist? -/
def Instr.wellFormed (i : Instr) : Bool :=
  match i with
  | .ringDoorbell _ fn holm world _ => ringReach fn holm world
  | .ringReset _ fn holm world _ _ => ringReach fn holm world
  | .ringResetTakesEffect _ fn holm => Port.there (.ring fn holm)
  | .ringFetchError _ fn holm => Port.there (.ring fn holm)
  | .identify _ q => q.there
  | .sessionOpen _ q => q.there
  | .sessionProve _ q => q.there
  | .authLockEnd _ port => port.there
  | .pendingLimit _ _ => true
  | .sessionClose _ q => q.there
  | .sessionKeepalive _ q => q.there
  | .expiredTagRelease _ _ => true
  | .contractCancel _ q => q.there
  | .contractQuery _ q => q.there
  | .reserveSet _ q => q.there
  | .ledgerRead _ q => q.there
  | .displayWrite _ q => q.there
  | .displayRead _ q => q.there
  | .commit _ q => q.there
  | .creamUpdate _ q => q.there
  | .outputStatus _ q => q.there
  | .renderSubmit _ q => q.there
  | .computeSubmit _ q => q.there
  | .fenceRead _ q => q.there
  | .touchWrite _ q => q.there
  | .touchRead _ q => q.there
  | .touchCalibrate _ q => q.there
  | .touchCalibrationDone _ _ _ => true
  | .hapticWrite _ q => q.there
  | .hapticRead _ q => q.there
  | .hapticPlay _ q => q.there
  | .hapticCalibrate _ q => q.there
  | .audioWrite _ q => q.there
  | .audioRead _ q => q.there
  | .streamOpen _ q => q.there
  | .streamClose _ q => q.there
  | .audioQueue _ q => q.there
  | .memMap _ q => q.there
  | .memUnmap _ q => q.there
  | .dmaSubmit _ q => q.there
  | .checkSubmit _ q => q.there
  | .checkResult _ q => q.there
  | .fnCreate _ q => q.there
  | .fnQuiesce _ q => q.there
  | .fnQuietReached _ _ => true
  | .fnResume _ q => q.there
  | .fnReset _ q => q.there
  | .fnRemove _ q => q.there
  | .fnSave _ q => q.there
  | .fnSaveDone _ _ => true
  | .fnRestore _ q => q.there
  | .evidenceRead _ q => q.there
  | .measureRead _ q => q.there
  | .isoLogRead _ q => q.there
  | .dumpRead _ q => q.there
  | .selftest _ q => q.there
  | .selftestComplete _ _ _ => true
  | .fwWrite _ q _ => q.there
  | .fwActivate _ q _ => q.there
  | .faultArm _ q => q.there
  | .faultDisarm _ q => q.there
  | .faultStatus _ q => q.there
  | .blockPowerGate _ q => q.there
  | .blockPowerWake _ q => q.there
  | .clockSet _ q => q.there
  | .powerStateStandby _ q => q.there
  | .powerStateRun _ q => q.there
  | .powerStatus _ q => q.there
  | .spiWritePacket _ _ _ => true
  | .spiReadStatus _ => true
  | .spiReadReply _ => true
  | .instanceRelease _ _ _ => true
  | .contractDeadline _ _ _ => true
  | .probationEnd _ _ => true
  | .sectionBound _ _ _ => true
  | .eventRecordPost _ _ _ => true
  | .eqReadIndexWrite _ fn holm world _ => ringReach fn holm world
  | .mgmtStallResume _ => true
  | .lockstepMismatch _ => true
  | .isoOwnClaim _ _ _ _ => true
  | .isoOwnClaimDone _ => true
  | .isoOwnRelease _ _ _ _ _ _ => true
  | .isoOwnReleaseDone _ => true
  | .isoOwnGrant _ _ _ _ _ _ => true
  | .isoLogDrain _ => true
  | .isoNotice _ => true
  | .gate _ _ _ _ => true
  | .gateRet _ _ _ => true
  | .fetchCross _ => true
  | .holmInterrupt _ _ _ _ => true
  | .mainlandReturn _ => true
  | .debugAccess _ _ _ _ => true
  | .debugHaltRequest _ _ _ => true
  | .dbgClear _ _ _ _ => true
  | .flr _ _ => true
  | .vfEnableClear _ _ => true
  | .portReset _ _ => true
  | .pcieCompletionTimeout _ ring _ => (match ring with | some (fn, holm) => Port.there (.ring fn holm) | none => true)
  | .vatScrub _ _ => true
  | .eccUncorrectable _ _ _ _ => true
  | .pageZeroFillDone _ => true
  | .memFault _ _ _ _ _ => true
  | .selfRefreshWake _ => true
  | .vertexPhaseDone _ _ _ _ => true
  | .tileDispatch _ _ => true
  | .tileStoreDone _ _ _ _ _ => true
  | .commandFault _ _ _ _ => true
  | .programFault _ _ _ => true
  | .dispatchBegin _ _ _ _ => true
  | .workgroupDone _ _ _ _ => true
  | .jobDelivered _ _ _ _ => true
  | .dispatcherDecision _ => true
  | .compositorPreempt _ _ => true
  | .mainlandSwap _ => true
  | .stripWindowOpen _ _ _ => true
  | .skim _ _ _ _ _ => true
  | .skimDone _ _ => true
  | .stripDuePoint _ _ _ _ => true
  | .queueFrameCompose _ _ => true
  | .queueFrameComplete _ _ => true
  | .trvArmA _ _ _ _ => true
  | .trvArmB _ _ _ _ => true
  | .trvArmComplete _ _ => true
  | .slotWriteDisarm _ _ _ _ _ => true
  | .traversalRenderStart _ => true
  | .traversalRenderDone _ => true
  | .trvSetRaster _ _ _ => true
  | .trvSetTrv _ _ _ => true
  | .trvClearRaster _ _ _ => true
  | .trvClearTrv _ _ _ => true
  | .viewApply _ _ _ _ => true
  | .tablePortAccess _ _ _ _ => true
  | .writebackLine _ _ _ _ => true
  | .vinEnable _ _ _ _ _ => true
  | .vinFrameReceived _ _ _ _ _ _ _ _ _ => true
  | .vinCaptureComplete _ _ => true
  | .vinSignalLost _ _ => true
  | .commitVisible _ _ _ _ => true
  | .latchPoint _ _ => true
  | .shadowApply _ _ => true
  | .rawRasterStart _ _ => true
  | .firstLatchNewTiming _ _ => true
  | .lineRequest _ _ _ _ => true
  | .cursorExpressPath _ => true
  | .creamWorkStart _ _ => true
  | .creamWorkDone _ _ => true
  | .tileSignatureDone _ _ _ _ _ => true
  | .evidenceRecord _ _ => true
  | .crlRecover _ _ _ _ => true
  | .linkTrainingAttempt _ _ _ _ => true
  | .linkRetry _ _ => true
  | .hpdLowPulse _ _ _ _ => true
  | .hpdReplug _ _ => true
  | .sbAuxRead _ _ _ _ _ _ => true
  | .sbAuxWrite _ _ _ _ _ _ => true
  | .sbI2cRead _ _ _ _ _ _ => true
  | .sbI2cWrite _ _ _ _ _ _ => true
  | .sbDcsShortWrite _ _ _ _ _ _ => true
  | .sbDcsLongWrite _ _ _ _ _ _ => true
  | .sbDcsRead _ _ _ _ _ _ => true
  | .sbTransactionEnd _ _ _ _ => true
  | .vinLinkTraining _ _ _ _ _ _ => true
  | .straitEntryArrival _ _ _ _ _ => true
  | .touchSensorEnable _ _ _ _ _ => true
  | .touchScanStart _ _ => true
  | .touchScanEnd _ _ _ => true
  | .touchStuckRelease _ _ _ => true
  | .touchEnterSlow _ _ => true
  | .touchSlowScan _ _ _ => true
  | .hapticChannelEnable _ _ _ _ _ => true
  | .hapticCalibrationDone _ _ _ _ => true
  | .hapticDriveBegin _ _ => true
  | .hapticDriveEnd _ _ => true
  | .brakingUnitEnd _ _ _ => true
  | .hapticOnMax _ _ => true
  | .hapticBudgetSpent _ _ => true
  | .hapticBudgetWindow _ _ => true
  | .overcurrent _ _ _ _ _ _ => true
  | .audioFrameBoundary _ _ _ => true
  | .tdmPortEnable _ _ _ _ _ => true
  | .tdmClockLoss _ _ => true
  | .audioSinkEnable _ _ _ _ _ => true
  | .audioWritebackEnable _ _ _ _ => true
  | .attentionStart _ _ _ _ => true
  | .attentionStop _ _ _ _ => true
  | .attentionEnd _ => true
  | .headsetInsertConfirm _ _ _ => true
  | .headsetRemoval _ _ _ => true
  | .headsetTypeMeasured _ _ _ _ => true
  | .headsetButtonConfirm _ _ _ _ => true
  | .dmaStart _ _ _ _ _ => true
  | .dmaStop _ _ _ _ _ => true
  | .dmaChannelDisable _ _ _ _ _ => true
  | .dmaSetLoad _ _ => true
  | .dmaSetDone _ _ => true
  | .dmaRateWrite _ _ _ _ _ => true
  | .cvGo _ _ _ _ _ => true
  | .cvPause _ _ _ _ _ => true
  | .cvPaused _ _ _ => true
  | .cvJobDone _ _ => true
  | .clkinLoss _ => true
  | .clkinReturn _ => true
  | .loopsRelocked _ => true
  | .clkLostClear _ _ _ => true
  | .loopLock _ _ => true
  | .sourceSwitch _ _ => true
  | .drainEnd _ _ => true
  | .wakeAdmission _ => true
  | .wakeComplete _ _ => true
  | .standbyReached _ => true
  | .standbyLeft _ => true
  | .powerOnReset _ _ => true
  | .deviceReset _ _ => true
  | .rstReqDevice _ _ _ => true
  | .rstBlk _ _ _ _ => true
  | .blockResetDone _ => true
  | .watchdogEnable _ _ _ _ _ => true
  | .watchdogService _ _ _ _ => true
  | .watchdogExpiry _ => true
  | .thermalAlarm _ => true
  | .thermalTrip _ => true
  | .supplyDip _ _ _ => true
  | .churnBufferedWrite _ _ _ _ _ => true
  | .churnStrobe _ _ _ _ => true
  | .churnApplyConfirmed _ _ _ => true
  | .churnDiscard _ _ _ => true
  | .pairValueWrite _ _ _ _ _ => true
  | .pairLatchLapse _ _ => true
  | .crcCommit _ _ _ => true
  | .crcResync _ _ _ _ => true
  | .crcPassEnd _ _ => true
  | .coLock _ _ _ => true
  | .snap _ _ _ => true
  | .registerWrite _ _ _ _ => true
  | .bootSequence _ _ _ _ _ _ _ _ _ => true
  | .dumpStreakClear _ => true
  | .dumpFire _ _ _ _ => true
  | .dumpComplete _ => true
  | .dumpClear _ _ _ _ => true
  | .idleOrLifetimeExpiry _ _ => true
  | .functionResetEnd _ _ => true
  | .vertexBatchEnd _ _ _ _ _ => true
  | .managementStall _ => true
  | .heldTlpRelease _ _ _ => true
  | .pcieLinkUp _ _ _ _ _ _ _ _ => true
  | .dieSensorRead _ _ => true
  | .noFetchInFlight _ _ => true
  | .tdmClockReturn _ _ _ => true

end Sys2Proof
end

