-- ==== Sys2Proof/Certificates/Slice0/Obligations.lean ====
section
/-!
DEFINITION. Obligations.lean: the statements for the provers. Each is a proposition about the model; its docstring cites the rule or the section of the specification that it says.
-/

open Sys2Proof Sys2Proof.Machine

/-! ### The machine as a whole -/

/-- The command at the front of the queue acts on the rest of the state, with the rest of the queue (the block's own step). -/
def Obligations.StepRunsFrontCommand : Prop :=
  ∀ (c : Instr) (cs : List Instr) (s : State), s.pending = c :: cs → step s = exec c { s with pending := cs }

/-- With no command waiting, one tick of the time base passes, but while power-on reset holds it at zero. The model's choice (assumption log: the idle tick), after R16 and R560. -/
def Obligations.EmptyQueueLetsOneTickPass : Prop :=
  ∀ s : State, s.pending = [] →
    (s.pwr.inReset = true → s.gtb = 0 → step s = .next s) ∧
    (s.pwr.inReset = false ∨ s.gtb ≠ 0 → step s = .next { s with gtb := s.gtb + 1 })

/-- No command touches the queue of the commands that wait behind it. -/
def Obligations.CommandsLeaveTheQueue : Prop :=
  ∀ (c : Instr) (s u : State), exec c s = .next u → u.pending = s.pending

/-- Every command whose windows and rings exist is executed, whatever the state; a command that names the Holm ring or the Holm aperture of a VF window, which no VF has (R104, R148), stops. -/
def Obligations.EveryReachableCommandIsExecuted : Prop :=
  ∀ (c : Instr) (s : State),
    (c.wellFormed = true → ∃ u, exec c s = .next u) ∧ (c.wellFormed = false → exec c s = .fault .noSuchWindow)

/-- The state after power-on reset is in canonical form. -/
def Obligations.ResetIsCanonical : Prop := memWf State.reset

/-- Every step keeps the canonical form of every register file and memory. -/
def Obligations.StepKeepsCanonicalForm : Prop :=
  ∀ s u : State, memWf s → step s = .next u → memWf u

/-- GTB never steps back (R538) and only power-on reset clears it (R16): a step whose command is neither a power-on reset nor a dip of a rail never lowers it. -/
def Obligations.TimeNeverStepsBack : Prop :=
  ∀ (c : Instr) (cs : List Instr) (s u : State), s.pending = c :: cs → (∀ t g, c ≠ .powerOnReset t g) → (∀ t r n, c ≠ .supplyDip t r n) →
    step s = .next u → s.gtb ≤ u.gtb

/-- Fuses only gain (R588): whatever a step does, power-on reset included, the identity, the root key hash, the grade, the life cycle and the keys in OTP stand, the rollback counter does not fall
and a revoked Holm key stays revoked. -/
def Obligations.FusesOnlyGain : Prop :=
  ∀ s u : State, step s = .next u → OtpKept s.boot.otp u.boot.otp

/-- What power-on reset leaves: every register word at the reset value of its table, no command waiting, time at zero (R16), no session (R119 to R132), no contract, no function, an empty ISO log
(R183), no memory written, firmware not running. -/
def Obligations.ResetLeavesTheResetValues : Prop :=
  (∀ off : Nat, rd State.reset off = resetWordAt off ∧ rdSh State.reset off = resetWordAt off) ∧
  (∀ (r : Requester) (off : Nat), rdReq State.reset r off = resetWordAt off) ∧
  State.reset.pending = [] ∧ State.reset.gtb = 0 ∧ State.reset.gcp.sessions = [] ∧ State.reset.ledger.contracts = [] ∧
  State.reset.iso.fifo = [] ∧ State.reset.iso.ring = [] ∧ State.reset.iso.nextIndex = 0 ∧ State.reset.boot.running = false ∧
  (∀ fn : Nat, (fnRec State.reset fn).state = .absent) ∧
  (∀ a : Nat, rdDpa State.reset a = 0) ∧ (∀ p a : Nat, rdHost State.reset p a = 0)

/-! ### Requests on rings and the SPI port (chapter 3) -/

/-- Sequence numbers (R100): a request that fails at steps 1 to 7 of Table 3.4 consumes no sequence number, enters no replay cache and changes nothing but the reply; one that fails at steps 8 to 11
consumes its sequence number and its reply is cached. -/
def Obligations.RefusedRequestsAndTheirSequence : Prop :=
  ∀ (i : Instr) (o : OpInfo) (t : Tick) (q : Request) (s : State), gcpRow i = some (o, t, q) → Served o t q s →
    (∀ st mac, verdict o q (stampOf t q s) (taken t q s) = .refuse st mac →
      ∃ u, exec i s = .next u ∧
        u = answer o { bareCtx t q s with ses := sessionOf s q.pkt.tag } mac false (stOnly st) (taken t q s) ∧
        u.gcp.sessions = s.gcp.sessions ∧ u.ledger.contracts = s.ledger.contracts ∧ u.regs = s.regs ∧ u.shadow = s.shadow ∧ u.reqRegs = s.reqRegs ∧ u.tabs = s.tabs ∧
        u.tabShadow = s.tabShadow ∧ u.mem.dpa = s.mem.dpa ∧ u.mem.maps = s.mem.maps ∧ u.iso = s.iso ∧ u.boot = s.boot ∧ u.pwr = s.pwr ∧ u.disp = s.disp ∧ u.rg = s.rg ∧
        u.ren = s.ren ∧ u.trv = s.trv ∧ u.sense = s.sense ∧ u.aud = s.aud ∧ u.mv = s.mv) ∧
    (∀ x st, verdict o q (stampOf t q s) (taken t q s) = .new x (some st) →
      ∃ u, exec i s = .next u ∧
        u.gcp.sessions = s.gcp.sessions.map (fun y => if y.tag = x.tag then
          { y with r := stampOf t q s, h := q.pkt.seq,
                   cache := (y.cache ++ [({ seq := q.pkt.seq, trailer := trailerOf q.pkt, payload := stOnly st } : CacheEntry)]).drop (y.cache.length + 1 - 64) } else y) ∧
        u.ledger.contracts = s.ledger.contracts ∧ u.regs = s.regs ∧ u.shadow = s.shadow ∧ u.reqRegs = s.reqRegs ∧ u.mem.dpa = s.mem.dpa ∧ u.mem.maps = s.mem.maps ∧
        u.iso = s.iso ∧ u.boot = s.boot ∧ u.pwr = s.pwr ∧ u.disp = s.disp)

/-- Duplicates (R102): of an opcode marked R it is not executed again: the stored reply is written again with REPLAYED, only the idle window moves, and no contract is signed. -/
def Obligations.DuplicatesAreAnsweredFromTheCache : Prop :=
  ∀ (i : Instr) (o : OpInfo) (t : Tick) (q : Request) (s : State) (x : Session) (pay : List Byte), gcpRow i = some (o, t, q) → Served o t q s → o.dupE = false →
    verdict o q (stampOf t q s) (taken t q s) = .dup x pay →
    ∃ u, exec i s = .next u ∧
      u = answer o { bareCtx t q s with ses := some x } (replyMac o x) true pay (setSession x.tag (fun y => { y with r := stampOf t q s }) (taken t q s)) ∧
      u.gcp.sessions = s.gcp.sessions.map (fun y => if y.tag = x.tag then { y with r := stampOf t q s } else y) ∧
      u.ledger.contracts = s.ledger.contracts ∧ u.ledger.acct = s.ledger.acct ∧ u.regs = s.regs ∧ u.shadow = s.shadow ∧ u.mem.dpa = s.mem.dpa ∧ u.boot = s.boot ∧ u.disp = s.disp

/-- Requests that are not served: a packet that is not the next one waits (R70, R107), with the management plane stalled every packet waits (R85), and in ROM recovery every opcode but IDENTIFY is
answered UNKNOWN_OPCODE with nothing else done (R594). -/
def Obligations.UnservedRequestsWait : Prop :=
  ∀ (i : Instr) (o : OpInfo) (t : Tick) (q : Request) (s : State), gcpRow i = some (o, t, q) → portExists q.port = true →
    (portReady o.code q (advance t s) = false → exec i s = .next (advance t s)) ∧
    (s.gcp.stalled = true → s.boot.recovery = none → exec i s = .next (advance t s)) ∧
    (portReady o.code q (advance t s) = true → s.boot.recovery.isSome = true → o.code ≠ 0x0100 →
      exec i s = .next (answer o (bareCtx t q s) false false (stOnly .unknownOpcode) (taken t q s)))

/-- A request on a session whose window has ended (R132, R135): the session is expired from that tick, its replay cache discarded and its provoked faults disarmed, and the reply is
SESSION_EXPIRED. -/
def Obligations.RequestsOnEndedSessionsExpire : Prop :=
  ∀ (i : Instr) (o : OpInfo) (t : Tick) (q : Request) (s : State) (x : Session) (e : Tick), gcpRow i = some (o, t, q) → Served o t q s →
    verdict o q (stampOf t q s) (taken t q s) = .expire x e → x.state = .opened →
    ∃ u, exec i s = .next u ∧
      u = answer o { bareCtx t q s with ses := some x } (replyMac o x) false (stOnly .sessionExpired) (expireSession x.tag e (taken t q s)) ∧
      (∀ y ∈ u.gcp.sessions, y.tag = x.tag → y.state = .expired ∧ y.expiredAt = e ∧ y.cache = []) ∧
      (∀ y ∈ s.gcp.sessions, y.tag ≠ x.tag → y ∈ u.gcp.sessions) ∧ u.ledger.contracts = s.ledger.contracts ∧ u.regs = s.regs

/-- The session commands (chapter 4), where they go through: IDENTIFY with and without a session (R121, R140); SESSION_OPEN places a new tag in PENDING (R118, R122); SESSION_PROVE opens the session
with its packet key, or frees the slot and counts the failure (R126 to R129); SESSION_KEEPALIVE answers the time and the expiry of the refreshed window (R134); SESSION_CLOSE frees the slot
(R138). -/
def Obligations.SessionCommandsComplete : Prop :=
  ∀ (t : Tick) (q : Request) (s : State) (x : Session),
    let c := ctxOf t q s x
    let b := bareCtx t q s
    let h := handed t q s x
    let f := taken t q s
    let p := payloadOf q.pkt
    (Accepted opIdentify t q s x → exec (.identify t q) s = .next (finished opIdentify c x (stDone (identifyFields h (portFn q.port))) h)) ∧
    (Served opIdentify t q s → verdict opIdentify q (stampOf t q s) f = .free none →
      exec (.identify t q) s = .next (answer opIdentify b false false (stDone (identifyFields f (portFn q.port))) f)) ∧
    (∀ ver, Served opSessionOpen t q s → verdict opSessionOpen q (stampOf t q s) f = .free none → sessionOpenCheck b f = none → grantVersion (leAt p 1 1) (leAt p 2 1) = some ver →
      ∃ tag dn u, (f.gcp.sessions.length < 2 ^ 31 → tag ≠ 0#32 ∧ sessionOf f tag = none) ∧ dn = (List.range 32).map (fun i => BitVec.ofNat 8 (Config.random (f.drawn + 1 + i))) ∧
        u.gcp.sessions = f.gcp.sessions ++ [newSession b f tag dn ver] ∧ u.drawn = f.drawn + 33 ∧ u = { f with drawn := u.drawn, gcp := { f.gcp with sessions := u.gcp.sessions } } ∧
        exec (.sessionOpen t q) s = .next (answer opSessionOpen b false false (stDone (le 4 tag.toNat ++ le 1 ver.1 ++ le 1 ver.2 ++ le 2 0 ++ dn)) u)) ∧
    (∀ k hm lab mask, Accepted opSessionProve t q s x → keyOf h x.keyId = some (k, hm, lab, mask) → slice p 0 32 = hmac k (proofInput x false) →
      exec (.sessionProve t q) s = .next (finished opSessionProve c x (stDone (hmac k (proofInput x true)))
        (setSession x.tag (fun y => { y with state := .opened, pk := packetKey x k }) h))) ∧
    (∀ k hm lab mask, Accepted opSessionProve t q s x → keyOf h x.keyId = some (k, hm, lab, mask) → slice p 0 32 ≠ hmac k (proofInput x false) →
      exec (.sessionProve t q) s = .next (finished opSessionProve c x (stOnly .authFailed)
        (freeSession x.tag { h with gcp := { h.gcp with auth := tmod {} h.gcp.auth (portKey q.port) (authFail (stampOf t q s)) } }))) ∧
    (Accepted opSessionKeepalive t q s x →
      exec (.sessionKeepalive t q) s = .next (finished opSessionKeepalive c x (stDone (le 8 h.gtb ++ le 8 (expiry { x with r := stampOf t q s }))) h)) ∧
    (Accepted opSessionClose t q s x → exec (.sessionClose t q) s = .next (finished opSessionClose c x (stDone []) (freeSession x.tag h)))

/-- The commands on contracts and the ledger (chapter 2), where they go through and where they are refused: CONTRACT_CANCEL and CONTRACT_QUERY on an open contract of the session's world, on one of
the other world (WORLD_DENIED) and on none (CONTRACT_CLOSED) (R81, R131); RESERVE_SET in its ranges and where commitments do not fit (R64); LEDGER_READ of a readable pool (R633); FENCE_READ
(R272). -/
def Obligations.LedgerCommandsComplete : Prop :=
  ∀ (t : Tick) (q : Request) (s : State) (x : Session) (k : Contract),
    let c := ctxOf t q s x
    let h := handed t q s x
    let p := payloadOf q.pkt
    let fn := portFn q.port
    (Accepted opContractCancel t q s x → contractOf h fn (leAt p 0 4) = some k → k.holm = x.holm → flipGone h k = false →
      exec (.contractCancel t q) s = .next (finished opContractCancel c x (stDone []) (cancelWork k h.gtb h))) ∧
    (Accepted opContractCancel t q s x → contractOf h fn (leAt p 0 4) = none →
      exec (.contractCancel t q) s = .next (finished opContractCancel c x (stOnly .contractClosed) h)) ∧
    (Accepted opContractCancel t q s x → contractOf h fn (leAt p 0 4) = some k → k.holm ≠ x.holm →
      exec (.contractCancel t q) s = .next (finished opContractCancel c x (stOnly .worldDenied) h)) ∧
    (Accepted opContractQuery t q s x → contractOf h fn (leAt p 0 4) = some k → k.holm = x.holm →
      exec (.contractQuery t q) s = .next (finished opContractQuery c x
        (stDone (le 4 k.inst ++ le 8 (instWindow h k).1 ++ le 8 (instWindow h k).2 ++ le 4 k.shd ++ le 4 k.drb)) h)) ∧
    (Accepted opContractQuery t q s x → contractOf h fn (leAt p 0 4) = none →
      exec (.contractQuery t q) s = .next (finished opContractQuery c x (stOnly .contractClosed) h)) ∧
    (Accepted opReserveSet t q s x → 100 ≤ leAt p 0 2 → leAt p 0 2 ≤ 400 → 50 ≤ leAt p 2 2 → leAt p 2 2 ≤ 300 → reserveFits h .shd (leAt p 0 2) = true → reserveFits h .drb (leAt p 2 2) = true →
      exec (.reserveSet t q) s = .next (finished opReserveSet c x (stDone (le 2 (leAt p 0 2) ++ le 2 (leAt p 2 2)))
        { h with ledger := { h.ledger with reserveShd := leAt p 0 2, reserveDrb := leAt p 2 2 } })) ∧
    (Accepted opReserveSet t q s x → 100 ≤ leAt p 0 2 → leAt p 0 2 ≤ 400 → 50 ≤ leAt p 2 2 → leAt p 2 2 ≤ 300 → reserveFits h .shd (leAt p 0 2) = false →
      exec (.reserveSet t q) s = .next (finished opReserveSet c x (stOnly .reserveInUse) h)) ∧
    (Accepted opLedgerRead t q s x → (leAt p 0 1 < 64 → (fnRec h (leAt p 0 1)).state ≠ .absent) → (leAt p 0 1 < 64 ∨ 0xFE ≤ leAt p 0 1) → leAt p 1 3 = 0 → poolReadable h c (leAt p 0 1) = true →
      exec (.ledgerRead t q) s = .next (finished opLedgerRead c x
        (let w (n : Nat) : List Byte := le 4 (min n 0xFFFFFFFF)
         let one (r : Rate) : List Byte := w (poolCap h (poolNamed (leAt p 0 1)) r) ++ w (poolUsed h (poolNamed (leAt p 0 1)) r)
         stDone (one .shd ++ one .drb ++ one .vat ++ le 2 (h.ledger.contracts.filter (fun k => poolOf k.blk.cls k.fn == poolNamed (leAt p 0 1))).length ++
           le 1 (bit (decide (leAt p 0 1 < 64) && onProbation h (leAt p 0 1))) ++ le 1 0)) h)) ∧
    (Accepted opFenceRead t q s x →
      exec (.fenceRead t q) s = .next (finished opFenceRead c x (stDone (le 4 (fenceRec h fn x.holm).value ++ le 8 (fenceRec h fn x.holm).stamp)) h))

/-- Submissions (chapter 2): where the guards of R203, R539 and R551 and the kind's own checks pass and the admission test of R72 signs a contract, the reply is ACCEPTED with its figures, the
contract stands in the ledger, and the work is queued at its unit: RENDER_SUBMIT, COMPUTE_SUBMIT, CREAM_UPDATE, COMMIT, DMA_SUBMIT, CHECK_SUBMIT, AUDIO_QUEUE, HAPTIC_PLAY. -/
def Obligations.SignedSubmissionsAreAccepted : Prop :=
  ∀ (t : Tick) (q : Request) (s : State) (x : Session) (k : Contract),
    let c := ctxOf t q s x
    let h := handed t q s x
    let p := payloadOf q.pkt
    let fn := portFn q.port
    let n := (parseBlock p).target
    let v := sign k h
    let ok := acceptedReply v k
    -- a job's descriptor is read and checked before it is admitted
    (∀ kind : Kind, (kind = .render ∨ kind = .compute) →
      let o := if kind = .compute then opComputeSubmit else opRenderSubmit
      let dev := (parseBlock p).cls == 0
      let d := parseDesc (jobRead h dev fn (leAt p 0x68 8) (min (leAt p 0x70 4) 352))
      let a := { shaderAsk h (baseAsk c kind h) with
        blocksFit := (shaderAsk h (baseAsk c kind h)).blocksFit && jobCostOk d (parseCost kind p), params := [leAt p 0x68 8, leAt p 0x70 4, leAt p 0x74 4] }
      Accepted o t q s x → leAt p 0x68 8 % 8 = 0 → leAt p 0x70 4 % 8 = 0 → 0x48 ≤ leAt p 0x70 4 → leAt p 0x70 4 ≤ 0x1000000 →
      (jobRange h dev fn false (leAt p 0x68 8) (leAt p 0x70 4) && ctxPoison h (if dev then none else some fn) (leAt p 0x68 8) (min (leAt p 0x70 4) 352)) = false →
      descCheck h dev fn (leAt p 0x68 8) (leAt p 0x70 4) (parseCost kind p).bins (if kind = .compute then 1 else 0) = none →
      contractGuard h fn (gatesNeeded kind 0) = none → admitAsk h a = .signed k →
      exec (if kind = .compute then .computeSubmit t q else .renderSubmit t q) s = .next (finished o c x ok v)) ∧
    (Accepted opCreamUpdate t q s x → creamCheck h c = none → contractGuard h fn (creamGates h c) = none → admitAsk h (keepWork (creamAsk h c)) = .signed k →
      exec (.creamUpdate t q) s = .next (finished opCreamUpdate c x ok v)) ∧
    (Accepted opDmaSubmit t q s x → contractGuard h fn [] = none → dmaCheck h c = none → admitAsk h (dmaAsk h c) = .signed k →
      exec (.dmaSubmit t q) s = .next (finished opDmaSubmit c x ok (setDma n (fun r => { r with queue := r.queue ++
        [({ owner := some (k.fn, k.id), deadline := k.blk.deadline.toNat, s0 := k.s0, src := leAt p 0x30 8, dst := leAt p 0x38 8, count := k.cost.amount, dflags := leAt p 0x40 4 } : DmaSet)] }) v))) ∧
    (Accepted opCheckSubmit t q s x → contractGuard h fn [] = none → checkCheck h c = none → contractGuard h fn (gatesNeeded .check n) = none → admitAsk h (checkAsk h c) = .signed k →
      exec (.checkSubmit t q) s = .next (finished opCheckSubmit c x ok (setCv n (fun r => { r with jobs := r.jobs ++
        [({ fn := k.fn, id := k.id, holm := k.holm, deadline := k.blk.deadline.toNat, s0 := k.s0, addr := leAt p 0x30 8, len := k.cost.amount, alg := leAt p 0x38 1 } : CvJob)] }) v))) ∧
    (Accepted opAudioQueue t q s x → contractGuard h fn [] = none → audioCheck h c = none → contractGuard h fn (gatesNeeded .audio n) = none → admitAsk h (audioAsk h c) = .signed k →
      exec (.audioQueue t q) s = .next (finished opAudioQueue c x ok (setStream n (fun r => { r with bufs := r.bufs ++
        [({ fn := k.fn, id := k.id, holm := k.holm, addr := leAt p 0x30 8, frames := (parseCost .audio p).amount, frameBytes := streamFrameBytes h n, s0 := k.s0,
            dur := ceilDiv ((parseCost .audio p).amount * 200000000) (streamRate h n) } : AudBuf)] }) v))) ∧
    (Accepted opHapticPlay t q s x → contractGuard h fn [] = none → playCheck h c = none → contractGuard h fn (gatesNeeded .haptic n) = none → admitAsk h (playAsk h c) = .signed k →
      let e := { slotEffect h n (leAt p 0x30 1) with fn := k.fn, id := k.id, holm := k.holm, release := k.blk.release.toNat, s0 := k.s0 }
      exec (.hapticPlay t q) s = .next (finished opHapticPlay c x ok (setHap n (fun r => { r with queue := effectInsert e r.queue }) v))) ∧
    (let hd := ctxHolder c
     let add (at_ id : Nat) (y : State) : State := setOut n (fun o => { o with commits := o.commits ++ [({ holder := hd, fn := fn, id := id, at_ := at_ } : PendCommit)] }) y
     let s' := pendApplied (add 0 0 h) n
     let a := { baseAsk c .commit h with latchOut := if tgOn h n then some n else none, latchNow := !tgOn h n,
                                         depOk := decide (depRate (add 0 0 h) ≤ 4800000000) && (!tgOn s' n || decide (pclk s' n ≤ 1200000000)) }
     ∀ w, Accepted opCommit t q s x → n < 8 → holdsAny h n hd = true → (pendOf h n hd).isNone = true → contractGuard h fn (gatesNeeded .commit n) = none →
       admitAsk h a = .signed k → configReason h s' n hd.holm = none → (timingChange h s' n && !(lockedFit h s' n && latchesFit (add k.s0 k.id h) n)) = false →
       demandRefusal h (add k.s0 k.id h) = none → growQueue n (max (queueBytes h n) (queueBytes s' n)) (add k.s0 k.id h) = some w →
       let u := sign k (setOut n (fun o => { o with commitAt := aset hd k.s0 o.commitAt }) w)
       exec (.commit t q) s = .next (finished opCommit c x (acceptedReply u k) u))

/-- A refused submission changes nothing (R72): where the admission test refuses, the reply carries the reason and its figures, and no contract is signed and no unit is given work. -/
def Obligations.RefusedSubmissionsChangeNothing : Prop :=
  ∀ (t : Tick) (q : Request) (s : State) (x : Session) (st : Status) (res er need avail : Nat),
    let c := ctxOf t q s x
    let h := handed t q s x
    let fn := portFn q.port
    let n := (parseBlock (payloadOf q.pkt)).target
    let no := refusedReply st res er need avail
    (Accepted opCreamUpdate t q s x → creamCheck h c = none → contractGuard h fn (creamGates h c) = none → admitAsk h (keepWork (creamAsk h c)) = .refused st res er need avail →
      exec (.creamUpdate t q) s = .next (finished opCreamUpdate c x no h)) ∧
    (Accepted opDmaSubmit t q s x → contractGuard h fn [] = none → dmaCheck h c = none → admitAsk h (dmaAsk h c) = .refused st res er need avail →
      exec (.dmaSubmit t q) s = .next (finished opDmaSubmit c x no h)) ∧
    (Accepted opCheckSubmit t q s x → contractGuard h fn [] = none → checkCheck h c = none → contractGuard h fn (gatesNeeded .check n) = none → admitAsk h (checkAsk h c) = .refused st res er need avail →
      exec (.checkSubmit t q) s = .next (finished opCheckSubmit c x no h)) ∧
    (Accepted opAudioQueue t q s x → contractGuard h fn [] = none → audioCheck h c = none → contractGuard h fn (gatesNeeded .audio n) = none → admitAsk h (audioAsk h c) = .refused st res er need avail →
      exec (.audioQueue t q) s = .next (finished opAudioQueue c x no h)) ∧
    (Accepted opHapticPlay t q s x → contractGuard h fn [] = none → playCheck h c = none → contractGuard h fn (gatesNeeded .haptic n) = none → admitAsk h (playAsk h c) = .refused st res er need avail →
      exec (.hapticPlay t q) s = .next (finished opHapticPlay c x no h)) ∧
    (∀ k : Kind, contractGuard h fn (gatesNeeded k 0) = some .clockLost ↔ clkLost h = true)

/-- The admission test (R72): a contract is signed only if its deadline is ahead and within 2,000,000,000 ticks, its function has fewer than 256 open contracts and the device fewer than 4,096, its
sections last at most 10,000 ticks, its window is not below the kind's smallest, and each of its densities fits what is free in its pool. -/
def Obligations.AdmissionTest : Prop :=
  ∀ (s : State) (a : AskFor) (k : Contract), admitAsk s a = .signed k →
    ∃ l0, lockStart s a = some l0 ∧ k.fn = a.fn ∧ k.holm = a.holm ∧ k.kind = a.kind ∧ k.t0 = s.gtb ∧ k.s0 = startOf s a l0 ∧ k.inst = 0 ∧ k.phase = .waiting ∧
      (s.gtb : Int) < deadline0 a l0 ∧ deadline0 a l0 ≤ (s.gtb : Int) + 2000000000 ∧ openOf s a.fn < 256 ∧ s.ledger.contracts.length < 4096 ∧ a.cost.sect ≤ 10000 ∧
      (a.minW : Int) ≤ deadline0 a l0 - (k.s0 : Int) ∧ a.depOk = true ∧ a.full = false ∧ (a.blk.cls = 0 → a.holm = true) ∧
      k.shd ≤ poolFree s (poolOf a.blk.cls a.fn) .shd ∧ k.drb ≤ poolFree s (poolOf a.blk.cls a.fn) .drb ∧ k.vat ≤ poolFree s (poolOf a.blk.cls a.fn) .vat

/-- No pool is overcommitted by signing (R63, R72): a pool whose use fits its capacity still fits it once a contract that the admission test has signed stands in the ledger. -/
def Obligations.SigningOvercommitsNoPool : Prop :=
  ∀ (s : State) (a : AskFor) (k : Contract) (p : Pool) (r : Rate), admitAsk s a = .signed k →
    poolUsed s p r ≤ poolCap s p r → poolUsed (sign k s) p r ≤ poolCap (sign k s) p r

/-- The pair lists and read lists (R114 to R116): a list whose instance exists, whose entries lie inside it and which no entry is refused for is applied, or read, entry by entry in order; a bad
count, a bad entry, a quiesced function (R203) and an entry of another owner are refused with nothing applied. -/
def Obligations.RegisterListsComplete : Prop :=
  ∀ (t : Tick) (q : Request) (s : State) (x : Session) (base size : Nat),
    let c := ctxOf t q s x
    let h := handed t q s x
    let p := payloadOf q.pkt
    let fn := portFn q.port
    let rq := ctxRequester c
    let count := leAt p 2 2
    let es (w : Bool) := listEntries w p count
    let shape (cls : Nat) (w : Bool) : Prop := 0 < count ∧ count ≤ 508 ∧ listInstance cls (leAt p 0 1) (leAt p 1 1) = .ok (base, size) ∧ badEntry size (es w) = none ∧ listRefusal h rq w base (es w) = none
    let applied (o : OpInfo) (cls : Nat) (c' : Instr) : Prop := ∀ u, Accepted o t q s x → fnQuiet h fn = false → shape cls true → listApply rq base (es true) (dropLatch rq h) = some u →
      exec c' s = .next (finished o c x (stDone []) u)
    let read (o : OpInfo) (cls : Nat) (c' : Instr) : Prop := Accepted o t q s x → shape cls false →
      exec c' s = .next (finished o c x (stDone (listRead rq base (es false) h).1) (listRead rq base (es false) h).2)
    let quieted (o : OpInfo) (c' : Instr) : Prop := Accepted o t q s x → fnQuiet h fn = true → exec c' s = .next (finished o c x (stOnly .functionQuiesced) h)
    let badCount (o : OpInfo) (c' : Instr) : Prop := Accepted o t q s x → fnQuiet h fn = false → count = 0 ∨ 508 < count → exec c' s = .next (finished o c x (stOff .paramInvalid 2) h)
    applied opDisplayWrite 3 (.displayWrite t q) ∧ applied opTouchWrite 5 (.touchWrite t q) ∧ applied opHapticWrite 6 (.hapticWrite t q) ∧ applied opAudioWrite 7 (.audioWrite t q) ∧
    read opDisplayRead 3 (.displayRead t q) ∧ read opTouchRead 5 (.touchRead t q) ∧ read opHapticRead 6 (.hapticRead t q) ∧ read opAudioRead 7 (.audioRead t q) ∧
    quieted opDisplayWrite (.displayWrite t q) ∧ quieted opTouchWrite (.touchWrite t q) ∧ quieted opHapticWrite (.hapticWrite t q) ∧ quieted opAudioWrite (.audioWrite t q) ∧
    badCount opDisplayWrite (.displayWrite t q) ∧ badCount opTouchWrite (.touchWrite t q) ∧ badCount opHapticWrite (.hapticWrite t q) ∧ badCount opAudioWrite (.audioWrite t q)

/-- The commands that read: OUTPUT_STATUS (Table 11.16), EVIDENCE_READ (R415), MEASURE_READ (R605), ISO_LOG_READ (R182), DUMP_READ (R609), CHECK_RESULT (R529), FAULT_STATUS (R437), POWER_STATUS
(R631): what each answers, what each writes to host memory, and that it changes nothing else but the mark of a dump read to its end. -/
def Obligations.ReadCommandsComplete : Prop :=
  ∀ (t : Tick) (q : Request) (s : State) (x : Session),
    let c := ctxOf t q s x
    let h := handed t q s x
    let p := payloadOf q.pkt
    let fn := portFn q.port
    (Accepted opOutputStatus t q s x → leAt p 0 1 < 8 → leAt p 1 3 = 0 →
      exec (.outputStatus t q) s = .next (finished opOutputStatus c x
        (stDone (le 4 (aget 0xFFFFFFFF (ctxHolder c) (outSt h (leAt p 0 1)).commitFrame) ++ le 8 (outSt h (leAt p 0 1)).lastLatch ++ le 1 (bit (!isPrompt h (leAt p 0 1))) ++
          le 1 (txSt h (leAt p 0 1)).state ++ le 2 0 ++ le 4 (if pclk h (leAt p 0 1) = 0 then 0 else framePeriod h (leAt p 0 1)))) h)) ∧
    (Accepted opEvidenceRead t q s x → leAt p 0 1 < 8 ∨ leAt p 0 1 = 0xFF → leAt p 1 3 = 0 → leAt p 0x14 4 % 64 = 0 →
      ∃ got : List (List Byte), got.length ≤ leAt p 0x14 4 / 64 ∧
        (∀ e ∈ got, (∃ j < 14336, e = rdVat h (evidenceAt j) 64) ∧ (leAt p 0 1 = 0xFF ∨ leAt e 0x10 1 = leAt p 0 1) ∧ leAt p 4 8 ≤ leAt e 0 8) ∧
        exec (.evidenceRead t q) s = .next (finished opEvidenceRead c x
          (stDone (le 4 got.length ++ le 8 (match got.getLast? with | some b => leAt b 0 8 | none => 0))) (wrIovas fn 8 (leAt p 0xC 8) got.flatten h))) ∧
    (Accepted opMeasureRead t q s x → leAt p 0 4 % 4 = 0 → leAt p 4 4 % 4 = 0 → leAt p 4 4 ≤ 4056 →
      exec (.measureRead t q) s = .next (finished opMeasureRead c x
        (stDone (le 4 (ramTotal h.boot.log) ++ ((ramBytes h.boot.log).drop (leAt p 0 4)).take (min (leAt p 4 4) (ramTotal h.boot.log - leAt p 0 4)))) h)) ∧
    (Accepted opIsoLogRead t q s x → leAt p 4 4 = 0 → leAt p 0x10 4 % 32 = 0 →
      let out := (entriesFrom h.iso (leAt p 0 4)).take (leAt p 0x10 4 / 32)
      ∃ next, exec (.isoLogRead t q) s = .next (finished opIsoLogRead c x (stDone (le 4 out.length ++ le 4 next)) (wrIovas fn 8 (leAt p 8 8) (out.flatMap IsoEntry.bytes) h)) ∧
        ∀ e, out.getLast? = some e → next = (e.index + 1) % 2 ^ 32) ∧
    (Accepted opDumpRead t q s x → leAt p 0 4 % 4 = 0 → leAt p 4 4 = 0 → leAt p 0x10 4 % 4 = 0 →
      let total := if h.boot.dump.present then h.boot.dump.len else 0
      let n := min (leAt p 0x10 4) (total - leAt p 0 4)
      let u := wrIovas fn 8 (leAt p 8 8) (rdVat h (0x3400000 + leAt p 0 4) n) h
      exec (.dumpRead t q) s = .next (finished opDumpRead c x (stDone (le 4 total ++ le 4 n))
        (if 0 < n ∧ leAt p 0 4 + n = total then setDump (fun d => { d with read := true }) u else u))) ∧
    (∀ r, Accepted opCheckResult t q s x → h.mv.results.reverse.find? (fun y => y.fn == fn && y.holm == x.holm && y.id == leAt p 0 4) = some r →
      exec (.checkResult t q) s = .next (finished opCheckResult c x (stDone (le 1 r.alg ++ le 3 0 ++ r.value)) h)) ∧
    (∀ f, Accepted opFaultStatus t q s x → faultOf h q.pkt.tag (leAt p 0 4) = some f →
      exec (.faultStatus t q) s = .next (finished opFaultStatus c x (stDone (le 4 f.injected ++ le 1 (bit f.armed) ++ le 3 0)) h)) ∧
    (Accepted opPowerStatus t q s x →
      exec (.powerStatus t q) s = .next (finished opPowerStatus c x
        (stDone (le 4 h.pwr.milliwatts ++ le 2 (fld h Reg.PWR_THERM Fld.PWR_THERM_TEMP) ++ le 1 (inrushUsed h) ++ le 1 h.pwr.queue.length)) h))

/-- Memory maps and audio streams: MEM_MAP adds one mapping at the address asked or chosen, its pages cleared (R235, R236); MEM_UNMAP of a range that mappings cover takes it away (R237);
STREAM_OPEN takes the lowest granted stream that is closed (R489, R490); STREAM_CLOSE closes it. -/
def Obligations.MappingAndStreamCommandsComplete : Prop :=
  ∀ (t : Tick) (q : Request) (s : State) (x : Session),
    let c := ctxOf t q s x
    let h := handed t q s x
    let p := payloadOf q.pkt
    let fn := portFn q.port
    let fl := leAt p 0x10 4
    let kind := natBits fl 3 2
    let pg := pageSize (fl.testBit 4)
    let len := leAt p 8 8
    (∀ va m rest, Accepted opMemMap t q s x → fnQuiet h fn = false → fl < 32 → leAt p 0x14 4 = 0 → fl % 4 ≠ 0 → kind ≠ 3 → (fl.testBit 4 = true → kind = 1) →
      0 < len → len % pg = 0 → leAt p 0 8 % pg = 0 → (if leAt p 0 8 = 0 then kind ≠ 0 ∧ chooseVa h fn len pg = some va else va = leAt p 0 8) →
      (if kind = 0 then va + len ≤ devSpace else devSpace ≤ va ∧ va + len ≤ 2 ^ 48) → mapped h fn va len = false → (kind = 0 → overlapsBar h va len = false) →
      newMapping h fn va len fl = some (m, rest) → (mapsOf h fn).length < 4096 → tablesFit h m = true →
      let z := m.ext.foldl (fun s e => zeroFill e.1 e.2 s) h
      exec (.memMap t q) s = .next (finished opMemMap c x (stDone (le 4 0 ++ le 8 va)) { z with mem := { z.mem with maps := insertMap m z.mem.maps, free := rest } })) ∧
    (Accepted opMemUnmap t q s x → fnQuiet h fn = false → leAt p 0 8 % 4096 = 0 → 0 < len → len % 4096 = 0 → coveredLen h fn (leAt p 0 8) len = len → splitsLarge h fn (leAt p 0 8) len = false →
      exec (.memUnmap t q) s = .next (finished opMemUnmap c x (stDone []) (unmapRange fn (leAt p 0 8) len (earlyFree fn (leAt p 0 8) len x.holm h)))) ∧
    (Accepted opMemUnmap t q s x → fnQuiet h fn = false → leAt p 0 8 % 4096 = 0 → 0 < len → len % 4096 = 0 → coveredLen h fn (leAt p 0 8) len ≠ len →
      exec (.memUnmap t q) s = .next (finished opMemUnmap c x (stOff .addressFault 0) h)) ∧
    (∀ a, Accepted opStreamOpen t q s x → fnQuiet h fn = false → 0 < leAt p 0 1 → leAt p 0 1 ≤ 8 → leAt p 1 1 ≤ 3 → leAt p 2 2 = 0 → 8000 ≤ leAt p 4 4 → leAt p 4 4 ≤ 192000 →
      (List.range 32).find? (fun a => holderOf h (obj 6 a) == some c.holder && !streamIsOpen h a) = some a →
      streamDemand (leAt p 0 1) ≤ poolFree h (holderPool c.holder) .drb → gateOn h 6 = true →
      ∃ u, exec (.streamOpen t q) s = .next (finished opStreamOpen c x (stateReply a) u) ∧
        rd u (Reg.AUD_Ss_RATE a) = BitVec.ofNat 32 (leAt p 4 4) ∧ streamOf u a = {} ∧
        u = { h with regs := u.regs, aud := u.aud }) ∧
    (Accepted opStreamClose t q s x → leAt p 0 1 ≤ 31 → leAt p 1 3 = 0 → streamIsOpen h (leAt p 0 1) = true → holderOf h (obj 6 (leAt p 0 1)) = some c.holder →
      exec (.streamClose t q) s = .next (finished opStreamClose c x (stDone []) (streamClose (leAt p 0 1) h)))

/-- Functions (chapter 6): FN_CREATE builds an ACTIVE function in the slot asked or the lowest absent one (R199, R200); FN_QUIESCE is held until the function is quiet, and answered at once where it is
(R204, R211); FN_RESUME, FN_RESET, FN_REMOVE and FN_SAVE ask for their states, FUNCTION_BUSY otherwise (R206 to R212); FN_RESTORE builds a QUIESCED function from an image (R214). -/
def Obligations.FunctionCommandsComplete : Prop :=
  ∀ (t : Tick) (q : Request) (s : State) (x : Session),
    let c := ctxOf t q s x
    let h := handed t q s x
    let p := payloadOf q.pkt
    let fn := portFn q.port
    let f := leAt p 0 1
    let a := parseFnAsk p
    let st := (fnRec h f).state
    (∀ slot, Accepted opFnCreate t q s x → leAt p 0xE 2 = 0 → fnAskCheck h c a = none → slotFor h a.vf = some slot →
      exec (.fnCreate t q) s = .next (finished opFnCreate c x (stDone (le 1 (4 + slot) ++ le 3 0)) (buildFn fn slot .active (ctxRequester c) a h))) ∧
    (Accepted opFnQuiesce t q s x → fnTarget h c = none → st = .active →
      exec (.fnQuiesce t q) s = .next (inProgress opFnQuiesce c (setFn f (fun y => { y with waiters := y.waiters ++ [q.port] }) (quiesce f h)))) ∧
    (Accepted opFnQuiesce t q s x → fnTarget h c = none → st = .quiesced → exec (.fnQuiesce t q) s = .next (finished opFnQuiesce c x (stDone []) h)) ∧
    (Accepted opFnQuiesce t q s x → fnTarget h c = none → st = .resetting → exec (.fnQuiesce t q) s = .next (finished opFnQuiesce c x (stOnly .functionBusy) h)) ∧
    (Accepted opFnResume t q s x → fnTarget h c = none → st = .quiesced → exec (.fnResume t q) s = .next (finished opFnResume c x (stDone []) (setFn f (fun y => { y with state := .active }) h))) ∧
    (Accepted opFnResume t q s x → fnTarget h c = none → (st = .quiescing ∨ st = .resetting ∨ st = .saving) → exec (.fnResume t q) s = .next (finished opFnResume c x (stOnly .functionBusy) h)) ∧
    (Accepted opFnReset t q s x → fnTarget h c = none → st = .quiesced → exec (.fnReset t q) s = .next (finished opFnReset c x (stDone []) (resetNow f h))) ∧
    (Accepted opFnReset t q s x → fnTarget h c = none → st ≠ .quiesced → exec (.fnReset t q) s = .next (finished opFnReset c x (stOnly .functionBusy) h)) ∧
    (Accepted opFnRemove t q s x → fnTarget h c = none → st = .quiesced → exec (.fnRemove t q) s = .next (finished opFnRemove c x (stDone []) (removeFn f fn h))) ∧
    (Accepted opFnRemove t q s x → fnTarget h c = none → st ≠ .quiesced → exec (.fnRemove t q) s = .next (finished opFnRemove c x (stOnly .functionBusy) h)) ∧
    (Accepted opFnSave t q s x → fnTarget h c = none → st = .quiesced → leAt p 0xC 4 = 0 → exec (.fnSave t q) s = .next (finished opFnSave c x (stDone (le 4 (imageLen h f))) h)) ∧
    (Accepted opFnSave t q s x → fnTarget h c = none → st = .quiesced → leAt p 0xC 4 ≠ 0 → imageLen h f ≤ leAt p 0xC 4 →
      exec (.fnSave t q) s = .next (inProgress opFnSave c
        (setFn f (fun y => { y with state := .saving, waiters := [q.port], saveDest := leAt p 4 8, saveLen := leAt p 0xC 4, saveAt := h.gtb }) h))) ∧
    (∀ body slot u, Accepted opFnRestore t q s x → leAt p 2 2 = 0 →
      let img := rdIovas h fn (leAt p 4 8) (leAt p 0xC 4)
      let v := noteFault fn 8 false (leAt p 4 8) (leAt p 0xC 4) h
      let b := imageAsk (leAt p 0 1) (leAt p 1 1) img
      ctxPoison v (some fn) (leAt p 4 8) (leAt p 0xC 4) = false → openImage v img (leAt p 0xC 4) = some body → fnAskCheck v c b = none → slotFor v b.vf = some slot →
      restoreParts (4 + slot) (sectionsOf body.length body) (buildFn fn slot .quiesced (ctxRequester c) b v) = some u →
      exec (.fnRestore t q) s = .next (finished opFnRestore c x (stDone (le 1 (4 + slot) ++ le 3 0)) u))

/-- Power and clocks (chapter 19): a gate request on an idle gate without active children drains it (R547), a wake request on an ON gate answers ON, on a Power gate that is OFF it queues the wake
(R549); CLOCK_SET of the shader clock is held until the source switches, and refused below what is admitted (R543); POWER_STATE enters and leaves standby (R563). -/
def Obligations.PowerCommandsComplete : Prop :=
  ∀ (t : Tick) (q : Request) (s : State) (x : Session),
    let c := ctxOf t q s x
    let h := handed t q s x
    let p := payloadOf q.pkt
    let g := leAt p 0 2
    let known := (gateKind g = some .power ∨ gateKind g = some .clock) ∧ leAt p 3 1 = 0
    (Accepted opBlockPower t q s x → known → leAt p 2 1 = 0 → gateRefusal h c g = none → (∀ y ∈ gateChildren g, gateState h y = .off) → gateState (leaveGate g (reqMember c) h) g = .on →
      exec (.blockPowerGate t q) s = .next (finished opBlockPower c x (stateReply 2) (drainGate g [reqAsker c] (leaveGate g (reqMember c) h)))) ∧
    (Accepted opBlockPower t q s x → known → leAt p 2 1 = 0 → gateRefusal h c g = none → (∀ y ∈ gateChildren g, gateState h y = .off) → gateState (leaveGate g (reqMember c) h) g = .off →
      exec (.blockPowerGate t q) s = .next (finished opBlockPower c x (stateReply 0) (leaveGate g (reqMember c) h))) ∧
    (Accepted opBlockPower t q s x → known → leAt p 2 1 = 0 → gateRefusal h c g = none → (∃ y ∈ gateChildren g, gateState h y ≠ .off) →
      exec (.blockPowerGate t q) s = .next (finished opBlockPower c x (stOnly .resourceHeld) h)) ∧
    (Accepted opBlockPower t q s x → known → leAt p 2 1 = 1 → clkLost h = false → (if holmOwned h (obj 9 g) then x.holm = true else granteeOf h (obj 9 g) = some (portFn q.port)) →
      standbyNeeds h g = false → gateState (joinGate g (reqMember c) h) g = .on →
      exec (.blockPowerWake t q) s = .next (finished opBlockPower c x (stateReply 1) (joinGate g (reqMember c) h))) ∧
    (Accepted opBlockPower t q s x → known → leAt p 2 1 = 1 → gateKind g = some .power → clkLost h = false →
      (if holmOwned h (obj 9 g) then x.holm = true else granteeOf h (obj 9 g) = some (portFn q.port)) → standbyNeeds h g = false → gateState (joinGate g (reqMember c) h) g = .off →
      exec (.blockPowerWake t q) s = .next (finished opBlockPower c x (stateReply 3) (wakeOff g x.holm (stampOf t q s) [reqAsker c] (joinGate g (reqMember c) h)))) ∧
    (Accepted opClockSet t q s x → clkLost h = false → leAt p 0 1 = 2 → leAt p 1 3 = 0 → leAt p 4 4 % 25000 = 0 → 700000 ≤ leAt p 4 4 → leAt p 4 4 ≤ 1400000 → admittedKhz h ≤ leAt p 4 4 →
      gateState h 2 ≠ .off → exec (.clockSet t q) s = .next (inProgress opClockSet c (setPwr (fun y => { y with shdNext := y.shdNext ++ [leAt p 4 4] }) h))) ∧
    (Accepted opClockSet t q s x → clkLost h = false → leAt p 0 1 = 2 → leAt p 1 3 = 0 → leAt p 4 4 % 25000 = 0 → 700000 ≤ leAt p 4 4 → leAt p 4 4 ≤ 1400000 → leAt p 4 4 < admittedKhz h →
      exec (.clockSet t q) s = .next (finished opClockSet c x (stOnly .resourceHeld) h)) ∧
    (Accepted opPowerState t q s x → clkLost h = false → leAt p 0 1 = 1 → leAt p 1 3 = 0 → pwrMode h = 0 → standbyBusy h = false →
      exec (.powerStateStandby t q) s = .next (inProgress opPowerState c (setPwr (fun y => { y with enterWaiters := [q.port] }) (enterStandby h)))) ∧
    (Accepted opPowerState t q s x → clkLost h = false → leAt p 0 1 = 1 → leAt p 1 3 = 0 → pwrMode h = 0 → standbyBusy h = true →
      exec (.powerStateStandby t q) s = .next (finished opPowerState c x (stOnly .resourceHeld) h)) ∧
    (Accepted opPowerState t q s x → clkLost h = false → leAt p 0 1 = 0 → leAt p 1 3 = 0 → pwrMode h = 1 →
      exec (.powerStateRun t q) s = .next (inProgress opPowerState c (leaveStandby false (setPwr (fun y => { y with leaveWaiters := y.leaveWaiters ++ [q.port] }) h))))

/-- Firmware, laboratory and calibration commands: FW_WRITE erases each sector once and programs the bytes (R598), FW_ACTIVATE of another boot slot writes a trial record and asks for a reset (R599);
SELFTEST signs its raster half and queues its traversal half (R318); FAULT_ARM arms one fault of at most 16 and notes it (R437, R177), FAULT_DISARM disarms it; TOUCH_CALIBRATE and HAPTIC_CALIBRATE
start a calibration and are held (R455, R464). -/
def Obligations.FirmwareAndCalibrationCommandsComplete : Prop :=
  ∀ (t : Tick) (q : Request) (s : State) (x : Session) (flashOk : Bool),
    let c := ctxOf t q s x
    let h := handed t q s x
    let p := payloadOf q.pkt
    let fn := portFn q.port
    let slot := leAt p 0 1
    let area := flashArea slot
    let off := leAt p 4 4
    let len := leAt p 8 4
    let z := eraseSize slot
    let sectors := (List.range ((area.1 + off + len - 1) / z - (area.1 + off) / z + 1)).map (fun i => ((area.1 + off) / z + i) * z)
    (Accepted opFwWrite t q s x → slot ≤ 3 → leAt p 1 3 = 0 → off % 4 = 0 → len % 4 = 0 → 4 ≤ len → len ≤ 4056 → off + len ≤ area.2 → slot ≠ h.boot.slot →
      exec (.fwWrite t q true) s = .next (finished opFwWrite c x (stDone []) (flashProgram (area.1 + off) (slice p 0xC len) (sectors.foldl (eraseOnce z) h)))) ∧
    (Accepted opFwWrite t q s x → slot ≤ 3 → leAt p 1 3 = 0 → off % 4 = 0 → len % 4 = 0 → 4 ≤ len → len ≤ 4056 → off + len ≤ area.2 → slot = h.boot.slot →
      exec (.fwWrite t q flashOk) s = .next (finished opFwWrite c x (stOnly .resourceHeld) h)) ∧
    (∀ o, Accepted opFwActivate t q s x → slot < 2 → leAt p 1 3 = 0 → verified h slot = some o → objectDigest o = slice p 4 32 → slot ≠ h.boot.slot →
      let e := setBoot (fun b => { b with erased := b.erased.filter (fun y => decide (y < area.1) || decide (area.1 + area.2 ≤ y)) }) h
      exec (.fwActivate t q true) s = .next (finished opFwActivate c x (stDone [])
        (setBoot (fun b => { b with resetPending := some e.gtb }) (measure 0x0012 0 (le 1 slot) (objectDigest o) (writeRecord true slot true 2 (objectDigest o) e))))) ∧
    (Accepted opFwActivate t q s x → slot ≤ 3 → leAt p 1 3 = 0 → (∀ o, verified h slot = some o → objectDigest o ≠ slice p 4 32) →
      exec (.fwActivate t q flashOk) s = .next (finished opFwActivate c x (stOnly .imageRejected) h)) ∧
    (∀ k, Accepted opSelftest t q s x → leAt p 0 1 = 0 → leAt p 1 3 = 0 → contractGuard h fn [2] = none → admitAsk h (testAsk h fn) = .signed k →
      let v := sign k h
      exec (.selftest t q) s = .next (inProgress opSelftest c (queueRender { kind := 2, output := 0, regions := 0, owner := none, pixels := 65536, steps := 24 }
        { v with trv := { v.trv with tests := v.trv.tests ++ [{ port := some q.port, began := v.gtb, raster := some (fn, k.id) }] } }))) ∧
    (Accepted opFaultArm t q s x → faultCheck h p = none → (h.lnk.faults.filter (fun f => f.armed)).length < 16 →
      let f : FaultRec := { id := h.lnk.nextFault, tag := q.pkt.tag, target := leAt p 0 1, inst := leAt p 1 1, dir := leAt p 2 1, fault := leAt p 3 1, mode := leAt p 4 1, amount := leAt p 8 4,
                            tile := leAt p 0xC 4, left := if leAt p 4 1 = 0 then leAt p 8 4 else 0 }
      exec (.faultArm t q) s = .next (finished opFaultArm c x (stDone (le 4 h.lnk.nextFault))
        (isoLog 0x43 fn 8 (2 * bit x.holm) 0 0xFFFF 0 (setLnk (fun l => { l with faults := l.faults ++ [f], nextFault := h.lnk.nextFault + 1 }) h)))) ∧
    (∀ f, Accepted opFaultDisarm t q s x → leAt p 0 4 ≠ 0xFFFFFFFF → faultOf h q.pkt.tag (leAt p 0 4) = some f →
      exec (.faultDisarm t q) s = .next (finished opFaultDisarm c x (stOnly .done) (disarm (fun y => y.id == f.id) h))) ∧
    (let k := leAt p 0 1
     Accepted opTouchCalibrate t q s x → k < 8 → sensorOn h k = true → leAt p 1 1 ≤ 1 → leAt p 2 2 = 0 → (tsOf h k).contacts = [] → tState h k = 2 → (tsOf h k).cal = none →
      exec (.touchCalibrate t q) s = .next (inProgress opTouchCalibrate c
        (setTState k 5 (setTs k (fun r => { r with cal := some { ports := [q.port], store := leAt p 1 1 == 1 }, cands := [] }) h)))) ∧
    (let n := leAt p 0 1
     Accepted opHapticCalibrate t q s x → leAt p 1 3 = 0 → n ≤ 15 → holdsTarget h c (obj 7 n) = true → gateOn h (0x58 + n) = true → hapOn h n = true → hapState h n ≠ 5 →
       (hapOf h n).cal = none → (hapOf h n).queue = [] → (hapOf h n).drive = none → (hapOf h n).brake = none →
       exec (.hapticCalibrate t q) s = .next (inProgress opHapticCalibrate c (setHapState n 1 (setHap n (fun r => { r with cal := some (some q.port, h.gtb) }) h))))

/-! ### Events of sessions, rings, the SPI port and contracts -/

/-- The events of rings and sessions: a pending reset of a disabled, idle ring zeroes it and a bus error while a slot is read stops
the ring (R110); a lock ends (R128); a PENDING session's slot is freed 40,000,000 ticks after its opening (R124); an idle or aged OPEN session expires, and its faults are disarmed (R132, R136); an
EXPIRED tag is released 12,000,000,000 ticks after the session expired (R135). A management stall (R40, R85) holds the idle windows: its end moves every OPEN session's window on by the time it lasted
(R133), and nothing else of any session. -/
def Obligations.SessionEventsComplete : Prop :=
  ∀ (t : Tick) (s : State),
    let h := advance t s
    (∀ (fn : Fn) (holm : Bool), portExists (.ring fn holm) = true →
      let r := ringRec h fn.val holm
      (r.resetPending = true → r.busy = none → r.enable = false →
        exec (.ringResetTakesEffect t fn holm) s = .next (setRing fn.val holm (fun r => { r with pi := 0, ci := 0, ri := 0, stamps := [], resetPending := false }) h)) ∧
      (r.enable = true → r.busy = none → r.ci ≠ r.pi → fnFetches h fn.val = true →
        exec (.ringFetchError t fn holm) s = .next (setRing fn.val holm (fun r => { r with fetchErr := true, enable := false }) h)) ∧
      (r.enable = false → exec (.ringFetchError t fn holm) s = .next h)) ∧
    (∀ (port : Port) (b e : Tick), portExists port = true → (tget {} h.gcp.auth (portKey port)).lock = some (b, e) → e ≤ h.gtb →
      exec (.authLockEnd t port) s = .next { h with gcp := { h.gcp with auth := tput {} h.gcp.auth (portKey port) { tget {} h.gcp.auth (portKey port) with lock := none } } }) ∧
    (∀ (tag : Word) (x : Session), sessionOf h tag = some x →
      (x.state = .pending → x.tOpen + 40000000 ≤ h.gtb → exec (.pendingLimit t tag) s = .next (freeSession tag h)) ∧
      (x.state = .expired → x.expiredAt + 12000000000 ≤ h.gtb → exec (.expiredTagRelease t tag) s = .next (freeSession tag h)) ∧
      (x.state = .opened → x.r + idleLimit x ≤ h.gtb → rungBefore h x.port (x.r + idleLimit x) = false → h.gcp.stalled = false → portBusy h x.port = none →
        (x.holm = true → x.r + idleLimit x ≤ x.tOpen + lifetime) →
        exec (.idleOrLifetimeExpiry t tag) s = .next (expireSession tag (x.r + idleLimit x) h)) ∧
      (x.state = .opened → x.holm = true → x.tOpen + lifetime < x.r + idleLimit x → x.tOpen + lifetime ≤ h.gtb → rungBefore h x.port (x.tOpen + lifetime) = false →
        exec (.idleOrLifetimeExpiry t tag) s = .next (expireSession tag (x.tOpen + lifetime) h)) ∧
      (x.state = .opened → h.gtb < x.r + idleLimit x → h.gtb < x.tOpen + lifetime → exec (.idleOrLifetimeExpiry t tag) s = .next h)) ∧
    (h.gcp.stalled = false → exec (.managementStall t) s = .next { h with gcp := { h.gcp with stalled := true, stallSince := h.gtb } }) ∧
    (h.gcp.stalled = true → exec (.managementStall t) s = .next h) ∧
    (h.gcp.stalled = true → ∃ u, exec (.mgmtStallResume t) s = .next u ∧ u.gcp.stalled = false ∧ u.gcp.sessions.length = h.gcp.sessions.length ∧
      (∀ (i : Nat) (x : Session), h.gcp.sessions[i]? = some x → u.gcp.sessions[i]? = some (if x.state = .opened then { x with r := x.r + (h.gtb - h.gcp.stallSince) } else x)) ∧
      u = { h with gcp := { h.gcp with stalled := false, sessions := u.gcp.sessions } }) ∧
    (h.gcp.stalled = false → exec (.mgmtStallResume t) s = .next h)

/-- The SPI management port (R111, R112): one packet in flight; a write while one is held or its reply unread sets OVERRUN, one whose length does not fit its own header sets FRAMING; a read of STATUS
shows the four bits and clears those two; a read of the reply frees the port. -/
def Obligations.SpiPortEventsComplete : Prop :=
  ∀ (t : Tick) (s : State) (length : BitVec 16) (bytes : List Byte),
    let h := advance t s
    let r := h.gcp.spi
    (r.busy = true ∨ r.replyReady = true → exec (.spiWritePacket t length bytes) s = .next (setSpi (fun r => { r with overrun := true }) h)) ∧
    (r.busy = false → r.replyReady = false → spiFramed length.toNat bytes = true →
      exec (.spiWritePacket t length bytes) s = .next (setSpi (fun r => { r with busy := true, held := bytes.take length.toNat, heldStamp := h.gtb }) h)) ∧
    (r.busy = false → r.replyReady = false → spiFramed length.toNat bytes = false → exec (.spiWritePacket t length bytes) s = .next (setSpi (fun r => { r with framing := true }) h)) ∧
    (∃ u, exec (.spiReadStatus t) s = .next u ∧ u.busData.getLsbD 0 = r.replyReady ∧ u.busData.getLsbD 1 = r.busy ∧ u.busData.getLsbD 2 = r.overrun ∧ u.busData.getLsbD 3 = r.framing ∧
      u = { h with busData := u.busData, gcp := { h.gcp with spi := { r with overrun := false, framing := false } } }) ∧
    (∃ u, exec (.spiReadReply t) s = .next u ∧ u.gcp.spi.replyReady = false ∧ u.gcp.spi.reply = r.reply ∧
      u = { h with busData := u.busData, gcp := { h.gcp with spi := { r with replyReady := false } } })

/-- The life of a contract's instance (R75 to R80): at its release the work begins; past its deadline with its work undone it is breached, with the reason and the function charged that R77 gives; a
section that runs past its bound is breached SECTION_OVERRUN (R79); probation ends 2,000,000,000 ticks after the last breach charged (R74). -/
def Obligations.ContractEventsComplete : Prop :=
  ∀ (t : Tick) (s : State) (fn : Fn),
    let h := advance t s
    (∀ (id : Word) (c : Contract), contractOf h fn.val id.toNat = some c →
      (released h c = true → exec (.instanceRelease t fn id) s = .next (beginWork c h)) ∧
      (released h c = false → exec (.instanceRelease t fn id) s = .next h) ∧
      (h.gtb < (instWindow h c).2 → exec (.contractDeadline t fn id) s = .next h) ∧
      ((instWindow h c).2 ≤ h.gtb → (c.blk.locked = true → c.latches ≠ []) → (c.kind = .cream → creamPending h c = false) → (fnRec h c.fn).state ≠ .quiescing →
        exec (.contractDeadline t fn id) s = .next (breach c (missReason h c).1 (missReason h c).2 0 h))) ∧
    (∀ id : Word, contractOf h fn.val id.toNat = none → exec (.contractDeadline t fn id) s = .next h ∧ exec (.instanceRelease t fn id) s = .next h) ∧
    (let a := tget {} h.ledger.acct fn.val
     (a.probation = true → a.lastBreach + 2000000000 ≤ h.gtb →
       exec (.probationEnd t fn) s = .next { h with ledger := { h.ledger with acct := tput {} h.ledger.acct fn.val { a with probation := false } } }) ∧
     (h.gtb < a.lastBreach + 2000000000 → exec (.probationEnd t fn) s = .next h)) ∧
    (∀ (core : BitVec 4) (entered : Tick) (x : SCtx) (j : Job) (k : Contract) (e : Tick),
      let a := accrue h
      (coreRec a core.toNat).ctx = some x → jobOf a x.fn x.id x.inst = some j → j.sect ≠ 0 → x.sectAt = some e →
      (a.gtb < e + j.sect → exec (.sectionBound t core entered) s = .next a) ∧
      (e + j.sect ≤ a.gtb →
        let y := setCore core.toNat { coreRec a core.toNat with ctx := some { x with sectAt := none } } a
        let z := wrF Reg.GPX_PRE_WORST Fld.GPX_PRE_WORST_SECTIONS_ENDED ((fld y Reg.GPX_PRE_WORST Fld.GPX_PRE_WORST_SECTIONS_ENDED + 1) % 65536) y
        openInst z x.fn x.id x.inst = some k →
        exec (.sectionBound t core entered) s = .next (breach k .sectionOverrun k.fn 0 z)))

/-- A breach charged to a function (R87, R88) leaves one record for its queue, counts, and moves the contract on to its next instance: the record's bytes carry the type 0x0202, the contract's ID and the instance. -/
def Obligations.BreachesAreRecorded : Prop :=
  ∀ (c : Contract) (r : Reason) (charged stamp : Nat) (s : State), charged ≠ 0xFF → (fnRec s (recordQueue c).1).state ≠ .absent →
    ∃ rec : List Byte, slice rec 0 2 = le 2 0x0202 ∧
      breach c r charged stamp s = nextInstance c (markSuccessors c charged (countBreach c.fn charged
        { s with hif := { s.hif with posts := s.hif.posts ++ [(eqKey (recordQueue c).1 (recordQueue c).2, slice rec 0 32)] } }))

/-! ### The ISO block: ownership changes, the log, the worlds of the control cores, debug; event queues -/

/-- The ISO log (R179 to R182): while the firmware runs, a drain moves every entry of the FIFO to the ring, oldest first, leaves the FIFO empty and the ring at 4,096 entries at most, the newest kept;
a notice that is due is posted to the Holm queue of ISO_CTRL.NOTICE_PF and starts the next count; a stall holds both. -/
def Obligations.IsoLogDrainsInOrder : Prop :=
  ∀ (t : Tick) (s : State),
    let h := advance t s
    (mgmtUp h = true → ∃ u, exec (.isoLogDrain t) s = .next u ∧ u.iso.fifo = [] ∧ u.iso.nextIndex = h.iso.nextIndex ∧ u.iso.lost = h.iso.lost ∧ u.regs = h.regs ∧ u.gcp = h.gcp ∧
      (h.iso.ring.length ≤ 4096 → u.iso.ring = (h.iso.ring ++ h.iso.fifo).drop (h.iso.ring.length + h.iso.fifo.length - 4096)) ∧
      (∀ e, h.iso.fifo.getLast? = some e → u.iso.ringNext = (e.index + 1) % 2 ^ 32)) ∧
    (mgmtUp h = false → exec (.isoLogDrain t) s = .next h ∧ exec (.isoNotice t) s = .next h) ∧
    (noticeDue h = true → ∃ rec : List Byte, slice rec 0 2 = le 2 0x0901 ∧
      exec (.isoNotice t) s = .next (setIso (fun i => { i with noticeFirst := i.ringNext, noticeStamp := none, lastNotice := some h.gtb }) (post (fld h Reg.ISO_CTRL Fld.ISO_CTRL_NOTICE_PF) true rec h))) ∧
    (newEntries h.iso = 0 → exec (.isoNotice t) s = .next h)

/-- The gateway (R169): from Mainland, GATE n to a landing whose first instruction is LAND is the only way into Holm, and branches to landing n; to any other number it raises a Mainland exception and
logs GATE_FAULT; any other transfer raises a Mainland exception and logs FETCH_CROSS; GATE in Holm traps to Holm. -/
def Obligations.TheGatewayIsTheOnlyWayIn : Prop :=
  ∀ (t : Tick) (s : State) (n : BitVec 32) (pc : Word) (regs : List Word),
    let h := advance t s
    let c := h.iso.cores
    let marked := c.landings.contains n.toNat && c.landMarks.contains n.toNat
    (c.world = .mainland → marked = true →
      exec (.gate t n pc regs) s = .next (setCores (fun c => { c with world := .holm, gate := some (pc, regs), landing := some n.toNat, holmSince := h.gtb, byInterrupt := false }) h)) ∧
    (c.world = .mainland → marked = false →
      exec (.gate t n pc regs) s = .next (setCores (fun c => { c with trap := 1 }) (isoLog 0x05 0xFC 6 0 n.toNat 0xFFFF 0 h))) ∧
    (c.world = .mainland → exec (.fetchCross t) s = .next (setCores (fun c => { c with trap := 2 }) (isoLog 0x06 0xFC 6 0 0 0xFFFF 0 h))) ∧
    (c.world = .holm → exec (.gate t n pc regs) s = .next (setCores (fun c => { c with trap := 3 }) h)) ∧
    (∀ (kind req src flags addr obj status : Nat) (a : State), (isoLog kind req src flags addr obj status a).iso.cores = a.iso.cores)

/-- The returns to Mainland (R166, R170): GATE_RET restores the general registers that GATE found but for the two of the result; a Holm interrupt saves the Mainland registers and status, and
the return restores them exactly; a halt request that was deferred takes effect at the return (R176). -/
def Obligations.MainlandSeesHolmOnlyAsElapsedTime : Prop :=
  ∀ (t : Tick) (s : State),
    let h := advance t s
    let c := h.iso.cores
    (∀ (g1 g2 pc : Word) (regs : List Word), c.gate = some (pc, regs) → c.world = .holm → c.byInterrupt = false →
      ∃ u, exec (.gateRet t g1 g2) s = .next u ∧ u.iso.cores.world = .mainland ∧ u.iso.cores.pc = pc ∧ u.iso.cores.regs = g1 :: g2 :: regs.drop 2 ∧ u.iso.cores.gate = none ∧
        u.iso.fifo = h.iso.fifo ∧ u.gcp = h.gcp ∧ u.mem = h.mem) ∧
    (∀ (pc st : Word) (regs : List Word) (x : Nat × Nat) (rest : List (Nat × Nat)), takeIrq c.pendingHolm = some (x, rest) → c.world = .mainland →
      exec (.holmInterrupt t pc st regs) s =
        .next (setCores (fun c => { c with world := .holm, byInterrupt := true, saved := some (pc, st, regs), pendingHolm := rest, holmSince := h.gtb }) h)) ∧
    (∀ (pc st : Word) (regs : List Word), takeIrq c.pendingHolm = none → exec (.holmInterrupt t pc st regs) s = .next h) ∧
    (∀ (pc st : Word) (regs : List Word), c.saved = some (pc, st, regs) → c.world = .holm → c.byInterrupt = true →
      ∃ u, exec (.mainlandReturn t) s = .next u ∧ u.iso.cores.world = .mainland ∧ u.iso.cores.pc = pc ∧ u.iso.cores.status = st ∧ u.iso.cores.regs = regs ∧ u.iso.cores.saved = none ∧
        u.iso.cores.gate = c.gate ∧ u.gcp = h.gcp ∧ u.mem = h.mem ∧
        (flg h Reg.DBG_STAT Fld.DBG_STAT_DEFERRED = false → u.regs = h.regs)) ∧
    (c.world = .mainland → exec (.mainlandReturn t) s = .next h)

/-- Debug (R174, R175): IDCODE and BYPASS always execute; every other request proceeds only if its enable stands (a steer enable only beside its watch enable) and it touches no secret; otherwise it is
refused: DEBUG_DENIED is logged, DBG_DENY shows the enable it needed, and nothing else changes. A lockstep mismatch halts the firmware and takes the fatal dump (R40, R607). -/
def Obligations.DebugIsCheckedAgainstTheEnables : Prop :=
  ∀ (t : Tick) (s : State) (code : BitVec 8) (first secret : Bool),
    let h := advance t s
    (∀ i : ScanInstr, i = .idcode ∨ i = .bypass → exec (.debugAccess t (.scan i secret) code first) s = .next (dbgProceed (.scan i secret) first h)) ∧
    (∀ (r : DebugReq) (n : Nat), dbgNeed r = some n → dbgEnabled h n = true → dbgSecret r = false →
      exec (.debugAccess t r code first) s = .next (dbgAct r (dbgProceed r first h))) ∧
    (∀ (r : DebugReq) (n : Nat), dbgNeed r = some n → dbgEnabled h n = false ∨ dbgSecret r = true →
      ∃ u w, exec (.debugAccess t r code first) s = .next u ∧ u = wr Reg.DBG_DENY w (isoLog 0x08 0xFD 7 0 0 0xFFFF 0 h) ∧ getF w Fld.DBG_DENY_LAST_NEED = 2 ^ n ∧
        getB w Fld.DBG_DENY_SECRET = dbgSecret r) ∧
    (∀ (holm first : Bool), dbgEnabled h (2 * bit holm + 1) = true →
      exec (.debugHaltRequest t (if holm then .holm else .mainland) first) s = .next (dbgHalt holm (dbgProceed (.dap holm true false .halt) first h))) ∧
    (exec (.lockstepMismatch t) s = .next (hardwareDump 2 3 h) ∧ (hardwareDump 2 3 h).boot.running = false)

/-- Event records (R193 to R196): a record that waits for a queue with room is written at slot WI mod 2^(SIZE+6) and WI advances by one, the backlog first; a queue without room keeps up to 64 records in
its backlog, and a record beyond them is lost and counted. -/
def Obligations.EventRecordsWaitTheirTurn : Prop :=
  ∀ (t : Tick) (s : State) (fn : Fn) (holm : Bool) (r : List Byte) (rest : List (Nat × List Byte)),
    let h := advance t s
    let d := dueFault fn.val holm h
    let q := eqRec d fn.val holm
    let e : State := { d with hif := { d.hif with posts := rest } }
    (mgmtUp h = false → exec (.eventRecordPost t fn holm) s = .next h) ∧
    (∀ b bs, mgmtUp h = true → q.backlog = b :: bs → eqOpen q = true →
      exec (.eventRecordPost t fn holm) s = .next (setEq fn.val holm (fun q => { q with backlog := bs }) (eqWrite fn.val holm b d))) ∧
    (mgmtUp h = true → q.backlog = [] → takePost (eqKey fn.val holm) d.hif.posts = some (r, rest) → (fnRec e fn.val).state ≠ .absent → eqOpen q = true →
      exec (.eventRecordPost t fn holm) s = .next (eqWrite fn.val holm r e)) ∧
    (mgmtUp h = true → takePost (eqKey fn.val holm) d.hif.posts = some (r, rest) → (fnRec e fn.val).state ≠ .absent → eqOpen q = false → q.backlog.length < 64 →
      exec (.eventRecordPost t fn holm) s = .next (setEq fn.val holm (fun q => { q with backlog := q.backlog ++ [r] }) e)) ∧
    (mgmtUp h = true → takePost (eqKey fn.val holm) d.hif.posts = some (r, rest) → (fnRec e fn.val).state ≠ .absent → eqOpen q = false → 64 ≤ q.backlog.length →
      exec (.eventRecordPost t fn holm) s = .next (setEq fn.val holm (fun q => { q with lost := (q.lost + 1) % 65536, overflow := true }) e)) ∧
    (mgmtUp h = true → q.backlog = [] → takePost (eqKey fn.val holm) d.hif.posts = none → exec (.eventRecordPost t fn holm) s = .next d)

/-! ### Events of functions, host links and memory -/

/-- Functions and their host links (chapters 6 and 14): a quiescing function that has come to rest is QUIESCED and its waiting requests are answered (R203, R204); FN_SAVE writes its image to the
host (R212) or fails on poisoned data; a function-level reset, a clear of VF Enable and a port reset act on a present function only (R207, Table 6.6a); the end of a reset makes the function ACTIVE
(R207); a completion timeout counts, and stops a ring that was fetching (R433); a link-up records what was negotiated. -/
def Obligations.FunctionEventsComplete : Prop :=
  ∀ (t : Tick) (s : State) (fn : Fn),
    let h := advance t s
    let f := fnRec h fn.val
    let become (st : FnState) (u : State) : State := setFn fn.val (fun x => { x with state := st }) u
    (f.state = .quiescing → fnStill h fn.val = true → exec (.fnQuietReached t fn) s = .next (answerWaiters fn.val (stDone []) (become .quiesced h))) ∧
    (f.state ≠ .quiescing ∨ fnStill h fn.val = false → exec (.fnQuietReached t fn) s = .next h) ∧
    (f.state = .saving → savePoisoned h fn.val = true → exec (.fnSaveDone t fn) s = .next (answerWaiters fn.val (stOnly .eccUncorrectable) (become .quiesced h))) ∧
    (f.state = .saving → savePoisoned h fn.val = false →
      let img := (makeImage fn.val h).1
      exec (.fnSaveDone t fn) s = .next (answerWaiters fn.val (stDone (le 4 img.length)) (become .quiesced (wrIovas f.port 8 f.saveDest img (makeImage fn.val h).2)))) ∧
    (f.state = .absent → exec (.flr t fn) s = .next h) ∧
    (f.state ≠ .absent → exec (.flr t fn) s = .next (flr fn.val h)) ∧
    (f.state = .resetting → exec (.functionResetEnd t fn) s = .next (answerWaiters fn.val (stDone []) (become .active h))) ∧
    (f.state ≠ .resetting → exec (.functionResetEnd t fn) s = .next h) ∧
    (∀ (port : BitVec 2), (fnRec h port.toNat).state ≠ .absent →
      exec (.vfEnableClear t port) s = .next (resetVfs port.toNat (vfDisabled h port.toNat h)) ∧
      (∃ u v, exec (.portReset t port) s = .next (resetFn port.toNat id none (beginReset port.toNat (resetVfs port.toNat u))) ∧
        u.hif.numVfs = tput 0 h.hif.numVfs port.toNat 0 ∧ u.hif.bars = tput [] h.hif.bars port.toNat [] ∧ u.regs = (wr (Reg.LNK_PCIEp_STAT port.toNat) v
          (wrF Reg.RST_CAUSE Fld.RST_CAUSE_PORT (fld h Reg.RST_CAUSE Fld.RST_CAUSE_PORT ||| 2 ^ port.toNat) h)).regs ∧
        getB v Fld.LNK_PCIEp_STAT_LINK_UP = false ∧ getF v Fld.LNK_PCIEp_STAT_WIDTH = 0 ∧ getF v Fld.LNK_PCIEp_STAT_SPEED = 0 ∧ u.mem = h.mem ∧ u.gcp = h.gcp ∧ u.ledger = h.ledger)) ∧
    (∀ (port : BitVec 2), (fnRec h port.toNat).state = .absent → exec (.vfEnableClear t port) s = .next h ∧ exec (.portReset t port) s = .next h ∧
      ∀ w sp rv bars n e, exec (.pcieLinkUp t port w sp rv bars n e) s = .next h) ∧
    (∀ (port : BitVec 2) (width : BitVec 5) (speed : BitVec 3) (rv vfe : Bool) (bars : List (BitVec 64 × BitVec 40)) (n : BitVec 6), (fnRec h port.toNat).state ≠ .absent →
      ∃ u w, exec (.pcieLinkUp t port width speed rv bars n vfe) s = .next u ∧ u.regs = (wr (Reg.LNK_PCIEp_STAT port.toNat) w h).regs ∧
        getF w Fld.LNK_PCIEp_STAT_WIDTH = width.toNat ∧ getF w Fld.LNK_PCIEp_STAT_SPEED = speed.toNat ∧ getB w Fld.LNK_PCIEp_STAT_REVERSED = rv ∧ getB w Fld.LNK_PCIEp_STAT_LINK_UP = true ∧
        u.hif.vfEnable = tput false h.hif.vfEnable port.toNat vfe ∧ u.hif.numVfs = tput 0 h.hif.numVfs port.toNat n.toNat ∧ u.mem = h.mem ∧ u.gcp = h.gcp) ∧
    (∀ (source : BitVec 8) (holm : Bool),
      let c := setLnk (fun l => { l with timeouts := tmod 0 l.timeouts source.toNat (· + 1) }) h
      exec (.pcieCompletionTimeout t none source) s = .next c ∧
      (portExists (.ring fn holm) = true → ringOpen h fn.val holm = true →
        exec (.pcieCompletionTimeout t (some (fn, holm)) source) s = .next (setRing fn.val holm (fun r => { r with fetchErr := true, enable := false }) c)) ∧
      (portExists (.ring fn holm) = true → ringOpen h fn.val holm = false → exec (.pcieCompletionTimeout t (some (fn, holm)) source) s = .next c))

/-- Memory (chapters 7 and 13): the scrub counts each corrected Vat word and shows the last (R221); an uncorrectable error poisons its word, writes the note, and in the Vat counts it and shows the
address (R221, R228); freed pages are cleared before they return to the pool (R236); an access that no mapping serves is recorded, with no data moved (R230); leases of an output that is off retire
at once (R242); Holm's wake of the DRAM island is held and queued (R227); a scene slot takes the firmware's bytes. -/
def Obligations.MemoryEventsComplete : Prop :=
  ∀ (t : Tick) (s : State),
    let h := advance t s
    (exec (.vatScrub t []) s = .next h ∧
     ∀ (off : BitVec 26) (rest : List (BitVec 26)), exec (.vatScrub t (off :: rest)) s = .next (rest.foldl vatCorrected (wr Reg.VAT_ECC_LAST (BitVec.ofNat 32 (off.toNat / 8 * 8))
       (wrF Reg.VAT_ECC_CNT Fld.VAT_ECC_CNT_CORRECTED ((fld h Reg.VAT_ECC_CNT Fld.VAT_ECC_CNT_CORRECTED + 1) % 65536) h)))) ∧
    (∀ (dpa : BitVec 40) (data : BitVec 64) (item : Option (Fn × Word)),
      let a := dpa.toNat / 8 * 8
      let p := faultNote 0x45 2 a 0x0602 (poisonWord a (le 8 data.toNat) h)
      (dpaMapped h a = false → exec (.eccUncorrectable t dpa data item) s = .next h) ∧
      (dpaMapped h a = true → a < vatBase → exec (.eccUncorrectable t dpa data item) s = .next (lostItem item p)) ∧
      (dpaMapped h a = true → vatBase ≤ a → exec (.eccUncorrectable t dpa data item) s = .next (eccRegion (a - vatBase) item
        (wr Reg.VAT_ECC_LAST (BitVec.ofNat 32 (packF Fld.VAT_ECC_LAST_UE 1 + (a - vatBase)))
          (wrF Reg.VAT_ECC_CNT Fld.VAT_ECC_CNT_UNCORRECTED ((fld p Reg.VAT_ECC_CNT Fld.VAT_ECC_CNT_UNCORRECTED + 1) % 65536) p))))) ∧
    (∀ b n es, h.mem.clearing = (b, n) :: es →
      let z := zeroFill b n h
      exec (.pageZeroFillDone t) s = .next { z with mem := { z.mem with clearing := es, free := addExt b n z.mem.free } }) ∧
    (h.mem.clearing = [] → exec (.pageZeroFillDone t) s = .next h) ∧
    (∀ (fn : Fn) (source : BitVec 8) (iova : BitVec 48) (write perm : Bool), xlate h fn.val write iova.toNat = .fault perm →
      exec (.memFault t fn source iova write) s = .next (countFault fn.val fn.val source.toNat iova.toNat write perm h)) ∧
    (∀ n : BitVec 3, (tgOn h n.toNat = true → exec (.noFetchInFlight t n) s = .next h) ∧ (tgOn h n.toNat = false → exec (.noFetchInFlight t n) s = .next (leaseAll n.toNat h.gtb h))) ∧
    (flg h Reg.DRC_SR_STAT Fld.DRC_SR_STAT_IN_SR = false → exec (.selfRefreshWake t) s = .next h) ∧
    (flg h Reg.DRC_SR_STAT Fld.DRC_SR_STAT_IN_SR = true →
      let w := wrB Reg.DRC_SR_STAT Fld.DRC_SR_STAT_HELD true h
      exec (.selfRefreshWake t) s = .next (if gateState h 4 = .off then queueGate 4 true h.gtb [] w else w)) ∧
    (∀ (n : BitVec 3) (slot : Bool) (off : BitVec 18) (bs : List Byte), off.toNat + bs.length ≤ 0x30000 →
      exec (.slotWriteDisarm t n slot off bs) s = .next (wrDpas (slotBase n.toNat slot + off.toNat) bs h))

/-! ### Shader work -/

/-- The steps of jobs (R255 to R274): the end of a vertex batch, of a tile and of a workgroup frees its core, charges the traffic and makes the writes visible; the vertex phase ends once every batch is
binned; a dispatch begins once the one before has drained; a tile is taken in order; a fault stops the job at its command and is reported once; a finished job is delivered with its fence (R272). -/
def Obligations.JobEventsComplete : Prop :=
  ∀ (t : Tick) (s : State) (core : BitVec 4) (drb : BitVec 40) (writes : List MemWrite) (x : SCtx) (j : Job),
    let h := accrue (advance t s)
    let free (u : State) : State := freeCore core.toNat (meter x.fn x.id x.inst 0 drb.toNat u)
    ((coreRec h core.toNat).ctx = some x → jobOf h x.fn x.id x.inst = some j →
      (∀ cmd prim len prims, x.step = .batch cmd prim len →
        exec (.vertexBatchEnd t core prims writes drb) s = .next (setJob x.fn x.id x.inst (batchDone cmd prim len prims) (free (jobStores j writes h)))) ∧
      (∀ i rest, x.step = .tile none → j.tiles = i :: rest →
        ∃ sec, exec (.tileDispatch t core) s = .next (setJob x.fn x.id x.inst (fun j => { j with tiles := rest, tilesOut := j.tilesOut + 1 })
          (setCore core.toNat { coreRec h core.toNat with ctx := some { x with step := .tile (some i), sectAt := sec } } h)) ∧
          (sec = none ∨ sec = some h.gtb)) ∧
      (x.step = .tile none → j.tiles = [] → exec (.tileDispatch t core) s = .next (freeCore core.toNat h)) ∧
      (∀ i frags, x.step = .tile (some i) →
        let r := runTile h j frags i
        let d : State := { h with drawn := h.drawn + 1 }
        exec (.tileStoreDone t core frags writes drb) s = .next (setJob x.fn x.id x.inst (fun j => { j with tilesOut := j.tilesOut - 1 })
          (free (bump32 Reg.GPX_CNT_TILES 1 (bump32 Reg.GPX_CNT_HSR (removedCount r.passed) (storeTile j i r.tm (jobStores j writes d))))))) ∧
      (∀ a b, x.step = .group a b → exec (.workgroupDone t core writes drb) s = .next (setJob x.fn x.id x.inst groupEnd (free (jobStores j writes h)))) ∧
      (∀ cmd a b entry, x.step = .batch cmd a b →
        let j' := stopFront 4 (progOff j cmd false) j
        exec (.programFault t core entry) s = .next (reportFault j' (setJob j.fn j.id j.inst (fun _ => j') h))) ∧
      (∀ cmd a entry, x.step = .group cmd a →
        let j' := stopFront 4 (progOff j cmd true) j
        exec (.programFault t core entry) s = .next (reportFault j' (setJob j.fn j.id j.inst (fun _ => j') h)))) ∧
    ((coreRec h core.toNat).ctx = none → exec (.tileDispatch t core) s = .next h ∧ exec (.workgroupDone t core writes drb) s = .next h) ∧
    (∀ (fn : Fn) (id inst : Word), jobOf h fn.val id.toNat inst.toNat = some j →
      exec (.commandFault t fn id inst) s = .next (reportFault j h) ∧
      (let j' := binOn (2 * j.cmds.length + 2) j
       (vertexDone h j' = true → exec (.vertexPhaseDone t fn id inst) s = .next (setJob j.fn j.id j.inst (fun _ => toFragment j') h)) ∧
       (vertexDone h j' = false → exec (.vertexPhaseDone t fn id inst) s = .next h)) ∧
      (jobDispatch j ≠ none → j.begun = false → j.wgOut = 0 →
        exec (.dispatchBegin t fn id inst) s = .next (setJob j.fn j.id j.inst (fun j => { j with begun := true, wg := 0 }) h)) ∧
      (j.begun = true → exec (.dispatchBegin t fn id inst) s = .next h) ∧
      (jobDone h j = false → exec (.jobDelivered t fn id inst) s = .next h) ∧
      (jobDone h j = true → j.lost = true → exec (.jobDelivered t fn id inst) s = .next (dropJob j.fn j.id j.inst (reportFault j h))) ∧
      (jobDone h j = true → j.lost = false →
        let d := bump32 Reg.GPX_CNT_JOBS 1 (setFence j.fn j.holm j.fence j.id (dropJob j.fn j.id j.inst (reportFault j h)))
        (∀ c, contractOf d j.fn j.id = some c → c.kind ≠ .cream →
          exec (.jobDelivered t fn id inst) s = .next (finish j.fn j.id j.inst d.gtb 0 (frameDone j.fn j.id j.inst d.gtb d))) ∧
        (∀ c, contractOf d j.fn j.id = some c → c.kind = .cream →
          exec (.jobDelivered t fn id inst) s = .next (setContract j.fn j.id (fun c => { c with phase := .ended }) d)))) ∧
    (∀ (fn : Fn) (id inst : Word), jobOf h fn.val id.toNat inst.toNat = none → exec (.commandFault t fn id inst) s = .next h ∧ exec (.jobDelivered t fn id inst) s = .next h)

/-- The dispatcher (R286 to R296): while gate 2 is on, a decision fills the free cores in order; the compositor takes a free core, or a victim's by the order of R291; a Mainland swap happens only
with every core busy, and saves the victim's context first. -/
def Obligations.DispatcherEventsComplete : Prop :=
  ∀ (t : Tick) (s : State) (took : BitVec 10),
    let h := accrue (advance t s)
    (gateOn h 2 = true → exec (.dispatcherDecision t) s = .next ((List.range 16).foldl fillCore h)) ∧
    (gateOn h 2 = false → exec (.dispatcherDecision t) s = .next h) ∧
    (∀ c core claimed u, bestCand ((candidates h 0).filter (fun c => c.rank == 0)) = some c → claimCore took.toNat h = some (core, claimed, u) →
      exec (.compositorPreempt t took) s = .next (place core claimed c u)) ∧
    ((∀ c ∈ candidates h 0, c.rank ≠ 0) → exec (.compositorPreempt t took) s = .next h) ∧
    (∀ c x y, (∀ k < 16, (coreRec h k).ctx ≠ none) → bestVictim (swappable h) = some (c, x) → bestCand ((candidates h c).filter (fun y => y.rank == 1)) = some y →
      exec (.mainlandSwap t) s = .next (place c false y (bump32 Reg.GPX_PRE_SWAP 1 (saveCtx c h)))) ∧
    (∀ k < 16, (coreRec h k).ctx = none → exec (.mainlandSwap t) s = .next h)

/-! ### Composition and scan-out -/

/-- Composition (R298 to R306): a strip is planned once, when its window opens; a skim takes a core and its end puts the layer's rows into the strip; a strip not complete at its due point shows the
lines that are ready and its output's underrun colour below them, and counts; the Bulk queue takes a frame only where it has room, and completes the oldest. -/
def Obligations.CompositionEventsComplete : Prop :=
  ∀ (t : Tick) (s : State) (output layer : BitVec 3) (strip : BitVec 10) (lines : BitVec 5),
    let h := advance t s
    let a := accrue h
    let n := output.toNat
    let k := strip.toNat
    let live := scanning h n = true ∧ inStrips h n = true ∧ k < stripCount h n
    (∀ v, 0 < k → live → stripOf h n k = none →
      let plan := (List.range 8).map (stripPlan h n)
      let st : Strip := { index := k, plan := plan, views := (List.range 8).map (fun l => (layerSt h (9 * n + l)).applied), waiting := (List.range 8).filter (fun l => plan.getD l 0 == 3) }
      v = setOut n (fun o => { o with strips := o.strips.filter (fun x => decide (k < x.index + 4)) ++ [st] }) h →
      exec (.stripWindowOpen t output strip) s = .next (composeStrip n k (planFlags n plan ((List.range 8).foldl (noteReady n plan) v)))) ∧
    (∀ st, stripOf h n k = some st → exec (.stripWindowOpen t output strip) s = .next h) ∧
    (∀ (st : Strip) (took : BitVec 10) core claimed u, stripOf a n k = some st → gateOn a 2 = true → (∀ x ∈ running a, x.step ≠ .skim n layer.toNat k) → st.waiting.contains layer.toNat = true →
      claimCore took.toNat a = some (core, claimed, u) →
      let x : SCtx := { fn := 0xFF, id := 0, inst := 0, cls := 0, holm := true, deadline := u.gtb, step := .skim n layer.toNat k, placed := u.gtb }
      exec (.skim t output layer strip took) s = .next (setCore core { coreRec u core with ctx := some x, claimed := claimed } u)) ∧
    (∀ (core : BitVec 4) (x : SCtx) (l : Nat) (st : Strip), (coreRec a core.toNat).ctx = some x → x.step = .skim n l k → stripOf (freeCore core.toNat a) n k = some st → st.complete = true →
      exec (.skimDone t core) s = .next (freeCore core.toNat a)) ∧
    (∀ (core : BitVec 4) (x : SCtx) (l : Nat) (st : Strip), (coreRec a core.toNat).ctx = some x → x.step = .skim n l k → stripOf (freeCore core.toNat a) n k = some st → st.complete = false →
      let f := freeCore core.toNat a
      let w := setStrip n k (fun y => { y with waiting := y.waiting.erase l, skims := y.skims ++ [(l, skimRows f n l st)] }) f
      (skimSrc w n l = none → exec (.skimDone t core) s = .next (composeStrip n k (layerFlag Fld.Lx_STAT_SKIMMED n l (bump32 Reg.GPX_SKIM_CNT 1 w))))) ∧
    (∀ st, live → stripOf h n k = some st → st.complete = true → exec (.stripDuePoint t output strip lines) s = .next h) ∧
    (live → stripOf h n k = none →
      let st : Strip := { index := k, complete := true, lines := List.replicate (stripLines h n k) (uflowLine h n) }
      exec (.stripDuePoint t output strip lines) s = .next (underrun n k (setOut n (fun o => { o with strips := o.strips.filter (fun x => decide (k < x.index + 4)) ++ [st] }) h))) ∧
    (∀ st, live → stripOf h n k = some st → st.complete = false → lines = 0 →
      exec (.stripDuePoint t output strip lines) s = .next (underrun n k (setStrip n k (fun x => { x with complete := true, lines := List.replicate (stripLines h n k) (uflowLine h n) }) h))) ∧
    (queueFree h n = false → exec (.queueFrameCompose t output) s = .next h) ∧
    (queueFree h n = true → ∃ (v : State) (q : QFrame), v = (List.range 8).foldl (selectVin n) h ∧ q.complete = false ∧ q.began = v.gtb ∧ q.plan = (List.range 8).map (queuePlan v n) ∧ q.lines.length = vAct v n ∧
      exec (.queueFrameCompose t output) s = .next (planFlags n q.plan (markLeases n (setOut n (fun o => { o with queue := o.queue ++ [q], starved := false }) ((List.range 8).foldl (noteUsed n) v))))) ∧
    ((∀ q ∈ (outSt h n).queue, q.complete = true) → exec (.queueFrameComplete t output) s = .next h) ∧
    (∀ q, (outSt h n).queue.find? (fun q => !q.complete) = some q →
      let r : QFrame := { freeInQueue h n q with complete := true }
      exec (.queueFrameComplete t output) s = .next (planFlags n r.plan (markLeases n (setOut n (fun o => { o with queue := o.queue.map (fun x => if x.complete then x else r) }) (fetched n q.reads h.gtb h)))))

/-- Scan-out (R350, R351, R381): a line request of a scanning output puts its line on the raster; the writeback writes the line at WB_ADDR + y * PITCH of its holder's space, or stops the
frame where the line comes too late; a cursor move on the express path is taken in order. -/
def Obligations.ScanEventsComplete : Prop :=
  ∀ (t : Tick) (s : State) (output : BitVec 3) (line : BitVec 13),
    let h := advance t s
    let n := output.toNat
    let y := line.toNat
    (∀ cursorDone, scanning h n = false → exec (.lineRequest t output line cursorDone) s = .next h) ∧
    (scanning h n = true → 0 < y → y < vAct h n →
      ∀ cursorDone, exec (.lineRequest t output line cursorDone) s = .next (setOut n (fun o => { o with raster := tput [] o.raster y (rasterLine h n y) }) h)) ∧
    (scanning h n = true → y = 0 → 0 < vAct h n → cursorLayer h n = none →
      exec (.lineRequest t output line true) s = .next (setOut n (fun o => { o with raster := tput [] o.raster 0 (rasterLine h n 0) }) h)) ∧
    (flg h (Reg.OP_WB_CTRL n) Fld.OP_WB_CTRL_WB_EN = false → ∀ inTime, exec (.writebackLine t output line inTime) s = .next h) ∧
    (flg h (Reg.OP_WB_CTRL n) Fld.OP_WB_CTRL_WB_EN = true → scanning h n = true → y < vAct h n → tget [] (outSt h n).raster y ≠ [] → (outSt h n).wbStopped = false →
      exec (.writebackLine t output line false) s = .next (wrB (Reg.OP_WB_STAT n) Fld.OP_WB_STAT_INCOMPLETE true (setOut n (fun o => { o with wbStopped := true }) h)) ∧
      (∀ sp, spaceOf h (outObj n) = some sp → (outSt h n).wbCut = true → exec (.writebackLine t output line true) s = .next (wrB (Reg.OP_WB_STAT n) Fld.OP_WB_STAT_DISCARDED true h)) ∧
      (∀ p, spaceOf h (outObj n) = some (true, p) → (outSt h n).wbCut = false → y + 1 < vAct h n →
        let f := fld h (Reg.OP_WB_CTRL n) Fld.OP_WB_CTRL_WB_FORMAT
        let bs := ((tget [] (outSt h n).raster y).zipIdx).flatMap (fun e => wbPixel f (wbTap h n e.2 y ((heldLine h n y).getD e.2 0) e.1))
        let u := wrDpas ((rd h (Reg.OP_WB_ADDR_LO n)).toNat + 2 ^ 32 * (rd h (Reg.OP_WB_ADDR_HI n)).toNat + y * fld h (Reg.OP_WB_PITCH n) Fld.OP_WB_PITCH_PITCH) bs h
        exec (.writebackLine t output line true) s = .next ((namedRanges u n 9).foldl (fun v g => leaseFetch n 9 g v.gtb v) u))) ∧
    (h.sense.express = [] → exec (.cursorExpressPath t) s = .next h) ∧
    (∀ k v cx cy rest, h.sense.express = (k, v, cx, cy) :: rest →
      exec (.cursorExpressPath t) s = .next ((List.range 8).foldl (expressOne k v cx cy) { h with sense := { h.sense with express := rest } }))

/-! ### Recovery, the latch, the Creamline -/

/-- The traversal unit's events (R307 to R324): an arming ends by checking the scene it copied: a sound one arms its slot and becomes active, an unsound one sets ARM_ERR and disarms the slot; the first
render that may start runs; its end shows the frame of a recovery render or hands an owner's render to its contract; a self-test's end writes both images and records the class that the three
signatures give. -/
def Obligations.TraversalEventsComplete : Prop :=
  ∀ (t : Tick) (s : State) (output : BitVec 3) (b : Bool),
    let h := advance t s
    let n := output.toNat
    ((armRec h n).pending = none → exec (.trvArmComplete t output) s = .next h) ∧
    ((armRec h n).pending = some b → sceneOk h (slotBase n b) = true →
      exec (.trvArmComplete t output) s = .next (holmWake 0x20 (setArm n (fun r => { r with a := r.a || !b, b := r.b || b, active := some b, pending := none }) h))) ∧
    ((armRec h n).pending = some b → sceneOk h (slotBase n b) = false →
      exec (.trvArmComplete t output) s = .next (wrB (Reg.TRV_ARMn n) Fld.TRV_ARMn_ARM_ERR true (setArm n (fun r => { r with a := r.a && b, b := r.b && !b, pending := none }) h))) ∧
    (h.trv.running ≠ none ∨ gateOn h 0x20 = false ∨ (∀ r ∈ h.trv.queue, mayStart h r = false) → exec (.traversalRenderStart t) s = .next h) ∧
    (∀ r, h.trv.running = none → gateOn h 0x20 = true → h.trv.queue.find? (mayStart h) = some r →
      ∃ r', exec (.traversalRenderStart t) s = .next { h with trv := { h.trv with running := some r', queue := h.trv.queue.erase r } } ∧
        r' = { r with slotB := r'.slotB } ∧ (r.kind ≠ 2 → r'.slotB = ((armRec h r.output).active == some true))) ∧
    (h.trv.running = none → exec (.traversalRenderDone t) s = .next h) ∧
    (∀ r, h.trv.running = some r → r.kind = 2 → exec (.traversalRenderDone t) s = .next { h with trv := { h.trv with running := none } }) ∧
    (∀ r, h.trv.running = some r → r.kind ≠ 2 →
      let p := (setBits 16 r.regions).foldl (drawRegion r.output (slotBase r.output r.slotB)) (h, 0)
      let u : State := { p.1 with trv := { p.1.trv with running := none } }
      let w := rd u (Reg.TRV_RECn r.output)
      let v := setF w Fld.TRV_RECn_LIMIT_HITS (getF w Fld.TRV_RECn_LIMIT_HITS + p.2)
      let z := releaseHeld r.output (wr (Reg.TRV_RECn r.output) (setF v Fld.TRV_RECn_RENDERS (getF v Fld.TRV_RECn_RENDERS + 1)) u)
      (r.owner = none → exec (.traversalRenderDone t) s = .next (flipPending r.output ⟨none, r.regions, z.gtb⟩ z)) ∧
      (∀ fn id inst, r.owner = some (fn, id, inst) → exec (.traversalRenderDone t) s =
        .next { z with disp := { z.disp with cream := z.disp.cream.map (fun w => if w.fn == fn && w.id == id && w.inst == inst then { w with rendered := true } else w) } })) ∧
    (h.trv.tests = [] → ∀ i j, exec (.selftestComplete t i j) s = .next h) ∧
    (∀ x xs i j, h.trv.tests = x :: xs → testDone h = true → i.length = 65536 → j.length = 65536 → x.raster = none → x.port = none →
      let r := BitVec.ofNat 32 (crc32c i)
      let v := BitVec.ofNat 32 (crc32c j)
      exec (.selftestComplete t i j) s = .next (recordClass (testClass r v Config.refSig) r v x.began (wrVat 0x33E0000 i (wrVat 0x33F0000 j { h with trv := { h.trv with tests := xs } }))))

/-- Commits and latch points (R371 to R391): a commit's configuration becomes visible to its holder; a latch point happens only while the output scans; the first latch waits until its link and clock are
ready, for ALIGN where that is set; the display engine then applies the commits taken, in order, and takes them off the list. -/
def Obligations.LatchEventsComplete : Prop :=
  ∀ (t : Tick) (s : State) (output : BitVec 3),
    let h := advance t s
    let n := output.toNat
    let o := outSt h n
    (∀ (holm : Bool) (fn : Fn),
      let hd : Holder := if holm then ⟨true, 0⟩ else ⟨false, fn.val⟩
      exec (.commitVisible t output holm fn) s = .next (setOut n (fun o => { o with commits := o.commits.map (fun c => if c.holder == hd then { c with visible := true } else c) }) h)) ∧
    (scanning h n = true → o.lastLatch < h.gtb → exec (.latchPoint t output) s = .next (latchEvent .running n h)) ∧
    (scanning h n = false ∨ h.gtb ≤ o.lastLatch → exec (.latchPoint t output) s = .next h) ∧
    (tgOn h n = false ∨ o.latched = true ∨ outReady h n = false → exec (.rawRasterStart t output) s = .next h) ∧
    (tgOn h n = true → o.latched = false → outReady h n = true →
      let r := noteReadyAt n h
      (flg r (Reg.TG_CTRL n) Fld.TG_CTRL_ALIGN_EN = false → exec (.rawRasterStart t output) s = .next (startRaster n r)) ∧
      (flg r (Reg.TG_CTRL n) Fld.TG_CTRL_ALIGN_EN = true → alignFails r n = true →
        exec (.rawRasterStart t output) s = .next (startRaster n (wrB (Reg.TG_STAT n) Fld.TG_STAT_ALIGN_FAILED true r))) ∧
      (flg r (Reg.TG_CTRL n) Fld.TG_CTRL_ALIGN_EN = true → alignFails r n = false → alignedNow r n = true → exec (.rawRasterStart t output) s = .next (latchEvent .first n r)) ∧
      (flg r (Reg.TG_CTRL n) Fld.TG_CTRL_ALIGN_EN = true → alignFails r n = false → alignedNow r n = false → exec (.rawRasterStart t output) s = .next r)) ∧
    (o.waitNew = none → exec (.firstLatchNewTiming t output) s = .next h) ∧
    (∀ last, o.waitNew = some last → flg h (Reg.TG_CTRL n) Fld.TG_CTRL_ALIGN_EN = false →
      (outReady h n = true → h.gtb = latchAfter h n o.lastLatch 2 ∨ h.gtb = latchAfter h n o.lastLatch 3 ∨ last ≤ h.gtb → exec (.firstLatchNewTiming t output) s = .next (latchEvent .newTiming n h)) ∧
      (outReady h n = false → last ≤ h.gtb → exec (.firstLatchNewTiming t output) s = .next (latchEvent .newTiming n (linkState n 3 3 h))) ∧
      (outReady h n = false → h.gtb < last → exec (.firstLatchNewTiming t output) s = .next h)) ∧
    (o.latchDue = false → exec (.shadowApply t output) s = .next h) ∧
    (o.latchDue = true →
      let u := (o.commits.filter (fun c => c.taken)).foldl (fun s c => applyDisplay n c.holder s) (layersOff n h)
      let v := setOut n (fun o => { o with latchDue := false, commits := o.commits.filter (fun c => !c.taken) }) u
      (tgOn v n = false → exec (.shadowApply t output) s = .next (trimQueue n (markLeases n v))) ∧
      (tgOn v n = true →
        let c := crlHandover n ((o.commits.filter (fun c => c.taken)).any (fun c => c.holder.holm)) v
        let z := setOut n (fun o => { o with prevZones := o.zones, zones := zonesOf c n }) c
        let l := (outSt z n).lastLatch
        let w := trimQueue n (markLeases n (wbLatch n l ((List.range 8).foldl (layerLatch n l) z)))
        let seen := match cursorLayer w n with | some k => [cursorPos w n k] | none => []
        exec (.shadowApply t output) s = .next (setOut n (fun o => { o with cursor := fetchCursor w n, push := pushRegion w n, cursorSeen := seen, reverifyEnd := false }) w)))

/-- The Creamline (R393 to R415): the earliest waiting CREAM of an output begins once its buffers are free; its end makes the flip pending, but where copied data does not have the hash promised, which is
breached ASSET_MISMATCH; a certified tile of the frame gets its signature, and a mismatch is counted and acted on; a due evidence record is written in order, or left out where only changes are kept. -/
def Obligations.CreamEventsComplete : Prop :=
  ∀ (t : Tick) (s : State) (output : BitVec 3),
    let h := advance t s
    let n := output.toNat
    (∀ c, (contractsOn h .cream n).find? (fun c => c.phase == .waiting && decide (c.s0 ≤ h.gtb)) = some c →
      ((crlSt h n).holdPending = true ∨ backBusy h n = true → exec (.creamWorkStart t output) s = .next h) ∧
      ((crlSt h n).holdPending = false → backBusy h n = false → exec (.creamWorkStart t output) s = .next (creamBegin c h))) ∧
    (h.disp.cream.find? (fun w => w.output == n && w.begun) = none → exec (.creamWorkDone t output) s = .next h) ∧
    (∀ w, h.disp.cream.find? (fun w => w.output == n && w.begun) = some w →
      let u := setContract w.fn w.id (fun c => if c.inst = w.inst then { c with phase := .ended } else c) { h with disp := { h.disp with cream := h.disp.cream.filter (fun x => x != w) } }
      let at_ := lcBuffer n (1 - (crlSt h n).front) + w.dest
      let v := meter w.fn w.id w.inst 0 w.len (wrVat at_ (rdDpas u w.addr w.len) u)
      (creamReady h w = false → exec (.creamWorkDone t output) s = .next h) ∧
      (creamReady h w = true → w.source ≠ 1 → exec (.creamWorkDone t output) s = .next (flipPending n ⟨some (w.fn, w.id, w.inst), w.regions, u.gtb⟩ u)) ∧
      (creamReady h w = true → w.source = 1 → sha256 (rdVat v at_ w.len) = w.hash → exec (.creamWorkDone t output) s = .next (flipPending n ⟨some (w.fn, w.id, w.inst), w.regions, v.gtb⟩ v)) ∧
      (∀ c, creamReady h w = true → w.source = 1 → sha256 (rdVat v at_ w.len) ≠ w.hash → openInst v w.fn w.id w.inst = some c →
        exec (.creamWorkDone t output) s = .next (breach c .assetMismatch w.fn 0 v))) ∧
    (∀ (tile : BitVec 17) (upset : Word) (expLost : Bool),
      let i := tile.toNat
      (scanning h n = false ∨ tileW h n * tileH h n ≤ i ∨ (crlSt h n).cur.signed.contains i = true → exec (.tileSignatureDone t output tile upset expLost) s = .next h) ∧
      (scanning h n = true → i < tileW h n * tileH h n → tileScanned h n i = true → (crlSt h n).cur.signed.contains i = false → h.lnk.faults = [] →
        let u := setCrl n (fun c => { c with cur := { c.cur with signed := c.cur.signed ++ [i] } }) h
        let sig := tileSig h n i ^^^ upset
        let exp : Word := if expLost then 0 else tileExp u n i
        tileIn (outSt u n).zones (tileW u n) i = true →
        let v := wrVat (tileEntry n i) (le 4 sig.toNat ++ le 4 exp.toNat) u
        exec (.tileSignatureDone t output tile upset expLost) s = .next (if sig = exp ∧ expLost = false ∧ tilePoisoned u n i = false then v else tileMismatch n i sig exp expLost v))) ∧
    ((crlSt h n).due = [] → exec (.evidenceRecord t output) s = .next h) ∧
    (∀ b must ds, (crlSt h n).due = (b, must) :: ds →
      let u := setCrl n (fun c => { c with due := ds }) h
      let same := flg u Reg.CRL_EV_CTRL Fld.CRL_EV_CTRL_MODE = true ∧ must = false ∧ (crlSt h n).prevKey = some (evidenceKey b)
      (same → exec (.evidenceRecord t output) s = .next u) ∧ (¬ same → exec (.evidenceRecord t output) s = .next (evidencePut n b u)))

/-! ### Links, video inputs, straits -/

/-- Display links and straits (R424 to R439): a training attempt that passes brings the link up at its lanes and rate and counts; one that fails is tried a second time, then at the next fallback, and
then the link fails and is retried a second later; a pulse on HPD below 500 µs is nothing, below 2 ms a service request, and from 2 ms the sink is gone; a replug trains again; a sideband transaction
ends with its result and, of a read, its bytes; a strait entry in sequence with good parity counts no error. -/
def Obligations.LinkEventsComplete : Prop :=
  ∀ (t : Tick) (s : State) (output : BitVec 3),
    let h := advance t s
    let n := output.toNat
    let x := txSt h n
    (∀ (c : Nat × Nat) (passed : Bool) (panel : BitVec 8), x.trying = some c → tgOn h n = true → gateOn h (0x30 + n) = true →
      (passed = true → exec (.linkTrainingAttempt t output passed panel) s = .next (noteReadyAt n (linkState n 2 x.cause
        (setTx n (fun x => { x with lanes := c.1, rate := if txProto h n = 3 then 0 else c.2, trying := none, rest := [], second := false, retryAt := none, trainings := x.trainings + 1 }) h)))) ∧
      (passed = false → x.second = false → exec (.linkTrainingAttempt t output passed panel) s = .next (setTx n (fun x => { x with second := true }) h)) ∧
      (∀ d ds, passed = false → x.second = true → x.rest.dropWhile (fun c => !tryable h n panel.toNat c) = d :: ds →
        exec (.linkTrainingAttempt t output passed panel) s = .next (setTx n (fun x => { x with trying := some d, rest := ds, second := false }) h)) ∧
      (passed = false → x.second = true → x.rest.dropWhile (fun c => !tryable h n panel.toNat c) = [] →
        exec (.linkTrainingAttempt t output passed panel) s = .next (linkState n 3 3 (setTx n (fun x => { x with trying := none, rest := [], second := false, retryAt := some (h.gtb + 200000000) }) h)))) ∧
    (∀ (passed : Bool) (panel : BitVec 8), x.trying = none → exec (.linkTrainingAttempt t output passed panel) s = .next h) ∧
    (∀ r, x.retryAt = some r →
      (h.gtb < r → exec (.linkRetry t output) s = .next h) ∧
      (r ≤ h.gtb → tgOn h n = true → ∃ rest, exec (.linkRetry t output) s =
        .next (setTx n (fun x => { x with trying := some (txLanes h n, txRate h n), second := false, rest := rest, cause := 8, retryAt := none }) h))) ∧
    (∀ (ticks : Word) (lost : Bool),
      (txProto h n ≠ 1 → txProto h n ≠ 2 → exec (.hpdLowPulse t output ticks lost) s = .next h) ∧
      (ticks.toNat < 100000 → exec (.hpdLowPulse t output ticks lost) s = .next h) ∧
      (txProto h n = 1 ∨ txProto h n = 2 → 100000 ≤ ticks.toNat → ticks.toNat < 400000 →
        exec (.hpdLowPulse t output ticks lost) s = .next (if lost = true ∧ x.state = 2 then linkBring n 6 h else h)) ∧
      (txProto h n = 1 ∨ txProto h n = 2 → 400000 ≤ ticks.toNat → x.sb = none →
        let u := wrB (Reg.LNK_TXg_STAT n) Fld.LNK_TXg_STAT_HPD false h
        exec (.hpdLowPulse t output ticks lost) s = .next (if x.state = 0 then u else
          noteReadyAt n (linkState n 3 4 (setTx n (fun x => { x with trying := none, rest := [], retryAt := none, unplugged := true, lanes := 0, rate := 0 }) u))))) ∧
    (let u := wrB (Reg.LNK_TXg_STAT n) Fld.LNK_TXg_STAT_HPD true h
     exec (.hpdReplug t output) s = .next (if x.unplugged = true ∧ tgOn u n = true then linkBring n 5 u else u)) ∧
    (∀ (result : BitVec 3) (bytes : List Byte), x.sb = none → exec (.sbTransactionEnd t output result bytes) s = .next h) ∧
    (∀ (result : BitVec 3) (bytes : List Byte) (q : SbRec), x.sb = some q → 1 ≤ result.toNat → result.toNat ≤ 4 →
      (q.cmd ≠ 0 → q.cmd ≠ 2 → q.cmd ≠ 6 → exec (.sbTransactionEnd t output result bytes) s = .next (sbEnd n result.toNat (bytes.take q.len).length h)) ∧
      (∃ u, exec (.sbTransactionEnd t output result bytes) s = .next (sbEnd n result.toNat (bytes.take q.len).length u) ∧ u = { h with regs := u.regs })) ∧
    (∀ (id : Byte) (seq : BitVec 4) (parity : Bool) (item : Option (Fn × Word)),
      (straitListed id.toNat = false → exec (.straitEntryArrival t id seq parity item) s = .next h) ∧
      (straitListed id.toNat = true → h.lnk.faults = [] → (straitRec h id.toNat).held = none →
        let u := straitArrive id.toNat seq.toNat parity h
        exec (.straitEntryArrival t id seq parity item) s = .next (if (straitRec u id.toNat).errors = (straitRec h id.toNat).errors then u else lostItem item u)))

/-- Video inputs (R355, R356, R434): training shows lanes, rate and errors and brings the input's island up exactly if the source's rate and lanes lie within LNK_RXn_CFG; a frame shows its size, kind and
period, and is captured to the buffer that R356 picks where it suits the configuration, else flagged or dropped; a completed capture becomes the newest; a lost signal stops the capture. -/
def Obligations.VideoInputEventsComplete : Prop :=
  ∀ (t : Tick) (s : State) (vin : BitVec 2),
    let h := advance t s
    let v := vin.toNat
    let cfg := Reg.LNK_RXn_CFG v
    (∀ (lanes : BitVec 3) (rate : BitVec 2) (trained : Bool) (errors : BitVec 16),
      let ok := trained && flg h cfg Fld.LNK_RXn_CFG_HPD_EN && [1, 2, 4].contains lanes.toNat && decide (lanes.toNat ≤ fld h cfg Fld.LNK_RXn_CFG_MAX_LANES) && decide (rate.toNat ≤ fld h cfg Fld.LNK_RXn_CFG_MAX_RATE)
      ∃ w, exec (.vinLinkTraining t vin lanes rate trained errors) s = .next (setVin v (fun x => { x with island := ok }) (wr (Reg.LNK_RXn_STAT v) w h)) ∧
        getF w Fld.LNK_RXn_STAT_STATE = (if ok then 2 else 0) ∧ getF w Fld.LNK_RXn_STAT_LANES = (if ok then lanes.toNat else 0) ∧ getF w Fld.LNK_RXn_STAT_RATE = (if ok then rate.toNat else 0) ∧
        getF w Fld.LNK_RXn_STAT_SYMBOL_ERRS = (fld h (Reg.LNK_RXn_STAT v) Fld.LNK_RXn_STAT_SYMBOL_ERRS + errors.toNat) % 65536) ∧
    (∀ (width height : BitVec 16) (kind : BitVec 2) (depth : BitVec 4) (interlaced : Bool) (period : Word) (rows : List (List (List Nat))),
      let c := Instr.vinFrameReceived t vin width height kind depth interlaced period rows
      let st := setF (setB (rd h (Reg.VIN_STAT v)) Fld.VIN_STAT_SIGNAL true) Fld.VIN_STAT_KIND kind.toNat
      let u := setVin v (fun x => { x with width := width.toNat, height := height.toNat, period := period.toNat })
        (wr (Reg.VIN_DET v) (BitVec.ofNat 32 (height.toNat * 65536 + width.toNat)) (wr (Reg.VIN_PERIOD v) period (wr (Reg.VIN_STAT v) st h)))
      let f := fld u (Reg.VIN_CTRL v) Fld.VIN_CTRL_CAPFMT
      let within := width.toNat ≤ fld u (Reg.VIN_LIMIT0 v) Fld.VIN_LIMIT0_MAX_W ∧ height.toNat ≤ fld u (Reg.VIN_LIMIT0 v) Fld.VIN_LIMIT0_MAX_H ∧ 200000000 ≤ fld u (Reg.VIN_LIMIT1 v) Fld.VIN_LIMIT1_MAX_RATE * period.toNat
      let suits := interlaced = false ∧ ((f = 1 ∨ f = 2) ∧ kind.toNat = 0 ∨ (f = 0x21 ∨ f = 0x25) ∧ (kind.toNat = 1 ∨ kind.toNat = 2))
      ((vinSt h v).island = false → exec c s = .next h) ∧
      ((vinSt h v).island = true → flg u (Reg.VIN_CTRL v) Fld.VIN_CTRL_ENABLE = false → exec c s = .next u) ∧
      ((vinSt h v).island = true → flg u (Reg.VIN_CTRL v) Fld.VIN_CTRL_ENABLE = true → ¬ within → suits → exec c s = .next (wrB (Reg.VIN_STAT v) Fld.VIN_STAT_OVER_LIMIT true u)) ∧
      ((vinSt h v).island = true → flg u (Reg.VIN_CTRL v) Fld.VIN_CTRL_ENABLE = true → within → ¬ suits → exec c s = .next (wrB (Reg.VIN_STAT v) Fld.VIN_STAT_FMT_MISMATCH true u)) ∧
      ((vinSt h v).island = true → flg u (Reg.VIN_CTRL v) Fld.VIN_CTRL_ENABLE = true → within → suits → vinPick u v = none →
        exec c s = .next (wrF (Reg.VIN_CNT v) Fld.VIN_CNT_DROPPED ((fld u (Reg.VIN_CNT v) Fld.VIN_CNT_DROPPED + 1) % 65536) u)) ∧
      (∀ k, (vinSt h v).island = true → flg u (Reg.VIN_CTRL v) Fld.VIN_CTRL_ENABLE = true → within → suits → vinPick u v = some k →
        exec c s = .next (vinWrite v k height.toNat depth.toNat (kind.toNat == 1) (rows.take height.toNat)
          (setVin v (fun x => { x with done := x.done.set k (some x.seq), seq := x.seq + 1, writing := if height.toNat ≤ rows.length then some (k, width.toNat, height.toNat) else none }) u)))) ∧
    ((vinSt h v).writing = none → exec (.vinCaptureComplete t vin) s = .next h) ∧
    (∀ k w hh, (vinSt h v).writing = some (k, w, hh) →
      let a := wr (Reg.VIN_STAT v) (setB (setF (rd h (Reg.VIN_STAT v)) Fld.VIN_STAT_NEWEST k) Fld.VIN_STAT_NEWEST_VALID true) h
      exec (.vinCaptureComplete t vin) s = .next (setVin v (fun x => { x with writing := none, newest := some (k, w, hh), done := x.done.set k (some x.seq), seq := x.seq + 1, frames := x.frames + 1 })
        (wrF (Reg.VIN_CNT v) Fld.VIN_CNT_FRAMES ((fld a (Reg.VIN_CNT v) Fld.VIN_CNT_FRAMES + 1) % 65536) a))) ∧
    (exec (.vinSignalLost t vin) s = .next (setVin v (fun x => { x with writing := none })
      (wr (Reg.VIN_STAT v) (setF (setB (rd h (Reg.VIN_STAT v)) Fld.VIN_STAT_SIGNAL false) Fld.VIN_STAT_KIND 3) h)))

/-! ### Touch and haptics -/

/-- Touch (R442 to R456): a scan due on a sensor starts, or sets SKIPPED where the one before still runs; its end shows every channel's count, the scan's number and stamp, and takes the step of the
sensor's state; a contact held beyond STUCK_TIME is released and its channels become the baseline; slow scanning begins when idle, keeps its groups' baselines, and wakes on LP_WAKE; a
calibration ends after 64 scans with its profile's CRC, or with the contact or the flash error it met. -/
def Obligations.TouchEventsComplete : Prop :=
  ∀ (t : Tick) (s : State) (sensor : BitVec 3),
    let h := advance t s
    let k := sensor.toNat
    let r := tsOf h k
    (sensorOn h k = false ∨ tState h k = 3 ∨ h.gtb < r.dueAt → exec (.touchScanStart t sensor) s = .next h) ∧
    (sensorOn h k = true → tState h k ≠ 3 → r.dueAt ≤ h.gtb →
      let u := setTs k (fun r => { r with nextScan := (tsOf h k).nextScan + 1, dueAt := r.tEn + ((tsOf h k).nextScan + 1) * scanTicks h k }) h
      (r.busy ≠ none → exec (.touchScanStart t sensor) s = .next (wrB (Reg.TCH_Sk_STAT k) Fld.TCH_Sk_STAT_SKIPPED true u)) ∧
      (r.busy = none → exec (.touchScanStart t sensor) s = .next (setTs k (fun x => { x with busy := some r.nextScan, cfg := liveCfg u k }) u))) ∧
    (∀ counts, r.busy = none → exec (.touchScanEnd t sensor counts) s = .next h) ∧
    (∀ counts m, r.busy = some m →
      let cs := scanCounts (samplesOf h k) (fld h (Reg.TCH_Sk_MEAS k) Fld.TCH_Sk_MEAS_MAX_COUNT) (channels h k) counts
      let ns := cs.map (fun c => c.1)
      let a := (List.range ns.length).foldl (fun s i => wrF (Reg.TCH_CHc ((geom h k).1 + i)) Fld.TCH_CHc_COUNT (ns.getD i 0) s) h
      let b := wrF (Reg.TCH_Sk_STAT k) Fld.TCH_Sk_STAT_OVERRANGE (cs.filter (fun c => c.2)).length a
      let c := wr (Reg.TCH_Sk_SCAN k) (BitVec.ofNat 32 m) (wr (Reg.TCH_Sk_STAMP_LO k) (BitVec.ofNat 32 h.gtb) (wr (Reg.TCH_Sk_STAMP_HI k) (BitVec.ofNat 32 (h.gtb / 2 ^ 32)) b))
      let u := setTs k (fun r => { r with busy := none, scan := m, stamp := h.gtb }) c
      (tState u k = 1 → exec (.touchScanEnd t sensor counts) s = .next (profileScan k h.gtb ns u)) ∧
      (tState u k = 5 → exec (.touchScanEnd t sensor counts) s = .next (calScan k cs u)) ∧
      (tState u k = 2 ∨ tState u k = 4 → exec (.touchScanEnd t sensor counts) s = .next (runScan k h.gtb ns u)) ∧
      (tState u k = 0 ∨ tState u k = 3 → exec (.touchScanEnd t sensor counts) s = .next u)) ∧
    (∀ contact : BitVec 8, r.contacts.find? (fun c => c.num == contact.toNat && stuckDue r r.stamp c) = none → exec (.touchStuckRelease t sensor contact) s = .next h) ∧
    (∀ (contact : BitVec 8) (c : TouchContact), r.contacts.find? (fun c => c.num == contact.toNat && stuckDue r r.stamp c) = some c →
      let u := postTouch k c (0x42 + contactFlags (r.contacts.head? == some c) c) c.x c.y r.stamp h
      let v := ((List.range (channels u k)).filter (underContact (setContacts k [c] u) k)).foldl (fun s i => setBase k i (fld s (Reg.TCH_CHc ((geom s k).1 + i)) Fld.TCH_CHc_COUNT) s) u
      exec (.touchStuckRelease t sensor contact) s = .next (setContacts k (r.contacts.filter (fun x => x != c)) (setTs k (fun r' => { r' with idleSince := r.stamp }) v))) ∧
    (slowDueNow h k = false → exec (.touchEnterSlow t sensor) s = .next h) ∧
    (slowDueNow h k = true → exec (.touchEnterSlow t sensor) s = .next (setTState k 3 (setTs k (fun r => { r with groups := [], cands := [], high := [], slowDue := h.gtb }) h))) ∧
    (∀ counts, tState h k ≠ 3 ∨ h.gtb < r.slowDue → exec (.touchSlowScan t sensor counts) s = .next h) ∧
    (∀ counts, tState h k = 3 → r.slowDue ≤ h.gtb →
      let g := 2 ^ fld h (Reg.TCH_Sk_PERIOD k) Fld.TCH_Sk_PERIOD_GANG
      let ns := (scanCounts (samplesOf h k) (fld h (Reg.TCH_Sk_MEAS k) Fld.TCH_Sk_MEAS_MAX_COUNT) g counts).map (fun c => c.1)
      let u := setTs k (fun r => { r with slowDue := r.slowDue + 200000 * fld h (Reg.TCH_Sk_PERIOD k) Fld.TCH_Sk_PERIOD_LP_PERIOD }) h
      let hit := (List.range g).any (fun i => decide (((fld u (Reg.TCH_Sk_THR2 k) Fld.TCH_Sk_THR2_LP_WAKE : Nat) : Int) ≤ signalOf (r.groups.getD i (0, 0, 0)).1 (ns.getD i 0)))
      (r.groups = [] → exec (.touchSlowScan t sensor counts) s = .next (setTs k (fun r => { r with groups := ns.map (fun n => (n, 0, 0)) }) u)) ∧
      (r.groups ≠ [] → hit = true → exec (.touchSlowScan t sensor counts) s = .next (touchWake (resumeScans k (setTState k 2 u)))) ∧
      (r.groups ≠ [] → hit = false → exec (.touchSlowScan t sensor counts) s = .next
        (setTs k (fun r => { r with groups := adaptGroups (fld u (Reg.TCH_Sk_TRACK k) Fld.TCH_Sk_TRACK_ADAPT_SCANS) r.groups ns }) u))) ∧
    (∀ ok, r.cal = none → exec (.touchCalibrationDone t sensor ok) s = .next h) ∧
    (∀ c ok, r.cal = some c →
      let off := setTs k (fun r => { r with cal := none }) h
      let tell (pay : List Byte) (s : State) : State := c.ports.foldl (fun s p => finishLong p pay s) s
      let bs := c.sums.map (fun x => x / 64)
      let p := profileBytes h k bs
      let v := setTState k 2 (setTs k (fun r => { r with cal := none }) (setBases k bs h))
      let m := ((List.range bs.length).filter (fun i => !(c.exceeded.contains i) && decide (16 ≤ bs.getD i 0))).length
      let done := stDone (le 4 (crc32c p) ++ le 2 m ++ le 2 0)
      (tState h k ≠ 5 → exec (.touchCalibrationDone t sensor ok) s = .next (tell (stOff .paramInvalid 0) off)) ∧
      (tState h k = 5 → c.contact = true → exec (.touchCalibrationDone t sensor ok) s = .next (tell (stOnly .sensorContact) (setTState k 2 off))) ∧
      (tState h k = 5 → c.contact = false → c.scans < 64 → exec (.touchCalibrationDone t sensor ok) s = .next h) ∧
      (tState h k = 5 → c.contact = false → 64 ≤ c.scans → c.store = true → ok = false → exec (.touchCalibrationDone t sensor ok) s = .next (tell (stOnly .flashError) v)) ∧
      (tState h k = 5 → c.contact = false → 64 ≤ c.scans → c.store = false → exec (.touchCalibrationDone t sensor ok) s = .next (tell done v)) ∧
      (tState h k = 5 → c.contact = false → 64 ≤ c.scans → c.store = true → ok = true →
        exec (.touchCalibrationDone t sensor ok) s = .next (tell done (loadProfile k p (flashPut (0x20000 + 0x1000 * k) 0x1000 (p ++ le 4 (crc32c p)) v)))))

/-- Haptics (R463 to R479): the first effect queued starts once its time has come and neither a brake, a calibration, a fault nor a spent budget stands against it; it ends at its length, at ON_MAX or when
the budget is spent, and the last two count and are recorded; braking goes on unit by unit until the motion is small, its units are used, or 12 ms have passed; four samples at the current limit end
the drive in FAULT; a calibration ends READY with its half period and resonance, or fails. -/
def Obligations.HapticEventsComplete : Prop :=
  ∀ (t : Tick) (s : State) (channel : BitVec 4),
    let h := advance t s
    let n := channel.toNat
    let a := accountHap n h
    (exec (.hapticBudgetWindow t channel) s = .next a) ∧
    ((hapOf a n).queue = [] → exec (.hapticDriveBegin t channel) s = .next a) ∧
    (∀ e rest, (hapOf a n).queue = e :: rest →
      let free := e.s0 ≤ a.gtb ∧ (hapOf a n).brake = none ∧ (hapOf a n).cal = none ∧ hapState a n ≠ 5 ∧ hapOn a n = true ∧ budgetSpent (hapOf a n) = false
      (¬ free → exec (.hapticDriveBegin t channel) s = .next a) ∧
      (free → (hapOf (endDrive n a) n).brake = none → exec (.hapticDriveBegin t channel) s = .next (beginDrive n e (endDrive n a)))) ∧
    ((hapOf h n).drive = none → exec (.hapticDriveEnd t channel) s = .next h ∧ exec (.hapticOnMax t channel) s = .next h) ∧
    (∀ e b, (hapOf h n).drive = some (e, b) →
      (b + e.len ≤ h.gtb → exec (.hapticDriveEnd t channel) s = .next (endDrive n h)) ∧
      (h.gtb < b + e.len → exec (.hapticDriveEnd t channel) s = .next h) ∧
      (let m := 200000 * getF ((hapOf h n).lim.getD 0 0) Fld.HAP_Cn_LIMIT_ON_MAX
       (m < e.len → b + m ≤ h.gtb → exec (.hapticOnMax t channel) s = .next (limitEnd n 3 e.id Fld.HAP_Cn_STAT_LIMIT_ON h)) ∧
       (e.len ≤ m → exec (.hapticOnMax t channel) s = .next h))) ∧
    (∀ e b, (hapOf a n).drive = some (e, b) →
      (budgetSpent (hapOf a n) = true → exec (.hapticBudgetSpent t channel) s = .next (limitEnd n 4 e.id Fld.HAP_Cn_STAT_LIMIT_BUDGET a)) ∧
      (budgetSpent (hapOf a n) = false → exec (.hapticBudgetSpent t channel) s = .next a)) ∧
    (∀ peak, (hapOf a n).brake = none → exec (.brakingUnitEnd t channel peak) s = .next a) ∧
    (∀ (peak : BitVec 12) (b : BrakeRec), (hapOf a n).brake = some b →
      let last := b.began + 2400000 ≤ a.gtb ∨ peak.toNat < getF ((hapOf a n).lim.getD 2 0) Fld.HAP_Cn_BRAKE_BRAKE_STOP ∨ b.eff.brakeMax ≤ b.unit + 1
      (a.gtb < b.unitAt + b.ub → a.gtb < b.began + 2400000 → exec (.brakingUnitEnd t channel peak) s = .next a) ∧
      (b.unitAt + b.ub ≤ a.gtb → last → exec (.brakingUnitEnd t channel peak) s = .next (restState n (setHap n (fun r => { r with brake := none }) a))) ∧
      (b.unitAt + b.ub ≤ a.gtb → ¬ last → exec (.brakingUnitEnd t channel peak) s =
        .next (setHap n (fun r => { r with brake := some { b with unit := b.unit + 1, unitAt := b.unitAt + b.ub, rev := if b.erm then b.rev else !b.rev } }) a))) ∧
    (∀ (c0 c1 c2 c3 : BitVec 12), (hapOf a n).drive = none → (hapOf a n).brake = none → exec (.overcurrent t channel c0 c1 c2 c3) s = .next a) ∧
    (∀ (c0 c1 c2 c3 : BitVec 12) e b, (hapOf a n).drive = some (e, b) →
      let all := ∀ c ∈ [c0, c1, c2, c3], getF ((hapOf a n).lim.getD 0 0) Fld.HAP_Cn_LIMIT_I_LIMIT ≤ codeAbs c
      let u := setHap n (fun r => { r with drive := none, brake := none, lastEnd := some a.gtb }) a
      (¬ all → exec (.overcurrent t channel c0 c1 c2 c3) s = .next a) ∧
      (all → hapOn u n = true → exec (.overcurrent t channel c0 c1 c2 c3) s = .next (hapEvent n 5 0 e.id (wrB (Reg.HAP_Cn_STAT n) Fld.HAP_Cn_STAT_OVERCURRENT true (setHapState n 5 u))))) ∧
    (∀ amps cr, (hapOf h n).cal = none → exec (.hapticCalibrationDone t channel amps cr) s = .next h) ∧
    (∀ (amps : List (BitVec 12)) cr began hp fr bad, (hapOf h n).cal = some (none, began) → (hapOf h n).brake = none → isErm h n = false →
      calResult false (fld h (Reg.HAP_Cn_CAL0 n) Fld.HAP_Cn_CAL0_F_LO) (fld h (Reg.HAP_Cn_CAL0 n) Fld.HAP_Cn_CAL0_F_HI) (fld h (Reg.HAP_Cn_CAL1 n) Fld.HAP_Cn_CAL1_CAL_MIN) (amps.map BitVec.toNat) cr = (hp, fr, bad) →
      let u := setHap n (fun r => { r with cal := none }) h
      (bad = 0 → exec (.hapticCalibrationDone t channel amps cr) s = .next (hapEvent n 1 0 0 (setHapState n 2 (showCal n (setHap n (fun r => { r with lra := some (hp, fr) }) u))))) ∧
      (bad ≠ 0 → exec (.hapticCalibrationDone t channel amps cr) s = .next (hapEvent n 2 bad 0 (wrB (Reg.HAP_Cn_STAT n) Fld.HAP_Cn_STAT_CAL_FAIL true (setHapState n 5 u)))))

/-! ### Audio, DMA, check values -/

/-- Audio (R481 to R508): a frame boundary that is due steps the gains, then makes every write that waited, in the order of issue, the tone, the streams, the inputs, and then every sink and the
writeback; one that is not due does nothing. A slave port that loses FSYNC shows NO_CLOCK and counts the loss once, and its return shows the rate (R496). The attention tone's end applies the
disables it held back. A headset's insertion, type, buttons and removal are confirmed after their debounce times and recorded with the stamp of their first sample (R505 to R508). -/
def Obligations.AudioEventsComplete : Prop :=
  ∀ (t : Tick) (s : State),
    let h := advance t s
    (∀ ext missed, boundaryDue h = false → exec (.audioFrameBoundary t ext missed) s = .next h) ∧
    (∀ (ext : List (List Word)) (missed : BitVec 32), boundaryDue h = true →
      let a := setAud stepGains (nextBoundary h)
      let b := a.aud.writes.foldl applyAud (setAud (fun x => { x with writes := [] }) a)
      let c := (List.range 32).foldl (streamBoundary missed.toNat) (toneFrame ((List.range 11).foldl refreshSink b))
      exec (.audioFrameBoundary t ext missed) s = .next (writebackFrame ((List.range 11).foldl sinkFrame ((List.range 10).foldl (inputBoundary ext) c)))) ∧
    (∀ r, h.aud.tone = some r →
      (r.done = false → exec (.attentionEnd t) s = .next h) ∧
      (r.done = true → exec (.attentionEnd t) s = .next ((List.range 11).foldl refreshSink (h.aud.heldOff.foldl (fun (s : State) (k : Nat) => wrB (Reg.AUD_Kk_CTRL k) Fld.AUD_Kk_CTRL_ENABLE false s)
        (wrB Reg.AUD_ATT_STAT Fld.AUD_ATT_STAT_SOUNDING false (setAud (fun a => { a with tone := none, toneNow := (0, 0), heldOff := [] }) h)))))) ∧
    (∀ (port : BitVec 3) (rate : BitVec 18),
      let n := port.toNat
      let slave := flg h (Reg.AUD_TDMn_FMT n) Fld.AUD_TDMn_FMT_EN = true ∧ flg h (Reg.AUD_TDMn_FMT n) Fld.AUD_TDMn_FMT_MASTER = false
      (slave → flg h (Reg.AUD_Ie_STAT n) Fld.AUD_Ie_STAT_NO_CLOCK = false → ∃ w, exec (.tdmClockLoss t port) s = .next (wr (Reg.AUD_Ie_STAT n) w h) ∧ getB w Fld.AUD_Ie_STAT_NO_CLOCK = true) ∧
      (flg h (Reg.AUD_Ie_STAT n) Fld.AUD_Ie_STAT_NO_CLOCK = true → exec (.tdmClockLoss t port) s = .next h) ∧
      (slave → exec (.tdmClockReturn t port rate) s = .next (wrB (Reg.AUD_Ie_STAT n) Fld.AUD_Ie_STAT_NO_CLOCK false (wrF (Reg.AUD_TDMn_PSTAT n) Fld.AUD_TDMn_PSTAT_RATE rate.toNat h))) ∧
      (¬ slave → exec (.tdmClockLoss t port) s = .next h ∧ exec (.tdmClockReturn t port rate) s = .next h)) ∧
    (∀ (port : BitVec 1) (since : Tick),
      let n := port.toNat
      let plugged := flg h (Reg.AUD_HSn_STAT n) Fld.AUD_HSn_STAT_PLUGGED
      let deb := 200000 * fld h (Reg.AUD_HSn_DET n) Fld.AUD_HSn_DET_DET_DEB
      (hsLive h n = false ∨ h.gtb < since + deb → exec (.headsetInsertConfirm t port since) s = .next h) ∧
      (hsLive h n = true → since + deb ≤ h.gtb → plugged = false →
        exec (.headsetInsertConfirm t port since) s = .next (setHsStat n true true 0 7 (setHs n (fun h => { h with since := since, removing := none }) h))) ∧
      (∀ r2 sl, hsLive h n = true → flg h (Reg.AUD_HSn_STAT n) Fld.AUD_HSn_STAT_MEASURING = true →
        exec (.headsetTypeMeasured t port r2 sl) s = .next (hsEvent n 1 (headsetType r2.toNat sl.toNat) (hsOf h n).since (setHsStat n true false (headsetType r2.toNat sl.toNat) 7 h))) ∧
      (plugged = false → exec (.headsetRemoval t port since) s = .next h) ∧
      (hsLive h n = true → plugged = true → flg h (Reg.AUD_HSn_STAT n) Fld.AUD_HSn_STAT_MEASURING = false →
        let u := setHs n (fun h => { h with removing := some since }) (setHsStat n true false 0 7 h)
        let wait := 200000 * fld u (Reg.AUD_HSn_DET n) Fld.AUD_HSn_DET_DET_DEB
        (h.gtb < since + wait → exec (.headsetRemoval t port since) s = .next u) ∧
        (since + wait ≤ h.gtb → exec (.headsetRemoval t port since) s = .next (hsEvent n 2 0 since (setHs n (fun h => { h with removing := none }) (setHsStat n false false 0 7 u))))) ∧
      (∀ ohms : BitVec 24,
        let ty := fld h (Reg.AUD_HSn_STAT n) Fld.AUD_HSn_STAT_TYPE
        let old := fld h (Reg.AUD_HSn_STAT n) Fld.AUD_HSn_STAT_BUTTON
        let b := buttonBand h n ohms.toNat
        (b = old → exec (.headsetButtonConfirm t port ohms since) s = .next h) ∧
        (hsLive h n = true → ty = 2 ∨ ty = 3 → old = 7 → b ≠ 7 → since + 200000 * fld h (Reg.AUD_HSn_DET n) Fld.AUD_HSn_DET_BTN_DEB ≤ h.gtb →
          exec (.headsetButtonConfirm t port ohms since) s = .next (hsEvent n 3 b since (wrF (Reg.AUD_HSn_STAT n) Fld.AUD_HSn_STAT_BUTTON b h)))))

/-- DMA channels and check-value units (R509 to R531): an idle enabled channel loads the set whose turn it is; a contracted set that comes before the running one takes its place, which waits; a set's end
delivers it, counts it, and starts the set that waited; a pause stops the register job on a 64-byte block; a unit's job in hand ends with its value kept as the result. -/
def Obligations.DataMoverEventsComplete : Prop :=
  ∀ (t : Tick) (s : State) (channel : BitVec 7) (unit : BitVec 2),
    let h := advance t s
    let n := channel.toNat
    let r := dmaOf h n
    let u := unit.toNat
    (flg h (Reg.DMA_Cn_CTRL n) Fld.DMA_Cn_CTRL_ENABLE = false ∨ nextSet h.gtb r = none → exec (.dmaSetLoad t channel) s = .next h) ∧
    (∀ x, flg h (Reg.DMA_Cn_CTRL n) Fld.DMA_Cn_CTRL_ENABLE = true → nextSet h.gtb r = some x → r.running = none →
      exec (.dmaSetLoad t channel) s = .next (beginSet n x (setDma n (takeSet x) h))) ∧
    (∀ x y, flg h (Reg.DMA_Cn_CTRL n) Fld.DMA_Cn_CTRL_ENABLE = true → nextSet h.gtb r = some x → r.running = some y →
      (setBefore x y = true → r.shadow = none → exec (.dmaSetLoad t channel) s = .next (beginSet n x (setDma n (fun q => backSet y (takeSet x q)) h))) ∧
      (setBefore x y = false → flg h (Reg.DMA_Cn_CTRL n) Fld.DMA_Cn_CTRL_MODE = true → r.shadow = none →
        exec (.dmaSetLoad t channel) s = .next (setDma n (fun q => { takeSet x q with shadow := some x }) h)) ∧
      (setBefore x y = false → flg h (Reg.DMA_Cn_CTRL n) Fld.DMA_Cn_CTRL_MODE = false → exec (.dmaSetLoad t channel) s = .next h)) ∧
    (r.running = none → exec (.dmaSetDone t channel) s = .next h) ∧
    (∀ x, r.running = some x →
      let a := setDma n (fun r => { r with running := none }) (wr (Reg.DMA_Cn_MOVED n) (BitVec.ofNat 32 x.count) (dmaRun n x h))
      let cnt (b : Bits) (s : State) : State := wrF (Reg.DMA_Cn_SETS n) b (fld s (Reg.DMA_Cn_SETS n) b + 1) s
      let e := if x.isReg then
          (let w := wrB (Reg.DMA_Cn_STAT n) Fld.DMA_Cn_STAT_DONE true a
           raiseSource (obj 8 (0x200 + n)) (fld a (Reg.DMA_Cn_CTRL n) Fld.DMA_Cn_CTRL_VECTOR) (cnt Fld.DMA_Cn_SETS_REGISTER w))
        else dmaDeliver x (ctxPoison h (dmaCtx h n x.dflags false) x.src x.count) (cnt Fld.DMA_Cn_SETS_CONTRACTED a)
      ((dmaOf e n).shadow = none → exec (.dmaSetDone t channel) s = .next e) ∧
      (∀ y, (dmaOf e n).shadow = some y → exec (.dmaSetDone t channel) s = .next (beginSet n y (setDma n (fun r => { r with shadow := none }) e)))) ∧
    (∀ bytes : BitVec 31, ((cvOf h u).reg = none ∨ (cvOf h u).pause = false → exec (.cvPaused t unit bytes) s = .next h) ∧
      (∀ job, (cvOf h u).reg = some job → (cvOf h u).pause = true →
        (bytes.toNat % 64 = 0 ∨ job.2.1 ≤ bytes.toNat → exec (.cvPaused t unit bytes) s = .next (cvPauseAt u job bytes.toNat h)) ∧
        (bytes.toNat % 64 ≠ 0 → bytes.toNat < job.2.1 → exec (.cvPaused t unit bytes) s = .next h))) ∧
    (gateOn h (0x21 + u) = false → exec (.cvJobDone t unit) s = .next h) ∧
    (∀ j, gateOn h (0x21 + u) = true → cvCurrent h.gtb (cvOf h u) = some j → exec (.cvJobDone t unit) s = .next (cvJobDone u j h)) ∧
    (∀ job, gateOn h (0x21 + u) = true → cvCurrent h.gtb (cvOf h u) = none → (cvOf h u).reg = some job → exec (.cvJobDone t unit) s = .next (cvRegDone u job h))

/-! ### Clocks, power, resets, boot -/

/-- Clocks and power (R535 to R566): a loss of CLKIN acts once; its return shows CLKIN_OK, releases a reset that waited for it, and relocks; the relock of the last loop ends the loss interval and is
recorded; a loop locks only with its reference; the shader clock switches step by step and answers the last; drains end in OFF; wakes are admitted in queue order; a wake completes once its
island's clock is good; standby is reached when every gate of its set is OFF and left when they are ON. -/
def Obligations.ClockAndPowerEventsComplete : Prop :=
  ∀ (t : Tick) (s : State),
    let h := advance t s
    (clkinOk h = true → exec (.clkinLoss t) s = .next (clkinLoss h) ∧ exec (.clkinReturn t) s = .next h) ∧
    (clkinOk h = false → exec (.clkinLoss t) s = .next h) ∧
    (clkinOk h = false → lossForced h = false →
      let u := wr Reg.CLK_STAT (setB (setB (rd h Reg.CLK_STAT) Fld.CLK_STAT_CLKIN_OK true) Fld.CLK_STAT_RELOCKING (flg h Reg.CLK_STAT Fld.CLK_STAT_CLK_LOST)) h
      (h.pwr.inReset = true → h.pwr.thermalHold = false → exec (.clkinReturn t) s = .next (releaseReset u)) ∧
      (h.pwr.inReset = false → exec (.clkinReturn t) s =
        .next ([0, 1].foldl (fun (s : State) (n : Nat) => if fld s (Reg.CLK_ISLn n) Fld.CLK_ISLn_SRC = 1 then wrB (Reg.CLK_ISLn n) Fld.CLK_ISLn_GOOD true s else s) u))) ∧
    (clkinOk h = false ∨ flg h Reg.CLK_STAT Fld.CLK_STAT_RELOCKING = false → exec (.loopsRelocked t) s = .next h) ∧
    (clkinOk h = true → flg h Reg.CLK_STAT Fld.CLK_STAT_RELOCKING = true →
      let a := wrB Reg.CLK_STAT Fld.CLK_STAT_RELOCKING false ((List.range 16).foldl relock h)
      let u := setLossRegs a.pwr.lossStart a.gtb (setPwr (fun p => { p with lossEnd := a.gtb }) a)
      exec (.loopsRelocked t) s = .next (postPower (bit (flg u Reg.CLK_STAT Fld.CLK_STAT_FORCED)) 0xFFFF 6 0 u.pwr.lossStart u)) ∧
    (∀ island : BitVec 5,
      let n := island.toNat
      let may := n < 20 ∧ fld h (Reg.CLK_ISLn n) Fld.CLK_ISLn_SRC ≠ 0 ∧ isGood h n = false ∧ flg h (Reg.CLK_ISLn n) Fld.CLK_ISLn_COASTING = false ∧ clkinOk h = true
      (may → exec (.loopLock t island) s = .next (noteGate n (islandGood n h))) ∧ (¬ may → exec (.loopLock t island) s = .next h)) ∧
    (h.pwr.shdNext = [] → exec (.sourceSwitch t 2) s = .next h) ∧
    (∀ f rest, h.pwr.shdNext = f :: rest → fld h (Reg.CLK_ISLn 2) Fld.CLK_ISLn_SRC = 2 →
      let u := setPwr (fun p => { p with shdKhz := f, shdNext := rest }) (wr (Reg.CLK_ISLn 2) (setF (setF (rd h (Reg.CLK_ISLn 2)) Fld.CLK_ISLn_FREQ_KHZ f) Fld.CLK_ISLn_SRC 3) h)
      (longPorts u 0x0B02 = [] → exec (.sourceSwitch t 2) s = .next u) ∧
      (∀ x xs, longPorts u 0x0B02 = x :: xs → exec (.sourceSwitch t 2) s = .next (finishLong x.2 (stDone (le 4 f)) u))) ∧
    (∀ gate : BitVec 8,
      (gateState h gate.toNat = .draining → exec (.drainEnd t gate) s = .next (drainEnd gate.toNat h)) ∧
      (gateState h gate.toNat ≠ .draining → exec (.drainEnd t gate) s = .next h) ∧
      (gateState h gate.toNat = .waking → isIsland gate.toNat = false ∨ isGood h gate.toNat = true → exec (.wakeComplete t gate) s = .next (wakeComplete gate.toNat h)) ∧
      (gateState h gate.toNat ≠ .waking → exec (.wakeComplete t gate) s = .next h)) ∧
    (exec (.wakeAdmission t) s = .next (admitWakes h.pwr.queue.length h)) ∧
    (∀ e q, h.pwr.queue = e :: q → 8 < inrushUsed h + gateCost e.gate → exec (.wakeAdmission t) s = .next h) ∧
    (pwrMode h = 2 → (∀ g ∈ h.pwr.standbySet, gateState h g = .off) → exec (.standbyReached t) s = .next (standbyReached h)) ∧
    (pwrMode h ≠ 2 → exec (.standbyReached t) s = .next h) ∧
    (pwrMode h = 3 → (∀ g ∈ h.pwr.standbySet ++ [4], gateState h g = .on) → exec (.standbyLeft t) s = .next (standbyLeft h)) ∧
    (pwrMode h ≠ 3 → exec (.standbyLeft t) s = .next h)

/-- Resets, the watchdog, temperature, boot and the dump (R557 to R562, R606 to R609, R631, R632): a power-on reset resets everything but the fuses, the flash and host memory; a dip of a rail of 400 ticks
is one; a device reset keeps the ISO log, the index counter and GTB and ends every session and contract (R183, R559); the watchdog fires at the end of its window; the boot runs once. -/
def Obligations.ResetEventsComplete : Prop :=
  ∀ (t : Tick) (s : State),
    let h := advance t s
    (∀ good : Bool, ∃ u, exec (.powerOnReset t good) s = .next u ∧ u.gtb = 0 ∧ u.iso.fifo = [] ∧ u.iso.ring = [] ∧ u.gcp.sessions = [] ∧ u.ledger.contracts = [] ∧ u.boot.otp = s.boot.otp ∧
      u.boot.flash = s.boot.flash ∧ u.mem.host = s.mem.host ∧ u.mem.dpa = [] ∧ u.boot.running = false ∧ u.pwr.inReset = !good) ∧
    (∀ (rail : BitVec 3) (ticks : Word),
      (ticks.toNat < 400 → exec (.supplyDip t rail ticks) s = .next h) ∧ (400 ≤ ticks.toNat → exec (.supplyDip t rail ticks) s = .next (powerOnReset false s))) ∧
    (exec (.deviceReset t 1) s = .next (deviceReset 1 h.pwr.thermalHold h)) ∧
    (h.boot.resetPending ≠ none → exec (.deviceReset t 4) s = .next (deviceReset 4 false h)) ∧
    (h.boot.resetPending = none → exec (.deviceReset t 4) s = .next h) ∧
    (exec (.thermalTrip t) s = .next (deviceReset 6 true h)) ∧
    (∀ (c : Nat) (hold : Bool),
      let r := deviceReset c hold h
      r.gtb = h.gtb ∧ r.iso.fifo = h.iso.fifo ∧ r.iso.ring = h.iso.ring ∧ r.iso.nextIndex = h.iso.nextIndex ∧ r.iso.lost = h.iso.lost ∧ r.gcp.sessions = [] ∧ r.ledger.contracts = [] ∧
        r.boot.running = false ∧ r.boot.otp = h.boot.otp ∧ r.boot.flash = h.boot.flash) ∧
    (∀ g gs, h.pwr.resets = g :: gs → exec (.blockResetDone t) s = .next (blockResetDone g h)) ∧
    (h.pwr.resets = [] → exec (.blockResetDone t) s = .next h) ∧
    (let late := (wdWindow h).2 ≤ h.gtb
     (wdRunning h = true → wdDumping h = false → late → exec (.watchdogExpiry t) s = .next (hardwareDump 1 2 (setPwr (fun p => { p with wdEarly := false }) h))) ∧
     (wdRunning h = false ∨ ¬ late → exec (.watchdogExpiry t) s = .next h)) ∧
    (let due := flg h Reg.PWR_THERM_CTRL Fld.PWR_THERM_CTRL_ALARM_EN = true ∧ h.pwr.alarmArmed = true ∧ alarmAt h ≤ dieTemp h
     (due → exec (.thermalAlarm t) s = .next (postPower 0 0xFFFF 8 0 0 (raiseHolm 4 (wrB Reg.PWR_THERM_CTRL Fld.PWR_THERM_CTRL_ALARM true (setPwr (fun p => { p with alarmArmed := false }) h))))) ∧
     (¬ due → exec (.thermalAlarm t) s = .next h)) ∧
    (∀ temps : List (BitVec 16), ∃ u, exec (.dieSensorRead t temps) s = .next u ∧ u.gcp = h.gcp ∧ u.ledger = h.ledger ∧ (temps ≠ [] → u.pwr.sensors = temps.map (fun w => w.toNat))) ∧
    (∀ tr le_ v rh i0 i1 lm ok,
      (h.pwr.inReset = true ∨ h.boot.running = true ∨ h.boot.recovery ≠ none ∨ h.boot.bootDone ≠ none ∨ h.boot.dump.writing ≠ none → exec (.bootSequence t tr le_ v rh i0 i1 lm ok) s = .next h) ∧
      (h.pwr.inReset = false → h.boot.running = false → h.boot.recovery = none → h.boot.bootDone = none → h.boot.dump.writing = none →
        exec (.bootSequence t tr le_ v rh i0 i1 lm ok) s = .next (bootRun ⟨tr, le_, v, rh, i0, i1, lm, ok⟩ h))) ∧
    (h.boot.dump.writing = none → exec (.dumpComplete t) s = .next h) ∧
    (∀ k at_, h.boot.dump.writing = some (k, at_) →
      exec (.dumpComplete t) s = .next (if h.boot.dump.thenReset = 0 then dumpWrite k at_ h else deviceReset h.boot.dump.thenReset false (dumpWrite k at_ h))) ∧
    (∀ b, h.boot.bootDone = some b → b + 2000000000 ≤ h.gtb → h.boot.dump.writing = none → h.boot.dump.dumps = 0 →
      exec (.dumpStreakClear t) s = .next (wrF Reg.REG_BOOT_STAT Fld.REG_BOOT_STAT_DUMP_STREAK 0 h)) ∧
    (∀ b, h.boot.bootDone = some b → h.gtb < b + 2000000000 → exec (.dumpStreakClear t) s = .next h) ∧
    (flg h Reg.REG_CRC_CTRL Fld.REG_CRC_CTRL_EN = false → exec (.crcPassEnd t []) s = .next h) ∧
    (flg h Reg.REG_CRC_CTRL Fld.REG_CRC_CTRL_EN = true →
      let p := passEnd h
      exec (.crcPassEnd t []) s = .next (if p.2 = true ∧ fld p.1 Reg.REG_CRC_CTRL Fld.REG_CRC_CTRL_POLICY = 1 then dumpTrigger 4 4 p.1 else p.1))

/-! ### Register accesses -/

/-- R106: a doorbell write of PI_new is accepted only when both conditions of the rule hold; then PI takes it and every packet it makes available carries the write's stamp; any other doorbell write is
ignored and sets DB_OVERRUN; one that repeats PI_old has no effect. -/
def Obligations.DoorbellsAreJudgedByR106 : Prop :=
  ∀ (t : Tick) (s : State) (fn : Fn) (holm : Bool) (world : World) (pi : BitVec 7),
    let h := advance t s
    let rq : Requester := ⟨fn, world⟩
    let off := ringOff fn.val holm 0xC
    let r := ringRec (dropLatch rq h) fn.val holm
    let dist (a b : Nat) : Nat := (b + 128 - a % 128) % 128
    let accepted := dist r.ri pi.toNat ≤ 64 ∧ dist r.pi pi.toNat ≤ dist r.ri pi.toNat
    portExists (.ring fn holm) = true → portExists (.ring fn (world == .holm)) = true → Plain rq off off h →
      ∃ q : RingRec, exec (.ringDoorbell t fn holm world pi) s = .next (passHeld (portOf h fn.val) (setRing fn.val holm (fun _ => q) (dropLatch rq h))) ∧
        (accepted → q = { r with pi := pi.toNat, stamps := q.stamps } ∧ q.stamps = r.stamps ++ List.replicate (dist r.pi pi.toNat) h.gtb) ∧
        (accepted → pi.toNat = r.pi → r.pi < 128 → q = r) ∧
        (¬ accepted → q = { r with dbOverrun := true })

/-- R15: a Mainland access to a Holm-owned register completes without error; a read returns zero; a write changes nothing; ISO_FAULT is logged with the function, the address and the direction. (The
requester's pair latch clears with any other write of it, R578.) -/
def Obligations.MainlandReachesNoHolmRegister : Prop :=
  ∀ (t : Tick) (s : State) (pf : BitVec 2) (off : BitVec 26) (value : Word) (be : BitVec 4),
    let h := advance t s
    let rq := pfReq pf .mainland
    let o := off.toNat / 4 * 4
    (∀ f ∈ h.lnk.faults, faultAims f 0 pf.toNat 0 0 = false) → tget none h.lnk.held (heldKey pf.toNat 0) = none → reached h rq = true →
      accessOwner pf.toNat o = .holm ∨ (∃ b, accessOwner pf.toNat o = .obj b ∧ holmOwned h b = true) →
        exec (.registerWrite t rq off .read) s = .next { isoLog 0x01 pf.toNat 0 0 o (logObj o) 0 h with busData := 0 } ∧
        (buffered h rq o = false ∨ be ≠ 15#4 → exec (.registerWrite t rq off (.write value be)) s = .next (isoLog 0x01 pf.toNat 0 1 o (logObj o) 0 (dropLatch rq h)))

/-- Register accesses (R12, R34, R438, R568 to R571, R577, R578, R635): a write that reaches its register has that register's effect; one with partial byte enables changes no register; a window that
does not answer changes nothing; a read shows its word in the read data window; a table port's data register writes the entry that its INDEX selects; a write of 1 to SNAP captures the group; a held
TLP passes on after 200,000 ticks; a value write arms the latch, which lapses after 2,000 ticks; RESET and RI of rings and queues. -/
def Obligations.BusAccessesComplete : Prop :=
  ∀ (t : Tick) (s : State) (rq : Requester) (off : BitVec 26) (value : Word) (be : BitVec 4) (o : Nat),
    let h := advance t s
    let p := portOf h rq.fn.val
    let z := dropLatch rq h
    let calm := ∀ f ∈ h.lnk.faults, faultAims f 0 p 0 0 = false
    (Plain rq off.toNat o h → exec (.registerWrite t rq off (.write value 15#4)) s = .next (passHeld p (applyReg rq o value z))) ∧
    (calm → reached h rq = true → windowOff h rq.fn.val (off.toNat / 4 * 4) = some o → be ≠ 15#4 → miss h rq o true true = none →
      exec (.registerWrite t rq off (.write value be)) s = .next (passHeld p (bumpErr Fld.REG_ERR_PARTIAL z))) ∧
    (calm → reached h rq = false → exec (.registerWrite t rq off (.write value be)) s = .next (passHeld p h)) ∧
    (calm → exec (.registerWrite t rq off .read) s = .next (passHeld p { (busRead rq off.toNat h).2 with busData := (busRead rq off.toNat h).1 }) ∧
      exec (.tablePortAccess t rq off .read) s = .next (passHeld p { (busRead rq off.toNat h).2 with busData := (busRead rq off.toNat h).1 })) ∧
    (∀ q : PortSel, Plain rq off.toNat o h → portAt z o = some q → exec (.tablePortAccess t rq off (.write value 15#4)) s = .next (passHeld p (writePort o q value z))) ∧
    (Plain rq off.toNat o h → isSnapCtrl o = true → exec (.snap t rq off) s = .next (passHeld p (snapCapture rq o z))) ∧
    (∀ (port : BitVec 2) (outbound : Bool),
      let k := heldKey port.toNat (bit outbound)
      let c := setLnk (fun l => { l with held := tput none l.held k none }) h
      (tget none h.lnk.held k = none → exec (.heldTlpRelease t port outbound) s = .next h) ∧
      (∀ x since, tget none h.lnk.held k = some (.inbound x since) → exec (.heldTlpRelease t port outbound) s = .next (if since + 200000 ≤ h.gtb then busWrite x.rq x.off x.value x.be c else h)) ∧
      (∀ a bs since, tget none h.lnk.held k = some (.outbound a bs since) → exec (.heldTlpRelease t port outbound) s = .next (if since + 200000 ≤ h.gtb then wrHost port.toNat a bs c else h))) ∧
    (∀ (pf : BitVec 2) (world : World) (register : Fin 15),
      let a := pairOffsets.getD register.val 0
      Lands (pfReq pf world) a a h → exec (.pairValueWrite t pf world register value) s = .next (passHeld pf.toNat (armed (pfReq pf world) a value h))) ∧
    ((pairRec h rq).armed = none → exec (.pairLatchLapse t rq) s = .next h) ∧
    (∀ a v at_, (pairRec h rq).armed = some (a, v, at_) → exec (.pairLatchLapse t rq) s = .next (if at_ + 2000 ≤ h.gtb then setPair rq { lapsed := some a } h else h)) ∧
    (∀ (fn : Fn) (holm : Bool) (world : World) (enable irqEn : Bool) (ri : BitVec 13),
      let r : Requester := ⟨fn, world⟩
      portExists (.ring fn holm) = true → portExists (.ring fn (world == .holm)) = true →
      (Plain r (ringOff fn.val holm 8) (ringOff fn.val holm 8) h → exec (.ringReset t fn holm world enable irqEn) s =
        .next (passHeld (portOf h fn.val) (setRing fn.val holm (fun x => { x with irqEn := irqEn, enable := enable, resetPending := true }) (dropLatch r h)))) ∧
      (Plain r (ringOff fn.val holm 0x10C) (ringOff fn.val holm 0x10C) h → exec (.eqReadIndexWrite t fn holm world ri) s =
        .next (passHeld (portOf h fn.val) (setEq fn.val holm (fun q => if eqRiOk q ri.toNat then { q with ri := ri.toNat } else { q with riErr := true }) (dropLatch r h)))))

/-- Ownership (R153 to R157, R637): selecting an object and writing its pair claims a Mainland object for Holm, or begins the release of a Holm one, or changes the grant of a Mainland one at once; while a
change is pending, and for an object that follows another, nothing changes but REFUSED for the latter; the end of a change shows DONE, and a release takes effect in the table at that moment. -/
def Obligations.OwnershipChangesComplete : Prop :=
  ∀ (t : Tick) (s : State) (pf : BitVec 2) (world : World) (object : BitVec 16) (granted : Bool) (fn : Fn),
    let h := advance t s
    let rq := pfReq pf world
    let a := passHeld pf.toNat (ownSelect (object.setWidth 32) (dropLatch rq h))
    let claim := ownSpell true false 0
    let grant := ownSpell false granted fn.val
    let u (w : Word) : State := pairDone rq Reg.ISO_OWN_DATA w a
    let e : OwnRec := ⟨false, granted, fn.val⟩
    let open_ (w : Word) : Prop := Plain rq Reg.ISO_OWN_IDX Reg.ISO_OWN_IDX h ∧ PairLands rq Reg.ISO_OWN_DATA w a
    let free (w : Word) : Prop := (u w).iso.change = none ∧ ownSelected (u w) = object.toNat ∧ objExists object.toNat = true ∧ followed object.toNat = none
    (open_ claim → free claim → holmOwned (u claim) object.toNat = false → exec (.isoOwnClaim t pf world object) s = .next (passHeld pf.toNat (claimObject object.toNat (u claim)))) ∧
    (open_ claim → free claim → holmOwned (u claim) object.toNat = true → exec (.isoOwnClaim t pf world object) s = .next (passHeld pf.toNat (u claim))) ∧
    (open_ grant → free grant → holmOwned (u grant) object.toNat = true → exec (.isoOwnRelease t pf world object granted fn) s = .next (passHeld pf.toNat (releaseObject object.toNat e (u grant)))) ∧
    (open_ grant → free grant → holmOwned (u grant) object.toNat = false → exec (.isoOwnGrant t pf world object granted fn) s = .next (passHeld pf.toNat (setOwn object.toNat e (u grant)))) ∧
    (open_ grant → (u grant).iso.change ≠ none →
      exec (.isoOwnGrant t pf world object granted fn) s = .next (passHeld pf.toNat (u grant)) ∧ exec (.isoOwnRelease t pf world object granted fn) s = .next (passHeld pf.toNat (u grant))) ∧
    (open_ claim → (u claim).iso.change ≠ none → exec (.isoOwnClaim t pf world object) s = .next (passHeld pf.toNat (u claim))) ∧
    (open_ grant → (u grant).iso.change = none → ownSelected (u grant) = object.toNat → objExists object.toNat = true → followed object.toNat ≠ none →
      exec (.isoOwnGrant t pf world object granted fn) s = .next (passHeld pf.toNat (wrB Reg.ISO_OWN_STAT Fld.ISO_OWN_STAT_REFUSED true (u grant)))) ∧
    (let idle : State := { h with iso := { h.iso with change := none } }
     (h.iso.change = none → exec (.isoOwnClaimDone t) s = .next h ∧ exec (.isoOwnReleaseDone t) s = .next h) ∧
     (∀ c, h.iso.change = some c → c.release = false →
       exec (.isoOwnReleaseDone t) s = .next h ∧
       exec (.isoOwnClaimDone t) s = .next (wrB Reg.ISO_OWN_STAT Fld.ISO_OWN_STAT_DONE true (wrB Reg.ISO_OWN_STAT Fld.ISO_OWN_STAT_PENDING false idle))) ∧
     (∀ c, h.iso.change = some c → c.release = true →
       exec (.isoOwnClaimDone t) s = .next h ∧
       exec (.isoOwnReleaseDone t) s = .next (wrB Reg.ISO_OWN_STAT Fld.ISO_OWN_STAT_DONE true (wrB Reg.ISO_OWN_STAT Fld.ISO_OWN_STAT_PENDING false (setOwn c.obj c.entry idle)))))

/-- Paired writes (R577, Table 20.6): once both writes of a pair have landed in the window of R577 the value has its effect, with the latch clear: the path flags (R320), a recovery (R413), a device reset
(R557), a block reset (R561), a watchdog service (R562), the configuration check's reference (R584, R585). -/
def Obligations.PairedWritesComplete : Prop :=
  ∀ (t : Tick) (s : State) (pf : BitVec 2) (world : World),
    let h := advance t s
    let rq := pfReq pf world
    let pass (u : State) : Host.Outcome State Fault Refusal := .next (passHeld pf.toNat u)
    let d (off : Nat) (v : Word) : State := pairDone rq off v h
    (PairLands rq Reg.TRV_CTRL 1 h → exec (.trvSetRaster t pf world) s = pass (faultSet Fld.TRV_STAT_RASTER_FAULT (d Reg.TRV_CTRL 1))) ∧
    (PairLands rq Reg.TRV_CTRL 2 h → exec (.trvSetTrv t pf world) s = pass (faultSet Fld.TRV_STAT_TRV_FAULT (d Reg.TRV_CTRL 2))) ∧
    (PairLands rq Reg.TRV_CTRL 4 h →
      let u := d Reg.TRV_CTRL 4
      let may := fld u Reg.TRV_STAT Fld.TRV_STAT_LAST_CLASS = 1 ∧ u.trv.rasterSetAt < u.trv.lastBegan
      (may → exec (.trvClearRaster t pf world) s = pass (wrB Reg.TRV_STAT Fld.TRV_STAT_RASTER_FAULT false u)) ∧
      (¬ may → exec (.trvClearRaster t pf world) s = pass (wrB Reg.TRV_STAT Fld.TRV_STAT_CLEAR_REFUSED true u))) ∧
    (PairLands rq Reg.TRV_CTRL 8 h →
      let u := d Reg.TRV_CTRL 8
      let may := fld u Reg.TRV_STAT Fld.TRV_STAT_LAST_CLASS = 1 ∧ u.trv.travSetAt < u.trv.lastBegan
      (may → exec (.trvClearTrv t pf world) s = pass (wrB Reg.TRV_STAT Fld.TRV_STAT_TRV_FAULT false u)) ∧
      (¬ may → exec (.trvClearTrv t pf world) s = pass (wrB Reg.TRV_STAT Fld.TRV_STAT_CLEAR_REFUSED true u))) ∧
    (∀ n : BitVec 3, PairLands rq (Reg.CRL_RECOVER n.toNat) 1 h →
      exec (.crlRecover t pf world n) s = pass (setCrl n.toNat (fun c => { c with recover := true }) (d (Reg.CRL_RECOVER n.toNat) 1))) ∧
    (PairLands rq Reg.RST_REQ 1 h → exec (.rstReqDevice t pf world) s = pass (deviceReset 4 false (d Reg.RST_REQ 1))) ∧
    (∀ g : BitVec 16, PairLands rq Reg.RST_BLK (g.setWidth 32) h →
      let u := d Reg.RST_BLK (g.setWidth 32)
      (resettable u g.toNat = false → exec (.rstBlk t pf world g) s = pass (wrB Reg.RST_BLK_STAT Fld.RST_BLK_STAT_REFUSED true u)) ∧
      (resettable u g.toNat = true →
        let v := (gateSubtree g.toNat).foldl (fun (s : State) (x : Nat) => resetBlock x s) (setGate g.toNat (fun r => { r with state := .resetting }) u)
        exec (.rstBlk t pf world g) s = pass (setPwr (fun p => { p with resets := p.resets ++ [g.toNat] }) (wrB Reg.RST_BLK_STAT Fld.RST_BLK_STAT_BUSY true v)))) ∧
    (∀ v : Word, PairLands rq Reg.RST_WD_SVC v h →
      let u := d Reg.RST_WD_SVC v
      (wdRunning u = false → exec (.watchdogService t pf world v) s = pass u) ∧
      (wdRunning u = true → wdDumping u = false → u.gtb < (wdWindow u).1 → exec (.watchdogService t pf world v) s = pass (wdExpire true u)) ∧
      (wdRunning u = true → wdDumping u = false → (wdWindow u).1 ≤ u.gtb → (wdWindow u).2 ≤ u.gtb → exec (.watchdogService t pf world v) s = pass (wdExpire false u)) ∧
      (wdRunning u = true → wdDumping u = false → (wdWindow u).1 ≤ u.gtb → u.gtb < (wdWindow u).2 →
        exec (.watchdogService t pf world v) s = pass (wrF Reg.RST_WD_STAT Fld.RST_WD_STAT_SERVICES ((fld u Reg.RST_WD_STAT Fld.RST_WD_STAT_SERVICES + 1) % 65536) (setPwr (fun p => { p with wdLast := u.gtb }) u)))) ∧
    (PairLands rq Reg.REG_CRC_COMMIT 1 h →
      let u := d Reg.REG_CRC_COMMIT 1
      exec (.crcCommit t pf world) s = pass (measure 0x0013 0 (le 4 (holmRef u).toNat) [] { wr Reg.REG_CRC_COMMITTED (holmRef u) u with rg := { u.rg with resynced := false } })) ∧
    (∀ g : Byte, PairLands rq Reg.REG_CRC_RESYNC (g.setWidth 32) h →
      let u := d Reg.REG_CRC_RESYNC (g.setWidth 32)
      exec (.crcResync t pf world g) s = pass { u with rg := { u.rg with resync := if u.rg.resync.contains g.toNat then u.rg.resync else u.rg.resync ++ [g.toNat] } })

/-- Control registers of units, part 1: debug enables only clear, and the clear is logged and measured (R174); LOCK of the carve-outs (R231); arming a scene slot (R315); a view applied at once (R336); a
video input enabled where its demand fits (R355); the seven sideband transactions (R431); the watchdog's enable, once (R562); firing and clearing a dump (R607). -/
def Obligations.ControlWritesComplete : Prop :=
  ∀ (t : Tick) (s : State) (pf : BitVec 2) (world : World),
    let h := advance t s
    let rq := pfReq pf world
    let z := dropLatch rq h
    let pass (u : State) : Host.Outcome State Fault Refusal := .next (passHeld pf.toNat u)
    let at_ (off : Nat) : Prop := Plain rq off off h
    (∀ en : BitVec 4, at_ Reg.ISO_DBG →
      let old := (rd z Reg.ISO_DBG).toNat
      let new := dbgAfterClear old en.toNat
      (new = old → exec (.dbgClear t pf world en) s = pass z) ∧
      (new ≠ old → exec (.dbgClear t pf world en) s =
        pass (measure 0x0010 0 (le 1 (new % 16)) [] (isoLog 0x42 pf.toNat 0 3 Reg.ISO_DBG 0xFFFF 0 (wr Reg.ISO_DBG (BitVec.ofNat 32 new) z))))) ∧
    (at_ Reg.DRC_CO_LOCK → flg z Reg.DRC_CO_LOCK Fld.DRC_CO_LOCK_LOCK = false → exec (.coLock t pf world) s = pass (plainWrite Reg.DRC_CO_LOCK 1 z)) ∧
    (∀ n : BitVec 3, at_ (Reg.TRV_ARMn n.toNat) →
      let arm (b : Bool) (u : State) : State := setArm n.toNat (fun r => if r.pending.isSome then r else { r with pending := some b }) u
      exec (.trvArmA t pf world n) s = pass (arm false (plainWrite (Reg.TRV_ARMn n.toNat) 1 z)) ∧
      exec (.trvArmB t pf world n) s = pass (arm true (plainWrite (Reg.TRV_ARMn n.toNat) 2 z))) ∧
    (∀ (r : Requester) (n : BitVec 3) (l : Fin 9),
      let i := 9 * n.toNat + l.val
      (layerWindow h r.fn.val i = none → exec (.viewApply t r n l) s = .next h) ∧
      (∀ b, layerWindow h r.fn.val i = some b → Plain r (b + 0xA0) (layerBase i + 0xA0) h → exec (.viewApply t r n l) s = .next (passHeld (portOf h r.fn.val) (viewApply i (dropLatch r h))))) ∧
    (∀ (v : BitVec 2) (value : Word),
      let r := Reg.VIN_CTRL v.toNat
      let y := plainWrite r (setB (setB value Fld.VIN_CTRL_ENABLE true) Fld.VIN_CTRL_ENABLE false) z
      at_ r → flg z r Fld.VIN_CTRL_ENABLE = false →
      (vinRefused y v.toNat = true → exec (.vinEnable t pf world v value) s = pass y) ∧
      (vinRefused y v.toNat = false → exec (.vinEnable t pf world v value) s = pass (vinStart v.toNat (wrB r Fld.VIN_CTRL_ENABLE true y)))) ∧
    (∀ (n : BitVec 3) (len : BitVec 5) (addr : BitVec 20),
      let off := Reg.LNK_TXg_SB_CTRL n.toNat
      let y (cmd : Nat) : State := plainWrite off (BitVec.ofNat 32 (packF Fld.LNK_TXg_SB_CTRL_START 1 + packF Fld.LNK_TXg_SB_CTRL_CMD cmd + packF Fld.LNK_TXg_SB_CTRL_LEN len.toNat +
        packF Fld.LNK_TXg_SB_CTRL_ADDR addr.toNat)) z
      at_ off →
      exec (.sbAuxRead t pf world n len addr) s = pass (sbStart n.toNat (y 0)) ∧ exec (.sbAuxWrite t pf world n len addr) s = pass (sbStart n.toNat (y 1)) ∧
      exec (.sbI2cRead t pf world n len addr) s = pass (sbStart n.toNat (y 2)) ∧ exec (.sbI2cWrite t pf world n len addr) s = pass (sbStart n.toNat (y 3)) ∧
      exec (.sbDcsShortWrite t pf world n len addr) s = pass (sbStart n.toNat (y 4)) ∧ exec (.sbDcsLongWrite t pf world n len addr) s = pass (sbStart n.toNat (y 5)) ∧
      exec (.sbDcsRead t pf world n len addr) s = pass (sbStart n.toNat (y 6)) ∧
      (∀ cmd, cmd < 7 → (txSt (y cmd) n.toNat).sb ≠ none → sbStart n.toNat (y cmd) = y cmd)) ∧
    (∀ (min : BitVec 14) (max : BitVec 16), at_ Reg.RST_WD_CTRL →
      let w := BitVec.ofNat 32 (packF Fld.RST_WD_CTRL_MAX max.toNat + packF Fld.RST_WD_CTRL_MIN min.toNat + packF Fld.RST_WD_CTRL_EN 1)
      (flg z Reg.RST_WD_CTRL Fld.RST_WD_CTRL_EN = true → exec (.watchdogEnable t pf world min max) s = pass z) ∧
      (flg z Reg.RST_WD_CTRL Fld.RST_WD_CTRL_EN = false → exec (.watchdogEnable t pf world min max) s =
        pass (wr Reg.RST_WD_STAT (BitVec.ofNat 32 (packF Fld.RST_WD_STAT_RUNNING 1)) (setPwr (fun p => { p with wdLast := h.gtb }) (plainWrite Reg.RST_WD_CTRL w z))))) ∧
    (∀ k : BitVec 3, at_ Reg.REG_DUMP_CTRL →
      let y := wrF Reg.REG_DUMP_CTRL Fld.REG_DUMP_CTRL_TRIGGER k.toNat z
      (3 ≤ k.toNat → k.toNat ≤ 5 → exec (.dumpFire t pf world k) s = pass (dumpTrigger k.toNat 0 y)) ∧
      (k.toNat < 3 ∨ 5 < k.toNat → exec (.dumpFire t pf world k) s = pass y) ∧
      exec (.dumpClear t pf world k) s = pass (setDump (fun d => { d with present := false, read := false }) y))

/-- Control registers of units, part 2: enabling a touch sensor (R444) and a haptic channel (R477), with their checks; audio registers act at the next frame boundary, in the order of the writes (R485);
START, STOP and disable of a DMA channel (R522, R523), its rate (R517), and GO and PAUSE of a check-value unit (R528, R529). -/
def Obligations.UnitWritesComplete : Prop :=
  ∀ (t : Tick) (s : State) (pf : BitVec 2) (world : World) (value : Word),
    let h := advance t s
    let rq := pfReq pf world
    let z := dropLatch rq h
    let pass (u : State) : Host.Outcome State Fault Refusal := .next (passHeld pf.toNat u)
    let at_ (off : Nat) : Prop := Plain rq off off h
    (∀ k : BitVec 3,
      let r := Reg.TCH_Sk_CTRL k.toNat
      let old := rd z r
      let w := setB value Fld.TCH_Sk_CTRL_ENABLE true
      let y := wr r (setB (setB old Fld.TCH_Sk_CTRL_LP_EN (getB w Fld.TCH_Sk_CTRL_LP_EN)) Fld.TCH_Sk_CTRL_KIND (getB w Fld.TCH_Sk_CTRL_KIND)) z
      let e := sensorCheck y k.toNat w
      let c := wrF (Reg.TCH_Sk_STAT k.toNat) Fld.TCH_Sk_STAT_CFG_ERR e y
      let on := wrF (Reg.TCH_Sk_STAT k.toNat) Fld.TCH_Sk_STAT_PROF_RESULT 0 (setTState k.toNat 1 (wrB r Fld.TCH_Sk_CTRL_ENABLE true c))
      let go (x : TouchRec) : TouchRec := { tEn := h.gtb, dueAt := h.gtb, idleSince := h.gtb, profile := x.profile, cal := x.cal }
      at_ r →
      (getB old Fld.TCH_Sk_CTRL_ENABLE = true → exec (.touchSensorEnable t pf world k value) s = pass (wr r (setB old Fld.TCH_Sk_CTRL_LP_EN (getB w Fld.TCH_Sk_CTRL_LP_EN)) z)) ∧
      (getB old Fld.TCH_Sk_CTRL_ENABLE = false → e ≠ 0 → exec (.touchSensorEnable t pf world k value) s = pass c) ∧
      (getB old Fld.TCH_Sk_CTRL_ENABLE = false → e = 0 → exec (.touchSensorEnable t pf world k value) s =
        pass ((touchBanks on k.toNat).foldl (fun s b => holmWake (0x50 + b) s) (setContacts k.toNat [] (setTs k.toNat go on))))) ∧
    (∀ n : BitVec 4,
      let r := Reg.HAP_Cn_CTRL n.toNat
      let w := setB value Fld.HAP_Cn_CTRL_ENABLE true
      let a := wrB r Fld.HAP_Cn_CTRL_AUTO_CAL (getB w Fld.HAP_Cn_CTRL_AUTO_CAL) z
      let y := wrB r Fld.HAP_Cn_CTRL_KIND (getB w Fld.HAP_Cn_CTRL_KIND) a
      let e := hapCheck y n.toNat w
      let c := wrF (Reg.HAP_Cn_STAT n.toNat) Fld.HAP_Cn_STAT_CFG_ERR e y
      at_ r →
      (flg z r Fld.HAP_Cn_CTRL_ENABLE = true → exec (.hapticChannelEnable t pf world n value) s = pass a) ∧
      (flg z r Fld.HAP_Cn_CTRL_ENABLE = false → e ≠ 0 → exec (.hapticChannelEnable t pf world n value) s = pass c) ∧
      (flg z r Fld.HAP_Cn_CTRL_ENABLE = false → e = 0 → exec (.hapticChannelEnable t pf world n value) s = pass (hapEnable n.toNat (getB w Fld.HAP_Cn_CTRL_AUTO_CAL) c))) ∧
    (let later (off : Nat) (w : Word) : State := setAud (fun a => { a with writes := a.writes ++ [(off, w)] }) z
     (∀ n : BitVec 3, at_ (Reg.AUD_TDMn_FMT n.toNat) → exec (.tdmPortEnable t pf world n value) s = pass (later (Reg.AUD_TDMn_FMT n.toNat) (setB value Fld.AUD_TDMn_FMT_EN true))) ∧
     (∀ k : Fin 11, at_ (Reg.AUD_Kk_CTRL k.val) → exec (.audioSinkEnable t pf world k value) s = pass (later (Reg.AUD_Kk_CTRL k.val) value)) ∧
     (at_ (Reg.AUD_Kk_CTRL 10) → exec (.audioWritebackEnable t pf world value) s = pass (later (Reg.AUD_Kk_CTRL 10) (setB value Fld.AUD_Kk_CTRL_ENABLE true))) ∧
     (at_ Reg.AUD_ATT_CTRL → exec (.attentionStart t pf world value) s = pass (later Reg.AUD_ATT_CTRL (setB value Fld.AUD_ATT_CTRL_START true)) ∧
       exec (.attentionStop t pf world value) s = pass (later Reg.AUD_ATT_CTRL (setB value Fld.AUD_ATT_CTRL_STOP true)))) ∧
    (∀ n : BitVec 7,
      let r := Reg.DMA_Cn_CTRL n.toNat
      let new (en : Nat) : Word := setF (setF (rd z r) Fld.DMA_Cn_CTRL_VECTOR (getF value Fld.DMA_Cn_CTRL_VECTOR)) Fld.DMA_Cn_CTRL_ENABLE en
      let word (en : Nat) : Word := if (dmaOf z n.toNat).loaded then new en else setF (new en) Fld.DMA_Cn_CTRL_MODE (getF value Fld.DMA_Cn_CTRL_MODE)
      at_ r →
      (getB value Fld.DMA_Cn_CTRL_ENABLE = true → getB value Fld.DMA_Cn_CTRL_STOP = false → exec (.dmaStart t pf world n value) s = pass (dmaStart n.toNat (wr r (word 1) z))) ∧
      (getB value Fld.DMA_Cn_CTRL_ENABLE = true → getB value Fld.DMA_Cn_CTRL_START = false → exec (.dmaStop t pf world n value) s = pass (dmaStopRegs n.toNat (wr r (word 1) z))) ∧
      (getB value Fld.DMA_Cn_CTRL_START = false → getB value Fld.DMA_Cn_CTRL_STOP = false →
        exec (.dmaChannelDisable t pf world n value) s = pass (if flg z r Fld.DMA_Cn_CTRL_ENABLE then dmaCancel n.toNat (dmaStopAll n.toNat (wr r (word 0) z)) else wr r (word 0) z))) ∧
    (∀ n : BitVec 7, at_ (Reg.DMA_RATEn n.toNat) →
      let r := Reg.DMA_RATEn n.toNat
      let old := fld z r Fld.DMA_RATEn_RATE
      let new := getF value Fld.DMA_RATEn_RATE
      let bad := new = 0 ∨ 320 < new ∨ 320 < rateSum z - old + new ∨ (new < old ∧ contractsOn z .dma n.toNat ≠ [])
      let y := wrF r Fld.DMA_RATEn_PRIO (getF value Fld.DMA_RATEn_PRIO) (wrF r Fld.DMA_RATEn_RATE new z)
      (bad → exec (.dmaRateWrite t pf world n value) s = pass (wrB Reg.DMA_RATE_STAT Fld.DMA_RATE_STAT_RATE_ERR true z)) ∧
      (¬ bad → exec (.dmaRateWrite t pf world n value) s = pass (wrF Reg.DMA_RATE_STAT Fld.DMA_RATE_STAT_SUM (rateSum y) y))) ∧
    (∀ u : BitVec 2, at_ (Reg.CV_Un_CTRL u.toNat) →
      let r := Reg.CV_Un_CTRL u.toNat
      let w := setB value Fld.CV_Un_CTRL_GO true
      let e := goError z u.toNat w
      (getB value Fld.CV_Un_CTRL_PAUSE = false → e ≠ 0 → exec (.cvGo t pf world u value) s = pass (wrF (Reg.CV_Un_STAT u.toNat) Fld.CV_Un_STAT_CFG_ERR e z)) ∧
      (getB value Fld.CV_Un_CTRL_PAUSE = false → e = 0 → exec (.cvGo t pf world u value) s = pass (cvGo u.toNat w (wr r (w &&& 0x3F3F0730#32) z))) ∧
      (getB value Fld.CV_Un_CTRL_GO = false → exec (.cvPause t pf world u value) s =
        pass (setCv u.toNat (fun x => { x with pause := x.reg.isSome }) (wr r (setB value Fld.CV_Un_CTRL_PAUSE true &&& 0x3F3F0730#32) z))))

/-- R542: CLK_LOST stays set after CLKIN returns until Holm firmware writes 1 to it, and that write is ignored while CLKIN_OK is 0 or RELOCKING is 1; power-on reset clears it, a device reset does not;
LOSSES, LOSS_START and LOSS_END survive every reset except power-on reset. -/
def Obligations.ClkLostStandsUntilWritten : Prop :=
  ∀ (t : Tick) (s : State), memWf s →
    let h := advance t s
    (∀ (pf : BitVec 2) (world : World), Plain (pfReq pf world) Reg.CLK_STAT Reg.CLK_STAT h →
      let z := dropLatch (pfReq pf world) h
      exec (.clkLostClear t pf world) s = .next (passHeld pf.toNat
        (if clkinOk h = true ∧ flg h Reg.CLK_STAT Fld.CLK_STAT_RELOCKING = false then wrB Reg.CLK_STAT Fld.CLK_STAT_CLK_LOST false z else z))) ∧
    (∀ u, exec (.clkinReturn t) s = .next u → flg u Reg.CLK_STAT Fld.CLK_STAT_CLK_LOST = flg h Reg.CLK_STAT Fld.CLK_STAT_CLK_LOST) ∧
    (∀ good : Bool, flg (powerOnReset good h) Reg.CLK_STAT Fld.CLK_STAT_CLK_LOST = false) ∧
    (∀ (c : Nat) (hold : Bool), c ≤ 8 →
      let r := deviceReset c hold h
      flg r Reg.CLK_STAT Fld.CLK_STAT_CLK_LOST = flg h Reg.CLK_STAT Fld.CLK_STAT_CLK_LOST ∧ fld r Reg.CLK_STAT Fld.CLK_STAT_LOSSES = fld h Reg.CLK_STAT Fld.CLK_STAT_LOSSES ∧
      rd r Reg.CLK_LOSS_START_LO = rd h Reg.CLK_LOSS_START_LO ∧ rd r Reg.CLK_LOSS_START_HI = rd h Reg.CLK_LOSS_START_HI ∧
      rd r Reg.CLK_LOSS_END_LO = rd h Reg.CLK_LOSS_END_LO ∧ rd r Reg.CLK_LOSS_END_HI = rd h Reg.CLK_LOSS_END_HI)

/-- The churn buffer (R572 to R576): a buffered write joins the requester's batch, the 33rd sets OVERFLOW; a strobe of an empty buffer applies at once, of a good batch applies every entry and waits for
its confirmation, and of a bad one applies none and shows the reason and the entry; a discard empties the buffer, or waits for a strobe in progress. -/
def Obligations.ChurnBatchesApplyWhole : Prop :=
  ∀ (t : Tick) (s : State) (pf : BitVec 2) (world : World),
    let h := advance t s
    let rq := pfReq pf world
    let z := dropLatch rq h
    let pass (u : State) : Host.Outcome State Fault Refusal := .next (passHeld pf.toNat u)
    (∀ (off : BitVec 26) (value : Word), (∀ f ∈ h.lnk.faults, faultAims f 0 pf.toNat 0 0 = false) → reached h rq = true → buffered h rq (off.toNat / 4 * 4) = true →
      let o := off.toNat / 4 * 4
      ((churnRec z rq).entries.length < 32 → exec (.churnBufferedWrite t pf world off value) s = pass (setChurn rq (fun c => { c with entries := c.entries ++ [(o, value)] }) z)) ∧
      (32 ≤ (churnRec z rq).entries.length → exec (.churnBufferedWrite t pf world off value) s =
        pass (churnFlag rq Fld.REG_CHURN_STAT_OVERFLOW true (setChurn rq (fun c => { c with overflowed := true }) z)))) ∧
    (∀ open_ : Bool, Lands rq Reg.REG_CHURN_CTRL Reg.REG_CHURN_CTRL h →
      let y := setOpen rq open_ z
      let c := churnRec y rq
      let run := batchRun rq 0 c.entries y
      (c.busy = true → exec (.churnStrobe t pf world open_) s = pass y) ∧
      (c.busy = false → c.overflowed = true → exec (.churnStrobe t pf world open_) s = pass (churnRefuse rq 8 32 y)) ∧
      (c.busy = false → c.overflowed = false → c.entries = [] → exec (.churnStrobe t pf world open_) s =
        pass (churnFlag rq Fld.REG_CHURN_STAT_APPLIED true (churnResult rq false 0 0 (setOpen rq false y)))) ∧
      (∀ r i n, c.busy = false → c.overflowed = false → run = .failed r i n →
        exec (.churnStrobe t pf world open_) s = pass (churnRefuse rq r i (match n with | some (o, m) => noteMiss rq o true m y | none => y))) ∧
      (∀ v, c.busy = false → c.overflowed = false → c.entries ≠ [] → run = .applied v → churnRec v rq = c →
        exec (.churnStrobe t pf world open_) s = pass (churnResult rq false 0 0 (setOpen rq false (setChurn rq (fun c => { c with entries := [], busy := true }) v))))) ∧
    (∀ (r i : Nat) (u : State), churnRefuse rq r i u = { u with reqRegs := (churnRefuse rq r i u).reqRegs, rg := { u.rg with churn := (churnRefuse rq r i u).rg.churn } }) ∧
    (Lands rq Reg.REG_CHURN_CTRL Reg.REG_CHURN_CTRL h →
      let y := setOpen rq false z
      exec (.churnDiscard t pf world) s = pass (if (churnRec y rq).busy then setChurn rq (fun c => { c with discard := true }) y else churnEmpty rq y)) ∧
    ((churnRec h rq).busy = false → exec (.churnApplyConfirmed t pf world) s = .next h) ∧
    ((churnRec h rq).busy = true →
      let y := churnFlag rq Fld.REG_CHURN_STAT_APPLIED true (setChurn rq (fun c => { c with busy := false }) h)
      exec (.churnApplyConfirmed t pf world) s = .next (if (churnRec h rq).discard then churnEmpty rq y else y))
end

