-- ==== Sys2Proof/Laws/Admission.lean ====
section
/-!
SUPPORT. Laws/Admission.lean: what standing demands read: signing a contract changes none of them.
-/

set_option linter.all false

namespace Sys2Proof.Laws

open Sys2Proof Sys2Proof.Machine

theorem foldl_sign {α : Type} (k : Contract) (f : State → α → State) (hf : ∀ s x, f (sign k s) x = sign k (f s x)) :
    ∀ (l : List α) (s : State), l.foldl f (sign k s) = sign k (l.foldl f s) := by
  intro l
  induction l with
  | nil => exact fun _ => rfl
  | cons x l ih => intro s; simp only [List.foldl_cons, hf, ih]

theorem applyDisplay_sign (k : Contract) (n : Nat) (h : Holder) (s : State) : applyDisplay n h (sign k s) = sign k (applyDisplay n h s) := by
  unfold applyDisplay
  have e : ∀ o, holderOf (sign k s) o = holderOf s o := fun _ => rfl
  have a : ∀ lo hi z, applyShadow lo hi (sign k z) = sign k (applyShadow lo hi z) := fun _ _ _ => rfl
  have i : ∀ (p : Prop) [Decidable p] (lo hi : Nat) (z : State), (if p then applyShadow lo hi (sign k z) else sign k z) = sign k (if p then applyShadow lo hi z else z) := by
    intro p _ lo hi z
    split <;> rfl
  simp only [e, i]
  rw [foldl_sign k _ (fun s x => i _ _ _ s), i]

theorem applyHolder_sign (k : Contract) (n : Nat) (h : Holder) (s : State) : applyHolder n h (sign k s) = sign k (applyHolder n h s) := by
  unfold applyHolder
  have e : ∀ o, holderOf (sign k s) o = holderOf s o := fun _ => rfl
  rw [e]
  split
  · rw [show applyTiming n (sign k s) = sign k (applyTiming n s) from rfl, applyDisplay_sign]
  · exact applyDisplay_sign ..

theorem pendApplied_sign (k : Contract) (s : State) (n : Nat) : pendApplied (sign k s) n = sign k (pendApplied s n) :=
  foldl_sign k _ (fun _ _ => applyHolder_sign ..) _ s

theorem outHeld_sign (k : Contract) (s : State) (n : Nat) : outHeld (sign k s) n = outHeld s n := by
  unfold outHeld
  rw [pendApplied_sign]
  rfl

/-- Signing a contract changes no standing demand. -/
theorem demands_sign (k : Contract) (s : State) : demands (sign k s) = demands s := by
  unfold demands
  rw [show outHeld (sign k s) = outHeld s from funext (outHeld_sign k s)]
  rfl

theorem refused_ite {p : Prop} [Decidable p] {st : Status} {res er need avail : Nat} {b : Admit} {k : Contract}
    (h : (if p then .refused st res er need avail else b) = Admit.signed k) : ¬p ∧ b = .signed k := by
  by_cases hp : p
  · rw [if_pos hp] at h; cases h
  · rw [if_neg hp] at h; exact ⟨hp, h⟩

/-- What the admission test demands before it signs (R72), and the contract it signs. -/
theorem admitAsk_signed {s : State} {a : AskFor} {k : Contract} (h : admitAsk s a = .signed k) :
    ¬(a.blk.cls = 0 ∧ a.holm = false) ∧ ¬(a.blocksFit = false) ∧ ∃ l0, lockStart s a = some l0 ∧
      (let d0 := deadline0 a l0
       let s0 := startOf s a l0
       let w : Int := d0 - (s0 : Nat)
       let wu := usableW s a w
       let dens (r : Rate) : Nat := densityOf (askCost s a r) (wu - (granularity a.blk.cls r : Nat))
       ¬(d0 ≤ (s.gtb : Nat)) ∧ ¬(((s.gtb + 2000000000 : Nat) : Int) < d0) ∧ ¬(256 ≤ openOf s a.fn ∨ 4096 ≤ s.ledger.contracts.length) ∧ ¬(10000 < a.cost.sect) ∧ ¬(w < (a.minW : Nat)) ∧
         dens .shd ≤ poolFree s (poolOf a.blk.cls a.fn) .shd ∧ dens .drb ≤ poolFree s (poolOf a.blk.cls a.fn) .drb ∧ dens .vat ≤ poolFree s (poolOf a.blk.cls a.fn) .vat ∧
         ¬(a.depOk = false) ∧ ¬(a.full = true) ∧
         k = { id := freshId s a.fn 4100 (tget {} s.ledger.acct a.fn).nextId, fn := a.fn, holm := a.holm, kind := a.kind, blk := a.blk, cost := a.cost,
               t0 := s.gtb, s0 := s0, hk := askPrep s a, predL := l0, shd := dens .shd, drb := dens .drb, vat := dens .vat, unit := densityOf a.units (wu - 2000),
               cShd := askCost s a .shd, cDrb := askCost s a .drb, tile := a.tile, units := a.units, khz := shdKhz s, predInst := (predDeadline s a.fn a.blk).2, params := a.params }) := by
  unfold admitAsk at h
  dsimp only at h
  obtain ⟨h1, h⟩ := refused_ite h
  obtain ⟨h2, h⟩ := refused_ite h
  refine ⟨h1, h2, ?_⟩
  revert h
  cases lockStart s a with
  | none => exact fun h => Admit.noConfusion h
  | some l0 =>
    intro h
    refine ⟨l0, rfl, ?_⟩
    dsimp only at h ⊢
    obtain ⟨h3, h⟩ := refused_ite h
    obtain ⟨h4, h⟩ := refused_ite h
    obtain ⟨h5, h⟩ := refused_ite h
    obtain ⟨h6, h⟩ := refused_ite h
    obtain ⟨h7, h⟩ := refused_ite h
    obtain ⟨h8, h⟩ := refused_ite h
    obtain ⟨h9, h⟩ := refused_ite h
    obtain ⟨h10, h⟩ := refused_ite h
    obtain ⟨_, h⟩ := refused_ite h
    obtain ⟨h11, h⟩ := refused_ite h
    obtain ⟨_, h⟩ := refused_ite h
    obtain ⟨h12, h⟩ := refused_ite h
    obtain ⟨_, h⟩ := refused_ite h
    rw [decide_eq_true_eq, Nat.not_lt] at h8 h9 h10
    injection h with h
    exact ⟨h3, h4, h5, h6, h7, h8, h9, h10, h11, h12, h.symm⟩

end Sys2Proof.Laws
end

