-- ==== Sys2Proof/Laws/Table.lean ====
section
/-!
SUPPORT. Laws/Table.lean: the laws of sparse tables: a read after a write, and every operation keeps the canonical form.
-/

namespace Sys2Proof.Laws

open Sys2Proof.Machine

variable {α : Type} [DecidableEq α] {d : α}

theorem twfFrom_mono {a b : Nat} {t : Table α} (h : b ≤ a) : twfFrom d a t = true → twfFrom d b t = true := by
  cases t with
  | nil => simp [twfFrom]
  | cons e t => obtain ⟨k, v⟩ := e; simp only [twfFrom, Bool.and_eq_true, decide_eq_true_eq]; rintro ⟨⟨h1, h2⟩, h3⟩; exact ⟨⟨by omega, h2⟩, h3⟩

theorem twfFrom_filter (p : Nat × α → Bool) : ∀ {a : Nat} {t : Table α}, twfFrom d a t = true → twfFrom d a (t.filter p) = true := by
  intro a t
  induction t generalizing a with
  | nil => simp [twfFrom]
  | cons e t ih =>
    obtain ⟨k, v⟩ := e
    simp only [twfFrom, Bool.and_eq_true, decide_eq_true_eq, List.filter_cons]
    rintro ⟨⟨h1, h2⟩, h3⟩
    split
    · simp only [twfFrom, Bool.and_eq_true, decide_eq_true_eq]; exact ⟨⟨h1, h2⟩, ih h3⟩
    · exact twfFrom_mono (by omega) (ih h3)

theorem twfFrom_drop (p : Nat × α → Bool) : ∀ {a : Nat} {t : Table α}, twfFrom d a t = true → twfFrom d a (t.dropWhile p) = true := by
  intro a t
  induction t generalizing a with
  | nil => simp [twfFrom]
  | cons e t ih =>
    obtain ⟨k, v⟩ := e
    intro h
    simp only [List.dropWhile_cons]
    split
    · simp only [twfFrom, Bool.and_eq_true, decide_eq_true_eq] at h
      exact twfFrom_mono (by omega) (ih h.2)
    · exact h

theorem twfFrom_put (v : α) : ∀ {a i : Nat} {t : Table α}, a ≤ i → twfFrom d a t = true → twfFrom d a (tput d t i v) = true := by
  intro a i t
  induction t generalizing a with
  | nil => intro h _; simp only [tput]; split <;> simp_all [twfFrom]
  | cons e t ih =>
    obtain ⟨k, w⟩ := e
    intro h hw
    have hw' := hw
    simp only [twfFrom, Bool.and_eq_true, decide_eq_true_eq] at hw
    obtain ⟨⟨h1, h2⟩, h3⟩ := hw
    simp only [tput]
    split
    · split
      · exact hw'
      · simp only [twfFrom, Bool.and_eq_true, decide_eq_true_eq]; exact ⟨⟨h, by assumption⟩, ⟨by omega, h2⟩, h3⟩
    · split
      · subst i
        split
        · exact twfFrom_drop _ (twfFrom_mono (by omega) h3)
        · simp only [twfFrom, Bool.and_eq_true, decide_eq_true_eq]; exact ⟨⟨h1, by assumption⟩, h3⟩
      · simp only [twfFrom, Bool.and_eq_true, decide_eq_true_eq]
        exact ⟨⟨h1, h2⟩, ih (by omega) h3⟩

@[simp] theorem twf_put {t : Table α} {i : Nat} {v : α} (h : twf d t = true) : twf d (tput d t i v) = true := twfFrom_put v (Nat.zero_le _) h
@[simp] theorem twf_mod {t : Table α} {i : Nat} {f : α → α} (h : twf d t = true) : twf d (tmod d t i f) = true := twf_put h
@[simp] theorem twf_filter {t : Table α} {p : Nat × α → Bool} (h : twf d t = true) : twf d (t.filter p) = true := twfFrom_filter p h
@[simp] theorem twf_clear {t : Table α} {lo hi : Nat} (h : twf d t = true) : twf d (tclear t lo hi) = true := twfFrom_filter _ h
@[simp] theorem twf_nil : twf d ([] : Table α) = true := rfl
@[simp] theorem twf_puts (vs : List α) : ∀ {t : Table α} {i : Nat}, twf d t = true → twf d (tputs d t i vs) = true := by
  induction vs with
  | nil => intro t i h; exact h
  | cons v vs ih => intro t i h; exact ih (twf_put h)

theorem tget_low {a i : Nat} {t : Table α} (h : twfFrom d a t = true) (hi : i < a) : tget d t i = d := by
  induction t generalizing a with
  | nil => rfl
  | cons e t ih =>
    obtain ⟨k, v⟩ := e
    simp only [twfFrom, Bool.and_eq_true, decide_eq_true_eq] at h
    simp only [tget]
    split
    · omega
    · split
      · rfl
      · omega

theorem tget_dropLe {a i j : Nat} {t : Table α} (h : twfFrom d a t = true) (hj : i < j) : tget d (t.dropWhile (fun e => decide (e.1 ≤ i))) j = tget d t j := by
  induction t generalizing a with
  | nil => rfl
  | cons e t ih =>
    obtain ⟨k, v⟩ := e
    simp only [twfFrom, Bool.and_eq_true, decide_eq_true_eq] at h
    simp only [List.dropWhile_cons, decide_eq_true_eq]
    split
    · rw [ih h.2]
      simp only [tget]
      split
      · omega
      · split
        · omega
        · rfl
    · rfl

theorem tget_dropAll {a i : Nat} {t : Table α} (h : twfFrom d a t = true) : tget d (t.dropWhile (fun e => decide (e.1 ≤ i))) i = d := by
  induction t generalizing a with
  | nil => rfl
  | cons e t ih =>
    obtain ⟨k, v⟩ := e
    simp only [twfFrom, Bool.and_eq_true, decide_eq_true_eq] at h
    simp only [List.dropWhile_cons, decide_eq_true_eq]
    split
    · exact ih h.2
    · simp only [tget]
      split
      · omega
      · split
        · rfl
        · omega

/-- The key written reads as the value written. -/
theorem tget_put_same {a i : Nat} {t : Table α} {v : α} (h : twfFrom d a t = true) : tget d (tput d t i v) i = v := by
  induction t generalizing a with
  | nil => simp only [tput]; split <;> simp_all [tget]
  | cons e t ih =>
    obtain ⟨k, w⟩ := e
    simp only [twfFrom, Bool.and_eq_true, decide_eq_true_eq] at h
    have hr := ih h.2
    simp only [tput]
    rcases Nat.lt_trichotomy i k with hlt | heq | hgt
    · rw [if_pos hlt]
      by_cases hv : v = d
      · rw [if_pos hv]; simp only [tget]; rw [if_neg (by omega), if_pos hlt, hv]
      · rw [if_neg hv]; simp [tget]
    · subst heq
      rw [if_neg (by omega), if_pos rfl]
      by_cases hv : v = d
      · rw [if_pos hv, tget_dropAll h.2, hv]
      · rw [if_neg hv]; simp [tget]
    · rw [if_neg (by omega), if_neg (by omega)]
      simp only [tget]; rw [if_neg (by omega), if_neg (by omega)]; exact hr

/-- Every other key reads as before. -/
theorem tget_put_other {a i j : Nat} {t : Table α} {v : α} (h : twfFrom d a t = true) (hj : j ≠ i) : tget d (tput d t i v) j = tget d t j := by
  induction t generalizing a with
  | nil =>
    simp only [tput]
    by_cases hv : v = d
    · rw [if_pos hv]
    · rw [if_neg hv]; simp only [tget]; rw [if_neg (by omega)]; split <;> rfl
  | cons e t ih =>
    obtain ⟨k, w⟩ := e
    simp only [twfFrom, Bool.and_eq_true, decide_eq_true_eq] at h
    have hr := ih h.2
    simp only [tput]
    rcases Nat.lt_trichotomy i k with hlt | heq | hgt
    · rw [if_pos hlt]
      by_cases hv : v = d
      · rw [if_pos hv]
      · rw [if_neg hv]
        rcases Nat.lt_or_gt_of_ne hj with h1 | h1
        · simp only [tget]; rw [if_neg (by omega), if_pos h1, if_neg (by omega), if_pos (by omega)]
        · conv => lhs; unfold tget
          rw [if_neg (by omega), if_neg (by omega)]
    · subst heq
      rw [if_neg (by omega), if_pos rfl]
      by_cases hv : v = d
      · rw [if_pos hv]
        rcases Nat.lt_or_gt_of_ne hj with h1 | h1
        · rw [tget_low (twfFrom_drop _ h.2) (by omega)]
          simp only [tget]; rw [if_neg (by omega), if_pos h1]
        · rw [tget_dropLe h.2 h1]
          simp only [tget]; rw [if_neg (by omega), if_neg (by omega)]
      · rw [if_neg hv]; simp only [tget]; simp [Ne.symm hj]
    · rw [if_neg (by omega), if_neg (by omega)]
      simp only [tget]; rw [hr]

/-- A read after a write to the same key gives the value written. -/
theorem tget_tput_same {i : Nat} {t : Table α} {v : α} (h : twf d t = true) : tget d (tput d t i v) i = v := tget_put_same h

/-- A write leaves every other key alone. -/
theorem tget_tput_other {i j : Nat} {t : Table α} {v : α} (h : twf d t = true) (hj : j ≠ i) : tget d (tput d t i v) j = tget d t j := tget_put_other h hj

/-- The cleared keys read as the default, the others as before. -/
theorem tget_tclear {lo hi j : Nat} {t : Table α} (h : twf d t = true) : tget d (tclear t lo hi) j = if lo ≤ j ∧ j < hi then d else tget d t j := by
  suffices H : ∀ (a : Nat) (t : Table α), twfFrom d a t = true → tget d (tclear t lo hi) j = if lo ≤ j ∧ j < hi then d else tget d t j from H 0 t h
  intro a t
  induction t generalizing a with
  | nil => intro _; simp [tclear, tget]
  | cons e t ih =>
    obtain ⟨k, w⟩ := e
    intro h
    have h' := h
    simp only [twfFrom, Bool.and_eq_true, decide_eq_true_eq] at h
    have hr := ih _ h.2
    simp only [tclear] at hr ⊢
    simp only [List.filter_cons]
    by_cases hk : lo ≤ k ∧ k < hi
    · rw [if_neg (by simp [hk.1, hk.2]), hr]
      simp only [tget]
      by_cases hj : lo ≤ j ∧ j < hi
      · rw [if_pos hj, if_pos hj]
      · rw [if_neg hj, if_neg hj, if_neg (by intro hc; subst hc; exact hj hk)]
        split
        · exact tget_low h.2 (by omega)
        · rfl
    · rw [if_pos (by simp only [Bool.not_eq_true', Bool.and_eq_false_iff, decide_eq_false_iff_not]; omega)]
      simp only [tget, hr]
      by_cases hkj : k = j
      · subst hkj; rw [if_pos rfl, if_neg hk, if_pos rfl]
      · rw [if_neg hkj, if_neg hkj]
        by_cases hlt : j < k
        · rw [if_pos hlt, if_pos hlt]; split <;> rfl
        · rw [if_neg hlt, if_neg hlt]

end Sys2Proof.Laws
end

