-- ==== Sys2Proof/Laws/Flow.lean ====
section
/-!
SUPPORT. Laws/Flow.lean: how `Flow` composes; the files Laws/Flow*.lean say of every operation of the block, in the order of the model, that it flows.
-/

set_option linter.all false

namespace Sys2Proof.Laws

open Sys2Proof Sys2Proof.Machine

variable {t : Bool} {a : State}

theorem otp_refl (o : Otp) : OtpKept o o := ⟨rfl, rfl, rfl, rfl, rfl, rfl, rfl, Nat.le_refl _, fun _ h => h⟩

theorem otp_trans {x y z : Otp} (h : OtpKept x y) (k : OtpKept y z) : OtpKept x z :=
  ⟨k.uid.trans h.uid, k.rootHash.trans h.rootHash, k.grade.trans h.grade, k.lifecycle.trans h.lifecycle, k.holmPort.trans h.holmPort, k.kw.trans h.kw,
    k.mks.trans h.mks, Nat.le_trans h.rollback k.rollback, fun i w => k.revoked i (h.revoked i w)⟩

theorem flow_refl (s : State) : Flow t s s := ⟨rfl, fun _ => Nat.le_refl _, otp_refl _, id⟩

theorem flow_trans {s u : State} (h : Flow t a s) (k : Flow t s u) : Flow t a u :=
  ⟨k.queue.trans h.queue, fun w => Nat.le_trans (h.time w) (k.time w), otp_trans h.otp k.otp, fun w => k.wf (h.wf w)⟩

/-- A state that differs in nothing that `Flow` speaks of. -/
theorem flow_same {s u : State} (h : Flow t a s) (hp : u.pending = s.pending) (hg : u.gtb = s.gtb) (ho : u.boot.otp = s.boot.otp) (h1 : u.regs = s.regs)
    (h2 : u.shadow = s.shadow) (h3 : u.reqRegs = s.reqRegs) (h4 : u.tabs = s.tabs) (h5 : u.tabShadow = s.tabShadow) (h6 : u.mem.dpa = s.mem.dpa)
    (h7 : u.mem.host = s.mem.host) (h8 : u.boot.flash = s.boot.flash) : Flow t a u :=
  ⟨hp.trans h.queue, fun w => hg ▸ h.time w, ho ▸ h.otp, fun w => by
    have k := h.wf w
    unfold memWf at k ⊢
    rw [h1, h2, h3, h4, h5, h6, h7, h8]
    exact k⟩

/-- An update of fields that `Flow` does not speak of. -/
theorem flow_mk {s : State} {dr : Nat} {bd : Word} {g : GcpState} {hf : HifState} {l : LedgerState} {i : IsoState} {m : MemState} {bt : BootState} {p : PowerState}
    {d : DisplayState} {r : RegState} {re : RenderState} {ln : LinkState} {tr : TrvState} {se : SenseState} {au : AudioState} {mv : MoveState} (h : Flow t a s)
    (h6 : m.dpa = s.mem.dpa) (h7 : m.host = s.mem.host) (ho : bt.otp = s.boot.otp) (h8 : bt.flash = s.boot.flash) :
    Flow t a ⟨s.pending, s.gtb, dr, bd, s.regs, s.shadow, s.reqRegs, s.tabs, s.tabShadow, g, hf, l, i, m, bt, p, d, r, re, ln, tr, se, au, mv⟩ :=
  flow_same h rfl rfl ho rfl rfl rfl rfl rfl h6 h7 h8

/-- An update that keeps every table canonical. -/
theorem flow_put {s u : State} (h : Flow t a s) (hp : u.pending = s.pending) (hg : u.gtb = s.gtb) (ho : u.boot.otp = s.boot.otp) (hw : memWf s → memWf u) : Flow t a u :=
  ⟨hp.trans h.queue, fun w => hg ▸ h.time w, ho ▸ h.otp, fun w => hw (h.wf w)⟩

/-- An update that also touches a table, and keeps every table canonical. -/
theorem flow_mkw {s : State} {dr : Nat} {bd : Word} {r1 r2 r3 r4 r5 : Table Word} {g : GcpState} {hf : HifState} {l : LedgerState} {i : IsoState} {m : MemState}
    {bt : BootState} {p : PowerState} {d : DisplayState} {r : RegState} {re : RenderState} {ln : LinkState} {tr : TrvState} {se : SenseState} {au : AudioState}
    {mv : MoveState} (h : Flow t a s) (ho : bt.otp = s.boot.otp)
    (hw : memWf s → memWf ⟨s.pending, s.gtb, dr, bd, r1, r2, r3, r4, r5, g, hf, l, i, m, bt, p, d, r, re, ln, tr, se, au, mv⟩) :
    Flow t a ⟨s.pending, s.gtb, dr, bd, r1, r2, r3, r4, r5, g, hf, l, i, m, bt, p, d, r, re, ln, tr, se, au, mv⟩ :=
  ⟨h.queue, h.time, ho ▸ h.otp, fun w => hw (h.wf w)⟩

theorem flow_ite {c : Prop} [Decidable c] {x y : State} (h : Flow t a x) (k : Flow t a y) : Flow t a (if c then x else y) := by split <;> assumption

theorem flow_foldl {β : Type} {f : State → β → State} {l : List β} {s : State} (h : Flow t a s) (hf : ∀ (s : State) (b : β), Flow t a s → Flow t a (f s b)) :
    Flow t a (l.foldl f s) := by
  induction l generalizing s with
  | nil => exact h
  | cons b l ih => exact ih (hf s b h)

theorem flow_foldl_snd {β γ : Type} {f : γ × State → β → γ × State} {l : List β} {p : γ × State} (h : Flow t a p.2)
    (hf : ∀ (p : γ × State) (b : β), Flow t a p.2 → Flow t a (f p b).2) : Flow t a (l.foldl f p).2 := by
  induction l generalizing p with
  | nil => exact h
  | cons b l ih => exact ih (hf p b h)

theorem flow_foldl_fst {β γ : Type} {f : State × γ → β → State × γ} {l : List β} {p : State × γ} (h : Flow t a p.1)
    (hf : ∀ (p : State × γ) (b : β), Flow t a p.1 → Flow t a (f p b).1) : Flow t a (l.foldl f p).1 := by
  induction l generalizing p with
  | nil => exact h
  | cons b l ih => exact ih (hf p b h)

theorem flow_next {s : State} (h : Flow t a s) : OutFlow t a (.next s) := ⟨h⟩

theorem flow_fault {r : Fault} : OutFlow t a (.fault r) := ⟨trivial⟩

theorem flow_id {s : State} (h : Flow t a s) : Flow t a (id s) := h

theorem flow_out_ite {c : Prop} [Decidable c] {x y : Out} (h : OutFlow t a x) (k : OutFlow t a y) : OutFlow t a (if c then x else y) := by split <;> assumption

theorem twf_foldPut (c : Nat × Word → Bool) (l : List (Nat × Word)) : ∀ {x : Table Word}, twf 0 x = true → twf 0 (l.foldl (fun (t : Table Word) e => if c e then tput 0 t e.1 e.2 else t) x) = true := by
  induction l with
  | nil => exact fun h => h
  | cons e l ih =>
    intro x h
    rw [List.foldl_cons]
    refine ih ?_
    split
    · exact twf_put h
    · exact h

/-- An answer flows. -/
structure AnsFlow (t : Bool) (a : State) (x : Ans) : Prop where
  flows : match x with
    | .reply _ s => Flow t a s
    | .later s => Flow t a s
    | .outside _ s => Flow t a s

theorem ans_reply {p : List Byte} {s : State} (h : Flow t a s) : AnsFlow t a (.reply p s) := ⟨h⟩

theorem ans_later {s : State} (h : Flow t a s) : AnsFlow t a (.later s) := ⟨h⟩

theorem ans_outside {p : List Byte} {s : State} (h : Flow t a s) : AnsFlow t a (.outside p s) := ⟨h⟩

theorem ans_ite {c : Prop} [Decidable c] {x y : Ans} (h : AnsFlow t a x) (k : AnsFlow t a y) : AnsFlow t a (if c then x else y) := by split <;> assumption

theorem flow_of_reply {x : Ans} {p : List Byte} {s : State} (hx : x = .reply p s) (h : AnsFlow t a x) : Flow t a s := by subst hx; exact h.flows

theorem flow_of_later {x : Ans} {s : State} (hx : x = .later s) (h : AnsFlow t a x) : Flow t a s := by subst hx; exact h.flows

theorem flow_of_outside {x : Ans} {p : List Byte} {s : State} (hx : x = .outside p s) (h : AnsFlow t a x) : Flow t a s := by subst hx; exact h.flows

/-- A state that may be absent flows. -/
structure OptFlow (t : Bool) (a : State) (x : Option State) : Prop where
  flows : match x with
    | some s => Flow t a s
    | none => True

theorem opt_some {s : State} (h : Flow t a s) : OptFlow t a (some s) := ⟨h⟩

theorem opt_none : OptFlow t a none := ⟨trivial⟩

theorem opt_ite {c : Prop} [Decidable c] {x y : Option State} (h : OptFlow t a x) (k : OptFlow t a y) : OptFlow t a (if c then x else y) := by split <;> assumption

theorem flow_of_some {x : Option State} {s : State} (hx : x = some s) (h : OptFlow t a x) : Flow t a s := by subst hx; exact h.flows

/-- A state or a status flows. -/
structure ExFlow (t : Bool) (a : State) (x : Except Status State) : Prop where
  flows : match x with
    | .ok s => Flow t a s
    | .error _ => True

theorem ex_ok {s : State} (h : Flow t a s) : ExFlow t a (.ok s) := ⟨h⟩

theorem ex_error {e : Status} : ExFlow t a (.error e) := ⟨trivial⟩

theorem flow_of_ok {x : Except Status State} {s : State} (hx : x = .ok s) (h : ExFlow t a x) : Flow t a s := by subst hx; exact h.flows

/-- A batch that applied flows. -/
structure BatchFlow (t : Bool) (a : State) (x : Batch) : Prop where
  flows : match x with
    | .applied s => Flow t a s
    | .failed _ _ _ => True

theorem batch_applied {s : State} (h : Flow t a s) : BatchFlow t a (.applied s) := ⟨h⟩

theorem batch_failed {r e : Nat} {n : Option (Nat × Miss)} : BatchFlow t a (.failed r e n) := ⟨trivial⟩

theorem batch_ite {c : Prop} [Decidable c] {x y : Batch} (h : BatchFlow t a x) (k : BatchFlow t a y) : BatchFlow t a (if c then x else y) := by split <;> assumption

theorem flow_of_applied {x : Batch} {s : State} (hx : x = .applied s) (h : BatchFlow t a x) : Flow t a s := by subst hx; exact h.flows

end Sys2Proof.Laws
end

