-- ==== Sys2Proof/Laws/FlowA.lean ====
section
/-!
SUPPORT. Laws/FlowA.lean: every operation of Ops.lean, Gcp.lean, Sessions.lean, Objects.lean, Display.lean, Contracts.lean flows.
-/

set_option linter.all false

namespace Sys2Proof.Laws

open Sys2Proof Sys2Proof.Machine

variable {t : Bool} {a : State}

/-! ### Ops.lean -/

theorem flow_unpoison {a0 : Nat} {a1 : Nat} {s2 : State} (hs2 : Flow t a s2) : Flow t a (unpoison a0 a1 s2) := by
  unfold unpoison
  try dsimp only
  with_reducible repeat' first | exact hs2 | refine flow_mk ?_ (by rfl) (by rfl) (by rfl) (by rfl)

theorem flow_wr {a0 : Nat} {a1 : Word} {s2 : State} (hs2 : Flow t a s2) : Flow t a (wr a0 a1 s2) := by
  unfold wr
  try dsimp only
  with_reducible repeat' first | exact hs2 | refine flow_mk ?_ (by rfl) (by rfl) (by rfl) (by rfl) | refine flow_mkw ?_ (by rfl) (fun w => by unfold memWf at w ⊢; obtain ⟨w1, w2, w3, w4, w5, w6, w7, w8⟩ := w; refine ⟨?_, ?_, ?_, ?_, ?_, ?_, ?_, ?_⟩ <;> repeat (first | assumption | apply twf_put | apply twf_mod | apply twf_clear | apply twf_filter | apply twf_puts))

theorem flow_wrDpa {a0 : Nat} {a1 : Byte} {s2 : State} (hs2 : Flow t a s2) : Flow t a (wrDpa a0 a1 s2) := by
  unfold wrDpa
  try dsimp only
  with_reducible repeat' first | exact hs2 | apply flow_ite | refine flow_mk ?_ (by rfl) (by rfl) (by rfl) (by rfl) | refine flow_mkw ?_ (by rfl) (fun w => by unfold memWf at w ⊢; obtain ⟨w1, w2, w3, w4, w5, w6, w7, w8⟩ := w; refine ⟨?_, ?_, ?_, ?_, ?_, ?_, ?_, ?_⟩ <;> repeat (first | assumption | apply twf_put | apply twf_mod | apply twf_clear | apply twf_filter | apply twf_puts))

theorem flow_wrDpaBytes {a0 : Nat} {a1 : List Byte} {s2 : State} (hs2 : Flow t a s2) : Flow t a (wrDpaBytes a0 a1 s2) := by
  revert hs2
  fun_induction wrDpaBytes a0 a1 s2 <;> intro hs2 <;> (try dsimp only) <;> with_reducible repeat' first | exact hs2 | assumption | intro _ | apply_assumption | apply flow_wrDpa

theorem flow_ringMirror {a0 : IsoEntry} {s1 : State} (hs1 : Flow t a s1) : Flow t a (ringMirror a0 s1) := by
  unfold ringMirror
  with_reducible repeat' first | exact hs1 | apply flow_wrDpaBytes

theorem flow_isoLog {a0 : Nat} {a1 : Nat} {a2 : Nat} {a3 : Nat} {a4 : Nat} {a5 : Nat} {a6 : Nat} {s7 : State} (hs7 : Flow t a s7) : Flow t a (isoLog a0 a1 a2 a3 a4 a5 a6 s7) := by
  unfold isoLog
  try dsimp only
  with_reducible repeat' first | exact hs7 | apply flow_ringMirror | apply flow_ite | split | refine flow_mk ?_ (by rfl) (by rfl) (by rfl) (by rfl)

theorem flow_faultNote {a0 : Nat} {a1 : Nat} {a2 : Nat} {a3 : Nat} {s4 : State} (hs4 : Flow t a s4) : Flow t a (faultNote a0 a1 a2 a3 s4) := by
  unfold faultNote
  with_reducible repeat' first | exact hs4 | apply flow_isoLog

theorem flow_wrB {a0 : Nat} {a1 : Bits} {a2 : Bool} {s3 : State} (hs3 : Flow t a s3) : Flow t a (wrB a0 a1 a2 s3) := by
  unfold wrB
  with_reducible repeat' first | exact hs3 | apply flow_wr

theorem flow_setArm {a0 : Nat} {a1 : ArmRec → ArmRec} {s2 : State} (hs2 : Flow t a s2) : Flow t a (setArm a0 a1 s2) := by
  unfold setArm
  try dsimp only
  with_reducible repeat' first | exact hs2 | refine flow_mk ?_ (by rfl) (by rfl) (by rfl) (by rfl)

theorem flow_disarmWrite {s0 : State} {a1 : Nat × Bool} (hs0 : Flow t a s0) : Flow t a (disarmWrite s0 a1) := by
  unfold disarmWrite
  try dsimp only
  with_reducible repeat' first | exact hs0 | apply flow_setArm | apply flow_wrB | apply flow_ite | refine flow_mk ?_ (by rfl) (by rfl) (by rfl) (by rfl)

theorem flow_wrDpas {a0 : Nat} {a1 : List Byte} {s2 : State} (hs2 : Flow t a s2) : Flow t a (wrDpas a0 a1 s2) := by
  unfold wrDpas
  try dsimp only
  with_reducible repeat' first | exact hs2 | assumption | intro _ | apply flow_setArm | apply flow_disarmWrite | apply flow_unpoison | apply flow_wrDpaBytes | apply flow_faultNote | apply flow_foldl | apply flow_foldl_snd | apply flow_foldl_fst | split | refine flow_mk ?_ (by rfl) (by rfl) (by rfl) (by rfl)

theorem flow_wrSh {a0 : Nat} {a1 : Word} {s2 : State} (hs2 : Flow t a s2) : Flow t a (wrSh a0 a1 s2) := by
  unfold wrSh
  try dsimp only
  with_reducible repeat' first | exact hs2 | refine flow_mk ?_ (by rfl) (by rfl) (by rfl) (by rfl) | refine flow_mkw ?_ (by rfl) (fun w => by unfold memWf at w ⊢; obtain ⟨w1, w2, w3, w4, w5, w6, w7, w8⟩ := w; refine ⟨?_, ?_, ?_, ?_, ?_, ?_, ?_, ?_⟩ <;> repeat (first | assumption | apply twf_put | apply twf_mod | apply twf_clear | apply twf_filter | apply twf_puts))

theorem flow_wrF {a0 : Nat} {a1 : Bits} {a2 : Nat} {s3 : State} (hs3 : Flow t a s3) : Flow t a (wrF a0 a1 a2 s3) := by
  unfold wrF
  with_reducible repeat' first | exact hs3 | apply flow_wr

theorem flow_post {a0 : Nat} {a1 : Bool} {a2 : List Byte} {s3 : State} (hs3 : Flow t a s3) : Flow t a (post a0 a1 a2 s3) := by
  unfold post
  try dsimp only
  with_reducible repeat' first | exact hs3 | apply flow_ite | refine flow_mk ?_ (by rfl) (by rfl) (by rfl) (by rfl)

theorem flow_setLnk {a0 : LinkState → LinkState} {s1 : State} (hs1 : Flow t a s1) : Flow t a (setLnk a0 s1) := by
  unfold setLnk
  try dsimp only
  with_reducible repeat' first | exact hs1 | refine flow_mk ?_ (by rfl) (by rfl) (by rfl) (by rfl)

theorem flow_meetFaults {a0 : Nat} {a1 : Nat} {a2 : Nat} {a3 : Nat} {s4 : State} (hs4 : Flow t a s4) : Flow t a (meetFaults a0 a1 a2 a3 s4).2 := by
  unfold meetFaults
  try dsimp only
  with_reducible repeat' first | exact hs4 | assumption | intro _ | apply flow_setLnk | apply flow_ite | apply flow_foldl | apply flow_foldl_snd | apply flow_foldl_fst | split | refine flow_mk ?_ (by rfl) (by rfl) (by rfl) (by rfl)

theorem flow_wrHost {a0 : Nat} {a1 : Nat} {a2 : List Byte} {s3 : State} (hs3 : Flow t a s3) : Flow t a (wrHost a0 a1 a2 s3) := by
  revert hs3
  fun_induction wrHost a0 a1 a2 s3 <;> intro hs3 <;> (try dsimp only) <;> with_reducible repeat' first | exact hs3 | assumption | intro _ | apply_assumption | refine flow_mk ?_ (by rfl) (by rfl) (by rfl) (by rfl) | refine flow_mkw ?_ (by rfl) (fun w => by unfold memWf at w ⊢; obtain ⟨w1, w2, w3, w4, w5, w6, w7, w8⟩ := w; refine ⟨?_, ?_, ?_, ?_, ?_, ?_, ?_, ?_⟩ <;> repeat (first | assumption | apply twf_put | apply twf_mod | apply twf_clear | apply twf_filter | apply twf_puts))

theorem flow_outTlp {a0 : Nat} {a1 : Nat} {a2 : List Byte} {s3 : State} (hs3 : Flow t a s3) : Flow t a (outTlp a0 a1 a2 s3) := by
  unfold outTlp
  try dsimp only
  with_reducible repeat' first | exact hs3 | apply flow_meetFaults | apply flow_setLnk | apply flow_wrHost | apply flow_ite | split | refine flow_mk ?_ (by rfl) (by rfl) (by rfl) (by rfl)

theorem flow_hostWrite {a0 : Nat} {a1 : Nat} {a2 : Nat} {a3 : List Byte} {s4 : State} (hs4 : Flow t a s4) : Flow t a (hostWrite a0 a1 a2 a3 s4) := by
  induction a1 generalizing a2 a3 s4 with
  | zero => exact hs4
  | succ n ih =>
    rw [hostWrite]
    exact flow_ite hs4 (ih (flow_outTlp hs4))

theorem flow_wrIovaBytes {a0 : Nat} {a1 : Nat} {a2 : Nat} {a3 : List Byte} {s4 : State} (hs4 : Flow t a s4) : Flow t a (wrIovaBytes a0 a1 a2 a3 s4) := by
  induction a1 generalizing a2 a3 s4 with
  | zero => exact hs4
  | succ n ih =>
    rw [wrIovaBytes]
    refine flow_ite hs4 (ih ?_)
    split
    · exact flow_wrDpas hs4
    · exact flow_outTlp hs4
    · exact hs4

theorem flow_countFault {a0 : Nat} {a1 : Nat} {a2 : Nat} {a3 : Nat} {a4 : Bool} {a5 : Bool} {s6 : State} (hs6 : Flow t a s6) : Flow t a (countFault a0 a1 a2 a3 a4 a5 s6) := by
  unfold countFault
  try dsimp only
  with_reducible repeat' first | exact hs6 | apply flow_ite | refine flow_mk ?_ (by rfl) (by rfl) (by rfl) (by rfl)

theorem flow_draw {s0 : State} (hs0 : Flow t a s0) : Flow t a (draw s0).2 := by
  unfold draw
  try dsimp only
  with_reducible repeat' first | exact hs0 | refine flow_mk ?_ (by rfl) (by rfl) (by rfl) (by rfl)

theorem flow_wrReq {a0 : Requester} {a1 : Nat} {a2 : Word} {s3 : State} (hs3 : Flow t a s3) : Flow t a (wrReq a0 a1 a2 s3) := by
  unfold wrReq
  try dsimp only
  with_reducible repeat' first | exact hs3 | refine flow_mk ?_ (by rfl) (by rfl) (by rfl) (by rfl) | refine flow_mkw ?_ (by rfl) (fun w => by unfold memWf at w ⊢; obtain ⟨w1, w2, w3, w4, w5, w6, w7, w8⟩ := w; refine ⟨?_, ?_, ?_, ?_, ?_, ?_, ?_, ?_⟩ <;> repeat (first | assumption | apply twf_put | apply twf_mod | apply twf_clear | apply twf_filter | apply twf_puts))

theorem flow_capture {a0 : Requester} {a1 : Nat} {a2 : List (Nat × Nat)} {s3 : State} (hs3 : Flow t a s3) : Flow t a (capture a0 a1 a2 s3) := by
  unfold capture
  try dsimp only
  with_reducible repeat' first | exact hs3 | assumption | intro _ | apply flow_wrReq | apply flow_foldl | apply flow_foldl_snd | apply flow_foldl_fst

theorem flow_resetRegs {a0 : Nat} {a1 : Nat} {s2 : State} (hs2 : Flow t a s2) : Flow t a (resetRegs a0 a1 s2) := by
  unfold resetRegs
  try dsimp only
  with_reducible repeat' first | exact hs2 | refine flow_mk ?_ (by rfl) (by rfl) (by rfl) (by rfl) | refine flow_mkw ?_ (by rfl) (fun w => by unfold memWf at w ⊢; obtain ⟨w1, w2, w3, w4, w5, w6, w7, w8⟩ := w; refine ⟨?_, ?_, ?_, ?_, ?_, ?_, ?_, ?_⟩ <;> repeat (first | assumption | apply twf_put | apply twf_mod | apply twf_clear | apply twf_filter | apply twf_puts))

theorem flow_setOwn {a0 : Nat} {a1 : OwnRec} {s2 : State} (hs2 : Flow t a s2) : Flow t a (setOwn a0 a1 s2) := by
  unfold setOwn
  try dsimp only
  with_reducible repeat' first | exact hs2 | refine flow_mk ?_ (by rfl) (by rfl) (by rfl) (by rfl)

theorem flow_wrVat {a0 : Nat} {a1 : List Byte} {s2 : State} (hs2 : Flow t a s2) : Flow t a (wrVat a0 a1 s2) := by
  unfold wrVat
  with_reducible repeat' first | exact hs2 | apply flow_wrDpas

theorem flow_wrPlain {a0 : Nat} {a1 : List Byte} {s2 : State} (hs2 : Flow t a s2) : Flow t a (wrPlain a0 a1 s2) := by
  unfold wrPlain
  with_reducible repeat' first | exact hs2 | apply flow_unpoison | apply flow_wrDpaBytes

theorem flow_memFault {a0 : Nat} {a1 : Nat} {a2 : Nat} {a3 : Bool} {a4 : Bool} {s5 : State} (hs5 : Flow t a s5) : Flow t a (memFault a0 a1 a2 a3 a4 s5) := by
  unfold memFault
  with_reducible repeat' first | exact hs5 | apply flow_countFault

theorem flow_noteFault {a0 : Nat} {a1 : Nat} {a2 : Bool} {a3 : Nat} {a4 : Nat} {s5 : State} (hs5 : Flow t a s5) : Flow t a (noteFault a0 a1 a2 a3 a4 s5) := by
  unfold noteFault
  try dsimp only
  with_reducible repeat' first | exact hs5 | apply flow_memFault | split | refine flow_mk ?_ (by rfl) (by rfl) (by rfl) (by rfl)

theorem flow_wrIovas {a0 : Nat} {a1 : Nat} {a2 : Nat} {a3 : List Byte} {s4 : State} (hs4 : Flow t a s4) : Flow t a (wrIovas a0 a1 a2 a3 s4) := by
  unfold wrIovas
  with_reducible repeat' first | exact hs4 | apply flow_noteFault | apply flow_wrIovaBytes

theorem flow_raiseHolm {a0 : Nat} {s1 : State} (hs1 : Flow t a s1) : Flow t a (raiseHolm a0 s1) := by
  unfold raiseHolm
  try dsimp only
  with_reducible repeat' first | exact hs1 | refine flow_mk ?_ (by rfl) (by rfl) (by rfl) (by rfl)

theorem flow_advance {a0 : Tick} {s1 : State} (hs1 : Flow t a s1) : Flow t a (advance a0 s1) := by
  refine ⟨hs1.queue, fun w => Nat.le_trans (hs1.time w) (Nat.le_max_left _ _), hs1.otp, fun w => ?_⟩
  exact hs1.wf w

theorem flow_setFn {a0 : Nat} {a1 : FnRec → FnRec} {s2 : State} (hs2 : Flow t a s2) : Flow t a (setFn a0 a1 s2) := by
  unfold setFn
  try dsimp only
  with_reducible repeat' first | exact hs2 | apply flow_ite | refine flow_mk ?_ (by rfl) (by rfl) (by rfl) (by rfl)

theorem flow_disarm {a0 : FaultRec → Bool} {s1 : State} (hs1 : Flow t a s1) : Flow t a (disarm a0 s1) := by
  unfold disarm
  try dsimp only
  with_reducible repeat' first | exact hs1 | apply flow_setLnk | apply flow_ite | refine flow_mk ?_ (by rfl) (by rfl) (by rfl) (by rfl)

theorem flow_disarmSession {a0 : Word} {s1 : State} (hs1 : Flow t a s1) : Flow t a (disarmSession a0 s1) := by
  unfold disarmSession
  with_reducible repeat' first | exact hs1 | apply flow_disarm

theorem flow_dueFaultAt {a0 : Nat} {a1 : Nat} {a2 : Bool} {s3 : State} (hs3 : Flow t a s3) : Flow t a (dueFaultAt a0 a1 a2 s3) := by
  unfold dueFaultAt
  try dsimp only
  with_reducible repeat' first | exact hs3 | apply flow_post | apply flow_ite | refine flow_mk ?_ (by rfl) (by rfl) (by rfl) (by rfl)

theorem flow_dueFault {a0 : Nat} {a1 : Bool} {s2 : State} (hs2 : Flow t a s2) : Flow t a (dueFault a0 a1 s2) := by
  unfold dueFault
  with_reducible repeat' first | exact hs2 | apply flow_dueFaultAt | apply flow_ite

theorem flow_drawBytes {a0 : Nat} {s1 : State} (hs1 : Flow t a s1) : Flow t a (drawBytes a0 s1).2 := by
  unfold drawBytes
  try dsimp only
  with_reducible repeat' first | exact hs1 | refine flow_mk ?_ (by rfl) (by rfl) (by rfl) (by rfl)

theorem flow_idle {s0 : State} (hs0 : Flow t a s0) : Flow t a (idle s0) := by
  unfold idle
  split
  · exact hs0
  · exact ⟨hs0.queue, fun w => Nat.le_succ_of_le (hs0.time w), hs0.otp, fun w => hs0.wf w⟩

/-! ### Gcp.lean -/

theorem flow_setRing {a0 : Nat} {a1 : Bool} {a2 : RingRec → RingRec} {s3 : State} (hs3 : Flow t a s3) : Flow t a (setRing a0 a1 a2 s3) := by
  unfold setRing
  try dsimp only
  with_reducible repeat' first | exact hs3 | refine flow_mk ?_ (by rfl) (by rfl) (by rfl) (by rfl)

theorem flow_sendMsix {a0 : Nat} {a1 : Nat} {s2 : State} (hs2 : Flow t a s2) : Flow t a (sendMsix a0 a1 s2) := by
  unfold sendMsix
  try dsimp only
  with_reducible repeat' first | exact hs2 | apply flow_hostWrite | apply flow_ite | refine flow_mk ?_ (by rfl) (by rfl) (by rfl) (by rfl)

theorem flow_setSpi {a0 : SpiRec → SpiRec} {s1 : State} (hs1 : Flow t a s1) : Flow t a (setSpi a0 s1) := by
  unfold setSpi
  try dsimp only
  with_reducible repeat' first | exact hs1 | refine flow_mk ?_ (by rfl) (by rfl) (by rfl) (by rfl)

theorem flow_completePort {a0 : Port} {a1 : Option (List Byte)} {s2 : State} (hs2 : Flow t a s2) : Flow t a (completePort a0 a1 s2) := by
  unfold completePort
  try dsimp only
  with_reducible repeat' first | exact hs2 | apply flow_hostWrite | apply flow_setRing | apply flow_sendMsix | apply flow_setSpi | apply flow_ite | split | refine flow_mk ?_ (by rfl) (by rfl) (by rfl) (by rfl)

theorem flow_setSession {a0 : Word} {a1 : Session → Session} {s2 : State} (hs2 : Flow t a s2) : Flow t a (setSession a0 a1 s2) := by
  unfold setSession
  try dsimp only
  with_reducible repeat' first | exact hs2 | apply flow_ite | refine flow_mk ?_ (by rfl) (by rfl) (by rfl) (by rfl)

theorem flow_cacheReply {a0 : Ctx} {a1 : List Byte} {s2 : State} (hs2 : Flow t a s2) : Flow t a (cacheReply a0 a1 s2) := by
  unfold cacheReply
  try dsimp only
  with_reducible repeat' first | exact hs2 | apply flow_setSession | refine flow_mk ?_ (by rfl) (by rfl) (by rfl) (by rfl)

theorem flow_finishLong {a0 : Port} {a1 : List Byte} {s2 : State} (hs2 : Flow t a s2) : Flow t a (finishLong a0 a1 s2) := by
  unfold finishLong
  try dsimp only
  with_reducible repeat' first | exact hs2 | apply flow_setSession | apply flow_cacheReply | apply flow_completePort | apply flow_ite | split | refine flow_mk ?_ (by rfl) (by rfl) (by rfl) (by rfl)

theorem flow_takePacket {a0 : Port} {s1 : State} (hs1 : Flow t a s1) : Flow t a (takePacket a0 s1) := by
  unfold takePacket
  try dsimp only
  with_reducible repeat' first | exact hs1 | apply flow_setRing | split | refine flow_mk ?_ (by rfl) (by rfl) (by rfl) (by rfl)

theorem flow_expireSession {a0 : Word} {a1 : Tick} {s2 : State} (hs2 : Flow t a s2) : Flow t a (expireSession a0 a1 s2) := by
  unfold expireSession
  try dsimp only
  with_reducible repeat' first | exact hs2 | apply flow_disarmSession | apply flow_setSession | refine flow_mk ?_ (by rfl) (by rfl) (by rfl) (by rfl)

theorem flow_freeSession {a0 : Word} {s1 : State} (hs1 : Flow t a s1) : Flow t a (freeSession a0 s1) := by
  unfold freeSession
  try dsimp only
  with_reducible repeat' first | exact hs1 | apply flow_disarmSession | refine flow_mk ?_ (by rfl) (by rfl) (by rfl) (by rfl)

theorem flow_holdPort {a0 : Port} {a1 : LongOp} {s2 : State} (hs2 : Flow t a s2) : Flow t a (holdPort a0 a1 s2) := by
  unfold holdPort
  try dsimp only
  with_reducible repeat' first | exact hs2 | apply flow_setRing | apply flow_setSpi | split | refine flow_mk ?_ (by rfl) (by rfl) (by rfl) (by rfl)

theorem flow_answer {a0 : OpInfo} {a1 : Ctx} {a2 : Bool} {a3 : Bool} {a4 : List Byte} {s5 : State} (hs5 : Flow t a s5) : Flow t a (answer a0 a1 a2 a3 a4 s5) := by
  unfold answer
  try dsimp only
  with_reducible repeat' first | exact hs5 | apply flow_completePort | apply flow_ite | split | refine flow_mk ?_ (by rfl) (by rfl) (by rfl) (by rfl)

theorem flow_serve {a0 : OpInfo} {a1 : Ctx} {a2 : Bool} {a3 : Ctx → State → Ans} {s4 : State} (hs4 : Flow t a s4) (hfa3 : ∀ (c : Ctx) (s : State), Flow t a s → AnsFlow t a (a3 c s)) : Flow t a (serve a0 a1 a2 a3 s4) := by
  unfold serve
  try dsimp only
  with_reducible repeat' first | exact hs4 | assumption | intro _ | apply hfa3 | apply flow_answer | apply flow_cacheReply | apply flow_holdPort | refine flow_of_reply (by assumption) ?_ | refine flow_of_later (by assumption) ?_ | refine flow_of_outside (by assumption) ?_ | split | refine flow_mk ?_ (by rfl) (by rfl) (by rfl) (by rfl)

theorem flow_serveRequest {a0 : OpInfo} {a1 : Request} {a2 : Ctx → State → Ans} {s3 : State} (hs3 : Flow t a s3) (hfa2 : ∀ (c : Ctx) (s : State), Flow t a s → AnsFlow t a (a2 c s)) : Flow t a (serveRequest a0 a1 a2 s3) := by
  unfold serveRequest
  try dsimp only
  with_reducible repeat' first | exact hs3 | assumption | intro _ | apply hfa2 | apply flow_takePacket | apply flow_answer | apply flow_expireSession | apply flow_setSession | apply flow_cacheReply | apply flow_serve | refine flow_of_reply (by assumption) ?_ | refine flow_of_later (by assumption) ?_ | refine flow_of_outside (by assumption) ?_ | apply flow_ite | split | refine flow_mk ?_ (by rfl) (by rfl) (by rfl) (by rfl)

theorem flow_serveRecovery {a0 : OpInfo} {a1 : Request} {a2 : Ctx → State → Ans} {s3 : State} (hs3 : Flow t a s3) (hfa2 : ∀ (c : Ctx) (s : State), Flow t a s → AnsFlow t a (a2 c s)) : Flow t a (serveRecovery a0 a1 a2 s3) := by
  unfold serveRecovery
  with_reducible repeat' first | exact hs3 | assumption | intro _ | apply hfa2 | apply flow_serveRequest | apply flow_answer | apply flow_takePacket | refine flow_of_reply (by assumption) ?_ | refine flow_of_later (by assumption) ?_ | refine flow_of_outside (by assumption) ?_ | apply flow_ite

theorem flow_gcp {a0 : OpInfo} {a1 : Tick} {a2 : Request} {a3 : Ctx → State → Ans} {s4 : State} (hs4 : Flow t a s4) (hfa3 : ∀ (c : Ctx) (s : State), Flow t a s → AnsFlow t a (a3 c s)) : OutFlow t a (gcp a0 a1 a2 a3 s4) := by
  unfold gcp
  try dsimp only
  with_reducible repeat' first | exact hs4 | assumption | intro _ | apply hfa3 | apply flow_advance | apply flow_serveRecovery | apply flow_serveRequest | refine flow_of_reply (by assumption) ?_ | refine flow_of_later (by assumption) ?_ | refine flow_of_outside (by assumption) ?_ | apply flow_ite | apply flow_next | apply flow_out_ite | exact flow_fault

/-! ### Sessions.lean -/

theorem flow_execManagementStall {a0 : Tick} {s1 : State} (hs1 : Flow t a s1) : OutFlow t a (execManagementStall a0 s1) := by
  unfold execManagementStall
  try dsimp only
  with_reducible repeat' first | exact hs1 | apply flow_advance | apply flow_ite | apply flow_next | apply flow_out_ite | refine flow_mk ?_ (by rfl) (by rfl) (by rfl) (by rfl)

theorem flow_execMgmtStallResume {a0 : Tick} {s1 : State} (hs1 : Flow t a s1) : OutFlow t a (execMgmtStallResume a0 s1) := by
  unfold execMgmtStallResume
  try dsimp only
  with_reducible repeat' first | exact hs1 | apply flow_advance | apply flow_ite | apply flow_next | apply flow_out_ite | refine flow_mk ?_ (by rfl) (by rfl) (by rfl) (by rfl)

theorem flow_execSpiReadReply {a0 : Tick} {s1 : State} (hs1 : Flow t a s1) : OutFlow t a (execSpiReadReply a0 s1) := by
  unfold execSpiReadReply
  try dsimp only
  with_reducible repeat' first | exact hs1 | apply flow_advance | apply flow_setSpi | apply flow_ite | apply flow_next | apply flow_out_ite | refine flow_mk ?_ (by rfl) (by rfl) (by rfl) (by rfl)

theorem flow_execSpiReadStatus {a0 : Tick} {s1 : State} (hs1 : Flow t a s1) : OutFlow t a (execSpiReadStatus a0 s1) := by
  unfold execSpiReadStatus
  try dsimp only
  with_reducible repeat' first | exact hs1 | apply flow_advance | apply flow_setSpi | apply flow_next | refine flow_mk ?_ (by rfl) (by rfl) (by rfl) (by rfl)

theorem flow_execSpiWritePacket {a0 : Tick} {a1 : BitVec 16} {a2 : List Byte} {s3 : State} (hs3 : Flow t a s3) : OutFlow t a (execSpiWritePacket a0 a1 a2 s3) := by
  unfold execSpiWritePacket
  try dsimp only
  with_reducible repeat' first | exact hs3 | apply flow_advance | apply flow_setSpi | apply flow_ite | apply flow_next | apply flow_out_ite | refine flow_mk ?_ (by rfl) (by rfl) (by rfl) (by rfl)

theorem flow_execExpiredTagRelease {a0 : Tick} {a1 : Word} {s2 : State} (hs2 : Flow t a s2) : OutFlow t a (execExpiredTagRelease a0 a1 s2) := by
  unfold execExpiredTagRelease
  try dsimp only
  with_reducible repeat' first | exact hs2 | apply flow_advance | apply flow_freeSession | apply flow_ite | apply flow_next | apply flow_out_ite | split | refine flow_mk ?_ (by rfl) (by rfl) (by rfl) (by rfl)

theorem flow_doSessionKeepalive {a0 : Ctx} {s1 : State} (hs1 : Flow t a s1) : AnsFlow t a (doSessionKeepalive a0 s1) := by
  unfold doSessionKeepalive
  try dsimp only
  with_reducible repeat' first | exact hs1 | apply ans_reply | apply ans_later | apply ans_outside | apply ans_ite | split | refine flow_mk ?_ (by rfl) (by rfl) (by rfl) (by rfl)

theorem flow_execSessionKeepalive {a0 : Tick} {a1 : Request} {s2 : State} (hs2 : Flow t a s2) : OutFlow t a (execSessionKeepalive a0 a1 s2) := by
  unfold execSessionKeepalive
  with_reducible repeat' first | exact hs2 | assumption | intro _ | apply flow_gcp | apply flow_doSessionKeepalive | apply flow_next

theorem flow_execPendingLimit {a0 : Tick} {a1 : Word} {s2 : State} (hs2 : Flow t a s2) : OutFlow t a (execPendingLimit a0 a1 s2) := by
  unfold execPendingLimit
  try dsimp only
  with_reducible repeat' first | exact hs2 | apply flow_advance | apply flow_freeSession | apply flow_ite | apply flow_next | apply flow_out_ite | split | refine flow_mk ?_ (by rfl) (by rfl) (by rfl) (by rfl)

theorem flow_execAuthLockEnd {a0 : Tick} {a1 : Port} {s2 : State} (hs2 : Flow t a s2) : OutFlow t a (execAuthLockEnd a0 a1 s2) := by
  unfold execAuthLockEnd
  try dsimp only
  with_reducible repeat' first | exact hs2 | apply flow_advance | apply flow_ite | apply flow_next | apply flow_out_ite | exact flow_fault | split | refine flow_mk ?_ (by rfl) (by rfl) (by rfl) (by rfl)

theorem flow_doSessionProve {a0 : Ctx} {s1 : State} (hs1 : Flow t a s1) : AnsFlow t a (doSessionProve a0 s1) := by
  unfold doSessionProve
  try dsimp only
  with_reducible repeat' first | exact hs1 | apply flow_setSession | apply flow_freeSession | apply flow_ite | apply ans_reply | apply ans_later | apply ans_outside | apply ans_ite | split | refine flow_mk ?_ (by rfl) (by rfl) (by rfl) (by rfl)

theorem flow_execSessionProve {a0 : Tick} {a1 : Request} {s2 : State} (hs2 : Flow t a s2) : OutFlow t a (execSessionProve a0 a1 s2) := by
  unfold execSessionProve
  with_reducible repeat' first | exact hs2 | assumption | intro _ | apply flow_gcp | apply flow_doSessionProve | apply flow_next

theorem flow_doSessionOpen {a0 : Ctx} {s1 : State} (hs1 : Flow t a s1) : AnsFlow t a (doSessionOpen a0 s1) := by
  unfold doSessionOpen
  try dsimp only
  with_reducible repeat' first | exact hs1 | apply flow_draw | apply flow_drawBytes | apply ans_reply | apply ans_later | apply ans_outside | apply ans_ite | split | refine flow_mk ?_ (by rfl) (by rfl) (by rfl) (by rfl)

theorem flow_execSessionOpen {a0 : Tick} {a1 : Request} {s2 : State} (hs2 : Flow t a s2) : OutFlow t a (execSessionOpen a0 a1 s2) := by
  unfold execSessionOpen
  with_reducible repeat' first | exact hs2 | assumption | intro _ | apply flow_gcp | apply flow_doSessionOpen | apply flow_next

theorem flow_doIdentify {a0 : Ctx} {s1 : State} (hs1 : Flow t a s1) : AnsFlow t a (doIdentify a0 s1) := by
  unfold doIdentify
  with_reducible repeat' first | exact hs1 | apply ans_reply | apply ans_later | apply ans_outside | apply ans_ite

theorem flow_execIdentify {a0 : Tick} {a1 : Request} {s2 : State} (hs2 : Flow t a s2) : OutFlow t a (execIdentify a0 a1 s2) := by
  unfold execIdentify
  with_reducible repeat' first | exact hs2 | assumption | intro _ | apply flow_gcp | apply flow_doIdentify | apply flow_next

theorem flow_execRingFetchError {a0 : Tick} {a1 : Fn} {a2 : Bool} {s3 : State} (hs3 : Flow t a s3) : OutFlow t a (execRingFetchError a0 a1 a2 s3) := by
  unfold execRingFetchError
  try dsimp only
  with_reducible repeat' first | exact hs3 | apply flow_advance | apply flow_setRing | apply flow_ite | apply flow_next | apply flow_out_ite | exact flow_fault | refine flow_mk ?_ (by rfl) (by rfl) (by rfl) (by rfl)

theorem flow_execRingResetTakesEffect {a0 : Tick} {a1 : Fn} {a2 : Bool} {s3 : State} (hs3 : Flow t a s3) : OutFlow t a (execRingResetTakesEffect a0 a1 a2 s3) := by
  unfold execRingResetTakesEffect
  try dsimp only
  with_reducible repeat' first | exact hs3 | apply flow_advance | apply flow_setRing | apply flow_ite | apply flow_next | apply flow_out_ite | exact flow_fault

/-! ### Objects.lean -/

theorem flow_setGate {a0 : Nat} {a1 : GateRec → GateRec} {s2 : State} (hs2 : Flow t a s2) : Flow t a (setGate a0 a1 s2) := by
  unfold setGate
  try dsimp only
  with_reducible repeat' first | exact hs2 | refine flow_mk ?_ (by rfl) (by rfl) (by rfl) (by rfl)

theorem flow_setTab {a0 : Nat} {a1 : Nat} {a2 : Word} {s3 : State} (hs3 : Flow t a s3) : Flow t a (setTab a0 a1 a2 s3) := by
  unfold setTab
  try dsimp only
  with_reducible repeat' first | exact hs3 | refine flow_mk ?_ (by rfl) (by rfl) (by rfl) (by rfl) | refine flow_mkw ?_ (by rfl) (fun w => by unfold memWf at w ⊢; obtain ⟨w1, w2, w3, w4, w5, w6, w7, w8⟩ := w; refine ⟨?_, ?_, ?_, ?_, ?_, ?_, ?_, ?_⟩ <;> repeat (first | assumption | apply twf_put | apply twf_mod | apply twf_clear | apply twf_filter | apply twf_puts))

theorem flow_setTabSh {a0 : Nat} {a1 : Nat} {a2 : Word} {s3 : State} (hs3 : Flow t a s3) : Flow t a (setTabSh a0 a1 a2 s3) := by
  unfold setTabSh
  try dsimp only
  with_reducible repeat' first | exact hs3 | refine flow_mk ?_ (by rfl) (by rfl) (by rfl) (by rfl) | refine flow_mkw ?_ (by rfl) (fun w => by unfold memWf at w ⊢; obtain ⟨w1, w2, w3, w4, w5, w6, w7, w8⟩ := w; refine ⟨?_, ?_, ?_, ?_, ?_, ?_, ?_, ?_⟩ <;> repeat (first | assumption | apply twf_put | apply twf_mod | apply twf_clear | apply twf_filter | apply twf_puts))

theorem flow_revertShadow {a0 : Nat} {a1 : Nat} {s2 : State} (hs2 : Flow t a s2) : Flow t a (revertShadow a0 a1 s2) := by
  refine ⟨hs2.queue, hs2.time, hs2.otp, fun w => ?_⟩
  obtain ⟨w1, w2, w3, w4, w5, w6, w7, w8⟩ := hs2.wf w
  exact ⟨w1, twf_foldPut _ _ (twf_filter w2), w3, w4, twf_foldPut (fun e => decide (a0 ≤ e.1 / 65536) && decide (e.1 / 65536 < a1)) _ (twf_filter w5), w6, w7, w8⟩

theorem flow_applyShadow {a0 : Nat} {a1 : Nat} {s2 : State} (hs2 : Flow t a s2) : Flow t a (applyShadow a0 a1 s2) := by
  refine ⟨hs2.queue, hs2.time, hs2.otp, fun w => ?_⟩
  obtain ⟨w1, w2, w3, w4, w5, w6, w7, w8⟩ := hs2.wf w
  exact ⟨twf_foldPut _ _ (twf_filter w1), w2, w3, twf_foldPut (fun e => decide (a0 ≤ e.1 / 65536) && decide (e.1 / 65536 < a1)) _ (twf_filter w4), w5, w6, w7, w8⟩

theorem flow_resetTabs {a0 : Nat} {a1 : Nat} {s2 : State} (hs2 : Flow t a s2) : Flow t a (resetTabs a0 a1 s2) := by
  unfold resetTabs
  try dsimp only
  with_reducible repeat' first | exact hs2 | refine flow_mk ?_ (by rfl) (by rfl) (by rfl) (by rfl) | refine flow_mkw ?_ (by rfl) (fun w => by unfold memWf at w ⊢; obtain ⟨w1, w2, w3, w4, w5, w6, w7, w8⟩ := w; refine ⟨?_, ?_, ?_, ?_, ?_, ?_, ?_, ?_⟩ <;> repeat (first | assumption | apply twf_put | apply twf_mod | apply twf_clear | apply twf_filter | apply twf_puts))

/-! ### Display.lean -/

theorem flow_setVin {a0 : Nat} {a1 : VinState → VinState} {s2 : State} (hs2 : Flow t a s2) : Flow t a (setVin a0 a1 s2) := by
  unfold setVin
  try dsimp only
  with_reducible repeat' first | exact hs2 | refine flow_mk ?_ (by rfl) (by rfl) (by rfl) (by rfl)

theorem flow_setLayer {a0 : Nat} {a1 : LayerState → LayerState} {s2 : State} (hs2 : Flow t a s2) : Flow t a (setLayer a0 a1 s2) := by
  unfold setLayer
  try dsimp only
  with_reducible repeat' first | exact hs2 | refine flow_mk ?_ (by rfl) (by rfl) (by rfl) (by rfl)

theorem flow_setOut {a0 : Nat} {a1 : OutState → OutState} {s2 : State} (hs2 : Flow t a s2) : Flow t a (setOut a0 a1 s2) := by
  unfold setOut
  try dsimp only
  with_reducible repeat' first | exact hs2 | refine flow_mk ?_ (by rfl) (by rfl) (by rfl) (by rfl)

theorem flow_applyDisplay {a0 : Nat} {a1 : Holder} {s2 : State} (hs2 : Flow t a s2) : Flow t a (applyDisplay a0 a1 s2) := by
  unfold applyDisplay
  try dsimp only
  with_reducible repeat' first | exact hs2 | assumption | intro _ | apply flow_applyShadow | apply flow_ite | apply flow_foldl | apply flow_foldl_snd | apply flow_foldl_fst

theorem flow_applyTiming {a0 : Nat} {s1 : State} (hs1 : Flow t a s1) : Flow t a (applyTiming a0 s1) := by
  unfold applyTiming
  with_reducible repeat' first | exact hs1 | apply flow_applyShadow

theorem flow_applyHolder {a0 : Nat} {a1 : Holder} {s2 : State} (hs2 : Flow t a s2) : Flow t a (applyHolder a0 a1 s2) := by
  unfold applyHolder
  with_reducible repeat' first | exact hs2 | apply flow_applyDisplay | apply flow_applyTiming | apply flow_ite

theorem flow_pendApplied {s0 : State} {a1 : Nat} (hs0 : Flow t a s0) : Flow t a (pendApplied s0 a1) := by
  unfold pendApplied
  with_reducible repeat' first | exact hs0 | assumption | intro _ | apply flow_applyHolder | apply flow_foldl | apply flow_foldl_snd | apply flow_foldl_fst

theorem flow_afterTiming {s0 : State} {a1 : Nat} {a2 : Tick} (hs0 : Flow t a s0) : Flow t a (afterTiming s0 a1 a2) := by
  unfold afterTiming
  try dsimp only
  with_reducible repeat' first | exact hs0 | apply flow_applyTiming | apply flow_setOut | apply flow_ite | refine flow_mk ?_ (by rfl) (by rfl) (by rfl) (by rfl)

/-! ### Contracts.lean -/

theorem flow_dropContract {a0 : Nat} {a1 : Nat} {s2 : State} (hs2 : Flow t a s2) : Flow t a (dropContract a0 a1 s2) := by
  unfold dropContract
  try dsimp only
  with_reducible repeat' first | exact hs2 | apply flow_id | refine flow_mk ?_ (by rfl) (by rfl) (by rfl) (by rfl)

theorem flow_forgetItem {a0 : Contract} {s1 : State} (hs1 : Flow t a s1) : Flow t a (forgetItem a0 s1) := by
  unfold forgetItem
  try dsimp only
  with_reducible repeat' first | exact hs1 | apply flow_setOut | apply flow_wrF | apply flow_wrB | apply flow_id | split | refine flow_mk ?_ (by rfl) (by rfl) (by rfl) (by rfl) | refine flow_mkw ?_ (by rfl) (fun w => by unfold memWf at w ⊢; obtain ⟨w1, w2, w3, w4, w5, w6, w7, w8⟩ := w; refine ⟨?_, ?_, ?_, ?_, ?_, ?_, ?_, ?_⟩ <;> repeat (first | assumption | apply twf_put | apply twf_mod | apply twf_clear | apply twf_filter | apply twf_puts))

theorem flow_cancelTo {a0 : Nat × Bool} {a1 : Contract} {a2 : Tick} {s3 : State} (hs3 : Flow t a s3) : Flow t a (cancelTo a0 a1 a2 s3) := by
  unfold cancelTo
  try dsimp only
  with_reducible repeat' first | exact hs3 | apply flow_post | apply flow_dropContract | apply flow_forgetItem

theorem flow_cancelChain {a0 : Nat} {a1 : Nat × Bool} {a2 : Contract} {a3 : Tick} {s4 : State} (hs4 : Flow t a s4) : Flow t a (cancelChain a0 a1 a2 a3 s4) := by
  revert hs4
  fun_induction cancelChain a0 a1 a2 a3 s4 <;> intro hs4 <;> (try dsimp only) <;> with_reducible repeat' first | exact hs4 | assumption | intro _ | apply_assumption | apply flow_cancelTo | apply flow_foldl | apply flow_foldl_snd | apply flow_foldl_fst

theorem flow_cancelContract {a0 : Contract} {a1 : Tick} {s2 : State} (hs2 : Flow t a s2) : Flow t a (cancelContract a0 a1 s2) := by
  unfold cancelContract
  with_reducible repeat' first | exact hs2 | apply flow_cancelChain

theorem flow_setContract {a0 : Nat} {a1 : Nat} {a2 : Contract → Contract} {s3 : State} (hs3 : Flow t a s3) : Flow t a (setContract a0 a1 a2 s3) := by
  unfold setContract
  try dsimp only
  with_reducible repeat' first | exact hs3 | apply flow_ite | apply flow_id | refine flow_mk ?_ (by rfl) (by rfl) (by rfl) (by rfl)

theorem flow_meter {a0 : Nat} {a1 : Nat} {a2 : Nat} {a3 : Nat} {a4 : Nat} {s5 : State} (hs5 : Flow t a s5) : Flow t a (meter a0 a1 a2 a3 a4 s5) := by
  unfold meter
  try dsimp only
  with_reducible repeat' first | exact hs5 | apply flow_setContract | apply flow_ite | apply flow_id | refine flow_mk ?_ (by rfl) (by rfl) (by rfl) (by rfl)

theorem flow_deviceBreach {a0 : Nat × Bool} {a1 : List Byte} {a2 : Option Nat} {a3 : Nat} {s4 : State} (hs4 : Flow t a s4) : Flow t a (deviceBreach a0 a1 a2 a3 s4) := by
  unfold deviceBreach
  try dsimp only
  with_reducible repeat' first | exact hs4 | apply flow_post | apply flow_faultNote | apply flow_setOut | apply flow_ite | split | refine flow_mk ?_ (by rfl) (by rfl) (by rfl) (by rfl)

theorem flow_sign {a0 : Contract} {s1 : State} (hs1 : Flow t a s1) : Flow t a (sign a0 s1) := by
  unfold sign
  try dsimp only
  with_reducible repeat' first | exact hs1 | refine flow_mk ?_ (by rfl) (by rfl) (by rfl) (by rfl)

theorem flow_markSuccessors {a0 : Contract} {a1 : Nat} {s2 : State} (hs2 : Flow t a s2) : Flow t a (markSuccessors a0 a1 s2) := by
  unfold markSuccessors
  try dsimp only
  with_reducible repeat' first | exact hs2 | apply flow_ite | refine flow_mk ?_ (by rfl) (by rfl) (by rfl) (by rfl)

theorem flow_nextInstance {a0 : Contract} {s1 : State} (hs1 : Flow t a s1) : Flow t a (nextInstance a0 s1) := by
  unfold nextInstance
  try dsimp only
  with_reducible repeat' first | exact hs1 | apply flow_dropContract | apply flow_setContract | apply flow_ite | refine flow_mk ?_ (by rfl) (by rfl) (by rfl) (by rfl)

theorem flow_countBreach {a0 : Nat} {a1 : Nat} {s2 : State} (hs2 : Flow t a s2) : Flow t a (countBreach a0 a1 s2) := by
  unfold countBreach
  try dsimp only
  with_reducible repeat' first | exact hs2 | apply flow_ite | refine flow_mk ?_ (by rfl) (by rfl) (by rfl) (by rfl)

theorem flow_breach {a0 : Contract} {a1 : Reason} {a2 : Nat} {a3 : Nat} {s4 : State} (hs4 : Flow t a s4) : Flow t a (breach a0 a1 a2 a3 s4) := by
  unfold breach
  try dsimp only
  with_reducible repeat' first | exact hs4 | apply flow_post | apply flow_countBreach | apply flow_deviceBreach | apply flow_nextInstance | apply flow_markSuccessors | apply flow_ite

theorem flow_lateBreach {a0 : Contract} {a1 : Nat} {s2 : State} (hs2 : Flow t a s2) : Flow t a (lateBreach a0 a1 s2) := by
  unfold lateBreach
  try dsimp only
  with_reducible repeat' first | exact hs2 | apply flow_breach | apply flow_ite | split | refine flow_mk ?_ (by rfl) (by rfl) (by rfl) (by rfl)

theorem flow_deliver {a0 : Contract} {a1 : Nat} {a2 : Nat} {s3 : State} (hs3 : Flow t a s3) : Flow t a (deliver a0 a1 a2 s3) := by
  unfold deliver
  try dsimp only
  with_reducible repeat' first | exact hs3 | apply flow_post | apply flow_nextInstance | refine flow_mk ?_ (by rfl) (by rfl) (by rfl) (by rfl)

theorem flow_settle {a0 : Contract} {a1 : Nat} {a2 : Nat} {s3 : State} (hs3 : Flow t a s3) : Flow t a (settle a0 a1 a2 s3) := by
  unfold settle
  with_reducible repeat' first | exact hs3 | apply flow_breach | apply flow_deliver | apply flow_ite

theorem flow_finish {a0 : Nat} {a1 : Nat} {a2 : Nat} {a3 : Nat} {a4 : Nat} {s5 : State} (hs5 : Flow t a s5) : Flow t a (finish a0 a1 a2 a3 a4 s5) := by
  unfold finish
  try dsimp only
  with_reducible repeat' first | exact hs5 | apply flow_settle | apply flow_lateBreach | apply flow_ite | apply flow_id | split | refine flow_mk ?_ (by rfl) (by rfl) (by rfl) (by rfl)

theorem flow_admitReply {a0 : AskFor} {s1 : State} (hs1 : Flow t a s1) : Flow t a (admitReply a0 s1).2.1 := by
  unfold admitReply
  try dsimp only
  with_reducible repeat' first | exact hs1 | apply flow_sign | split | refine flow_mk ?_ (by rfl) (by rfl) (by rfl) (by rfl)

theorem flow_breachNoContract {a0 : Nat} {a1 : Bool} {a2 : Reason} {a3 : Nat} {a4 : Option Nat} {a5 : Tick} {s6 : State} (hs6 : Flow t a s6) : Flow t a (breachNoContract a0 a1 a2 a3 a4 a5 s6) := by
  unfold breachNoContract
  try dsimp only
  with_reducible repeat' first | exact hs6 | apply flow_post | apply flow_countBreach | apply flow_deviceBreach | apply flow_ite

end Sys2Proof.Laws
end

