-- ==== Sys2Proof/Laws/FlowB.lean ====
section
/-!
SUPPORT. Laws/FlowB.lean: every operation of RegCore.lean, Queues.lean, Memory.lean, Iso.lean, Jobs.lean, Render.lean, Compose.lean flows.
-/

set_option linter.all false

namespace Sys2Proof.Laws

open Sys2Proof Sys2Proof.Machine

variable {t : Bool} {a : State}

/-! ### RegCore.lean -/

theorem flow_plainWrite {a0 : Nat} {a1 : Word} {s2 : State} (hs2 : Flow t a s2) : Flow t a (plainWrite a0 a1 s2) := by
  unfold plainWrite
  try dsimp only
  with_reducible repeat' first | exact hs2 | apply flow_wr | apply flow_wrSh | apply flow_ite | split | refine flow_mk ?_ (by rfl) (by rfl) (by rfl) (by rfl)

theorem flow_bumpErr {a0 : Bits} {s1 : State} (hs1 : Flow t a s1) : Flow t a (bumpErr a0 s1) := by
  unfold bumpErr
  with_reducible repeat' first | exact hs1 | apply flow_wrF

theorem flow_noteMiss {a0 : Requester} {a1 : Nat} {a2 : Bool} {a3 : Miss} {s4 : State} (hs4 : Flow t a s4) : Flow t a (noteMiss a0 a1 a2 a3 s4) := by
  unfold noteMiss
  try dsimp only
  with_reducible repeat' first | exact hs4 | apply flow_isoLog | apply flow_bumpErr | split | refine flow_mk ?_ (by rfl) (by rfl) (by rfl) (by rfl)

theorem flow_plainWriteReq {a0 : Requester} {a1 : Nat} {a2 : Word} {s3 : State} (hs3 : Flow t a s3) : Flow t a (plainWriteReq a0 a1 a2 s3) := by
  unfold plainWriteReq
  try dsimp only
  with_reducible repeat' first | exact hs3 | apply flow_wrReq | split | refine flow_mk ?_ (by rfl) (by rfl) (by rfl) (by rfl)

theorem flow_setPair {a0 : Requester} {a1 : PairRec} {s2 : State} (hs2 : Flow t a s2) : Flow t a (setPair a0 a1 s2) := by
  unfold setPair
  try dsimp only
  with_reducible repeat' first | exact hs2 | apply flow_wrReq | refine flow_mk ?_ (by rfl) (by rfl) (by rfl) (by rfl)

theorem flow_pairFail {a0 : Requester} {a1 : Nat} {s2 : State} (hs2 : Flow t a s2) : Flow t a (pairFail a0 a1 s2) := by
  unfold pairFail
  try dsimp only
  with_reducible repeat' first | exact hs2 | apply flow_setPair | apply flow_wrReq | apply flow_ite | split | refine flow_mk ?_ (by rfl) (by rfl) (by rfl) (by rfl)

/-! ### Queues.lean -/

theorem flow_setEq {a0 : Nat} {a1 : Bool} {a2 : EqRec → EqRec} {s3 : State} (hs3 : Flow t a s3) : Flow t a (setEq a0 a1 a2 s3) := by
  unfold setEq
  try dsimp only
  with_reducible repeat' first | exact hs3 | apply flow_ite | refine flow_mk ?_ (by rfl) (by rfl) (by rfl) (by rfl)

theorem flow_eqRiWrite {a0 : Nat} {a1 : Bool} {a2 : Nat} {s3 : State} (hs3 : Flow t a s3) : Flow t a (eqRiWrite a0 a1 a2 s3) := by
  unfold eqRiWrite
  try dsimp only
  with_reducible repeat' first | exact hs3 | apply flow_setEq | apply flow_ite | refine flow_mk ?_ (by rfl) (by rfl) (by rfl) (by rfl)

theorem flow_eqRegWrite {a0 : Nat} {a1 : Bool} {a2 : Nat} {a3 : Word} {s4 : State} (hs4 : Flow t a s4) : Flow t a (eqRegWrite a0 a1 a2 a3 s4) := by
  unfold eqRegWrite
  try dsimp only
  with_reducible repeat' first | exact hs4 | apply flow_setEq | apply flow_eqRiWrite | apply flow_ite | refine flow_mk ?_ (by rfl) (by rfl) (by rfl) (by rfl)

theorem flow_ringRegWrite {a0 : Nat} {a1 : Bool} {a2 : Nat} {a3 : Word} {s4 : State} (hs4 : Flow t a s4) : Flow t a (ringRegWrite a0 a1 a2 a3 s4) := by
  unfold ringRegWrite
  try dsimp only
  with_reducible repeat' first | exact hs4 | apply flow_setRing | apply flow_ite | refine flow_mk ?_ (by rfl) (by rfl) (by rfl) (by rfl)

theorem flow_msixWrite {a0 : Nat} {a1 : Nat} {a2 : Word} {s3 : State} (hs3 : Flow t a s3) : Flow t a (msixWrite a0 a1 a2 s3) := by
  unfold msixWrite
  try dsimp only
  with_reducible repeat' first | exact hs3 | apply flow_sendMsix | apply flow_ite | split | refine flow_mk ?_ (by rfl) (by rfl) (by rfl) (by rfl)

theorem flow_eqWrite {a0 : Nat} {a1 : Bool} {a2 : List Byte} {s3 : State} (hs3 : Flow t a s3) : Flow t a (eqWrite a0 a1 a2 s3) := by
  unfold eqWrite
  try dsimp only
  with_reducible repeat' first | exact hs3 | apply flow_wrIovas | apply flow_setEq | apply flow_sendMsix | apply flow_ite | refine flow_mk ?_ (by rfl) (by rfl) (by rfl) (by rfl)

theorem flow_eqPost {a0 : Nat} {a1 : Bool} {s2 : State} (hs2 : Flow t a s2) : Flow t a (eqPost a0 a1 s2) := by
  unfold eqPost
  try dsimp only
  with_reducible repeat' first | exact hs2 | apply flow_setEq | apply flow_eqWrite | apply flow_ite | split | refine flow_mk ?_ (by rfl) (by rfl) (by rfl) (by rfl)

theorem flow_execEventRecordPost {a0 : Tick} {a1 : Fn} {a2 : Bool} {s3 : State} (hs3 : Flow t a s3) : OutFlow t a (execEventRecordPost a0 a1 a2 s3) := by
  unfold execEventRecordPost
  try dsimp only
  with_reducible repeat' first | exact hs3 | apply flow_advance | apply flow_eqPost | apply flow_dueFault | apply flow_ite | apply flow_next | apply flow_out_ite

/-! ### Memory.lean -/

theorem flow_zeroFill {a0 : Nat} {a1 : Nat} {s2 : State} (hs2 : Flow t a s2) : Flow t a (zeroFill a0 a1 s2) := by
  unfold zeroFill
  try dsimp only
  with_reducible repeat' first | exact hs2 | apply flow_unpoison | refine flow_mk ?_ (by rfl) (by rfl) (by rfl) (by rfl) | refine flow_mkw ?_ (by rfl) (fun w => by unfold memWf at w ⊢; obtain ⟨w1, w2, w3, w4, w5, w6, w7, w8⟩ := w; refine ⟨?_, ?_, ?_, ?_, ?_, ?_, ?_, ?_⟩ <;> repeat (first | assumption | apply twf_put | apply twf_mod | apply twf_clear | apply twf_filter | apply twf_puts))

theorem flow_toClear {a0 : List (Nat × Nat)} {s1 : State} (hs1 : Flow t a s1) : Flow t a (toClear a0 s1) := by
  unfold toClear
  try dsimp only
  with_reducible repeat' first | exact hs1 | refine flow_mk ?_ (by rfl) (by rfl) (by rfl) (by rfl)

theorem flow_letGo {s0 : State} (hs0 : Flow t a s0) : Flow t a (letGo s0) := by
  unfold letGo
  try dsimp only
  with_reducible repeat' first | exact hs0 | apply flow_toClear | split | refine flow_mk ?_ (by rfl) (by rfl) (by rfl) (by rfl)

theorem flow_retire {a0 : Lease} {a1 : Tick} {a2 : Bool} {s3 : State} (hs3 : Flow t a s3) : Flow t a (retire a0 a1 a2 s3) := by
  unfold retire
  try dsimp only
  with_reducible repeat' first | exact hs3 | apply flow_post | apply flow_letGo | apply flow_ite | split | refine flow_mk ?_ (by rfl) (by rfl) (by rfl) (by rfl)

theorem flow_leaseClaim {a0 : Nat} {a1 : Nat} {s2 : State} (hs2 : Flow t a s2) : Flow t a (leaseClaim a0 a1 s2) := by
  unfold leaseClaim
  with_reducible repeat' first | exact hs2 | assumption | intro _ | apply flow_retire | apply flow_foldl | apply flow_foldl_snd | apply flow_foldl_fst

theorem flow_notePeak {s0 : State} (hs0 : Flow t a s0) : Flow t a (notePeak s0) := by
  unfold notePeak
  try dsimp only
  with_reducible repeat' first | exact hs0 | refine flow_mk ?_ (by rfl) (by rfl) (by rfl) (by rfl)

theorem flow_leaseBegin {a0 : Lease} {s1 : State} (hs1 : Flow t a s1) : Flow t a (leaseBegin a0 s1) := by
  unfold leaseBegin
  try dsimp only
  with_reducible repeat' first | exact hs1 | apply flow_notePeak | refine flow_mk ?_ (by rfl) (by rfl) (by rfl) (by rfl)

theorem flow_vatCorrected {s0 : State} {a1 : BitVec 26} (hs0 : Flow t a s0) : Flow t a (vatCorrected s0 a1) := by
  unfold vatCorrected
  try dsimp only
  with_reducible repeat' first | exact hs0 | apply flow_wrF | apply flow_wr

theorem flow_freePart {a0 : Nat} {a1 : Nat} {a2 : List (Nat × Nat)} {s3 : State} (hs3 : Flow t a s3) : Flow t a (freePart a0 a1 a2 s3) := by
  revert hs3
  fun_induction freePart a0 a1 a2 s3 <;> intro hs3 <;> (try dsimp only) <;> with_reducible repeat' first | exact hs3 | assumption | intro _ | apply_assumption | apply flow_toClear | apply flow_ite | refine flow_mk ?_ (by rfl) (by rfl) (by rfl) (by rfl)

theorem flow_unmapRange {a0 : Nat} {a1 : Nat} {a2 : Nat} {s3 : State} (hs3 : Flow t a s3) : Flow t a (unmapRange a0 a1 a2 s3) := by
  unfold unmapRange
  try dsimp only
  with_reducible repeat' first | exact hs3 | assumption | intro _ | apply flow_freePart | apply flow_toClear | apply flow_ite | apply flow_foldl | apply flow_foldl_snd | apply flow_foldl_fst | split | refine flow_mk ?_ (by rfl) (by rfl) (by rfl) (by rfl)

theorem flow_leaseAll {a0 : Nat} {a1 : Tick} {s2 : State} (hs2 : Flow t a s2) : Flow t a (leaseAll a0 a1 s2) := by
  unfold leaseAll
  with_reducible repeat' first | exact hs2 | assumption | intro _ | apply flow_retire | apply flow_foldl | apply flow_foldl_snd | apply flow_foldl_fst

theorem flow_execNoFetchInFlight {a0 : Tick} {a1 : BitVec 3} {s2 : State} (hs2 : Flow t a s2) : OutFlow t a (execNoFetchInFlight a0 a1 s2) := by
  unfold execNoFetchInFlight
  try dsimp only
  with_reducible repeat' first | exact hs2 | apply flow_advance | apply flow_leaseAll | apply flow_ite | apply flow_next | apply flow_out_ite

theorem flow_leaseLatch {a0 : Nat} {a1 : Tick} {s2 : State} (hs2 : Flow t a s2) : Flow t a (leaseLatch a0 a1 s2) := by
  unfold leaseLatch
  try dsimp only
  with_reducible repeat' first | exact hs2 | assumption | intro _ | apply flow_retire | apply flow_ite | apply flow_foldl | apply flow_foldl_snd | apply flow_foldl_fst | refine flow_mk ?_ (by rfl) (by rfl) (by rfl) (by rfl)

theorem flow_leaseFetch {a0 : Nat} {a1 : Nat} {a2 : List (Nat × Nat)} {a3 : Tick} {s4 : State} (hs4 : Flow t a s4) : Flow t a (leaseFetch a0 a1 a2 a3 s4) := by
  unfold leaseFetch
  try dsimp only
  with_reducible repeat' first | exact hs4 | apply flow_ite | refine flow_mk ?_ (by rfl) (by rfl) (by rfl) (by rfl)

theorem flow_execMemFault {a0 : Tick} {a1 : Fn} {a2 : BitVec 8} {a3 : BitVec 48} {a4 : Bool} {s5 : State} (hs5 : Flow t a s5) : OutFlow t a (execMemFault a0 a1 a2 a3 a4 s5) := by
  unfold execMemFault
  try dsimp only
  with_reducible repeat' first | exact hs5 | apply flow_advance | apply flow_memFault | apply flow_next | exact flow_fault | split | refine flow_mk ?_ (by rfl) (by rfl) (by rfl) (by rfl)

theorem flow_execPageZeroFillDone {a0 : Tick} {s1 : State} (hs1 : Flow t a s1) : OutFlow t a (execPageZeroFillDone a0 s1) := by
  unfold execPageZeroFillDone
  try dsimp only
  with_reducible repeat' first | exact hs1 | apply flow_advance | apply flow_zeroFill | apply flow_next | split | refine flow_mk ?_ (by rfl) (by rfl) (by rfl) (by rfl)

theorem flow_execVatScrub {a0 : Tick} {a1 : List (BitVec 26)} {s2 : State} (hs2 : Flow t a s2) : OutFlow t a (execVatScrub a0 a1 s2) := by
  unfold execVatScrub
  with_reducible repeat' first | exact hs2 | assumption | intro _ | apply flow_vatCorrected | apply flow_advance | apply flow_next | apply flow_foldl | apply flow_foldl_snd | apply flow_foldl_fst

theorem flow_resetMaps {a0 : Nat} {s1 : State} (hs1 : Flow t a s1) : Flow t a (resetMaps a0 s1) := by
  unfold resetMaps
  try dsimp only
  with_reducible repeat' first | exact hs1 | assumption | intro _ | apply flow_toClear | apply flow_zeroFill | apply flow_ite | apply flow_foldl | apply flow_foldl_snd | apply flow_foldl_fst | refine flow_mk ?_ (by rfl) (by rfl) (by rfl) (by rfl)

theorem flow_deadLeases {a0 : Nat} {s1 : State} (hs1 : Flow t a s1) : Flow t a (deadLeases a0 s1) := by
  unfold deadLeases
  try dsimp only
  with_reducible repeat' first | exact hs1 | apply flow_ite | refine flow_mk ?_ (by rfl) (by rfl) (by rfl) (by rfl)

theorem flow_earlyFree {a0 : Nat} {a1 : Nat} {a2 : Nat} {a3 : Bool} {s4 : State} (hs4 : Flow t a s4) : Flow t a (earlyFree a0 a1 a2 a3 s4) := by
  unfold earlyFree
  try dsimp only
  with_reducible repeat' first | exact hs4 | assumption | intro _ | apply flow_countBreach | apply flow_setOut | apply flow_setLayer | apply flow_ite | apply flow_foldl | apply flow_foldl_snd | apply flow_foldl_fst | refine flow_mk ?_ (by rfl) (by rfl) (by rfl) (by rfl)

theorem flow_doMemUnmap {a0 : Ctx} {s1 : State} (hs1 : Flow t a s1) : AnsFlow t a (doMemUnmap a0 s1) := by
  unfold doMemUnmap
  try dsimp only
  with_reducible repeat' first | exact hs1 | apply flow_unmapRange | apply flow_earlyFree | apply flow_ite | apply ans_reply | apply ans_later | apply ans_outside | apply ans_ite

theorem flow_execMemUnmap {a0 : Tick} {a1 : Request} {s2 : State} (hs2 : Flow t a s2) : OutFlow t a (execMemUnmap a0 a1 s2) := by
  unfold execMemUnmap
  with_reducible repeat' first | exact hs2 | assumption | intro _ | apply flow_gcp | apply flow_doMemUnmap | apply flow_next

theorem flow_doMemMap {a0 : Ctx} {s1 : State} (hs1 : Flow t a s1) : AnsFlow t a (doMemMap a0 s1) := by
  unfold doMemMap
  try dsimp only
  with_reducible repeat' first | exact hs1 | assumption | intro _ | apply flow_zeroFill | apply flow_ite | apply ans_reply | apply ans_later | apply ans_outside | apply ans_ite | apply flow_foldl | apply flow_foldl_snd | apply flow_foldl_fst | split | refine flow_mk ?_ (by rfl) (by rfl) (by rfl) (by rfl)

theorem flow_execMemMap {a0 : Tick} {a1 : Request} {s2 : State} (hs2 : Flow t a s2) : OutFlow t a (execMemMap a0 a1 s2) := by
  unfold execMemMap
  with_reducible repeat' first | exact hs2 | assumption | intro _ | apply flow_gcp | apply flow_doMemMap | apply flow_next

theorem flow_carveLock {a0 : Word} {s1 : State} (hs1 : Flow t a s1) : Flow t a (carveLock a0 s1) := by
  unfold carveLock
  with_reducible repeat' first | exact hs1 | apply flow_wrB | apply flow_ite

/-! ### Iso.lean -/

theorem flow_setCores {a0 : CoreState → CoreState} {s1 : State} (hs1 : Flow t a s1) : Flow t a (setCores a0 s1) := by
  unfold setCores
  try dsimp only
  with_reducible repeat' first | exact hs1 | refine flow_mk ?_ (by rfl) (by rfl) (by rfl) (by rfl)

theorem flow_toMainland {s0 : State} (hs0 : Flow t a s0) : Flow t a (toMainland s0) := by
  unfold toMainland
  try dsimp only
  with_reducible repeat' first | exact hs0 | apply flow_setCores | apply flow_wrB | apply flow_wrF | apply flow_ite | split | refine flow_mk ?_ (by rfl) (by rfl) (by rfl) (by rfl)

theorem flow_dbgRefuse {a0 : DebugReq} {a1 : Nat} {a2 : Nat} {s3 : State} (hs3 : Flow t a s3) : Flow t a (dbgRefuse a0 a1 a2 s3) := by
  unfold dbgRefuse
  try dsimp only
  with_reducible repeat' first | exact hs3 | apply flow_isoLog | apply flow_wr

theorem flow_dbgProceed {a0 : DebugReq} {a1 : Bool} {s2 : State} (hs2 : Flow t a s2) : Flow t a (dbgProceed a0 a1 s2) := by
  unfold dbgProceed
  try dsimp only
  with_reducible repeat' first | exact hs2 | apply flow_wrF | apply flow_wrB | apply flow_isoLog | apply flow_raiseHolm | apply flow_ite | split | refine flow_mk ?_ (by rfl) (by rfl) (by rfl) (by rfl)

theorem flow_dbgResume {a0 : Bool} {s1 : State} (hs1 : Flow t a s1) : Flow t a (dbgResume a0 s1) := by
  unfold dbgResume
  try dsimp only
  with_reducible repeat' first | exact hs1 | apply flow_wrF | apply flow_wrB | apply flow_ite

theorem flow_dbgHalt {a0 : Bool} {s1 : State} (hs1 : Flow t a s1) : Flow t a (dbgHalt a0 s1) := by
  unfold dbgHalt
  with_reducible repeat' first | exact hs1 | apply flow_wrF | apply flow_wrB | apply flow_ite

theorem flow_dbgAct {a0 : DebugReq} {s1 : State} (hs1 : Flow t a s1) : Flow t a (dbgAct a0 s1) := by
  unfold dbgAct
  try dsimp only
  with_reducible repeat' first | exact hs1 | apply flow_dbgHalt | apply flow_dbgResume | apply flow_wrB | split | refine flow_mk ?_ (by rfl) (by rfl) (by rfl) (by rfl)

theorem flow_dbgAccess {a0 : DebugReq} {a1 : Bool} {a2 : Nat} {s3 : State} (hs3 : Flow t a s3) : Flow t a (dbgAccess a0 a1 a2 s3) := by
  unfold dbgAccess
  try dsimp only
  with_reducible repeat' first | exact hs3 | apply flow_dbgAct | apply flow_dbgProceed | apply flow_dbgRefuse | apply flow_ite | split | refine flow_mk ?_ (by rfl) (by rfl) (by rfl) (by rfl)

theorem flow_execDebugHaltRequest {a0 : Tick} {a1 : World} {a2 : Bool} {s3 : State} (hs3 : Flow t a s3) : OutFlow t a (execDebugHaltRequest a0 a1 a2 s3) := by
  unfold execDebugHaltRequest
  with_reducible repeat' first | exact hs3 | apply flow_dbgAccess | apply flow_advance | apply flow_next

theorem flow_execDebugAccess {a0 : Tick} {a1 : DebugReq} {a2 : BitVec 8} {a3 : Bool} {s4 : State} (hs4 : Flow t a s4) : OutFlow t a (execDebugAccess a0 a1 a2 a3 s4) := by
  unfold execDebugAccess
  try dsimp only
  with_reducible repeat' first | exact hs4 | apply flow_dbgAccess | apply flow_advance | apply flow_next | split | refine flow_mk ?_ (by rfl) (by rfl) (by rfl) (by rfl)

theorem flow_execMainlandReturn {a0 : Tick} {s1 : State} (hs1 : Flow t a s1) : OutFlow t a (execMainlandReturn a0 s1) := by
  unfold execMainlandReturn
  try dsimp only
  with_reducible repeat' first | exact hs1 | apply flow_advance | apply flow_toMainland | apply flow_setCores | apply flow_ite | apply flow_next | apply flow_out_ite | split | refine flow_mk ?_ (by rfl) (by rfl) (by rfl) (by rfl) | refine flow_mkw ?_ (by rfl) (fun w => by unfold memWf at w ⊢; obtain ⟨w1, w2, w3, w4, w5, w6, w7, w8⟩ := w; refine ⟨?_, ?_, ?_, ?_, ?_, ?_, ?_, ?_⟩ <;> repeat (first | assumption | apply twf_put | apply twf_mod | apply twf_clear | apply twf_filter | apply twf_puts))

theorem flow_execHolmInterrupt {a0 : Tick} {a1 : Word} {a2 : Word} {a3 : List Word} {s4 : State} (hs4 : Flow t a s4) : OutFlow t a (execHolmInterrupt a0 a1 a2 a3 s4) := by
  unfold execHolmInterrupt
  try dsimp only
  with_reducible repeat' first | exact hs4 | apply flow_advance | apply flow_setCores | apply flow_ite | apply flow_next | apply flow_out_ite | split | refine flow_mk ?_ (by rfl) (by rfl) (by rfl) (by rfl)

theorem flow_execFetchCross {a0 : Tick} {s1 : State} (hs1 : Flow t a s1) : OutFlow t a (execFetchCross a0 s1) := by
  unfold execFetchCross
  try dsimp only
  with_reducible repeat' first | exact hs1 | apply flow_advance | apply flow_setCores | apply flow_isoLog | apply flow_ite | apply flow_next | apply flow_out_ite | refine flow_mk ?_ (by rfl) (by rfl) (by rfl) (by rfl)

theorem flow_execGateRet {a0 : Tick} {a1 : Word} {a2 : Word} {s3 : State} (hs3 : Flow t a s3) : OutFlow t a (execGateRet a0 a1 a2 s3) := by
  unfold execGateRet
  try dsimp only
  with_reducible repeat' first | exact hs3 | apply flow_advance | apply flow_toMainland | apply flow_setCores | apply flow_ite | apply flow_next | apply flow_out_ite | split | refine flow_mk ?_ (by rfl) (by rfl) (by rfl) (by rfl) | refine flow_mkw ?_ (by rfl) (fun w => by unfold memWf at w ⊢; obtain ⟨w1, w2, w3, w4, w5, w6, w7, w8⟩ := w; refine ⟨?_, ?_, ?_, ?_, ?_, ?_, ?_, ?_⟩ <;> repeat (first | assumption | apply twf_put | apply twf_mod | apply twf_clear | apply twf_filter | apply twf_puts))

theorem flow_execGate {a0 : Tick} {a1 : BitVec 32} {a2 : Word} {a3 : List Word} {s4 : State} (hs4 : Flow t a s4) : OutFlow t a (execGate a0 a1 a2 a3 s4) := by
  unfold execGate
  try dsimp only
  with_reducible repeat' first | exact hs4 | apply flow_advance | apply flow_setCores | apply flow_isoLog | apply flow_ite | apply flow_next | apply flow_out_ite | refine flow_mk ?_ (by rfl) (by rfl) (by rfl) (by rfl)

theorem flow_setIso {a0 : IsoState → IsoState} {s1 : State} (hs1 : Flow t a s1) : Flow t a (setIso a0 s1) := by
  unfold setIso
  try dsimp only
  with_reducible repeat' first | exact hs1 | refine flow_mk ?_ (by rfl) (by rfl) (by rfl) (by rfl)

theorem flow_execIsoNotice {a0 : Tick} {s1 : State} (hs1 : Flow t a s1) : OutFlow t a (execIsoNotice a0 s1) := by
  unfold execIsoNotice
  try dsimp only
  with_reducible repeat' first | exact hs1 | apply flow_advance | apply flow_post | apply flow_setIso | apply flow_ite | apply flow_next | apply flow_out_ite | refine flow_mk ?_ (by rfl) (by rfl) (by rfl) (by rfl)

theorem flow_drainOne {s0 : State} {a1 : IsoEntry} (hs0 : Flow t a s0) : Flow t a (drainOne s0 a1) := by
  unfold drainOne
  try dsimp only
  with_reducible repeat' first | exact hs0 | apply flow_ringMirror | apply flow_setIso | split | refine flow_mk ?_ (by rfl) (by rfl) (by rfl) (by rfl)

theorem flow_execIsoLogDrain {a0 : Tick} {s1 : State} (hs1 : Flow t a s1) : OutFlow t a (execIsoLogDrain a0 s1) := by
  unfold execIsoLogDrain
  try dsimp only
  with_reducible repeat' first | exact hs1 | assumption | intro _ | apply flow_advance | apply flow_drainOne | apply flow_setIso | apply flow_ite | apply flow_next | apply flow_out_ite | apply flow_foldl | apply flow_foldl_snd | apply flow_foldl_fst | refine flow_mk ?_ (by rfl) (by rfl) (by rfl) (by rfl)

theorem flow_doIsoLogRead {a0 : Ctx} {s1 : State} (hs1 : Flow t a s1) : AnsFlow t a (doIsoLogRead a0 s1) := by
  unfold doIsoLogRead
  try dsimp only
  with_reducible repeat' first | exact hs1 | apply flow_wrIovas | apply flow_ite | apply ans_reply | apply ans_later | apply ans_outside | apply ans_ite | split | refine flow_mk ?_ (by rfl) (by rfl) (by rfl) (by rfl)

theorem flow_execIsoLogRead {a0 : Tick} {a1 : Request} {s2 : State} (hs2 : Flow t a s2) : OutFlow t a (execIsoLogRead a0 a1 s2) := by
  unfold execIsoLogRead
  with_reducible repeat' first | exact hs2 | assumption | intro _ | apply flow_gcp | apply flow_doIsoLogRead | apply flow_next

/-! ### Jobs.lean -/

theorem flow_jobWrite {a0 : Bool} {a1 : Nat} {a2 : Nat} {a3 : List Byte} {s4 : State} (hs4 : Flow t a s4) : Flow t a (jobWrite a0 a1 a2 a3 s4) := by
  unfold jobWrite
  with_reducible repeat' first | exact hs4 | apply flow_wrDpas | apply flow_wrIovas | apply flow_ite

theorem flow_doFenceRead {a0 : Ctx} {s1 : State} (hs1 : Flow t a s1) : AnsFlow t a (doFenceRead a0 s1) := by
  unfold doFenceRead
  try dsimp only
  with_reducible repeat' first | exact hs1 | apply ans_reply | apply ans_later | apply ans_outside | apply ans_ite

theorem flow_execFenceRead {a0 : Tick} {a1 : Request} {s2 : State} (hs2 : Flow t a s2) : OutFlow t a (execFenceRead a0 a1 s2) := by
  unfold execFenceRead
  with_reducible repeat' first | exact hs2 | assumption | intro _ | apply flow_gcp | apply flow_doFenceRead | apply flow_next

theorem flow_doSubmit {a0 : Kind} {a1 : Ctx} {s2 : State} (hs2 : Flow t a s2) : AnsFlow t a (doSubmit a0 a1 s2) := by
  unfold doSubmit
  try dsimp only
  with_reducible repeat' first | exact hs2 | apply flow_admitReply | apply flow_ite | apply ans_reply | apply ans_later | apply ans_outside | apply ans_ite | split | refine flow_mk ?_ (by rfl) (by rfl) (by rfl) (by rfl)

theorem flow_execComputeSubmit {a0 : Tick} {a1 : Request} {s2 : State} (hs2 : Flow t a s2) : OutFlow t a (execComputeSubmit a0 a1 s2) := by
  unfold execComputeSubmit
  with_reducible repeat' first | exact hs2 | assumption | intro _ | apply flow_gcp | apply flow_doSubmit | apply flow_next

theorem flow_execRenderSubmit {a0 : Tick} {a1 : Request} {s2 : State} (hs2 : Flow t a s2) : OutFlow t a (execRenderSubmit a0 a1 s2) := by
  unfold execRenderSubmit
  with_reducible repeat' first | exact hs2 | assumption | intro _ | apply flow_gcp | apply flow_doSubmit | apply flow_next

/-! ### Render.lean -/

theorem flow_setRen {a0 : RenderState → RenderState} {s1 : State} (hs1 : Flow t a s1) : Flow t a (setRen a0 s1) := by
  unfold setRen
  try dsimp only
  with_reducible repeat' first | exact hs1 | refine flow_mk ?_ (by rfl) (by rfl) (by rfl) (by rfl)

theorem flow_setCore {a0 : Nat} {a1 : Core} {s2 : State} (hs2 : Flow t a s2) : Flow t a (setCore a0 a1 s2) := by
  unfold setCore
  try dsimp only
  with_reducible repeat' first | exact hs2 | apply flow_setRen | refine flow_mk ?_ (by rfl) (by rfl) (by rfl) (by rfl)

theorem flow_freeCore {a0 : Nat} {s1 : State} (hs1 : Flow t a s1) : Flow t a (freeCore a0 s1) := by
  unfold freeCore
  try dsimp only
  with_reducible repeat' first | exact hs1 | apply flow_setCore | split | refine flow_mk ?_ (by rfl) (by rfl) (by rfl) (by rfl)

theorem flow_dropJob {a0 : Nat} {a1 : Nat} {a2 : Nat} {s3 : State} (hs3 : Flow t a s3) : Flow t a (dropJob a0 a1 a2 s3) := by
  unfold dropJob
  try dsimp only
  with_reducible repeat' first | exact hs3 | assumption | intro _ | apply flow_freeCore | apply flow_setRen | apply flow_ite | apply flow_id | apply flow_foldl | apply flow_foldl_snd | apply flow_foldl_fst | split | refine flow_mk ?_ (by rfl) (by rfl) (by rfl) (by rfl)

theorem flow_accrue {s0 : State} (hs0 : Flow t a s0) : Flow t a (accrue s0) := by
  unfold accrue
  try dsimp only
  with_reducible repeat' first | exact hs0 | assumption | intro _ | apply flow_meter | apply flow_setRen | apply flow_ite | apply flow_foldl | apply flow_foldl_snd | apply flow_foldl_fst | split | refine flow_mk ?_ (by rfl) (by rfl) (by rfl) (by rfl)

theorem flow_stopJobs {a0 : Nat} {a1 : Nat} {s2 : State} (hs2 : Flow t a s2) : Flow t a (stopJobs a0 a1 s2) := by
  unfold stopJobs
  with_reducible repeat' first | exact hs2 | assumption | intro _ | apply flow_dropJob | apply flow_accrue | apply flow_id | apply flow_foldl | apply flow_foldl_snd | apply flow_foldl_fst

theorem flow_storeTile {a0 : Job} {a1 : Nat} {a2 : Table Nat} {s3 : State} (hs3 : Flow t a s3) : Flow t a (storeTile a0 a1 a2 s3) := by
  unfold storeTile
  try dsimp only
  with_reducible repeat' first | exact hs3 | assumption | intro _ | apply flow_jobWrite | apply flow_ite | apply flow_foldl | apply flow_foldl_snd | apply flow_foldl_fst

theorem flow_setJob {a0 : Nat} {a1 : Nat} {a2 : Nat} {a3 : Job → Job} {s4 : State} (hs4 : Flow t a s4) : Flow t a (setJob a0 a1 a2 a3 s4) := by
  unfold setJob
  try dsimp only
  with_reducible repeat' first | exact hs4 | apply flow_setRen | apply flow_ite | apply flow_id | refine flow_mk ?_ (by rfl) (by rfl) (by rfl) (by rfl)

theorem flow_jobStores {a0 : Job} {a1 : List MemWrite} {s2 : State} (hs2 : Flow t a s2) : Flow t a (jobStores a0 a1 s2) := by
  unfold jobStores
  with_reducible repeat' first | exact hs2 | assumption | intro _ | apply flow_jobWrite | apply flow_foldl | apply flow_foldl_snd | apply flow_foldl_fst

theorem flow_execVertexBatchEnd {a0 : Tick} {a1 : BitVec 4} {a2 : List ClipPrim} {a3 : List MemWrite} {a4 : BitVec 40} {s5 : State} (hs5 : Flow t a s5) : OutFlow t a (execVertexBatchEnd a0 a1 a2 a3 a4 s5) := by
  unfold execVertexBatchEnd
  try dsimp only
  with_reducible repeat' first | exact hs5 | apply flow_accrue | apply flow_advance | apply flow_freeCore | apply flow_meter | apply flow_jobStores | apply flow_setJob | apply flow_next | split | refine flow_mk ?_ (by rfl) (by rfl) (by rfl) (by rfl)

theorem flow_startJobAt {a0 : Contract} {a1 : Nat} {a2 : Nat} {a3 : Nat} {a4 : Nat} {s5 : State} (hs5 : Flow t a s5) : Flow t a (startJobAt a0 a1 a2 a3 a4 s5) := by
  unfold startJobAt
  try dsimp only
  with_reducible repeat' first | exact hs5 | apply flow_setRen | apply flow_ite | apply flow_id | split | refine flow_mk ?_ (by rfl) (by rfl) (by rfl) (by rfl)

theorem flow_bump32 {a0 : Nat} {a1 : Nat} {s2 : State} (hs2 : Flow t a s2) : Flow t a (bump32 a0 a1 s2) := by
  unfold bump32
  with_reducible repeat' first | exact hs2 | apply flow_wr

theorem flow_saveCtx {a0 : Nat} {s1 : State} (hs1 : Flow t a s1) : Flow t a (saveCtx a0 s1) := by
  unfold saveCtx
  try dsimp only
  with_reducible repeat' first | exact hs1 | apply flow_freeCore | apply flow_setRen | split | refine flow_mk ?_ (by rfl) (by rfl) (by rfl) (by rfl)

theorem flow_place {a0 : Nat} {a1 : Bool} {a2 : Cand} {s3 : State} (hs3 : Flow t a s3) : Flow t a (place a0 a1 a2 s3) := by
  unfold place
  try dsimp only
  with_reducible repeat' first | exact hs3 | apply flow_setCore | apply flow_setRen | apply flow_setJob | apply flow_ite | split | refine flow_mk ?_ (by rfl) (by rfl) (by rfl) (by rfl)

theorem flow_execMainlandSwap {a0 : Tick} {s1 : State} (hs1 : Flow t a s1) : OutFlow t a (execMainlandSwap a0 s1) := by
  unfold execMainlandSwap
  try dsimp only
  with_reducible repeat' first | exact hs1 | apply flow_accrue | apply flow_advance | apply flow_place | apply flow_bump32 | apply flow_saveCtx | apply flow_ite | apply flow_next | apply flow_out_ite | split | refine flow_mk ?_ (by rfl) (by rfl) (by rfl) (by rfl)

theorem flow_claimCore {took core : Nat} {b : Bool} {s u : State} (h : Flow t a s) (hc : claimCore took s = some (core, b, u)) : Flow t a u := by
  unfold claimCore at hc
  split at hc
  · simp only [Option.some.injEq, Prod.mk.injEq] at hc
    obtain ⟨_, _, rfl⟩ := hc
    exact h
  · simp only at hc
    generalize hx : bestVictim (takeable s) = x at hc
    rw [Option.ite_none_right_eq_some] at hc
    obtain ⟨_, hc⟩ := hc
    cases x with
    | none => simp at hc
    | some x =>
      simp only [Option.some.injEq, Prod.mk.injEq] at hc
      obtain ⟨_, _, rfl⟩ := hc
      exact flow_wrF (flow_bump32 (flow_setRen (flow_saveCtx h)))

theorem flow_execCompositorPreempt {a0 : Tick} {a1 : BitVec 10} {s2 : State} (hs2 : Flow t a s2) : OutFlow t a (execCompositorPreempt a0 a1 s2) := by
  unfold execCompositorPreempt
  dsimp only
  have k : Flow t a (accrue (advance a0 s2)) := flow_accrue (flow_advance hs2)
  split
  · exact flow_next k
  · split
    · exact flow_next (flow_place (flow_claimCore k (by assumption)))
    · exact flow_next k

theorem flow_fillCore {s0 : State} {a1 : Nat} (hs0 : Flow t a s0) : Flow t a (fillCore s0 a1) := by
  unfold fillCore
  try dsimp only
  with_reducible repeat' first | exact hs0 | apply flow_place | apply flow_ite | split | refine flow_mk ?_ (by rfl) (by rfl) (by rfl) (by rfl)

theorem flow_execDispatcherDecision {a0 : Tick} {s1 : State} (hs1 : Flow t a s1) : OutFlow t a (execDispatcherDecision a0 s1) := by
  unfold execDispatcherDecision
  try dsimp only
  with_reducible repeat' first | exact hs1 | assumption | intro _ | apply flow_accrue | apply flow_advance | apply flow_fillCore | apply flow_ite | apply flow_next | apply flow_out_ite | apply flow_foldl | apply flow_foldl_snd | apply flow_foldl_fst

theorem flow_frameDone {a0 : Nat} {a1 : Nat} {a2 : Nat} {a3 : Tick} {s4 : State} (hs4 : Flow t a s4) : Flow t a (frameDone a0 a1 a2 a3 s4) := by
  unfold frameDone
  try dsimp only
  with_reducible repeat' first | exact hs4 | apply flow_setRen | apply flow_ite | apply flow_id | refine flow_mk ?_ (by rfl) (by rfl) (by rfl) (by rfl)

theorem flow_setFence {a0 : Nat} {a1 : Bool} {a2 : Nat} {a3 : Nat} {s4 : State} (hs4 : Flow t a s4) : Flow t a (setFence a0 a1 a2 a3 s4) := by
  unfold setFence
  try dsimp only
  with_reducible repeat' first | exact hs4 | apply flow_setRen | apply flow_ite | apply flow_id | refine flow_mk ?_ (by rfl) (by rfl) (by rfl) (by rfl)

theorem flow_reportFault {a0 : Job} {s1 : State} (hs1 : Flow t a s1) : Flow t a (reportFault a0 s1) := by
  unfold reportFault
  try dsimp only
  with_reducible repeat' first | exact hs1 | apply flow_post | apply flow_setJob | apply flow_wr | apply flow_ite | split | refine flow_mk ?_ (by rfl) (by rfl) (by rfl) (by rfl)

theorem flow_execJobDelivered {a0 : Tick} {a1 : Fn} {a2 : Word} {a3 : Word} {s4 : State} (hs4 : Flow t a s4) : OutFlow t a (execJobDelivered a0 a1 a2 a3 s4) := by
  unfold execJobDelivered
  try dsimp only
  with_reducible repeat' first | exact hs4 | apply flow_accrue | apply flow_advance | apply flow_dropJob | apply flow_reportFault | apply flow_bump32 | apply flow_setFence | apply flow_setContract | apply flow_finish | apply flow_frameDone | apply flow_ite | apply flow_next | apply flow_out_ite | split | refine flow_mk ?_ (by rfl) (by rfl) (by rfl) (by rfl)

theorem flow_execWorkgroupDone {a0 : Tick} {a1 : BitVec 4} {a2 : List MemWrite} {a3 : BitVec 40} {s4 : State} (hs4 : Flow t a s4) : OutFlow t a (execWorkgroupDone a0 a1 a2 a3 s4) := by
  unfold execWorkgroupDone
  try dsimp only
  with_reducible repeat' first | exact hs4 | apply flow_accrue | apply flow_advance | apply flow_freeCore | apply flow_meter | apply flow_jobStores | apply flow_setJob | apply flow_next | split | refine flow_mk ?_ (by rfl) (by rfl) (by rfl) (by rfl)

theorem flow_execDispatchBegin {a0 : Tick} {a1 : Fn} {a2 : Word} {a3 : Word} {s4 : State} (hs4 : Flow t a s4) : OutFlow t a (execDispatchBegin a0 a1 a2 a3 s4) := by
  unfold execDispatchBegin
  try dsimp only
  with_reducible repeat' first | exact hs4 | apply flow_accrue | apply flow_advance | apply flow_setJob | apply flow_ite | apply flow_next | apply flow_out_ite | split | refine flow_mk ?_ (by rfl) (by rfl) (by rfl) (by rfl)

theorem flow_execProgramFault {a0 : Tick} {a1 : BitVec 4} {a2 : Word} {s3 : State} (hs3 : Flow t a s3) : OutFlow t a (execProgramFault a0 a1 a2 s3) := by
  unfold execProgramFault
  try dsimp only
  with_reducible repeat' first | exact hs3 | apply flow_accrue | apply flow_advance | apply flow_reportFault | apply flow_setJob | apply flow_next | split | refine flow_mk ?_ (by rfl) (by rfl) (by rfl) (by rfl)

theorem flow_execCommandFault {a0 : Tick} {a1 : Fn} {a2 : Word} {a3 : Word} {s4 : State} (hs4 : Flow t a s4) : OutFlow t a (execCommandFault a0 a1 a2 a3 s4) := by
  unfold execCommandFault
  try dsimp only
  with_reducible repeat' first | exact hs4 | apply flow_accrue | apply flow_advance | apply flow_reportFault | apply flow_next | split | refine flow_mk ?_ (by rfl) (by rfl) (by rfl) (by rfl)

theorem flow_execTileStoreDone {a0 : Tick} {a1 : BitVec 4} {a2 : List Frag} {a3 : List MemWrite} {a4 : BitVec 40} {s5 : State} (hs5 : Flow t a s5) : OutFlow t a (execTileStoreDone a0 a1 a2 a3 a4 s5) := by
  unfold execTileStoreDone
  try dsimp only
  with_reducible repeat' first | exact hs5 | apply flow_accrue | apply flow_advance | apply flow_storeTile | apply flow_jobStores | apply flow_bump32 | apply flow_freeCore | apply flow_meter | apply flow_setJob | apply flow_next | split | refine flow_mk ?_ (by rfl) (by rfl) (by rfl) (by rfl)

theorem flow_execTileDispatch {a0 : Tick} {a1 : BitVec 4} {s2 : State} (hs2 : Flow t a s2) : OutFlow t a (execTileDispatch a0 a1 s2) := by
  unfold execTileDispatch
  try dsimp only
  with_reducible repeat' first | exact hs2 | apply flow_accrue | apply flow_advance | apply flow_setCore | apply flow_setJob | apply flow_freeCore | apply flow_ite | apply flow_next | apply flow_out_ite | split | refine flow_mk ?_ (by rfl) (by rfl) (by rfl) (by rfl)

theorem flow_execVertexPhaseDone {a0 : Tick} {a1 : Fn} {a2 : Word} {a3 : Word} {s4 : State} (hs4 : Flow t a s4) : OutFlow t a (execVertexPhaseDone a0 a1 a2 a3 s4) := by
  unfold execVertexPhaseDone
  try dsimp only
  with_reducible repeat' first | exact hs4 | apply flow_accrue | apply flow_advance | apply flow_setJob | apply flow_ite | apply flow_next | apply flow_out_ite | split | refine flow_mk ?_ (by rfl) (by rfl) (by rfl) (by rfl)

theorem flow_execSectionBound {a0 : Tick} {a1 : BitVec 4} {a2 : Tick} {s3 : State} (hs3 : Flow t a s3) : OutFlow t a (execSectionBound a0 a1 a2 s3) := by
  unfold execSectionBound
  try dsimp only
  with_reducible repeat' first | exact hs3 | apply flow_accrue | apply flow_advance | apply flow_setCore | apply flow_wrF | apply flow_breach | apply flow_ite | apply flow_next | apply flow_out_ite | split | refine flow_mk ?_ (by rfl) (by rfl) (by rfl) (by rfl)

theorem flow_startJob {a0 : Contract} {s1 : State} (hs1 : Flow t a s1) : Flow t a (startJob a0 s1) := by
  unfold startJob
  with_reducible repeat' first | exact hs1 | apply flow_startJobAt

/-! ### Compose.lean -/

theorem flow_viewApply {a0 : Nat} {s1 : State} (hs1 : Flow t a s1) : Flow t a (viewApply a0 s1) := by
  unfold viewApply
  try dsimp only
  with_reducible repeat' first | exact hs1 | apply flow_setLayer | apply flow_wrF | refine flow_mk ?_ (by rfl) (by rfl) (by rfl) (by rfl)

theorem flow_takeLease {a0 : Nat} {a1 : Nat} {a2 : Bool × Nat} {a3 : List (Nat × Nat)} {a4 : Nat} {a5 : Tick} {s6 : State} (hs6 : Flow t a s6) : Flow t a (takeLease a0 a1 a2 a3 a4 a5 s6) := by
  unfold takeLease
  with_reducible repeat' first | exact hs6 | apply flow_leaseBegin | apply flow_ite

theorem flow_underrun {a0 : Nat} {a1 : Nat} {s2 : State} (hs2 : Flow t a s2) : Flow t a (underrun a0 a1 s2) := by
  unfold underrun
  try dsimp only
  with_reducible repeat' first | exact hs2 | apply flow_wrF | apply flow_wr | apply flow_post | apply flow_deviceBreach | apply flow_ite | split | refine flow_mk ?_ (by rfl) (by rfl) (by rfl) (by rfl)

theorem flow_layerFlag {a0 : Bits} {a1 : Nat} {a2 : Nat} {s3 : State} (hs3 : Flow t a s3) : Flow t a (layerFlag a0 a1 a2 s3) := by
  unfold layerFlag
  with_reducible repeat' first | exact hs3 | apply flow_wrB

theorem flow_queueLatch {a0 : Nat} {s1 : State} (hs1 : Flow t a s1) : Flow t a (queueLatch a0 s1) := by
  unfold queueLatch
  try dsimp only
  with_reducible repeat' first | exact hs1 | apply flow_setOut | apply flow_ite | split | refine flow_mk ?_ (by rfl) (by rfl) (by rfl) (by rfl)

theorem flow_layerLatch {a0 : Nat} {a1 : Tick} {s2 : State} {a3 : Nat} (hs2 : Flow t a s2) : Flow t a (layerLatch a0 a1 s2 a3) := by
  unfold layerLatch
  try dsimp only
  with_reducible repeat' first | exact hs2 | assumption | intro _ | apply flow_setLayer | apply flow_takeLease | apply flow_noteFault | apply flow_ite | apply flow_foldl | apply flow_foldl_snd | apply flow_foldl_fst | split | refine flow_mk ?_ (by rfl) (by rfl) (by rfl) (by rfl)

theorem flow_markLeases {a0 : Nat} {s1 : State} (hs1 : Flow t a s1) : Flow t a (markLeases a0 s1) := by
  unfold markLeases
  try dsimp only
  with_reducible repeat' first | exact hs1 | apply flow_ite | refine flow_mk ?_ (by rfl) (by rfl) (by rfl) (by rfl)

theorem flow_planFlags {a0 : Nat} {a1 : List Nat} {s2 : State} (hs2 : Flow t a s2) : Flow t a (planFlags a0 a1 s2) := by
  unfold planFlags
  with_reducible repeat' first | exact hs2 | assumption | intro _ | apply flow_layerFlag | apply flow_ite | apply flow_foldl | apply flow_foldl_snd | apply flow_foldl_fst

theorem flow_fetched {a0 : Nat} {a1 : List (Nat × List (Nat × Nat))} {a2 : Tick} {s3 : State} (hs3 : Flow t a s3) : Flow t a (fetched a0 a1 a2 s3) := by
  unfold fetched
  with_reducible repeat' first | exact hs3 | assumption | intro _ | apply flow_leaseFetch | apply flow_foldl | apply flow_foldl_snd | apply flow_foldl_fst

theorem flow_execQueueFrameComplete {a0 : Tick} {a1 : BitVec 3} {s2 : State} (hs2 : Flow t a s2) : OutFlow t a (execQueueFrameComplete a0 a1 s2) := by
  unfold execQueueFrameComplete
  try dsimp only
  with_reducible repeat' first | exact hs2 | apply flow_advance | apply flow_fetched | apply flow_planFlags | apply flow_markLeases | apply flow_setOut | apply flow_ite | apply flow_next | apply flow_out_ite | split | refine flow_mk ?_ (by rfl) (by rfl) (by rfl) (by rfl)

theorem flow_noteUsed {a0 : Nat} {s1 : State} {a2 : Nat} (hs1 : Flow t a s1) : Flow t a (noteUsed a0 s1 a2) := by
  unfold noteUsed
  try dsimp only
  with_reducible repeat' first | exact hs1 | apply flow_setLayer | apply flow_id | split | refine flow_mk ?_ (by rfl) (by rfl) (by rfl) (by rfl)

theorem flow_selectVin {a0 : Nat} {s1 : State} {a2 : Nat} (hs1 : Flow t a s1) : Flow t a (selectVin a0 s1 a2) := by
  unfold selectVin
  try dsimp only
  with_reducible repeat' first | exact hs1 | assumption | intro _ | apply flow_setLayer | apply flow_layerFlag | apply flow_takeLease | apply flow_noteFault | apply flow_ite | apply flow_foldl | apply flow_foldl_snd | apply flow_foldl_fst | split | refine flow_mk ?_ (by rfl) (by rfl) (by rfl) (by rfl)

theorem flow_execQueueFrameCompose {a0 : Tick} {a1 : BitVec 3} {s2 : State} (hs2 : Flow t a s2) : OutFlow t a (execQueueFrameCompose a0 a1 s2) := by
  unfold execQueueFrameCompose
  try dsimp only
  with_reducible repeat' first | exact hs2 | assumption | intro _ | apply flow_advance | apply flow_selectVin | apply flow_noteUsed | apply flow_planFlags | apply flow_markLeases | apply flow_setOut | apply flow_ite | apply flow_next | apply flow_out_ite | apply flow_foldl | apply flow_foldl_snd | apply flow_foldl_fst | refine flow_mk ?_ (by rfl) (by rfl) (by rfl) (by rfl)

theorem flow_setStrip {a0 : Nat} {a1 : Nat} {a2 : Strip → Strip} {s3 : State} (hs3 : Flow t a s3) : Flow t a (setStrip a0 a1 a2 s3) := by
  unfold setStrip
  try dsimp only
  with_reducible repeat' first | exact hs3 | apply flow_setOut | apply flow_ite | refine flow_mk ?_ (by rfl) (by rfl) (by rfl) (by rfl)

theorem flow_execStripDuePoint {a0 : Tick} {a1 : BitVec 3} {a2 : BitVec 10} {a3 : BitVec 5} {s4 : State} (hs4 : Flow t a s4) : OutFlow t a (execStripDuePoint a0 a1 a2 a3 s4) := by
  unfold execStripDuePoint
  try dsimp only
  with_reducible repeat' first | exact hs4 | apply flow_advance | apply flow_fetched | apply flow_underrun | apply flow_setStrip | apply flow_setOut | apply flow_ite | apply flow_next | apply flow_out_ite | split | refine flow_mk ?_ (by rfl) (by rfl) (by rfl) (by rfl)

theorem flow_composeStrip {a0 : Nat} {a1 : Nat} {s2 : State} (hs2 : Flow t a s2) : Flow t a (composeStrip a0 a1 s2) := by
  unfold composeStrip
  try dsimp only
  with_reducible repeat' first | exact hs2 | apply flow_setStrip | apply flow_fetched | apply flow_ite | split | refine flow_mk ?_ (by rfl) (by rfl) (by rfl) (by rfl)

theorem flow_execSkimDone {a0 : Tick} {a1 : BitVec 4} {s2 : State} (hs2 : Flow t a s2) : OutFlow t a (execSkimDone a0 a1 s2) := by
  unfold execSkimDone
  try dsimp only
  with_reducible repeat' first | exact hs2 | apply flow_accrue | apply flow_advance | apply flow_freeCore | apply flow_setStrip | apply flow_leaseFetch | apply flow_layerFlag | apply flow_bump32 | apply flow_composeStrip | apply flow_ite | apply flow_next | apply flow_out_ite | split | refine flow_mk ?_ (by rfl) (by rfl) (by rfl) (by rfl)

theorem flow_execSkim {a0 : Tick} {a1 : BitVec 3} {a2 : BitVec 3} {a3 : BitVec 10} {a4 : BitVec 10} {s5 : State} (hs5 : Flow t a s5) : OutFlow t a (execSkim a0 a1 a2 a3 a4 s5) := by
  unfold execSkim
  dsimp only
  have k : Flow t a (accrue (advance a0 s5)) := flow_accrue (flow_advance hs5)
  split
  · refine flow_out_ite ?_ (flow_next k)
    split
    · exact flow_next (flow_setCore (flow_claimCore k (by assumption)))
    · exact flow_next k
  · exact flow_next k

theorem flow_noteReady {a0 : Nat} {a1 : List Nat} {s2 : State} {a3 : Nat} (hs2 : Flow t a s2) : Flow t a (noteReady a0 a1 s2 a3) := by
  unfold noteReady
  try dsimp only
  with_reducible repeat' first | exact hs2 | apply flow_setLayer | apply flow_ite | apply flow_id | split | refine flow_mk ?_ (by rfl) (by rfl) (by rfl) (by rfl)

theorem flow_judgeReady {a0 : Nat} {s1 : State} {a2 : Nat} (hs1 : Flow t a s1) : Flow t a (judgeReady a0 s1 a2) := by
  unfold judgeReady
  try dsimp only
  with_reducible repeat' first | exact hs1 | apply flow_setLayer | apply flow_id | split | refine flow_mk ?_ (by rfl) (by rfl) (by rfl) (by rfl)

theorem flow_execStripWindowOpen {a0 : Tick} {a1 : BitVec 3} {a2 : BitVec 10} {s3 : State} (hs3 : Flow t a s3) : OutFlow t a (execStripWindowOpen a0 a1 a2 s3) := by
  unfold execStripWindowOpen
  try dsimp only
  with_reducible repeat' first | exact hs3 | assumption | intro _ | apply flow_advance | apply flow_judgeReady | apply flow_selectVin | apply flow_setOut | apply flow_planFlags | apply flow_noteReady | apply flow_composeStrip | apply flow_ite | apply flow_next | apply flow_out_ite | apply flow_foldl | apply flow_foldl_snd | apply flow_foldl_fst | refine flow_mk ?_ (by rfl) (by rfl) (by rfl) (by rfl)

end Sys2Proof.Laws
end

