-- ==== Sys2Proof/Laws/FlowC.lean ====
section
/-!
SUPPORT. Laws/FlowC.lean: every operation of Scan.lean, PowerCore.lean, Traversal.lean, Cream.lean, LinkCore.lean, Commit.lean, Links.lean flows.
-/

set_option linter.all false

namespace Sys2Proof.Laws

open Sys2Proof Sys2Proof.Machine

variable {t : Bool} {a : State}

/-! ### Scan.lean -/

theorem flow_setCrl {a0 : Nat} {a1 : CrlState → CrlState} {s2 : State} (hs2 : Flow t a s2) : Flow t a (setCrl a0 a1 s2) := by
  unfold setCrl
  try dsimp only
  with_reducible repeat' first | exact hs2 | refine flow_mk ?_ (by rfl) (by rfl) (by rfl) (by rfl)

theorem flow_wrLeased {a0 : Nat} {a1 : Nat} {a2 : Nat} {a3 : List Byte} {s4 : State} (hs4 : Flow t a s4) : Flow t a (wrLeased a0 a1 a2 a3 s4) := by
  induction a1 generalizing a2 a3 s4 with
  | zero => exact hs4
  | succ n ih =>
    rw [wrLeased]
    refine flow_ite hs4 (ih ?_)
    split
    · exact flow_wrDpas hs4
    · exact flow_outTlp hs4
    · exact flow_memFault hs4

theorem flow_expressOne {a0 : Nat} {a1 : Holder} {a2 : Nat} {a3 : Nat} {s4 : State} {a5 : Nat} (hs4 : Flow t a s4) : Flow t a (expressOne a0 a1 a2 a3 s4 a5) := by
  unfold expressOne
  try dsimp only
  with_reducible repeat' first | exact hs4 | apply flow_wr | apply flow_setOut | apply flow_ite | split | refine flow_mk ?_ (by rfl) (by rfl) (by rfl) (by rfl)

theorem flow_execCursorExpressPath {a0 : Tick} {s1 : State} (hs1 : Flow t a s1) : OutFlow t a (execCursorExpressPath a0 s1) := by
  unfold execCursorExpressPath
  try dsimp only
  with_reducible repeat' first | exact hs1 | assumption | intro _ | apply flow_advance | apply flow_expressOne | apply flow_next | apply flow_foldl | apply flow_foldl_snd | apply flow_foldl_fst | split | refine flow_mk ?_ (by rfl) (by rfl) (by rfl) (by rfl)

theorem flow_execLineRequest {a0 : Tick} {a1 : BitVec 3} {a2 : BitVec 13} {a3 : Bool} {s4 : State} (hs4 : Flow t a s4) : OutFlow t a (execLineRequest a0 a1 a2 a3 s4) := by
  unfold execLineRequest
  try dsimp only
  with_reducible repeat' first | exact hs4 | apply flow_advance | apply flow_setOut | apply flow_layerFlag | apply flow_ite | apply flow_next | apply flow_out_ite | split | refine flow_mk ?_ (by rfl) (by rfl) (by rfl) (by rfl)

theorem flow_execWritebackLine {a0 : Tick} {a1 : BitVec 3} {a2 : BitVec 13} {a3 : Bool} {s4 : State} (hs4 : Flow t a s4) : OutFlow t a (execWritebackLine a0 a1 a2 a3 s4) := by
  unfold execWritebackLine
  try dsimp only
  with_reducible repeat' first | exact hs4 | assumption | intro _ | apply flow_advance | apply flow_wrB | apply flow_setOut | apply flow_wrDpas | apply flow_wrLeased | apply flow_leaseFetch | apply flow_wrF | apply flow_ite | apply flow_next | apply flow_out_ite | apply flow_foldl | apply flow_foldl_snd | apply flow_foldl_fst | split | refine flow_mk ?_ (by rfl) (by rfl) (by rfl) (by rfl)

/-! ### PowerCore.lean -/

theorem flow_queueGate {a0 : Nat} {a1 : Bool} {a2 : Tick} {a3 : List Asker} {s4 : State} (hs4 : Flow t a s4) : Flow t a (queueGate a0 a1 a2 a3 s4) := by
  unfold queueGate
  try dsimp only
  with_reducible repeat' first | exact hs4 | apply flow_setGate | refine flow_mk ?_ (by rfl) (by rfl) (by rfl) (by rfl)

theorem flow_queueAncestor {a0 : Bool} {a1 : Tick} {s2 : State} {a3 : Nat} (hs2 : Flow t a s2) : Flow t a (queueAncestor a0 a1 s2 a3) := by
  unfold queueAncestor
  try dsimp only
  with_reducible repeat' first | exact hs2 | apply flow_queueGate | apply flow_setGate | apply flow_ite | split | refine flow_mk ?_ (by rfl) (by rfl) (by rfl) (by rfl)

theorem flow_postPower {a0 : Nat} {a1 : Nat} {a2 : Nat} {a3 : Nat} {a4 : Nat} {s5 : State} (hs5 : Flow t a s5) : Flow t a (postPower a0 a1 a2 a3 a4 s5) := by
  unfold postPower
  with_reducible repeat' first | exact hs5 | apply flow_post

theorem flow_postAsker {a0 : Nat} {a1 : Nat} {s2 : State} {a3 : Asker} (hs2 : Flow t a s2) : Flow t a (postAsker a0 a1 s2 a3) := by
  unfold postAsker
  try dsimp only
  with_reducible repeat' first | exact hs2 | apply flow_post | apply flow_postPower | split | refine flow_mk ?_ (by rfl) (by rfl) (by rfl) (by rfl)

theorem flow_clockOn {a0 : Nat} {s1 : State} (hs1 : Flow t a s1) : Flow t a (clockOn a0 s1) := by
  unfold clockOn
  try dsimp only
  with_reducible repeat' first | exact hs1 | assumption | intro _ | apply flow_setGate | apply flow_postAsker | apply flow_foldl | apply flow_foldl_snd | apply flow_foldl_fst | refine flow_mk ?_ (by rfl) (by rfl) (by rfl) (by rfl)

theorem flow_wakeOff {a0 : Nat} {a1 : Bool} {a2 : Tick} {a3 : List Asker} {s4 : State} (hs4 : Flow t a s4) : Flow t a (wakeOff a0 a1 a2 a3 s4) := by
  unfold wakeOff
  try dsimp only
  with_reducible repeat' first | exact hs4 | assumption | intro _ | apply flow_clockOn | apply flow_setGate | apply flow_queueAncestor | apply flow_queueGate | apply flow_ite | apply flow_foldl | apply flow_foldl_snd | apply flow_foldl_fst | split | refine flow_mk ?_ (by rfl) (by rfl) (by rfl) (by rfl)

theorem flow_upgradeWake {a0 : Nat} {s1 : State} (hs1 : Flow t a s1) : Flow t a (upgradeWake a0 s1) := by
  unfold upgradeWake
  try dsimp only
  with_reducible repeat' first | exact hs1 | assumption | intro _ | apply flow_ite | apply flow_foldl | apply flow_foldl_snd | apply flow_foldl_fst | refine flow_mk ?_ (by rfl) (by rfl) (by rfl) (by rfl)

theorem flow_holmWake {a0 : Nat} {s1 : State} (hs1 : Flow t a s1) : Flow t a (holmWake a0 s1) := by
  unfold holmWake
  try dsimp only
  with_reducible repeat' first | exact hs1 | apply flow_upgradeWake | apply flow_setGate | apply flow_wakeOff | apply flow_ite | split | refine flow_mk ?_ (by rfl) (by rfl) (by rfl) (by rfl)

theorem flow_releaseReset {s0 : State} (hs0 : Flow t a s0) : Flow t a (releaseReset s0) := by
  unfold releaseReset
  try dsimp only
  with_reducible repeat' first | exact hs0 | apply flow_wrB | apply flow_wr | refine flow_mk ?_ (by rfl) (by rfl) (by rfl) (by rfl)

theorem flow_beginDrain {a0 : Nat} {a1 : List Asker} {s2 : State} (hs2 : Flow t a s2) : Flow t a (beginDrain a0 a1 s2) := by
  unfold beginDrain
  try dsimp only
  with_reducible repeat' first | exact hs2 | apply flow_setGate | refine flow_mk ?_ (by rfl) (by rfl) (by rfl) (by rfl)

theorem flow_unqueue {a0 : Nat} {s1 : State} (hs1 : Flow t a s1) : Flow t a (unqueue a0 s1) := by
  unfold unqueue
  try dsimp only
  with_reducible repeat' first | exact hs1 | assumption | intro _ | apply flow_setGate | apply flow_ite | apply flow_foldl | apply flow_foldl_snd | apply flow_foldl_fst | refine flow_mk ?_ (by rfl) (by rfl) (by rfl) (by rfl)

theorem flow_setPwrMode {a0 : Nat} {s1 : State} (hs1 : Flow t a s1) : Flow t a (setPwrMode a0 s1) := by
  unfold setPwrMode
  with_reducible repeat' first | exact hs1 | apply flow_wrF

theorem flow_islandStart {a0 : Nat} {s1 : State} (hs1 : Flow t a s1) : Flow t a (islandStart a0 s1) := by
  unfold islandStart
  with_reducible repeat' first | exact hs1 | apply flow_wr

theorem flow_islandGood {a0 : Nat} {s1 : State} (hs1 : Flow t a s1) : Flow t a (islandGood a0 s1) := by
  unfold islandGood
  try dsimp only
  with_reducible repeat' first | exact hs1 | apply flow_wr

theorem flow_islandStop {a0 : Nat} {s1 : State} (hs1 : Flow t a s1) : Flow t a (islandStop a0 s1) := by
  unfold islandStop
  with_reducible repeat' first | exact hs1 | apply flow_wr

theorem flow_admitWakes {a0 : Nat} {s1 : State} (hs1 : Flow t a s1) : Flow t a (admitWakes a0 s1) := by
  revert hs1
  fun_induction admitWakes a0 s1 <;> intro hs1 <;> (try dsimp only) <;> with_reducible repeat' first | exact hs1 | assumption | intro _ | apply_assumption | apply flow_setGate | apply flow_islandStart | apply flow_ite | split | refine flow_mk ?_ (by rfl) (by rfl) (by rfl) (by rfl)

/-! ### Traversal.lean -/

theorem flow_armBegin {a0 : Nat} {a1 : Bool} {s2 : State} (hs2 : Flow t a s2) : Flow t a (armBegin a0 a1 s2) := by
  unfold armBegin
  try dsimp only
  with_reducible repeat' first | exact hs2 | apply flow_setArm | apply flow_ite | refine flow_mk ?_ (by rfl) (by rfl) (by rfl) (by rfl)

theorem flow_faultSet {a0 : Bits} {s1 : State} (hs1 : Flow t a s1) : Flow t a (faultSet a0 s1) := by
  unfold faultSet
  try dsimp only
  with_reducible repeat' first | exact hs1 | apply flow_holmWake | apply flow_wrB | apply flow_ite | refine flow_mk ?_ (by rfl) (by rfl) (by rfl) (by rfl)

theorem flow_faultClear {a0 : Bits} {s1 : State} (hs1 : Flow t a s1) : Flow t a (faultClear a0 s1) := by
  unfold faultClear
  try dsimp only
  with_reducible repeat' first | exact hs1 | apply flow_wrB | apply flow_ite

theorem flow_queueRender {a0 : TrvRender} {s1 : State} (hs1 : Flow t a s1) : Flow t a (queueRender a0 s1) := by
  unfold queueRender
  try dsimp only
  with_reducible repeat' first | exact hs1 | apply flow_holmWake | refine flow_mk ?_ (by rfl) (by rfl) (by rfl) (by rfl)

theorem flow_holdRequest {a0 : Nat} {s1 : State} (hs1 : Flow t a s1) : Flow t a (holdRequest a0 s1) := by
  unfold holdRequest
  try dsimp only
  with_reducible repeat' first | exact hs1 | apply flow_setCrl | apply flow_queueRender | apply flow_ite | split | refine flow_mk ?_ (by rfl) (by rfl) (by rfl) (by rfl)

theorem flow_testAnswer {s0 : State} {a1 : Except Status State} (hs0 : Flow t a s0) (hx : ExFlow t a a1) : AnsFlow t a (testAnswer s0 a1) := by
  unfold testAnswer
  split
  · exact ans_reply hs0
  · exact ans_later hx.flows

theorem flow_testAfter {a0 : Option Port} {a1 : Nat} {s2 : State} {a3 : Admit} (hs2 : Flow t a s2) : ExFlow t a (testAfter a0 a1 s2 a3) := by
  unfold testAfter
  split
  · exact ex_error
  · exact ex_ok (flow_queueRender (flow_mk (flow_sign hs2) rfl rfl rfl rfl))

theorem flow_recordClass {a0 : Nat} {a1 : Word} {a2 : Word} {a3 : Tick} {s4 : State} (hs4 : Flow t a s4) : Flow t a (recordClass a0 a1 a2 a3 s4) := by
  unfold recordClass
  try dsimp only
  with_reducible repeat' first | exact hs4 | apply flow_wr | apply flow_wrF | apply flow_faultSet | apply flow_ite | refine flow_mk ?_ (by rfl) (by rfl) (by rfl) (by rfl)

theorem flow_flipPending {a0 : Nat} {a1 : Flip} {s2 : State} (hs2 : Flow t a s2) : Flow t a (flipPending a0 a1 s2) := by
  unfold flipPending
  try dsimp only
  with_reducible repeat' first | exact hs2 | apply flow_setCrl | refine flow_mk ?_ (by rfl) (by rfl) (by rfl) (by rfl)

theorem flow_releaseHeld {a0 : Nat} {s1 : State} (hs1 : Flow t a s1) : Flow t a (releaseHeld a0 s1) := by
  unfold releaseHeld
  try dsimp only
  with_reducible repeat' first | exact hs1 | assumption | intro _ | apply flow_wrDpas | apply flow_setArm | apply flow_foldl | apply flow_foldl_snd | apply flow_foldl_fst | refine flow_mk ?_ (by rfl) (by rfl) (by rfl) (by rfl)

theorem flow_drawRegion {n b r : Nat} {p : State × Nat} (h : Flow t a p.1) : Flow t a (drawRegion n b p r).1 := by
  unfold drawRegion
  exact flow_foldl_fst h (fun _ _ k => flow_wrVat k)

theorem flow_execTraversalRenderDone {a0 : Tick} {s1 : State} (hs1 : Flow t a s1) : OutFlow t a (execTraversalRenderDone a0 s1) := by
  unfold execTraversalRenderDone
  dsimp only
  split
  · exact flow_next (flow_advance hs1)
  · refine flow_out_ite (flow_next (flow_mk (flow_advance hs1) rfl rfl rfl rfl)) ?_
    rename_i r _
    have k : ∀ l : List Nat, Flow t a (l.foldl (drawRegion r.output (slotBase r.output r.slotB)) (advance a0 s1, 0)).1 := fun l =>
      flow_foldl_fst (p := (advance a0 s1, 0)) (flow_advance hs1) (fun p i h => flow_drawRegion h)
    split
    · exact flow_next (flow_flipPending (flow_releaseHeld (flow_wr (flow_mk (k _) rfl rfl rfl rfl))))
    · exact flow_next (flow_mk (flow_releaseHeld (flow_wr (flow_mk (k _) rfl rfl rfl rfl))) rfl rfl rfl rfl)

theorem flow_execTraversalRenderStart {a0 : Tick} {s1 : State} (hs1 : Flow t a s1) : OutFlow t a (execTraversalRenderStart a0 s1) := by
  unfold execTraversalRenderStart
  try dsimp only
  with_reducible repeat' first | exact hs1 | apply flow_advance | apply flow_ite | apply flow_next | apply flow_out_ite | split | refine flow_mk ?_ (by rfl) (by rfl) (by rfl) (by rfl)

theorem flow_execSlotWriteDisarm {a0 : Tick} {a1 : BitVec 3} {a2 : Bool} {a3 : BitVec 18} {a4 : List Byte} {s5 : State} (hs5 : Flow t a s5) : OutFlow t a (execSlotWriteDisarm a0 a1 a2 a3 a4 s5) := by
  unfold execSlotWriteDisarm
  try dsimp only
  with_reducible repeat' first | exact hs5 | apply flow_advance | apply flow_wrDpas | apply flow_ite | apply flow_next | apply flow_out_ite

theorem flow_execTrvArmComplete {a0 : Tick} {a1 : BitVec 3} {s2 : State} (hs2 : Flow t a s2) : OutFlow t a (execTrvArmComplete a0 a1 s2) := by
  unfold execTrvArmComplete
  try dsimp only
  with_reducible repeat' first | exact hs2 | apply flow_advance | apply flow_holmWake | apply flow_setArm | apply flow_wrB | apply flow_ite | apply flow_next | apply flow_out_ite | split | refine flow_mk ?_ (by rfl) (by rfl) (by rfl) (by rfl)

theorem flow_execSelftestComplete {a0 : Tick} {a1 : List Byte} {a2 : List Byte} {s3 : State} (hs3 : Flow t a s3) : OutFlow t a (execSelftestComplete a0 a1 a2 s3) := by
  unfold execSelftestComplete
  try dsimp only
  with_reducible repeat' first | exact hs3 | apply flow_advance | apply flow_wrVat | apply flow_recordClass | apply flow_finish | apply flow_finishLong | apply flow_ite | apply flow_next | apply flow_out_ite | apply flow_id | split | refine flow_mk ?_ (by rfl) (by rfl) (by rfl) (by rfl)

theorem flow_beginTest {a0 : Option Port} {a1 : Nat} {s2 : State} (hs2 : Flow t a s2) : ExFlow t a (beginTest a0 a1 s2) := by
  unfold beginTest
  with_reducible repeat' first | exact hs2 | apply flow_testAfter | refine flow_of_ok (by assumption) (flow_testAfter ?_) | apply ex_ok | exact ex_error

theorem flow_doSelftest {a0 : Ctx} {s1 : State} (hs1 : Flow t a s1) : AnsFlow t a (doSelftest a0 s1) := by
  unfold doSelftest
  refine ans_ite (ans_reply hs1) (ans_ite (ans_reply hs1) ?_)
  split
  · exact ans_reply hs1
  · exact flow_testAnswer hs1 (flow_beginTest hs1)

theorem flow_execSelftest {a0 : Tick} {a1 : Request} {s2 : State} (hs2 : Flow t a s2) : OutFlow t a (execSelftest a0 a1 s2) := by
  unfold execSelftest
  with_reducible repeat' first | exact hs2 | assumption | intro _ | apply flow_gcp | apply flow_doSelftest | apply flow_next

/-! ### Cream.lean -/

theorem flow_withdrawCream {a0 : Nat} {a1 : Nat} {s2 : State} (hs2 : Flow t a s2) : Flow t a (withdrawCream a0 a1 s2) := by
  unfold withdrawCream
  try dsimp only
  with_reducible repeat' first | exact hs2 | assumption | intro _ | apply flow_setCrl | apply flow_ite | apply flow_id | apply flow_foldl | apply flow_foldl_snd | apply flow_foldl_fst | split | refine flow_mk ?_ (by rfl) (by rfl) (by rfl) (by rfl)

theorem flow_tileMismatch {a0 : Nat} {a1 : Nat} {a2 : Word} {a3 : Word} {a4 : Bool} {s5 : State} (hs5 : Flow t a s5) : Flow t a (tileMismatch a0 a1 a2 a3 a4 s5) := by
  unfold tileMismatch
  try dsimp only
  with_reducible repeat' first | exact hs5 | apply flow_wr | apply flow_setCrl | apply flow_raiseHolm | apply flow_holdRequest | apply flow_ite | refine flow_mk ?_ (by rfl) (by rfl) (by rfl) (by rfl)

theorem flow_evidencePut {a0 : Nat} {a1 : List Byte} {s2 : State} (hs2 : Flow t a s2) : Flow t a (evidencePut a0 a1 s2) := by
  unfold evidencePut
  try dsimp only
  with_reducible repeat' first | exact hs2 | apply flow_wrF | apply flow_setCrl | apply flow_wrVat | apply flow_ite | refine flow_mk ?_ (by rfl) (by rfl) (by rfl) (by rfl)

theorem flow_execEvidenceRecord {a0 : Tick} {a1 : BitVec 3} {s2 : State} (hs2 : Flow t a s2) : OutFlow t a (execEvidenceRecord a0 a1 s2) := by
  unfold execEvidenceRecord
  try dsimp only
  with_reducible repeat' first | exact hs2 | apply flow_advance | apply flow_setCrl | apply flow_evidencePut | apply flow_ite | apply flow_next | apply flow_out_ite | split | refine flow_mk ?_ (by rfl) (by rfl) (by rfl) (by rfl)

theorem flow_execTileSignatureDone {a0 : Tick} {a1 : BitVec 3} {a2 : BitVec 17} {a3 : Word} {a4 : Bool} {s5 : State} (hs5 : Flow t a s5) : OutFlow t a (execTileSignatureDone a0 a1 a2 a3 a4 s5) := by
  unfold execTileSignatureDone
  try dsimp only
  with_reducible repeat' first | exact hs5 | apply flow_advance | apply flow_meetFaults | apply flow_setCrl | apply flow_wrVat | apply flow_tileMismatch | apply flow_ite | apply flow_next | apply flow_out_ite | split | refine flow_mk ?_ (by rfl) (by rfl) (by rfl) (by rfl)

theorem flow_execCreamWorkDone {a0 : Tick} {a1 : BitVec 3} {s2 : State} (hs2 : Flow t a s2) : OutFlow t a (execCreamWorkDone a0 a1 s2) := by
  unfold execCreamWorkDone
  try dsimp only
  with_reducible repeat' first | exact hs2 | apply flow_advance | apply flow_setContract | apply flow_meter | apply flow_wrVat | apply flow_flipPending | apply flow_breach | apply flow_ite | apply flow_next | apply flow_out_ite | split | refine flow_mk ?_ (by rfl) (by rfl) (by rfl) (by rfl)

theorem flow_copyRegions {a0 : Nat} {s1 : State} (hs1 : Flow t a s1) : Flow t a (copyRegions a0 s1) := by
  unfold copyRegions
  try dsimp only
  with_reducible repeat' first | exact hs1 | assumption | intro _ | apply flow_wrVat | apply flow_foldl | apply flow_foldl_snd | apply flow_foldl_fst

theorem flow_creamBegin {a0 : Contract} {s1 : State} (hs1 : Flow t a s1) : Flow t a (creamBegin a0 s1) := by
  unfold creamBegin
  try dsimp only
  with_reducible repeat' first | exact hs1 | apply flow_copyRegions | apply flow_setContract | apply flow_queueRender | apply flow_setJob | apply flow_startJobAt | apply flow_ite | apply flow_id | split | refine flow_mk ?_ (by rfl) (by rfl) (by rfl) (by rfl)

theorem flow_execCreamWorkStart {a0 : Tick} {a1 : BitVec 3} {s2 : State} (hs2 : Flow t a s2) : OutFlow t a (execCreamWorkStart a0 a1 s2) := by
  unfold execCreamWorkStart
  try dsimp only
  with_reducible repeat' first | exact hs2 | apply flow_advance | apply flow_creamBegin | apply flow_ite | apply flow_next | apply flow_out_ite | split | refine flow_mk ?_ (by rfl) (by rfl) (by rfl) (by rfl)

theorem flow_judgeFrame {a0 : Nat} {s1 : State} (hs1 : Flow t a s1) : Flow t a (judgeFrame a0 s1) := by
  unfold judgeFrame
  try dsimp only
  with_reducible repeat' first | exact hs1 | apply flow_wr | apply flow_post | apply flow_setCrl | apply flow_setOut | apply flow_finish | apply flow_ite | apply flow_id | split | refine flow_mk ?_ (by rfl) (by rfl) (by rfl) (by rfl)

theorem flow_doEvidenceRead {a0 : Ctx} {s1 : State} (hs1 : Flow t a s1) : AnsFlow t a (doEvidenceRead a0 s1) := by
  unfold doEvidenceRead
  try dsimp only
  with_reducible repeat' first | exact hs1 | apply flow_wrIovas | apply flow_ite | apply ans_reply | apply ans_later | apply ans_outside | apply ans_ite | split | refine flow_mk ?_ (by rfl) (by rfl) (by rfl) (by rfl)

theorem flow_execEvidenceRead {a0 : Tick} {a1 : Request} {s2 : State} (hs2 : Flow t a s2) : OutFlow t a (execEvidenceRead a0 a1 s2) := by
  unfold execEvidenceRead
  with_reducible repeat' first | exact hs2 | assumption | intro _ | apply flow_gcp | apply flow_doEvidenceRead | apply flow_next

theorem flow_doCreamUpdate {a0 : Ctx} {s1 : State} (hs1 : Flow t a s1) : AnsFlow t a (doCreamUpdate a0 s1) := by
  unfold doCreamUpdate
  try dsimp only
  with_reducible repeat' first | exact hs1 | apply flow_admitReply | apply ans_reply | apply ans_later | apply ans_outside | apply ans_ite | split | refine flow_mk ?_ (by rfl) (by rfl) (by rfl) (by rfl)

theorem flow_execCreamUpdate {a0 : Tick} {a1 : Request} {s2 : State} (hs2 : Flow t a s2) : OutFlow t a (execCreamUpdate a0 a1 s2) := by
  unfold execCreamUpdate
  with_reducible repeat' first | exact hs2 | assumption | intro _ | apply flow_gcp | apply flow_doCreamUpdate | apply flow_next

/-! ### LinkCore.lean -/

theorem flow_setTx {a0 : Nat} {a1 : TxState → TxState} {s2 : State} (hs2 : Flow t a s2) : Flow t a (setTx a0 a1 s2) := by
  unfold setTx
  try dsimp only
  with_reducible repeat' first | exact hs2 | refine flow_mk ?_ (by rfl) (by rfl) (by rfl) (by rfl)

theorem flow_noteReadyAt {a0 : Nat} {s1 : State} (hs1 : Flow t a s1) : Flow t a (noteReadyAt a0 s1) := by
  unfold noteReadyAt
  try dsimp only
  with_reducible repeat' first | exact hs1 | apply flow_setOut | apply flow_ite | refine flow_mk ?_ (by rfl) (by rfl) (by rfl) (by rfl)

theorem flow_linkState {a0 : Nat} {a1 : Nat} {a2 : Nat} {s3 : State} (hs3 : Flow t a s3) : Flow t a (linkState a0 a1 a2 s3) := by
  unfold linkState
  try dsimp only
  with_reducible repeat' first | exact hs3 | apply flow_setTx | apply flow_post | apply flow_ite | split | refine flow_mk ?_ (by rfl) (by rfl) (by rfl) (by rfl)

theorem flow_linkBring {a0 : Nat} {a1 : Nat} {s2 : State} (hs2 : Flow t a s2) : Flow t a (linkBring a0 a1 s2) := by
  unfold linkBring
  try dsimp only
  with_reducible repeat' first | exact hs2 | apply flow_linkState | apply flow_setTx | apply flow_ite | refine flow_mk ?_ (by rfl) (by rfl) (by rfl) (by rfl)

theorem flow_linkDown {a0 : Nat} {s1 : State} (hs1 : Flow t a s1) : Flow t a (linkDown a0 s1) := by
  unfold linkDown
  try dsimp only
  with_reducible repeat' first | exact hs1 | apply flow_linkState | apply flow_setTx | refine flow_mk ?_ (by rfl) (by rfl) (by rfl) (by rfl)

/-! ### Commit.lean -/

theorem flow_trimQueue {a0 : Nat} {s1 : State} (hs1 : Flow t a s1) : Flow t a (trimQueue a0 s1) := by
  unfold trimQueue
  try dsimp only
  with_reducible repeat' first | exact hs1 | apply flow_pendApplied | apply flow_toClear | apply flow_setOut | apply flow_ite | refine flow_mk ?_ (by rfl) (by rfl) (by rfl) (by rfl)

theorem flow_withdrawCommit {a0 : Nat} {a1 : Holder} {s2 : State} (hs2 : Flow t a s2) : Flow t a (withdrawCommit a0 a1 s2) := by
  unfold withdrawCommit
  try dsimp only
  with_reducible repeat' first | exact hs2 | apply flow_trimQueue | apply flow_setOut | refine flow_mk ?_ (by rfl) (by rfl) (by rfl) (by rfl)

theorem flow_crlRecover {a0 : Nat} {s1 : State} (hs1 : Flow t a s1) : Flow t a (crlRecover a0 s1) := by
  unfold crlRecover
  try dsimp only
  with_reducible repeat' first | exact hs1 | apply flow_setCrl | refine flow_mk ?_ (by rfl) (by rfl) (by rfl) (by rfl)

theorem flow_wbLatch {a0 : Nat} {a1 : Tick} {s2 : State} (hs2 : Flow t a s2) : Flow t a (wbLatch a0 a1 s2) := by
  unfold wbLatch
  try dsimp only
  with_reducible repeat' first | exact hs2 | apply flow_takeLease | apply flow_ite | split | refine flow_mk ?_ (by rfl) (by rfl) (by rfl) (by rfl)

theorem flow_disableOutput {a0 : Nat} {s1 : State} (hs1 : Flow t a s1) : Flow t a (disableOutput a0 s1) := by
  unfold disableOutput
  try dsimp only
  with_reducible repeat' first | exact hs1 | assumption | intro _ | apply flow_setOut | apply flow_cancelContract | apply flow_linkDown | apply flow_trimQueue | apply flow_ite | apply flow_foldl | apply flow_foldl_snd | apply flow_foldl_fst | split | refine flow_mk ?_ (by rfl) (by rfl) (by rfl) (by rfl)

theorem flow_countLatch {a0 : Nat} {a1 : Tick} {s2 : State} (hs2 : Flow t a s2) : Flow t a (countLatch a0 a1 s2) := by
  unfold countLatch
  try dsimp only
  with_reducible repeat' first | exact hs2 | apply flow_ite | refine flow_mk ?_ (by rfl) (by rfl) (by rfl) (by rfl)

theorem flow_modeSwitch {a0 : Nat} {a1 : Bool} {s2 : State} (hs2 : Flow t a s2) : Flow t a (modeSwitch a0 a1 s2) := by
  unfold modeSwitch
  try dsimp only
  with_reducible repeat' first | exact hs2 | apply flow_setOut | apply flow_trimQueue | apply flow_ite | refine flow_mk ?_ (by rfl) (by rfl) (by rfl) (by rfl)

theorem flow_refitAll {a0 : Nat} {a1 : Nat} {s2 : State} (hs2 : Flow t a s2) : Flow t a (refitAll a0 a1 s2) := by
  unfold refitAll
  try dsimp only
  with_reducible repeat' first | exact hs2 | apply flow_ite | refine flow_mk ?_ (by rfl) (by rfl) (by rfl) (by rfl)

theorem flow_latchEvent {a0 : LatchKind} {a1 : Nat} {s2 : State} (hs2 : Flow t a s2) : Flow t a (latchEvent a0 a1 s2) := by
  unfold latchEvent
  try dsimp only
  with_reducible repeat' first | exact hs2 | assumption | intro _ | apply flow_judgeFrame | apply flow_setOut | apply flow_applyTiming | apply flow_refitAll | apply flow_wr | apply flow_finish | apply flow_modeSwitch | apply flow_queueLatch | apply flow_setCrl | apply flow_countLatch | apply flow_leaseLatch | apply flow_linkBring | apply flow_disableOutput | apply flow_ite | apply flow_foldl | apply flow_foldl_snd | apply flow_foldl_fst | split | refine flow_mk ?_ (by rfl) (by rfl) (by rfl) (by rfl)

theorem flow_execFirstLatchNewTiming {a0 : Tick} {a1 : BitVec 3} {s2 : State} (hs2 : Flow t a s2) : OutFlow t a (execFirstLatchNewTiming a0 a1 s2) := by
  unfold execFirstLatchNewTiming
  try dsimp only
  with_reducible repeat' first | exact hs2 | apply flow_advance | apply flow_latchEvent | apply flow_wrB | apply flow_linkState | apply flow_ite | apply flow_next | apply flow_out_ite | split | refine flow_mk ?_ (by rfl) (by rfl) (by rfl) (by rfl)

theorem flow_startRaster {a0 : Nat} {s1 : State} (hs1 : Flow t a s1) : Flow t a (startRaster a0 s1) := by
  unfold startRaster
  try dsimp only
  with_reducible repeat' first | exact hs1 | apply flow_wrB | apply flow_latchEvent | apply flow_ite | split | refine flow_mk ?_ (by rfl) (by rfl) (by rfl) (by rfl)

theorem flow_execRawRasterStart {a0 : Tick} {a1 : BitVec 3} {s2 : State} (hs2 : Flow t a s2) : OutFlow t a (execRawRasterStart a0 a1 s2) := by
  unfold execRawRasterStart
  try dsimp only
  with_reducible repeat' first | exact hs2 | apply flow_advance | apply flow_noteReadyAt | apply flow_startRaster | apply flow_wrB | apply flow_latchEvent | apply flow_ite | apply flow_next | apply flow_out_ite

theorem flow_crlHandover {a0 : Nat} {a1 : Bool} {s2 : State} (hs2 : Flow t a s2) : Flow t a (crlHandover a0 a1 s2) := by
  unfold crlHandover
  try dsimp only
  with_reducible repeat' first | exact hs2 | apply flow_setCrl | apply flow_setOut | apply flow_ite | apply flow_id | split | refine flow_mk ?_ (by rfl) (by rfl) (by rfl) (by rfl)

theorem flow_layersOff {a0 : Nat} {s1 : State} (hs1 : Flow t a s1) : Flow t a (layersOff a0 s1) := by
  unfold layersOff
  try dsimp only
  with_reducible repeat' first | exact hs1 | assumption | intro _ | apply flow_setLayer | apply flow_wrB | apply flow_ite | apply flow_foldl | apply flow_foldl_snd | apply flow_foldl_fst | refine flow_mk ?_ (by rfl) (by rfl) (by rfl) (by rfl)

theorem flow_execShadowApply {a0 : Tick} {a1 : BitVec 3} {s2 : State} (hs2 : Flow t a s2) : OutFlow t a (execShadowApply a0 a1 s2) := by
  unfold execShadowApply
  try dsimp only
  with_reducible repeat' first | exact hs2 | assumption | intro _ | apply flow_advance | apply flow_applyDisplay | apply flow_layersOff | apply flow_setOut | apply flow_crlHandover | apply flow_markLeases | apply flow_wbLatch | apply flow_layerLatch | apply flow_trimQueue | apply flow_ite | apply flow_next | apply flow_out_ite | apply flow_foldl | apply flow_foldl_snd | apply flow_foldl_fst | split | refine flow_mk ?_ (by rfl) (by rfl) (by rfl) (by rfl)

theorem flow_execLatchPoint {a0 : Tick} {a1 : BitVec 3} {s2 : State} (hs2 : Flow t a s2) : OutFlow t a (execLatchPoint a0 a1 s2) := by
  unfold execLatchPoint
  try dsimp only
  with_reducible repeat' first | exact hs2 | apply flow_advance | apply flow_latchEvent | apply flow_ite | apply flow_next | apply flow_out_ite

theorem flow_execCommitVisible {a0 : Tick} {a1 : BitVec 3} {a2 : Bool} {a3 : Fn} {s4 : State} (hs4 : Flow t a s4) : OutFlow t a (execCommitVisible a0 a1 a2 a3 s4) := by
  unfold execCommitVisible
  try dsimp only
  with_reducible repeat' first | exact hs4 | apply flow_setOut | apply flow_advance | apply flow_ite | apply flow_next | apply flow_out_ite | refine flow_mk ?_ (by rfl) (by rfl) (by rfl) (by rfl)

theorem flow_doOutputStatus {a0 : Ctx} {s1 : State} (hs1 : Flow t a s1) : AnsFlow t a (doOutputStatus a0 s1) := by
  unfold doOutputStatus
  try dsimp only
  with_reducible repeat' first | exact hs1 | apply flow_ite | apply ans_reply | apply ans_later | apply ans_outside | apply ans_ite

theorem flow_execOutputStatus {a0 : Tick} {a1 : Request} {s2 : State} (hs2 : Flow t a s2) : OutFlow t a (execOutputStatus a0 a1 s2) := by
  unfold execOutputStatus
  with_reducible repeat' first | exact hs2 | assumption | intro _ | apply flow_gcp | apply flow_doOutputStatus | apply flow_next

theorem flow_growQueue {a0 : Nat} {a1 : Nat} {s2 : State} (hs2 : Flow t a s2) : OptFlow t a (growQueue a0 a1 s2) := by
  unfold growQueue
  try dsimp only
  with_reducible repeat' first | exact hs2 | apply flow_setOut | apply flow_ite | apply opt_some | exact opt_none | apply opt_ite | split | refine flow_mk ?_ (by rfl) (by rfl) (by rfl) (by rfl)

theorem flow_doCommit {a0 : Ctx} {s1 : State} (hs1 : Flow t a s1) : AnsFlow t a (doCommit a0 s1) := by
  unfold doCommit
  try dsimp only
  with_reducible repeat' first | exact hs1 | apply flow_setOut | apply flow_pendApplied | apply flow_growQueue | refine flow_of_some (by assumption) (flow_growQueue ?_) | apply flow_sign | apply flow_ite | apply ans_reply | apply ans_later | apply ans_outside | apply ans_ite | apply flow_id | split | refine flow_mk ?_ (by rfl) (by rfl) (by rfl) (by rfl)

theorem flow_execCommit {a0 : Tick} {a1 : Request} {s2 : State} (hs2 : Flow t a s2) : OutFlow t a (execCommit a0 a1 s2) := by
  unfold execCommit
  with_reducible repeat' first | exact hs2 | assumption | intro _ | apply flow_gcp | apply flow_doCommit | apply flow_next

theorem flow_enableOutput {a0 : Nat} {s1 : State} (hs1 : Flow t a s1) : Flow t a (enableOutput a0 s1) := by
  unfold enableOutput
  try dsimp only
  with_reducible repeat' first | exact hs1 | apply flow_holmWake | apply flow_setOut | apply flow_setCrl | apply flow_noteReadyAt | apply flow_linkBring | apply flow_wr | refine flow_mk ?_ (by rfl) (by rfl) (by rfl) (by rfl)

theorem flow_commitNow {a0 : Nat} {a1 : PendCommit} {s2 : State} (hs2 : Flow t a s2) : Flow t a (commitNow a0 a1 s2) := by
  unfold commitNow
  try dsimp only
  with_reducible repeat' first | exact hs2 | apply flow_setOut | apply flow_applyHolder | apply flow_trimQueue | apply flow_enableOutput | apply flow_finish | apply flow_ite | refine flow_mk ?_ (by rfl) (by rfl) (by rfl) (by rfl)

/-! ### Links.lean -/

theorem flow_vinStop {a0 : Nat} {s1 : State} (hs1 : Flow t a s1) : Flow t a (vinStop a0 s1) := by
  unfold vinStop
  try dsimp only
  with_reducible repeat' first | exact hs1 | apply flow_setVin | refine flow_mk ?_ (by rfl) (by rfl) (by rfl) (by rfl)

theorem flow_vinStart {a0 : Nat} {s1 : State} (hs1 : Flow t a s1) : Flow t a (vinStart a0 s1) := by
  unfold vinStart
  try dsimp only
  with_reducible repeat' first | exact hs1 | apply flow_wrF | apply flow_setVin | refine flow_mk ?_ (by rfl) (by rfl) (by rfl) (by rfl)

theorem flow_sbEnd {a0 : Nat} {a1 : Nat} {a2 : Nat} {s3 : State} (hs3 : Flow t a s3) : Flow t a (sbEnd a0 a1 a2 s3) := by
  unfold sbEnd
  try dsimp only
  with_reducible repeat' first | exact hs3 | apply flow_wr | apply flow_setTx | refine flow_mk ?_ (by rfl) (by rfl) (by rfl) (by rfl)

theorem flow_sbStart {a0 : Nat} {s1 : State} (hs1 : Flow t a s1) : Flow t a (sbStart a0 s1) := by
  unfold sbStart
  try dsimp only
  with_reducible repeat' first | exact hs1 | apply flow_sbEnd | apply flow_wr | apply flow_setTx | apply flow_ite | refine flow_mk ?_ (by rfl) (by rfl) (by rfl) (by rfl)

theorem flow_vinStore {a0 : Bool × Nat} {a1 : Nat} {a2 : List Byte} {s3 : State} (hs3 : Flow t a s3) : Flow t a (vinStore a0 a1 a2 s3) := by
  unfold vinStore
  with_reducible repeat' first | exact hs3 | apply flow_wrDpas | apply flow_wrIovas | apply flow_ite

theorem flow_vinWrite {a0 : Nat} {a1 : Nat} {a2 : Nat} {a3 : Nat} {a4 : Bool} {a5 : List (List (List Nat))} {s6 : State} (hs6 : Flow t a s6) : Flow t a (vinWrite a0 a1 a2 a3 a4 a5 s6) := by
  unfold vinWrite
  try dsimp only
  with_reducible repeat' first | exact hs6 | assumption | intro _ | apply flow_vinStore | apply flow_foldl | apply flow_foldl_snd | apply flow_foldl_fst | split | refine flow_mk ?_ (by rfl) (by rfl) (by rfl) (by rfl)

theorem flow_trainPass {a0 : Nat} {a1 : Nat × Nat} {s2 : State} (hs2 : Flow t a s2) : Flow t a (trainPass a0 a1 s2) := by
  unfold trainPass
  try dsimp only
  with_reducible repeat' first | exact hs2 | apply flow_setTx | apply flow_noteReadyAt | apply flow_linkState | apply flow_ite | refine flow_mk ?_ (by rfl) (by rfl) (by rfl) (by rfl)

theorem flow_trainFail {a0 : Nat} {a1 : Nat} {s2 : State} (hs2 : Flow t a s2) : Flow t a (trainFail a0 a1 s2) := by
  unfold trainFail
  try dsimp only
  with_reducible repeat' first | exact hs2 | apply flow_setTx | apply flow_linkState | apply flow_ite | split | refine flow_mk ?_ (by rfl) (by rfl) (by rfl) (by rfl)

theorem flow_setStrait {a0 : Nat} {a1 : StraitRec → StraitRec} {s2 : State} (hs2 : Flow t a s2) : Flow t a (setStrait a0 a1 s2) := by
  unfold setStrait
  try dsimp only
  with_reducible repeat' first | exact hs2 | apply flow_setLnk | refine flow_mk ?_ (by rfl) (by rfl) (by rfl) (by rfl)

theorem flow_straitErrors {a0 : Nat} {a1 : Nat} {s2 : State} (hs2 : Flow t a s2) : Flow t a (straitErrors a0 a1 s2) := by
  revert hs2
  fun_induction straitErrors a0 a1 s2 <;> intro hs2 <;> (try dsimp only) <;> with_reducible repeat' first | exact hs2 | assumption | intro _ | apply_assumption | apply flow_faultNote | apply flow_raiseHolm | apply flow_setStrait | refine flow_mk ?_ (by rfl) (by rfl) (by rfl) (by rfl)

theorem flow_straitArrive {a0 : Nat} {a1 : Nat} {a2 : Bool} {s3 : State} (hs3 : Flow t a s3) : Flow t a (straitArrive a0 a1 a2 s3) := by
  unfold straitArrive
  try dsimp only
  with_reducible repeat' first | exact hs3 | apply flow_straitErrors | apply flow_setStrait | apply flow_ite | refine flow_mk ?_ (by rfl) (by rfl) (by rfl) (by rfl)

theorem flow_execPcieLinkUp {a0 : Tick} {a1 : BitVec 2} {a2 : BitVec 5} {a3 : BitVec 3} {a4 : Bool} {a5 : List (BitVec 64 × BitVec 40)} {a6 : BitVec 6} {a7 : Bool} {s8 : State} (hs8 : Flow t a s8) : OutFlow t a (execPcieLinkUp a0 a1 a2 a3 a4 a5 a6 a7 s8) := by
  unfold execPcieLinkUp
  try dsimp only
  with_reducible repeat' first | exact hs8 | apply flow_advance | apply flow_wr | apply flow_ite | apply flow_next | apply flow_out_ite | refine flow_mk ?_ (by rfl) (by rfl) (by rfl) (by rfl)

theorem flow_lostItem {a0 : Option (Fn × Word)} {s1 : State} (hs1 : Flow t a s1) : Flow t a (lostItem a0 s1) := by
  unfold lostItem
  try dsimp only
  with_reducible repeat' first | exact hs1 | apply flow_breach | apply flow_id | split | refine flow_mk ?_ (by rfl) (by rfl) (by rfl) (by rfl)

theorem flow_execStraitEntryArrival {a0 : Tick} {a1 : Byte} {a2 : BitVec 4} {a3 : Bool} {a4 : Option (Fn × Word)} {s5 : State} (hs5 : Flow t a s5) : OutFlow t a (execStraitEntryArrival a0 a1 a2 a3 a4 s5) := by
  unfold execStraitEntryArrival
  try dsimp only
  with_reducible repeat' first | exact hs5 | apply flow_advance | apply flow_meetFaults | apply flow_setStrait | apply flow_straitArrive | apply flow_lostItem | apply flow_ite | apply flow_next | apply flow_out_ite | split | refine flow_mk ?_ (by rfl) (by rfl) (by rfl) (by rfl)

theorem flow_execVinLinkTraining {a0 : Tick} {a1 : BitVec 2} {a2 : BitVec 3} {a3 : BitVec 2} {a4 : Bool} {a5 : BitVec 16} {s6 : State} (hs6 : Flow t a s6) : OutFlow t a (execVinLinkTraining a0 a1 a2 a3 a4 a5 s6) := by
  unfold execVinLinkTraining
  try dsimp only
  with_reducible repeat' first | exact hs6 | apply flow_advance | apply flow_setVin | apply flow_wr | apply flow_ite | apply flow_next | apply flow_out_ite | refine flow_mk ?_ (by rfl) (by rfl) (by rfl) (by rfl)

theorem flow_execSbTransactionEnd {a0 : Tick} {a1 : BitVec 3} {a2 : BitVec 3} {a3 : List Byte} {s4 : State} (hs4 : Flow t a s4) : OutFlow t a (execSbTransactionEnd a0 a1 a2 a3 s4) := by
  unfold execSbTransactionEnd
  try dsimp only
  with_reducible repeat' first | exact hs4 | assumption | intro _ | apply flow_advance | apply flow_wrF | apply flow_sbEnd | apply flow_ite | apply flow_next | apply flow_out_ite | apply flow_foldl | apply flow_foldl_snd | apply flow_foldl_fst | split | refine flow_mk ?_ (by rfl) (by rfl) (by rfl) (by rfl)

theorem flow_execHpdReplug {a0 : Tick} {a1 : BitVec 3} {s2 : State} (hs2 : Flow t a s2) : OutFlow t a (execHpdReplug a0 a1 s2) := by
  unfold execHpdReplug
  try dsimp only
  with_reducible repeat' first | exact hs2 | apply flow_advance | apply flow_wrB | apply flow_linkBring | apply flow_ite | apply flow_next | apply flow_out_ite

theorem flow_execHpdLowPulse {a0 : Tick} {a1 : BitVec 3} {a2 : Word} {a3 : Bool} {s4 : State} (hs4 : Flow t a s4) : OutFlow t a (execHpdLowPulse a0 a1 a2 a3 s4) := by
  unfold execHpdLowPulse
  try dsimp only
  with_reducible repeat' first | exact hs4 | apply flow_advance | apply flow_linkBring | apply flow_wrB | apply flow_sbEnd | apply flow_noteReadyAt | apply flow_linkState | apply flow_setTx | apply flow_ite | apply flow_next | apply flow_out_ite | refine flow_mk ?_ (by rfl) (by rfl) (by rfl) (by rfl)

theorem flow_execLinkRetry {a0 : Tick} {a1 : BitVec 3} {s2 : State} (hs2 : Flow t a s2) : OutFlow t a (execLinkRetry a0 a1 s2) := by
  unfold execLinkRetry
  try dsimp only
  with_reducible repeat' first | exact hs2 | apply flow_advance | apply flow_setTx | apply flow_ite | apply flow_next | apply flow_out_ite | split | refine flow_mk ?_ (by rfl) (by rfl) (by rfl) (by rfl)

theorem flow_execLinkTrainingAttempt {a0 : Tick} {a1 : BitVec 3} {a2 : Bool} {a3 : BitVec 8} {s4 : State} (hs4 : Flow t a s4) : OutFlow t a (execLinkTrainingAttempt a0 a1 a2 a3 s4) := by
  unfold execLinkTrainingAttempt
  try dsimp only
  with_reducible repeat' first | exact hs4 | apply flow_advance | apply flow_trainPass | apply flow_trainFail | apply flow_ite | apply flow_next | apply flow_out_ite | split | refine flow_mk ?_ (by rfl) (by rfl) (by rfl) (by rfl)

theorem flow_execVinSignalLost {a0 : Tick} {a1 : BitVec 2} {s2 : State} (hs2 : Flow t a s2) : OutFlow t a (execVinSignalLost a0 a1 s2) := by
  unfold execVinSignalLost
  try dsimp only
  with_reducible repeat' first | exact hs2 | apply flow_advance | apply flow_vinStop | apply flow_wr | apply flow_next

theorem flow_execVinCaptureComplete {a0 : Tick} {a1 : BitVec 2} {s2 : State} (hs2 : Flow t a s2) : OutFlow t a (execVinCaptureComplete a0 a1 s2) := by
  unfold execVinCaptureComplete
  try dsimp only
  with_reducible repeat' first | exact hs2 | apply flow_advance | apply flow_wr | apply flow_wrF | apply flow_setVin | apply flow_next | split | refine flow_mk ?_ (by rfl) (by rfl) (by rfl) (by rfl)

theorem flow_execVinFrameReceived {a0 : Tick} {a1 : BitVec 2} {a2 : BitVec 16} {a3 : BitVec 16} {a4 : BitVec 2} {a5 : BitVec 4} {a6 : Bool} {a7 : Word} {a8 : List (List (List Nat))} {s9 : State} (hs9 : Flow t a s9) : OutFlow t a (execVinFrameReceived a0 a1 a2 a3 a4 a5 a6 a7 a8 s9) := by
  unfold execVinFrameReceived
  try dsimp only
  with_reducible repeat' first | exact hs9 | apply flow_advance | apply flow_wr | apply flow_setVin | apply flow_wrB | apply flow_wrF | apply flow_vinWrite | apply flow_ite | apply flow_next | apply flow_out_ite | split | refine flow_mk ?_ (by rfl) (by rfl) (by rfl) (by rfl)

theorem flow_doFaultStatus {a0 : Ctx} {s1 : State} (hs1 : Flow t a s1) : AnsFlow t a (doFaultStatus a0 s1) := by
  unfold doFaultStatus
  try dsimp only
  with_reducible repeat' first | exact hs1 | apply ans_reply | apply ans_later | apply ans_outside | apply ans_ite | split | refine flow_mk ?_ (by rfl) (by rfl) (by rfl) (by rfl)

theorem flow_execFaultStatus {a0 : Tick} {a1 : Request} {s2 : State} (hs2 : Flow t a s2) : OutFlow t a (execFaultStatus a0 a1 s2) := by
  unfold execFaultStatus
  with_reducible repeat' first | exact hs2 | assumption | intro _ | apply flow_gcp | apply flow_doFaultStatus | apply flow_next

theorem flow_doFaultDisarm {a0 : Ctx} {s1 : State} (hs1 : Flow t a s1) : AnsFlow t a (doFaultDisarm a0 s1) := by
  unfold doFaultDisarm
  try dsimp only
  with_reducible repeat' first | exact hs1 | apply flow_disarmSession | apply flow_disarm | apply flow_ite | apply ans_reply | apply ans_later | apply ans_outside | apply ans_ite | apply flow_id | split | refine flow_mk ?_ (by rfl) (by rfl) (by rfl) (by rfl)

theorem flow_execFaultDisarm {a0 : Tick} {a1 : Request} {s2 : State} (hs2 : Flow t a s2) : OutFlow t a (execFaultDisarm a0 a1 s2) := by
  unfold execFaultDisarm
  with_reducible repeat' first | exact hs2 | assumption | intro _ | apply flow_gcp | apply flow_doFaultDisarm | apply flow_next

theorem flow_doFaultArm {a0 : Ctx} {s1 : State} (hs1 : Flow t a s1) : AnsFlow t a (doFaultArm a0 s1) := by
  unfold doFaultArm
  try dsimp only
  with_reducible repeat' first | exact hs1 | apply flow_isoLog | apply flow_setLnk | apply flow_ite | apply ans_reply | apply ans_later | apply ans_outside | apply ans_ite | apply flow_id | split | refine flow_mk ?_ (by rfl) (by rfl) (by rfl) (by rfl)

theorem flow_execFaultArm {a0 : Tick} {a1 : Request} {s2 : State} (hs2 : Flow t a s2) : OutFlow t a (execFaultArm a0 a1 s2) := by
  unfold execFaultArm
  with_reducible repeat' first | exact hs2 | assumption | intro _ | apply flow_gcp | apply flow_doFaultArm | apply flow_next

end Sys2Proof.Laws
end

