-- ==== Sys2Proof/Laws/FlowD.lean ====
section
/-!
SUPPORT. Laws/FlowD.lean: every operation of Gates.lean, Touch.lean, Power.lean, Haptics.lean flows.
-/

set_option linter.all false

namespace Sys2Proof.Laws

open Sys2Proof Sys2Proof.Machine

variable {t : Bool} {a : State}

/-! ### Gates.lean -/

theorem flow_setPwr {a0 : PowerState → PowerState} {s1 : State} (hs1 : Flow t a s1) : Flow t a (setPwr a0 s1) := by
  unfold setPwr
  try dsimp only
  with_reducible repeat' first | exact hs1 | refine flow_mk ?_ (by rfl) (by rfl) (by rfl) (by rfl)

theorem flow_resetInner {a0 : Nat} {s1 : State} (hs1 : Flow t a s1) : Flow t a (resetInner a0 s1) := by
  unfold resetInner
  try dsimp only
  with_reducible repeat' first | exact hs1 | apply flow_setOut | apply flow_ite | refine flow_mk ?_ (by rfl) (by rfl) (by rfl) (by rfl)

theorem flow_resetUpset {a0 : Nat} {a1 : Nat} {s2 : State} (hs2 : Flow t a s2) : Flow t a (resetUpset a0 a1 s2) := by
  unfold resetUpset
  try dsimp only
  with_reducible repeat' first | exact hs2 | refine flow_mk ?_ (by rfl) (by rfl) (by rfl) (by rfl)

theorem flow_resetReq {a0 : Nat} {a1 : Nat} {s2 : State} (hs2 : Flow t a s2) : Flow t a (resetReq a0 a1 s2) := by
  unfold resetReq
  try dsimp only
  with_reducible repeat' first | exact hs2 | refine flow_mk ?_ (by rfl) (by rfl) (by rfl) (by rfl) | refine flow_mkw ?_ (by rfl) (fun w => by unfold memWf at w ⊢; obtain ⟨w1, w2, w3, w4, w5, w6, w7, w8⟩ := w; refine ⟨?_, ?_, ?_, ?_, ?_, ?_, ?_, ?_⟩ <;> repeat (first | assumption | apply twf_put | apply twf_mod | apply twf_clear | apply twf_filter | apply twf_puts))

theorem flow_resetBlock {a0 : Nat} {s1 : State} (hs1 : Flow t a s1) : Flow t a (resetBlock a0 s1) := by
  unfold resetBlock
  try dsimp only
  with_reducible repeat' first | exact hs1 | assumption | intro _ | apply flow_resetInner | apply flow_resetUpset | apply flow_resetReq | apply flow_resetTabs | apply flow_resetRegs | apply flow_wr | apply flow_ite | apply flow_foldl | apply flow_foldl_snd | apply flow_foldl_fst

theorem flow_joinGate {a0 : Nat} {a1 : Nat} {s2 : State} (hs2 : Flow t a s2) : Flow t a (joinGate a0 a1 s2) := by
  unfold joinGate
  try dsimp only
  with_reducible repeat' first | exact hs2 | apply flow_setPwr | apply flow_ite | refine flow_mk ?_ (by rfl) (by rfl) (by rfl) (by rfl)

theorem flow_leaveStandby {a0 : Bool} {s1 : State} (hs1 : Flow t a s1) : Flow t a (leaveStandby a0 s1) := by
  unfold leaveStandby
  try dsimp only
  with_reducible repeat' first | exact hs1 | assumption | intro _ | apply flow_setPwr | apply flow_setPwrMode | apply flow_queueGate | apply flow_ite | apply flow_foldl | apply flow_foldl_snd | apply flow_foldl_fst | refine flow_mk ?_ (by rfl) (by rfl) (by rfl) (by rfl)

theorem flow_touchWake {s0 : State} (hs0 : Flow t a s0) : Flow t a (touchWake s0) := by
  unfold touchWake
  try dsimp only
  with_reducible repeat' first | exact hs0 | apply flow_leaveStandby | apply flow_setPwr | apply flow_ite | refine flow_mk ?_ (by rfl) (by rfl) (by rfl) (by rfl)

theorem flow_leaveAllGates {a0 : Nat} {s1 : State} (hs1 : Flow t a s1) : Flow t a (leaveAllGates a0 s1) := by
  unfold leaveAllGates
  try dsimp only
  with_reducible repeat' first | exact hs1 | apply flow_setPwr | refine flow_mk ?_ (by rfl) (by rfl) (by rfl) (by rfl)

theorem flow_leaveGate {a0 : Nat} {a1 : Nat} {s2 : State} (hs2 : Flow t a s2) : Flow t a (leaveGate a0 a1 s2) := by
  unfold leaveGate
  try dsimp only
  with_reducible repeat' first | exact hs2 | apply flow_setPwr | refine flow_mk ?_ (by rfl) (by rfl) (by rfl) (by rfl)

/-! ### Touch.lean -/

theorem flow_setTs {a0 : Nat} {a1 : TouchRec → TouchRec} {s2 : State} (hs2 : Flow t a s2) : Flow t a (setTs a0 a1 s2) := by
  unfold setTs
  try dsimp only
  with_reducible repeat' first | exact hs2 | refine flow_mk ?_ (by rfl) (by rfl) (by rfl) (by rfl)

theorem flow_setContacts {a0 : Nat} {a1 : List TouchContact} {s2 : State} (hs2 : Flow t a s2) : Flow t a (setContacts a0 a1 s2) := by
  unfold setContacts
  try dsimp only
  with_reducible repeat' first | exact hs2 | apply flow_wrF | apply flow_setTs | refine flow_mk ?_ (by rfl) (by rfl) (by rfl) (by rfl)

theorem flow_setTState {a0 : Nat} {a1 : Nat} {s2 : State} (hs2 : Flow t a s2) : Flow t a (setTState a0 a1 s2) := by
  unfold setTState
  with_reducible repeat' first | exact hs2 | apply flow_wrF

theorem flow_postTouch {a0 : Nat} {a1 : TouchContact} {a2 : Nat} {a3 : Nat} {a4 : Nat} {a5 : Tick} {s6 : State} (hs6 : Flow t a s6) : Flow t a (postTouch a0 a1 a2 a3 a4 a5 s6) := by
  unfold postTouch
  try dsimp only
  with_reducible repeat' first | exact hs6 | apply flow_post | apply flow_ite | split | refine flow_mk ?_ (by rfl) (by rfl) (by rfl) (by rfl)

theorem flow_cancelContacts {a0 : Nat} {s1 : State} (hs1 : Flow t a s1) : Flow t a (cancelContacts a0 s1) := by
  unfold cancelContacts
  try dsimp only
  with_reducible repeat' first | exact hs1 | assumption | intro _ | apply flow_postTouch | apply flow_setTs | apply flow_setContacts | apply flow_ite | apply flow_foldl | apply flow_foldl_snd | apply flow_foldl_fst | split | refine flow_mk ?_ (by rfl) (by rfl) (by rfl) (by rfl)

theorem flow_writeSensorCtrl {a0 : Nat} {a1 : Word} {s2 : State} (hs2 : Flow t a s2) : Flow t a (writeSensorCtrl a0 a1 s2) := by
  unfold writeSensorCtrl
  try dsimp only
  with_reducible repeat' first | exact hs2 | assumption | intro _ | apply flow_wr | apply flow_cancelContacts | apply flow_setTState | apply flow_setTs | apply flow_wrF | apply flow_wrB | apply flow_holmWake | apply flow_setContacts | apply flow_ite | apply flow_foldl | apply flow_foldl_snd | apply flow_foldl_fst | refine flow_mk ?_ (by rfl) (by rfl) (by rfl) (by rfl)

theorem flow_flashPut {a0 : Nat} {a1 : Nat} {a2 : List Byte} {s3 : State} (hs3 : Flow t a s3) : Flow t a (flashPut a0 a1 a2 s3) := by
  unfold flashPut
  try dsimp only
  with_reducible repeat' first | exact hs3 | refine flow_mk ?_ (by rfl) (by rfl) (by rfl) (by rfl) | refine flow_mkw ?_ (by rfl) (fun w => by unfold memWf at w ⊢; obtain ⟨w1, w2, w3, w4, w5, w6, w7, w8⟩ := w; refine ⟨?_, ?_, ?_, ?_, ?_, ?_, ?_, ?_⟩ <;> repeat (first | assumption | apply twf_put | apply twf_mod | apply twf_clear | apply twf_filter | apply twf_puts))

theorem flow_touchClaim {a0 : Nat} {a1 : Nat} {s2 : State} (hs2 : Flow t a s2) : Flow t a (touchClaim a0 a1 s2) := by
  unfold touchClaim
  try dsimp only
  with_reducible repeat' first | exact hs2 | assumption | intro _ | apply flow_postTouch | apply flow_setTs | apply flow_ite | apply flow_foldl | apply flow_foldl_snd | apply flow_foldl_fst | split | refine flow_mk ?_ (by rfl) (by rfl) (by rfl) (by rfl)

theorem flow_loadProfile {a0 : Nat} {a1 : List Byte} {s2 : State} (hs2 : Flow t a s2) : Flow t a (loadProfile a0 a1 s2) := by
  unfold loadProfile
  try dsimp only
  with_reducible repeat' first | exact hs2 | apply flow_setTs | apply flow_wr | apply flow_wrB | apply flow_ite | refine flow_mk ?_ (by rfl) (by rfl) (by rfl) (by rfl)

theorem flow_loadProfiles {s0 : State} (hs0 : Flow t a s0) : Flow t a (loadProfiles s0) := by
  unfold loadProfiles
  try dsimp only
  with_reducible repeat' first | exact hs0 | assumption | intro _ | apply flow_loadProfile | apply flow_ite | apply flow_foldl | apply flow_foldl_snd | apply flow_foldl_fst

theorem flow_touchForget {a0 : Nat} {s1 : State} (hs1 : Flow t a s1) : Flow t a (touchForget a0 s1) := by
  unfold touchForget
  try dsimp only
  with_reducible repeat' first | exact hs1 | assumption | intro _ | apply flow_setTs | apply flow_ite | apply flow_foldl | apply flow_foldl_snd | apply flow_foldl_fst | refine flow_mk ?_ (by rfl) (by rfl) (by rfl) (by rfl)

theorem flow_enterSlow {a0 : Nat} {s1 : State} (hs1 : Flow t a s1) : Flow t a (enterSlow a0 s1) := by
  unfold enterSlow
  try dsimp only
  with_reducible repeat' first | exact hs1 | apply flow_setTState | apply flow_setTs | apply flow_ite | refine flow_mk ?_ (by rfl) (by rfl) (by rfl) (by rfl)

theorem flow_resumeScans {a0 : Nat} {s1 : State} (hs1 : Flow t a s1) : Flow t a (resumeScans a0 s1) := by
  unfold resumeScans
  try dsimp only
  with_reducible repeat' first | exact hs1 | apply flow_setTs | apply flow_ite | refine flow_mk ?_ (by rfl) (by rfl) (by rfl) (by rfl)

theorem flow_execTouchSlowScan {a0 : Tick} {a1 : BitVec 3} {a2 : List (List (BitVec 12))} {s3 : State} (hs3 : Flow t a s3) : OutFlow t a (execTouchSlowScan a0 a1 a2 s3) := by
  unfold execTouchSlowScan
  try dsimp only
  with_reducible repeat' first | exact hs3 | apply flow_advance | apply flow_setTs | apply flow_touchWake | apply flow_resumeScans | apply flow_setTState | apply flow_ite | apply flow_next | apply flow_out_ite | refine flow_mk ?_ (by rfl) (by rfl) (by rfl) (by rfl)

theorem flow_execTouchEnterSlow {a0 : Tick} {a1 : BitVec 3} {s2 : State} (hs2 : Flow t a s2) : OutFlow t a (execTouchEnterSlow a0 a1 s2) := by
  unfold execTouchEnterSlow
  with_reducible repeat' first | exact hs2 | apply flow_enterSlow | apply flow_advance | apply flow_next

theorem flow_setBase {a0 : Nat} {a1 : Nat} {a2 : Nat} {s3 : State} (hs3 : Flow t a s3) : Flow t a (setBase a0 a1 a2 s3) := by
  unfold setBase
  with_reducible repeat' first | exact hs3 | apply flow_wrF

theorem flow_execTouchStuckRelease {a0 : Tick} {a1 : BitVec 3} {a2 : BitVec 8} {s3 : State} (hs3 : Flow t a s3) : OutFlow t a (execTouchStuckRelease a0 a1 a2 s3) := by
  unfold execTouchStuckRelease
  try dsimp only
  with_reducible repeat' first | exact hs3 | assumption | intro _ | apply flow_advance | apply flow_postTouch | apply flow_setContacts | apply flow_setBase | apply flow_setTs | apply flow_next | apply flow_foldl | apply flow_foldl_snd | apply flow_foldl_fst | split | refine flow_mk ?_ (by rfl) (by rfl) (by rfl) (by rfl)

theorem flow_adaptChannel {a0 : Nat} {a1 : List Nat} {s2 : State} {a3 : Nat} (hs2 : Flow t a s2) : Flow t a (adaptChannel a0 a1 s2 a3) := by
  unfold adaptChannel
  try dsimp only
  with_reducible repeat' first | exact hs2 | apply flow_setTs | apply flow_wrB | apply flow_setBase | apply flow_ite | split | refine flow_mk ?_ (by rfl) (by rfl) (by rfl) (by rfl)

theorem flow_confirm {a0 : Nat} {a1 : Tick} {a2 : Bool} {a3 : TouchCand} {s4 : State} (hs4 : Flow t a s4) : Flow t a (confirm a0 a1 a2 a3 s4) := by
  unfold confirm
  try dsimp only
  with_reducible repeat' first | exact hs4 | apply flow_wrF | apply flow_setContacts | apply flow_setTs | apply flow_postTouch | apply flow_ite | split | refine flow_mk ?_ (by rfl) (by rfl) (by rfl) (by rfl)

theorem flow_reportContact {a0 : Nat} {a1 : Tick} {a2 : Bool} {a3 : TouchContact} {a4 : TouchContact} {s5 : State} (hs5 : Flow t a s5) : Flow t a (reportContact a0 a1 a2 a3 a4 s5).1 := by
  unfold reportContact
  try dsimp only
  with_reducible repeat' first | exact hs5 | apply flow_postTouch | apply flow_ite | split | refine flow_mk ?_ (by rfl) (by rfl) (by rfl) (by rfl)

theorem flow_contactsOf {a0 : Nat} {a1 : Tick} {a2 : List TouchCand} {s3 : State} (hs3 : Flow t a s3) : Flow t a (contactsOf a0 a1 a2 s3) := by
  unfold contactsOf
  try dsimp only
  with_reducible repeat' first | exact hs3 | assumption | intro _ | apply flow_postTouch | apply flow_setTs | apply flow_reportContact | apply flow_setContacts | apply flow_confirm | apply flow_ite | apply flow_foldl | apply flow_foldl_snd | apply flow_foldl_fst | split | refine flow_mk ?_ (by rfl) (by rfl) (by rfl) (by rfl)

theorem flow_enterPalm {a0 : Nat} {s1 : State} (hs1 : Flow t a s1) : Flow t a (enterPalm a0 s1) := by
  unfold enterPalm
  with_reducible repeat' first | exact hs1 | apply flow_setTState | apply flow_cancelContacts

theorem flow_runScan {a0 : Nat} {a1 : Tick} {a2 : List Nat} {s3 : State} (hs3 : Flow t a s3) : Flow t a (runScan a0 a1 a2 s3) := by
  unfold runScan
  try dsimp only
  with_reducible repeat' first | exact hs3 | assumption | intro _ | apply flow_setTState | apply flow_enterPalm | apply flow_contactsOf | apply flow_adaptChannel | apply flow_ite | apply flow_foldl | apply flow_foldl_snd | apply flow_foldl_fst

theorem flow_calScan {a0 : Nat} {a1 : List (Nat × Bool)} {s2 : State} (hs2 : Flow t a s2) : Flow t a (calScan a0 a1 s2) := by
  unfold calScan
  try dsimp only
  with_reducible repeat' first | exact hs2 | apply flow_setTs | apply flow_ite | refine flow_mk ?_ (by rfl) (by rfl) (by rfl) (by rfl)

theorem flow_setBases {a0 : Nat} {a1 : List Nat} {s2 : State} (hs2 : Flow t a s2) : Flow t a (setBases a0 a1 s2) := by
  unfold setBases
  with_reducible repeat' first | exact hs2 | assumption | intro _ | apply flow_setBase | apply flow_foldl | apply flow_foldl_snd | apply flow_foldl_fst

theorem flow_profileEnd {a0 : Nat} {a1 : Tick} {a2 : List Nat} {a3 : List Nat} {s4 : State} (hs4 : Flow t a s4) : Flow t a (profileEnd a0 a1 a2 a3 s4) := by
  unfold profileEnd
  try dsimp only
  with_reducible repeat' first | exact hs4 | assumption | intro _ | apply flow_setBases | apply flow_wrF | apply flow_setTState | apply flow_enterPalm | apply flow_confirm | apply flow_ite | apply flow_foldl | apply flow_foldl_snd | apply flow_foldl_fst

theorem flow_profileScan {a0 : Nat} {a1 : Tick} {a2 : List Nat} {s3 : State} (hs3 : Flow t a s3) : Flow t a (profileScan a0 a1 a2 s3) := by
  unfold profileScan
  try dsimp only
  with_reducible repeat' first | exact hs3 | apply flow_profileEnd | apply flow_setTs | apply flow_ite | refine flow_mk ?_ (by rfl) (by rfl) (by rfl) (by rfl)

theorem flow_execTouchScanEnd {a0 : Tick} {a1 : BitVec 3} {a2 : List (List (BitVec 12))} {s3 : State} (hs3 : Flow t a s3) : OutFlow t a (execTouchScanEnd a0 a1 a2 s3) := by
  unfold execTouchScanEnd
  try dsimp only
  with_reducible repeat' first | exact hs3 | assumption | intro _ | apply flow_advance | apply flow_wrF | apply flow_wr | apply flow_setTs | apply flow_profileScan | apply flow_calScan | apply flow_runScan | apply flow_next | apply flow_foldl | apply flow_foldl_snd | apply flow_foldl_fst | split | refine flow_mk ?_ (by rfl) (by rfl) (by rfl) (by rfl)

theorem flow_execTouchScanStart {a0 : Tick} {a1 : BitVec 3} {s2 : State} (hs2 : Flow t a s2) : OutFlow t a (execTouchScanStart a0 a1 s2) := by
  unfold execTouchScanStart
  try dsimp only
  with_reducible repeat' first | exact hs2 | apply flow_advance | apply flow_setTs | apply flow_wrB | apply flow_ite | apply flow_next | apply flow_out_ite | refine flow_mk ?_ (by rfl) (by rfl) (by rfl) (by rfl)

theorem flow_execTouchCalibrationDone {a0 : Tick} {a1 : BitVec 3} {a2 : Bool} {s3 : State} (hs3 : Flow t a s3) : OutFlow t a (execTouchCalibrationDone a0 a1 a2 s3) := by
  unfold execTouchCalibrationDone
  try dsimp only
  with_reducible repeat' first | exact hs3 | assumption | intro _ | apply flow_advance | apply flow_setTs | apply flow_finishLong | apply flow_setTState | apply flow_setBases | apply flow_loadProfile | apply flow_flashPut | apply flow_ite | apply flow_next | apply flow_out_ite | apply flow_foldl | apply flow_foldl_snd | apply flow_foldl_fst | split | refine flow_mk ?_ (by rfl) (by rfl) (by rfl) (by rfl)

theorem flow_doTouchCalibrate {a0 : Ctx} {s1 : State} (hs1 : Flow t a s1) : AnsFlow t a (doTouchCalibrate a0 s1) := by
  unfold doTouchCalibrate
  try dsimp only
  with_reducible repeat' first | exact hs1 | apply flow_setTs | apply flow_resumeScans | apply flow_setTState | apply flow_ite | apply ans_reply | apply ans_later | apply ans_outside | apply ans_ite | split | refine flow_mk ?_ (by rfl) (by rfl) (by rfl) (by rfl)

theorem flow_execTouchCalibrate {a0 : Tick} {a1 : Request} {s2 : State} (hs2 : Flow t a s2) : OutFlow t a (execTouchCalibrate a0 a1 s2) := by
  unfold execTouchCalibrate
  with_reducible repeat' first | exact hs2 | assumption | intro _ | apply flow_gcp | apply flow_doTouchCalibrate | apply flow_next

/-! ### Power.lean -/

theorem flow_clkLostClear {a0 : Word} {s1 : State} (hs1 : Flow t a s1) : Flow t a (clkLostClear a0 s1) := by
  unfold clkLostClear
  with_reducible repeat' first | exact hs1 | apply flow_wrB | apply flow_ite

theorem flow_rstBlk {a0 : Nat} {s1 : State} (hs1 : Flow t a s1) : Flow t a (rstBlk a0 s1) := by
  unfold rstBlk
  try dsimp only
  with_reducible repeat' first | exact hs1 | assumption | intro _ | apply flow_setGate | apply flow_resetBlock | apply flow_setPwr | apply flow_wrB | apply flow_ite | apply flow_foldl | apply flow_foldl_snd | apply flow_foldl_fst | refine flow_mk ?_ (by rfl) (by rfl) (by rfl) (by rfl)

theorem flow_discardWork {a0 : Nat} {s1 : State} (hs1 : Flow t a s1) : Flow t a (discardWork a0 s1) := by
  unfold discardWork
  try dsimp only
  with_reducible repeat' first | exact hs1 | apply flow_wrB | apply flow_ite | refine flow_mk ?_ (by rfl) (by rfl) (by rfl) (by rfl)

theorem flow_drainGate {a0 : Nat} {a1 : List Asker} {s2 : State} (hs2 : Flow t a s2) : Flow t a (drainGate a0 a1 s2) := by
  unfold drainGate
  with_reducible repeat' first | exact hs2 | apply flow_discardWork | apply flow_beginDrain

theorem flow_drainPending {a0 : Nat} {a1 : Bool} {s2 : State} (hs2 : Flow t a s2) : Flow t a (drainPending a0 a1 s2) := by
  unfold drainPending
  try dsimp only
  with_reducible repeat' first | exact hs2 | apply flow_drainGate | apply flow_setGate | apply flow_ite | refine flow_mk ?_ (by rfl) (by rfl) (by rfl) (by rfl)

theorem flow_noteGate {a0 : Nat} {s1 : State} (hs1 : Flow t a s1) : Flow t a (noteGate a0 s1) := by
  unfold noteGate
  try dsimp only
  with_reducible repeat' first | exact hs1 | apply flow_noteReadyAt | split | refine flow_mk ?_ (by rfl) (by rfl) (by rfl) (by rfl)

theorem flow_leaveSelfRefresh {s0 : State} (hs0 : Flow t a s0) : Flow t a (leaveSelfRefresh s0) := by
  unfold leaveSelfRefresh
  try dsimp only
  with_reducible repeat' first | exact hs0 | apply flow_wr

theorem flow_wakeComplete {a0 : Nat} {s1 : State} (hs1 : Flow t a s1) : Flow t a (wakeComplete a0 s1) := by
  unfold wakeComplete
  try dsimp only
  with_reducible repeat' first | exact hs1 | assumption | intro _ | apply flow_resetBlock | apply flow_setGate | apply flow_postAsker | apply flow_clockOn | apply flow_leaveSelfRefresh | apply flow_loadProfiles | apply flow_noteGate | apply flow_drainPending | apply flow_ite | apply flow_foldl | apply flow_foldl_snd | apply flow_foldl_fst | refine flow_mk ?_ (by rfl) (by rfl) (by rfl) (by rfl)

theorem flow_wakeAct {a0 : Ctx} {a1 : Nat} {s2 : State} (hs2 : Flow t a s2) : AnsFlow t a (wakeAct a0 a1 s2) := by
  unfold wakeAct
  try dsimp only
  with_reducible repeat' first | exact hs2 | apply flow_joinGate | apply flow_setGate | apply flow_upgradeWake | apply flow_clockOn | apply flow_wakeOff | apply flow_ite | apply ans_reply | apply ans_later | apply ans_outside | apply ans_ite | split | refine flow_mk ?_ (by rfl) (by rfl) (by rfl) (by rfl)

theorem flow_blockResetDone {a0 : Nat} {s1 : State} (hs1 : Flow t a s1) : Flow t a (blockResetDone a0 s1) := by
  unfold blockResetDone
  try dsimp only
  with_reducible repeat' first | exact hs1 | apply flow_setGate | apply flow_setPwr | apply flow_wrB | apply flow_wrF | apply flow_postPower | apply flow_loadProfiles | apply flow_drainPending | apply flow_ite | refine flow_mk ?_ (by rfl) (by rfl) (by rfl) (by rfl)

theorem flow_execBlockResetDone {a0 : Tick} {s1 : State} (hs1 : Flow t a s1) : OutFlow t a (execBlockResetDone a0 s1) := by
  unfold execBlockResetDone
  try dsimp only
  with_reducible repeat' first | exact hs1 | apply flow_advance | apply flow_blockResetDone | apply flow_next | split | refine flow_mk ?_ (by rfl) (by rfl) (by rfl) (by rfl)

theorem flow_standbyGate {s0 : State} {a1 : Nat} (hs0 : Flow t a s0) : Flow t a (standbyGate s0 a1) := by
  unfold standbyGate
  try dsimp only
  with_reducible repeat' first | exact hs0 | apply flow_setPwr | apply flow_setGate | apply flow_beginDrain | split | refine flow_mk ?_ (by rfl) (by rfl) (by rfl) (by rfl)

theorem flow_enterStandby {s0 : State} (hs0 : Flow t a s0) : Flow t a (enterStandby s0) := by
  unfold enterStandby
  try dsimp only
  with_reducible repeat' first | exact hs0 | assumption | intro _ | apply flow_setPwr | apply flow_setPwrMode | apply flow_standbyGate | apply flow_enterSlow | apply flow_foldl | apply flow_foldl_snd | apply flow_foldl_fst | refine flow_mk ?_ (by rfl) (by rfl) (by rfl) (by rfl)

theorem flow_standbyLeft {s0 : State} (hs0 : Flow t a s0) : Flow t a (standbyLeft s0) := by
  unfold standbyLeft
  try dsimp only
  with_reducible repeat' first | exact hs0 | assumption | intro _ | apply flow_postPower | apply flow_setPwrMode | apply flow_setPwr | apply flow_finishLong | apply flow_enterStandby | apply flow_ite | apply flow_foldl | apply flow_foldl_snd | apply flow_foldl_fst | refine flow_mk ?_ (by rfl) (by rfl) (by rfl) (by rfl)

theorem flow_execStandbyLeft {a0 : Tick} {s1 : State} (hs1 : Flow t a s1) : OutFlow t a (execStandbyLeft a0 s1) := by
  unfold execStandbyLeft
  try dsimp only
  with_reducible repeat' first | exact hs1 | apply flow_advance | apply flow_standbyLeft | apply flow_ite | apply flow_next | apply flow_out_ite

theorem flow_standbyReached {s0 : State} (hs0 : Flow t a s0) : Flow t a (standbyReached s0) := by
  unfold standbyReached
  try dsimp only
  with_reducible repeat' first | exact hs0 | assumption | intro _ | apply flow_wrB | apply flow_setPwrMode | apply flow_islandStop | apply flow_setGate | apply flow_postPower | apply flow_finishLong | apply flow_setPwr | apply flow_leaveStandby | apply flow_ite | apply flow_foldl | apply flow_foldl_snd | apply flow_foldl_fst | refine flow_mk ?_ (by rfl) (by rfl) (by rfl) (by rfl)

theorem flow_execStandbyReached {a0 : Tick} {s1 : State} (hs1 : Flow t a s1) : OutFlow t a (execStandbyReached a0 s1) := by
  unfold execStandbyReached
  try dsimp only
  with_reducible repeat' first | exact hs1 | apply flow_advance | apply flow_standbyReached | apply flow_ite | apply flow_next | apply flow_out_ite

theorem flow_execWakeComplete {a0 : Tick} {a1 : BitVec 8} {s2 : State} (hs2 : Flow t a s2) : OutFlow t a (execWakeComplete a0 a1 s2) := by
  unfold execWakeComplete
  try dsimp only
  with_reducible repeat' first | exact hs2 | apply flow_advance | apply flow_wakeComplete | apply flow_ite | apply flow_next | apply flow_out_ite

theorem flow_execWakeAdmission {a0 : Tick} {s1 : State} (hs1 : Flow t a s1) : OutFlow t a (execWakeAdmission a0 s1) := by
  unfold execWakeAdmission
  try dsimp only
  with_reducible repeat' first | exact hs1 | apply flow_advance | apply flow_admitWakes | apply flow_next

theorem flow_drainEnd {a0 : Nat} {s1 : State} (hs1 : Flow t a s1) : Flow t a (drainEnd a0 s1) := by
  unfold drainEnd
  try dsimp only
  with_reducible repeat' first | exact hs1 | assumption | intro _ | apply flow_setGate | apply flow_islandStop | apply flow_resetBlock | apply flow_noteGate | apply flow_postAsker | apply flow_wakeOff | apply flow_ite | apply flow_foldl | apply flow_foldl_snd | apply flow_foldl_fst | split | refine flow_mk ?_ (by rfl) (by rfl) (by rfl) (by rfl)

theorem flow_execDrainEnd {a0 : Tick} {a1 : BitVec 8} {s2 : State} (hs2 : Flow t a s2) : OutFlow t a (execDrainEnd a0 a1 s2) := by
  unfold execDrainEnd
  try dsimp only
  with_reducible repeat' first | exact hs2 | apply flow_advance | apply flow_drainEnd | apply flow_ite | apply flow_next | apply flow_out_ite

theorem flow_execSourceSwitch {a0 : Tick} {a1 : BitVec 5} {s2 : State} (hs2 : Flow t a s2) : OutFlow t a (execSourceSwitch a0 a1 s2) := by
  unfold execSourceSwitch
  try dsimp only
  with_reducible repeat' first | exact hs2 | apply flow_advance | apply flow_setPwr | apply flow_wr | apply flow_finishLong | apply flow_islandGood | apply flow_islandStart | apply flow_ite | apply flow_next | apply flow_out_ite | split | refine flow_mk ?_ (by rfl) (by rfl) (by rfl) (by rfl)

theorem flow_execLoopLock {a0 : Tick} {a1 : BitVec 5} {s2 : State} (hs2 : Flow t a s2) : OutFlow t a (execLoopLock a0 a1 s2) := by
  unfold execLoopLock
  try dsimp only
  with_reducible repeat' first | exact hs2 | apply flow_advance | apply flow_noteGate | apply flow_islandGood | apply flow_ite | apply flow_next | apply flow_out_ite

theorem flow_setLossRegs {a0 : Nat} {a1 : Nat} {s2 : State} (hs2 : Flow t a s2) : Flow t a (setLossRegs a0 a1 s2) := by
  unfold setLossRegs
  with_reducible repeat' first | exact hs2 | apply flow_wr

theorem flow_relock {s0 : State} {a1 : Nat} (hs0 : Flow t a s0) : Flow t a (relock s0 a1) := by
  unfold relock
  with_reducible repeat' first | exact hs0 | apply flow_noteGate | apply flow_islandGood | apply flow_wrB | apply flow_ite

theorem flow_execLoopsRelocked {a0 : Tick} {s1 : State} (hs1 : Flow t a s1) : OutFlow t a (execLoopsRelocked a0 s1) := by
  unfold execLoopsRelocked
  try dsimp only
  with_reducible repeat' first | exact hs1 | assumption | intro _ | apply flow_advance | apply flow_relock | apply flow_wrB | apply flow_setLossRegs | apply flow_setPwr | apply flow_postPower | apply flow_ite | apply flow_next | apply flow_out_ite | apply flow_foldl | apply flow_foldl_snd | apply flow_foldl_fst | refine flow_mk ?_ (by rfl) (by rfl) (by rfl) (by rfl)

theorem flow_execClkinReturn {a0 : Tick} {s1 : State} (hs1 : Flow t a s1) : OutFlow t a (execClkinReturn a0 s1) := by
  unfold execClkinReturn
  try dsimp only
  with_reducible repeat' first | exact hs1 | assumption | intro _ | apply flow_advance | apply flow_wr | apply flow_releaseReset | apply flow_wrB | apply flow_ite | apply flow_next | apply flow_out_ite | apply flow_foldl | apply flow_foldl_snd | apply flow_foldl_fst

theorem flow_countForced {s0 : State} (hs0 : Flow t a s0) : Flow t a (countForced s0) := by
  unfold countForced
  try dsimp only
  with_reducible repeat' first | exact hs0 | apply flow_setLnk | apply flow_ite | refine flow_mk ?_ (by rfl) (by rfl) (by rfl) (by rfl)

theorem flow_coast {s0 : State} {a1 : Nat} (hs0 : Flow t a s0) : Flow t a (coast s0 a1) := by
  unfold coast
  try dsimp only
  with_reducible repeat' first | exact hs0 | apply flow_wr

theorem flow_clkinLoss {s0 : State} (hs0 : Flow t a s0) : Flow t a (clkinLoss s0) := by
  unfold clkinLoss
  try dsimp only
  with_reducible repeat' first | exact hs0 | assumption | intro _ | apply flow_coast | apply flow_wrB | apply flow_setLossRegs | apply flow_wr | apply flow_setPwr | apply flow_countForced | apply flow_faultNote | apply flow_raiseHolm | apply flow_postPower | apply flow_ite | apply flow_foldl | apply flow_foldl_snd | apply flow_foldl_fst | refine flow_mk ?_ (by rfl) (by rfl) (by rfl) (by rfl)

theorem flow_execClkinLoss {a0 : Tick} {s1 : State} (hs1 : Flow t a s1) : OutFlow t a (execClkinLoss a0 s1) := by
  unfold execClkinLoss
  try dsimp only
  with_reducible repeat' first | exact hs1 | apply flow_advance | apply flow_clkinLoss | apply flow_ite | apply flow_next | apply flow_out_ite

theorem flow_execSelfRefreshWake {a0 : Tick} {s1 : State} (hs1 : Flow t a s1) : OutFlow t a (execSelfRefreshWake a0 s1) := by
  unfold execSelfRefreshWake
  try dsimp only
  with_reducible repeat' first | exact hs1 | apply flow_advance | apply flow_wrB | apply flow_queueGate | apply flow_ite | apply flow_next | apply flow_out_ite

theorem flow_doPowerStatus {a0 : Ctx} {s1 : State} (hs1 : Flow t a s1) : AnsFlow t a (doPowerStatus a0 s1) := by
  unfold doPowerStatus
  with_reducible repeat' first | exact hs1 | apply ans_reply | apply ans_later | apply ans_outside | apply ans_ite

theorem flow_execPowerStatus {a0 : Tick} {a1 : Request} {s2 : State} (hs2 : Flow t a s2) : OutFlow t a (execPowerStatus a0 a1 s2) := by
  unfold execPowerStatus
  with_reducible repeat' first | exact hs2 | assumption | intro _ | apply flow_gcp | apply flow_doPowerStatus | apply flow_next

theorem flow_doPowerState {a0 : Ctx} {s1 : State} (hs1 : Flow t a s1) : AnsFlow t a (doPowerState a0 s1) := by
  unfold doPowerState
  try dsimp only
  with_reducible repeat' first | exact hs1 | apply flow_setPwr | apply flow_enterStandby | apply flow_leaveStandby | apply flow_ite | apply ans_reply | apply ans_later | apply ans_outside | apply ans_ite | refine flow_mk ?_ (by rfl) (by rfl) (by rfl) (by rfl)

theorem flow_execPowerStateRun {a0 : Tick} {a1 : Request} {s2 : State} (hs2 : Flow t a s2) : OutFlow t a (execPowerStateRun a0 a1 s2) := by
  unfold execPowerStateRun
  with_reducible repeat' first | exact hs2 | assumption | intro _ | apply flow_gcp | apply flow_doPowerState | apply flow_next

theorem flow_execPowerStateStandby {a0 : Tick} {a1 : Request} {s2 : State} (hs2 : Flow t a s2) : OutFlow t a (execPowerStateStandby a0 a1 s2) := by
  unfold execPowerStateStandby
  with_reducible repeat' first | exact hs2 | assumption | intro _ | apply flow_gcp | apply flow_doPowerState | apply flow_next

theorem flow_doClockSet {a0 : Ctx} {s1 : State} (hs1 : Flow t a s1) : AnsFlow t a (doClockSet a0 s1) := by
  unfold doClockSet
  try dsimp only
  with_reducible repeat' first | exact hs1 | apply flow_setPwr | apply flow_ite | apply ans_reply | apply ans_later | apply ans_outside | apply ans_ite | refine flow_mk ?_ (by rfl) (by rfl) (by rfl) (by rfl)

theorem flow_execClockSet {a0 : Tick} {a1 : Request} {s2 : State} (hs2 : Flow t a s2) : OutFlow t a (execClockSet a0 a1 s2) := by
  unfold execClockSet
  with_reducible repeat' first | exact hs2 | assumption | intro _ | apply flow_gcp | apply flow_doClockSet | apply flow_next

theorem flow_doWake {a0 : Ctx} {a1 : Nat} {s2 : State} (hs2 : Flow t a s2) : AnsFlow t a (doWake a0 a1 s2) := by
  unfold doWake
  try dsimp only
  with_reducible repeat' first | exact hs2 | apply flow_wakeAct | apply flow_ite | apply ans_reply | apply ans_later | apply ans_outside | apply ans_ite

theorem flow_gateAct {a0 : Ctx} {a1 : Nat} {s2 : State} (hs2 : Flow t a s2) : AnsFlow t a (gateAct a0 a1 s2) := by
  unfold gateAct
  try dsimp only
  with_reducible repeat' first | exact hs2 | apply flow_leaveGate | apply flow_setGate | apply flow_unqueue | apply flow_drainGate | apply ans_reply | apply ans_later | apply ans_outside | apply ans_ite | split | refine flow_mk ?_ (by rfl) (by rfl) (by rfl) (by rfl)

theorem flow_doGate {a0 : Ctx} {a1 : Nat} {s2 : State} (hs2 : Flow t a s2) : AnsFlow t a (doGate a0 a1 s2) := by
  unfold doGate
  try dsimp only
  with_reducible repeat' first | exact hs2 | apply flow_isoLog | apply flow_gateAct | apply flow_ite | apply ans_reply | apply ans_later | apply ans_outside | apply ans_ite | split | refine flow_mk ?_ (by rfl) (by rfl) (by rfl) (by rfl)

theorem flow_doBlockPower {a0 : Ctx} {s1 : State} (hs1 : Flow t a s1) : AnsFlow t a (doBlockPower a0 s1) := by
  unfold doBlockPower
  try dsimp only
  with_reducible repeat' first | exact hs1 | apply flow_doGate | apply flow_doWake | apply flow_ite | apply ans_reply | apply ans_later | apply ans_outside | apply ans_ite

theorem flow_execBlockPowerWake {a0 : Tick} {a1 : Request} {s2 : State} (hs2 : Flow t a s2) : OutFlow t a (execBlockPowerWake a0 a1 s2) := by
  unfold execBlockPowerWake
  with_reducible repeat' first | exact hs2 | assumption | intro _ | apply flow_gcp | apply flow_doBlockPower | apply flow_next

theorem flow_execBlockPowerGate {a0 : Tick} {a1 : Request} {s2 : State} (hs2 : Flow t a s2) : OutFlow t a (execBlockPowerGate a0 a1 s2) := by
  unfold execBlockPowerGate
  with_reducible repeat' first | exact hs2 | assumption | intro _ | apply flow_gcp | apply flow_doBlockPower | apply flow_next

/-! ### Haptics.lean -/

theorem flow_setHapState {a0 : Nat} {a1 : Nat} {s2 : State} (hs2 : Flow t a s2) : Flow t a (setHapState a0 a1 s2) := by
  unfold setHapState
  with_reducible repeat' first | exact hs2 | apply flow_wrF

theorem flow_restState {a0 : Nat} {s1 : State} (hs1 : Flow t a s1) : Flow t a (restState a0 s1) := by
  unfold restState
  with_reducible repeat' first | exact hs1 | apply flow_setHapState | apply flow_ite

theorem flow_showCal {a0 : Nat} {s1 : State} (hs1 : Flow t a s1) : Flow t a (showCal a0 s1) := by
  unfold showCal
  try dsimp only
  with_reducible repeat' first | exact hs1 | apply flow_wrB | apply flow_wr | apply flow_ite | split | refine flow_mk ?_ (by rfl) (by rfl) (by rfl) (by rfl)

theorem flow_setHap {a0 : Nat} {a1 : HapRec → HapRec} {s2 : State} (hs2 : Flow t a s2) : Flow t a (setHap a0 a1 s2) := by
  unfold setHap
  try dsimp only
  with_reducible repeat' first | exact hs2 | refine flow_mk ?_ (by rfl) (by rfl) (by rfl) (by rfl)

theorem flow_hapEnable {a0 : Nat} {a1 : Bool} {s2 : State} (hs2 : Flow t a s2) : Flow t a (hapEnable a0 a1 s2) := by
  unfold hapEnable
  try dsimp only
  with_reducible repeat' first | exact hs2 | apply flow_wrB | apply flow_setHap | apply flow_showCal | apply flow_restState | apply flow_ite | refine flow_mk ?_ (by rfl) (by rfl) (by rfl) (by rfl)

theorem flow_accountHap {a0 : Nat} {s1 : State} (hs1 : Flow t a s1) : Flow t a (accountHap a0 s1) := by
  unfold accountHap
  try dsimp only
  with_reducible repeat' first | exact hs1 | apply flow_setHap | apply flow_ite | refine flow_mk ?_ (by rfl) (by rfl) (by rfl) (by rfl)

theorem flow_endDrive {a0 : Nat} {s1 : State} (hs1 : Flow t a s1) : Flow t a (endDrive a0 s1) := by
  unfold endDrive
  try dsimp only
  with_reducible repeat' first | exact hs1 | apply flow_accountHap | apply flow_setHap | apply flow_setHapState | apply flow_restState | apply flow_ite | split | refine flow_mk ?_ (by rfl) (by rfl) (by rfl) (by rfl)

theorem flow_hapDisable {a0 : Nat} {s1 : State} (hs1 : Flow t a s1) : Flow t a (hapDisable a0 s1) := by
  unfold hapDisable
  try dsimp only
  with_reducible repeat' first | exact hs1 | assumption | intro _ | apply flow_endDrive | apply flow_wrB | apply flow_setHap | apply flow_cancelContract | apply flow_finishLong | apply flow_showCal | apply flow_setHapState | apply flow_ite | apply flow_foldl | apply flow_foldl_snd | apply flow_foldl_fst | split | refine flow_mk ?_ (by rfl) (by rfl) (by rfl) (by rfl)

theorem flow_writeHapCtrl {a0 : Nat} {a1 : Word} {s2 : State} (hs2 : Flow t a s2) : Flow t a (writeHapCtrl a0 a1 s2) := by
  unfold writeHapCtrl
  try dsimp only
  with_reducible repeat' first | exact hs2 | apply flow_wrB | apply flow_hapDisable | apply flow_wrF | apply flow_hapEnable | apply flow_ite

theorem flow_dropEffects {a0 : Nat} {a1 : Effect → Bool} {s2 : State} (hs2 : Flow t a s2) : Flow t a (dropEffects a0 a1 s2) := by
  unfold dropEffects
  try dsimp only
  with_reducible repeat' first | exact hs2 | apply flow_setHap | refine flow_mk ?_ (by rfl) (by rfl) (by rfl) (by rfl)

theorem flow_withdrawEffect {a0 : Nat} {a1 : Nat} {s2 : State} (hs2 : Flow t a s2) : Flow t a (withdrawEffect a0 a1 s2) := by
  unfold withdrawEffect
  with_reducible repeat' first | exact hs2 | assumption | intro _ | apply flow_dropEffects | apply flow_ite | apply flow_id | apply flow_foldl | apply flow_foldl_snd | apply flow_foldl_fst

theorem flow_hapEvent {a0 : Nat} {a1 : Nat} {a2 : Nat} {a3 : Nat} {s4 : State} (hs4 : Flow t a s4) : Flow t a (hapEvent a0 a1 a2 a3 s4) := by
  unfold hapEvent
  try dsimp only
  with_reducible repeat' first | exact hs4 | apply flow_post | apply flow_ite | apply flow_id | split | refine flow_mk ?_ (by rfl) (by rfl) (by rfl) (by rfl)

theorem flow_execOvercurrent {a0 : Tick} {a1 : BitVec 4} {a2 : BitVec 12} {a3 : BitVec 12} {a4 : BitVec 12} {a5 : BitVec 12} {s6 : State} (hs6 : Flow t a s6) : OutFlow t a (execOvercurrent a0 a1 a2 a3 a4 a5 s6) := by
  unfold execOvercurrent
  try dsimp only
  with_reducible repeat' first | exact hs6 | apply flow_accountHap | apply flow_advance | apply flow_setHap | apply flow_wrB | apply flow_setHapState | apply flow_hapEvent | apply flow_ite | apply flow_next | apply flow_out_ite | split | refine flow_mk ?_ (by rfl) (by rfl) (by rfl) (by rfl)

theorem flow_execHapticBudgetWindow {a0 : Tick} {a1 : BitVec 4} {s2 : State} (hs2 : Flow t a s2) : OutFlow t a (execHapticBudgetWindow a0 a1 s2) := by
  unfold execHapticBudgetWindow
  with_reducible repeat' first | exact hs2 | apply flow_accountHap | apply flow_advance | apply flow_next

theorem flow_limitEnd {a0 : Nat} {a1 : Nat} {a2 : Nat} {a3 : Bits} {s4 : State} (hs4 : Flow t a s4) : Flow t a (limitEnd a0 a1 a2 a3 s4) := by
  unfold limitEnd
  try dsimp only
  with_reducible repeat' first | exact hs4 | apply flow_endDrive | apply flow_wrB | apply flow_wrF | apply flow_hapEvent | apply flow_id

theorem flow_execHapticBudgetSpent {a0 : Tick} {a1 : BitVec 4} {s2 : State} (hs2 : Flow t a s2) : OutFlow t a (execHapticBudgetSpent a0 a1 s2) := by
  unfold execHapticBudgetSpent
  try dsimp only
  with_reducible repeat' first | exact hs2 | apply flow_accountHap | apply flow_advance | apply flow_limitEnd | apply flow_ite | apply flow_next | apply flow_out_ite | split | refine flow_mk ?_ (by rfl) (by rfl) (by rfl) (by rfl)

theorem flow_execHapticOnMax {a0 : Tick} {a1 : BitVec 4} {s2 : State} (hs2 : Flow t a s2) : OutFlow t a (execHapticOnMax a0 a1 s2) := by
  unfold execHapticOnMax
  try dsimp only
  with_reducible repeat' first | exact hs2 | apply flow_advance | apply flow_limitEnd | apply flow_ite | apply flow_next | apply flow_out_ite | split | refine flow_mk ?_ (by rfl) (by rfl) (by rfl) (by rfl)

theorem flow_execBrakingUnitEnd {a0 : Tick} {a1 : BitVec 4} {a2 : BitVec 12} {s3 : State} (hs3 : Flow t a s3) : OutFlow t a (execBrakingUnitEnd a0 a1 a2 s3) := by
  unfold execBrakingUnitEnd
  try dsimp only
  with_reducible repeat' first | exact hs3 | apply flow_accountHap | apply flow_advance | apply flow_restState | apply flow_setHap | apply flow_ite | apply flow_next | apply flow_out_ite | split | refine flow_mk ?_ (by rfl) (by rfl) (by rfl) (by rfl)

theorem flow_execHapticDriveEnd {a0 : Tick} {a1 : BitVec 4} {s2 : State} (hs2 : Flow t a s2) : OutFlow t a (execHapticDriveEnd a0 a1 s2) := by
  unfold execHapticDriveEnd
  try dsimp only
  with_reducible repeat' first | exact hs2 | apply flow_advance | apply flow_endDrive | apply flow_ite | apply flow_next | apply flow_out_ite | split | refine flow_mk ?_ (by rfl) (by rfl) (by rfl) (by rfl)

theorem flow_beginDrive {a0 : Nat} {a1 : Effect} {s2 : State} (hs2 : Flow t a s2) : Flow t a (beginDrive a0 a1 s2) := by
  unfold beginDrive
  try dsimp only
  with_reducible repeat' first | exact hs2 | apply flow_setHap | apply flow_setHapState | apply flow_wrF | apply flow_finish | refine flow_mk ?_ (by rfl) (by rfl) (by rfl) (by rfl)

theorem flow_execHapticDriveBegin {a0 : Tick} {a1 : BitVec 4} {s2 : State} (hs2 : Flow t a s2) : OutFlow t a (execHapticDriveBegin a0 a1 s2) := by
  unfold execHapticDriveBegin
  try dsimp only
  with_reducible repeat' first | exact hs2 | apply flow_accountHap | apply flow_advance | apply flow_endDrive | apply flow_beginDrive | apply flow_ite | apply flow_next | apply flow_out_ite | split | refine flow_mk ?_ (by rfl) (by rfl) (by rfl) (by rfl)

theorem flow_execHapticCalibrationDone {a0 : Tick} {a1 : BitVec 4} {a2 : List (BitVec 12)} {a3 : List Tick} {s4 : State} (hs4 : Flow t a s4) : OutFlow t a (execHapticCalibrationDone a0 a1 a2 a3 s4) := by
  unfold execHapticCalibrationDone
  try dsimp only
  with_reducible repeat' first | exact hs4 | apply flow_advance | apply flow_setHap | apply flow_hapEvent | apply flow_setHapState | apply flow_showCal | apply flow_finishLong | apply flow_wrB | apply flow_ite | apply flow_next | apply flow_out_ite | split | refine flow_mk ?_ (by rfl) (by rfl) (by rfl) (by rfl)

theorem flow_hapForget {a0 : Nat} {s1 : State} (hs1 : Flow t a s1) : Flow t a (hapForget a0 s1) := by
  unfold hapForget
  try dsimp only
  with_reducible repeat' first | exact hs1 | assumption | intro _ | apply flow_dropEffects | apply flow_endDrive | apply flow_ite | apply flow_foldl | apply flow_foldl_snd | apply flow_foldl_fst | split | refine flow_mk ?_ (by rfl) (by rfl) (by rfl) (by rfl)

theorem flow_notGrantedTarget {a0 : Ctx} {a1 : Nat} {a2 : Nat} {s3 : State} (hs3 : Flow t a s3) : Flow t a (notGrantedTarget a0 a1 a2 s3).2 := by
  unfold notGrantedTarget
  with_reducible repeat' first | exact hs3 | apply flow_isoLog | apply flow_ite | split

theorem flow_doHapticCalibrate {a0 : Ctx} {s1 : State} (hs1 : Flow t a s1) : AnsFlow t a (doHapticCalibrate a0 s1) := by
  unfold doHapticCalibrate
  try dsimp only
  with_reducible repeat' first | exact hs1 | apply flow_notGrantedTarget | apply flow_setHapState | apply flow_setHap | apply flow_ite | apply ans_reply | apply ans_later | apply ans_outside | apply ans_ite | split | refine flow_mk ?_ (by rfl) (by rfl) (by rfl) (by rfl)

theorem flow_execHapticCalibrate {a0 : Tick} {a1 : Request} {s2 : State} (hs2 : Flow t a s2) : OutFlow t a (execHapticCalibrate a0 a1 s2) := by
  unfold execHapticCalibrate
  with_reducible repeat' first | exact hs2 | assumption | intro _ | apply flow_gcp | apply flow_doHapticCalibrate | apply flow_next

theorem flow_doHapticPlay {a0 : Ctx} {s1 : State} (hs1 : Flow t a s1) : AnsFlow t a (doHapticPlay a0 s1) := by
  unfold doHapticPlay
  try dsimp only
  with_reducible repeat' first | exact hs1 | apply flow_notGrantedTarget | apply flow_admitReply | apply flow_setHap | apply flow_ite | apply ans_reply | apply ans_later | apply ans_outside | apply ans_ite | apply flow_id | split | refine flow_mk ?_ (by rfl) (by rfl) (by rfl) (by rfl)

theorem flow_execHapticPlay {a0 : Tick} {a1 : Request} {s2 : State} (hs2 : Flow t a s2) : OutFlow t a (execHapticPlay a0 a1 s2) := by
  unfold execHapticPlay
  with_reducible repeat' first | exact hs2 | assumption | intro _ | apply flow_gcp | apply flow_doHapticPlay | apply flow_next

end Sys2Proof.Laws
end

