-- ==== Sys2Proof/Laws/FlowE.lean ====
section
/-!
SUPPORT. Laws/FlowE.lean: every operation of AudioCore.lean, Audio.lean, Dma.lean, Lifecycle.lean flows.
-/

set_option linter.all false

namespace Sys2Proof.Laws

open Sys2Proof Sys2Proof.Machine

variable {t : Bool} {a : State}

/-! ### AudioCore.lean -/

theorem flow_setAud {a0 : AudioState → AudioState} {s1 : State} (hs1 : Flow t a s1) : Flow t a (setAud a0 s1) := by
  unfold setAud
  try dsimp only
  with_reducible repeat' first | exact hs1 | refine flow_mk ?_ (by rfl) (by rfl) (by rfl) (by rfl)

theorem flow_startRamp {s0 : State} {a1 : Nat × Nat} (hs0 : Flow t a s0) : Flow t a (startRamp s0 a1) := by
  unfold startRamp
  try dsimp only
  with_reducible repeat' first | exact hs0 | apply flow_setAud | apply flow_ite | refine flow_mk ?_ (by rfl) (by rfl) (by rfl) (by rfl)

theorem flow_regain {a0 : List Nat} {a1 : State → State} {s2 : State} (hs2 : Flow t a s2) (hfa1 : ∀ s : State, Flow t a s → Flow t a (a1 s)) : Flow t a (regain a0 a1 s2) := by
  unfold regain
  with_reducible repeat' first | exact hs2 | assumption | intro _ | apply hfa1 | apply flow_startRamp | apply flow_foldl | apply flow_foldl_snd | apply flow_foldl_fst

theorem flow_showQueued {a0 : Nat} {s1 : State} (hs1 : Flow t a s1) : Flow t a (showQueued a0 s1) := by
  unfold showQueued
  with_reducible repeat' first | exact hs1 | apply flow_wrF

theorem flow_setStream {a0 : Nat} {a1 : StreamRec → StreamRec} {s2 : State} (hs2 : Flow t a s2) : Flow t a (setStream a0 a1 s2) := by
  unfold setStream
  try dsimp only
  with_reducible repeat' first | exact hs2 | apply flow_showQueued | apply flow_setAud | refine flow_mk ?_ (by rfl) (by rfl) (by rfl) (by rfl)

theorem flow_toneFrame {s0 : State} (hs0 : Flow t a s0) : Flow t a (toneFrame s0) := by
  unfold toneFrame
  try dsimp only
  with_reducible repeat' first | exact hs0 | apply flow_setAud | apply flow_ite | split | refine flow_mk ?_ (by rfl) (by rfl) (by rfl) (by rfl)

/-! ### Audio.lean -/

theorem flow_writebackFrame {s0 : State} (hs0 : Flow t a s0) : Flow t a (writebackFrame s0) := by
  unfold writebackFrame
  try dsimp only
  with_reducible repeat' first | exact hs0 | apply flow_wrDpas | apply flow_wr | apply flow_setAud | apply flow_ite | refine flow_mk ?_ (by rfl) (by rfl) (by rfl) (by rfl)

theorem flow_writeTdm {a0 : Nat} {a1 : Word} {s2 : State} (hs2 : Flow t a s2) : Flow t a (writeTdm a0 a1 s2) := by
  unfold writeTdm
  try dsimp only
  with_reducible repeat' first | exact hs2 | apply flow_wrB | apply flow_plainWrite | apply flow_wrF | apply flow_ite

theorem flow_writeSinkEnable {a0 : Nat} {a1 : Bool} {s2 : State} (hs2 : Flow t a s2) : Flow t a (writeSinkEnable a0 a1 s2) := by
  unfold writeSinkEnable
  try dsimp only
  with_reducible repeat' first | exact hs2 | apply flow_setAud | apply flow_wrF | apply flow_wrB | apply flow_wr | apply flow_ite | refine flow_mk ?_ (by rfl) (by rfl) (by rfl) (by rfl)

theorem flow_writeSinkCtrl {a0 : Nat} {a1 : Word} {s2 : State} (hs2 : Flow t a s2) : Flow t a (writeSinkCtrl a0 a1 s2) := by
  unfold writeSinkCtrl
  try dsimp only
  with_reducible repeat' first | exact hs2 | assumption | intro _ | apply flow_regain | apply flow_wrB | apply flow_wrF | apply flow_writeSinkEnable | apply flow_ite

theorem flow_writeInputCtrl {a0 : Nat} {a1 : Word} {s2 : State} (hs2 : Flow t a s2) : Flow t a (writeInputCtrl a0 a1 s2) := by
  unfold writeInputCtrl
  try dsimp only
  with_reducible repeat' first | exact hs2 | assumption | intro _ | apply flow_regain | apply flow_plainWrite | apply flow_setAud | apply flow_ite | refine flow_mk ?_ (by rfl) (by rfl) (by rfl) (by rfl)

theorem flow_queueAud {a0 : Nat} {a1 : Word} {s2 : State} (hs2 : Flow t a s2) : Flow t a (queueAud a0 a1 s2) := by
  unfold queueAud
  try dsimp only
  with_reducible repeat' first | exact hs2 | apply flow_setAud | refine flow_mk ?_ (by rfl) (by rfl) (by rfl) (by rfl)

theorem flow_withdrawBuffer {a0 : Nat} {a1 : Nat} {s2 : State} (hs2 : Flow t a s2) : Flow t a (withdrawBuffer a0 a1 s2) := by
  unfold withdrawBuffer
  try dsimp only
  with_reducible repeat' first | exact hs2 | assumption | intro _ | apply flow_setStream | apply flow_ite | apply flow_id | apply flow_foldl | apply flow_foldl_snd | apply flow_foldl_fst | refine flow_mk ?_ (by rfl) (by rfl) (by rfl) (by rfl)

theorem flow_streamClear {a0 : Nat} {s1 : State} (hs1 : Flow t a s1) : Flow t a (streamClear a0 s1) := by
  unfold streamClear
  try dsimp only
  with_reducible repeat' first | exact hs1 | apply flow_resetRegs | apply flow_setAud | refine flow_mk ?_ (by rfl) (by rfl) (by rfl) (by rfl)

theorem flow_streamClose {a0 : Nat} {s1 : State} (hs1 : Flow t a s1) : Flow t a (streamClose a0 s1) := by
  unfold streamClose
  try dsimp only
  with_reducible repeat' first | exact hs1 | assumption | intro _ | apply flow_streamClear | apply flow_cancelContract | apply flow_foldl | apply flow_foldl_snd | apply flow_foldl_fst | split | refine flow_mk ?_ (by rfl) (by rfl) (by rfl) (by rfl)

theorem flow_writeAtt {a0 : Word} {s1 : State} (hs1 : Flow t a s1) : Flow t a (writeAtt a0 s1) := by
  unfold writeAtt
  try dsimp only
  with_reducible repeat' first | exact hs1 | apply flow_plainWrite | apply flow_wrB | apply flow_setAud | apply flow_ite | split | refine flow_mk ?_ (by rfl) (by rfl) (by rfl) (by rfl)

theorem flow_deliverBuf {a0 : Nat} {a1 : AudBuf} {s2 : State} (hs2 : Flow t a s2) : Flow t a (deliverBuf a0 a1 s2) := by
  unfold deliverBuf
  try dsimp only
  with_reducible repeat' first | exact hs2 | apply flow_finish | apply flow_setStream | apply flow_ite | refine flow_mk ?_ (by rfl) (by rfl) (by rfl) (by rfl)

theorem flow_frameBytesOf {a0 : AudBuf} {s1 : State} (hs1 : Flow t a s1) : Flow t a (frameBytesOf a0 s1).2 := by
  unfold frameBytesOf
  try dsimp only
  with_reducible repeat' first | exact hs1 | apply flow_noteFault | apply flow_ite | split

theorem flow_takeFrame {a0 : Nat} {a1 : Bool} {s2 : State} (hs2 : Flow t a s2) : Flow t a (takeFrame a0 a1 s2).2 := by
  unfold takeFrame
  try dsimp only
  with_reducible repeat' first | exact hs2 | apply flow_setStream | apply flow_frameBytesOf | apply flow_deliverBuf | apply flow_wrF | apply flow_ite | split | refine flow_mk ?_ (by rfl) (by rfl) (by rfl) (by rfl)

theorem flow_freeFrame {a0 : Nat} {s1 : State} (hs1 : Flow t a s1) : Flow t a (freeFrame a0 s1).2 := by
  unfold freeFrame
  try dsimp only
  with_reducible repeat' first | exact hs1 | refine flow_mk ?_ (by rfl) (by rfl) (by rfl) (by rfl)

theorem flow_pushFrame {a0 : Nat} {a1 : List Int} {s2 : State} (hs2 : Flow t a s2) : Flow t a (pushFrame a0 a1 s2) := by
  unfold pushFrame
  try dsimp only
  with_reducible repeat' first | exact hs2 | apply flow_setAud | refine flow_mk ?_ (by rfl) (by rfl) (by rfl) (by rfl)

theorem flow_streamBoundary {a0 : Nat} {s1 : State} {a2 : Nat} (hs1 : Flow t a s1) : Flow t a (streamBoundary a0 s1 a2) := by
  unfold streamBoundary
  try dsimp only
  with_reducible repeat' first | exact hs1 | assumption | intro _ | apply flow_deliverBuf | apply flow_setStream | apply flow_takeFrame | apply flow_wr | apply flow_pushFrame | apply flow_freeFrame | apply flow_ite | apply flow_foldl | apply flow_foldl_snd | apply flow_foldl_fst | split | refine flow_mk ?_ (by rfl) (by rfl) (by rfl) (by rfl)

theorem flow_execTdmClockReturn {a0 : Tick} {a1 : BitVec 3} {a2 : BitVec 18} {s3 : State} (hs3 : Flow t a s3) : OutFlow t a (execTdmClockReturn a0 a1 a2 s3) := by
  unfold execTdmClockReturn
  try dsimp only
  with_reducible repeat' first | exact hs3 | apply flow_advance | apply flow_wrB | apply flow_wrF | apply flow_ite | apply flow_next | apply flow_out_ite

theorem flow_hsEvent {a0 : Nat} {a1 : Nat} {a2 : Nat} {a3 : Tick} {s4 : State} (hs4 : Flow t a s4) : Flow t a (hsEvent a0 a1 a2 a3 s4) := by
  unfold hsEvent
  try dsimp only
  with_reducible repeat' first | exact hs4 | apply flow_post | apply flow_ite | split | refine flow_mk ?_ (by rfl) (by rfl) (by rfl) (by rfl)

theorem flow_execHeadsetButtonConfirm {a0 : Tick} {a1 : BitVec 1} {a2 : BitVec 24} {a3 : Tick} {s4 : State} (hs4 : Flow t a s4) : OutFlow t a (execHeadsetButtonConfirm a0 a1 a2 a3 s4) := by
  unfold execHeadsetButtonConfirm
  try dsimp only
  with_reducible repeat' first | exact hs4 | apply flow_advance | apply flow_hsEvent | apply flow_wrF | apply flow_ite | apply flow_next | apply flow_out_ite

theorem flow_setHsStat {a0 : Nat} {a1 : Bool} {a2 : Bool} {a3 : Nat} {a4 : Nat} {s5 : State} (hs5 : Flow t a s5) : Flow t a (setHsStat a0 a1 a2 a3 a4 s5) := by
  unfold setHsStat
  with_reducible repeat' first | exact hs5 | apply flow_wr

theorem flow_execHeadsetTypeMeasured {a0 : Tick} {a1 : BitVec 1} {a2 : BitVec 24} {a3 : BitVec 24} {s4 : State} (hs4 : Flow t a s4) : OutFlow t a (execHeadsetTypeMeasured a0 a1 a2 a3 s4) := by
  unfold execHeadsetTypeMeasured
  try dsimp only
  with_reducible repeat' first | exact hs4 | apply flow_advance | apply flow_hsEvent | apply flow_setHsStat | apply flow_ite | apply flow_next | apply flow_out_ite

theorem flow_setHs {a0 : Nat} {a1 : HsRec → HsRec} {s2 : State} (hs2 : Flow t a s2) : Flow t a (setHs a0 a1 s2) := by
  unfold setHs
  try dsimp only
  with_reducible repeat' first | exact hs2 | apply flow_setAud | refine flow_mk ?_ (by rfl) (by rfl) (by rfl) (by rfl)

theorem flow_execHeadsetRemoval {a0 : Tick} {a1 : BitVec 1} {a2 : Tick} {s3 : State} (hs3 : Flow t a s3) : OutFlow t a (execHeadsetRemoval a0 a1 a2 s3) := by
  unfold execHeadsetRemoval
  try dsimp only
  with_reducible repeat' first | exact hs3 | apply flow_advance | apply flow_setHs | apply flow_setHsStat | apply flow_hsEvent | apply flow_ite | apply flow_next | apply flow_out_ite | refine flow_mk ?_ (by rfl) (by rfl) (by rfl) (by rfl)

theorem flow_execHeadsetInsertConfirm {a0 : Tick} {a1 : BitVec 1} {a2 : Tick} {s3 : State} (hs3 : Flow t a s3) : OutFlow t a (execHeadsetInsertConfirm a0 a1 a2 s3) := by
  unfold execHeadsetInsertConfirm
  try dsimp only
  with_reducible repeat' first | exact hs3 | apply flow_advance | apply flow_setHsStat | apply flow_setHs | apply flow_ite | apply flow_next | apply flow_out_ite | refine flow_mk ?_ (by rfl) (by rfl) (by rfl) (by rfl)

theorem flow_refreshSink {s0 : State} {a1 : Nat} (hs0 : Flow t a s0) : Flow t a (refreshSink s0 a1) := by
  unfold refreshSink
  try dsimp only
  with_reducible repeat' first | exact hs0 | apply flow_wrB | apply flow_setAud | apply flow_ite | refine flow_mk ?_ (by rfl) (by rfl) (by rfl) (by rfl)

theorem flow_execAttentionEnd {a0 : Tick} {s1 : State} (hs1 : Flow t a s1) : OutFlow t a (execAttentionEnd a0 s1) := by
  unfold execAttentionEnd
  try dsimp only
  with_reducible repeat' first | exact hs1 | assumption | intro _ | apply flow_advance | apply flow_wrB | apply flow_setAud | apply flow_refreshSink | apply flow_ite | apply flow_next | apply flow_out_ite | apply flow_foldl | apply flow_foldl_snd | apply flow_foldl_fst | split | refine flow_mk ?_ (by rfl) (by rfl) (by rfl) (by rfl)

theorem flow_execTdmClockLoss {a0 : Tick} {a1 : BitVec 3} {s2 : State} (hs2 : Flow t a s2) : OutFlow t a (execTdmClockLoss a0 a1 s2) := by
  unfold execTdmClockLoss
  try dsimp only
  with_reducible repeat' first | exact hs2 | apply flow_advance | apply flow_wr | apply flow_ite | apply flow_next | apply flow_out_ite

theorem flow_sinkFrame {s0 : State} {a1 : Nat} (hs0 : Flow t a s0) : Flow t a (sinkFrame s0 a1) := by
  unfold sinkFrame
  try dsimp only
  with_reducible repeat' first | exact hs0 | apply flow_wr | apply flow_setAud | apply flow_ite | refine flow_mk ?_ (by rfl) (by rfl) (by rfl) (by rfl)

theorem flow_inputBoundary {a0 : List (List Word)} {s1 : State} {a2 : Nat} (hs1 : Flow t a s1) : Flow t a (inputBoundary a0 s1 a2) := by
  unfold inputBoundary
  try dsimp only
  with_reducible repeat' first | exact hs1 | apply flow_pushFrame | apply flow_freeFrame | apply flow_ite | split

theorem flow_applyAud {s0 : State} {a1 : Nat × Word} (hs0 : Flow t a s0) : Flow t a (applyAud s0 a1) := by
  unfold applyAud
  try dsimp only
  with_reducible repeat' first | exact hs0 | assumption | intro _ | apply flow_regain | apply flow_plainWrite | apply flow_writeInputCtrl | apply flow_writeTdm | apply flow_writeAtt | apply flow_writeSinkCtrl | apply flow_ite

theorem flow_nextBoundary {s0 : State} (hs0 : Flow t a s0) : Flow t a (nextBoundary s0) := by
  unfold nextBoundary
  try dsimp only
  with_reducible repeat' first | exact hs0 | apply flow_setAud | apply flow_wr | split | refine flow_mk ?_ (by rfl) (by rfl) (by rfl) (by rfl)

theorem flow_execAudioFrameBoundary {a0 : Tick} {a1 : List (List Word)} {a2 : BitVec 32} {s3 : State} (hs3 : Flow t a s3) : OutFlow t a (execAudioFrameBoundary a0 a1 a2 s3) := by
  unfold execAudioFrameBoundary
  try dsimp only
  with_reducible repeat' first | exact hs3 | assumption | intro _ | apply flow_advance | apply flow_setAud | apply flow_nextBoundary | apply flow_applyAud | apply flow_toneFrame | apply flow_refreshSink | apply flow_inputBoundary | apply flow_streamBoundary | apply flow_writebackFrame | apply flow_sinkFrame | apply flow_ite | apply flow_next | apply flow_out_ite | apply flow_foldl | apply flow_foldl_snd | apply flow_foldl_fst | refine flow_mk ?_ (by rfl) (by rfl) (by rfl) (by rfl)

theorem flow_doAudioQueue {a0 : Ctx} {s1 : State} (hs1 : Flow t a s1) : AnsFlow t a (doAudioQueue a0 s1) := by
  unfold doAudioQueue
  try dsimp only
  with_reducible repeat' first | exact hs1 | apply flow_notGrantedTarget | apply flow_admitReply | apply flow_setStream | apply flow_ite | apply ans_reply | apply ans_later | apply ans_outside | apply ans_ite | apply flow_id | split | refine flow_mk ?_ (by rfl) (by rfl) (by rfl) (by rfl)

theorem flow_execAudioQueue {a0 : Tick} {a1 : Request} {s2 : State} (hs2 : Flow t a s2) : OutFlow t a (execAudioQueue a0 a1 s2) := by
  unfold execAudioQueue
  with_reducible repeat' first | exact hs2 | assumption | intro _ | apply flow_gcp | apply flow_doAudioQueue | apply flow_next

theorem flow_doStreamClose {a0 : Ctx} {s1 : State} (hs1 : Flow t a s1) : AnsFlow t a (doStreamClose a0 s1) := by
  unfold doStreamClose
  try dsimp only
  with_reducible repeat' first | exact hs1 | apply flow_streamClose | apply flow_ite | apply ans_reply | apply ans_later | apply ans_outside | apply ans_ite

theorem flow_execStreamClose {a0 : Tick} {a1 : Request} {s2 : State} (hs2 : Flow t a s2) : OutFlow t a (execStreamClose a0 a1 s2) := by
  unfold execStreamClose
  with_reducible repeat' first | exact hs2 | assumption | intro _ | apply flow_gcp | apply flow_doStreamClose | apply flow_next

theorem flow_doStreamOpen {a0 : Ctx} {s1 : State} (hs1 : Flow t a s1) : AnsFlow t a (doStreamOpen a0 s1) := by
  unfold doStreamOpen
  try dsimp only
  with_reducible repeat' first | exact hs1 | assumption | intro _ | apply flow_wr | apply flow_setAud | apply flow_setStream | apply flow_ite | apply ans_reply | apply ans_later | apply ans_outside | apply ans_ite | apply flow_foldl | apply flow_foldl_snd | apply flow_foldl_fst | split | refine flow_mk ?_ (by rfl) (by rfl) (by rfl) (by rfl)

theorem flow_execStreamOpen {a0 : Tick} {a1 : Request} {s2 : State} (hs2 : Flow t a s2) : OutFlow t a (execStreamOpen a0 a1 s2) := by
  unfold execStreamOpen
  with_reducible repeat' first | exact hs2 | assumption | intro _ | apply flow_gcp | apply flow_doStreamOpen | apply flow_next

/-! ### Dma.lean -/

theorem flow_writeDmaRate {a0 : Nat} {a1 : Word} {s2 : State} (hs2 : Flow t a s2) : Flow t a (writeDmaRate a0 a1 s2) := by
  unfold writeDmaRate
  try dsimp only
  with_reducible repeat' first | exact hs2 | apply flow_wrB | apply flow_wrF | apply flow_ite

theorem flow_showDma {a0 : Nat} {s1 : State} (hs1 : Flow t a s1) : Flow t a (showDma a0 s1) := by
  unfold showDma
  try dsimp only
  with_reducible repeat' first | exact hs1 | apply flow_wr | split | refine flow_mk ?_ (by rfl) (by rfl) (by rfl) (by rfl)

theorem flow_setDma {a0 : Nat} {a1 : DmaRec → DmaRec} {s2 : State} (hs2 : Flow t a s2) : Flow t a (setDma a0 a1 s2) := by
  unfold setDma
  try dsimp only
  with_reducible repeat' first | exact hs2 | apply flow_showDma | refine flow_mk ?_ (by rfl) (by rfl) (by rfl) (by rfl)

theorem flow_dmaStart {a0 : Nat} {s1 : State} (hs1 : Flow t a s1) : Flow t a (dmaStart a0 s1) := by
  unfold dmaStart
  try dsimp only
  with_reducible repeat' first | exact hs1 | apply flow_wrB | apply flow_setDma | apply flow_ite | refine flow_mk ?_ (by rfl) (by rfl) (by rfl) (by rfl) | refine flow_mkw ?_ (by rfl) (fun w => by unfold memWf at w ⊢; obtain ⟨w1, w2, w3, w4, w5, w6, w7, w8⟩ := w; refine ⟨?_, ?_, ?_, ?_, ?_, ?_, ?_, ?_⟩ <;> repeat (first | assumption | apply twf_put | apply twf_mod | apply twf_clear | apply twf_filter | apply twf_puts))

theorem flow_ctxNote {a0 : Bool} {a1 : Nat} {a2 : Option Nat} {a3 : Bool} {a4 : Nat} {a5 : Nat} {s6 : State} (hs6 : Flow t a s6) : Flow t a (ctxNote a0 a1 a2 a3 a4 a5 s6) := by
  unfold ctxNote
  try dsimp only
  with_reducible repeat' first | exact hs6 | apply flow_countFault | apply flow_faultNote | apply flow_ite | split | refine flow_mk ?_ (by rfl) (by rfl) (by rfl) (by rfl)

theorem flow_dmaCopy {a0 : Nat} {a1 : DmaSet} {a2 : Nat} {a3 : Nat} {s4 : State} (hs4 : Flow t a s4) : Flow t a (dmaCopy a0 a1 a2 a3 s4) := by
  unfold dmaCopy
  try dsimp only
  with_reducible repeat' first | exact hs4 | apply flow_ctxNote | apply flow_wrDpas | apply flow_wrIovaBytes | apply flow_wrB | apply flow_ite | split | refine flow_mk ?_ (by rfl) (by rfl) (by rfl) (by rfl)

theorem flow_dmaBlocks {a0 : Nat} {a1 : DmaSet} {a2 : Nat} {a3 : Nat} {a4 : Nat} {s5 : State} (hs5 : Flow t a s5) : Flow t a (dmaBlocks a0 a1 a2 a3 a4 s5) := by
  induction a3 generalizing a4 s5 with
  | zero => exact hs5
  | succ n ih =>
    rw [dmaBlocks]
    exact flow_ite hs5 (ih (flow_dmaCopy hs5))

theorem flow_dmaStopSet {a0 : Nat} {a1 : DmaSet} {s2 : State} (hs2 : Flow t a s2) : Flow t a (dmaStopSet a0 a1 s2) := by
  unfold dmaStopSet
  try dsimp only
  with_reducible repeat' first | exact hs2 | apply flow_draw | apply flow_dmaBlocks | apply flow_dmaCopy | apply flow_wr | apply flow_ite | split

theorem flow_dmaStopRegs {a0 : Nat} {s1 : State} (hs1 : Flow t a s1) : Flow t a (dmaStopRegs a0 s1) := by
  unfold dmaStopRegs
  try dsimp only
  with_reducible repeat' first | exact hs1 | assumption | intro _ | apply flow_dmaStopSet | apply flow_wrB | apply flow_setDma | apply flow_ite | apply flow_foldl | apply flow_foldl_snd | apply flow_foldl_fst | refine flow_mk ?_ (by rfl) (by rfl) (by rfl) (by rfl) | refine flow_mkw ?_ (by rfl) (fun w => by unfold memWf at w ⊢; obtain ⟨w1, w2, w3, w4, w5, w6, w7, w8⟩ := w; refine ⟨?_, ?_, ?_, ?_, ?_, ?_, ?_, ?_⟩ <;> repeat (first | assumption | apply twf_put | apply twf_mod | apply twf_clear | apply twf_filter | apply twf_puts))

theorem flow_dmaStopAll {a0 : Nat} {s1 : State} (hs1 : Flow t a s1) : Flow t a (dmaStopAll a0 s1) := by
  unfold dmaStopAll
  try dsimp only
  with_reducible repeat' first | exact hs1 | assumption | intro _ | apply flow_dmaStopRegs | apply flow_dmaStopSet | apply flow_setDma | apply flow_foldl | apply flow_foldl_snd | apply flow_foldl_fst

theorem flow_dmaCancel {a0 : Nat} {s1 : State} (hs1 : Flow t a s1) : Flow t a (dmaCancel a0 s1) := by
  unfold dmaCancel
  with_reducible repeat' first | exact hs1 | assumption | intro _ | apply flow_cancelContract | apply flow_foldl | apply flow_foldl_snd | apply flow_foldl_fst

theorem flow_writeDmaCtrl {a0 : Nat} {a1 : Word} {s2 : State} (hs2 : Flow t a s2) : Flow t a (writeDmaCtrl a0 a1 s2) := by
  unfold writeDmaCtrl
  try dsimp only
  with_reducible repeat' first | exact hs2 | apply flow_wr | apply flow_dmaCancel | apply flow_dmaStopAll | apply flow_dmaStopRegs | apply flow_dmaStart | apply flow_ite

theorem flow_setCv {a0 : Nat} {a1 : CvRec → CvRec} {s2 : State} (hs2 : Flow t a s2) : Flow t a (setCv a0 a1 s2) := by
  unfold setCv
  try dsimp only
  with_reducible repeat' first | exact hs2 | refine flow_mk ?_ (by rfl) (by rfl) (by rfl) (by rfl)

theorem flow_putCvValue {a0 : Nat} {a1 : CvValue} {s2 : State} (hs2 : Flow t a s2) : Flow t a (putCvValue a0 a1 s2) := by
  unfold putCvValue
  try dsimp only
  with_reducible repeat' first | exact hs2 | assumption | intro _ | apply flow_wr | apply flow_foldl | apply flow_foldl_snd | apply flow_foldl_fst

theorem flow_cvGo {a0 : Nat} {a1 : Word} {s2 : State} (hs2 : Flow t a s2) : Flow t a (cvGo a0 a1 s2) := by
  unfold cvGo
  try dsimp only
  with_reducible repeat' first | exact hs2 | apply flow_wrF | apply flow_putCvValue | apply flow_setCv | apply flow_wr | apply flow_ite | refine flow_mk ?_ (by rfl) (by rfl) (by rfl) (by rfl)

theorem flow_writeCvCtrl {a0 : Nat} {a1 : Word} {s2 : State} (hs2 : Flow t a s2) : Flow t a (writeCvCtrl a0 a1 s2) := by
  unfold writeCvCtrl
  try dsimp only
  with_reducible repeat' first | exact hs2 | apply flow_wr | apply flow_setCv | apply flow_cvGo | apply flow_ite | refine flow_mk ?_ (by rfl) (by rfl) (by rfl) (by rfl)

theorem flow_dmaWithdraw {a0 : Nat} {a1 : Nat} {a2 : Nat} {s3 : State} (hs3 : Flow t a s3) : Flow t a (dmaWithdraw a0 a1 a2 s3) := by
  unfold dmaWithdraw
  try dsimp only
  with_reducible repeat' first | exact hs3 | assumption | intro _ | apply flow_dmaStopSet | apply flow_setDma | apply flow_ite | apply flow_id | apply flow_foldl | apply flow_foldl_snd | apply flow_foldl_fst | refine flow_mk ?_ (by rfl) (by rfl) (by rfl) (by rfl) | refine flow_mkw ?_ (by rfl) (fun w => by unfold memWf at w ⊢; obtain ⟨w1, w2, w3, w4, w5, w6, w7, w8⟩ := w; refine ⟨?_, ?_, ?_, ?_, ?_, ?_, ?_, ?_⟩ <;> repeat (first | assumption | apply twf_put | apply twf_mod | apply twf_clear | apply twf_filter | apply twf_puts))

theorem flow_cvWithdraw {a0 : Nat} {a1 : Nat} {a2 : Nat} {s3 : State} (hs3 : Flow t a s3) : Flow t a (cvWithdraw a0 a1 a2 s3) := by
  unfold cvWithdraw
  try dsimp only
  with_reducible repeat' first | exact hs3 | apply flow_setCv | apply flow_id | refine flow_mk ?_ (by rfl) (by rfl) (by rfl) (by rfl)

theorem flow_cvDiscard {a0 : Nat} {s1 : State} (hs1 : Flow t a s1) : Flow t a (cvDiscard a0 s1) := by
  unfold cvDiscard
  try dsimp only
  with_reducible repeat' first | exact hs1 | apply flow_wrB | apply flow_setCv | refine flow_mk ?_ (by rfl) (by rfl) (by rfl) (by rfl)

theorem flow_showRate {a0 : Nat} {s1 : State} (hs1 : Flow t a s1) : Flow t a (showRate a0 s1) := by
  unfold showRate
  try dsimp only
  with_reducible repeat' first | exact hs1 | apply flow_wr

theorem flow_raiseSource {a0 : Nat} {a1 : Nat} {s2 : State} (hs2 : Flow t a s2) : Flow t a (raiseSource a0 a1 s2) := by
  unfold raiseSource
  try dsimp only
  with_reducible repeat' first | exact hs2 | apply flow_sendMsix | apply flow_ite | split | refine flow_mk ?_ (by rfl) (by rfl) (by rfl) (by rfl)

theorem flow_cvNote {a0 : Nat} {a1 : Option Nat} {a2 : Nat} {a3 : Nat} {s4 : State} (hs4 : Flow t a s4) : Flow t a (cvNote a0 a1 a2 a3 s4) := by
  unfold cvNote
  try dsimp only
  with_reducible repeat' first | exact hs4 | apply flow_ctxNote | apply flow_wrB | apply flow_ite

theorem flow_cvRegDone {a0 : Nat} {a1 : Nat × Nat × Nat × Bool × Option Nat} {s2 : State} (hs2 : Flow t a s2) : Flow t a (cvRegDone a0 a1 s2) := by
  unfold cvRegDone
  try dsimp only
  with_reducible repeat' first | exact hs2 | apply flow_cvNote | apply flow_putCvValue | apply flow_raiseSource | apply flow_setCv | apply flow_wr | apply flow_ite | split | refine flow_mk ?_ (by rfl) (by rfl) (by rfl) (by rfl)

theorem flow_cvJobDone {a0 : Nat} {a1 : CvJob} {s2 : State} (hs2 : Flow t a s2) : Flow t a (cvJobDone a0 a1 s2) := by
  unfold cvJobDone
  try dsimp only
  with_reducible repeat' first | exact hs2 | apply flow_cvNote | apply flow_setCv | apply flow_breach | apply flow_finish | apply flow_ite | split | refine flow_mk ?_ (by rfl) (by rfl) (by rfl) (by rfl)

theorem flow_execCvJobDone {a0 : Tick} {a1 : BitVec 2} {s2 : State} (hs2 : Flow t a s2) : OutFlow t a (execCvJobDone a0 a1 s2) := by
  unfold execCvJobDone
  try dsimp only
  with_reducible repeat' first | exact hs2 | apply flow_advance | apply flow_cvJobDone | apply flow_cvRegDone | apply flow_ite | apply flow_next | apply flow_out_ite | split | refine flow_mk ?_ (by rfl) (by rfl) (by rfl) (by rfl)

theorem flow_cvPauseAt {a0 : Nat} {a1 : Nat × Nat × Nat × Bool × Option Nat} {a2 : Nat} {s3 : State} (hs3 : Flow t a s3) : Flow t a (cvPauseAt a0 a1 a2 s3) := by
  unfold cvPauseAt
  try dsimp only
  with_reducible repeat' first | exact hs3 | apply flow_cvRegDone | apply flow_setCv | apply flow_putCvValue | apply flow_cvNote | apply flow_wr | apply flow_ite | split | refine flow_mk ?_ (by rfl) (by rfl) (by rfl) (by rfl)

theorem flow_execCvPaused {a0 : Tick} {a1 : BitVec 2} {a2 : BitVec 31} {s3 : State} (hs3 : Flow t a s3) : OutFlow t a (execCvPaused a0 a1 a2 s3) := by
  unfold execCvPaused
  try dsimp only
  with_reducible repeat' first | exact hs3 | apply flow_advance | apply flow_cvPauseAt | apply flow_ite | apply flow_next | apply flow_out_ite | split | refine flow_mk ?_ (by rfl) (by rfl) (by rfl) (by rfl)

theorem flow_beginSet {a0 : Nat} {a1 : DmaSet} {s2 : State} (hs2 : Flow t a s2) : Flow t a (beginSet a0 a1 s2) := by
  unfold beginSet
  try dsimp only
  with_reducible repeat' first | exact hs2 | apply flow_showRate | apply flow_setContract | apply flow_setDma | apply flow_ite | split | refine flow_mk ?_ (by rfl) (by rfl) (by rfl) (by rfl)

theorem flow_dmaDeliver {a0 : DmaSet} {a1 : Bool} {s2 : State} (hs2 : Flow t a s2) : Flow t a (dmaDeliver a0 a1 s2) := by
  unfold dmaDeliver
  try dsimp only
  with_reducible repeat' first | exact hs2 | apply flow_breach | apply flow_finish | apply flow_ite | split | refine flow_mk ?_ (by rfl) (by rfl) (by rfl) (by rfl)

theorem flow_dmaRun {a0 : Nat} {a1 : DmaSet} {s2 : State} (hs2 : Flow t a s2) : Flow t a (dmaRun a0 a1 s2) := by
  unfold dmaRun
  with_reducible repeat' first | exact hs2 | apply flow_dmaBlocks | apply flow_dmaCopy | apply flow_ite

theorem flow_execDmaSetDone {a0 : Tick} {a1 : BitVec 7} {s2 : State} (hs2 : Flow t a s2) : OutFlow t a (execDmaSetDone a0 a1 s2) := by
  unfold execDmaSetDone
  try dsimp only
  with_reducible repeat' first | exact hs2 | apply flow_advance | apply flow_wr | apply flow_dmaRun | apply flow_setDma | apply flow_wrF | apply flow_raiseSource | apply flow_wrB | apply flow_dmaDeliver | apply flow_beginSet | apply flow_ite | apply flow_next | apply flow_out_ite | split | refine flow_mk ?_ (by rfl) (by rfl) (by rfl) (by rfl) | refine flow_mkw ?_ (by rfl) (fun w => by unfold memWf at w ⊢; obtain ⟨w1, w2, w3, w4, w5, w6, w7, w8⟩ := w; refine ⟨?_, ?_, ?_, ?_, ?_, ?_, ?_, ?_⟩ <;> repeat (first | assumption | apply twf_put | apply twf_mod | apply twf_clear | apply twf_filter | apply twf_puts))

theorem flow_execDmaSetLoad {a0 : Tick} {a1 : BitVec 7} {s2 : State} (hs2 : Flow t a s2) : OutFlow t a (execDmaSetLoad a0 a1 s2) := by
  unfold execDmaSetLoad
  try dsimp only
  with_reducible repeat' first | exact hs2 | apply flow_advance | apply flow_beginSet | apply flow_setDma | apply flow_ite | apply flow_next | apply flow_out_ite | split | refine flow_mk ?_ (by rfl) (by rfl) (by rfl) (by rfl) | refine flow_mkw ?_ (by rfl) (fun w => by unfold memWf at w ⊢; obtain ⟨w1, w2, w3, w4, w5, w6, w7, w8⟩ := w; refine ⟨?_, ?_, ?_, ?_, ?_, ?_, ?_, ?_⟩ <;> repeat (first | assumption | apply twf_put | apply twf_mod | apply twf_clear | apply twf_filter | apply twf_puts))

theorem flow_doCheckResult {a0 : Ctx} {s1 : State} (hs1 : Flow t a s1) : AnsFlow t a (doCheckResult a0 s1) := by
  unfold doCheckResult
  try dsimp only
  with_reducible repeat' first | exact hs1 | apply ans_reply | apply ans_later | apply ans_outside | apply ans_ite | split | refine flow_mk ?_ (by rfl) (by rfl) (by rfl) (by rfl)

theorem flow_execCheckResult {a0 : Tick} {a1 : Request} {s2 : State} (hs2 : Flow t a s2) : OutFlow t a (execCheckResult a0 a1 s2) := by
  unfold execCheckResult
  with_reducible repeat' first | exact hs2 | assumption | intro _ | apply flow_gcp | apply flow_doCheckResult | apply flow_next

theorem flow_doCheckSubmit {a0 : Ctx} {s1 : State} (hs1 : Flow t a s1) : AnsFlow t a (doCheckSubmit a0 s1) := by
  unfold doCheckSubmit
  try dsimp only
  with_reducible repeat' first | exact hs1 | apply flow_notGrantedTarget | apply flow_admitReply | apply flow_setCv | apply flow_ite | apply ans_reply | apply ans_later | apply ans_outside | apply ans_ite | apply flow_id | split | refine flow_mk ?_ (by rfl) (by rfl) (by rfl) (by rfl)

theorem flow_execCheckSubmit {a0 : Tick} {a1 : Request} {s2 : State} (hs2 : Flow t a s2) : OutFlow t a (execCheckSubmit a0 a1 s2) := by
  unfold execCheckSubmit
  with_reducible repeat' first | exact hs2 | assumption | intro _ | apply flow_gcp | apply flow_doCheckSubmit | apply flow_next

theorem flow_doDmaSubmit {a0 : Ctx} {s1 : State} (hs1 : Flow t a s1) : AnsFlow t a (doDmaSubmit a0 s1) := by
  unfold doDmaSubmit
  try dsimp only
  with_reducible repeat' first | exact hs1 | apply flow_notGrantedTarget | apply flow_admitReply | apply flow_setDma | apply flow_ite | apply ans_reply | apply ans_later | apply ans_outside | apply ans_ite | split | refine flow_mk ?_ (by rfl) (by rfl) (by rfl) (by rfl)

theorem flow_execDmaSubmit {a0 : Tick} {a1 : Request} {s2 : State} (hs2 : Flow t a s2) : OutFlow t a (execDmaSubmit a0 a1 s2) := by
  unfold execDmaSubmit
  with_reducible repeat' first | exact hs2 | assumption | intro _ | apply flow_gcp | apply flow_doDmaSubmit | apply flow_next

/-! ### Lifecycle.lean -/

theorem flow_trimAll {s0 : State} (hs0 : Flow t a s0) : Flow t a (trimAll s0) := by
  unfold trimAll
  with_reducible repeat' first | exact hs0 | assumption | intro _ | apply flow_trimQueue | apply flow_foldl | apply flow_foldl_snd | apply flow_foldl_fst

theorem flow_stopWork {a0 : Contract} {s1 : State} (hs1 : Flow t a s1) : Flow t a (stopWork a0 s1) := by
  unfold stopWork
  try dsimp only
  with_reducible repeat' first | exact hs1 | apply flow_stopJobs | apply flow_withdrawCommit | apply flow_withdrawCream | apply flow_withdrawBuffer | apply flow_withdrawEffect | apply flow_dmaWithdraw | apply flow_cvWithdraw | apply flow_ite | split | refine flow_mk ?_ (by rfl) (by rfl) (by rfl) (by rfl)

theorem flow_cancelWorkTo {a0 : Nat × Bool} {a1 : Contract} {a2 : Tick} {s3 : State} (hs3 : Flow t a s3) : Flow t a (cancelWorkTo a0 a1 a2 s3) := by
  unfold cancelWorkTo
  with_reducible repeat' first | exact hs3 | apply flow_trimAll | apply flow_cancelChain | apply flow_stopWork

theorem flow_cancelWork {a0 : Contract} {a1 : Tick} {s2 : State} (hs2 : Flow t a s2) : Flow t a (cancelWork a0 a1 s2) := by
  unfold cancelWork
  with_reducible repeat' first | exact hs2 | apply flow_cancelWorkTo

theorem flow_cancelWhere {a0 : Contract → Bool} {s1 : State} (hs1 : Flow t a s1) : Flow t a (cancelWhere a0 s1) := by
  unfold cancelWhere
  try dsimp only
  with_reducible repeat' first | exact hs1 | assumption | intro _ | apply flow_cancelWork | apply flow_foldl | apply flow_foldl_snd | apply flow_foldl_fst | split | refine flow_mk ?_ (by rfl) (by rfl) (by rfl) (by rfl)

theorem flow_execIdleOrLifetimeExpiry {a0 : Tick} {a1 : Word} {s2 : State} (hs2 : Flow t a s2) : OutFlow t a (execIdleOrLifetimeExpiry a0 a1 s2) := by
  unfold execIdleOrLifetimeExpiry
  try dsimp only
  with_reducible repeat' first | exact hs2 | apply flow_advance | apply flow_expireSession | apply flow_ite | apply flow_next | apply flow_out_ite | split | refine flow_mk ?_ (by rfl) (by rfl) (by rfl) (by rfl)

theorem flow_execProbationEnd {a0 : Tick} {a1 : Fn} {s2 : State} (hs2 : Flow t a s2) : OutFlow t a (execProbationEnd a0 a1 s2) := by
  unfold execProbationEnd
  try dsimp only
  with_reducible repeat' first | exact hs2 | apply flow_advance | apply flow_ite | apply flow_next | apply flow_out_ite | refine flow_mk ?_ (by rfl) (by rfl) (by rfl) (by rfl)

theorem flow_execContractDeadline {a0 : Tick} {a1 : Fn} {a2 : Word} {s3 : State} (hs3 : Flow t a s3) : OutFlow t a (execContractDeadline a0 a1 a2 s3) := by
  unfold execContractDeadline
  try dsimp only
  with_reducible repeat' first | exact hs3 | apply flow_advance | apply flow_stopWork | apply flow_breach | apply flow_ite | apply flow_next | apply flow_out_ite | split | refine flow_mk ?_ (by rfl) (by rfl) (by rfl) (by rfl)

theorem flow_beginWork {a0 : Contract} {s1 : State} (hs1 : Flow t a s1) : Flow t a (beginWork a0 s1) := by
  unfold beginWork
  try dsimp only
  with_reducible repeat' first | exact hs1 | apply flow_setContract | apply flow_startJob | apply flow_ite | split | refine flow_mk ?_ (by rfl) (by rfl) (by rfl) (by rfl)

theorem flow_execInstanceRelease {a0 : Tick} {a1 : Fn} {a2 : Word} {s3 : State} (hs3 : Flow t a s3) : OutFlow t a (execInstanceRelease a0 a1 a2 s3) := by
  unfold execInstanceRelease
  try dsimp only
  with_reducible repeat' first | exact hs3 | apply flow_advance | apply flow_beginWork | apply flow_ite | apply flow_next | apply flow_out_ite | split | refine flow_mk ?_ (by rfl) (by rfl) (by rfl) (by rfl)

theorem flow_doLedgerRead {a0 : Ctx} {s1 : State} (hs1 : Flow t a s1) : AnsFlow t a (doLedgerRead a0 s1) := by
  unfold doLedgerRead
  try dsimp only
  with_reducible repeat' first | exact hs1 | apply flow_ite | apply ans_reply | apply ans_later | apply ans_outside | apply ans_ite

theorem flow_execLedgerRead {a0 : Tick} {a1 : Request} {s2 : State} (hs2 : Flow t a s2) : OutFlow t a (execLedgerRead a0 a1 s2) := by
  unfold execLedgerRead
  with_reducible repeat' first | exact hs2 | assumption | intro _ | apply flow_gcp | apply flow_doLedgerRead | apply flow_next

theorem flow_doReserveSet {a0 : Ctx} {s1 : State} (hs1 : Flow t a s1) : AnsFlow t a (doReserveSet a0 s1) := by
  unfold doReserveSet
  try dsimp only
  with_reducible repeat' first | exact hs1 | apply flow_ite | apply ans_reply | apply ans_later | apply ans_outside | apply ans_ite | refine flow_mk ?_ (by rfl) (by rfl) (by rfl) (by rfl)

theorem flow_execReserveSet {a0 : Tick} {a1 : Request} {s2 : State} (hs2 : Flow t a s2) : OutFlow t a (execReserveSet a0 a1 s2) := by
  unfold execReserveSet
  with_reducible repeat' first | exact hs2 | assumption | intro _ | apply flow_gcp | apply flow_doReserveSet | apply flow_next

theorem flow_doContractQuery {a0 : Ctx} {s1 : State} (hs1 : Flow t a s1) : AnsFlow t a (doContractQuery a0 s1) := by
  unfold doContractQuery
  try dsimp only
  with_reducible repeat' first | exact hs1 | apply flow_ite | apply ans_reply | apply ans_later | apply ans_outside | apply ans_ite | split | refine flow_mk ?_ (by rfl) (by rfl) (by rfl) (by rfl)

theorem flow_execContractQuery {a0 : Tick} {a1 : Request} {s2 : State} (hs2 : Flow t a s2) : OutFlow t a (execContractQuery a0 a1 s2) := by
  unfold execContractQuery
  with_reducible repeat' first | exact hs2 | assumption | intro _ | apply flow_gcp | apply flow_doContractQuery | apply flow_next

theorem flow_doContractCancel {a0 : Ctx} {s1 : State} (hs1 : Flow t a s1) : AnsFlow t a (doContractCancel a0 s1) := by
  unfold doContractCancel
  try dsimp only
  with_reducible repeat' first | exact hs1 | apply flow_cancelWork | apply flow_ite | apply ans_reply | apply ans_later | apply ans_outside | apply ans_ite | split | refine flow_mk ?_ (by rfl) (by rfl) (by rfl) (by rfl)

theorem flow_execContractCancel {a0 : Tick} {a1 : Request} {s2 : State} (hs2 : Flow t a s2) : OutFlow t a (execContractCancel a0 a1 s2) := by
  unfold execContractCancel
  with_reducible repeat' first | exact hs2 | assumption | intro _ | apply flow_gcp | apply flow_doContractCancel | apply flow_next

theorem flow_doSessionClose {a0 : Ctx} {s1 : State} (hs1 : Flow t a s1) : AnsFlow t a (doSessionClose a0 s1) := by
  unfold doSessionClose
  try dsimp only
  with_reducible repeat' first | exact hs1 | apply flow_freeSession | apply ans_reply | apply ans_later | apply ans_outside | apply ans_ite | split | refine flow_mk ?_ (by rfl) (by rfl) (by rfl) (by rfl)

theorem flow_execSessionClose {a0 : Tick} {a1 : Request} {s2 : State} (hs2 : Flow t a s2) : OutFlow t a (execSessionClose a0 a1 s2) := by
  unfold execSessionClose
  with_reducible repeat' first | exact hs2 | assumption | intro _ | apply flow_gcp | apply flow_doSessionClose | apply flow_next

end Sys2Proof.Laws
end

