-- ==== Sys2Proof/Laws/FlowF.lean ====
section
/-!
SUPPORT. Laws/FlowF.lean: every operation of Ownership.lean, FnReset.lean, Functions.lean, ConfigCrc.lean, Dump.lean, Reset.lean, Boot.lean flows.
-/

set_option linter.all false

namespace Sys2Proof.Laws

open Sys2Proof Sys2Proof.Machine

variable {t : Bool} {a : State}

/-! ### Ownership.lean -/

theorem flow_ownSelect {a0 : Word} {s1 : State} (hs1 : Flow t a s1) : Flow t a (ownSelect a0 s1) := by
  unfold ownSelect
  with_reducible repeat' first | exact hs1 | apply flow_wr | apply flow_ite

theorem flow_discardShadows {a0 : Nat} {s1 : State} (hs1 : Flow t a s1) : Flow t a (discardShadows a0 s1) := by
  unfold discardShadows
  with_reducible repeat' first | exact hs1 | assumption | intro _ | apply flow_revertShadow | apply flow_foldl | apply flow_foldl_snd | apply flow_foldl_fst

theorem flow_stopObject {a0 : Nat} {s1 : State} (hs1 : Flow t a s1) : Flow t a (stopObject a0 s1) := by
  unfold stopObject
  try dsimp only
  with_reducible repeat' first | exact hs1 | apply flow_leaseClaim | apply flow_wrSh | apply flow_wrB | apply flow_setLayer | apply flow_dmaStopAll | apply flow_setCv | apply flow_cvDiscard | apply flow_touchClaim | apply flow_streamClose | apply flow_endDrive | apply flow_vinStop | apply flow_wr | apply flow_ite | split | refine flow_mk ?_ (by rfl) (by rfl) (by rfl) (by rfl)

theorem flow_showChange {a0 : Bool} {a1 : Bool} {s2 : State} (hs2 : Flow t a s2) : Flow t a (showChange a0 a1 s2) := by
  unfold showChange
  with_reducible repeat' first | exact hs2 | apply flow_wrB

theorem flow_claimObject {a0 : Nat} {s1 : State} (hs1 : Flow t a s1) : Flow t a (claimObject a0 s1) := by
  unfold claimObject
  try dsimp only
  with_reducible repeat' first | exact hs1 | apply flow_discardShadows | apply flow_cancelWhere | apply flow_stopObject | apply flow_setOwn | apply flow_isoLog | apply flow_showChange | split | refine flow_mk ?_ (by rfl) (by rfl) (by rfl) (by rfl)

theorem flow_resetObject {a0 : Nat} {s1 : State} (hs1 : Flow t a s1) : Flow t a (resetObject a0 s1) := by
  unfold resetObject
  try dsimp only
  with_reducible repeat' first | exact hs1 | assumption | intro _ | apply flow_resetTabs | apply flow_resetRegs | apply flow_setLayer | apply flow_showRate | apply flow_setAud | apply flow_setHap | apply flow_setVin | apply flow_ite | apply flow_foldl | apply flow_foldl_snd | apply flow_foldl_fst | split | refine flow_mk ?_ (by rfl) (by rfl) (by rfl) (by rfl)

theorem flow_releaseObject {a0 : Nat} {a1 : OwnRec} {s2 : State} (hs2 : Flow t a s2) : Flow t a (releaseObject a0 a1 s2) := by
  unfold releaseObject
  try dsimp only
  with_reducible repeat' first | exact hs2 | apply flow_wrB | apply flow_resetObject | apply flow_showChange | apply flow_ite | refine flow_mk ?_ (by rfl) (by rfl) (by rfl) (by rfl)

theorem flow_ownWrite {a0 : Word} {s1 : State} (hs1 : Flow t a s1) : Flow t a (ownWrite a0 s1) := by
  unfold ownWrite
  try dsimp only
  with_reducible repeat' first | exact hs1 | apply flow_wrB | apply flow_claimObject | apply flow_releaseObject | apply flow_setOwn | apply flow_ite

theorem flow_execIsoOwnReleaseDone {a0 : Tick} {s1 : State} (hs1 : Flow t a s1) : OutFlow t a (execIsoOwnReleaseDone a0 s1) := by
  unfold execIsoOwnReleaseDone
  try dsimp only
  with_reducible repeat' first | exact hs1 | apply flow_advance | apply flow_showChange | apply flow_setOwn | apply flow_ite | apply flow_next | apply flow_out_ite | split | refine flow_mk ?_ (by rfl) (by rfl) (by rfl) (by rfl)

theorem flow_execIsoOwnClaimDone {a0 : Tick} {s1 : State} (hs1 : Flow t a s1) : OutFlow t a (execIsoOwnClaimDone a0 s1) := by
  unfold execIsoOwnClaimDone
  try dsimp only
  with_reducible repeat' first | exact hs1 | apply flow_advance | apply flow_showChange | apply flow_ite | apply flow_next | apply flow_out_ite | split | refine flow_mk ?_ (by rfl) (by rfl) (by rfl) (by rfl)

/-! ### FnReset.lean -/

theorem flow_vfDisabled {s0 : State} {a1 : Nat} {s2 : State} (hs2 : Flow t a s2) : Flow t a (vfDisabled s0 a1 s2) := by
  unfold vfDisabled
  with_reducible repeat' first | exact hs2 | apply flow_post | apply flow_ite

theorem flow_answerWaiters {a0 : Nat} {a1 : List Byte} {s2 : State} (hs2 : Flow t a s2) : Flow t a (answerWaiters a0 a1 s2) := by
  unfold answerWaiters
  try dsimp only
  with_reducible repeat' first | exact hs2 | assumption | intro _ | apply flow_finishLong | apply flow_setFn | apply flow_foldl | apply flow_foldl_snd | apply flow_foldl_fst | refine flow_mk ?_ (by rfl) (by rfl) (by rfl) (by rfl)

theorem flow_execFunctionResetEnd {a0 : Tick} {a1 : Fn} {s2 : State} (hs2 : Flow t a s2) : OutFlow t a (execFunctionResetEnd a0 a1 s2) := by
  unfold execFunctionResetEnd
  try dsimp only
  with_reducible repeat' first | exact hs2 | apply flow_advance | apply flow_answerWaiters | apply flow_setFn | apply flow_ite | apply flow_next | apply flow_out_ite | refine flow_mk ?_ (by rfl) (by rfl) (by rfl) (by rfl)

theorem flow_execPcieCompletionTimeout {a0 : Tick} {a1 : Option (Fn × Bool)} {a2 : BitVec 8} {s3 : State} (hs3 : Flow t a s3) : OutFlow t a (execPcieCompletionTimeout a0 a1 a2 s3) := by
  unfold execPcieCompletionTimeout
  try dsimp only
  with_reducible repeat' first | exact hs3 | apply flow_advance | apply flow_setLnk | apply flow_setRing | apply flow_ite | apply flow_next | apply flow_out_ite | exact flow_fault | split | refine flow_mk ?_ (by rfl) (by rfl) (by rfl) (by rfl)

theorem flow_beginReset {a0 : Nat} {s1 : State} (hs1 : Flow t a s1) : Flow t a (beginReset a0 s1) := by
  unfold beginReset
  try dsimp only
  with_reducible repeat' first | exact hs1 | apply flow_answerWaiters | apply flow_setFn | apply flow_ite | refine flow_mk ?_ (by rfl) (by rfl) (by rfl) (by rfl)

theorem flow_clearCounters {a0 : Nat} {s1 : State} (hs1 : Flow t a s1) : Flow t a (clearCounters a0 s1) := by
  unfold clearCounters
  try dsimp only
  with_reducible repeat' first | exact hs1 | refine flow_mk ?_ (by rfl) (by rfl) (by rfl) (by rfl) | refine flow_mkw ?_ (by rfl) (fun w => by unfold memWf at w ⊢; obtain ⟨w1, w2, w3, w4, w5, w6, w7, w8⟩ := w; refine ⟨?_, ?_, ?_, ?_, ?_, ?_, ?_, ?_⟩ <;> repeat (first | assumption | apply twf_put | apply twf_mod | apply twf_clear | apply twf_filter | apply twf_puts))

theorem flow_emptyChurn {a0 : Nat} {s1 : State} (hs1 : Flow t a s1) : Flow t a (emptyChurn a0 s1) := by
  unfold emptyChurn
  try dsimp only
  with_reducible repeat' first | exact hs1 | apply flow_ite | refine flow_mk ?_ (by rfl) (by rfl) (by rfl) (by rfl)

theorem flow_dropShadows {a0 : Nat} {s1 : State} (hs1 : Flow t a s1) : Flow t a (dropShadows a0 s1) := by
  unfold dropShadows
  with_reducible repeat' first | exact hs1 | assumption | intro _ | apply flow_discardShadows | apply flow_ite | apply flow_foldl | apply flow_foldl_snd | apply flow_foldl_fst

theorem flow_disableLayers {a0 : Nat} {s1 : State} (hs1 : Flow t a s1) : Flow t a (disableLayers a0 s1) := by
  unfold disableLayers
  try dsimp only
  with_reducible repeat' first | exact hs1 | assumption | intro _ | apply flow_wrSh | apply flow_setLayer | apply flow_wrB | apply flow_ite | apply flow_foldl | apply flow_foldl_snd | apply flow_foldl_fst | refine flow_mk ?_ (by rfl) (by rfl) (by rfl) (by rfl)

theorem flow_forgetPort {a0 : Port} {s1 : State} (hs1 : Flow t a s1) : Flow t a (forgetPort a0 s1) := by
  unfold forgetPort
  try dsimp only
  with_reducible repeat' first | exact hs1 | assumption | intro _ | apply flow_setFn | apply flow_setPwr | apply flow_setTs | apply flow_setHap | apply flow_ite | apply flow_foldl | apply flow_foldl_snd | apply flow_foldl_fst | refine flow_mk ?_ (by rfl) (by rfl) (by rfl) (by rfl)

theorem flow_resetPorts {a0 : Nat} {s1 : State} (hs1 : Flow t a s1) : Flow t a (resetPorts a0 s1) := by
  unfold resetPorts
  try dsimp only
  with_reducible repeat' first | exact hs1 | assumption | intro _ | apply flow_freeSession | apply flow_forgetPort | apply flow_ite | apply flow_foldl | apply flow_foldl_snd | apply flow_foldl_fst | refine flow_mk ?_ (by rfl) (by rfl) (by rfl) (by rfl)

theorem flow_cancelFn {a0 : Nat} {a1 : Option (Contract → Nat × Bool)} {s2 : State} (hs2 : Flow t a s2) : Flow t a (cancelFn a0 a1 s2) := by
  unfold cancelFn
  try dsimp only
  with_reducible repeat' first | exact hs2 | assumption | intro _ | apply flow_trimAll | apply flow_stopWork | apply flow_cancelTo | apply flow_dropContract | apply flow_forgetItem | apply flow_foldl | apply flow_foldl_snd | apply flow_foldl_fst | split | refine flow_mk ?_ (by rfl) (by rfl) (by rfl) (by rfl)

theorem flow_resetFn {a0 : Nat} {a1 : State → State} {a2 : Option (Contract → Nat × Bool)} {s3 : State} (hs3 : Flow t a s3) (hfa1 : ∀ s : State, Flow t a s → Flow t a (a1 s)) : Flow t a (resetFn a0 a1 a2 s3) := by
  unfold resetFn
  try dsimp only
  with_reducible repeat' first | exact hs3 | assumption | intro _ | apply hfa1 | apply flow_cancelFn | apply flow_resetPorts | apply flow_disableLayers | apply flow_dropShadows | apply flow_resetMaps | apply flow_streamClose | apply flow_setDma | apply flow_cvDiscard | apply flow_leaveAllGates | apply flow_touchForget | apply flow_hapForget | apply flow_emptyChurn | apply flow_clearCounters | apply flow_ite | apply flow_foldl | apply flow_foldl_snd | apply flow_foldl_fst | refine flow_mk ?_ (by rfl) (by rfl) (by rfl) (by rfl) | refine flow_mkw ?_ (by rfl) (fun w => by unfold memWf at w ⊢; obtain ⟨w1, w2, w3, w4, w5, w6, w7, w8⟩ := w; refine ⟨?_, ?_, ?_, ?_, ?_, ?_, ?_, ?_⟩ <;> repeat (first | assumption | apply twf_put | apply twf_mod | apply twf_clear | apply twf_filter | apply twf_puts))

theorem flow_resetVfs {a0 : Nat} {s1 : State} (hs1 : Flow t a s1) : Flow t a (resetVfs a0 s1) := by
  unfold resetVfs
  try dsimp only
  with_reducible repeat' first | exact hs1 | assumption | intro _ | apply flow_resetFn | apply flow_beginReset | apply flow_ite | apply flow_id | apply flow_foldl | apply flow_foldl_snd | apply flow_foldl_fst | refine flow_mk ?_ (by rfl) (by rfl) (by rfl) (by rfl)

theorem flow_execPortReset {a0 : Tick} {a1 : BitVec 2} {s2 : State} (hs2 : Flow t a s2) : OutFlow t a (execPortReset a0 a1 s2) := by
  unfold execPortReset
  try dsimp only
  with_reducible repeat' first | exact hs2 | assumption | intro _ | apply flow_advance | apply flow_wrF | apply flow_wr | apply flow_resetFn | apply flow_beginReset | apply flow_resetVfs | apply flow_ite | apply flow_next | apply flow_out_ite | apply flow_id | refine flow_mk ?_ (by rfl) (by rfl) (by rfl) (by rfl)

theorem flow_execVfEnableClear {a0 : Tick} {a1 : BitVec 2} {s2 : State} (hs2 : Flow t a s2) : OutFlow t a (execVfEnableClear a0 a1 s2) := by
  unfold execVfEnableClear
  try dsimp only
  with_reducible repeat' first | exact hs2 | apply flow_advance | apply flow_resetVfs | apply flow_vfDisabled | apply flow_ite | apply flow_next | apply flow_out_ite

theorem flow_flr {a0 : Nat} {s1 : State} (hs1 : Flow t a s1) : Flow t a (flr a0 s1) := by
  unfold flr
  try dsimp only
  with_reducible repeat' first | exact hs1 | assumption | intro _ | apply flow_post | apply flow_resetVfs | apply flow_resetFn | apply flow_vfDisabled | apply flow_beginReset | apply flow_ite

theorem flow_execFlr {a0 : Tick} {a1 : Fn} {s2 : State} (hs2 : Flow t a s2) : OutFlow t a (execFlr a0 a1 s2) := by
  unfold execFlr
  try dsimp only
  with_reducible repeat' first | exact hs2 | apply flow_advance | apply flow_flr | apply flow_ite | apply flow_next | apply flow_out_ite

theorem flow_execFnQuietReached {a0 : Tick} {a1 : Fn} {s2 : State} (hs2 : Flow t a s2) : OutFlow t a (execFnQuietReached a0 a1 s2) := by
  unfold execFnQuietReached
  try dsimp only
  with_reducible repeat' first | exact hs2 | apply flow_advance | apply flow_answerWaiters | apply flow_setFn | apply flow_ite | apply flow_next | apply flow_out_ite | refine flow_mk ?_ (by rfl) (by rfl) (by rfl) (by rfl)

theorem flow_cancelRest {a0 : Contract} {a1 : Tick} {s2 : State} (hs2 : Flow t a s2) : Flow t a (cancelRest a0 a1 s2) := by
  unfold cancelRest
  try dsimp only
  with_reducible repeat' first | exact hs2 | apply flow_post | apply flow_setContract | apply flow_ite | refine flow_mk ?_ (by rfl) (by rfl) (by rfl) (by rfl)

theorem flow_quiesceContract {a0 : Tick} {s1 : State} {a2 : Contract} (hs1 : Flow t a s1) : Flow t a (quiesceContract a0 s1 a2) := by
  unfold quiesceContract
  try dsimp only
  with_reducible repeat' first | exact hs1 | apply flow_cancelRest | apply flow_cancelWork | apply flow_ite | split | refine flow_mk ?_ (by rfl) (by rfl) (by rfl) (by rfl)

theorem flow_quiesceRegs {a0 : Nat} {s1 : State} (hs1 : Flow t a s1) : Flow t a (quiesceRegs a0 s1) := by
  unfold quiesceRegs
  try dsimp only
  with_reducible repeat' first | exact hs1 | assumption | intro _ | apply flow_dmaStopRegs | apply flow_setCv | apply flow_foldl | apply flow_foldl_snd | apply flow_foldl_fst | refine flow_mk ?_ (by rfl) (by rfl) (by rfl) (by rfl)

theorem flow_quiesce {a0 : Nat} {s1 : State} (hs1 : Flow t a s1) : Flow t a (quiesce a0 s1) := by
  unfold quiesce
  try dsimp only
  with_reducible repeat' first | exact hs1 | assumption | intro _ | apply flow_setFn | apply flow_quiesceRegs | apply flow_quiesceContract | apply flow_foldl | apply flow_foldl_snd | apply flow_foldl_fst | refine flow_mk ?_ (by rfl) (by rfl) (by rfl) (by rfl)

/-! ### Functions.lean -/

theorem flow_writeImage {a0 : Nat} {a1 : List Byte} {a2 : Bool} {s3 : State} (hs3 : Flow t a s3) : Flow t a (writeImage a0 a1 a2 s3) := by
  unfold writeImage
  try dsimp only
  with_reducible repeat' first | exact hs3 | assumption | intro _ | apply flow_wrSh | apply flow_plainWrite | apply flow_ite | apply flow_foldl | apply flow_foldl_snd | apply flow_foldl_fst

theorem flow_writeExts {a0 : List (Nat × Nat)} {a1 : List Byte} {s2 : State} (hs2 : Flow t a s2) : Flow t a (writeExts a0 a1 s2) := by
  revert hs2
  fun_induction writeExts a0 a1 s2 <;> intro hs2 <;> (try dsimp only) <;> with_reducible repeat' first | exact hs2 | assumption | intro _ | apply_assumption | apply flow_wrDpas

theorem flow_freshFn {a0 : Nat} {s1 : State} (hs1 : Flow t a s1) : Flow t a (freshFn a0 s1) := by
  unfold freshFn
  try dsimp only
  with_reducible repeat' first | exact hs1 | apply flow_resetPorts | refine flow_mk ?_ (by rfl) (by rfl) (by rfl) (by rfl) | refine flow_mkw ?_ (by rfl) (fun w => by unfold memWf at w ⊢; obtain ⟨w1, w2, w3, w4, w5, w6, w7, w8⟩ := w; refine ⟨?_, ?_, ?_, ?_, ?_, ?_, ?_, ?_⟩ <;> repeat (first | assumption | apply twf_put | apply twf_mod | apply twf_clear | apply twf_filter | apply twf_puts))

theorem flow_moveObject {a0 : Nat} {s1 : State} {a2 : Nat} (hs1 : Flow t a s1) : Flow t a (moveObject a0 s1 a2) := by
  unfold moveObject
  with_reducible repeat' first | exact hs1 | apply flow_setOwn | apply flow_resetObject

theorem flow_buildFn {a0 : Nat} {a1 : Nat} {a2 : FnState} {a3 : Requester} {a4 : FnAsk} {s5 : State} (hs5 : Flow t a s5) : Flow t a (buildFn a0 a1 a2 a3 a4 s5) := by
  unfold buildFn
  try dsimp only
  with_reducible repeat' first | exact hs5 | assumption | intro _ | apply flow_moveObject | apply flow_freshFn | apply flow_zeroFill | apply flow_setFn | apply flow_ite | apply flow_foldl | apply flow_foldl_snd | apply flow_foldl_fst | refine flow_mk ?_ (by rfl) (by rfl) (by rfl) (by rfl)

theorem flow_remakeMaps {a0 : Nat} {a1 : List (Nat × Nat × Nat)} {a2 : List Byte} {s3 : State} (hs3 : Flow t a s3) : OptFlow t a (remakeMaps a0 a1 a2 s3) := by
  revert hs3
  fun_induction remakeMaps a0 a1 a2 s3 <;> intro hs3 <;> (try dsimp only) <;> with_reducible repeat' first | exact hs3 | assumption | intro _ | apply_assumption | apply flow_writeExts | apply opt_some | exact opt_none | apply opt_ite | split | refine flow_mk ?_ (by rfl) (by rfl) (by rfl) (by rfl)

theorem flow_restorePorts {a0 : Nat} {a1 : List Byte} {a2 : List Byte} {s3 : State} (hs3 : Flow t a s3) : Flow t a (restorePorts a0 a1 a2 s3) := by
  unfold restorePorts
  try dsimp only
  with_reducible repeat' first | exact hs3 | assumption | intro _ | apply flow_setRing | apply flow_setEq | apply flow_ite | apply flow_foldl | apply flow_foldl_snd | apply flow_foldl_fst | refine flow_mk ?_ (by rfl) (by rfl) (by rfl) (by rfl)

theorem flow_restoreParts {a0 : Nat} {a1 : List (Nat × List Byte)} {s2 : State} (hs2 : Flow t a s2) : OptFlow t a (restoreParts a0 a1 s2) := by
  unfold restoreParts
  try dsimp only
  with_reducible repeat' first | exact hs2 | assumption | intro _ | apply flow_restorePorts | apply flow_writeImage | apply flow_writeExts | apply flow_remakeMaps | refine flow_of_some (by assumption) (flow_remakeMaps ?_) | apply opt_some | exact opt_none | apply opt_ite | apply flow_foldl | apply flow_foldl_snd | apply flow_foldl_fst

theorem flow_doFnRestore {a0 : Ctx} {s1 : State} (hs1 : Flow t a s1) : AnsFlow t a (doFnRestore a0 s1) := by
  unfold doFnRestore
  try dsimp only
  with_reducible repeat' first | exact hs1 | apply flow_noteFault | apply flow_restoreParts | refine flow_of_some (by assumption) (flow_restoreParts ?_) | apply flow_buildFn | apply flow_ite | apply ans_reply | apply ans_later | apply ans_outside | apply ans_ite | split | refine flow_mk ?_ (by rfl) (by rfl) (by rfl) (by rfl)

theorem flow_execFnRestore {a0 : Tick} {a1 : Request} {s2 : State} (hs2 : Flow t a s2) : OutFlow t a (execFnRestore a0 a1 s2) := by
  unfold execFnRestore
  with_reducible repeat' first | exact hs2 | assumption | intro _ | apply flow_gcp | apply flow_doFnRestore | apply flow_next

theorem flow_makeImage {a0 : Nat} {s1 : State} (hs1 : Flow t a s1) : Flow t a (makeImage a0 s1).2 := by
  unfold makeImage
  try dsimp only
  with_reducible repeat' first | exact hs1 | apply flow_drawBytes | apply flow_id | split

theorem flow_execFnSaveDone {a0 : Tick} {a1 : Fn} {s2 : State} (hs2 : Flow t a s2) : OutFlow t a (execFnSaveDone a0 a1 s2) := by
  unfold execFnSaveDone
  try dsimp only
  with_reducible repeat' first | exact hs2 | apply flow_advance | apply flow_answerWaiters | apply flow_setFn | apply flow_makeImage | apply flow_wrIovas | apply flow_ite | apply flow_next | apply flow_out_ite | split | refine flow_mk ?_ (by rfl) (by rfl) (by rfl) (by rfl)

theorem flow_doFnSave {a0 : Ctx} {s1 : State} (hs1 : Flow t a s1) : AnsFlow t a (doFnSave a0 s1) := by
  unfold doFnSave
  try dsimp only
  with_reducible repeat' first | exact hs1 | apply flow_setFn | apply flow_ite | apply ans_reply | apply ans_later | apply ans_outside | apply ans_ite | split | refine flow_mk ?_ (by rfl) (by rfl) (by rfl) (by rfl)

theorem flow_execFnSave {a0 : Tick} {a1 : Request} {s2 : State} (hs2 : Flow t a s2) : OutFlow t a (execFnSave a0 a1 s2) := by
  unfold execFnSave
  with_reducible repeat' first | exact hs2 | assumption | intro _ | apply flow_gcp | apply flow_doFnSave | apply flow_next

theorem flow_resetNow {a0 : Nat} {s1 : State} (hs1 : Flow t a s1) : Flow t a (resetNow a0 s1) := by
  unfold resetNow
  try dsimp only
  with_reducible repeat' first | exact hs1 | assumption | intro _ | apply flow_setFn | apply flow_resetFn | apply flow_beginReset | apply flow_id | refine flow_mk ?_ (by rfl) (by rfl) (by rfl) (by rfl)

theorem flow_removeFn {a0 : Nat} {a1 : Nat} {s2 : State} (hs2 : Flow t a s2) : Flow t a (removeFn a0 a1 s2) := by
  unfold removeFn
  try dsimp only
  with_reducible repeat' first | exact hs2 | assumption | intro _ | apply flow_deadLeases | apply flow_resetNow | apply flow_moveObject | apply flow_setFn | apply flow_ite | apply flow_foldl | apply flow_foldl_snd | apply flow_foldl_fst | refine flow_mk ?_ (by rfl) (by rfl) (by rfl) (by rfl)

theorem flow_doFnRemove {a0 : Ctx} {s1 : State} (hs1 : Flow t a s1) : AnsFlow t a (doFnRemove a0 s1) := by
  unfold doFnRemove
  try dsimp only
  with_reducible repeat' first | exact hs1 | apply flow_removeFn | apply flow_ite | apply ans_reply | apply ans_later | apply ans_outside | apply ans_ite | split | refine flow_mk ?_ (by rfl) (by rfl) (by rfl) (by rfl)

theorem flow_execFnRemove {a0 : Tick} {a1 : Request} {s2 : State} (hs2 : Flow t a s2) : OutFlow t a (execFnRemove a0 a1 s2) := by
  unfold execFnRemove
  with_reducible repeat' first | exact hs2 | assumption | intro _ | apply flow_gcp | apply flow_doFnRemove | apply flow_next

theorem flow_doFnReset {a0 : Ctx} {s1 : State} (hs1 : Flow t a s1) : AnsFlow t a (doFnReset a0 s1) := by
  unfold doFnReset
  try dsimp only
  with_reducible repeat' first | exact hs1 | apply flow_resetNow | apply flow_ite | apply ans_reply | apply ans_later | apply ans_outside | apply ans_ite | split | refine flow_mk ?_ (by rfl) (by rfl) (by rfl) (by rfl)

theorem flow_execFnReset {a0 : Tick} {a1 : Request} {s2 : State} (hs2 : Flow t a s2) : OutFlow t a (execFnReset a0 a1 s2) := by
  unfold execFnReset
  with_reducible repeat' first | exact hs2 | assumption | intro _ | apply flow_gcp | apply flow_doFnReset | apply flow_next

theorem flow_doFnResume {a0 : Ctx} {s1 : State} (hs1 : Flow t a s1) : AnsFlow t a (doFnResume a0 s1) := by
  unfold doFnResume
  try dsimp only
  with_reducible repeat' first | exact hs1 | apply flow_setFn | apply ans_reply | apply ans_later | apply ans_outside | apply ans_ite | split | refine flow_mk ?_ (by rfl) (by rfl) (by rfl) (by rfl)

theorem flow_execFnResume {a0 : Tick} {a1 : Request} {s2 : State} (hs2 : Flow t a s2) : OutFlow t a (execFnResume a0 a1 s2) := by
  unfold execFnResume
  with_reducible repeat' first | exact hs2 | assumption | intro _ | apply flow_gcp | apply flow_doFnResume | apply flow_next

theorem flow_doFnQuiesce {a0 : Ctx} {s1 : State} (hs1 : Flow t a s1) : AnsFlow t a (doFnQuiesce a0 s1) := by
  unfold doFnQuiesce
  try dsimp only
  with_reducible repeat' first | exact hs1 | apply flow_setFn | apply flow_quiesce | apply ans_reply | apply ans_later | apply ans_outside | apply ans_ite | split | refine flow_mk ?_ (by rfl) (by rfl) (by rfl) (by rfl)

theorem flow_execFnQuiesce {a0 : Tick} {a1 : Request} {s2 : State} (hs2 : Flow t a s2) : OutFlow t a (execFnQuiesce a0 a1 s2) := by
  unfold execFnQuiesce
  with_reducible repeat' first | exact hs2 | assumption | intro _ | apply flow_gcp | apply flow_doFnQuiesce | apply flow_next

theorem flow_doFnCreate {a0 : Ctx} {s1 : State} (hs1 : Flow t a s1) : AnsFlow t a (doFnCreate a0 s1) := by
  unfold doFnCreate
  try dsimp only
  with_reducible repeat' first | exact hs1 | apply flow_buildFn | apply flow_ite | apply ans_reply | apply ans_later | apply ans_outside | apply ans_ite | split | refine flow_mk ?_ (by rfl) (by rfl) (by rfl) (by rfl)

theorem flow_execFnCreate {a0 : Tick} {a1 : Request} {s2 : State} (hs2 : Flow t a s2) : OutFlow t a (execFnCreate a0 a1 s2) := by
  unfold execFnCreate
  with_reducible repeat' first | exact hs2 | assumption | intro _ | apply flow_gcp | apply flow_doFnCreate | apply flow_next

/-! ### ConfigCrc.lean -/

theorem flow_forceEq {a0 : Nat} {a1 : Bool} {a2 : Nat} {a3 : Word} {s4 : State} (hs4 : Flow t a s4) : Flow t a (forceEq a0 a1 a2 a3 s4) := by
  unfold forceEq
  try dsimp only
  with_reducible repeat' first | exact hs4 | apply flow_setEq | apply flow_ite | refine flow_mk ?_ (by rfl) (by rfl) (by rfl) (by rfl)

theorem flow_forceRing {a0 : Nat} {a1 : Bool} {a2 : Nat} {a3 : Word} {s4 : State} (hs4 : Flow t a s4) : Flow t a (forceRing a0 a1 a2 a3 s4) := by
  unfold forceRing
  try dsimp only
  with_reducible repeat' first | exact hs4 | apply flow_setRing | apply flow_ite | refine flow_mk ?_ (by rfl) (by rfl) (by rfl) (by rfl)

theorem flow_forceWord {a0 : CovWord} {a1 : Word} {s2 : State} (hs2 : Flow t a s2) : Flow t a (forceWord a0 a1 s2) := by
  unfold forceWord
  with_reducible repeat' first | exact hs2 | apply flow_forceRing | apply flow_forceEq | apply flow_setOwn | apply flow_setTab | apply flow_wr | apply flow_ite

theorem flow_upsetWord {a0 : Nat} {a1 : Nat} {a2 : Word} {s3 : State} (hs3 : Flow t a s3) : Flow t a (upsetWord a0 a1 a2 s3) := by
  unfold upsetWord
  try dsimp only
  with_reducible repeat' first | exact hs3 | apply flow_forceWord | split | refine flow_mk ?_ (by rfl) (by rfl) (by rfl) (by rfl)

theorem flow_resyncAll {s0 : State} (hs0 : Flow t a s0) : Flow t a (resyncAll s0) := by
  unfold resyncAll
  try dsimp only
  with_reducible repeat' first | exact hs0 | apply flow_ite | refine flow_mk ?_ (by rfl) (by rfl) (by rfl) (by rfl)

theorem flow_passEnd {s0 : State} (hs0 : Flow t a s0) : Flow t a (passEnd s0).1 := by
  unfold passEnd
  try dsimp only
  with_reducible repeat' first | exact hs0 | apply flow_resyncAll | apply flow_wr | apply flow_raiseHolm | apply flow_wrB | apply flow_wrF | apply flow_post | apply flow_ite | split | refine flow_mk ?_ (by rfl) (by rfl) (by rfl) (by rfl)

/-! ### Dump.lean -/

theorem flow_setBoot {f : BootState → BootState} {s : State} (h : Flow t a s) (ho : OtpKept s.boot.otp (f s.boot).otp) (hf : twf 0xFF s.boot.flash = true → twf 0xFF (f s.boot).flash = true) : Flow t a (setBoot f s) := by
  refine ⟨h.queue, h.time, otp_trans h.otp ho, fun w => ?_⟩
  have k := h.wf w
  exact ⟨k.1, k.2.1, k.2.2.1, k.2.2.2.1, k.2.2.2.2.1, k.2.2.2.2.2.1, k.2.2.2.2.2.2.1, hf k.2.2.2.2.2.2.2⟩

theorem flow_setDump {a0 : DumpState → DumpState} {s1 : State} (hs1 : Flow t a s1) : Flow t a (setDump a0 s1) := by
  unfold setDump
  try dsimp only
  with_reducible repeat' first | exact hs1 | refine flow_setBoot ?_ ?_ ?_ | exact otp_refl _ | exact id | exact twf_clear | exact twf_put | refine flow_mk ?_ (by rfl) (by rfl) (by rfl) (by rfl)

theorem flow_dumpTrigger {a0 : Nat} {a1 : Nat} {s2 : State} (hs2 : Flow t a s2) : Flow t a (dumpTrigger a0 a1 s2) := by
  unfold dumpTrigger
  try dsimp only
  with_reducible repeat' first | exact hs2 | apply flow_setDump | apply flow_ite | split | refine flow_mk ?_ (by rfl) (by rfl) (by rfl) (by rfl)

theorem flow_dumpClear {s0 : State} (hs0 : Flow t a s0) : Flow t a (dumpClear s0) := by
  unfold dumpClear
  try dsimp only
  with_reducible repeat' first | exact hs0 | apply flow_setDump | refine flow_mk ?_ (by rfl) (by rfl) (by rfl) (by rfl)

theorem flow_writeDumpCtrl {a0 : Word} {s1 : State} (hs1 : Flow t a s1) : Flow t a (writeDumpCtrl a0 s1) := by
  unfold writeDumpCtrl
  try dsimp only
  with_reducible repeat' first | exact hs1 | apply flow_wrF | apply flow_dumpClear | apply flow_dumpTrigger | apply flow_ite

theorem flow_measure {a0 : Nat} {a1 : Nat} {a2 : List Byte} {a3 : List Byte} {s4 : State} (hs4 : Flow t a s4) : Flow t a (Machine.measure a0 a1 a2 a3 s4) := by
  unfold Machine.measure
  try dsimp only
  with_reducible repeat' first | exact hs4 | refine flow_setBoot ?_ ?_ ?_ | exact otp_refl _ | exact id | exact twf_clear | exact twf_put | refine flow_mk ?_ (by rfl) (by rfl) (by rfl) (by rfl)

theorem flow_dumpWrite {a0 : Nat} {a1 : Tick} {s2 : State} (hs2 : Flow t a s2) : Flow t a (dumpWrite a0 a1 s2) := by
  unfold dumpWrite
  try dsimp only
  with_reducible repeat' first | exact hs2 | apply flow_wrVat | apply flow_wrF | apply flow_setDump | refine flow_mk ?_ (by rfl) (by rfl) (by rfl) (by rfl)

theorem flow_doDumpRead {a0 : Ctx} {s1 : State} (hs1 : Flow t a s1) : AnsFlow t a (doDumpRead a0 s1) := by
  unfold doDumpRead
  try dsimp only
  with_reducible repeat' first | exact hs1 | apply flow_wrIovas | apply flow_setDump | apply flow_ite | apply ans_reply | apply ans_later | apply ans_outside | apply ans_ite | refine flow_mk ?_ (by rfl) (by rfl) (by rfl) (by rfl)

theorem flow_execDumpRead {a0 : Tick} {a1 : Request} {s2 : State} (hs2 : Flow t a s2) : OutFlow t a (execDumpRead a0 a1 s2) := by
  unfold execDumpRead
  with_reducible repeat' first | exact hs2 | assumption | intro _ | apply flow_gcp | apply flow_doDumpRead | apply flow_next

theorem flow_doMeasureRead {a0 : Ctx} {s1 : State} (hs1 : Flow t a s1) : AnsFlow t a (doMeasureRead a0 s1) := by
  unfold doMeasureRead
  try dsimp only
  with_reducible repeat' first | exact hs1 | apply flow_ite | apply ans_reply | apply ans_later | apply ans_outside | apply ans_ite

theorem flow_execMeasureRead {a0 : Tick} {a1 : Request} {s2 : State} (hs2 : Flow t a s2) : OutFlow t a (execMeasureRead a0 a1 s2) := by
  unfold execMeasureRead
  with_reducible repeat' first | exact hs2 | assumption | intro _ | apply flow_gcp | apply flow_doMeasureRead | apply flow_next

/-! ### Reset.lean -/

theorem flow_writeWdCtrl {a0 : Word} {s1 : State} (hs1 : Flow t a s1) : Flow t a (writeWdCtrl a0 s1) := by
  unfold writeWdCtrl
  try dsimp only
  with_reducible repeat' first | exact hs1 | apply flow_plainWrite | apply flow_wr | apply flow_setPwr | apply flow_ite | refine flow_mk ?_ (by rfl) (by rfl) (by rfl) (by rfl)

theorem flow_otpResets {a0 : Bool} {s1 : State} (hs1 : Flow t a s1) : Flow t a (otpResets a0 s1) := by
  unfold otpResets
  try dsimp only
  with_reducible repeat' first | exact hs1 | apply flow_wrF | apply flow_ite

theorem flow_deviceBase {s0 : State} (hs0 : Flow t a s0) : Flow t a (deviceBase s0) := by
  refine ⟨hs0.queue, hs0.time, hs0.otp, fun w => ?_⟩
  obtain ⟨_, _, _, _, _, w6, w7, w8⟩ := hs0.wf w
  exact ⟨rfl, rfl, rfl, rfl, rfl, twf_filter w6, w7, w8⟩

theorem flow_deviceReset {a0 : Nat} {a1 : Bool} {s2 : State} (hs2 : Flow t a s2) : Flow t a (deviceReset a0 a1 s2) := by
  unfold deviceReset
  try dsimp only
  with_reducible repeat' first | exact hs2 | assumption | intro _ | apply flow_otpResets | apply flow_deviceBase | apply flow_wr | apply flow_wrF | apply flow_setPwr | apply flow_releaseReset | apply flow_ite | apply flow_foldl | apply flow_foldl_snd | apply flow_foldl_fst | refine flow_mk ?_ (by rfl) (by rfl) (by rfl) (by rfl)

theorem flow_hardwareDump {a0 : Nat} {a1 : Nat} {s2 : State} (hs2 : Flow t a s2) : Flow t a (hardwareDump a0 a1 s2) := by
  unfold hardwareDump
  try dsimp only
  with_reducible repeat' first | exact hs2 | refine flow_setBoot ?_ ?_ ?_ | exact otp_refl _ | exact id | exact twf_clear | exact twf_put | apply flow_dumpTrigger | refine flow_mk ?_ (by rfl) (by rfl) (by rfl) (by rfl)

theorem flow_wdExpire {a0 : Bool} {s1 : State} (hs1 : Flow t a s1) : Flow t a (wdExpire a0 s1) := by
  unfold wdExpire
  try dsimp only
  with_reducible repeat' first | exact hs1 | apply flow_hardwareDump | apply flow_setPwr | refine flow_mk ?_ (by rfl) (by rfl) (by rfl) (by rfl)

theorem flow_wdService {s0 : State} (hs0 : Flow t a s0) : Flow t a (wdService s0) := by
  unfold wdService
  try dsimp only
  with_reducible repeat' first | exact hs0 | apply flow_wdExpire | apply flow_wrF | apply flow_setPwr | apply flow_ite | refine flow_mk ?_ (by rfl) (by rfl) (by rfl) (by rfl)

theorem flow_execDieSensorRead {a0 : Tick} {a1 : List (BitVec 16)} {s2 : State} (hs2 : Flow t a s2) : OutFlow t a (execDieSensorRead a0 a1 s2) := by
  unfold execDieSensorRead
  try dsimp only
  with_reducible repeat' first | exact hs2 | assumption | intro _ | apply flow_advance | apply flow_wrF | apply flow_setPwr | apply flow_releaseReset | apply flow_ite | apply flow_next | apply flow_out_ite | apply flow_foldl | apply flow_foldl_snd | apply flow_foldl_fst | split | refine flow_mk ?_ (by rfl) (by rfl) (by rfl) (by rfl)

theorem flow_execDumpComplete {a0 : Tick} {s1 : State} (hs1 : Flow t a s1) : OutFlow t a (execDumpComplete a0 s1) := by
  unfold execDumpComplete
  try dsimp only
  with_reducible repeat' first | exact hs1 | apply flow_advance | apply flow_dumpWrite | apply flow_deviceReset | apply flow_ite | apply flow_next | apply flow_out_ite | split | refine flow_mk ?_ (by rfl) (by rfl) (by rfl) (by rfl)

theorem flow_execDumpStreakClear {a0 : Tick} {s1 : State} (hs1 : Flow t a s1) : OutFlow t a (execDumpStreakClear a0 s1) := by
  unfold execDumpStreakClear
  try dsimp only
  with_reducible repeat' first | exact hs1 | apply flow_advance | apply flow_wrF | apply flow_ite | apply flow_next | apply flow_out_ite | split | refine flow_mk ?_ (by rfl) (by rfl) (by rfl) (by rfl)

theorem flow_powerOnReset {a0 : Bool} {s1 : State} (hs1 : Flow false a s1) : Flow false a (powerOnReset a0 s1) := by
  have k : Flow false a { State.reset with
      pending := s1.pending, drawn := s1.drawn, busData := s1.busData, mem := { State.reset.mem with host := s1.mem.host },
      boot := { State.reset.boot with otp := s1.boot.otp, flash := s1.boot.flash } } := by
    refine ⟨hs1.queue, fun w => (by cases w), hs1.otp, fun w => ?_⟩
    obtain ⟨_, _, _, _, _, _, w7, w8⟩ := hs1.wf w
    exact ⟨rfl, rfl, rfl, rfl, rfl, rfl, w7, w8⟩
  unfold powerOnReset
  exact flow_ite (flow_releaseReset (flow_otpResets k)) (flow_otpResets k)

theorem flow_execSupplyDip {a0 : Tick} {a1 : BitVec 3} {a2 : Word} {s3 : State} (hs3 : Flow false a s3) : OutFlow false a (execSupplyDip a0 a1 a2 s3) := by
  unfold execSupplyDip
  with_reducible repeat' first | exact hs3 | apply flow_powerOnReset | apply flow_advance | apply flow_ite | apply flow_next | apply flow_out_ite

theorem flow_execThermalTrip {a0 : Tick} {s1 : State} (hs1 : Flow t a s1) : OutFlow t a (execThermalTrip a0 s1) := by
  unfold execThermalTrip
  with_reducible repeat' first | exact hs1 | apply flow_deviceReset | apply flow_advance | apply flow_next

theorem flow_execThermalAlarm {a0 : Tick} {s1 : State} (hs1 : Flow t a s1) : OutFlow t a (execThermalAlarm a0 s1) := by
  unfold execThermalAlarm
  try dsimp only
  with_reducible repeat' first | exact hs1 | apply flow_advance | apply flow_wrB | apply flow_setPwr | apply flow_postPower | apply flow_raiseHolm | apply flow_ite | apply flow_next | apply flow_out_ite | refine flow_mk ?_ (by rfl) (by rfl) (by rfl) (by rfl)

theorem flow_execWatchdogExpiry {a0 : Tick} {s1 : State} (hs1 : Flow t a s1) : OutFlow t a (execWatchdogExpiry a0 s1) := by
  unfold execWatchdogExpiry
  try dsimp only
  with_reducible repeat' first | exact hs1 | apply flow_advance | apply flow_wdExpire | apply flow_ite | apply flow_next | apply flow_out_ite

theorem flow_execDeviceReset {a0 : Tick} {a1 : BitVec 4} {s2 : State} (hs2 : Flow t a s2) : OutFlow t a (execDeviceReset a0 a1 s2) := by
  unfold execDeviceReset
  try dsimp only
  with_reducible repeat' first | exact hs2 | apply flow_advance | apply flow_deviceReset | apply flow_dbgAccess | apply flow_ite | apply flow_next | apply flow_out_ite

theorem flow_execPowerOnReset {a0 : Tick} {a1 : Bool} {s2 : State} (hs2 : Flow false a s2) : OutFlow false a (execPowerOnReset a0 a1 s2) := by
  unfold execPowerOnReset
  with_reducible repeat' first | exact hs2 | apply flow_powerOnReset | apply flow_next

theorem flow_eccItem {a0 : Option (Fn × Word)} {s1 : State} (hs1 : Flow t a s1) : Flow t a (eccItem a0 s1) := by
  unfold eccItem
  with_reducible repeat' first | exact hs1 | apply flow_lostItem

theorem flow_eccTile {a0 : Nat} {s1 : State} (hs1 : Flow t a s1) : Flow t a (eccTile a0 s1) := by
  unfold eccTile
  try dsimp only
  with_reducible repeat' first | exact hs1 | apply flow_tileMismatch | apply flow_ite | split

theorem flow_eccRegion {a0 : Nat} {a1 : Option (Fn × Word)} {s2 : State} (hs2 : Flow t a s2) : Flow t a (eccRegion a0 a1 s2) := by
  unfold eccRegion
  try dsimp only
  with_reducible repeat' first | exact hs2 | apply flow_eccTile | apply flow_eccItem | apply flow_stopJobs | apply flow_dumpTrigger | apply flow_ite | apply flow_id | split | refine flow_mk ?_ (by rfl) (by rfl) (by rfl) (by rfl)

theorem flow_poisonWord {a0 : Nat} {a1 : List Byte} {s2 : State} (hs2 : Flow t a s2) : Flow t a (poisonWord a0 a1 s2) := by
  unfold poisonWord
  try dsimp only
  with_reducible repeat' first | exact hs2 | apply flow_wrDpaBytes | apply flow_ite | refine flow_mk ?_ (by rfl) (by rfl) (by rfl) (by rfl)

theorem flow_execEccUncorrectable {a0 : Tick} {a1 : BitVec 40} {a2 : BitVec 64} {a3 : Option (Fn × Word)} {s4 : State} (hs4 : Flow t a s4) : OutFlow t a (execEccUncorrectable a0 a1 a2 a3 s4) := by
  unfold execEccUncorrectable
  try dsimp only
  with_reducible repeat' first | exact hs4 | apply flow_advance | apply flow_faultNote | apply flow_poisonWord | apply flow_eccItem | apply flow_wrF | apply flow_wr | apply flow_eccRegion | apply flow_ite | apply flow_next | apply flow_out_ite

theorem flow_execLockstepMismatch {a0 : Tick} {s1 : State} (hs1 : Flow t a s1) : OutFlow t a (execLockstepMismatch a0 s1) := by
  unfold execLockstepMismatch
  with_reducible repeat' first | exact hs1 | apply flow_hardwareDump | apply flow_advance | apply flow_next

/-! ### Boot.lean -/

theorem flow_writeRecord {a0 : Bool} {a1 : Nat} {a2 : Bool} {a3 : Nat} {a4 : List Byte} {s5 : State} (hs5 : Flow t a s5) : Flow t a (writeRecord a0 a1 a2 a3 a4 s5) := by
  unfold writeRecord
  try dsimp only
  with_reducible repeat' first | exact hs5 | apply flow_flashPut | apply flow_ite | split | refine flow_mk ?_ (by rfl) (by rfl) (by rfl) (by rfl)

theorem flow_applyDram {a0 : Nat × Nat × Nat} {a1 : Bool} {s2 : State} (hs2 : Flow t a s2) : Flow t a (applyDram a0 a1 s2) := by
  unfold applyDram
  try dsimp only
  with_reducible repeat' first | exact hs2 | apply flow_wr | apply flow_setGate | apply flow_islandGood | apply flow_islandStart | apply flow_ite | refine flow_mk ?_ (by rfl) (by rfl) (by rfl) (by rfl)

theorem flow_bootStep6 {a0 : BootInput} {a1 : Option (Nat × SelRec)} {a2 : Chosen} {s3 : State} (hs3 : Flow t a s3) : Flow t a (bootStep6 a0 a1 a2 s3) := by
  unfold bootStep6
  try dsimp only
  with_reducible repeat' first | exact hs3 | refine flow_setBoot ?_ ?_ ?_ | exact otp_refl _ | exact id | exact twf_clear | exact twf_put | apply flow_wrF | apply flow_wrB | apply flow_setCores | apply flow_measure | apply flow_ite | split | refine flow_mk ?_ (by rfl) (by rfl) (by rfl) (by rfl)

theorem flow_bootStep7 {a0 : BootInput} {s1 : State} (hs1 : Flow t a s1) : Flow t a (bootStep7 a0 s1) := by
  unfold bootStep7
  try dsimp only
  with_reducible repeat' first | exact hs1 | apply flow_wrVat | apply flow_recordClass | apply flow_measure

theorem flow_applyGrants {a0 : List Byte} {s1 : State} (hs1 : Flow t a s1) : Flow t a (applyGrants a0 s1) := by
  unfold applyGrants
  try dsimp only
  with_reducible repeat' first | exact hs1 | assumption | intro _ | apply flow_setOwn | apply flow_ite | apply flow_foldl | apply flow_foldl_snd | apply flow_foldl_fst

theorem flow_noteDump {s0 : State} (hs0 : Flow t a s0) : Flow t a (noteDump s0) := by
  unfold noteDump
  split
  · have k : Flow false a (faultNote 0x48 8 s0.boot.dump.index 0 { s0 with gtb := s0.boot.dump.stamp }) :=
      flow_faultNote ⟨hs0.queue, fun w => (by cases w), hs0.otp, fun w => hs0.wf w⟩
    exact ⟨k.queue, hs0.time, k.otp, fun w => k.wf w⟩
  · exact hs0

theorem flow_applyKeys {a0 : List Byte} {s1 : State} (hs1 : Flow t a s1) : Flow t a (applyKeys a0 s1) := by
  unfold applyKeys
  try dsimp only
  with_reducible repeat' first | exact hs1 | refine flow_setBoot ?_ ?_ ?_ | exact otp_refl _ | exact id | exact twf_clear | exact twf_put | refine flow_mk ?_ (by rfl) (by rfl) (by rfl) (by rfl)

theorem flow_applyMigration {a0 : List Byte} {s1 : State} (hs1 : Flow t a s1) : Flow t a (applyMigration a0 s1) := by
  unfold applyMigration
  try dsimp only
  with_reducible repeat' first | exact hs1 | refine flow_setBoot ?_ ?_ ?_ | exact otp_refl _ | exact id | exact twf_clear | exact twf_put | apply flow_ite | refine flow_mk ?_ (by rfl) (by rfl) (by rfl) (by rfl)

theorem flow_applyRates {a0 : List Byte} {s1 : State} (hs1 : Flow t a s1) : Flow t a (applyRates a0 s1) := by
  unfold applyRates
  try dsimp only
  with_reducible repeat' first | exact hs1 | assumption | intro _ | apply flow_showRate | apply flow_wrF | apply flow_ite | apply flow_foldl | apply flow_foldl_snd | apply flow_foldl_fst

theorem flow_applyTdm {a0 : List Byte} {s1 : State} (hs1 : Flow t a s1) : Flow t a (applyTdm a0 s1) := by
  unfold applyTdm
  try dsimp only
  with_reducible repeat' first | exact hs1 | assumption | intro _ | apply flow_setGate | apply flow_writeTdm | apply flow_ite | apply flow_foldl | apply flow_foldl_snd | apply flow_foldl_fst | refine flow_mk ?_ (by rfl) (by rfl) (by rfl) (by rfl)

theorem flow_applyCarveouts {a0 : List Byte} {s1 : State} (hs1 : Flow t a s1) : Flow t a (applyCarveouts a0 s1) := by
  unfold applyCarveouts
  try dsimp only
  with_reducible repeat' first | exact hs1 | assumption | intro _ | apply flow_wrF | apply flow_wrB | apply flow_ite | apply flow_foldl | apply flow_foldl_snd | apply flow_foldl_fst | refine flow_mk ?_ (by rfl) (by rfl) (by rfl) (by rfl)

theorem flow_applyShares {a0 : List Byte} {s1 : State} (hs1 : Flow t a s1) : Flow t a (applyShares a0 s1) := by
  unfold applyShares
  dsimp only
  refine flow_ite hs1 (flow_foldl_snd (flow_mk hs1 rfl rfl rfl rfl) ?_)
  intro p b h
  split
  · exact h
  · exact flow_setFn h

theorem flow_bootWake {s0 : State} {a1 : Nat} (hs0 : Flow t a s0) : Flow t a (bootWake s0 a1) := by
  unfold bootWake
  try dsimp only
  with_reducible repeat' first | exact hs0 | apply flow_postPower | apply flow_setGate | apply flow_islandGood | apply flow_islandStart | refine flow_mk ?_ (by rfl) (by rfl) (by rfl) (by rfl)

theorem flow_bootStep8 {a0 : List (Nat × List Byte)} {s1 : State} (hs1 : Flow t a s1) : Flow t a (bootStep8 a0 s1) := by
  unfold bootStep8
  try dsimp only
  with_reducible repeat' first | exact hs1 | assumption | intro _ | apply flow_setCores | refine flow_setBoot ?_ ?_ ?_ | exact otp_refl _ | exact id | exact twf_clear | exact twf_put | apply flow_bootWake | apply flow_setPwr | apply flow_applyShares | apply flow_applyCarveouts | apply flow_applyTdm | apply flow_applyRates | apply flow_applyMigration | apply flow_applyKeys | apply flow_noteDump | apply flow_loadProfiles | apply flow_applyGrants | apply flow_measure | apply flow_wrB | apply flow_foldl | apply flow_foldl_snd | apply flow_foldl_fst | refine flow_mk ?_ (by rfl) (by rfl) (by rfl) (by rfl)

theorem flow_chooseRecords {a0 : Bool} {a1 : Option Chosen} {s2 : State} (hs2 : Flow t a s2) : Flow t a (chooseRecords a0 a1 s2) := by
  unfold chooseRecords
  try dsimp only
  with_reducible repeat' first | exact hs2 | apply flow_writeRecord | apply flow_ite | split | refine flow_mk ?_ (by rfl) (by rfl) (by rfl) (by rfl)

theorem flow_bootStop {a0 : Nat} {s1 : State} (hs1 : Flow t a s1) : Flow t a (bootStop a0 s1) := by
  unfold bootStop
  try dsimp only
  with_reducible repeat' first | exact hs1 | refine flow_setBoot ?_ ?_ ?_ | exact otp_refl _ | exact id | exact twf_clear | exact twf_put | apply flow_islandStop | apply flow_setGate | refine flow_mk ?_ (by rfl) (by rfl) (by rfl) (by rfl)

theorem flow_bootStep5 {s0 : State} (hs0 : Flow t a s0) : Flow t a (bootStep5 s0) := by
  unfold bootStep5
  try dsimp only
  with_reducible repeat' first | exact hs0 | apply flow_zeroFill | apply flow_measure | apply flow_ite

theorem flow_bootFirmware {a0 : BootInput} {a1 : List (Nat × List Byte)} {s2 : State} (hs2 : Flow t a s2) : Flow t a (bootFirmware a0 a1 s2) := by
  unfold bootFirmware
  try dsimp only
  with_reducible repeat' first | exact hs2 | apply flow_bootStep5 | apply flow_bootStop | apply flow_chooseRecords | apply flow_bootStep8 | apply flow_bootStep7 | apply flow_bootStep6 | apply flow_ite | split | refine flow_mk ?_ (by rfl) (by rfl) (by rfl) (by rfl)

theorem flow_setOtp {f : Otp → Otp} {s : State} (h : Flow t a s) (ho : OtpKept s.boot.otp (f s.boot.otp)) : Flow t a (setOtp f s) := by
  exact flow_setBoot h ho id

theorem flow_blowRevoked {a0 : Nat} {s1 : State} (hs1 : Flow t a s1) : Flow t a (blowRevoked a0 s1) := by
  refine flow_setOtp hs1 ⟨rfl, rfl, rfl, rfl, rfl, rfl, rfl, Nat.le_refl _, fun i w => ?_⟩
  simp only [List.getElem?_map, List.getElem?_zipIdx] at w ⊢
  cases h : s1.boot.otp.keys[i]? with
  | none => rw [h] at w; cases w
  | some k =>
    rw [h] at w
    simp only [Option.map_some, Option.some.injEq] at w ⊢
    split
    · rfl
    · exact w

theorem flow_bootStep3 {a0 : List Byte} {a1 : List (Nat × List Byte)} {s2 : State} (hs2 : Flow t a s2) : Flow t a (bootStep3 a0 a1 s2) := by
  unfold bootStep3
  try dsimp only
  with_reducible repeat' first | exact hs2 | refine flow_setBoot ?_ ?_ ?_ | exact otp_refl _ | exact id | exact twf_clear | exact twf_put | apply flow_blowRevoked | apply flow_measure | refine flow_mk ?_ (by rfl) (by rfl) (by rfl) (by rfl)

theorem flow_applyPorts {a0 : Nat} {s1 : State} (hs1 : Flow t a s1) : Flow t a (applyPorts a0 s1) := by
  unfold applyPorts
  try dsimp only
  with_reducible repeat' first | exact hs1 | assumption | intro _ | apply flow_wr | apply flow_setFn | apply flow_ite | apply flow_foldl | apply flow_foldl_snd | apply flow_foldl_fst | refine flow_mk ?_ (by rfl) (by rfl) (by rfl) (by rfl)

theorem flow_bootStep1 {a0 : BootInput} {s1 : State} (hs1 : Flow t a s1) : Flow t a (bootStep1 a0 s1) := by
  unfold bootStep1
  try dsimp only
  with_reducible repeat' first | exact hs1 | apply flow_islandGood | apply flow_islandStart | refine flow_setBoot ?_ ?_ ?_ | exact otp_refl _ | exact id | exact twf_clear | exact twf_put | apply flow_measure | refine flow_mk ?_ (by rfl) (by rfl) (by rfl) (by rfl)

theorem flow_bootStep2 {s0 : State} (hs0 : Flow t a s0) : Flow t a (bootStep2 s0) := by
  unfold bootStep2
  try dsimp only
  with_reducible repeat' first | exact hs0 | apply flow_wr | apply flow_wrB | apply flow_measure | apply flow_ite | split | refine flow_mk ?_ (by rfl) (by rfl) (by rfl) (by rfl)

theorem flow_bootRun {a0 : BootInput} {s1 : State} (hs1 : Flow t a s1) : Flow t a (bootRun a0 s1) := by
  unfold bootRun
  try dsimp only
  with_reducible repeat' first | exact hs1 | apply flow_bootStep2 | apply flow_bootStep1 | apply flow_bootStop | apply flow_applyPorts | apply flow_bootStep3 | apply flow_bootFirmware | apply flow_applyDram | apply flow_ite | split | refine flow_mk ?_ (by rfl) (by rfl) (by rfl) (by rfl)

theorem flow_execBootSequence {a0 : Tick} {a1 : Bool} {a2 : Bool} {a3 : Word} {a4 : List Byte} {a5 : List Byte} {a6 : List Byte} {a7 : BitVec 64} {a8 : Bool} {s9 : State} (hs9 : Flow t a s9) : OutFlow t a (execBootSequence a0 a1 a2 a3 a4 a5 a6 a7 a8 s9) := by
  unfold execBootSequence
  try dsimp only
  with_reducible repeat' first | exact hs9 | apply flow_advance | apply flow_bootRun | apply flow_ite | apply flow_next | apply flow_out_ite

theorem flow_fwConfirm {a0 : Bool} {a1 : List Byte} {s2 : State} (hs2 : Flow t a s2) : AnsFlow t a (fwConfirm a0 a1 s2) := by
  unfold fwConfirm
  try dsimp only
  with_reducible repeat' first | exact hs2 | apply flow_writeRecord | apply flow_measure | refine flow_setOtp ?_ ?_ | exact ⟨rfl, rfl, rfl, rfl, rfl, rfl, rfl, Nat.le_max_left _ _, fun _ w => w⟩ | apply flow_ite | apply ans_reply | apply ans_later | apply ans_outside | apply ans_ite | split | refine flow_mk ?_ (by rfl) (by rfl) (by rfl) (by rfl)

theorem flow_doFwActivate {a0 : Bool} {a1 : Ctx} {s2 : State} (hs2 : Flow t a s2) : AnsFlow t a (doFwActivate a0 a1 s2) := by
  unfold doFwActivate
  try dsimp only
  with_reducible repeat' first | exact hs2 | refine flow_setBoot ?_ ?_ ?_ | exact otp_refl _ | exact id | exact twf_clear | exact twf_put | apply flow_measure | apply flow_fwConfirm | apply flow_writeRecord | apply flow_ite | apply ans_reply | apply ans_later | apply ans_outside | apply ans_ite | split | refine flow_mk ?_ (by rfl) (by rfl) (by rfl) (by rfl)

theorem flow_execFwActivate {a0 : Tick} {a1 : Request} {a2 : Bool} {s3 : State} (hs3 : Flow t a s3) : OutFlow t a (execFwActivate a0 a1 a2 s3) := by
  unfold execFwActivate
  with_reducible repeat' first | exact hs3 | assumption | intro _ | apply flow_gcp | apply flow_doFwActivate | apply flow_next

theorem flow_flashProgram {a0 : Nat} {a1 : List Byte} {s2 : State} (hs2 : Flow t a s2) : Flow t a (flashProgram a0 a1 s2) := by
  induction a1 generalizing a0 s2 with
  | nil => exact hs2
  | cons x xs ih =>
    rw [flashProgram]
    exact ih (flow_setBoot hs2 (otp_refl _) twf_put)

theorem flow_eraseOnce {a0 : Nat} {s1 : State} {a2 : Nat} (hs1 : Flow t a s1) : Flow t a (eraseOnce a0 s1 a2) := by
  unfold eraseOnce
  try dsimp only
  with_reducible repeat' first | exact hs1 | refine flow_setBoot ?_ ?_ ?_ | exact otp_refl _ | exact id | exact twf_clear | exact twf_put | apply flow_ite | refine flow_mk ?_ (by rfl) (by rfl) (by rfl) (by rfl) | refine flow_mkw ?_ (by rfl) (fun w => by unfold memWf at w ⊢; obtain ⟨w1, w2, w3, w4, w5, w6, w7, w8⟩ := w; refine ⟨?_, ?_, ?_, ?_, ?_, ?_, ?_, ?_⟩ <;> repeat (first | assumption | apply twf_put | apply twf_mod | apply twf_clear | apply twf_filter | apply twf_puts))

theorem flow_doFwWrite {a0 : Bool} {a1 : Ctx} {s2 : State} (hs2 : Flow t a s2) : AnsFlow t a (doFwWrite a0 a1 s2) := by
  unfold doFwWrite
  try dsimp only
  with_reducible repeat' first | exact hs2 | assumption | intro _ | apply flow_eraseOnce | apply flow_flashProgram | apply flow_ite | apply ans_reply | apply ans_later | apply ans_outside | apply ans_ite | apply flow_foldl | apply flow_foldl_snd | apply flow_foldl_fst | refine flow_mk ?_ (by rfl) (by rfl) (by rfl) (by rfl)

theorem flow_execFwWrite {a0 : Tick} {a1 : Request} {a2 : Bool} {s3 : State} (hs3 : Flow t a s3) : OutFlow t a (execFwWrite a0 a1 a2 s3) := by
  unfold execFwWrite
  with_reducible repeat' first | exact hs3 | assumption | intro _ | apply flow_gcp | apply flow_doFwWrite | apply flow_next

end Sys2Proof.Laws
end

