-- ==== Sys2Proof/Laws/FlowG.lean ====
section
/-!
SUPPORT. Laws/FlowG.lean: every operation of BusRead.lean, BusWrite.lean, BusTlp.lean, RegWrite.lean flows.
-/

set_option linter.all false

namespace Sys2Proof.Laws

open Sys2Proof Sys2Proof.Machine

variable {t : Bool} {a : State}

/-! ### BusRead.lean -/

theorem flow_bumpIndex {a0 : PortSel} {s1 : State} (hs1 : Flow t a s1) : Flow t a (bumpIndex a0 s1) := by
  unfold bumpIndex
  try dsimp only
  with_reducible repeat' first | exact hs1 | apply flow_wrF | apply flow_ite

theorem flow_movedNow {a0 : Nat} {s1 : State} (hs1 : Flow t a s1) : Flow t a (movedNow a0 s1).2 := by
  unfold movedNow
  try dsimp only
  with_reducible repeat' first | exact hs1 | split | refine flow_mk ?_ (by rfl) (by rfl) (by rfl) (by rfl)

theorem flow_freeWords {a0 : Nat} {s1 : State} (hs1 : Flow t a s1) : Flow t a (freeWords a0 s1).2 := by
  unfold freeWords
  try dsimp only
  with_reducible repeat' first | exact hs1 | refine flow_mk ?_ (by rfl) (by rfl) (by rfl) (by rfl)

theorem flow_snapValues {a0 : Requester} {a1 : Nat} {s2 : State} (hs2 : Flow t a s2) : Flow t a (snapValues a0 a1 s2).2 := by
  unfold snapValues
  try dsimp only
  with_reducible repeat' first | exact hs2 | apply flow_movedNow | apply flow_freeWords | apply flow_ite | split

theorem flow_snapCapture {a0 : Requester} {a1 : Nat} {s2 : State} (hs2 : Flow t a s2) : Flow t a (snapCapture a0 a1 s2) := by
  unfold snapCapture
  try dsimp only
  with_reducible repeat' first | exact hs2 | apply flow_snapValues | apply flow_capture | apply flow_wrReq | apply flow_ite | split

theorem flow_readReg {a0 : Requester} {a1 : Nat} {s2 : State} (hs2 : Flow t a s2) : Flow t a (readReg a0 a1 s2).2 := by
  unfold readReg
  try dsimp only
  with_reducible repeat' first | exact hs2 | apply flow_bumpIndex | apply flow_ite | split | refine flow_mk ?_ (by rfl) (by rfl) (by rfl) (by rfl)

theorem flow_busRead {a0 : Requester} {a1 : Nat} {s2 : State} (hs2 : Flow t a s2) : Flow t a (busRead a0 a1 s2).2 := by
  unfold busRead
  try dsimp only
  with_reducible repeat' first | exact hs2 | apply flow_noteMiss | apply flow_readReg | apply flow_ite | split | refine flow_mk ?_ (by rfl) (by rfl) (by rfl) (by rfl)

/-! ### BusWrite.lean -/

theorem flow_writeVinCtrl {a0 : Nat} {a1 : Word} {s2 : State} (hs2 : Flow t a s2) : Flow t a (writeVinCtrl a0 a1 s2) := by
  unfold writeVinCtrl
  try dsimp only
  with_reducible repeat' first | exact hs2 | apply flow_plainWrite | apply flow_vinStart | apply flow_wrB | apply flow_vinStop | apply flow_ite

theorem flow_writeSbCtrl {a0 : Nat} {a1 : Word} {s2 : State} (hs2 : Flow t a s2) : Flow t a (writeSbCtrl a0 a1 s2) := by
  unfold writeSbCtrl
  try dsimp only
  with_reducible repeat' first | exact hs2 | apply flow_plainWrite | apply flow_sbStart | apply flow_ite

theorem flow_writePort {a0 : Nat} {a1 : PortSel} {a2 : Word} {s3 : State} (hs3 : Flow t a s3) : Flow t a (writePort a0 a1 a2 s3) := by
  unfold writePort
  try dsimp only
  with_reducible repeat' first | exact hs3 | apply flow_wrSh | apply flow_bumpIndex | apply flow_setTabSh | apply flow_setTab | apply flow_ite | split | refine flow_mk ?_ (by rfl) (by rfl) (by rfl) (by rfl)

theorem flow_writeMgt {a0 : Nat} {a1 : Nat} {a2 : Word} {s3 : State} (hs3 : Flow t a s3) : Flow t a (writeMgt a0 a1 a2 s3) := by
  unfold writeMgt
  try dsimp only
  with_reducible repeat' first | exact hs3 | apply flow_msixWrite | apply flow_setRing | apply flow_ringRegWrite | apply flow_eqRegWrite | apply flow_ite

theorem flow_writeLayer {a0 : Nat} {a1 : Word} {s2 : State} (hs2 : Flow t a s2) : Flow t a (writeLayer a0 a1 s2) := by
  unfold writeLayer
  try dsimp only
  with_reducible repeat' first | exact hs2 | apply flow_viewApply | apply flow_plainWrite | apply flow_ite

theorem flow_writeIndex {a0 : Nat} {a1 : Word} {s2 : State} (hs2 : Flow t a s2) : Flow t a (writeIndex a0 a1 s2) := by
  unfold writeIndex
  with_reducible repeat' first | exact hs2 | apply flow_plainWrite | apply flow_ite

theorem flow_writeDbg {a0 : Requester} {a1 : Word} {s2 : State} (hs2 : Flow t a s2) : Flow t a (writeDbg a0 a1 s2) := by
  unfold writeDbg
  try dsimp only
  with_reducible repeat' first | exact hs2 | apply flow_wr | apply flow_isoLog | apply flow_measure | apply flow_ite

theorem flow_writeCvValue {a0 : Nat} {a1 : Word} {s2 : State} (hs2 : Flow t a s2) : Flow t a (writeCvValue a0 a1 s2) := by
  unfold writeCvValue
  try dsimp only
  with_reducible repeat' first | exact hs2 | apply flow_wrB | apply flow_plainWrite | apply flow_ite

theorem flow_setChurn {a0 : Requester} {a1 : ChurnRec → ChurnRec} {s2 : State} (hs2 : Flow t a s2) : Flow t a (setChurn a0 a1 s2) := by
  unfold setChurn
  try dsimp only
  with_reducible repeat' first | exact hs2 | refine flow_mk ?_ (by rfl) (by rfl) (by rfl) (by rfl)

theorem flow_setOpen {a0 : Requester} {a1 : Bool} {s2 : State} (hs2 : Flow t a s2) : Flow t a (setOpen a0 a1 s2) := by
  unfold setOpen
  with_reducible repeat' first | exact hs2 | apply flow_wrReq

theorem flow_churnResult {a0 : Requester} {a1 : Bool} {a2 : Nat} {a3 : Nat} {s4 : State} (hs4 : Flow t a s4) : Flow t a (churnResult a0 a1 a2 a3 s4) := by
  unfold churnResult
  try dsimp only
  with_reducible repeat' first | exact hs4 | apply flow_wrReq | apply flow_ite

theorem flow_churnFlag {a0 : Requester} {a1 : Bits} {a2 : Bool} {s3 : State} (hs3 : Flow t a s3) : Flow t a (churnFlag a0 a1 a2 s3) := by
  unfold churnFlag
  with_reducible repeat' first | exact hs3 | apply flow_wrReq

theorem flow_writeArm {a0 : Nat} {a1 : Word} {s2 : State} (hs2 : Flow t a s2) : Flow t a (writeArm a0 a1 s2) := by
  unfold writeArm
  try dsimp only
  with_reducible repeat' first | exact hs2 | apply flow_plainWrite | apply flow_armBegin | apply flow_ite

theorem flow_lockedWrite {a0 : Nat} {a1 : Word} {s2 : State} (hs2 : Flow t a s2) : Flow t a (lockedWrite a0 a1 s2) := by
  unfold lockedWrite
  try dsimp only
  with_reducible repeat' first | exact hs2 | apply flow_plainWrite | refine flow_mk ?_ (by rfl) (by rfl) (by rfl) (by rfl)

theorem flow_applyReg {a0 : Requester} {a1 : Nat} {a2 : Word} {s3 : State} (hs3 : Flow t a s3) : Flow t a (applyReg a0 a1 a2 s3) := by
  unfold applyReg
  try dsimp only
  with_reducible repeat' first | exact hs3 | apply flow_snapCapture | apply flow_plainWriteReq | apply flow_writeMgt | apply flow_writeDbg | apply flow_ownSelect | apply flow_writeIndex | apply flow_writeArm | apply flow_writeVinCtrl | apply flow_writeSbCtrl | apply flow_writeSensorCtrl | apply flow_writeHapCtrl | apply flow_queueAud | apply flow_writeDmaCtrl | apply flow_writeDmaRate | apply flow_writeCvCtrl | apply flow_writeCvValue | apply flow_clkLostClear | apply flow_writeWdCtrl | apply flow_writeDumpCtrl | apply flow_writePort | apply flow_writeLayer | apply flow_lockedWrite | apply flow_ite | split | refine flow_mk ?_ (by rfl) (by rfl) (by rfl) (by rfl)

theorem flow_pairEffect {a0 : Nat} {a1 : Word} {s2 : State} (hs2 : Flow t a s2) : Flow t a (pairEffect a0 a1 s2) := by
  unfold pairEffect
  try dsimp only
  with_reducible repeat' first | exact hs2 | apply flow_ownWrite | apply flow_faultSet | apply flow_faultClear | apply flow_crlRecover | apply flow_deviceReset | apply flow_rstBlk | apply flow_wdService | apply flow_measure | apply flow_wr | apply flow_ite | refine flow_mk ?_ (by rfl) (by rfl) (by rfl) (by rfl)

theorem flow_batchRun {a0 : Requester} {a1 : Nat} {a2 : List (Nat × Word)} {s3 : State} (hs3 : Flow t a s3) : BatchFlow t a (batchRun a0 a1 a2 s3) := by
  match a2 with
  | [] => rw [batchRun]; exact batch_applied hs3
  | [e] =>
    rw [batchRun]
    split
    · exact batch_failed
    · exact batch_ite batch_failed (batch_ite batch_failed (batch_applied (flow_applyReg hs3)))
  | e :: f :: es =>
    rw [batchRun]
    split
    · exact batch_failed
    · exact batch_ite (batch_ite (batch_ite batch_failed (flow_batchRun (flow_pairEffect hs3))) batch_failed)
        (batch_ite batch_failed (batch_ite batch_failed (flow_batchRun (flow_applyReg hs3))))

theorem flow_churnRefuse {a0 : Requester} {a1 : Nat} {a2 : Nat} {s3 : State} (hs3 : Flow t a s3) : Flow t a (churnRefuse a0 a1 a2 s3) := by
  unfold churnRefuse
  try dsimp only
  with_reducible repeat' first | exact hs3 | apply flow_churnResult | apply flow_setOpen | apply flow_setChurn | refine flow_mk ?_ (by rfl) (by rfl) (by rfl) (by rfl)

theorem flow_churnStrobe {a0 : Requester} {s1 : State} (hs1 : Flow t a s1) : Flow t a (churnStrobe a0 s1) := by
  unfold churnStrobe
  try dsimp only
  with_reducible repeat' first | exact hs1 | apply flow_churnRefuse | apply flow_batchRun | refine flow_of_applied (by assumption) (flow_batchRun ?_) | apply flow_noteMiss | apply flow_churnFlag | apply flow_churnResult | apply flow_setOpen | apply flow_setChurn | apply flow_ite | split | refine flow_mk ?_ (by rfl) (by rfl) (by rfl) (by rfl)

theorem flow_churnEmpty {a0 : Requester} {s1 : State} (hs1 : Flow t a s1) : Flow t a (churnEmpty a0 s1) := by
  unfold churnEmpty
  try dsimp only
  with_reducible repeat' first | exact hs1 | apply flow_churnFlag | apply flow_setOpen | apply flow_setChurn | refine flow_mk ?_ (by rfl) (by rfl) (by rfl) (by rfl)

theorem flow_churnDiscard {a0 : Requester} {s1 : State} (hs1 : Flow t a s1) : Flow t a (churnDiscard a0 s1) := by
  unfold churnDiscard
  try dsimp only
  with_reducible repeat' first | exact hs1 | apply flow_setChurn | apply flow_churnEmpty | apply flow_ite | refine flow_mk ?_ (by rfl) (by rfl) (by rfl) (by rfl)

theorem flow_writeChurnCtrl {a0 : Requester} {a1 : Word} {s2 : State} (hs2 : Flow t a s2) : Flow t a (writeChurnCtrl a0 a1 s2) := by
  unfold writeChurnCtrl
  try dsimp only
  with_reducible repeat' first | exact hs2 | apply flow_setOpen | apply flow_churnDiscard | apply flow_churnStrobe | apply flow_ite

theorem flow_dropLatch {a0 : Requester} {s1 : State} (hs1 : Flow t a s1) : Flow t a (dropLatch a0 s1) := by
  unfold dropLatch
  with_reducible repeat' first | exact hs1 | apply flow_setPair | apply flow_ite

theorem flow_reachWrite {a0 : Requester} {a1 : Nat} {a2 : Word} {s3 : State} (hs3 : Flow t a s3) : Flow t a (reachWrite a0 a1 a2 s3) := by
  unfold reachWrite
  try dsimp only
  with_reducible repeat' first | exact hs3 | apply flow_setPair | apply flow_pairEffect | apply flow_pairFail | apply flow_dropLatch | apply flow_writeChurnCtrl | apply flow_wrB | apply flow_applyReg | apply flow_ite | split | refine flow_mk ?_ (by rfl) (by rfl) (by rfl) (by rfl)

theorem flow_churnPush {a0 : Requester} {a1 : Nat} {a2 : Word} {s3 : State} (hs3 : Flow t a s3) : Flow t a (churnPush a0 a1 a2 s3) := by
  unfold churnPush
  try dsimp only
  with_reducible repeat' first | exact hs3 | apply flow_setChurn | apply flow_churnFlag | apply flow_ite | refine flow_mk ?_ (by rfl) (by rfl) (by rfl) (by rfl)

theorem flow_offWrite {a0 : Requester} {a1 : Nat} {a2 : Word} {a3 : Bool} {s4 : State} (hs4 : Flow t a s4) : Flow t a (offWrite a0 a1 a2 a3 s4) := by
  unfold offWrite
  try dsimp only
  with_reducible repeat' first | exact hs4 | apply flow_churnPush | apply flow_dropLatch | apply flow_noteMiss | apply flow_reachWrite | apply flow_ite | split | refine flow_mk ?_ (by rfl) (by rfl) (by rfl) (by rfl)

theorem flow_busWrite {a0 : Requester} {a1 : Nat} {a2 : Word} {a3 : BitVec 4} {s4 : State} (hs4 : Flow t a s4) : Flow t a (busWrite a0 a1 a2 a3 s4) := by
  unfold busWrite
  try dsimp only
  with_reducible repeat' first | exact hs4 | apply flow_dropLatch | apply flow_offWrite | apply flow_ite | split | refine flow_mk ?_ (by rfl) (by rfl) (by rfl) (by rfl)

theorem flow_regWrite {a0 : Requester} {a1 : Nat} {a2 : Word} {s3 : State} (hs3 : Flow t a s3) : Flow t a (regWrite a0 a1 a2 s3) := by
  unfold regWrite
  with_reducible repeat' first | exact hs3 | apply flow_offWrite | apply flow_ite

theorem flow_pairWrite {a0 : Requester} {a1 : Nat} {a2 : Word} {s3 : State} (hs3 : Flow t a s3) : Flow t a (pairWrite a0 a1 a2 s3) := by
  unfold pairWrite
  with_reducible repeat' first | exact hs3 | apply flow_regWrite

/-! ### BusTlp.lean -/

theorem flow_passHeld {a0 : Nat} {s1 : State} (hs1 : Flow t a s1) : Flow t a (passHeld a0 s1) := by
  unfold passHeld
  try dsimp only
  with_reducible repeat' first | exact hs1 | apply flow_busWrite | apply flow_setLnk | split | refine flow_mk ?_ (by rfl) (by rfl) (by rfl) (by rfl)

theorem flow_tlpWrite {a0 : BusWrite} {s1 : State} (hs1 : Flow t a s1) : Flow t a (tlpWrite a0 s1) := by
  unfold tlpWrite
  try dsimp only
  with_reducible repeat' first | exact hs1 | apply flow_meetFaults | apply flow_passHeld | apply flow_setLnk | apply flow_busWrite | apply flow_ite | split | refine flow_mk ?_ (by rfl) (by rfl) (by rfl) (by rfl)

theorem flow_tlpRead {a0 : Requester} {a1 : Nat} {s2 : State} (hs2 : Flow t a s2) : Flow t a (tlpRead a0 a1 s2) := by
  unfold tlpRead
  try dsimp only
  with_reducible repeat' first | exact hs2 | apply flow_meetFaults | apply flow_passHeld | apply flow_busRead | apply flow_ite | split | refine flow_mk ?_ (by rfl) (by rfl) (by rfl) (by rfl)

theorem flow_execHeldTlpRelease {a0 : Tick} {a1 : BitVec 2} {a2 : Bool} {s3 : State} (hs3 : Flow t a s3) : OutFlow t a (execHeldTlpRelease a0 a1 a2 s3) := by
  unfold execHeldTlpRelease
  try dsimp only
  with_reducible repeat' first | exact hs3 | apply flow_advance | apply flow_setLnk | apply flow_busWrite | apply flow_wrHost | apply flow_ite | apply flow_next | apply flow_out_ite | split | refine flow_mk ?_ (by rfl) (by rfl) (by rfl) (by rfl)

theorem flow_fullWrite {a0 : Requester} {a1 : Nat} {a2 : Word} {s3 : State} (hs3 : Flow t a s3) : Flow t a (fullWrite a0 a1 a2 s3) := by
  unfold fullWrite
  with_reducible repeat' first | exact hs3 | apply flow_tlpWrite

theorem flow_busAccess {a0 : Requester} {a1 : Nat} {a2 : Access} {s3 : State} (hs3 : Flow t a s3) : Flow t a (busAccess a0 a1 a2 s3) := by
  unfold busAccess
  try dsimp only
  with_reducible repeat' first | exact hs3 | apply flow_tlpRead | apply flow_tlpWrite | split | refine flow_mk ?_ (by rfl) (by rfl) (by rfl) (by rfl)

theorem flow_execRegisterWrite {a0 : Tick} {a1 : Requester} {a2 : BitVec 26} {a3 : Access} {s4 : State} (hs4 : Flow t a s4) : OutFlow t a (execRegisterWrite a0 a1 a2 a3 s4) := by
  unfold execRegisterWrite
  with_reducible repeat' first | exact hs4 | apply flow_busAccess | apply flow_advance | apply flow_next

theorem flow_execSnap {a0 : Tick} {a1 : Requester} {a2 : BitVec 26} {s3 : State} (hs3 : Flow t a s3) : OutFlow t a (execSnap a0 a1 a2 s3) := by
  unfold execSnap
  with_reducible repeat' first | exact hs3 | apply flow_fullWrite | apply flow_advance | apply flow_next

theorem flow_execCrcPassEnd {a0 : Tick} {a1 : List (BitVec 26 × BitVec 16 × Word)} {s2 : State} (hs2 : Flow t a s2) : OutFlow t a (execCrcPassEnd a0 a1 s2) := by
  unfold execCrcPassEnd
  try dsimp only
  with_reducible repeat' first | exact hs2 | assumption | intro _ | apply flow_upsetWord | apply flow_advance | apply flow_passEnd | apply flow_dumpTrigger | apply flow_ite | apply flow_next | apply flow_out_ite | apply flow_foldl | apply flow_foldl_snd | apply flow_foldl_fst | split

theorem flow_pairTlps {a0 : Requester} {a1 : Nat} {a2 : Word} {s3 : State} (hs3 : Flow t a s3) : Flow t a (pairTlps a0 a1 a2 s3) := by
  unfold pairTlps
  with_reducible repeat' first | exact hs3 | apply flow_fullWrite

theorem flow_execCrcResync {a0 : Tick} {a1 : BitVec 2} {a2 : World} {a3 : Byte} {s4 : State} (hs4 : Flow t a s4) : OutFlow t a (execCrcResync a0 a1 a2 a3 s4) := by
  unfold execCrcResync
  with_reducible repeat' first | exact hs4 | apply flow_pairTlps | apply flow_advance | apply flow_next

theorem flow_execCrcCommit {a0 : Tick} {a1 : BitVec 2} {a2 : World} {s3 : State} (hs3 : Flow t a s3) : OutFlow t a (execCrcCommit a0 a1 a2 s3) := by
  unfold execCrcCommit
  with_reducible repeat' first | exact hs3 | apply flow_pairTlps | apply flow_advance | apply flow_next

theorem flow_execPairLatchLapse {a0 : Tick} {a1 : Requester} {s2 : State} (hs2 : Flow t a s2) : OutFlow t a (execPairLatchLapse a0 a1 s2) := by
  unfold execPairLatchLapse
  try dsimp only
  with_reducible repeat' first | exact hs2 | apply flow_advance | apply flow_setPair | apply flow_ite | apply flow_next | apply flow_out_ite | split | refine flow_mk ?_ (by rfl) (by rfl) (by rfl) (by rfl)

theorem flow_execPairValueWrite {a0 : Tick} {a1 : BitVec 2} {a2 : World} {a3 : Fin 15} {a4 : Word} {s5 : State} (hs5 : Flow t a s5) : OutFlow t a (execPairValueWrite a0 a1 a2 a3 a4 s5) := by
  unfold execPairValueWrite
  with_reducible repeat' first | exact hs5 | apply flow_fullWrite | apply flow_advance | apply flow_next

theorem flow_execChurnDiscard {a0 : Tick} {a1 : BitVec 2} {a2 : World} {s3 : State} (hs3 : Flow t a s3) : OutFlow t a (execChurnDiscard a0 a1 a2 s3) := by
  unfold execChurnDiscard
  with_reducible repeat' first | exact hs3 | apply flow_fullWrite | apply flow_advance | apply flow_next

theorem flow_execChurnApplyConfirmed {a0 : Tick} {a1 : BitVec 2} {a2 : World} {s3 : State} (hs3 : Flow t a s3) : OutFlow t a (execChurnApplyConfirmed a0 a1 a2 s3) := by
  unfold execChurnApplyConfirmed
  try dsimp only
  with_reducible repeat' first | exact hs3 | apply flow_advance | apply flow_churnFlag | apply flow_setChurn | apply flow_churnEmpty | apply flow_ite | apply flow_next | apply flow_out_ite | refine flow_mk ?_ (by rfl) (by rfl) (by rfl) (by rfl)

theorem flow_execChurnStrobe {a0 : Tick} {a1 : BitVec 2} {a2 : World} {a3 : Bool} {s4 : State} (hs4 : Flow t a s4) : OutFlow t a (execChurnStrobe a0 a1 a2 a3 s4) := by
  unfold execChurnStrobe
  with_reducible repeat' first | exact hs4 | apply flow_fullWrite | apply flow_advance | apply flow_next

theorem flow_execChurnBufferedWrite {a0 : Tick} {a1 : BitVec 2} {a2 : World} {a3 : BitVec 26} {a4 : Word} {s5 : State} (hs5 : Flow t a s5) : OutFlow t a (execChurnBufferedWrite a0 a1 a2 a3 a4 s5) := by
  unfold execChurnBufferedWrite
  with_reducible repeat' first | exact hs5 | apply flow_fullWrite | apply flow_advance | apply flow_next

theorem flow_execTablePortAccess {a0 : Tick} {a1 : Requester} {a2 : BitVec 26} {a3 : Access} {s4 : State} (hs4 : Flow t a s4) : OutFlow t a (execTablePortAccess a0 a1 a2 a3 s4) := by
  unfold execTablePortAccess
  with_reducible repeat' first | exact hs4 | apply flow_busAccess | apply flow_advance | apply flow_next

/-! ### RegWrite.lean -/

theorem flow_execDumpClear {a0 : Tick} {a1 : BitVec 2} {a2 : World} {a3 : BitVec 3} {s4 : State} (hs4 : Flow t a s4) : OutFlow t a (execDumpClear a0 a1 a2 a3 s4) := by
  unfold execDumpClear
  with_reducible repeat' first | exact hs4 | apply flow_fullWrite | apply flow_advance | apply flow_next

theorem flow_execDumpFire {a0 : Tick} {a1 : BitVec 2} {a2 : World} {a3 : BitVec 3} {s4 : State} (hs4 : Flow t a s4) : OutFlow t a (execDumpFire a0 a1 a2 a3 s4) := by
  unfold execDumpFire
  with_reducible repeat' first | exact hs4 | apply flow_fullWrite | apply flow_advance | apply flow_next

theorem flow_execCoLock {a0 : Tick} {a1 : BitVec 2} {a2 : World} {s3 : State} (hs3 : Flow t a s3) : OutFlow t a (execCoLock a0 a1 a2 s3) := by
  unfold execCoLock
  with_reducible repeat' first | exact hs3 | apply flow_fullWrite | apply flow_advance | apply flow_next

theorem flow_execWatchdogService {a0 : Tick} {a1 : BitVec 2} {a2 : World} {a3 : Word} {s4 : State} (hs4 : Flow t a s4) : OutFlow t a (execWatchdogService a0 a1 a2 a3 s4) := by
  unfold execWatchdogService
  with_reducible repeat' first | exact hs4 | apply flow_pairTlps | apply flow_advance | apply flow_next

theorem flow_execWatchdogEnable {a0 : Tick} {a1 : BitVec 2} {a2 : World} {a3 : BitVec 14} {a4 : BitVec 16} {s5 : State} (hs5 : Flow t a s5) : OutFlow t a (execWatchdogEnable a0 a1 a2 a3 a4 s5) := by
  unfold execWatchdogEnable
  with_reducible repeat' first | exact hs5 | apply flow_fullWrite | apply flow_advance | apply flow_next

theorem flow_execRstBlk {a0 : Tick} {a1 : BitVec 2} {a2 : World} {a3 : BitVec 16} {s4 : State} (hs4 : Flow t a s4) : OutFlow t a (execRstBlk a0 a1 a2 a3 s4) := by
  unfold execRstBlk
  with_reducible repeat' first | exact hs4 | apply flow_pairTlps | apply flow_advance | apply flow_next

theorem flow_execRstReqDevice {a0 : Tick} {a1 : BitVec 2} {a2 : World} {s3 : State} (hs3 : Flow t a s3) : OutFlow t a (execRstReqDevice a0 a1 a2 s3) := by
  unfold execRstReqDevice
  with_reducible repeat' first | exact hs3 | apply flow_pairTlps | apply flow_advance | apply flow_next

theorem flow_execClkLostClear {a0 : Tick} {a1 : BitVec 2} {a2 : World} {s3 : State} (hs3 : Flow t a s3) : OutFlow t a (execClkLostClear a0 a1 a2 s3) := by
  unfold execClkLostClear
  with_reducible repeat' first | exact hs3 | apply flow_fullWrite | apply flow_advance | apply flow_next

theorem flow_execCvPause {a0 : Tick} {a1 : BitVec 2} {a2 : World} {a3 : BitVec 2} {a4 : Word} {s5 : State} (hs5 : Flow t a s5) : OutFlow t a (execCvPause a0 a1 a2 a3 a4 s5) := by
  unfold execCvPause
  with_reducible repeat' first | exact hs5 | apply flow_fullWrite | apply flow_advance | apply flow_next

theorem flow_execCvGo {a0 : Tick} {a1 : BitVec 2} {a2 : World} {a3 : BitVec 2} {a4 : Word} {s5 : State} (hs5 : Flow t a s5) : OutFlow t a (execCvGo a0 a1 a2 a3 a4 s5) := by
  unfold execCvGo
  with_reducible repeat' first | exact hs5 | apply flow_fullWrite | apply flow_advance | apply flow_next

theorem flow_execDmaRateWrite {a0 : Tick} {a1 : BitVec 2} {a2 : World} {a3 : BitVec 7} {a4 : Word} {s5 : State} (hs5 : Flow t a s5) : OutFlow t a (execDmaRateWrite a0 a1 a2 a3 a4 s5) := by
  unfold execDmaRateWrite
  with_reducible repeat' first | exact hs5 | apply flow_fullWrite | apply flow_advance | apply flow_next

theorem flow_execDmaChannelDisable {a0 : Tick} {a1 : BitVec 2} {a2 : World} {a3 : BitVec 7} {a4 : Word} {s5 : State} (hs5 : Flow t a s5) : OutFlow t a (execDmaChannelDisable a0 a1 a2 a3 a4 s5) := by
  unfold execDmaChannelDisable
  with_reducible repeat' first | exact hs5 | apply flow_fullWrite | apply flow_advance | apply flow_next

theorem flow_execDmaStop {a0 : Tick} {a1 : BitVec 2} {a2 : World} {a3 : BitVec 7} {a4 : Word} {s5 : State} (hs5 : Flow t a s5) : OutFlow t a (execDmaStop a0 a1 a2 a3 a4 s5) := by
  unfold execDmaStop
  with_reducible repeat' first | exact hs5 | apply flow_fullWrite | apply flow_advance | apply flow_next

theorem flow_execDmaStart {a0 : Tick} {a1 : BitVec 2} {a2 : World} {a3 : BitVec 7} {a4 : Word} {s5 : State} (hs5 : Flow t a s5) : OutFlow t a (execDmaStart a0 a1 a2 a3 a4 s5) := by
  unfold execDmaStart
  with_reducible repeat' first | exact hs5 | apply flow_fullWrite | apply flow_advance | apply flow_next

theorem flow_execAttentionStop {a0 : Tick} {a1 : BitVec 2} {a2 : World} {a3 : Word} {s4 : State} (hs4 : Flow t a s4) : OutFlow t a (execAttentionStop a0 a1 a2 a3 s4) := by
  unfold execAttentionStop
  with_reducible repeat' first | exact hs4 | apply flow_fullWrite | apply flow_advance | apply flow_next

theorem flow_execAttentionStart {a0 : Tick} {a1 : BitVec 2} {a2 : World} {a3 : Word} {s4 : State} (hs4 : Flow t a s4) : OutFlow t a (execAttentionStart a0 a1 a2 a3 s4) := by
  unfold execAttentionStart
  with_reducible repeat' first | exact hs4 | apply flow_fullWrite | apply flow_advance | apply flow_next

theorem flow_execAudioWritebackEnable {a0 : Tick} {a1 : BitVec 2} {a2 : World} {a3 : Word} {s4 : State} (hs4 : Flow t a s4) : OutFlow t a (execAudioWritebackEnable a0 a1 a2 a3 s4) := by
  unfold execAudioWritebackEnable
  with_reducible repeat' first | exact hs4 | apply flow_fullWrite | apply flow_advance | apply flow_next

theorem flow_execAudioSinkEnable {a0 : Tick} {a1 : BitVec 2} {a2 : World} {a3 : Fin 11} {a4 : Word} {s5 : State} (hs5 : Flow t a s5) : OutFlow t a (execAudioSinkEnable a0 a1 a2 a3 a4 s5) := by
  unfold execAudioSinkEnable
  with_reducible repeat' first | exact hs5 | apply flow_fullWrite | apply flow_advance | apply flow_next

theorem flow_execTdmPortEnable {a0 : Tick} {a1 : BitVec 2} {a2 : World} {a3 : BitVec 3} {a4 : Word} {s5 : State} (hs5 : Flow t a s5) : OutFlow t a (execTdmPortEnable a0 a1 a2 a3 a4 s5) := by
  unfold execTdmPortEnable
  with_reducible repeat' first | exact hs5 | apply flow_fullWrite | apply flow_advance | apply flow_next

theorem flow_execHapticChannelEnable {a0 : Tick} {a1 : BitVec 2} {a2 : World} {a3 : BitVec 4} {a4 : Word} {s5 : State} (hs5 : Flow t a s5) : OutFlow t a (execHapticChannelEnable a0 a1 a2 a3 a4 s5) := by
  unfold execHapticChannelEnable
  with_reducible repeat' first | exact hs5 | apply flow_fullWrite | apply flow_advance | apply flow_next

theorem flow_execTouchSensorEnable {a0 : Tick} {a1 : BitVec 2} {a2 : World} {a3 : BitVec 3} {a4 : Word} {s5 : State} (hs5 : Flow t a s5) : OutFlow t a (execTouchSensorEnable a0 a1 a2 a3 a4 s5) := by
  unfold execTouchSensorEnable
  with_reducible repeat' first | exact hs5 | apply flow_fullWrite | apply flow_advance | apply flow_next

theorem flow_sbWrite {a0 : Requester} {a1 : Nat} {a2 : Nat} {a3 : Nat} {a4 : Nat} {s5 : State} (hs5 : Flow t a s5) : Flow t a (sbWrite a0 a1 a2 a3 a4 s5) := by
  unfold sbWrite
  with_reducible repeat' first | exact hs5 | apply flow_fullWrite

theorem flow_execSbDcsRead {a0 : Tick} {a1 : BitVec 2} {a2 : World} {a3 : BitVec 3} {a4 : BitVec 5} {a5 : BitVec 20} {s6 : State} (hs6 : Flow t a s6) : OutFlow t a (execSbDcsRead a0 a1 a2 a3 a4 a5 s6) := by
  unfold execSbDcsRead
  with_reducible repeat' first | exact hs6 | apply flow_sbWrite | apply flow_advance | apply flow_next

theorem flow_execSbDcsLongWrite {a0 : Tick} {a1 : BitVec 2} {a2 : World} {a3 : BitVec 3} {a4 : BitVec 5} {a5 : BitVec 20} {s6 : State} (hs6 : Flow t a s6) : OutFlow t a (execSbDcsLongWrite a0 a1 a2 a3 a4 a5 s6) := by
  unfold execSbDcsLongWrite
  with_reducible repeat' first | exact hs6 | apply flow_sbWrite | apply flow_advance | apply flow_next

theorem flow_execSbDcsShortWrite {a0 : Tick} {a1 : BitVec 2} {a2 : World} {a3 : BitVec 3} {a4 : BitVec 5} {a5 : BitVec 20} {s6 : State} (hs6 : Flow t a s6) : OutFlow t a (execSbDcsShortWrite a0 a1 a2 a3 a4 a5 s6) := by
  unfold execSbDcsShortWrite
  with_reducible repeat' first | exact hs6 | apply flow_sbWrite | apply flow_advance | apply flow_next

theorem flow_execSbI2cWrite {a0 : Tick} {a1 : BitVec 2} {a2 : World} {a3 : BitVec 3} {a4 : BitVec 5} {a5 : BitVec 20} {s6 : State} (hs6 : Flow t a s6) : OutFlow t a (execSbI2cWrite a0 a1 a2 a3 a4 a5 s6) := by
  unfold execSbI2cWrite
  with_reducible repeat' first | exact hs6 | apply flow_sbWrite | apply flow_advance | apply flow_next

theorem flow_execSbI2cRead {a0 : Tick} {a1 : BitVec 2} {a2 : World} {a3 : BitVec 3} {a4 : BitVec 5} {a5 : BitVec 20} {s6 : State} (hs6 : Flow t a s6) : OutFlow t a (execSbI2cRead a0 a1 a2 a3 a4 a5 s6) := by
  unfold execSbI2cRead
  with_reducible repeat' first | exact hs6 | apply flow_sbWrite | apply flow_advance | apply flow_next

theorem flow_execSbAuxWrite {a0 : Tick} {a1 : BitVec 2} {a2 : World} {a3 : BitVec 3} {a4 : BitVec 5} {a5 : BitVec 20} {s6 : State} (hs6 : Flow t a s6) : OutFlow t a (execSbAuxWrite a0 a1 a2 a3 a4 a5 s6) := by
  unfold execSbAuxWrite
  with_reducible repeat' first | exact hs6 | apply flow_sbWrite | apply flow_advance | apply flow_next

theorem flow_execSbAuxRead {a0 : Tick} {a1 : BitVec 2} {a2 : World} {a3 : BitVec 3} {a4 : BitVec 5} {a5 : BitVec 20} {s6 : State} (hs6 : Flow t a s6) : OutFlow t a (execSbAuxRead a0 a1 a2 a3 a4 a5 s6) := by
  unfold execSbAuxRead
  with_reducible repeat' first | exact hs6 | apply flow_sbWrite | apply flow_advance | apply flow_next

theorem flow_execCrlRecover {a0 : Tick} {a1 : BitVec 2} {a2 : World} {a3 : BitVec 3} {s4 : State} (hs4 : Flow t a s4) : OutFlow t a (execCrlRecover a0 a1 a2 a3 s4) := by
  unfold execCrlRecover
  with_reducible repeat' first | exact hs4 | apply flow_pairTlps | apply flow_advance | apply flow_next

theorem flow_execVinEnable {a0 : Tick} {a1 : BitVec 2} {a2 : World} {a3 : BitVec 2} {a4 : Word} {s5 : State} (hs5 : Flow t a s5) : OutFlow t a (execVinEnable a0 a1 a2 a3 a4 s5) := by
  unfold execVinEnable
  with_reducible repeat' first | exact hs5 | apply flow_fullWrite | apply flow_advance | apply flow_next

theorem flow_execViewApply {a0 : Tick} {a1 : Requester} {a2 : BitVec 3} {a3 : Fin 9} {s4 : State} (hs4 : Flow t a s4) : OutFlow t a (execViewApply a0 a1 a2 a3 s4) := by
  unfold execViewApply
  try dsimp only
  with_reducible repeat' first | exact hs4 | apply flow_advance | apply flow_fullWrite | apply flow_next | split | refine flow_mk ?_ (by rfl) (by rfl) (by rfl) (by rfl)

theorem flow_execTrvClearTrv {a0 : Tick} {a1 : BitVec 2} {a2 : World} {s3 : State} (hs3 : Flow t a s3) : OutFlow t a (execTrvClearTrv a0 a1 a2 s3) := by
  unfold execTrvClearTrv
  with_reducible repeat' first | exact hs3 | apply flow_pairTlps | apply flow_advance | apply flow_next

theorem flow_execTrvClearRaster {a0 : Tick} {a1 : BitVec 2} {a2 : World} {s3 : State} (hs3 : Flow t a s3) : OutFlow t a (execTrvClearRaster a0 a1 a2 s3) := by
  unfold execTrvClearRaster
  with_reducible repeat' first | exact hs3 | apply flow_pairTlps | apply flow_advance | apply flow_next

theorem flow_execTrvSetTrv {a0 : Tick} {a1 : BitVec 2} {a2 : World} {s3 : State} (hs3 : Flow t a s3) : OutFlow t a (execTrvSetTrv a0 a1 a2 s3) := by
  unfold execTrvSetTrv
  with_reducible repeat' first | exact hs3 | apply flow_pairTlps | apply flow_advance | apply flow_next

theorem flow_execTrvSetRaster {a0 : Tick} {a1 : BitVec 2} {a2 : World} {s3 : State} (hs3 : Flow t a s3) : OutFlow t a (execTrvSetRaster a0 a1 a2 s3) := by
  unfold execTrvSetRaster
  with_reducible repeat' first | exact hs3 | apply flow_pairTlps | apply flow_advance | apply flow_next

theorem flow_execTrvArmB {a0 : Tick} {a1 : BitVec 2} {a2 : World} {a3 : BitVec 3} {s4 : State} (hs4 : Flow t a s4) : OutFlow t a (execTrvArmB a0 a1 a2 a3 s4) := by
  unfold execTrvArmB
  with_reducible repeat' first | exact hs4 | apply flow_fullWrite | apply flow_advance | apply flow_next

theorem flow_execTrvArmA {a0 : Tick} {a1 : BitVec 2} {a2 : World} {a3 : BitVec 3} {s4 : State} (hs4 : Flow t a s4) : OutFlow t a (execTrvArmA a0 a1 a2 a3 s4) := by
  unfold execTrvArmA
  with_reducible repeat' first | exact hs4 | apply flow_fullWrite | apply flow_advance | apply flow_next

theorem flow_execDbgClear {a0 : Tick} {a1 : BitVec 2} {a2 : World} {a3 : BitVec 4} {s4 : State} (hs4 : Flow t a s4) : OutFlow t a (execDbgClear a0 a1 a2 a3 s4) := by
  unfold execDbgClear
  with_reducible repeat' first | exact hs4 | apply flow_fullWrite | apply flow_advance | apply flow_next

theorem flow_ownChange {a0 : Requester} {a1 : BitVec 16} {a2 : Word} {s3 : State} (hs3 : Flow t a s3) : Flow t a (ownChange a0 a1 a2 s3) := by
  unfold ownChange
  with_reducible repeat' first | exact hs3 | apply flow_pairTlps | apply flow_fullWrite

theorem flow_execIsoOwnGrant {a0 : Tick} {a1 : BitVec 2} {a2 : World} {a3 : BitVec 16} {a4 : Bool} {a5 : Fn} {s6 : State} (hs6 : Flow t a s6) : OutFlow t a (execIsoOwnGrant a0 a1 a2 a3 a4 a5 s6) := by
  unfold execIsoOwnGrant
  with_reducible repeat' first | exact hs6 | apply flow_ownChange | apply flow_advance | apply flow_next

theorem flow_execIsoOwnRelease {a0 : Tick} {a1 : BitVec 2} {a2 : World} {a3 : BitVec 16} {a4 : Bool} {a5 : Fn} {s6 : State} (hs6 : Flow t a s6) : OutFlow t a (execIsoOwnRelease a0 a1 a2 a3 a4 a5 s6) := by
  unfold execIsoOwnRelease
  with_reducible repeat' first | exact hs6 | apply flow_ownChange | apply flow_advance | apply flow_next

theorem flow_execIsoOwnClaim {a0 : Tick} {a1 : BitVec 2} {a2 : World} {a3 : BitVec 16} {s4 : State} (hs4 : Flow t a s4) : OutFlow t a (execIsoOwnClaim a0 a1 a2 a3 s4) := by
  unfold execIsoOwnClaim
  with_reducible repeat' first | exact hs4 | apply flow_ownChange | apply flow_advance | apply flow_next

theorem flow_execEqReadIndexWrite {a0 : Tick} {a1 : Fn} {a2 : Bool} {a3 : World} {a4 : BitVec 13} {s5 : State} (hs5 : Flow t a s5) : OutFlow t a (execEqReadIndexWrite a0 a1 a2 a3 a4 s5) := by
  unfold execEqReadIndexWrite
  try dsimp only
  with_reducible repeat' first | exact hs5 | apply flow_advance | apply flow_fullWrite | apply flow_ite | apply flow_next | apply flow_out_ite | exact flow_fault

theorem flow_execRingReset {a0 : Tick} {a1 : Fn} {a2 : Bool} {a3 : World} {a4 : Bool} {a5 : Bool} {s6 : State} (hs6 : Flow t a s6) : OutFlow t a (execRingReset a0 a1 a2 a3 a4 a5 s6) := by
  unfold execRingReset
  try dsimp only
  with_reducible repeat' first | exact hs6 | apply flow_advance | apply flow_fullWrite | apply flow_ite | apply flow_next | apply flow_out_ite | exact flow_fault

theorem flow_execRingDoorbell {a0 : Tick} {a1 : Fn} {a2 : Bool} {a3 : World} {a4 : BitVec 7} {s5 : State} (hs5 : Flow t a s5) : OutFlow t a (execRingDoorbell a0 a1 a2 a3 a4 s5) := by
  unfold execRingDoorbell
  try dsimp only
  with_reducible repeat' first | exact hs5 | apply flow_advance | apply flow_fullWrite | apply flow_ite | apply flow_next | apply flow_out_ite | exact flow_fault

end Sys2Proof.Laws
end

