-- ==== Sys2Proof/Laws/FlowH.lean ====
section
/-!
SUPPORT. Laws/FlowH.lean: every operation of Lists.lean flows.
-/

set_option linter.all false

namespace Sys2Proof.Laws

open Sys2Proof Sys2Proof.Machine

variable {t : Bool} {a : State}

/-! ### Lists.lean -/

theorem flow_listRead {a0 : Requester} {a1 : Nat} {a2 : List (Nat × Nat × Word)} {s3 : State} (hs3 : Flow t a s3) : Flow t a (listRead a0 a1 a2 s3).2 := by
  induction a2 generalizing s3 with
  | nil => exact hs3
  | cons e es ih => exact ih (flow_readReg hs3)

theorem flow_listApply {a0 : Requester} {a1 : Nat} {a2 : List (Nat × Nat × Word)} {s3 : State} (hs3 : Flow t a s3) : OptFlow t a (listApply a0 a1 a2 s3) := by
  induction a2 generalizing s3 with
  | nil => exact opt_some (flow_dropLatch hs3)
  | cons e es ih =>
    rw [listApply]
    exact opt_ite opt_none (ih (flow_reachWrite hs3))

theorem flow_doList {a0 : Nat} {a1 : Bool} {a2 : Ctx} {s3 : State} (hs3 : Flow t a s3) : AnsFlow t a (doList a0 a1 a2 s3) := by
  unfold doList
  try dsimp only
  with_reducible repeat' first | exact hs3 | apply flow_isoLog | apply flow_listApply | refine flow_of_some (by assumption) (flow_listApply ?_) | apply flow_dropLatch | apply flow_listRead | apply flow_ite | apply ans_reply | apply ans_later | apply ans_outside | apply ans_ite | split | refine flow_mk ?_ (by rfl) (by rfl) (by rfl) (by rfl)

theorem flow_execAudioRead {a0 : Tick} {a1 : Request} {s2 : State} (hs2 : Flow t a s2) : OutFlow t a (execAudioRead a0 a1 s2) := by
  unfold execAudioRead
  with_reducible repeat' first | exact hs2 | assumption | intro _ | apply flow_gcp | apply flow_doList | apply flow_next

theorem flow_execAudioWrite {a0 : Tick} {a1 : Request} {s2 : State} (hs2 : Flow t a s2) : OutFlow t a (execAudioWrite a0 a1 s2) := by
  unfold execAudioWrite
  with_reducible repeat' first | exact hs2 | assumption | intro _ | apply flow_gcp | apply flow_doList | apply flow_next

theorem flow_execHapticRead {a0 : Tick} {a1 : Request} {s2 : State} (hs2 : Flow t a s2) : OutFlow t a (execHapticRead a0 a1 s2) := by
  unfold execHapticRead
  with_reducible repeat' first | exact hs2 | assumption | intro _ | apply flow_gcp | apply flow_doList | apply flow_next

theorem flow_execHapticWrite {a0 : Tick} {a1 : Request} {s2 : State} (hs2 : Flow t a s2) : OutFlow t a (execHapticWrite a0 a1 s2) := by
  unfold execHapticWrite
  with_reducible repeat' first | exact hs2 | assumption | intro _ | apply flow_gcp | apply flow_doList | apply flow_next

theorem flow_execTouchRead {a0 : Tick} {a1 : Request} {s2 : State} (hs2 : Flow t a s2) : OutFlow t a (execTouchRead a0 a1 s2) := by
  unfold execTouchRead
  with_reducible repeat' first | exact hs2 | assumption | intro _ | apply flow_gcp | apply flow_doList | apply flow_next

theorem flow_execTouchWrite {a0 : Tick} {a1 : Request} {s2 : State} (hs2 : Flow t a s2) : OutFlow t a (execTouchWrite a0 a1 s2) := by
  unfold execTouchWrite
  with_reducible repeat' first | exact hs2 | assumption | intro _ | apply flow_gcp | apply flow_doList | apply flow_next

theorem flow_execDisplayRead {a0 : Tick} {a1 : Request} {s2 : State} (hs2 : Flow t a s2) : OutFlow t a (execDisplayRead a0 a1 s2) := by
  unfold execDisplayRead
  with_reducible repeat' first | exact hs2 | assumption | intro _ | apply flow_gcp | apply flow_doList | apply flow_next

theorem flow_execDisplayWrite {a0 : Tick} {a1 : Request} {s2 : State} (hs2 : Flow t a s2) : OutFlow t a (execDisplayWrite a0 a1 s2) := by
  unfold execDisplayWrite
  with_reducible repeat' first | exact hs2 | assumption | intro _ | apply flow_gcp | apply flow_doList | apply flow_next

end Sys2Proof.Laws
end

