-- ==== Sys2Proof/Laws/Gcp.lean ====
section
/-!
SUPPORT. Laws/Gcp.lean: what a request does once it has passed the checks of Table 3.4: the opcode's own checks run once, and their answer ends the request.
-/

set_option linter.all false

namespace Sys2Proof.Laws

open Sys2Proof Sys2Proof.Machine

variable {o : OpInfo} {t : Tick} {q : Request} {s : State} {x : Session} {h : Ctx → State → Ans}

/-- A request that is accepted runs the opcode's own checks. -/
theorem gcp_accepted (k : Accepted o t q s x) :
    gcp o t q h s = .next (serve o (ctxOf t q s x) false h (handed t q s x)) := by
  have k1 := k.port
  have k2 := k.ready
  have k3 : (advance t s).boot.recovery = none := k.served
  have k4 := k.fresh
  have k5 := k.unproved
  unfold gcp
  rw [if_pos k1]
  dsimp only
  rw [if_pos k2, k3]
  unfold serveRequest
  unfold stampOf taken at k4
  simp only [Option.isSome_none, Bool.false_eq_true, if_false]
  rw [k4]
  dsimp only
  rw [if_neg (fun hc => k5 hc.1 hc.2)]
  rfl

/-- An accepted request whose own checks answer with a reply ends with that reply. -/
theorem gcp_reply {pay : List Byte} {u : State} (k : Accepted o t q s x) (hh : h (ctxOf t q s x) (handed t q s x) = .reply pay u) :
    gcp o t q h s = .next (finished o (ctxOf t q s x) x pay u) := by
  rw [gcp_accepted k]
  unfold serve
  simp only [hh]
  rfl

/-- An accepted request whose reply comes later is in progress on its port. -/
theorem gcp_later {u : State} (k : Accepted o t q s x) (hh : h (ctxOf t q s x) (handed t q s x) = .later u) :
    gcp o t q h s = .next (inProgress o (ctxOf t q s x) u) := by
  rw [gcp_accepted k]
  unfold serve
  simp only [hh]
  rfl

end Sys2Proof.Laws
end

