-- ==== Sys2Proof/Laws/Reply.lean ====
section
/-!
SUPPORT. Laws/Reply.lean: what answering a packet leaves alone: everything but the ring or the SPI port, the count of refused contracts, the MSI-X table, host memory and the links that carry the reply.
-/

set_option linter.all false

namespace Sys2Proof.Laws

open Sys2Proof Sys2Proof.Machine

/-- What stands while a packet is taken and answered. -/
structure ReplyKeeps (a b : State) : Prop where
  sessions : b.gcp.sessions = a.gcp.sessions
  stalled : b.gcp.stalled = a.gcp.stalled
  auth : b.gcp.auth = a.gcp.auth
  contracts : b.ledger.contracts = a.ledger.contracts
  reserveShd : b.ledger.reserveShd = a.ledger.reserveShd
  reserveDrb : b.ledger.reserveDrb = a.ledger.reserveDrb
  fns : b.hif.fns = a.hif.fns
  eqs : b.hif.eqs = a.hif.eqs
  posts : b.hif.posts = a.hif.posts
  numVfs : b.hif.numVfs = a.hif.numVfs
  vfEnable : b.hif.vfEnable = a.hif.vfEnable
  pending : b.pending = a.pending
  gtb : b.gtb = a.gtb
  busData : b.busData = a.busData
  regs : b.regs = a.regs
  shadow : b.shadow = a.shadow
  reqRegs : b.reqRegs = a.reqRegs
  tabs : b.tabs = a.tabs
  tabShadow : b.tabShadow = a.tabShadow
  iso : b.iso = a.iso
  boot : b.boot = a.boot
  pwr : b.pwr = a.pwr
  disp : b.disp = a.disp
  rg : b.rg = a.rg
  ren : b.ren = a.ren
  trv : b.trv = a.trv
  sense : b.sense = a.sense
  aud : b.aud = a.aud
  mv : b.mv = a.mv
  dpa : b.mem.dpa = a.mem.dpa
  maps : b.mem.maps = a.mem.maps
  poison : b.mem.poison = a.mem.poison
  free : b.mem.free = a.mem.free
  faults : b.mem.faults = a.mem.faults

theorem replyKeeps_refl (a : State) : ReplyKeeps a a := by constructor <;> rfl

theorem ReplyKeeps.trans {a b c : State} (h : ReplyKeeps a b) (k : ReplyKeeps b c) : ReplyKeeps a c :=
  ⟨k.sessions.trans h.sessions, k.stalled.trans h.stalled, k.auth.trans h.auth, k.contracts.trans h.contracts, k.reserveShd.trans h.reserveShd, k.reserveDrb.trans h.reserveDrb, k.fns.trans h.fns, k.eqs.trans h.eqs, k.posts.trans h.posts, k.numVfs.trans h.numVfs, k.vfEnable.trans h.vfEnable, k.pending.trans h.pending, k.gtb.trans h.gtb, k.busData.trans h.busData, k.regs.trans h.regs, k.shadow.trans h.shadow, k.reqRegs.trans h.reqRegs, k.tabs.trans h.tabs, k.tabShadow.trans h.tabShadow, k.iso.trans h.iso, k.boot.trans h.boot, k.pwr.trans h.pwr, k.disp.trans h.disp, k.rg.trans h.rg, k.ren.trans h.ren, k.trv.trans h.trv, k.sense.trans h.sense, k.aud.trans h.aud, k.mv.trans h.mv, k.dpa.trans h.dpa, k.maps.trans h.maps, k.poison.trans h.poison, k.free.trans h.free, k.faults.trans h.faults⟩

theorem reply_setLnk (f : LinkState → LinkState) (s : State) : ReplyKeeps s (setLnk f s) := by constructor <;> rfl

theorem reply_wrHost (p : Nat) (bs : List Byte) : ∀ (a : Nat) (s : State), ReplyKeeps s (wrHost p a bs s) := by
  induction bs with
  | nil => exact fun _ s => replyKeeps_refl s
  | cons b bs ih => exact fun a s => (show ReplyKeeps s _ by constructor <;> rfl).trans (ih _ _)

theorem reply_meetFaults (target inst dir tile : Nat) (s : State) : ReplyKeeps s (meetFaults target inst dir tile s).2 := by
  unfold meetFaults
  have go : ∀ (fs : List FaultRec) (acc : List Nat × State) (f : List Nat × State → FaultRec → List Nat × State),
      (∀ a x, ReplyKeeps a.2 (f a x).2) → ReplyKeeps acc.2 (fs.foldl f acc).2 := by
    intro fs
    induction fs with
    | nil => exact fun acc _ _ => replyKeeps_refl acc.2
    | cons x fs ih => exact fun acc f hf => (hf acc x).trans (ih _ f hf)
  refine go s.lnk.faults ([], s) _ (fun a x => ?_)
  dsimp only
  split <;> split <;> constructor <;> rfl

theorem reply_outTlp (port a : Nat) (bs : List Byte) (s : State) : ReplyKeeps s (outTlp port a bs s) := by
  unfold outTlp
  have m := reply_meetFaults 0 port 1 0 s
  revert m
  generalize meetFaults 0 port 1 0 s = r
  obtain ⟨hs, s1⟩ := r
  intro m
  refine m.trans ?_
  dsimp only
  have after : ∀ x : State, ReplyKeeps x (match tget none s1.lnk.held (heldKey port 1) with
      | some (.outbound a' bs' _) => wrHost port a' bs' (setLnk (fun l => { l with held := tput none l.held (heldKey port 1) none }) x)
      | _ => x) := by
    intro x
    split
    · exact (reply_setLnk _ _).trans (reply_wrHost ..)
    · exact replyKeeps_refl x
  split
  · exact after _
  · split
    · exact (after _).trans (reply_setLnk _ _)
    · exact (reply_wrHost ..).trans (after _)

theorem reply_hostWrite (port : Nat) : ∀ (n a : Nat) (bs : List Byte) (s : State), ReplyKeeps s (hostWrite port n a bs s) := by
  intro n
  induction n with
  | zero => exact fun _ _ s => replyKeeps_refl s
  | succ n ih =>
    intro a bs s
    unfold hostWrite
    split
    · exact replyKeeps_refl s
    · exact (reply_outTlp ..).trans (ih ..)

theorem reply_sendMsix (fn vec : Nat) (s : State) : ReplyKeeps s (sendMsix fn vec s) := by
  unfold sendMsix
  dsimp only
  split
  · constructor <;> rfl
  · exact reply_hostWrite ..

theorem reply_setRing (fn : Nat) (holm : Bool) (f : RingRec → RingRec) (s : State) : ReplyKeeps s (setRing fn holm f s) := by constructor <;> rfl

theorem reply_completePort (p : Port) (r : Option (List Byte)) (s : State) : ReplyKeeps s (completePort p r s) := by
  unfold completePort
  split
  · dsimp only
    have irq : ∀ (b : Bool) (f v : Nat) (x : State), ReplyKeeps s x → ReplyKeeps s (if b = true then sendMsix f v x else x) := by
      intro b f v x h
      split
      · exact h.trans (reply_sendMsix ..)
      · exact h
    apply irq
    refine ReplyKeeps.trans ?_ (reply_setRing ..)
    split
    · exact reply_hostWrite ..
    · exact replyKeeps_refl s
  · split <;> constructor <;> rfl

/-- An answer leaves alone everything that `ReplyKeeps` names. -/
theorem reply_answer (o : OpInfo) (c : Ctx) (mac replayed : Bool) (pay : List Byte) (s : State) : ReplyKeeps s (answer o c mac replayed pay s) := by
  unfold answer
  dsimp only
  refine ReplyKeeps.trans ?_ (reply_completePort ..)
  split
  · constructor <;> rfl
  · exact replyKeeps_refl s

theorem reply_takePacket (p : Port) (s : State) : ReplyKeeps s (takePacket p s) := by
  unfold takePacket
  split
  · exact reply_setRing ..
  · exact replyKeeps_refl s

/-- Taking the packet leaves alone everything that `ReplyKeeps` names, but for time. -/
theorem reply_taken (t : Tick) (q : Request) (s : State) : ReplyKeeps (advance t s) (taken t q s) := reply_takePacket ..

/-- Every GCP row is a request that the management plane serves. -/
theorem gcpRow_exec {i : Instr} {o : OpInfo} {t : Tick} {q : Request} (h : gcpRow i = some (o, t, q)) : ∃ g, ∀ s, exec i s = gcp o t q g s := by
  cases i <;> first
    | (simp only [gcpRow, Option.some.injEq, Prod.mk.injEq] at h; obtain ⟨rfl, rfl, rfl⟩ := h; exact ⟨_, fun _ => rfl⟩)
    | cases h

/-- A request that the management plane takes next is served. -/
theorem gcp_served {o : OpInfo} {t : Tick} {q : Request} {s : State} {h : Ctx → State → Ans} (k : Served o t q s) :
    gcp o t q h s = .next (serveRequest o q h (advance t s)) := by
  unfold gcp
  rw [if_pos k.port]
  dsimp only
  rw [if_pos k.ready, show (advance t s).boot.recovery = none from k.normal]
  rfl

theorem tag_ite {w : Word} {p : Prop} [Decidable p] {a b : Verdict} (ha : ∀ x r, a = .new x r → x.tag = w) (hb : ∀ x r, b = .new x r → x.tag = w) :
    ∀ x r, (if p then a else b) = .new x r → x.tag = w := by
  by_cases hp : p
  · rw [if_pos hp]; exact ha
  · rw [if_neg hp]; exact hb

/-- The session that the checks name is the one of the packet's tag. -/
theorem verdict_tag {o : OpInfo} {q : Request} {st : Tick} {s : State} {x : Session} {r : Option Status} (h : verdict o q st s = .new x r) : x.tag = q.pkt.tag := by
  suffices ∀ y e, verdict o q st s = .new y e → y.tag = q.pkt.tag from this x r h
  unfold verdict
  dsimp only
  cases earlyCheck o.code q.pkt with
  | some c => exact fun _ _ h => Verdict.noConfusion h
  | none =>
    dsimp only
    refine tag_ite (tag_ite (fun _ _ h => Verdict.noConfusion h) (fun _ _ h => Verdict.noConfusion h)) ?_
    cases hs : sessionOf s q.pkt.tag with
    | none => exact fun _ _ h => Verdict.noConfusion h
    | some y =>
      have ht : y.tag = q.pkt.tag := by
        unfold sessionOf at hs
        simpa using List.find?_some hs
      dsimp only
      iterate 8 refine tag_ite (fun _ _ h => Verdict.noConfusion h) ?_
      cases y.cache.find? (fun e => e.seq == q.pkt.seq) with
      | some e => exact tag_ite (fun _ _ h => Verdict.noConfusion h) (fun _ _ h => Verdict.noConfusion h)
      | none =>
        have here : ∀ e x r, Verdict.new y e = .new x r → x.tag = q.pkt.tag := fun e x r h => by injection h with h1; rw [← h1]; exact ht
        exact tag_ite (fun _ _ h => Verdict.noConfusion h) (tag_ite (here _) (here _))

end Sys2Proof.Laws
end

