-- ==== Sys2Proof/Laws/State.lean ====
section
/-!
SUPPORT. Laws/State.lean: the fields that each update of the state leaves alone, one lemma for each field and update.
-/

set_option linter.all false

namespace Sys2Proof.Laws

open Sys2Proof Sys2Proof.Machine

/-! setAud -/

@[simp] theorem setAud_pending (a0 : AudioState → AudioState) (s1 : State) : (setAud a0 s1).pending = s1.pending := rfl
@[simp] theorem setAud_gtb (a0 : AudioState → AudioState) (s1 : State) : (setAud a0 s1).gtb = s1.gtb := rfl
@[simp] theorem setAud_drawn (a0 : AudioState → AudioState) (s1 : State) : (setAud a0 s1).drawn = s1.drawn := rfl
@[simp] theorem setAud_busData (a0 : AudioState → AudioState) (s1 : State) : (setAud a0 s1).busData = s1.busData := rfl
@[simp] theorem setAud_regs (a0 : AudioState → AudioState) (s1 : State) : (setAud a0 s1).regs = s1.regs := rfl
@[simp] theorem setAud_shadow (a0 : AudioState → AudioState) (s1 : State) : (setAud a0 s1).shadow = s1.shadow := rfl
@[simp] theorem setAud_reqRegs (a0 : AudioState → AudioState) (s1 : State) : (setAud a0 s1).reqRegs = s1.reqRegs := rfl
@[simp] theorem setAud_tabs (a0 : AudioState → AudioState) (s1 : State) : (setAud a0 s1).tabs = s1.tabs := rfl
@[simp] theorem setAud_tabShadow (a0 : AudioState → AudioState) (s1 : State) : (setAud a0 s1).tabShadow = s1.tabShadow := rfl
@[simp] theorem setAud_gcp (a0 : AudioState → AudioState) (s1 : State) : (setAud a0 s1).gcp = s1.gcp := rfl
@[simp] theorem setAud_hif (a0 : AudioState → AudioState) (s1 : State) : (setAud a0 s1).hif = s1.hif := rfl
@[simp] theorem setAud_ledger (a0 : AudioState → AudioState) (s1 : State) : (setAud a0 s1).ledger = s1.ledger := rfl
@[simp] theorem setAud_iso (a0 : AudioState → AudioState) (s1 : State) : (setAud a0 s1).iso = s1.iso := rfl
@[simp] theorem setAud_mem (a0 : AudioState → AudioState) (s1 : State) : (setAud a0 s1).mem = s1.mem := rfl
@[simp] theorem setAud_boot (a0 : AudioState → AudioState) (s1 : State) : (setAud a0 s1).boot = s1.boot := rfl
@[simp] theorem setAud_pwr (a0 : AudioState → AudioState) (s1 : State) : (setAud a0 s1).pwr = s1.pwr := rfl
@[simp] theorem setAud_disp (a0 : AudioState → AudioState) (s1 : State) : (setAud a0 s1).disp = s1.disp := rfl
@[simp] theorem setAud_rg (a0 : AudioState → AudioState) (s1 : State) : (setAud a0 s1).rg = s1.rg := rfl
@[simp] theorem setAud_ren (a0 : AudioState → AudioState) (s1 : State) : (setAud a0 s1).ren = s1.ren := rfl
@[simp] theorem setAud_lnk (a0 : AudioState → AudioState) (s1 : State) : (setAud a0 s1).lnk = s1.lnk := rfl
@[simp] theorem setAud_trv (a0 : AudioState → AudioState) (s1 : State) : (setAud a0 s1).trv = s1.trv := rfl
@[simp] theorem setAud_sense (a0 : AudioState → AudioState) (s1 : State) : (setAud a0 s1).sense = s1.sense := rfl
@[simp] theorem setAud_mv (a0 : AudioState → AudioState) (s1 : State) : (setAud a0 s1).mv = s1.mv := rfl
@[simp] theorem setAud_aud (a0 : AudioState → AudioState) (s1 : State) : (setAud a0 s1).aud = a0 s1.aud := rfl

/-! wr -/

@[simp] theorem wr_pending (a0 : Nat) (a1 : Word) (s2 : State) : (wr a0 a1 s2).pending = s2.pending := rfl
@[simp] theorem wr_gtb (a0 : Nat) (a1 : Word) (s2 : State) : (wr a0 a1 s2).gtb = s2.gtb := rfl
@[simp] theorem wr_drawn (a0 : Nat) (a1 : Word) (s2 : State) : (wr a0 a1 s2).drawn = s2.drawn := rfl
@[simp] theorem wr_busData (a0 : Nat) (a1 : Word) (s2 : State) : (wr a0 a1 s2).busData = s2.busData := rfl
@[simp] theorem wr_shadow (a0 : Nat) (a1 : Word) (s2 : State) : (wr a0 a1 s2).shadow = s2.shadow := rfl
@[simp] theorem wr_reqRegs (a0 : Nat) (a1 : Word) (s2 : State) : (wr a0 a1 s2).reqRegs = s2.reqRegs := rfl
@[simp] theorem wr_tabs (a0 : Nat) (a1 : Word) (s2 : State) : (wr a0 a1 s2).tabs = s2.tabs := rfl
@[simp] theorem wr_tabShadow (a0 : Nat) (a1 : Word) (s2 : State) : (wr a0 a1 s2).tabShadow = s2.tabShadow := rfl
@[simp] theorem wr_gcp (a0 : Nat) (a1 : Word) (s2 : State) : (wr a0 a1 s2).gcp = s2.gcp := rfl
@[simp] theorem wr_hif (a0 : Nat) (a1 : Word) (s2 : State) : (wr a0 a1 s2).hif = s2.hif := rfl
@[simp] theorem wr_ledger (a0 : Nat) (a1 : Word) (s2 : State) : (wr a0 a1 s2).ledger = s2.ledger := rfl
@[simp] theorem wr_iso (a0 : Nat) (a1 : Word) (s2 : State) : (wr a0 a1 s2).iso = s2.iso := rfl
@[simp] theorem wr_mem (a0 : Nat) (a1 : Word) (s2 : State) : (wr a0 a1 s2).mem = s2.mem := rfl
@[simp] theorem wr_boot (a0 : Nat) (a1 : Word) (s2 : State) : (wr a0 a1 s2).boot = s2.boot := rfl
@[simp] theorem wr_pwr (a0 : Nat) (a1 : Word) (s2 : State) : (wr a0 a1 s2).pwr = s2.pwr := rfl
@[simp] theorem wr_disp (a0 : Nat) (a1 : Word) (s2 : State) : (wr a0 a1 s2).disp = s2.disp := rfl
@[simp] theorem wr_rg (a0 : Nat) (a1 : Word) (s2 : State) : (wr a0 a1 s2).rg = s2.rg := rfl
@[simp] theorem wr_ren (a0 : Nat) (a1 : Word) (s2 : State) : (wr a0 a1 s2).ren = s2.ren := rfl
@[simp] theorem wr_lnk (a0 : Nat) (a1 : Word) (s2 : State) : (wr a0 a1 s2).lnk = s2.lnk := rfl
@[simp] theorem wr_trv (a0 : Nat) (a1 : Word) (s2 : State) : (wr a0 a1 s2).trv = s2.trv := rfl
@[simp] theorem wr_sense (a0 : Nat) (a1 : Word) (s2 : State) : (wr a0 a1 s2).sense = s2.sense := rfl
@[simp] theorem wr_aud (a0 : Nat) (a1 : Word) (s2 : State) : (wr a0 a1 s2).aud = s2.aud := rfl
@[simp] theorem wr_mv (a0 : Nat) (a1 : Word) (s2 : State) : (wr a0 a1 s2).mv = s2.mv := rfl

/-! setArm -/

@[simp] theorem setArm_pending (a0 : Nat) (a1 : ArmRec → ArmRec) (s2 : State) : (setArm a0 a1 s2).pending = s2.pending := rfl
@[simp] theorem setArm_gtb (a0 : Nat) (a1 : ArmRec → ArmRec) (s2 : State) : (setArm a0 a1 s2).gtb = s2.gtb := rfl
@[simp] theorem setArm_drawn (a0 : Nat) (a1 : ArmRec → ArmRec) (s2 : State) : (setArm a0 a1 s2).drawn = s2.drawn := rfl
@[simp] theorem setArm_busData (a0 : Nat) (a1 : ArmRec → ArmRec) (s2 : State) : (setArm a0 a1 s2).busData = s2.busData := rfl
@[simp] theorem setArm_regs (a0 : Nat) (a1 : ArmRec → ArmRec) (s2 : State) : (setArm a0 a1 s2).regs = s2.regs := rfl
@[simp] theorem setArm_shadow (a0 : Nat) (a1 : ArmRec → ArmRec) (s2 : State) : (setArm a0 a1 s2).shadow = s2.shadow := rfl
@[simp] theorem setArm_reqRegs (a0 : Nat) (a1 : ArmRec → ArmRec) (s2 : State) : (setArm a0 a1 s2).reqRegs = s2.reqRegs := rfl
@[simp] theorem setArm_tabs (a0 : Nat) (a1 : ArmRec → ArmRec) (s2 : State) : (setArm a0 a1 s2).tabs = s2.tabs := rfl
@[simp] theorem setArm_tabShadow (a0 : Nat) (a1 : ArmRec → ArmRec) (s2 : State) : (setArm a0 a1 s2).tabShadow = s2.tabShadow := rfl
@[simp] theorem setArm_gcp (a0 : Nat) (a1 : ArmRec → ArmRec) (s2 : State) : (setArm a0 a1 s2).gcp = s2.gcp := rfl
@[simp] theorem setArm_hif (a0 : Nat) (a1 : ArmRec → ArmRec) (s2 : State) : (setArm a0 a1 s2).hif = s2.hif := rfl
@[simp] theorem setArm_ledger (a0 : Nat) (a1 : ArmRec → ArmRec) (s2 : State) : (setArm a0 a1 s2).ledger = s2.ledger := rfl
@[simp] theorem setArm_iso (a0 : Nat) (a1 : ArmRec → ArmRec) (s2 : State) : (setArm a0 a1 s2).iso = s2.iso := rfl
@[simp] theorem setArm_mem (a0 : Nat) (a1 : ArmRec → ArmRec) (s2 : State) : (setArm a0 a1 s2).mem = s2.mem := rfl
@[simp] theorem setArm_boot (a0 : Nat) (a1 : ArmRec → ArmRec) (s2 : State) : (setArm a0 a1 s2).boot = s2.boot := rfl
@[simp] theorem setArm_pwr (a0 : Nat) (a1 : ArmRec → ArmRec) (s2 : State) : (setArm a0 a1 s2).pwr = s2.pwr := rfl
@[simp] theorem setArm_disp (a0 : Nat) (a1 : ArmRec → ArmRec) (s2 : State) : (setArm a0 a1 s2).disp = s2.disp := rfl
@[simp] theorem setArm_rg (a0 : Nat) (a1 : ArmRec → ArmRec) (s2 : State) : (setArm a0 a1 s2).rg = s2.rg := rfl
@[simp] theorem setArm_ren (a0 : Nat) (a1 : ArmRec → ArmRec) (s2 : State) : (setArm a0 a1 s2).ren = s2.ren := rfl
@[simp] theorem setArm_lnk (a0 : Nat) (a1 : ArmRec → ArmRec) (s2 : State) : (setArm a0 a1 s2).lnk = s2.lnk := rfl
@[simp] theorem setArm_sense (a0 : Nat) (a1 : ArmRec → ArmRec) (s2 : State) : (setArm a0 a1 s2).sense = s2.sense := rfl
@[simp] theorem setArm_aud (a0 : Nat) (a1 : ArmRec → ArmRec) (s2 : State) : (setArm a0 a1 s2).aud = s2.aud := rfl
@[simp] theorem setArm_mv (a0 : Nat) (a1 : ArmRec → ArmRec) (s2 : State) : (setArm a0 a1 s2).mv = s2.mv := rfl

/-! setPwr -/

@[simp] theorem setPwr_pending (a0 : PowerState → PowerState) (s1 : State) : (setPwr a0 s1).pending = s1.pending := rfl
@[simp] theorem setPwr_gtb (a0 : PowerState → PowerState) (s1 : State) : (setPwr a0 s1).gtb = s1.gtb := rfl
@[simp] theorem setPwr_drawn (a0 : PowerState → PowerState) (s1 : State) : (setPwr a0 s1).drawn = s1.drawn := rfl
@[simp] theorem setPwr_busData (a0 : PowerState → PowerState) (s1 : State) : (setPwr a0 s1).busData = s1.busData := rfl
@[simp] theorem setPwr_regs (a0 : PowerState → PowerState) (s1 : State) : (setPwr a0 s1).regs = s1.regs := rfl
@[simp] theorem setPwr_shadow (a0 : PowerState → PowerState) (s1 : State) : (setPwr a0 s1).shadow = s1.shadow := rfl
@[simp] theorem setPwr_reqRegs (a0 : PowerState → PowerState) (s1 : State) : (setPwr a0 s1).reqRegs = s1.reqRegs := rfl
@[simp] theorem setPwr_tabs (a0 : PowerState → PowerState) (s1 : State) : (setPwr a0 s1).tabs = s1.tabs := rfl
@[simp] theorem setPwr_tabShadow (a0 : PowerState → PowerState) (s1 : State) : (setPwr a0 s1).tabShadow = s1.tabShadow := rfl
@[simp] theorem setPwr_gcp (a0 : PowerState → PowerState) (s1 : State) : (setPwr a0 s1).gcp = s1.gcp := rfl
@[simp] theorem setPwr_hif (a0 : PowerState → PowerState) (s1 : State) : (setPwr a0 s1).hif = s1.hif := rfl
@[simp] theorem setPwr_ledger (a0 : PowerState → PowerState) (s1 : State) : (setPwr a0 s1).ledger = s1.ledger := rfl
@[simp] theorem setPwr_iso (a0 : PowerState → PowerState) (s1 : State) : (setPwr a0 s1).iso = s1.iso := rfl
@[simp] theorem setPwr_mem (a0 : PowerState → PowerState) (s1 : State) : (setPwr a0 s1).mem = s1.mem := rfl
@[simp] theorem setPwr_boot (a0 : PowerState → PowerState) (s1 : State) : (setPwr a0 s1).boot = s1.boot := rfl
@[simp] theorem setPwr_disp (a0 : PowerState → PowerState) (s1 : State) : (setPwr a0 s1).disp = s1.disp := rfl
@[simp] theorem setPwr_rg (a0 : PowerState → PowerState) (s1 : State) : (setPwr a0 s1).rg = s1.rg := rfl
@[simp] theorem setPwr_ren (a0 : PowerState → PowerState) (s1 : State) : (setPwr a0 s1).ren = s1.ren := rfl
@[simp] theorem setPwr_lnk (a0 : PowerState → PowerState) (s1 : State) : (setPwr a0 s1).lnk = s1.lnk := rfl
@[simp] theorem setPwr_trv (a0 : PowerState → PowerState) (s1 : State) : (setPwr a0 s1).trv = s1.trv := rfl
@[simp] theorem setPwr_sense (a0 : PowerState → PowerState) (s1 : State) : (setPwr a0 s1).sense = s1.sense := rfl
@[simp] theorem setPwr_aud (a0 : PowerState → PowerState) (s1 : State) : (setPwr a0 s1).aud = s1.aud := rfl
@[simp] theorem setPwr_mv (a0 : PowerState → PowerState) (s1 : State) : (setPwr a0 s1).mv = s1.mv := rfl
@[simp] theorem setPwr_pwr (a0 : PowerState → PowerState) (s1 : State) : (setPwr a0 s1).pwr = a0 s1.pwr := rfl

/-! wrSh -/

@[simp] theorem wrSh_pending (a0 : Nat) (a1 : Word) (s2 : State) : (wrSh a0 a1 s2).pending = s2.pending := rfl
@[simp] theorem wrSh_gtb (a0 : Nat) (a1 : Word) (s2 : State) : (wrSh a0 a1 s2).gtb = s2.gtb := rfl
@[simp] theorem wrSh_drawn (a0 : Nat) (a1 : Word) (s2 : State) : (wrSh a0 a1 s2).drawn = s2.drawn := rfl
@[simp] theorem wrSh_busData (a0 : Nat) (a1 : Word) (s2 : State) : (wrSh a0 a1 s2).busData = s2.busData := rfl
@[simp] theorem wrSh_regs (a0 : Nat) (a1 : Word) (s2 : State) : (wrSh a0 a1 s2).regs = s2.regs := rfl
@[simp] theorem wrSh_reqRegs (a0 : Nat) (a1 : Word) (s2 : State) : (wrSh a0 a1 s2).reqRegs = s2.reqRegs := rfl
@[simp] theorem wrSh_tabs (a0 : Nat) (a1 : Word) (s2 : State) : (wrSh a0 a1 s2).tabs = s2.tabs := rfl
@[simp] theorem wrSh_tabShadow (a0 : Nat) (a1 : Word) (s2 : State) : (wrSh a0 a1 s2).tabShadow = s2.tabShadow := rfl
@[simp] theorem wrSh_gcp (a0 : Nat) (a1 : Word) (s2 : State) : (wrSh a0 a1 s2).gcp = s2.gcp := rfl
@[simp] theorem wrSh_hif (a0 : Nat) (a1 : Word) (s2 : State) : (wrSh a0 a1 s2).hif = s2.hif := rfl
@[simp] theorem wrSh_ledger (a0 : Nat) (a1 : Word) (s2 : State) : (wrSh a0 a1 s2).ledger = s2.ledger := rfl
@[simp] theorem wrSh_iso (a0 : Nat) (a1 : Word) (s2 : State) : (wrSh a0 a1 s2).iso = s2.iso := rfl
@[simp] theorem wrSh_mem (a0 : Nat) (a1 : Word) (s2 : State) : (wrSh a0 a1 s2).mem = s2.mem := rfl
@[simp] theorem wrSh_boot (a0 : Nat) (a1 : Word) (s2 : State) : (wrSh a0 a1 s2).boot = s2.boot := rfl
@[simp] theorem wrSh_pwr (a0 : Nat) (a1 : Word) (s2 : State) : (wrSh a0 a1 s2).pwr = s2.pwr := rfl
@[simp] theorem wrSh_disp (a0 : Nat) (a1 : Word) (s2 : State) : (wrSh a0 a1 s2).disp = s2.disp := rfl
@[simp] theorem wrSh_rg (a0 : Nat) (a1 : Word) (s2 : State) : (wrSh a0 a1 s2).rg = s2.rg := rfl
@[simp] theorem wrSh_ren (a0 : Nat) (a1 : Word) (s2 : State) : (wrSh a0 a1 s2).ren = s2.ren := rfl
@[simp] theorem wrSh_lnk (a0 : Nat) (a1 : Word) (s2 : State) : (wrSh a0 a1 s2).lnk = s2.lnk := rfl
@[simp] theorem wrSh_trv (a0 : Nat) (a1 : Word) (s2 : State) : (wrSh a0 a1 s2).trv = s2.trv := rfl
@[simp] theorem wrSh_sense (a0 : Nat) (a1 : Word) (s2 : State) : (wrSh a0 a1 s2).sense = s2.sense := rfl
@[simp] theorem wrSh_aud (a0 : Nat) (a1 : Word) (s2 : State) : (wrSh a0 a1 s2).aud = s2.aud := rfl
@[simp] theorem wrSh_mv (a0 : Nat) (a1 : Word) (s2 : State) : (wrSh a0 a1 s2).mv = s2.mv := rfl

/-! setVin -/

@[simp] theorem setVin_pending (a0 : Nat) (a1 : VinState → VinState) (s2 : State) : (setVin a0 a1 s2).pending = s2.pending := rfl
@[simp] theorem setVin_gtb (a0 : Nat) (a1 : VinState → VinState) (s2 : State) : (setVin a0 a1 s2).gtb = s2.gtb := rfl
@[simp] theorem setVin_drawn (a0 : Nat) (a1 : VinState → VinState) (s2 : State) : (setVin a0 a1 s2).drawn = s2.drawn := rfl
@[simp] theorem setVin_busData (a0 : Nat) (a1 : VinState → VinState) (s2 : State) : (setVin a0 a1 s2).busData = s2.busData := rfl
@[simp] theorem setVin_regs (a0 : Nat) (a1 : VinState → VinState) (s2 : State) : (setVin a0 a1 s2).regs = s2.regs := rfl
@[simp] theorem setVin_shadow (a0 : Nat) (a1 : VinState → VinState) (s2 : State) : (setVin a0 a1 s2).shadow = s2.shadow := rfl
@[simp] theorem setVin_reqRegs (a0 : Nat) (a1 : VinState → VinState) (s2 : State) : (setVin a0 a1 s2).reqRegs = s2.reqRegs := rfl
@[simp] theorem setVin_tabs (a0 : Nat) (a1 : VinState → VinState) (s2 : State) : (setVin a0 a1 s2).tabs = s2.tabs := rfl
@[simp] theorem setVin_tabShadow (a0 : Nat) (a1 : VinState → VinState) (s2 : State) : (setVin a0 a1 s2).tabShadow = s2.tabShadow := rfl
@[simp] theorem setVin_gcp (a0 : Nat) (a1 : VinState → VinState) (s2 : State) : (setVin a0 a1 s2).gcp = s2.gcp := rfl
@[simp] theorem setVin_hif (a0 : Nat) (a1 : VinState → VinState) (s2 : State) : (setVin a0 a1 s2).hif = s2.hif := rfl
@[simp] theorem setVin_ledger (a0 : Nat) (a1 : VinState → VinState) (s2 : State) : (setVin a0 a1 s2).ledger = s2.ledger := rfl
@[simp] theorem setVin_iso (a0 : Nat) (a1 : VinState → VinState) (s2 : State) : (setVin a0 a1 s2).iso = s2.iso := rfl
@[simp] theorem setVin_mem (a0 : Nat) (a1 : VinState → VinState) (s2 : State) : (setVin a0 a1 s2).mem = s2.mem := rfl
@[simp] theorem setVin_boot (a0 : Nat) (a1 : VinState → VinState) (s2 : State) : (setVin a0 a1 s2).boot = s2.boot := rfl
@[simp] theorem setVin_pwr (a0 : Nat) (a1 : VinState → VinState) (s2 : State) : (setVin a0 a1 s2).pwr = s2.pwr := rfl
@[simp] theorem setVin_rg (a0 : Nat) (a1 : VinState → VinState) (s2 : State) : (setVin a0 a1 s2).rg = s2.rg := rfl
@[simp] theorem setVin_ren (a0 : Nat) (a1 : VinState → VinState) (s2 : State) : (setVin a0 a1 s2).ren = s2.ren := rfl
@[simp] theorem setVin_lnk (a0 : Nat) (a1 : VinState → VinState) (s2 : State) : (setVin a0 a1 s2).lnk = s2.lnk := rfl
@[simp] theorem setVin_trv (a0 : Nat) (a1 : VinState → VinState) (s2 : State) : (setVin a0 a1 s2).trv = s2.trv := rfl
@[simp] theorem setVin_sense (a0 : Nat) (a1 : VinState → VinState) (s2 : State) : (setVin a0 a1 s2).sense = s2.sense := rfl
@[simp] theorem setVin_aud (a0 : Nat) (a1 : VinState → VinState) (s2 : State) : (setVin a0 a1 s2).aud = s2.aud := rfl
@[simp] theorem setVin_mv (a0 : Nat) (a1 : VinState → VinState) (s2 : State) : (setVin a0 a1 s2).mv = s2.mv := rfl

/-! setTs -/

@[simp] theorem setTs_pending (a0 : Nat) (a1 : TouchRec → TouchRec) (s2 : State) : (setTs a0 a1 s2).pending = s2.pending := rfl
@[simp] theorem setTs_gtb (a0 : Nat) (a1 : TouchRec → TouchRec) (s2 : State) : (setTs a0 a1 s2).gtb = s2.gtb := rfl
@[simp] theorem setTs_drawn (a0 : Nat) (a1 : TouchRec → TouchRec) (s2 : State) : (setTs a0 a1 s2).drawn = s2.drawn := rfl
@[simp] theorem setTs_busData (a0 : Nat) (a1 : TouchRec → TouchRec) (s2 : State) : (setTs a0 a1 s2).busData = s2.busData := rfl
@[simp] theorem setTs_regs (a0 : Nat) (a1 : TouchRec → TouchRec) (s2 : State) : (setTs a0 a1 s2).regs = s2.regs := rfl
@[simp] theorem setTs_shadow (a0 : Nat) (a1 : TouchRec → TouchRec) (s2 : State) : (setTs a0 a1 s2).shadow = s2.shadow := rfl
@[simp] theorem setTs_reqRegs (a0 : Nat) (a1 : TouchRec → TouchRec) (s2 : State) : (setTs a0 a1 s2).reqRegs = s2.reqRegs := rfl
@[simp] theorem setTs_tabs (a0 : Nat) (a1 : TouchRec → TouchRec) (s2 : State) : (setTs a0 a1 s2).tabs = s2.tabs := rfl
@[simp] theorem setTs_tabShadow (a0 : Nat) (a1 : TouchRec → TouchRec) (s2 : State) : (setTs a0 a1 s2).tabShadow = s2.tabShadow := rfl
@[simp] theorem setTs_gcp (a0 : Nat) (a1 : TouchRec → TouchRec) (s2 : State) : (setTs a0 a1 s2).gcp = s2.gcp := rfl
@[simp] theorem setTs_hif (a0 : Nat) (a1 : TouchRec → TouchRec) (s2 : State) : (setTs a0 a1 s2).hif = s2.hif := rfl
@[simp] theorem setTs_ledger (a0 : Nat) (a1 : TouchRec → TouchRec) (s2 : State) : (setTs a0 a1 s2).ledger = s2.ledger := rfl
@[simp] theorem setTs_iso (a0 : Nat) (a1 : TouchRec → TouchRec) (s2 : State) : (setTs a0 a1 s2).iso = s2.iso := rfl
@[simp] theorem setTs_mem (a0 : Nat) (a1 : TouchRec → TouchRec) (s2 : State) : (setTs a0 a1 s2).mem = s2.mem := rfl
@[simp] theorem setTs_boot (a0 : Nat) (a1 : TouchRec → TouchRec) (s2 : State) : (setTs a0 a1 s2).boot = s2.boot := rfl
@[simp] theorem setTs_pwr (a0 : Nat) (a1 : TouchRec → TouchRec) (s2 : State) : (setTs a0 a1 s2).pwr = s2.pwr := rfl
@[simp] theorem setTs_disp (a0 : Nat) (a1 : TouchRec → TouchRec) (s2 : State) : (setTs a0 a1 s2).disp = s2.disp := rfl
@[simp] theorem setTs_rg (a0 : Nat) (a1 : TouchRec → TouchRec) (s2 : State) : (setTs a0 a1 s2).rg = s2.rg := rfl
@[simp] theorem setTs_ren (a0 : Nat) (a1 : TouchRec → TouchRec) (s2 : State) : (setTs a0 a1 s2).ren = s2.ren := rfl
@[simp] theorem setTs_lnk (a0 : Nat) (a1 : TouchRec → TouchRec) (s2 : State) : (setTs a0 a1 s2).lnk = s2.lnk := rfl
@[simp] theorem setTs_trv (a0 : Nat) (a1 : TouchRec → TouchRec) (s2 : State) : (setTs a0 a1 s2).trv = s2.trv := rfl
@[simp] theorem setTs_aud (a0 : Nat) (a1 : TouchRec → TouchRec) (s2 : State) : (setTs a0 a1 s2).aud = s2.aud := rfl
@[simp] theorem setTs_mv (a0 : Nat) (a1 : TouchRec → TouchRec) (s2 : State) : (setTs a0 a1 s2).mv = s2.mv := rfl

/-! setGate -/

@[simp] theorem setGate_pending (a0 : Nat) (a1 : GateRec → GateRec) (s2 : State) : (setGate a0 a1 s2).pending = s2.pending := rfl
@[simp] theorem setGate_gtb (a0 : Nat) (a1 : GateRec → GateRec) (s2 : State) : (setGate a0 a1 s2).gtb = s2.gtb := rfl
@[simp] theorem setGate_drawn (a0 : Nat) (a1 : GateRec → GateRec) (s2 : State) : (setGate a0 a1 s2).drawn = s2.drawn := rfl
@[simp] theorem setGate_busData (a0 : Nat) (a1 : GateRec → GateRec) (s2 : State) : (setGate a0 a1 s2).busData = s2.busData := rfl
@[simp] theorem setGate_regs (a0 : Nat) (a1 : GateRec → GateRec) (s2 : State) : (setGate a0 a1 s2).regs = s2.regs := rfl
@[simp] theorem setGate_shadow (a0 : Nat) (a1 : GateRec → GateRec) (s2 : State) : (setGate a0 a1 s2).shadow = s2.shadow := rfl
@[simp] theorem setGate_reqRegs (a0 : Nat) (a1 : GateRec → GateRec) (s2 : State) : (setGate a0 a1 s2).reqRegs = s2.reqRegs := rfl
@[simp] theorem setGate_tabs (a0 : Nat) (a1 : GateRec → GateRec) (s2 : State) : (setGate a0 a1 s2).tabs = s2.tabs := rfl
@[simp] theorem setGate_tabShadow (a0 : Nat) (a1 : GateRec → GateRec) (s2 : State) : (setGate a0 a1 s2).tabShadow = s2.tabShadow := rfl
@[simp] theorem setGate_gcp (a0 : Nat) (a1 : GateRec → GateRec) (s2 : State) : (setGate a0 a1 s2).gcp = s2.gcp := rfl
@[simp] theorem setGate_hif (a0 : Nat) (a1 : GateRec → GateRec) (s2 : State) : (setGate a0 a1 s2).hif = s2.hif := rfl
@[simp] theorem setGate_ledger (a0 : Nat) (a1 : GateRec → GateRec) (s2 : State) : (setGate a0 a1 s2).ledger = s2.ledger := rfl
@[simp] theorem setGate_iso (a0 : Nat) (a1 : GateRec → GateRec) (s2 : State) : (setGate a0 a1 s2).iso = s2.iso := rfl
@[simp] theorem setGate_mem (a0 : Nat) (a1 : GateRec → GateRec) (s2 : State) : (setGate a0 a1 s2).mem = s2.mem := rfl
@[simp] theorem setGate_boot (a0 : Nat) (a1 : GateRec → GateRec) (s2 : State) : (setGate a0 a1 s2).boot = s2.boot := rfl
@[simp] theorem setGate_disp (a0 : Nat) (a1 : GateRec → GateRec) (s2 : State) : (setGate a0 a1 s2).disp = s2.disp := rfl
@[simp] theorem setGate_rg (a0 : Nat) (a1 : GateRec → GateRec) (s2 : State) : (setGate a0 a1 s2).rg = s2.rg := rfl
@[simp] theorem setGate_ren (a0 : Nat) (a1 : GateRec → GateRec) (s2 : State) : (setGate a0 a1 s2).ren = s2.ren := rfl
@[simp] theorem setGate_lnk (a0 : Nat) (a1 : GateRec → GateRec) (s2 : State) : (setGate a0 a1 s2).lnk = s2.lnk := rfl
@[simp] theorem setGate_trv (a0 : Nat) (a1 : GateRec → GateRec) (s2 : State) : (setGate a0 a1 s2).trv = s2.trv := rfl
@[simp] theorem setGate_sense (a0 : Nat) (a1 : GateRec → GateRec) (s2 : State) : (setGate a0 a1 s2).sense = s2.sense := rfl
@[simp] theorem setGate_aud (a0 : Nat) (a1 : GateRec → GateRec) (s2 : State) : (setGate a0 a1 s2).aud = s2.aud := rfl
@[simp] theorem setGate_mv (a0 : Nat) (a1 : GateRec → GateRec) (s2 : State) : (setGate a0 a1 s2).mv = s2.mv := rfl

/-! setTx -/

@[simp] theorem setTx_pending (a0 : Nat) (a1 : TxState → TxState) (s2 : State) : (setTx a0 a1 s2).pending = s2.pending := rfl
@[simp] theorem setTx_gtb (a0 : Nat) (a1 : TxState → TxState) (s2 : State) : (setTx a0 a1 s2).gtb = s2.gtb := rfl
@[simp] theorem setTx_drawn (a0 : Nat) (a1 : TxState → TxState) (s2 : State) : (setTx a0 a1 s2).drawn = s2.drawn := rfl
@[simp] theorem setTx_busData (a0 : Nat) (a1 : TxState → TxState) (s2 : State) : (setTx a0 a1 s2).busData = s2.busData := rfl
@[simp] theorem setTx_regs (a0 : Nat) (a1 : TxState → TxState) (s2 : State) : (setTx a0 a1 s2).regs = s2.regs := rfl
@[simp] theorem setTx_shadow (a0 : Nat) (a1 : TxState → TxState) (s2 : State) : (setTx a0 a1 s2).shadow = s2.shadow := rfl
@[simp] theorem setTx_reqRegs (a0 : Nat) (a1 : TxState → TxState) (s2 : State) : (setTx a0 a1 s2).reqRegs = s2.reqRegs := rfl
@[simp] theorem setTx_tabs (a0 : Nat) (a1 : TxState → TxState) (s2 : State) : (setTx a0 a1 s2).tabs = s2.tabs := rfl
@[simp] theorem setTx_tabShadow (a0 : Nat) (a1 : TxState → TxState) (s2 : State) : (setTx a0 a1 s2).tabShadow = s2.tabShadow := rfl
@[simp] theorem setTx_gcp (a0 : Nat) (a1 : TxState → TxState) (s2 : State) : (setTx a0 a1 s2).gcp = s2.gcp := rfl
@[simp] theorem setTx_hif (a0 : Nat) (a1 : TxState → TxState) (s2 : State) : (setTx a0 a1 s2).hif = s2.hif := rfl
@[simp] theorem setTx_ledger (a0 : Nat) (a1 : TxState → TxState) (s2 : State) : (setTx a0 a1 s2).ledger = s2.ledger := rfl
@[simp] theorem setTx_iso (a0 : Nat) (a1 : TxState → TxState) (s2 : State) : (setTx a0 a1 s2).iso = s2.iso := rfl
@[simp] theorem setTx_mem (a0 : Nat) (a1 : TxState → TxState) (s2 : State) : (setTx a0 a1 s2).mem = s2.mem := rfl
@[simp] theorem setTx_boot (a0 : Nat) (a1 : TxState → TxState) (s2 : State) : (setTx a0 a1 s2).boot = s2.boot := rfl
@[simp] theorem setTx_pwr (a0 : Nat) (a1 : TxState → TxState) (s2 : State) : (setTx a0 a1 s2).pwr = s2.pwr := rfl
@[simp] theorem setTx_disp (a0 : Nat) (a1 : TxState → TxState) (s2 : State) : (setTx a0 a1 s2).disp = s2.disp := rfl
@[simp] theorem setTx_rg (a0 : Nat) (a1 : TxState → TxState) (s2 : State) : (setTx a0 a1 s2).rg = s2.rg := rfl
@[simp] theorem setTx_ren (a0 : Nat) (a1 : TxState → TxState) (s2 : State) : (setTx a0 a1 s2).ren = s2.ren := rfl
@[simp] theorem setTx_trv (a0 : Nat) (a1 : TxState → TxState) (s2 : State) : (setTx a0 a1 s2).trv = s2.trv := rfl
@[simp] theorem setTx_sense (a0 : Nat) (a1 : TxState → TxState) (s2 : State) : (setTx a0 a1 s2).sense = s2.sense := rfl
@[simp] theorem setTx_aud (a0 : Nat) (a1 : TxState → TxState) (s2 : State) : (setTx a0 a1 s2).aud = s2.aud := rfl
@[simp] theorem setTx_mv (a0 : Nat) (a1 : TxState → TxState) (s2 : State) : (setTx a0 a1 s2).mv = s2.mv := rfl

/-! setTab -/

@[simp] theorem setTab_pending (a0 : Nat) (a1 : Nat) (a2 : Word) (s3 : State) : (setTab a0 a1 a2 s3).pending = s3.pending := rfl
@[simp] theorem setTab_gtb (a0 : Nat) (a1 : Nat) (a2 : Word) (s3 : State) : (setTab a0 a1 a2 s3).gtb = s3.gtb := rfl
@[simp] theorem setTab_drawn (a0 : Nat) (a1 : Nat) (a2 : Word) (s3 : State) : (setTab a0 a1 a2 s3).drawn = s3.drawn := rfl
@[simp] theorem setTab_busData (a0 : Nat) (a1 : Nat) (a2 : Word) (s3 : State) : (setTab a0 a1 a2 s3).busData = s3.busData := rfl
@[simp] theorem setTab_regs (a0 : Nat) (a1 : Nat) (a2 : Word) (s3 : State) : (setTab a0 a1 a2 s3).regs = s3.regs := rfl
@[simp] theorem setTab_shadow (a0 : Nat) (a1 : Nat) (a2 : Word) (s3 : State) : (setTab a0 a1 a2 s3).shadow = s3.shadow := rfl
@[simp] theorem setTab_reqRegs (a0 : Nat) (a1 : Nat) (a2 : Word) (s3 : State) : (setTab a0 a1 a2 s3).reqRegs = s3.reqRegs := rfl
@[simp] theorem setTab_tabShadow (a0 : Nat) (a1 : Nat) (a2 : Word) (s3 : State) : (setTab a0 a1 a2 s3).tabShadow = s3.tabShadow := rfl
@[simp] theorem setTab_gcp (a0 : Nat) (a1 : Nat) (a2 : Word) (s3 : State) : (setTab a0 a1 a2 s3).gcp = s3.gcp := rfl
@[simp] theorem setTab_hif (a0 : Nat) (a1 : Nat) (a2 : Word) (s3 : State) : (setTab a0 a1 a2 s3).hif = s3.hif := rfl
@[simp] theorem setTab_ledger (a0 : Nat) (a1 : Nat) (a2 : Word) (s3 : State) : (setTab a0 a1 a2 s3).ledger = s3.ledger := rfl
@[simp] theorem setTab_iso (a0 : Nat) (a1 : Nat) (a2 : Word) (s3 : State) : (setTab a0 a1 a2 s3).iso = s3.iso := rfl
@[simp] theorem setTab_mem (a0 : Nat) (a1 : Nat) (a2 : Word) (s3 : State) : (setTab a0 a1 a2 s3).mem = s3.mem := rfl
@[simp] theorem setTab_boot (a0 : Nat) (a1 : Nat) (a2 : Word) (s3 : State) : (setTab a0 a1 a2 s3).boot = s3.boot := rfl
@[simp] theorem setTab_pwr (a0 : Nat) (a1 : Nat) (a2 : Word) (s3 : State) : (setTab a0 a1 a2 s3).pwr = s3.pwr := rfl
@[simp] theorem setTab_disp (a0 : Nat) (a1 : Nat) (a2 : Word) (s3 : State) : (setTab a0 a1 a2 s3).disp = s3.disp := rfl
@[simp] theorem setTab_rg (a0 : Nat) (a1 : Nat) (a2 : Word) (s3 : State) : (setTab a0 a1 a2 s3).rg = s3.rg := rfl
@[simp] theorem setTab_ren (a0 : Nat) (a1 : Nat) (a2 : Word) (s3 : State) : (setTab a0 a1 a2 s3).ren = s3.ren := rfl
@[simp] theorem setTab_lnk (a0 : Nat) (a1 : Nat) (a2 : Word) (s3 : State) : (setTab a0 a1 a2 s3).lnk = s3.lnk := rfl
@[simp] theorem setTab_trv (a0 : Nat) (a1 : Nat) (a2 : Word) (s3 : State) : (setTab a0 a1 a2 s3).trv = s3.trv := rfl
@[simp] theorem setTab_sense (a0 : Nat) (a1 : Nat) (a2 : Word) (s3 : State) : (setTab a0 a1 a2 s3).sense = s3.sense := rfl
@[simp] theorem setTab_aud (a0 : Nat) (a1 : Nat) (a2 : Word) (s3 : State) : (setTab a0 a1 a2 s3).aud = s3.aud := rfl
@[simp] theorem setTab_mv (a0 : Nat) (a1 : Nat) (a2 : Word) (s3 : State) : (setTab a0 a1 a2 s3).mv = s3.mv := rfl

/-! setTabSh -/

@[simp] theorem setTabSh_pending (a0 : Nat) (a1 : Nat) (a2 : Word) (s3 : State) : (setTabSh a0 a1 a2 s3).pending = s3.pending := rfl
@[simp] theorem setTabSh_gtb (a0 : Nat) (a1 : Nat) (a2 : Word) (s3 : State) : (setTabSh a0 a1 a2 s3).gtb = s3.gtb := rfl
@[simp] theorem setTabSh_drawn (a0 : Nat) (a1 : Nat) (a2 : Word) (s3 : State) : (setTabSh a0 a1 a2 s3).drawn = s3.drawn := rfl
@[simp] theorem setTabSh_busData (a0 : Nat) (a1 : Nat) (a2 : Word) (s3 : State) : (setTabSh a0 a1 a2 s3).busData = s3.busData := rfl
@[simp] theorem setTabSh_regs (a0 : Nat) (a1 : Nat) (a2 : Word) (s3 : State) : (setTabSh a0 a1 a2 s3).regs = s3.regs := rfl
@[simp] theorem setTabSh_shadow (a0 : Nat) (a1 : Nat) (a2 : Word) (s3 : State) : (setTabSh a0 a1 a2 s3).shadow = s3.shadow := rfl
@[simp] theorem setTabSh_reqRegs (a0 : Nat) (a1 : Nat) (a2 : Word) (s3 : State) : (setTabSh a0 a1 a2 s3).reqRegs = s3.reqRegs := rfl
@[simp] theorem setTabSh_tabs (a0 : Nat) (a1 : Nat) (a2 : Word) (s3 : State) : (setTabSh a0 a1 a2 s3).tabs = s3.tabs := rfl
@[simp] theorem setTabSh_gcp (a0 : Nat) (a1 : Nat) (a2 : Word) (s3 : State) : (setTabSh a0 a1 a2 s3).gcp = s3.gcp := rfl
@[simp] theorem setTabSh_hif (a0 : Nat) (a1 : Nat) (a2 : Word) (s3 : State) : (setTabSh a0 a1 a2 s3).hif = s3.hif := rfl
@[simp] theorem setTabSh_ledger (a0 : Nat) (a1 : Nat) (a2 : Word) (s3 : State) : (setTabSh a0 a1 a2 s3).ledger = s3.ledger := rfl
@[simp] theorem setTabSh_iso (a0 : Nat) (a1 : Nat) (a2 : Word) (s3 : State) : (setTabSh a0 a1 a2 s3).iso = s3.iso := rfl
@[simp] theorem setTabSh_mem (a0 : Nat) (a1 : Nat) (a2 : Word) (s3 : State) : (setTabSh a0 a1 a2 s3).mem = s3.mem := rfl
@[simp] theorem setTabSh_boot (a0 : Nat) (a1 : Nat) (a2 : Word) (s3 : State) : (setTabSh a0 a1 a2 s3).boot = s3.boot := rfl
@[simp] theorem setTabSh_pwr (a0 : Nat) (a1 : Nat) (a2 : Word) (s3 : State) : (setTabSh a0 a1 a2 s3).pwr = s3.pwr := rfl
@[simp] theorem setTabSh_disp (a0 : Nat) (a1 : Nat) (a2 : Word) (s3 : State) : (setTabSh a0 a1 a2 s3).disp = s3.disp := rfl
@[simp] theorem setTabSh_rg (a0 : Nat) (a1 : Nat) (a2 : Word) (s3 : State) : (setTabSh a0 a1 a2 s3).rg = s3.rg := rfl
@[simp] theorem setTabSh_ren (a0 : Nat) (a1 : Nat) (a2 : Word) (s3 : State) : (setTabSh a0 a1 a2 s3).ren = s3.ren := rfl
@[simp] theorem setTabSh_lnk (a0 : Nat) (a1 : Nat) (a2 : Word) (s3 : State) : (setTabSh a0 a1 a2 s3).lnk = s3.lnk := rfl
@[simp] theorem setTabSh_trv (a0 : Nat) (a1 : Nat) (a2 : Word) (s3 : State) : (setTabSh a0 a1 a2 s3).trv = s3.trv := rfl
@[simp] theorem setTabSh_sense (a0 : Nat) (a1 : Nat) (a2 : Word) (s3 : State) : (setTabSh a0 a1 a2 s3).sense = s3.sense := rfl
@[simp] theorem setTabSh_aud (a0 : Nat) (a1 : Nat) (a2 : Word) (s3 : State) : (setTabSh a0 a1 a2 s3).aud = s3.aud := rfl
@[simp] theorem setTabSh_mv (a0 : Nat) (a1 : Nat) (a2 : Word) (s3 : State) : (setTabSh a0 a1 a2 s3).mv = s3.mv := rfl

/-! setEq -/

@[simp] theorem setEq_pending (a0 : Nat) (a1 : Bool) (a2 : EqRec → EqRec) (s3 : State) : (setEq a0 a1 a2 s3).pending = s3.pending := rfl
@[simp] theorem setEq_gtb (a0 : Nat) (a1 : Bool) (a2 : EqRec → EqRec) (s3 : State) : (setEq a0 a1 a2 s3).gtb = s3.gtb := rfl
@[simp] theorem setEq_drawn (a0 : Nat) (a1 : Bool) (a2 : EqRec → EqRec) (s3 : State) : (setEq a0 a1 a2 s3).drawn = s3.drawn := rfl
@[simp] theorem setEq_busData (a0 : Nat) (a1 : Bool) (a2 : EqRec → EqRec) (s3 : State) : (setEq a0 a1 a2 s3).busData = s3.busData := rfl
@[simp] theorem setEq_regs (a0 : Nat) (a1 : Bool) (a2 : EqRec → EqRec) (s3 : State) : (setEq a0 a1 a2 s3).regs = s3.regs := rfl
@[simp] theorem setEq_shadow (a0 : Nat) (a1 : Bool) (a2 : EqRec → EqRec) (s3 : State) : (setEq a0 a1 a2 s3).shadow = s3.shadow := rfl
@[simp] theorem setEq_reqRegs (a0 : Nat) (a1 : Bool) (a2 : EqRec → EqRec) (s3 : State) : (setEq a0 a1 a2 s3).reqRegs = s3.reqRegs := rfl
@[simp] theorem setEq_tabs (a0 : Nat) (a1 : Bool) (a2 : EqRec → EqRec) (s3 : State) : (setEq a0 a1 a2 s3).tabs = s3.tabs := rfl
@[simp] theorem setEq_tabShadow (a0 : Nat) (a1 : Bool) (a2 : EqRec → EqRec) (s3 : State) : (setEq a0 a1 a2 s3).tabShadow = s3.tabShadow := rfl
@[simp] theorem setEq_gcp (a0 : Nat) (a1 : Bool) (a2 : EqRec → EqRec) (s3 : State) : (setEq a0 a1 a2 s3).gcp = s3.gcp := rfl
@[simp] theorem setEq_ledger (a0 : Nat) (a1 : Bool) (a2 : EqRec → EqRec) (s3 : State) : (setEq a0 a1 a2 s3).ledger = s3.ledger := rfl
@[simp] theorem setEq_iso (a0 : Nat) (a1 : Bool) (a2 : EqRec → EqRec) (s3 : State) : (setEq a0 a1 a2 s3).iso = s3.iso := rfl
@[simp] theorem setEq_mem (a0 : Nat) (a1 : Bool) (a2 : EqRec → EqRec) (s3 : State) : (setEq a0 a1 a2 s3).mem = s3.mem := rfl
@[simp] theorem setEq_boot (a0 : Nat) (a1 : Bool) (a2 : EqRec → EqRec) (s3 : State) : (setEq a0 a1 a2 s3).boot = s3.boot := rfl
@[simp] theorem setEq_pwr (a0 : Nat) (a1 : Bool) (a2 : EqRec → EqRec) (s3 : State) : (setEq a0 a1 a2 s3).pwr = s3.pwr := rfl
@[simp] theorem setEq_disp (a0 : Nat) (a1 : Bool) (a2 : EqRec → EqRec) (s3 : State) : (setEq a0 a1 a2 s3).disp = s3.disp := rfl
@[simp] theorem setEq_rg (a0 : Nat) (a1 : Bool) (a2 : EqRec → EqRec) (s3 : State) : (setEq a0 a1 a2 s3).rg = s3.rg := rfl
@[simp] theorem setEq_ren (a0 : Nat) (a1 : Bool) (a2 : EqRec → EqRec) (s3 : State) : (setEq a0 a1 a2 s3).ren = s3.ren := rfl
@[simp] theorem setEq_lnk (a0 : Nat) (a1 : Bool) (a2 : EqRec → EqRec) (s3 : State) : (setEq a0 a1 a2 s3).lnk = s3.lnk := rfl
@[simp] theorem setEq_trv (a0 : Nat) (a1 : Bool) (a2 : EqRec → EqRec) (s3 : State) : (setEq a0 a1 a2 s3).trv = s3.trv := rfl
@[simp] theorem setEq_sense (a0 : Nat) (a1 : Bool) (a2 : EqRec → EqRec) (s3 : State) : (setEq a0 a1 a2 s3).sense = s3.sense := rfl
@[simp] theorem setEq_aud (a0 : Nat) (a1 : Bool) (a2 : EqRec → EqRec) (s3 : State) : (setEq a0 a1 a2 s3).aud = s3.aud := rfl
@[simp] theorem setEq_mv (a0 : Nat) (a1 : Bool) (a2 : EqRec → EqRec) (s3 : State) : (setEq a0 a1 a2 s3).mv = s3.mv := rfl

/-! setRing -/

@[simp] theorem setRing_pending (a0 : Nat) (a1 : Bool) (a2 : RingRec → RingRec) (s3 : State) : (setRing a0 a1 a2 s3).pending = s3.pending := rfl
@[simp] theorem setRing_gtb (a0 : Nat) (a1 : Bool) (a2 : RingRec → RingRec) (s3 : State) : (setRing a0 a1 a2 s3).gtb = s3.gtb := rfl
@[simp] theorem setRing_drawn (a0 : Nat) (a1 : Bool) (a2 : RingRec → RingRec) (s3 : State) : (setRing a0 a1 a2 s3).drawn = s3.drawn := rfl
@[simp] theorem setRing_busData (a0 : Nat) (a1 : Bool) (a2 : RingRec → RingRec) (s3 : State) : (setRing a0 a1 a2 s3).busData = s3.busData := rfl
@[simp] theorem setRing_regs (a0 : Nat) (a1 : Bool) (a2 : RingRec → RingRec) (s3 : State) : (setRing a0 a1 a2 s3).regs = s3.regs := rfl
@[simp] theorem setRing_shadow (a0 : Nat) (a1 : Bool) (a2 : RingRec → RingRec) (s3 : State) : (setRing a0 a1 a2 s3).shadow = s3.shadow := rfl
@[simp] theorem setRing_reqRegs (a0 : Nat) (a1 : Bool) (a2 : RingRec → RingRec) (s3 : State) : (setRing a0 a1 a2 s3).reqRegs = s3.reqRegs := rfl
@[simp] theorem setRing_tabs (a0 : Nat) (a1 : Bool) (a2 : RingRec → RingRec) (s3 : State) : (setRing a0 a1 a2 s3).tabs = s3.tabs := rfl
@[simp] theorem setRing_tabShadow (a0 : Nat) (a1 : Bool) (a2 : RingRec → RingRec) (s3 : State) : (setRing a0 a1 a2 s3).tabShadow = s3.tabShadow := rfl
@[simp] theorem setRing_hif (a0 : Nat) (a1 : Bool) (a2 : RingRec → RingRec) (s3 : State) : (setRing a0 a1 a2 s3).hif = s3.hif := rfl
@[simp] theorem setRing_ledger (a0 : Nat) (a1 : Bool) (a2 : RingRec → RingRec) (s3 : State) : (setRing a0 a1 a2 s3).ledger = s3.ledger := rfl
@[simp] theorem setRing_iso (a0 : Nat) (a1 : Bool) (a2 : RingRec → RingRec) (s3 : State) : (setRing a0 a1 a2 s3).iso = s3.iso := rfl
@[simp] theorem setRing_mem (a0 : Nat) (a1 : Bool) (a2 : RingRec → RingRec) (s3 : State) : (setRing a0 a1 a2 s3).mem = s3.mem := rfl
@[simp] theorem setRing_boot (a0 : Nat) (a1 : Bool) (a2 : RingRec → RingRec) (s3 : State) : (setRing a0 a1 a2 s3).boot = s3.boot := rfl
@[simp] theorem setRing_pwr (a0 : Nat) (a1 : Bool) (a2 : RingRec → RingRec) (s3 : State) : (setRing a0 a1 a2 s3).pwr = s3.pwr := rfl
@[simp] theorem setRing_disp (a0 : Nat) (a1 : Bool) (a2 : RingRec → RingRec) (s3 : State) : (setRing a0 a1 a2 s3).disp = s3.disp := rfl
@[simp] theorem setRing_rg (a0 : Nat) (a1 : Bool) (a2 : RingRec → RingRec) (s3 : State) : (setRing a0 a1 a2 s3).rg = s3.rg := rfl
@[simp] theorem setRing_ren (a0 : Nat) (a1 : Bool) (a2 : RingRec → RingRec) (s3 : State) : (setRing a0 a1 a2 s3).ren = s3.ren := rfl
@[simp] theorem setRing_lnk (a0 : Nat) (a1 : Bool) (a2 : RingRec → RingRec) (s3 : State) : (setRing a0 a1 a2 s3).lnk = s3.lnk := rfl
@[simp] theorem setRing_trv (a0 : Nat) (a1 : Bool) (a2 : RingRec → RingRec) (s3 : State) : (setRing a0 a1 a2 s3).trv = s3.trv := rfl
@[simp] theorem setRing_sense (a0 : Nat) (a1 : Bool) (a2 : RingRec → RingRec) (s3 : State) : (setRing a0 a1 a2 s3).sense = s3.sense := rfl
@[simp] theorem setRing_aud (a0 : Nat) (a1 : Bool) (a2 : RingRec → RingRec) (s3 : State) : (setRing a0 a1 a2 s3).aud = s3.aud := rfl
@[simp] theorem setRing_mv (a0 : Nat) (a1 : Bool) (a2 : RingRec → RingRec) (s3 : State) : (setRing a0 a1 a2 s3).mv = s3.mv := rfl

/-! setLnk -/

@[simp] theorem setLnk_pending (a0 : LinkState → LinkState) (s1 : State) : (setLnk a0 s1).pending = s1.pending := rfl
@[simp] theorem setLnk_gtb (a0 : LinkState → LinkState) (s1 : State) : (setLnk a0 s1).gtb = s1.gtb := rfl
@[simp] theorem setLnk_drawn (a0 : LinkState → LinkState) (s1 : State) : (setLnk a0 s1).drawn = s1.drawn := rfl
@[simp] theorem setLnk_busData (a0 : LinkState → LinkState) (s1 : State) : (setLnk a0 s1).busData = s1.busData := rfl
@[simp] theorem setLnk_regs (a0 : LinkState → LinkState) (s1 : State) : (setLnk a0 s1).regs = s1.regs := rfl
@[simp] theorem setLnk_shadow (a0 : LinkState → LinkState) (s1 : State) : (setLnk a0 s1).shadow = s1.shadow := rfl
@[simp] theorem setLnk_reqRegs (a0 : LinkState → LinkState) (s1 : State) : (setLnk a0 s1).reqRegs = s1.reqRegs := rfl
@[simp] theorem setLnk_tabs (a0 : LinkState → LinkState) (s1 : State) : (setLnk a0 s1).tabs = s1.tabs := rfl
@[simp] theorem setLnk_tabShadow (a0 : LinkState → LinkState) (s1 : State) : (setLnk a0 s1).tabShadow = s1.tabShadow := rfl
@[simp] theorem setLnk_gcp (a0 : LinkState → LinkState) (s1 : State) : (setLnk a0 s1).gcp = s1.gcp := rfl
@[simp] theorem setLnk_hif (a0 : LinkState → LinkState) (s1 : State) : (setLnk a0 s1).hif = s1.hif := rfl
@[simp] theorem setLnk_ledger (a0 : LinkState → LinkState) (s1 : State) : (setLnk a0 s1).ledger = s1.ledger := rfl
@[simp] theorem setLnk_iso (a0 : LinkState → LinkState) (s1 : State) : (setLnk a0 s1).iso = s1.iso := rfl
@[simp] theorem setLnk_mem (a0 : LinkState → LinkState) (s1 : State) : (setLnk a0 s1).mem = s1.mem := rfl
@[simp] theorem setLnk_boot (a0 : LinkState → LinkState) (s1 : State) : (setLnk a0 s1).boot = s1.boot := rfl
@[simp] theorem setLnk_pwr (a0 : LinkState → LinkState) (s1 : State) : (setLnk a0 s1).pwr = s1.pwr := rfl
@[simp] theorem setLnk_disp (a0 : LinkState → LinkState) (s1 : State) : (setLnk a0 s1).disp = s1.disp := rfl
@[simp] theorem setLnk_rg (a0 : LinkState → LinkState) (s1 : State) : (setLnk a0 s1).rg = s1.rg := rfl
@[simp] theorem setLnk_ren (a0 : LinkState → LinkState) (s1 : State) : (setLnk a0 s1).ren = s1.ren := rfl
@[simp] theorem setLnk_trv (a0 : LinkState → LinkState) (s1 : State) : (setLnk a0 s1).trv = s1.trv := rfl
@[simp] theorem setLnk_sense (a0 : LinkState → LinkState) (s1 : State) : (setLnk a0 s1).sense = s1.sense := rfl
@[simp] theorem setLnk_aud (a0 : LinkState → LinkState) (s1 : State) : (setLnk a0 s1).aud = s1.aud := rfl
@[simp] theorem setLnk_mv (a0 : LinkState → LinkState) (s1 : State) : (setLnk a0 s1).mv = s1.mv := rfl
@[simp] theorem setLnk_lnk (a0 : LinkState → LinkState) (s1 : State) : (setLnk a0 s1).lnk = a0 s1.lnk := rfl

/-! setLayer -/

@[simp] theorem setLayer_pending (a0 : Nat) (a1 : LayerState → LayerState) (s2 : State) : (setLayer a0 a1 s2).pending = s2.pending := rfl
@[simp] theorem setLayer_gtb (a0 : Nat) (a1 : LayerState → LayerState) (s2 : State) : (setLayer a0 a1 s2).gtb = s2.gtb := rfl
@[simp] theorem setLayer_drawn (a0 : Nat) (a1 : LayerState → LayerState) (s2 : State) : (setLayer a0 a1 s2).drawn = s2.drawn := rfl
@[simp] theorem setLayer_busData (a0 : Nat) (a1 : LayerState → LayerState) (s2 : State) : (setLayer a0 a1 s2).busData = s2.busData := rfl
@[simp] theorem setLayer_regs (a0 : Nat) (a1 : LayerState → LayerState) (s2 : State) : (setLayer a0 a1 s2).regs = s2.regs := rfl
@[simp] theorem setLayer_shadow (a0 : Nat) (a1 : LayerState → LayerState) (s2 : State) : (setLayer a0 a1 s2).shadow = s2.shadow := rfl
@[simp] theorem setLayer_reqRegs (a0 : Nat) (a1 : LayerState → LayerState) (s2 : State) : (setLayer a0 a1 s2).reqRegs = s2.reqRegs := rfl
@[simp] theorem setLayer_tabs (a0 : Nat) (a1 : LayerState → LayerState) (s2 : State) : (setLayer a0 a1 s2).tabs = s2.tabs := rfl
@[simp] theorem setLayer_tabShadow (a0 : Nat) (a1 : LayerState → LayerState) (s2 : State) : (setLayer a0 a1 s2).tabShadow = s2.tabShadow := rfl
@[simp] theorem setLayer_gcp (a0 : Nat) (a1 : LayerState → LayerState) (s2 : State) : (setLayer a0 a1 s2).gcp = s2.gcp := rfl
@[simp] theorem setLayer_hif (a0 : Nat) (a1 : LayerState → LayerState) (s2 : State) : (setLayer a0 a1 s2).hif = s2.hif := rfl
@[simp] theorem setLayer_ledger (a0 : Nat) (a1 : LayerState → LayerState) (s2 : State) : (setLayer a0 a1 s2).ledger = s2.ledger := rfl
@[simp] theorem setLayer_iso (a0 : Nat) (a1 : LayerState → LayerState) (s2 : State) : (setLayer a0 a1 s2).iso = s2.iso := rfl
@[simp] theorem setLayer_mem (a0 : Nat) (a1 : LayerState → LayerState) (s2 : State) : (setLayer a0 a1 s2).mem = s2.mem := rfl
@[simp] theorem setLayer_boot (a0 : Nat) (a1 : LayerState → LayerState) (s2 : State) : (setLayer a0 a1 s2).boot = s2.boot := rfl
@[simp] theorem setLayer_pwr (a0 : Nat) (a1 : LayerState → LayerState) (s2 : State) : (setLayer a0 a1 s2).pwr = s2.pwr := rfl
@[simp] theorem setLayer_rg (a0 : Nat) (a1 : LayerState → LayerState) (s2 : State) : (setLayer a0 a1 s2).rg = s2.rg := rfl
@[simp] theorem setLayer_ren (a0 : Nat) (a1 : LayerState → LayerState) (s2 : State) : (setLayer a0 a1 s2).ren = s2.ren := rfl
@[simp] theorem setLayer_lnk (a0 : Nat) (a1 : LayerState → LayerState) (s2 : State) : (setLayer a0 a1 s2).lnk = s2.lnk := rfl
@[simp] theorem setLayer_trv (a0 : Nat) (a1 : LayerState → LayerState) (s2 : State) : (setLayer a0 a1 s2).trv = s2.trv := rfl
@[simp] theorem setLayer_sense (a0 : Nat) (a1 : LayerState → LayerState) (s2 : State) : (setLayer a0 a1 s2).sense = s2.sense := rfl
@[simp] theorem setLayer_aud (a0 : Nat) (a1 : LayerState → LayerState) (s2 : State) : (setLayer a0 a1 s2).aud = s2.aud := rfl
@[simp] theorem setLayer_mv (a0 : Nat) (a1 : LayerState → LayerState) (s2 : State) : (setLayer a0 a1 s2).mv = s2.mv := rfl

/-! setHap -/

@[simp] theorem setHap_pending (a0 : Nat) (a1 : HapRec → HapRec) (s2 : State) : (setHap a0 a1 s2).pending = s2.pending := rfl
@[simp] theorem setHap_gtb (a0 : Nat) (a1 : HapRec → HapRec) (s2 : State) : (setHap a0 a1 s2).gtb = s2.gtb := rfl
@[simp] theorem setHap_drawn (a0 : Nat) (a1 : HapRec → HapRec) (s2 : State) : (setHap a0 a1 s2).drawn = s2.drawn := rfl
@[simp] theorem setHap_busData (a0 : Nat) (a1 : HapRec → HapRec) (s2 : State) : (setHap a0 a1 s2).busData = s2.busData := rfl
@[simp] theorem setHap_regs (a0 : Nat) (a1 : HapRec → HapRec) (s2 : State) : (setHap a0 a1 s2).regs = s2.regs := rfl
@[simp] theorem setHap_shadow (a0 : Nat) (a1 : HapRec → HapRec) (s2 : State) : (setHap a0 a1 s2).shadow = s2.shadow := rfl
@[simp] theorem setHap_reqRegs (a0 : Nat) (a1 : HapRec → HapRec) (s2 : State) : (setHap a0 a1 s2).reqRegs = s2.reqRegs := rfl
@[simp] theorem setHap_tabs (a0 : Nat) (a1 : HapRec → HapRec) (s2 : State) : (setHap a0 a1 s2).tabs = s2.tabs := rfl
@[simp] theorem setHap_tabShadow (a0 : Nat) (a1 : HapRec → HapRec) (s2 : State) : (setHap a0 a1 s2).tabShadow = s2.tabShadow := rfl
@[simp] theorem setHap_gcp (a0 : Nat) (a1 : HapRec → HapRec) (s2 : State) : (setHap a0 a1 s2).gcp = s2.gcp := rfl
@[simp] theorem setHap_hif (a0 : Nat) (a1 : HapRec → HapRec) (s2 : State) : (setHap a0 a1 s2).hif = s2.hif := rfl
@[simp] theorem setHap_ledger (a0 : Nat) (a1 : HapRec → HapRec) (s2 : State) : (setHap a0 a1 s2).ledger = s2.ledger := rfl
@[simp] theorem setHap_iso (a0 : Nat) (a1 : HapRec → HapRec) (s2 : State) : (setHap a0 a1 s2).iso = s2.iso := rfl
@[simp] theorem setHap_mem (a0 : Nat) (a1 : HapRec → HapRec) (s2 : State) : (setHap a0 a1 s2).mem = s2.mem := rfl
@[simp] theorem setHap_boot (a0 : Nat) (a1 : HapRec → HapRec) (s2 : State) : (setHap a0 a1 s2).boot = s2.boot := rfl
@[simp] theorem setHap_pwr (a0 : Nat) (a1 : HapRec → HapRec) (s2 : State) : (setHap a0 a1 s2).pwr = s2.pwr := rfl
@[simp] theorem setHap_disp (a0 : Nat) (a1 : HapRec → HapRec) (s2 : State) : (setHap a0 a1 s2).disp = s2.disp := rfl
@[simp] theorem setHap_rg (a0 : Nat) (a1 : HapRec → HapRec) (s2 : State) : (setHap a0 a1 s2).rg = s2.rg := rfl
@[simp] theorem setHap_ren (a0 : Nat) (a1 : HapRec → HapRec) (s2 : State) : (setHap a0 a1 s2).ren = s2.ren := rfl
@[simp] theorem setHap_lnk (a0 : Nat) (a1 : HapRec → HapRec) (s2 : State) : (setHap a0 a1 s2).lnk = s2.lnk := rfl
@[simp] theorem setHap_trv (a0 : Nat) (a1 : HapRec → HapRec) (s2 : State) : (setHap a0 a1 s2).trv = s2.trv := rfl
@[simp] theorem setHap_aud (a0 : Nat) (a1 : HapRec → HapRec) (s2 : State) : (setHap a0 a1 s2).aud = s2.aud := rfl
@[simp] theorem setHap_mv (a0 : Nat) (a1 : HapRec → HapRec) (s2 : State) : (setHap a0 a1 s2).mv = s2.mv := rfl

/-! setSpi -/

@[simp] theorem setSpi_pending (a0 : SpiRec → SpiRec) (s1 : State) : (setSpi a0 s1).pending = s1.pending := rfl
@[simp] theorem setSpi_gtb (a0 : SpiRec → SpiRec) (s1 : State) : (setSpi a0 s1).gtb = s1.gtb := rfl
@[simp] theorem setSpi_drawn (a0 : SpiRec → SpiRec) (s1 : State) : (setSpi a0 s1).drawn = s1.drawn := rfl
@[simp] theorem setSpi_busData (a0 : SpiRec → SpiRec) (s1 : State) : (setSpi a0 s1).busData = s1.busData := rfl
@[simp] theorem setSpi_regs (a0 : SpiRec → SpiRec) (s1 : State) : (setSpi a0 s1).regs = s1.regs := rfl
@[simp] theorem setSpi_shadow (a0 : SpiRec → SpiRec) (s1 : State) : (setSpi a0 s1).shadow = s1.shadow := rfl
@[simp] theorem setSpi_reqRegs (a0 : SpiRec → SpiRec) (s1 : State) : (setSpi a0 s1).reqRegs = s1.reqRegs := rfl
@[simp] theorem setSpi_tabs (a0 : SpiRec → SpiRec) (s1 : State) : (setSpi a0 s1).tabs = s1.tabs := rfl
@[simp] theorem setSpi_tabShadow (a0 : SpiRec → SpiRec) (s1 : State) : (setSpi a0 s1).tabShadow = s1.tabShadow := rfl
@[simp] theorem setSpi_hif (a0 : SpiRec → SpiRec) (s1 : State) : (setSpi a0 s1).hif = s1.hif := rfl
@[simp] theorem setSpi_ledger (a0 : SpiRec → SpiRec) (s1 : State) : (setSpi a0 s1).ledger = s1.ledger := rfl
@[simp] theorem setSpi_iso (a0 : SpiRec → SpiRec) (s1 : State) : (setSpi a0 s1).iso = s1.iso := rfl
@[simp] theorem setSpi_mem (a0 : SpiRec → SpiRec) (s1 : State) : (setSpi a0 s1).mem = s1.mem := rfl
@[simp] theorem setSpi_boot (a0 : SpiRec → SpiRec) (s1 : State) : (setSpi a0 s1).boot = s1.boot := rfl
@[simp] theorem setSpi_pwr (a0 : SpiRec → SpiRec) (s1 : State) : (setSpi a0 s1).pwr = s1.pwr := rfl
@[simp] theorem setSpi_disp (a0 : SpiRec → SpiRec) (s1 : State) : (setSpi a0 s1).disp = s1.disp := rfl
@[simp] theorem setSpi_rg (a0 : SpiRec → SpiRec) (s1 : State) : (setSpi a0 s1).rg = s1.rg := rfl
@[simp] theorem setSpi_ren (a0 : SpiRec → SpiRec) (s1 : State) : (setSpi a0 s1).ren = s1.ren := rfl
@[simp] theorem setSpi_lnk (a0 : SpiRec → SpiRec) (s1 : State) : (setSpi a0 s1).lnk = s1.lnk := rfl
@[simp] theorem setSpi_trv (a0 : SpiRec → SpiRec) (s1 : State) : (setSpi a0 s1).trv = s1.trv := rfl
@[simp] theorem setSpi_sense (a0 : SpiRec → SpiRec) (s1 : State) : (setSpi a0 s1).sense = s1.sense := rfl
@[simp] theorem setSpi_aud (a0 : SpiRec → SpiRec) (s1 : State) : (setSpi a0 s1).aud = s1.aud := rfl
@[simp] theorem setSpi_mv (a0 : SpiRec → SpiRec) (s1 : State) : (setSpi a0 s1).mv = s1.mv := rfl

/-! setSession -/

@[simp] theorem setSession_pending (a0 : Word) (a1 : Session → Session) (s2 : State) : (setSession a0 a1 s2).pending = s2.pending := rfl
@[simp] theorem setSession_gtb (a0 : Word) (a1 : Session → Session) (s2 : State) : (setSession a0 a1 s2).gtb = s2.gtb := rfl
@[simp] theorem setSession_drawn (a0 : Word) (a1 : Session → Session) (s2 : State) : (setSession a0 a1 s2).drawn = s2.drawn := rfl
@[simp] theorem setSession_busData (a0 : Word) (a1 : Session → Session) (s2 : State) : (setSession a0 a1 s2).busData = s2.busData := rfl
@[simp] theorem setSession_regs (a0 : Word) (a1 : Session → Session) (s2 : State) : (setSession a0 a1 s2).regs = s2.regs := rfl
@[simp] theorem setSession_shadow (a0 : Word) (a1 : Session → Session) (s2 : State) : (setSession a0 a1 s2).shadow = s2.shadow := rfl
@[simp] theorem setSession_reqRegs (a0 : Word) (a1 : Session → Session) (s2 : State) : (setSession a0 a1 s2).reqRegs = s2.reqRegs := rfl
@[simp] theorem setSession_tabs (a0 : Word) (a1 : Session → Session) (s2 : State) : (setSession a0 a1 s2).tabs = s2.tabs := rfl
@[simp] theorem setSession_tabShadow (a0 : Word) (a1 : Session → Session) (s2 : State) : (setSession a0 a1 s2).tabShadow = s2.tabShadow := rfl
@[simp] theorem setSession_hif (a0 : Word) (a1 : Session → Session) (s2 : State) : (setSession a0 a1 s2).hif = s2.hif := rfl
@[simp] theorem setSession_ledger (a0 : Word) (a1 : Session → Session) (s2 : State) : (setSession a0 a1 s2).ledger = s2.ledger := rfl
@[simp] theorem setSession_iso (a0 : Word) (a1 : Session → Session) (s2 : State) : (setSession a0 a1 s2).iso = s2.iso := rfl
@[simp] theorem setSession_mem (a0 : Word) (a1 : Session → Session) (s2 : State) : (setSession a0 a1 s2).mem = s2.mem := rfl
@[simp] theorem setSession_boot (a0 : Word) (a1 : Session → Session) (s2 : State) : (setSession a0 a1 s2).boot = s2.boot := rfl
@[simp] theorem setSession_pwr (a0 : Word) (a1 : Session → Session) (s2 : State) : (setSession a0 a1 s2).pwr = s2.pwr := rfl
@[simp] theorem setSession_disp (a0 : Word) (a1 : Session → Session) (s2 : State) : (setSession a0 a1 s2).disp = s2.disp := rfl
@[simp] theorem setSession_rg (a0 : Word) (a1 : Session → Session) (s2 : State) : (setSession a0 a1 s2).rg = s2.rg := rfl
@[simp] theorem setSession_ren (a0 : Word) (a1 : Session → Session) (s2 : State) : (setSession a0 a1 s2).ren = s2.ren := rfl
@[simp] theorem setSession_lnk (a0 : Word) (a1 : Session → Session) (s2 : State) : (setSession a0 a1 s2).lnk = s2.lnk := rfl
@[simp] theorem setSession_trv (a0 : Word) (a1 : Session → Session) (s2 : State) : (setSession a0 a1 s2).trv = s2.trv := rfl
@[simp] theorem setSession_sense (a0 : Word) (a1 : Session → Session) (s2 : State) : (setSession a0 a1 s2).sense = s2.sense := rfl
@[simp] theorem setSession_aud (a0 : Word) (a1 : Session → Session) (s2 : State) : (setSession a0 a1 s2).aud = s2.aud := rfl
@[simp] theorem setSession_mv (a0 : Word) (a1 : Session → Session) (s2 : State) : (setSession a0 a1 s2).mv = s2.mv := rfl

/-! setOut -/

@[simp] theorem setOut_pending (a0 : Nat) (a1 : OutState → OutState) (s2 : State) : (setOut a0 a1 s2).pending = s2.pending := rfl
@[simp] theorem setOut_gtb (a0 : Nat) (a1 : OutState → OutState) (s2 : State) : (setOut a0 a1 s2).gtb = s2.gtb := rfl
@[simp] theorem setOut_drawn (a0 : Nat) (a1 : OutState → OutState) (s2 : State) : (setOut a0 a1 s2).drawn = s2.drawn := rfl
@[simp] theorem setOut_busData (a0 : Nat) (a1 : OutState → OutState) (s2 : State) : (setOut a0 a1 s2).busData = s2.busData := rfl
@[simp] theorem setOut_regs (a0 : Nat) (a1 : OutState → OutState) (s2 : State) : (setOut a0 a1 s2).regs = s2.regs := rfl
@[simp] theorem setOut_shadow (a0 : Nat) (a1 : OutState → OutState) (s2 : State) : (setOut a0 a1 s2).shadow = s2.shadow := rfl
@[simp] theorem setOut_reqRegs (a0 : Nat) (a1 : OutState → OutState) (s2 : State) : (setOut a0 a1 s2).reqRegs = s2.reqRegs := rfl
@[simp] theorem setOut_tabs (a0 : Nat) (a1 : OutState → OutState) (s2 : State) : (setOut a0 a1 s2).tabs = s2.tabs := rfl
@[simp] theorem setOut_tabShadow (a0 : Nat) (a1 : OutState → OutState) (s2 : State) : (setOut a0 a1 s2).tabShadow = s2.tabShadow := rfl
@[simp] theorem setOut_gcp (a0 : Nat) (a1 : OutState → OutState) (s2 : State) : (setOut a0 a1 s2).gcp = s2.gcp := rfl
@[simp] theorem setOut_hif (a0 : Nat) (a1 : OutState → OutState) (s2 : State) : (setOut a0 a1 s2).hif = s2.hif := rfl
@[simp] theorem setOut_ledger (a0 : Nat) (a1 : OutState → OutState) (s2 : State) : (setOut a0 a1 s2).ledger = s2.ledger := rfl
@[simp] theorem setOut_iso (a0 : Nat) (a1 : OutState → OutState) (s2 : State) : (setOut a0 a1 s2).iso = s2.iso := rfl
@[simp] theorem setOut_mem (a0 : Nat) (a1 : OutState → OutState) (s2 : State) : (setOut a0 a1 s2).mem = s2.mem := rfl
@[simp] theorem setOut_boot (a0 : Nat) (a1 : OutState → OutState) (s2 : State) : (setOut a0 a1 s2).boot = s2.boot := rfl
@[simp] theorem setOut_pwr (a0 : Nat) (a1 : OutState → OutState) (s2 : State) : (setOut a0 a1 s2).pwr = s2.pwr := rfl
@[simp] theorem setOut_rg (a0 : Nat) (a1 : OutState → OutState) (s2 : State) : (setOut a0 a1 s2).rg = s2.rg := rfl
@[simp] theorem setOut_ren (a0 : Nat) (a1 : OutState → OutState) (s2 : State) : (setOut a0 a1 s2).ren = s2.ren := rfl
@[simp] theorem setOut_lnk (a0 : Nat) (a1 : OutState → OutState) (s2 : State) : (setOut a0 a1 s2).lnk = s2.lnk := rfl
@[simp] theorem setOut_trv (a0 : Nat) (a1 : OutState → OutState) (s2 : State) : (setOut a0 a1 s2).trv = s2.trv := rfl
@[simp] theorem setOut_sense (a0 : Nat) (a1 : OutState → OutState) (s2 : State) : (setOut a0 a1 s2).sense = s2.sense := rfl
@[simp] theorem setOut_aud (a0 : Nat) (a1 : OutState → OutState) (s2 : State) : (setOut a0 a1 s2).aud = s2.aud := rfl
@[simp] theorem setOut_mv (a0 : Nat) (a1 : OutState → OutState) (s2 : State) : (setOut a0 a1 s2).mv = s2.mv := rfl

/-! setBoot -/

@[simp] theorem setBoot_pending (a0 : BootState → BootState) (s1 : State) : (setBoot a0 s1).pending = s1.pending := rfl
@[simp] theorem setBoot_gtb (a0 : BootState → BootState) (s1 : State) : (setBoot a0 s1).gtb = s1.gtb := rfl
@[simp] theorem setBoot_drawn (a0 : BootState → BootState) (s1 : State) : (setBoot a0 s1).drawn = s1.drawn := rfl
@[simp] theorem setBoot_busData (a0 : BootState → BootState) (s1 : State) : (setBoot a0 s1).busData = s1.busData := rfl
@[simp] theorem setBoot_regs (a0 : BootState → BootState) (s1 : State) : (setBoot a0 s1).regs = s1.regs := rfl
@[simp] theorem setBoot_shadow (a0 : BootState → BootState) (s1 : State) : (setBoot a0 s1).shadow = s1.shadow := rfl
@[simp] theorem setBoot_reqRegs (a0 : BootState → BootState) (s1 : State) : (setBoot a0 s1).reqRegs = s1.reqRegs := rfl
@[simp] theorem setBoot_tabs (a0 : BootState → BootState) (s1 : State) : (setBoot a0 s1).tabs = s1.tabs := rfl
@[simp] theorem setBoot_tabShadow (a0 : BootState → BootState) (s1 : State) : (setBoot a0 s1).tabShadow = s1.tabShadow := rfl
@[simp] theorem setBoot_gcp (a0 : BootState → BootState) (s1 : State) : (setBoot a0 s1).gcp = s1.gcp := rfl
@[simp] theorem setBoot_hif (a0 : BootState → BootState) (s1 : State) : (setBoot a0 s1).hif = s1.hif := rfl
@[simp] theorem setBoot_ledger (a0 : BootState → BootState) (s1 : State) : (setBoot a0 s1).ledger = s1.ledger := rfl
@[simp] theorem setBoot_iso (a0 : BootState → BootState) (s1 : State) : (setBoot a0 s1).iso = s1.iso := rfl
@[simp] theorem setBoot_mem (a0 : BootState → BootState) (s1 : State) : (setBoot a0 s1).mem = s1.mem := rfl
@[simp] theorem setBoot_pwr (a0 : BootState → BootState) (s1 : State) : (setBoot a0 s1).pwr = s1.pwr := rfl
@[simp] theorem setBoot_disp (a0 : BootState → BootState) (s1 : State) : (setBoot a0 s1).disp = s1.disp := rfl
@[simp] theorem setBoot_rg (a0 : BootState → BootState) (s1 : State) : (setBoot a0 s1).rg = s1.rg := rfl
@[simp] theorem setBoot_ren (a0 : BootState → BootState) (s1 : State) : (setBoot a0 s1).ren = s1.ren := rfl
@[simp] theorem setBoot_lnk (a0 : BootState → BootState) (s1 : State) : (setBoot a0 s1).lnk = s1.lnk := rfl
@[simp] theorem setBoot_trv (a0 : BootState → BootState) (s1 : State) : (setBoot a0 s1).trv = s1.trv := rfl
@[simp] theorem setBoot_sense (a0 : BootState → BootState) (s1 : State) : (setBoot a0 s1).sense = s1.sense := rfl
@[simp] theorem setBoot_aud (a0 : BootState → BootState) (s1 : State) : (setBoot a0 s1).aud = s1.aud := rfl
@[simp] theorem setBoot_mv (a0 : BootState → BootState) (s1 : State) : (setBoot a0 s1).mv = s1.mv := rfl
@[simp] theorem setBoot_boot (a0 : BootState → BootState) (s1 : State) : (setBoot a0 s1).boot = a0 s1.boot := rfl

/-! setCv -/

@[simp] theorem setCv_pending (a0 : Nat) (a1 : CvRec → CvRec) (s2 : State) : (setCv a0 a1 s2).pending = s2.pending := rfl
@[simp] theorem setCv_gtb (a0 : Nat) (a1 : CvRec → CvRec) (s2 : State) : (setCv a0 a1 s2).gtb = s2.gtb := rfl
@[simp] theorem setCv_drawn (a0 : Nat) (a1 : CvRec → CvRec) (s2 : State) : (setCv a0 a1 s2).drawn = s2.drawn := rfl
@[simp] theorem setCv_busData (a0 : Nat) (a1 : CvRec → CvRec) (s2 : State) : (setCv a0 a1 s2).busData = s2.busData := rfl
@[simp] theorem setCv_regs (a0 : Nat) (a1 : CvRec → CvRec) (s2 : State) : (setCv a0 a1 s2).regs = s2.regs := rfl
@[simp] theorem setCv_shadow (a0 : Nat) (a1 : CvRec → CvRec) (s2 : State) : (setCv a0 a1 s2).shadow = s2.shadow := rfl
@[simp] theorem setCv_reqRegs (a0 : Nat) (a1 : CvRec → CvRec) (s2 : State) : (setCv a0 a1 s2).reqRegs = s2.reqRegs := rfl
@[simp] theorem setCv_tabs (a0 : Nat) (a1 : CvRec → CvRec) (s2 : State) : (setCv a0 a1 s2).tabs = s2.tabs := rfl
@[simp] theorem setCv_tabShadow (a0 : Nat) (a1 : CvRec → CvRec) (s2 : State) : (setCv a0 a1 s2).tabShadow = s2.tabShadow := rfl
@[simp] theorem setCv_gcp (a0 : Nat) (a1 : CvRec → CvRec) (s2 : State) : (setCv a0 a1 s2).gcp = s2.gcp := rfl
@[simp] theorem setCv_hif (a0 : Nat) (a1 : CvRec → CvRec) (s2 : State) : (setCv a0 a1 s2).hif = s2.hif := rfl
@[simp] theorem setCv_ledger (a0 : Nat) (a1 : CvRec → CvRec) (s2 : State) : (setCv a0 a1 s2).ledger = s2.ledger := rfl
@[simp] theorem setCv_iso (a0 : Nat) (a1 : CvRec → CvRec) (s2 : State) : (setCv a0 a1 s2).iso = s2.iso := rfl
@[simp] theorem setCv_mem (a0 : Nat) (a1 : CvRec → CvRec) (s2 : State) : (setCv a0 a1 s2).mem = s2.mem := rfl
@[simp] theorem setCv_boot (a0 : Nat) (a1 : CvRec → CvRec) (s2 : State) : (setCv a0 a1 s2).boot = s2.boot := rfl
@[simp] theorem setCv_pwr (a0 : Nat) (a1 : CvRec → CvRec) (s2 : State) : (setCv a0 a1 s2).pwr = s2.pwr := rfl
@[simp] theorem setCv_disp (a0 : Nat) (a1 : CvRec → CvRec) (s2 : State) : (setCv a0 a1 s2).disp = s2.disp := rfl
@[simp] theorem setCv_rg (a0 : Nat) (a1 : CvRec → CvRec) (s2 : State) : (setCv a0 a1 s2).rg = s2.rg := rfl
@[simp] theorem setCv_ren (a0 : Nat) (a1 : CvRec → CvRec) (s2 : State) : (setCv a0 a1 s2).ren = s2.ren := rfl
@[simp] theorem setCv_lnk (a0 : Nat) (a1 : CvRec → CvRec) (s2 : State) : (setCv a0 a1 s2).lnk = s2.lnk := rfl
@[simp] theorem setCv_trv (a0 : Nat) (a1 : CvRec → CvRec) (s2 : State) : (setCv a0 a1 s2).trv = s2.trv := rfl
@[simp] theorem setCv_sense (a0 : Nat) (a1 : CvRec → CvRec) (s2 : State) : (setCv a0 a1 s2).sense = s2.sense := rfl
@[simp] theorem setCv_aud (a0 : Nat) (a1 : CvRec → CvRec) (s2 : State) : (setCv a0 a1 s2).aud = s2.aud := rfl

/-! setChurn -/

@[simp] theorem setChurn_pending (a0 : Requester) (a1 : ChurnRec → ChurnRec) (s2 : State) : (setChurn a0 a1 s2).pending = s2.pending := rfl
@[simp] theorem setChurn_gtb (a0 : Requester) (a1 : ChurnRec → ChurnRec) (s2 : State) : (setChurn a0 a1 s2).gtb = s2.gtb := rfl
@[simp] theorem setChurn_drawn (a0 : Requester) (a1 : ChurnRec → ChurnRec) (s2 : State) : (setChurn a0 a1 s2).drawn = s2.drawn := rfl
@[simp] theorem setChurn_busData (a0 : Requester) (a1 : ChurnRec → ChurnRec) (s2 : State) : (setChurn a0 a1 s2).busData = s2.busData := rfl
@[simp] theorem setChurn_regs (a0 : Requester) (a1 : ChurnRec → ChurnRec) (s2 : State) : (setChurn a0 a1 s2).regs = s2.regs := rfl
@[simp] theorem setChurn_shadow (a0 : Requester) (a1 : ChurnRec → ChurnRec) (s2 : State) : (setChurn a0 a1 s2).shadow = s2.shadow := rfl
@[simp] theorem setChurn_reqRegs (a0 : Requester) (a1 : ChurnRec → ChurnRec) (s2 : State) : (setChurn a0 a1 s2).reqRegs = s2.reqRegs := rfl
@[simp] theorem setChurn_tabs (a0 : Requester) (a1 : ChurnRec → ChurnRec) (s2 : State) : (setChurn a0 a1 s2).tabs = s2.tabs := rfl
@[simp] theorem setChurn_tabShadow (a0 : Requester) (a1 : ChurnRec → ChurnRec) (s2 : State) : (setChurn a0 a1 s2).tabShadow = s2.tabShadow := rfl
@[simp] theorem setChurn_gcp (a0 : Requester) (a1 : ChurnRec → ChurnRec) (s2 : State) : (setChurn a0 a1 s2).gcp = s2.gcp := rfl
@[simp] theorem setChurn_hif (a0 : Requester) (a1 : ChurnRec → ChurnRec) (s2 : State) : (setChurn a0 a1 s2).hif = s2.hif := rfl
@[simp] theorem setChurn_ledger (a0 : Requester) (a1 : ChurnRec → ChurnRec) (s2 : State) : (setChurn a0 a1 s2).ledger = s2.ledger := rfl
@[simp] theorem setChurn_iso (a0 : Requester) (a1 : ChurnRec → ChurnRec) (s2 : State) : (setChurn a0 a1 s2).iso = s2.iso := rfl
@[simp] theorem setChurn_mem (a0 : Requester) (a1 : ChurnRec → ChurnRec) (s2 : State) : (setChurn a0 a1 s2).mem = s2.mem := rfl
@[simp] theorem setChurn_boot (a0 : Requester) (a1 : ChurnRec → ChurnRec) (s2 : State) : (setChurn a0 a1 s2).boot = s2.boot := rfl
@[simp] theorem setChurn_pwr (a0 : Requester) (a1 : ChurnRec → ChurnRec) (s2 : State) : (setChurn a0 a1 s2).pwr = s2.pwr := rfl
@[simp] theorem setChurn_disp (a0 : Requester) (a1 : ChurnRec → ChurnRec) (s2 : State) : (setChurn a0 a1 s2).disp = s2.disp := rfl
@[simp] theorem setChurn_ren (a0 : Requester) (a1 : ChurnRec → ChurnRec) (s2 : State) : (setChurn a0 a1 s2).ren = s2.ren := rfl
@[simp] theorem setChurn_lnk (a0 : Requester) (a1 : ChurnRec → ChurnRec) (s2 : State) : (setChurn a0 a1 s2).lnk = s2.lnk := rfl
@[simp] theorem setChurn_trv (a0 : Requester) (a1 : ChurnRec → ChurnRec) (s2 : State) : (setChurn a0 a1 s2).trv = s2.trv := rfl
@[simp] theorem setChurn_sense (a0 : Requester) (a1 : ChurnRec → ChurnRec) (s2 : State) : (setChurn a0 a1 s2).sense = s2.sense := rfl
@[simp] theorem setChurn_aud (a0 : Requester) (a1 : ChurnRec → ChurnRec) (s2 : State) : (setChurn a0 a1 s2).aud = s2.aud := rfl
@[simp] theorem setChurn_mv (a0 : Requester) (a1 : ChurnRec → ChurnRec) (s2 : State) : (setChurn a0 a1 s2).mv = s2.mv := rfl

/-! wrReq -/

@[simp] theorem wrReq_pending (a0 : Requester) (a1 : Nat) (a2 : Word) (s3 : State) : (wrReq a0 a1 a2 s3).pending = s3.pending := rfl
@[simp] theorem wrReq_gtb (a0 : Requester) (a1 : Nat) (a2 : Word) (s3 : State) : (wrReq a0 a1 a2 s3).gtb = s3.gtb := rfl
@[simp] theorem wrReq_drawn (a0 : Requester) (a1 : Nat) (a2 : Word) (s3 : State) : (wrReq a0 a1 a2 s3).drawn = s3.drawn := rfl
@[simp] theorem wrReq_busData (a0 : Requester) (a1 : Nat) (a2 : Word) (s3 : State) : (wrReq a0 a1 a2 s3).busData = s3.busData := rfl
@[simp] theorem wrReq_regs (a0 : Requester) (a1 : Nat) (a2 : Word) (s3 : State) : (wrReq a0 a1 a2 s3).regs = s3.regs := rfl
@[simp] theorem wrReq_shadow (a0 : Requester) (a1 : Nat) (a2 : Word) (s3 : State) : (wrReq a0 a1 a2 s3).shadow = s3.shadow := rfl
@[simp] theorem wrReq_tabs (a0 : Requester) (a1 : Nat) (a2 : Word) (s3 : State) : (wrReq a0 a1 a2 s3).tabs = s3.tabs := rfl
@[simp] theorem wrReq_tabShadow (a0 : Requester) (a1 : Nat) (a2 : Word) (s3 : State) : (wrReq a0 a1 a2 s3).tabShadow = s3.tabShadow := rfl
@[simp] theorem wrReq_gcp (a0 : Requester) (a1 : Nat) (a2 : Word) (s3 : State) : (wrReq a0 a1 a2 s3).gcp = s3.gcp := rfl
@[simp] theorem wrReq_hif (a0 : Requester) (a1 : Nat) (a2 : Word) (s3 : State) : (wrReq a0 a1 a2 s3).hif = s3.hif := rfl
@[simp] theorem wrReq_ledger (a0 : Requester) (a1 : Nat) (a2 : Word) (s3 : State) : (wrReq a0 a1 a2 s3).ledger = s3.ledger := rfl
@[simp] theorem wrReq_iso (a0 : Requester) (a1 : Nat) (a2 : Word) (s3 : State) : (wrReq a0 a1 a2 s3).iso = s3.iso := rfl
@[simp] theorem wrReq_mem (a0 : Requester) (a1 : Nat) (a2 : Word) (s3 : State) : (wrReq a0 a1 a2 s3).mem = s3.mem := rfl
@[simp] theorem wrReq_boot (a0 : Requester) (a1 : Nat) (a2 : Word) (s3 : State) : (wrReq a0 a1 a2 s3).boot = s3.boot := rfl
@[simp] theorem wrReq_pwr (a0 : Requester) (a1 : Nat) (a2 : Word) (s3 : State) : (wrReq a0 a1 a2 s3).pwr = s3.pwr := rfl
@[simp] theorem wrReq_disp (a0 : Requester) (a1 : Nat) (a2 : Word) (s3 : State) : (wrReq a0 a1 a2 s3).disp = s3.disp := rfl
@[simp] theorem wrReq_rg (a0 : Requester) (a1 : Nat) (a2 : Word) (s3 : State) : (wrReq a0 a1 a2 s3).rg = s3.rg := rfl
@[simp] theorem wrReq_ren (a0 : Requester) (a1 : Nat) (a2 : Word) (s3 : State) : (wrReq a0 a1 a2 s3).ren = s3.ren := rfl
@[simp] theorem wrReq_lnk (a0 : Requester) (a1 : Nat) (a2 : Word) (s3 : State) : (wrReq a0 a1 a2 s3).lnk = s3.lnk := rfl
@[simp] theorem wrReq_trv (a0 : Requester) (a1 : Nat) (a2 : Word) (s3 : State) : (wrReq a0 a1 a2 s3).trv = s3.trv := rfl
@[simp] theorem wrReq_sense (a0 : Requester) (a1 : Nat) (a2 : Word) (s3 : State) : (wrReq a0 a1 a2 s3).sense = s3.sense := rfl
@[simp] theorem wrReq_aud (a0 : Requester) (a1 : Nat) (a2 : Word) (s3 : State) : (wrReq a0 a1 a2 s3).aud = s3.aud := rfl
@[simp] theorem wrReq_mv (a0 : Requester) (a1 : Nat) (a2 : Word) (s3 : State) : (wrReq a0 a1 a2 s3).mv = s3.mv := rfl

/-! setRen -/

@[simp] theorem setRen_pending (a0 : RenderState → RenderState) (s1 : State) : (setRen a0 s1).pending = s1.pending := rfl
@[simp] theorem setRen_gtb (a0 : RenderState → RenderState) (s1 : State) : (setRen a0 s1).gtb = s1.gtb := rfl
@[simp] theorem setRen_drawn (a0 : RenderState → RenderState) (s1 : State) : (setRen a0 s1).drawn = s1.drawn := rfl
@[simp] theorem setRen_busData (a0 : RenderState → RenderState) (s1 : State) : (setRen a0 s1).busData = s1.busData := rfl
@[simp] theorem setRen_regs (a0 : RenderState → RenderState) (s1 : State) : (setRen a0 s1).regs = s1.regs := rfl
@[simp] theorem setRen_shadow (a0 : RenderState → RenderState) (s1 : State) : (setRen a0 s1).shadow = s1.shadow := rfl
@[simp] theorem setRen_reqRegs (a0 : RenderState → RenderState) (s1 : State) : (setRen a0 s1).reqRegs = s1.reqRegs := rfl
@[simp] theorem setRen_tabs (a0 : RenderState → RenderState) (s1 : State) : (setRen a0 s1).tabs = s1.tabs := rfl
@[simp] theorem setRen_tabShadow (a0 : RenderState → RenderState) (s1 : State) : (setRen a0 s1).tabShadow = s1.tabShadow := rfl
@[simp] theorem setRen_gcp (a0 : RenderState → RenderState) (s1 : State) : (setRen a0 s1).gcp = s1.gcp := rfl
@[simp] theorem setRen_hif (a0 : RenderState → RenderState) (s1 : State) : (setRen a0 s1).hif = s1.hif := rfl
@[simp] theorem setRen_ledger (a0 : RenderState → RenderState) (s1 : State) : (setRen a0 s1).ledger = s1.ledger := rfl
@[simp] theorem setRen_iso (a0 : RenderState → RenderState) (s1 : State) : (setRen a0 s1).iso = s1.iso := rfl
@[simp] theorem setRen_mem (a0 : RenderState → RenderState) (s1 : State) : (setRen a0 s1).mem = s1.mem := rfl
@[simp] theorem setRen_boot (a0 : RenderState → RenderState) (s1 : State) : (setRen a0 s1).boot = s1.boot := rfl
@[simp] theorem setRen_pwr (a0 : RenderState → RenderState) (s1 : State) : (setRen a0 s1).pwr = s1.pwr := rfl
@[simp] theorem setRen_disp (a0 : RenderState → RenderState) (s1 : State) : (setRen a0 s1).disp = s1.disp := rfl
@[simp] theorem setRen_rg (a0 : RenderState → RenderState) (s1 : State) : (setRen a0 s1).rg = s1.rg := rfl
@[simp] theorem setRen_lnk (a0 : RenderState → RenderState) (s1 : State) : (setRen a0 s1).lnk = s1.lnk := rfl
@[simp] theorem setRen_trv (a0 : RenderState → RenderState) (s1 : State) : (setRen a0 s1).trv = s1.trv := rfl
@[simp] theorem setRen_sense (a0 : RenderState → RenderState) (s1 : State) : (setRen a0 s1).sense = s1.sense := rfl
@[simp] theorem setRen_aud (a0 : RenderState → RenderState) (s1 : State) : (setRen a0 s1).aud = s1.aud := rfl
@[simp] theorem setRen_mv (a0 : RenderState → RenderState) (s1 : State) : (setRen a0 s1).mv = s1.mv := rfl
@[simp] theorem setRen_ren (a0 : RenderState → RenderState) (s1 : State) : (setRen a0 s1).ren = a0 s1.ren := rfl

/-! setContract -/

@[simp] theorem setContract_pending (a0 : Nat) (a1 : Nat) (a2 : Contract → Contract) (s3 : State) : (setContract a0 a1 a2 s3).pending = s3.pending := rfl
@[simp] theorem setContract_gtb (a0 : Nat) (a1 : Nat) (a2 : Contract → Contract) (s3 : State) : (setContract a0 a1 a2 s3).gtb = s3.gtb := rfl
@[simp] theorem setContract_drawn (a0 : Nat) (a1 : Nat) (a2 : Contract → Contract) (s3 : State) : (setContract a0 a1 a2 s3).drawn = s3.drawn := rfl
@[simp] theorem setContract_busData (a0 : Nat) (a1 : Nat) (a2 : Contract → Contract) (s3 : State) : (setContract a0 a1 a2 s3).busData = s3.busData := rfl
@[simp] theorem setContract_regs (a0 : Nat) (a1 : Nat) (a2 : Contract → Contract) (s3 : State) : (setContract a0 a1 a2 s3).regs = s3.regs := rfl
@[simp] theorem setContract_shadow (a0 : Nat) (a1 : Nat) (a2 : Contract → Contract) (s3 : State) : (setContract a0 a1 a2 s3).shadow = s3.shadow := rfl
@[simp] theorem setContract_reqRegs (a0 : Nat) (a1 : Nat) (a2 : Contract → Contract) (s3 : State) : (setContract a0 a1 a2 s3).reqRegs = s3.reqRegs := rfl
@[simp] theorem setContract_tabs (a0 : Nat) (a1 : Nat) (a2 : Contract → Contract) (s3 : State) : (setContract a0 a1 a2 s3).tabs = s3.tabs := rfl
@[simp] theorem setContract_tabShadow (a0 : Nat) (a1 : Nat) (a2 : Contract → Contract) (s3 : State) : (setContract a0 a1 a2 s3).tabShadow = s3.tabShadow := rfl
@[simp] theorem setContract_gcp (a0 : Nat) (a1 : Nat) (a2 : Contract → Contract) (s3 : State) : (setContract a0 a1 a2 s3).gcp = s3.gcp := rfl
@[simp] theorem setContract_hif (a0 : Nat) (a1 : Nat) (a2 : Contract → Contract) (s3 : State) : (setContract a0 a1 a2 s3).hif = s3.hif := rfl
@[simp] theorem setContract_iso (a0 : Nat) (a1 : Nat) (a2 : Contract → Contract) (s3 : State) : (setContract a0 a1 a2 s3).iso = s3.iso := rfl
@[simp] theorem setContract_mem (a0 : Nat) (a1 : Nat) (a2 : Contract → Contract) (s3 : State) : (setContract a0 a1 a2 s3).mem = s3.mem := rfl
@[simp] theorem setContract_boot (a0 : Nat) (a1 : Nat) (a2 : Contract → Contract) (s3 : State) : (setContract a0 a1 a2 s3).boot = s3.boot := rfl
@[simp] theorem setContract_pwr (a0 : Nat) (a1 : Nat) (a2 : Contract → Contract) (s3 : State) : (setContract a0 a1 a2 s3).pwr = s3.pwr := rfl
@[simp] theorem setContract_disp (a0 : Nat) (a1 : Nat) (a2 : Contract → Contract) (s3 : State) : (setContract a0 a1 a2 s3).disp = s3.disp := rfl
@[simp] theorem setContract_rg (a0 : Nat) (a1 : Nat) (a2 : Contract → Contract) (s3 : State) : (setContract a0 a1 a2 s3).rg = s3.rg := rfl
@[simp] theorem setContract_ren (a0 : Nat) (a1 : Nat) (a2 : Contract → Contract) (s3 : State) : (setContract a0 a1 a2 s3).ren = s3.ren := rfl
@[simp] theorem setContract_lnk (a0 : Nat) (a1 : Nat) (a2 : Contract → Contract) (s3 : State) : (setContract a0 a1 a2 s3).lnk = s3.lnk := rfl
@[simp] theorem setContract_trv (a0 : Nat) (a1 : Nat) (a2 : Contract → Contract) (s3 : State) : (setContract a0 a1 a2 s3).trv = s3.trv := rfl
@[simp] theorem setContract_sense (a0 : Nat) (a1 : Nat) (a2 : Contract → Contract) (s3 : State) : (setContract a0 a1 a2 s3).sense = s3.sense := rfl
@[simp] theorem setContract_aud (a0 : Nat) (a1 : Nat) (a2 : Contract → Contract) (s3 : State) : (setContract a0 a1 a2 s3).aud = s3.aud := rfl
@[simp] theorem setContract_mv (a0 : Nat) (a1 : Nat) (a2 : Contract → Contract) (s3 : State) : (setContract a0 a1 a2 s3).mv = s3.mv := rfl

/-! setCrl -/

@[simp] theorem setCrl_pending (a0 : Nat) (a1 : CrlState → CrlState) (s2 : State) : (setCrl a0 a1 s2).pending = s2.pending := rfl
@[simp] theorem setCrl_gtb (a0 : Nat) (a1 : CrlState → CrlState) (s2 : State) : (setCrl a0 a1 s2).gtb = s2.gtb := rfl
@[simp] theorem setCrl_drawn (a0 : Nat) (a1 : CrlState → CrlState) (s2 : State) : (setCrl a0 a1 s2).drawn = s2.drawn := rfl
@[simp] theorem setCrl_busData (a0 : Nat) (a1 : CrlState → CrlState) (s2 : State) : (setCrl a0 a1 s2).busData = s2.busData := rfl
@[simp] theorem setCrl_regs (a0 : Nat) (a1 : CrlState → CrlState) (s2 : State) : (setCrl a0 a1 s2).regs = s2.regs := rfl
@[simp] theorem setCrl_shadow (a0 : Nat) (a1 : CrlState → CrlState) (s2 : State) : (setCrl a0 a1 s2).shadow = s2.shadow := rfl
@[simp] theorem setCrl_reqRegs (a0 : Nat) (a1 : CrlState → CrlState) (s2 : State) : (setCrl a0 a1 s2).reqRegs = s2.reqRegs := rfl
@[simp] theorem setCrl_tabs (a0 : Nat) (a1 : CrlState → CrlState) (s2 : State) : (setCrl a0 a1 s2).tabs = s2.tabs := rfl
@[simp] theorem setCrl_tabShadow (a0 : Nat) (a1 : CrlState → CrlState) (s2 : State) : (setCrl a0 a1 s2).tabShadow = s2.tabShadow := rfl
@[simp] theorem setCrl_gcp (a0 : Nat) (a1 : CrlState → CrlState) (s2 : State) : (setCrl a0 a1 s2).gcp = s2.gcp := rfl
@[simp] theorem setCrl_hif (a0 : Nat) (a1 : CrlState → CrlState) (s2 : State) : (setCrl a0 a1 s2).hif = s2.hif := rfl
@[simp] theorem setCrl_ledger (a0 : Nat) (a1 : CrlState → CrlState) (s2 : State) : (setCrl a0 a1 s2).ledger = s2.ledger := rfl
@[simp] theorem setCrl_iso (a0 : Nat) (a1 : CrlState → CrlState) (s2 : State) : (setCrl a0 a1 s2).iso = s2.iso := rfl
@[simp] theorem setCrl_mem (a0 : Nat) (a1 : CrlState → CrlState) (s2 : State) : (setCrl a0 a1 s2).mem = s2.mem := rfl
@[simp] theorem setCrl_boot (a0 : Nat) (a1 : CrlState → CrlState) (s2 : State) : (setCrl a0 a1 s2).boot = s2.boot := rfl
@[simp] theorem setCrl_pwr (a0 : Nat) (a1 : CrlState → CrlState) (s2 : State) : (setCrl a0 a1 s2).pwr = s2.pwr := rfl
@[simp] theorem setCrl_rg (a0 : Nat) (a1 : CrlState → CrlState) (s2 : State) : (setCrl a0 a1 s2).rg = s2.rg := rfl
@[simp] theorem setCrl_ren (a0 : Nat) (a1 : CrlState → CrlState) (s2 : State) : (setCrl a0 a1 s2).ren = s2.ren := rfl
@[simp] theorem setCrl_lnk (a0 : Nat) (a1 : CrlState → CrlState) (s2 : State) : (setCrl a0 a1 s2).lnk = s2.lnk := rfl
@[simp] theorem setCrl_trv (a0 : Nat) (a1 : CrlState → CrlState) (s2 : State) : (setCrl a0 a1 s2).trv = s2.trv := rfl
@[simp] theorem setCrl_sense (a0 : Nat) (a1 : CrlState → CrlState) (s2 : State) : (setCrl a0 a1 s2).sense = s2.sense := rfl
@[simp] theorem setCrl_aud (a0 : Nat) (a1 : CrlState → CrlState) (s2 : State) : (setCrl a0 a1 s2).aud = s2.aud := rfl
@[simp] theorem setCrl_mv (a0 : Nat) (a1 : CrlState → CrlState) (s2 : State) : (setCrl a0 a1 s2).mv = s2.mv := rfl

/-! resetRegs -/

@[simp] theorem resetRegs_pending (a0 : Nat) (a1 : Nat) (s2 : State) : (resetRegs a0 a1 s2).pending = s2.pending := rfl
@[simp] theorem resetRegs_gtb (a0 : Nat) (a1 : Nat) (s2 : State) : (resetRegs a0 a1 s2).gtb = s2.gtb := rfl
@[simp] theorem resetRegs_drawn (a0 : Nat) (a1 : Nat) (s2 : State) : (resetRegs a0 a1 s2).drawn = s2.drawn := rfl
@[simp] theorem resetRegs_busData (a0 : Nat) (a1 : Nat) (s2 : State) : (resetRegs a0 a1 s2).busData = s2.busData := rfl
@[simp] theorem resetRegs_reqRegs (a0 : Nat) (a1 : Nat) (s2 : State) : (resetRegs a0 a1 s2).reqRegs = s2.reqRegs := rfl
@[simp] theorem resetRegs_tabs (a0 : Nat) (a1 : Nat) (s2 : State) : (resetRegs a0 a1 s2).tabs = s2.tabs := rfl
@[simp] theorem resetRegs_tabShadow (a0 : Nat) (a1 : Nat) (s2 : State) : (resetRegs a0 a1 s2).tabShadow = s2.tabShadow := rfl
@[simp] theorem resetRegs_gcp (a0 : Nat) (a1 : Nat) (s2 : State) : (resetRegs a0 a1 s2).gcp = s2.gcp := rfl
@[simp] theorem resetRegs_hif (a0 : Nat) (a1 : Nat) (s2 : State) : (resetRegs a0 a1 s2).hif = s2.hif := rfl
@[simp] theorem resetRegs_ledger (a0 : Nat) (a1 : Nat) (s2 : State) : (resetRegs a0 a1 s2).ledger = s2.ledger := rfl
@[simp] theorem resetRegs_iso (a0 : Nat) (a1 : Nat) (s2 : State) : (resetRegs a0 a1 s2).iso = s2.iso := rfl
@[simp] theorem resetRegs_mem (a0 : Nat) (a1 : Nat) (s2 : State) : (resetRegs a0 a1 s2).mem = s2.mem := rfl
@[simp] theorem resetRegs_boot (a0 : Nat) (a1 : Nat) (s2 : State) : (resetRegs a0 a1 s2).boot = s2.boot := rfl
@[simp] theorem resetRegs_pwr (a0 : Nat) (a1 : Nat) (s2 : State) : (resetRegs a0 a1 s2).pwr = s2.pwr := rfl
@[simp] theorem resetRegs_disp (a0 : Nat) (a1 : Nat) (s2 : State) : (resetRegs a0 a1 s2).disp = s2.disp := rfl
@[simp] theorem resetRegs_rg (a0 : Nat) (a1 : Nat) (s2 : State) : (resetRegs a0 a1 s2).rg = s2.rg := rfl
@[simp] theorem resetRegs_ren (a0 : Nat) (a1 : Nat) (s2 : State) : (resetRegs a0 a1 s2).ren = s2.ren := rfl
@[simp] theorem resetRegs_lnk (a0 : Nat) (a1 : Nat) (s2 : State) : (resetRegs a0 a1 s2).lnk = s2.lnk := rfl
@[simp] theorem resetRegs_trv (a0 : Nat) (a1 : Nat) (s2 : State) : (resetRegs a0 a1 s2).trv = s2.trv := rfl
@[simp] theorem resetRegs_sense (a0 : Nat) (a1 : Nat) (s2 : State) : (resetRegs a0 a1 s2).sense = s2.sense := rfl
@[simp] theorem resetRegs_aud (a0 : Nat) (a1 : Nat) (s2 : State) : (resetRegs a0 a1 s2).aud = s2.aud := rfl
@[simp] theorem resetRegs_mv (a0 : Nat) (a1 : Nat) (s2 : State) : (resetRegs a0 a1 s2).mv = s2.mv := rfl

/-! setOwn -/

@[simp] theorem setOwn_pending (a0 : Nat) (a1 : OwnRec) (s2 : State) : (setOwn a0 a1 s2).pending = s2.pending := rfl
@[simp] theorem setOwn_gtb (a0 : Nat) (a1 : OwnRec) (s2 : State) : (setOwn a0 a1 s2).gtb = s2.gtb := rfl
@[simp] theorem setOwn_drawn (a0 : Nat) (a1 : OwnRec) (s2 : State) : (setOwn a0 a1 s2).drawn = s2.drawn := rfl
@[simp] theorem setOwn_busData (a0 : Nat) (a1 : OwnRec) (s2 : State) : (setOwn a0 a1 s2).busData = s2.busData := rfl
@[simp] theorem setOwn_regs (a0 : Nat) (a1 : OwnRec) (s2 : State) : (setOwn a0 a1 s2).regs = s2.regs := rfl
@[simp] theorem setOwn_shadow (a0 : Nat) (a1 : OwnRec) (s2 : State) : (setOwn a0 a1 s2).shadow = s2.shadow := rfl
@[simp] theorem setOwn_reqRegs (a0 : Nat) (a1 : OwnRec) (s2 : State) : (setOwn a0 a1 s2).reqRegs = s2.reqRegs := rfl
@[simp] theorem setOwn_tabs (a0 : Nat) (a1 : OwnRec) (s2 : State) : (setOwn a0 a1 s2).tabs = s2.tabs := rfl
@[simp] theorem setOwn_tabShadow (a0 : Nat) (a1 : OwnRec) (s2 : State) : (setOwn a0 a1 s2).tabShadow = s2.tabShadow := rfl
@[simp] theorem setOwn_gcp (a0 : Nat) (a1 : OwnRec) (s2 : State) : (setOwn a0 a1 s2).gcp = s2.gcp := rfl
@[simp] theorem setOwn_hif (a0 : Nat) (a1 : OwnRec) (s2 : State) : (setOwn a0 a1 s2).hif = s2.hif := rfl
@[simp] theorem setOwn_ledger (a0 : Nat) (a1 : OwnRec) (s2 : State) : (setOwn a0 a1 s2).ledger = s2.ledger := rfl
@[simp] theorem setOwn_mem (a0 : Nat) (a1 : OwnRec) (s2 : State) : (setOwn a0 a1 s2).mem = s2.mem := rfl
@[simp] theorem setOwn_boot (a0 : Nat) (a1 : OwnRec) (s2 : State) : (setOwn a0 a1 s2).boot = s2.boot := rfl
@[simp] theorem setOwn_pwr (a0 : Nat) (a1 : OwnRec) (s2 : State) : (setOwn a0 a1 s2).pwr = s2.pwr := rfl
@[simp] theorem setOwn_disp (a0 : Nat) (a1 : OwnRec) (s2 : State) : (setOwn a0 a1 s2).disp = s2.disp := rfl
@[simp] theorem setOwn_rg (a0 : Nat) (a1 : OwnRec) (s2 : State) : (setOwn a0 a1 s2).rg = s2.rg := rfl
@[simp] theorem setOwn_ren (a0 : Nat) (a1 : OwnRec) (s2 : State) : (setOwn a0 a1 s2).ren = s2.ren := rfl
@[simp] theorem setOwn_lnk (a0 : Nat) (a1 : OwnRec) (s2 : State) : (setOwn a0 a1 s2).lnk = s2.lnk := rfl
@[simp] theorem setOwn_trv (a0 : Nat) (a1 : OwnRec) (s2 : State) : (setOwn a0 a1 s2).trv = s2.trv := rfl
@[simp] theorem setOwn_sense (a0 : Nat) (a1 : OwnRec) (s2 : State) : (setOwn a0 a1 s2).sense = s2.sense := rfl
@[simp] theorem setOwn_aud (a0 : Nat) (a1 : OwnRec) (s2 : State) : (setOwn a0 a1 s2).aud = s2.aud := rfl
@[simp] theorem setOwn_mv (a0 : Nat) (a1 : OwnRec) (s2 : State) : (setOwn a0 a1 s2).mv = s2.mv := rfl

/-! resetTabs -/

@[simp] theorem resetTabs_pending (a0 : Nat) (a1 : Nat) (s2 : State) : (resetTabs a0 a1 s2).pending = s2.pending := rfl
@[simp] theorem resetTabs_gtb (a0 : Nat) (a1 : Nat) (s2 : State) : (resetTabs a0 a1 s2).gtb = s2.gtb := rfl
@[simp] theorem resetTabs_drawn (a0 : Nat) (a1 : Nat) (s2 : State) : (resetTabs a0 a1 s2).drawn = s2.drawn := rfl
@[simp] theorem resetTabs_busData (a0 : Nat) (a1 : Nat) (s2 : State) : (resetTabs a0 a1 s2).busData = s2.busData := rfl
@[simp] theorem resetTabs_regs (a0 : Nat) (a1 : Nat) (s2 : State) : (resetTabs a0 a1 s2).regs = s2.regs := rfl
@[simp] theorem resetTabs_shadow (a0 : Nat) (a1 : Nat) (s2 : State) : (resetTabs a0 a1 s2).shadow = s2.shadow := rfl
@[simp] theorem resetTabs_reqRegs (a0 : Nat) (a1 : Nat) (s2 : State) : (resetTabs a0 a1 s2).reqRegs = s2.reqRegs := rfl
@[simp] theorem resetTabs_gcp (a0 : Nat) (a1 : Nat) (s2 : State) : (resetTabs a0 a1 s2).gcp = s2.gcp := rfl
@[simp] theorem resetTabs_hif (a0 : Nat) (a1 : Nat) (s2 : State) : (resetTabs a0 a1 s2).hif = s2.hif := rfl
@[simp] theorem resetTabs_ledger (a0 : Nat) (a1 : Nat) (s2 : State) : (resetTabs a0 a1 s2).ledger = s2.ledger := rfl
@[simp] theorem resetTabs_iso (a0 : Nat) (a1 : Nat) (s2 : State) : (resetTabs a0 a1 s2).iso = s2.iso := rfl
@[simp] theorem resetTabs_mem (a0 : Nat) (a1 : Nat) (s2 : State) : (resetTabs a0 a1 s2).mem = s2.mem := rfl
@[simp] theorem resetTabs_boot (a0 : Nat) (a1 : Nat) (s2 : State) : (resetTabs a0 a1 s2).boot = s2.boot := rfl
@[simp] theorem resetTabs_pwr (a0 : Nat) (a1 : Nat) (s2 : State) : (resetTabs a0 a1 s2).pwr = s2.pwr := rfl
@[simp] theorem resetTabs_disp (a0 : Nat) (a1 : Nat) (s2 : State) : (resetTabs a0 a1 s2).disp = s2.disp := rfl
@[simp] theorem resetTabs_rg (a0 : Nat) (a1 : Nat) (s2 : State) : (resetTabs a0 a1 s2).rg = s2.rg := rfl
@[simp] theorem resetTabs_ren (a0 : Nat) (a1 : Nat) (s2 : State) : (resetTabs a0 a1 s2).ren = s2.ren := rfl
@[simp] theorem resetTabs_lnk (a0 : Nat) (a1 : Nat) (s2 : State) : (resetTabs a0 a1 s2).lnk = s2.lnk := rfl
@[simp] theorem resetTabs_trv (a0 : Nat) (a1 : Nat) (s2 : State) : (resetTabs a0 a1 s2).trv = s2.trv := rfl
@[simp] theorem resetTabs_sense (a0 : Nat) (a1 : Nat) (s2 : State) : (resetTabs a0 a1 s2).sense = s2.sense := rfl
@[simp] theorem resetTabs_aud (a0 : Nat) (a1 : Nat) (s2 : State) : (resetTabs a0 a1 s2).aud = s2.aud := rfl
@[simp] theorem resetTabs_mv (a0 : Nat) (a1 : Nat) (s2 : State) : (resetTabs a0 a1 s2).mv = s2.mv := rfl

/-! advance -/

@[simp] theorem advance_pending (a0 : Tick) (s1 : State) : (advance a0 s1).pending = s1.pending := rfl
@[simp] theorem advance_drawn (a0 : Tick) (s1 : State) : (advance a0 s1).drawn = s1.drawn := rfl
@[simp] theorem advance_busData (a0 : Tick) (s1 : State) : (advance a0 s1).busData = s1.busData := rfl
@[simp] theorem advance_regs (a0 : Tick) (s1 : State) : (advance a0 s1).regs = s1.regs := rfl
@[simp] theorem advance_shadow (a0 : Tick) (s1 : State) : (advance a0 s1).shadow = s1.shadow := rfl
@[simp] theorem advance_reqRegs (a0 : Tick) (s1 : State) : (advance a0 s1).reqRegs = s1.reqRegs := rfl
@[simp] theorem advance_tabs (a0 : Tick) (s1 : State) : (advance a0 s1).tabs = s1.tabs := rfl
@[simp] theorem advance_tabShadow (a0 : Tick) (s1 : State) : (advance a0 s1).tabShadow = s1.tabShadow := rfl
@[simp] theorem advance_gcp (a0 : Tick) (s1 : State) : (advance a0 s1).gcp = s1.gcp := rfl
@[simp] theorem advance_hif (a0 : Tick) (s1 : State) : (advance a0 s1).hif = s1.hif := rfl
@[simp] theorem advance_ledger (a0 : Tick) (s1 : State) : (advance a0 s1).ledger = s1.ledger := rfl
@[simp] theorem advance_iso (a0 : Tick) (s1 : State) : (advance a0 s1).iso = s1.iso := rfl
@[simp] theorem advance_mem (a0 : Tick) (s1 : State) : (advance a0 s1).mem = s1.mem := rfl
@[simp] theorem advance_boot (a0 : Tick) (s1 : State) : (advance a0 s1).boot = s1.boot := rfl
@[simp] theorem advance_pwr (a0 : Tick) (s1 : State) : (advance a0 s1).pwr = s1.pwr := rfl
@[simp] theorem advance_disp (a0 : Tick) (s1 : State) : (advance a0 s1).disp = s1.disp := rfl
@[simp] theorem advance_rg (a0 : Tick) (s1 : State) : (advance a0 s1).rg = s1.rg := rfl
@[simp] theorem advance_ren (a0 : Tick) (s1 : State) : (advance a0 s1).ren = s1.ren := rfl
@[simp] theorem advance_lnk (a0 : Tick) (s1 : State) : (advance a0 s1).lnk = s1.lnk := rfl
@[simp] theorem advance_trv (a0 : Tick) (s1 : State) : (advance a0 s1).trv = s1.trv := rfl
@[simp] theorem advance_sense (a0 : Tick) (s1 : State) : (advance a0 s1).sense = s1.sense := rfl
@[simp] theorem advance_aud (a0 : Tick) (s1 : State) : (advance a0 s1).aud = s1.aud := rfl
@[simp] theorem advance_mv (a0 : Tick) (s1 : State) : (advance a0 s1).mv = s1.mv := rfl
@[simp] theorem advance_gtb (a0 : Tick) (s1 : State) : (advance a0 s1).gtb = max s1.gtb a0 := rfl

/-! setFn -/

@[simp] theorem setFn_pending (a0 : Nat) (a1 : FnRec → FnRec) (s2 : State) : (setFn a0 a1 s2).pending = s2.pending := rfl
@[simp] theorem setFn_gtb (a0 : Nat) (a1 : FnRec → FnRec) (s2 : State) : (setFn a0 a1 s2).gtb = s2.gtb := rfl
@[simp] theorem setFn_drawn (a0 : Nat) (a1 : FnRec → FnRec) (s2 : State) : (setFn a0 a1 s2).drawn = s2.drawn := rfl
@[simp] theorem setFn_busData (a0 : Nat) (a1 : FnRec → FnRec) (s2 : State) : (setFn a0 a1 s2).busData = s2.busData := rfl
@[simp] theorem setFn_regs (a0 : Nat) (a1 : FnRec → FnRec) (s2 : State) : (setFn a0 a1 s2).regs = s2.regs := rfl
@[simp] theorem setFn_shadow (a0 : Nat) (a1 : FnRec → FnRec) (s2 : State) : (setFn a0 a1 s2).shadow = s2.shadow := rfl
@[simp] theorem setFn_reqRegs (a0 : Nat) (a1 : FnRec → FnRec) (s2 : State) : (setFn a0 a1 s2).reqRegs = s2.reqRegs := rfl
@[simp] theorem setFn_tabs (a0 : Nat) (a1 : FnRec → FnRec) (s2 : State) : (setFn a0 a1 s2).tabs = s2.tabs := rfl
@[simp] theorem setFn_tabShadow (a0 : Nat) (a1 : FnRec → FnRec) (s2 : State) : (setFn a0 a1 s2).tabShadow = s2.tabShadow := rfl
@[simp] theorem setFn_gcp (a0 : Nat) (a1 : FnRec → FnRec) (s2 : State) : (setFn a0 a1 s2).gcp = s2.gcp := rfl
@[simp] theorem setFn_ledger (a0 : Nat) (a1 : FnRec → FnRec) (s2 : State) : (setFn a0 a1 s2).ledger = s2.ledger := rfl
@[simp] theorem setFn_iso (a0 : Nat) (a1 : FnRec → FnRec) (s2 : State) : (setFn a0 a1 s2).iso = s2.iso := rfl
@[simp] theorem setFn_mem (a0 : Nat) (a1 : FnRec → FnRec) (s2 : State) : (setFn a0 a1 s2).mem = s2.mem := rfl
@[simp] theorem setFn_boot (a0 : Nat) (a1 : FnRec → FnRec) (s2 : State) : (setFn a0 a1 s2).boot = s2.boot := rfl
@[simp] theorem setFn_pwr (a0 : Nat) (a1 : FnRec → FnRec) (s2 : State) : (setFn a0 a1 s2).pwr = s2.pwr := rfl
@[simp] theorem setFn_disp (a0 : Nat) (a1 : FnRec → FnRec) (s2 : State) : (setFn a0 a1 s2).disp = s2.disp := rfl
@[simp] theorem setFn_rg (a0 : Nat) (a1 : FnRec → FnRec) (s2 : State) : (setFn a0 a1 s2).rg = s2.rg := rfl
@[simp] theorem setFn_ren (a0 : Nat) (a1 : FnRec → FnRec) (s2 : State) : (setFn a0 a1 s2).ren = s2.ren := rfl
@[simp] theorem setFn_lnk (a0 : Nat) (a1 : FnRec → FnRec) (s2 : State) : (setFn a0 a1 s2).lnk = s2.lnk := rfl
@[simp] theorem setFn_trv (a0 : Nat) (a1 : FnRec → FnRec) (s2 : State) : (setFn a0 a1 s2).trv = s2.trv := rfl
@[simp] theorem setFn_sense (a0 : Nat) (a1 : FnRec → FnRec) (s2 : State) : (setFn a0 a1 s2).sense = s2.sense := rfl
@[simp] theorem setFn_aud (a0 : Nat) (a1 : FnRec → FnRec) (s2 : State) : (setFn a0 a1 s2).aud = s2.aud := rfl
@[simp] theorem setFn_mv (a0 : Nat) (a1 : FnRec → FnRec) (s2 : State) : (setFn a0 a1 s2).mv = s2.mv := rfl

/-! setIso -/

@[simp] theorem setIso_pending (a0 : IsoState → IsoState) (s1 : State) : (setIso a0 s1).pending = s1.pending := rfl
@[simp] theorem setIso_gtb (a0 : IsoState → IsoState) (s1 : State) : (setIso a0 s1).gtb = s1.gtb := rfl
@[simp] theorem setIso_drawn (a0 : IsoState → IsoState) (s1 : State) : (setIso a0 s1).drawn = s1.drawn := rfl
@[simp] theorem setIso_busData (a0 : IsoState → IsoState) (s1 : State) : (setIso a0 s1).busData = s1.busData := rfl
@[simp] theorem setIso_regs (a0 : IsoState → IsoState) (s1 : State) : (setIso a0 s1).regs = s1.regs := rfl
@[simp] theorem setIso_shadow (a0 : IsoState → IsoState) (s1 : State) : (setIso a0 s1).shadow = s1.shadow := rfl
@[simp] theorem setIso_reqRegs (a0 : IsoState → IsoState) (s1 : State) : (setIso a0 s1).reqRegs = s1.reqRegs := rfl
@[simp] theorem setIso_tabs (a0 : IsoState → IsoState) (s1 : State) : (setIso a0 s1).tabs = s1.tabs := rfl
@[simp] theorem setIso_tabShadow (a0 : IsoState → IsoState) (s1 : State) : (setIso a0 s1).tabShadow = s1.tabShadow := rfl
@[simp] theorem setIso_gcp (a0 : IsoState → IsoState) (s1 : State) : (setIso a0 s1).gcp = s1.gcp := rfl
@[simp] theorem setIso_hif (a0 : IsoState → IsoState) (s1 : State) : (setIso a0 s1).hif = s1.hif := rfl
@[simp] theorem setIso_ledger (a0 : IsoState → IsoState) (s1 : State) : (setIso a0 s1).ledger = s1.ledger := rfl
@[simp] theorem setIso_mem (a0 : IsoState → IsoState) (s1 : State) : (setIso a0 s1).mem = s1.mem := rfl
@[simp] theorem setIso_boot (a0 : IsoState → IsoState) (s1 : State) : (setIso a0 s1).boot = s1.boot := rfl
@[simp] theorem setIso_pwr (a0 : IsoState → IsoState) (s1 : State) : (setIso a0 s1).pwr = s1.pwr := rfl
@[simp] theorem setIso_disp (a0 : IsoState → IsoState) (s1 : State) : (setIso a0 s1).disp = s1.disp := rfl
@[simp] theorem setIso_rg (a0 : IsoState → IsoState) (s1 : State) : (setIso a0 s1).rg = s1.rg := rfl
@[simp] theorem setIso_ren (a0 : IsoState → IsoState) (s1 : State) : (setIso a0 s1).ren = s1.ren := rfl
@[simp] theorem setIso_lnk (a0 : IsoState → IsoState) (s1 : State) : (setIso a0 s1).lnk = s1.lnk := rfl
@[simp] theorem setIso_trv (a0 : IsoState → IsoState) (s1 : State) : (setIso a0 s1).trv = s1.trv := rfl
@[simp] theorem setIso_sense (a0 : IsoState → IsoState) (s1 : State) : (setIso a0 s1).sense = s1.sense := rfl
@[simp] theorem setIso_aud (a0 : IsoState → IsoState) (s1 : State) : (setIso a0 s1).aud = s1.aud := rfl
@[simp] theorem setIso_mv (a0 : IsoState → IsoState) (s1 : State) : (setIso a0 s1).mv = s1.mv := rfl
@[simp] theorem setIso_iso (a0 : IsoState → IsoState) (s1 : State) : (setIso a0 s1).iso = a0 s1.iso := rfl

end Sys2Proof.Laws
end

