-- ==== Sys2Proof/Machine/Pins.lean ====
section
/-!
DEFINITION. Pins.lean: the balls of the package and what they carry (R612 to R616, Tables 22.1 to 22.5), and the state of every signal ball (R617, R619, Table 22.6).
-/

namespace Sys2Proof.Machine

/-- Supply rails at the balls (Table 22.8), by the names of the ball tables. -/
inductive Rail where
  | vss | core | sram | io | an | phy085 | phy18 | q105 | q05
  deriving DecidableEq, Repr

/-- Signals at the balls, by the names of Tables 22.2 to 22.5 and R613 to R615; `c` is true for the complement leg of a pair. -/
inductive Pin where
  | txLane (n : Nat) (c : Bool) | aux (g : Nat) (c : Bool) | dtxHpd (g : Nat) | ppen (g : Nat) | blen (g : Nat)
  | perst (p : Nat) | pcieTx (n : Nat) (c : Bool) | pcieRx (n : Nat) (c : Bool)
  | rxLane (n : Nat) (c : Bool) | vinAux (n : Nat) (c : Bool) | vinHpd (n : Nat)
  | dq (ch i : Nat) | dmi (ch b : Nat) | rdqs (ch b : Nat) (c : Bool) | wck (ch b : Nat) (c : Bool)
  | ck (ch : Nat) (c : Bool) | ca (ch i : Nat) | cs (ch i : Nat) | zq (ch : Nat) | dramResetN
  | touch (n : Nat) | hapDrive (n : Nat) (b : Bool) | hapSense (n : Nat) (c : Bool)
  | hsOut (n : Nat) (right : Bool) | hsRing2 (n : Nat) | hsSleeve (n : Nat) | hsDet (n : Nat) | hsGndsns (n : Nat)
  | clkin | porN | resetN | testEn | qspiClk | qspiCsN | qspiIo (i : Nat)
  | spimSck | spimCsN | spimMosi | spimMiso | spimAlertN | tck | tms | tdi | tdo | trstN
  | tdmBclk (n : Nat) | tdmFsync (n : Nat) | tdmSdo (n : Nat) | tdmSdi (n : Nat)
  deriving DecidableEq, Repr

/-- What a ball carries. -/
inductive Ball where
  | rail (r : Rail)
  | pin (p : Pin)
  deriving DecidableEq, Repr

/-- The n-th of the balls of a row of a template; a ball that no template names is VSS (R612). -/
def ballOf (l : List Ball) (n : Nat) : Ball := l.getD n (.rail .vss)

/-- Display transmit group, Table 22.2: group g, row, offset counted from 0. -/
def txBall (g r o : Nat) : Ball :=
  let v : Ball := .rail .vss
  let lane (i : Nat) (c : Bool) : Ball := .pin (.txLane (4 * g + i) c)
  match r with
  | 1 => ballOf [v, lane 0 false, lane 0 true, v, lane 1 false, lane 1 true] o
  | 3 => ballOf [v, lane 2 false, lane 2 true, v, lane 3 false, lane 3 true] o
  | 4 => ballOf [v, v, .rail .phy085, v, v, .rail .phy085] o
  | 5 => ballOf [v, .pin (.aux g false), .pin (.aux g true), v, .pin (.dtxHpd g), .rail .phy18] o
  | 6 => ballOf [.pin (.ppen g), .pin (.blen g), .rail .io] o
  | _ => v

/-- PCIe rows 7 to 40, Table 22.3: row, column counted from 0. -/
def pcieBall (r o : Nat) : Ball :=
  let v : Ball := .rail .vss
  let n := 32 + (r - 9) / 2
  if r = 7 then ballOf [.rail .phy18, v, .rail .phy18, v, .rail .io] o
  else if r = 8 then ballOf [.pin (.perst 0), .pin (.perst 1), .pin (.perst 2), .pin (.perst 3)] o
  else if r % 2 = 1 then ballOf [v, .pin (.pcieTx n false), .pin (.pcieTx n true), v, .pin (.pcieRx n false), .pin (.pcieRx n true)] o
  else ballOf [v, v, v, v, .rail .phy085] o

/-- DisplayPort inputs, Table 22.4, and the rows 23 and 24 below them: row, column counted from 0. -/
def dpBall (r o : Nat) : Ball :=
  let v : Ball := .rail .vss
  let n := (r - 7) / 4
  let lane (i : Nat) (c : Bool) : Ball := .pin (.rxLane (48 + 4 * n + i) c)
  if r = 23 then (if o % 2 = 0 then .rail .phy085 else v)
  else if r = 24 then v
  else match (r - 7) % 4 with
    | 0 => ballOf [v, lane 0 false, lane 0 true, v, lane 1 false, lane 1 true] o
    | 1 => ballOf [v, v, v, v, .rail .phy085] o
    | 2 => ballOf [v, lane 2 false, lane 2 true, v, lane 3 false, lane 3 true] o
    | _ => ballOf [v, .pin (.vinAux n false), .pin (.vinAux n true), v, .pin (.vinHpd n), .rail .phy18] o

/-- LP5X channels, R614: row, column counted from 0. -/
def dramBall (r o : Nat) : Ball :=
  let v : Ball := .rail .vss
  let ch := o / 12
  let b := o % 12 / 3
  let dq (i : Nat) : Ball := .pin (.dq ch (8 * b + i))
  match r with
  | 48 => ballOf [dq 7, .pin (.dmi ch b)] (o % 3)
  | 47 => ballOf [dq 5, .pin (.rdqs ch b true), dq 6] (o % 3)
  | 46 => ballOf [dq 3, .pin (.rdqs ch b false), dq 4] (o % 3)
  | 45 => ballOf [dq 0, dq 1, dq 2] (o % 3)
  | 44 => ballOf [.pin (.wck ch b false), .pin (.wck ch b true)] (o % 3)
  | 43 => ballOf ([.pin (.ck ch false), .pin (.ck ch true)] ++ (List.range 7).map (fun i => .pin (.ca ch i)) ++ [.pin (.cs ch 0), .pin (.cs ch 1), .pin (.zq ch)]) (o % 12)
  | 42 => if o % 2 = 0 then .rail .q05 else v
  | _ => if o % 2 = 0 then .rail .q105 else v

/-- Haptic channels, R615: channel, column counted from 0. -/
def hapBall (n o : Nat) : Ball :=
  let s (r : Rail) : Ball := .rail (if n % 2 = 0 then r else .vss)
  ballOf [.pin (.hapDrive n false), .pin (.hapDrive n true), s .io, .pin (.hapSense n false), .pin (.hapSense n true), s .an] o

/-- Headsets, R615: row, column counted from 0. -/
def hsBall (r o : Nat) : Ball :=
  let outs (n : Nat) : Ball := ballOf [.pin (.hsOut n false), .pin (.hsOut n true), .pin (.hsRing2 n), .pin (.hsSleeve n)] o
  let dets (n : Nat) : Ball := ballOf [.pin (.hsDet n), .pin (.hsGndsns n)] o
  match r with
  | 34 => outs 0
  | 35 => dets 0
  | 38 => outs 1
  | 39 => dets 1
  | _ => if (r = 31 ∨ r = 33 ∨ r = 37) ∧ o % 2 = 0 then .rail .an else .rail .vss

/-- Control and TDM balls, Table 22.5: row, column. -/
def ctlBall (r c : Nat) : Ball :=
  if r = 7 then .rail (if c % 2 = 1 then .io else .vss)
  else if r = 8 then
    (match c with
     | 8 => .pin .clkin | 10 => .pin .porN | 12 => .pin .resetN | 14 => .pin .dramResetN | 16 => .pin .qspiClk | 17 => .pin .qspiCsN
     | 18 => .pin (.qspiIo 0) | 19 => .pin (.qspiIo 1) | 20 => .pin (.qspiIo 2) | 21 => .pin (.qspiIo 3)
     | 23 => .pin .spimSck | 24 => .pin .spimCsN | 25 => .pin .spimMosi | 26 => .pin .spimMiso | 27 => .pin .spimAlertN
     | 29 => .pin .tck | 30 => .pin .tms | 31 => .pin .tdi | 32 => .pin .tdo | 33 => .pin .trstN | 35 => .pin .testEn
     | _ => .rail .vss)
  else if r = 9 ∧ 9 ≤ c ∧ c < 41 then
    (let n := (c - 9) / 4
     ballOf [.pin (.tdmBclk n), .pin (.tdmFsync n), .pin (.tdmSdo n), .pin (.tdmSdi n)] ((c - 9) % 4))
  else .rail .vss

/-- Touch channels, R615: row, column. -/
def touchBall (r c : Nat) : Ball :=
  if 33 ≤ r then .pin (.touch (32 * (r - 33) + (c - 11))) else if r = 31 ∧ c % 2 = 1 then .rail .an else .rail .vss

/-- What the ball of a row and a column from 1 to 48 carries (R11, R612, Table 22.1). -/
def ballAt (r c : Nat) : Option Ball :=
  if r < 1 ∨ 48 < r ∨ c < 1 ∨ 48 < c then none
  else some
    (if r ≤ 6 then txBall ((c - 1) / 6) r ((c - 1) % 6)
     else if 41 ≤ r then dramBall r (c - 1)
     else if c ≤ 6 then pcieBall r (c - 1)
     else if 43 ≤ c then (if r ≤ 24 then dpBall r (c - 43) else hapBall (r - 25) (c - 43))
     else if r ≤ 10 then ctlBall r c
     else if r ≤ 30 then .rail (if (r + c) % 2 = 0 then .vss else if r ≤ 24 then .core else .sram)
     else if c ≤ 10 then hsBall r (c - 7)
     else touchBall r c)

/-- The state of a signal ball: driven low or high, an input, high impedance, a transmitter in electrical idle, a PCIe lane in detect-quiet, a receiver at high-impedance termination, an output tied into
its clamp, an open drain released, or carrying its signal. -/
inductive PinState where
  | low | high | input | highZ | idle | quiet | unterminated | clamped | released | signal
  deriving DecidableEq, Repr

/-- The backlight enable of a transmit group (R619). -/
def backlight (s : State) (g : Nat) : Bool :=
  let w := rd s (Reg.LNK_TXg_PANEL g)
  getB w Fld.LNK_TXg_PANEL_PPEN && getB w Fld.LNK_TXg_PANEL_BLEN &&
    (!getB w Fld.LNK_TXg_PANEL_BL_AUTO || ((txSt s g).state == 2 && tgOn s g && (outSt s g).latched))

/-- The state of a signal ball outside reset: what Table 22.6 gives until its unit is configured, and from then on what the unit does with it (R112, R495, R505, R506, R619). -/
def pinNow (s : State) (p : Pin) : PinState :=
  let when_ (b : Bool) (x y : PinState) : PinState := if b then x else y
  let dram : Bool := gateState s 4 != .off
  let hpd (n : Nat) : Bool := flg s (Reg.LNK_RXn_CFG n) Fld.LNK_RXn_CFG_HPD_EN
  let flash : Bool := !s.pwr.inReset && s.boot.recovery.isNone
  let tdm (n : Nat) (x : PinState) : PinState := when_ (flg s (Reg.AUD_TDMn_FMT n) Fld.AUD_TDMn_FMT_EN) x .low
  let clock (n : Nat) : PinState := tdm n (when_ (flg s (Reg.AUD_TDMn_FMT n) Fld.AUD_TDMn_FMT_MASTER) .signal .input)
  let type (n : Nat) : Nat := if (hsOf s n).removing.isSome then 0 else fld s (Reg.AUD_HSn_STAT n) Fld.AUD_HSn_STAT_TYPE
  let measuring (n : Nat) : Bool := flg s (Reg.AUD_HSn_STAT n) Fld.AUD_HSn_STAT_MEASURING
  match p with
  | .txLane n _ => when_ ((txSt s (n / 4)).state == 0) .idle .signal
  | .aux g _ => when_ ((txSt s g).state == 0 && (txSt s g).sb.isNone) .highZ .signal
  | .dtxHpd _ | .perst _ => .input
  | .ppen g => when_ (flg s (Reg.LNK_TXg_PANEL g) Fld.LNK_TXg_PANEL_PPEN) .high .low
  | .blen g => when_ (backlight s g) .high .low
  | .pcieTx _ _ | .pcieRx _ _ => when_ s.boot.bootDone.isSome .signal .quiet
  | .rxLane n _ => when_ (hpd ((n - 48) / 4)) .signal .unterminated
  | .vinAux n _ => when_ (fld s (Reg.LNK_RXn_STAT n) Fld.LNK_RXn_STAT_STATE == 0) .highZ .signal
  | .vinHpd n => when_ (hpd n) .high .low
  | .dq _ _ | .dmi _ _ | .rdqs _ _ _ => when_ dram .signal .highZ
  | .wck _ _ _ | .ck _ _ | .ca _ _ | .cs _ _ => when_ dram .signal .low
  | .zq _ => .signal
  | .dramResetN => when_ dram .high .low
  | .touch c => when_ ((List.range 8).any (fun k => sensorOn s k && decide ((geom s k).1 ≤ c) && decide (c < (geom s k).1 + channels s k))) .signal .highZ
  | .hapDrive n b => when_ (hapOn s n && (hapOutput s n).1 == (if b then 2 else 1)) .signal .low
  | .hapSense n _ => when_ (hapOn s n) .input .highZ
  | .hsOut n _ => when_ (hsClamped s n) .clamped .signal
  | .hsRing2 n => if type n = 2 then .low else when_ (type n == 3 || measuring n) .signal .highZ
  | .hsSleeve n => if type n = 1 ∨ type n = 3 then .low else when_ (type n == 2 || measuring n) .signal .highZ
  | .hsDet _ | .hsGndsns _ => .input
  | .clkin | .porN | .resetN | .testEn => .input
  | .qspiClk | .qspiCsN | .qspiIo _ => when_ flash .signal .highZ
  | .spimSck | .spimCsN | .spimMosi => .input
  | .spimMiso => .highZ
  | .spimAlertN => when_ s.gcp.spi.replyReady .low .released
  | .tck | .tms | .tdi | .trstN => .input
  | .tdo => .highZ
  | .tdmBclk n => clock n
  | .tdmFsync n => clock n
  | .tdmSdo n => tdm n .signal
  | .tdmSdi _ => .input

/-- The state of a signal ball: while a reset is asserted every ball has the state of Table 22.6 (R617, R625), which is that of a machine just reset. -/
def pinState (s : State) (p : Pin) : PinState := if s.pwr.inReset then pinNow State.reset p else pinNow s p

end Sys2Proof.Machine
end

