-- ==== Sys2Proof/Tests/Slice0.lean ====
section
/-!
SUPPORT. Tests/Slice0.lean: tests of single commands on fixed values, ill-formed terms that WellFormed refuses, and for every statement with hypotheses a state and operands that meet them, clause by
clause (an operand that a clause's hypotheses do not mention is left out).
-/

namespace Sys2Proof.Tests

open Sys2Proof Sys2Proof.Machine

set_option maxRecDepth 100000
set_option linter.all false
set_option Elab.async false

/-! ### Helpers -/

theorem accepted_of {o : OpInfo} {t : Tick} {q : Request} {s : State} {x : Session}
    (h : portExists q.port = true ∧ portReady o.code q (advance t s) = true ∧ s.boot.recovery = none ∧
      verdict o q (stampOf t q s) (taken t q s) = .new x none ∧ (o.code ≠ 0x0102 ∨ x.state ≠ .opened)) : Accepted o t q s x :=
  ⟨h.1, h.2.1, h.2.2.1, h.2.2.2.1, fun e => h.2.2.2.2.resolve_left (fun n => n e)⟩

theorem served_of {o : OpInfo} {t : Tick} {q : Request} {s : State}
    (h : portExists q.port = true ∧ portReady o.code q (advance t s) = true ∧ s.boot.recovery = none) : Served o t q s :=
  ⟨h.1, h.2.1, h.2.2⟩

theorem lands_of {rq : Requester} {w o : Nat} {s : State}
    (h : (∀ f ∈ s.lnk.faults, faultAims f 0 (portOf s rq.fn.val) 0 0 = false) ∧ reached s rq = true ∧
      windowOff s rq.fn.val (w / 4 * 4) = some o ∧ buffered s rq o = false ∧ miss s rq o true true = none) : Lands rq w o s :=
  ⟨h.1, h.2.1, h.2.2.1, h.2.2.2.1, h.2.2.2.2⟩

/-! ### A device in service -/

/-- The packet key of the sessions below. -/
def key : List Byte := List.replicate 32 7

/-- Ring 1 of PF 0 for Holm, ring 0 for Mainland. -/
def ringPort (holm : Bool) : Port := .ring ⟨0, by decide⟩ holm

/-- An open session of either class on PF 0. -/
def ses (holm : Bool) : Session :=
  { tag := 7, state := .opened, port := ringPort holm, holm := holm, verMajor := 3, verMinor := 2, options := 0, keyId := 1, hostNonce := [], deviceNonce := [],
    pk := if holm then key else [], tOpen := 0, r := 0, h := 0, cache := [], expiredAt := 0, lab := holm }

/-- A packet of a session's with its MAC and its trailer. -/
def packet (op tag flags : Nat) (mac : Bool) (pay : List Byte) : Packet :=
  let p : Packet := { verMajor := 3, verMinor := 2, seq := 1, tag := BitVec.ofNat 32 tag, len := BitVec.ofNat 16 pay.length, flags := BitVec.ofNat 16 (flags + 4 * bit mac), body := pay }
  let b := if mac then pay ++ packetMac key (headerBytes op p) pay else pay
  { p with body := b ++ le 4 (crcOf op { p with body := b }) }

/-- A request of the session of a class. -/
def req (o : OpInfo) (holm : Bool) (pay : List Byte) : Request := ⟨ringPort holm, packet o.code 7 (1 + 2 * bit o.kind.isSome) holm pay⟩

/-- Firmware runs, PF 0 is ACTIVE, a packet waits on a ring of PF 0, its session is open. -/
def up (holm : Bool) : State :=
  let s := State.reset
  { s with boot := { s.boot with running := true }, hif := { s.hif with fns := [(0, { state := .active })] },
           gcp := { s.gcp with rings := [(bit holm, { enable := true, pi := 1, stamps := [5] })], sessions := [ses holm] } }

/-- A request of the session of a class, its body written out: payload, MAC, trailer. -/
def sent (o : OpInfo) (holm : Bool) (len : Nat) (body : List Nat) : Request :=
  ⟨ringPort holm, { verMajor := 3, verMinor := 2, seq := 1, tag := 7, len := BitVec.ofNat 16 len, flags := BitVec.ofNat 16 (1 + 2 * bit o.kind.isSome + 4 * bit holm), body := body.map (BitVec.ofNat 8) }⟩

/-- The next state of an outcome. -/
def nextOf (x : Out) : State := match x with | .next s => s | _ => {}

theorem some_of_isSome {α : Type} {x : Option α} (d : α) (h : x.isSome = true) : x = some (x.getD d) := by
  cases x with
  | none => exact nomatch h
  | some _ => rfl

theorem all_below {n : Nat} {p : Nat → Prop} (h : ∀ k : Fin n, p k.val) : ∀ k, k < n → p k := fun k hk => h ⟨k, hk⟩

theorem plain_of {rq : Requester} {w o : Nat} {s : State}
    (h : ((∀ f ∈ s.lnk.faults, faultAims f 0 (portOf s rq.fn.val) 0 0 = false) ∧ reached s rq = true ∧
      windowOff s rq.fn.val (w / 4 * 4) = some o ∧ buffered s rq o = false ∧ miss s rq o true true = none) ∧
      isPairValue o = false ∧ pairValueOf o = none ∧ o ≠ Reg.REG_CHURN_CTRL ∧ shadowLocked (dropLatch rq s) o = false) : Plain rq w o s :=
  ⟨lands_of h.1, h.2.1, h.2.2.1, h.2.2.2.1, h.2.2.2.2⟩

theorem pairLands_of {rq : Requester} {off : Nat} {v : Word} {s : State}
    (h : ((∀ f ∈ s.lnk.faults, faultAims f 0 (portOf s rq.fn.val) 0 0 = false) ∧ reached s rq = true ∧
      windowOff s rq.fn.val (off / 4 * 4) = some off ∧ buffered s rq off = false ∧ miss s rq off true true = none) ∧
      tget none s.lnk.held (heldKey (portOf s rq.fn.val) 0) = none ∧
      ((∀ f ∈ (armed rq off v s).lnk.faults, faultAims f 0 (portOf (armed rq off v s) rq.fn.val) 0 0 = false) ∧ reached (armed rq off v s) rq = true ∧
      windowOff (armed rq off v s) rq.fn.val ((off + 4) / 4 * 4) = some (off + 4) ∧ buffered (armed rq off v s) rq (off + 4) = false ∧ miss (armed rq off v s) rq (off + 4) true true = none) ∧
      pairMatch (pairRec (armed rq off v s) rq) (off + 4) (~~~v) s.gtb = some v) : PairLands rq off v s :=
  ⟨lands_of h.1, h.2.1, lands_of h.2.2.1, h.2.2.2⟩

/-- A contract of PF 0's. -/
def contract (id : Nat) (holm : Bool) (kind : Kind) : Contract := { id := id, fn := 0, holm := holm, kind := kind, blk := {}, cost := {}, t0 := 0, s0 := 0 }

/-- The firmware's session in service, with more of the state filled in. -/
def upWith (holm : Bool) (f : State → State) : State := f (up holm)

/-- An open session, with its record changed. -/
def upSes (holm : Bool) (f : Session → Session) : State :=
  let s := up holm
  { s with gcp := { s.gcp with sessions := [f (ses holm)] } }

/-- An entry of the ownership table: granted to a Mainland function. -/
def grant (o fn : Nat) (s : State) : State := { s with iso := { s.iso with own := tput {} s.iso.own o { holm := false, granted := true, fn := fn } } }

/-- Gates that stand ON. -/
def gatesOn (gs : List Nat) (s : State) : State := { s with pwr := { s.pwr with gates := gs.map (fun g => (g, { state := .on })) } }

/-- Bytes written out. -/
def bytes (ns : List Nat) : List Byte := ns.map (BitVec.ofNat 8)

/-- The contract that an admission signs. -/
def signedBy (a : Admit) : Contract := match a with | .signed k => k | _ => contract 0 false .dma

/-- A signed image without a body, and the header of a function image with the tag that seals it under a key of zeros. -/
def signedImage : List Byte := bytes [90, 86, 70, 87, 1, 0, 128, 8, 0, 0, 0, 1, 0, 0, 0, 0, 192, 0, 0, 0, 0, 0, 0, 0, 0, 0, 0, 0, 0, 0, 0, 0, 0, 0, 0, 0, 0, 0, 0, 0, 0, 0, 0, 0, 0, 0, 0, 0, 0, 0, 0, 0, 0, 0, 0, 0, 0, 0, 0, 0, 0, 0, 0, 0, 107, 23, 209, 242, 225, 44, 66, 71, 248, 188, 230, 229, 99, 164, 64, 242, 119, 3, 125, 129, 45, 235, 51, 160, 244, 161, 57, 69, 216, 152, 194, 150, 79, 227, 66, 226, 254, 26, 127, 155, 142, 231, 235, 74, 124, 15, 158, 22, 43, 206, 51, 87, 107, 49, 94, 206, 203, 182, 64, 104, 55, 191, 81, 245, 38, 239, 206, 189, 14, 233, 227, 74, 102, 145, 135, 225, 139, 58, 145, 34, 178, 247, 51, 148, 91, 100, 156, 201, 249, 249, 33, 233, 249, 218, 216, 18, 156, 233, 134, 122, 6, 107, 215, 72, 117, 84, 165, 177, 100, 54, 86, 212, 245, 177, 58, 253, 249, 176, 226, 39, 34, 56, 93, 0, 11, 31, 72, 216]

/-- A migration key of zeros in slot 0, and an image sealed under it in host memory, which PF 0 maps at the bottom of its device space. -/
def withImage (s : State) : State :=
  { s with boot := { s.boot with otp := { s.boot.otp with mks := [some (List.replicate 32 0), none] } },
           mem := { s.mem with maps := [⟨0, 4096, 4096, 0, false, true, true, [], none⟩], host := [(4096, 90), (4097, 86), (4098, 70), (4099, 78), (4100, 1), (4104, 96), (4110, 2), (4140, 2), (4176, 67), (4177, 216), (4178, 184), (4179, 108), (4180, 193), (4181, 91), (4182, 183), (4183, 26), (4184, 248), (4185, 44), (4186, 21), (4187, 196), (4188, 207), (4189, 253), (4190, 205), (4191, 221)] } }

/-- The state that FN_RESTORE of a bare image on VF 0 leaves before its reply. -/
def restored (t : Tick) (q : Request) (s : State) : State :=
  let h := handed t q s (ses false)
  let v := noteFault 0 8 false 4096 96 h
  (restoreParts 4 [] (buildFn 0 0 .quiesced (ctxRequester (ctxOf t q s (ses false))) (imageAsk 0 0 (rdIovas h 0 4096 96)) v)).getD v

/-- A contract block (Table 2.4). -/
def blk (cls kind target deadline : Nat) : List Byte :=
  le 1 cls ++ le 1 kind ++ le 2 0 ++ le 4 target ++ le 8 0 ++ le 8 deadline ++ le 4 0 ++ le 4 1 ++ le 4 0 ++ le 4 0

/-- A render cost block (Table 2.5) of some tiles and some bytes read. -/
def cost (tiles rdBytes : Nat) : List Byte := le 4 tiles ++ le 20 0 ++ le 16 0 ++ le 8 rdBytes ++ le 16 0

/-- PF 0 holds half of every pool, and a page table of host memory that holds a compute descriptor at 0x1000 and a render descriptor at 0x1400. -/
def stocked (s : State) : State :=
  let s := wrF (Reg.CLK_ISLn 2) Fld.CLK_ISLn_FREQ_KHZ 1400000 (wrF Reg.DRC_CFG Fld.DRC_CFG_DRB_CAP 300 s)
  { s with hif := { s.hif with fns := [(0, { state := .active, shd := 500, drb := 500, vat := 500 })] },
           mem := { s.mem with maps := [⟨0, 4096, 8192, 0, false, true, true, [], none⟩],
                               host := [(0x1000, 1), (0x1002, 1), (0x1008, 1), (0x100C, 0x40), (0x1400, 1), (0x1404, 32), (0x1406, 32), (0x1408, 1), (0x140C, 0x40), (0x1411, 0x20), (0x1418, 32)] } }

/-- Output `n` runs 640 × 480 at 60 Hz in Bulk mode. -/
def raster (n : Nat) (s : State) : State :=
  let s := wrF (Reg.TG_H0 n) Fld.TG_H0_H_ACTIVE 640 (wrF (Reg.TG_H0 n) Fld.TG_H0_H_TOTAL 800 (wrF (Reg.TG_V0 n) Fld.TG_V0_V_ACTIVE 480 (wrF (Reg.TG_V0 n) Fld.TG_V0_V_TOTAL 525 s)))
  let s := wrB (Reg.TG_CTRL n) Fld.TG_CTRL_ENABLE true (wrB (Reg.TG_CTRL n) Fld.TG_CTRL_MODE true (wr (Reg.TG_PCLK n) 25200000 s))
  setOut n (fun o => { o with latched := true }) s

/-- The state after power-on reset, with more of it filled in. -/
def made (f : State → State) : State := f State.reset

/-- Firmware runs. -/
def awake (s : State) : State := { s with boot := { s.boot with running := true } }

/-- A ring's record in place. -/
def ringAt (k : Nat) (r : RingRec) (s : State) : State := { s with gcp := { s.gcp with rings := [(k, r)] } }

/-- A session in place. -/
def sesAt (x : Session) (s : State) : State := { s with gcp := { s.gcp with sessions := [x] } }

/-- A function's state. -/
def fnIs (fn : Nat) (st : FnState) (s : State) : State := { s with hif := { s.hif with fns := tput {} s.hif.fns fn { state := st, port := 0 } } }

/-- A contract in place. -/
def owes (c : Contract) (s : State) : State := { s with ledger := { s.ledger with contracts := [c] } }

/-- A job of contract 1. -/
def job : Job := { fn := 0, id := 1, inst := 0, holm := false, cls := 1, deadline := 1000000, sect := 100, cmdAddr := 0, fence := 0, desc := parseDesc [], cmds := [] }

/-- A context of that job's on a shader core. -/
def ctx (st : Step) : SCtx := { fn := 0, id := 1, inst := 0, cls := 1, holm := false, deadline := 1000000, step := st }

/-- A job, its contract and a context of its own on core 15. -/
def working (j : Job) (st : Step) (s : State) : State :=
  { s with ren := { s.ren with jobs := [j], cores := [(15, { ctx := some (ctx st) })] } }

/-- A job with no context. -/
def holding (j : Job) (s : State) : State := { s with ren := { s.ren with jobs := [j] } }

/-- A context on every core, as Class 3 work on lent capacity. -/
def full (s : State) : State :=
  { s with ren := { s.ren with cores := (List.range 16).map (fun k => (k, { ctx := some { ctx (.group 0 k) with cls := 3, lent := true } })) } }

/-- A strip. -/
def stripRec (k : Nat) (done : Bool) : Strip := { index := k, complete := done, waiting := if done then [] else [7] }

/-- Output 7 scans in strips, with some of its record filled in. -/
def scans (f : OutState → OutState) (s : State) : State := setOut 7 f (wrB (Reg.TG_CTRL 7) Fld.TG_CTRL_MODE false (raster 7 s))

/-- A scene without a primitive, in slot B of output 7. -/
def scene (s : State) : State :=
  wrDpas (slotBase 7 true) (ascii "ZVRS" ++ le 2 1 ++ le 1 8 ++ le 5 0 ++ le 4 0xC0 ++ le 4 0x40 ++ le 8 0 ++ le 4 780241061) s

/-- Holm holds an object. -/
def holmHas (o : Nat) (s : State) : State := { s with iso := { s.iso with own := tput {} s.iso.own o { holm := true } } }

/-- Holm holds the object, if any, that the register at an offset belongs to. -/
def holmAt (off : Nat) (s : State) : State := match accessOwner 0 off with | .obj o => holmHas o s | _ => s

/-- PF 0 is ACTIVE and its window open to Holm, every gate is ON. -/
def bench (s : State) : State :=
  gatesOn (List.range 0x68) (wrF Reg.ISO_PORT Fld.ISO_PORT_HOLM_PORT 15 { s with hif := { s.hif with fns := [(0, { state := .active })] } })

/-- The state that a batch leaves. -/
def batchState (b : Batch) : State := match b with | .applied s => s | _ => {}

/-- Holm's churn buffer of PF 0. -/
def churnIs (c : ChurnRec) (s : State) : State := { s with rg := { s.rg with churn := [(churnKey (pfReq 0 .holm), c)] } }

/-! ### WellFormed and decoding -/

/-- R104: a VF has no ring for Holm. -/
theorem test_ring_doorbell_of_vf_holm_ring_refused : (Instr.ringDoorbell 0 ⟨4, by decide⟩ true .mainland 1).wellFormed = false := by decide

/-- R148: a VF window is not reached by Holm. -/
theorem test_ring_doorbell_by_holm_in_vf_window_refused : (Instr.ringDoorbell 0 ⟨4, by decide⟩ false .holm 1).wellFormed = false := by decide

/-- The last PF has both rings. -/
theorem test_ring_doorbell_of_last_pf_accepted : (Instr.ringDoorbell 0 ⟨3, by decide⟩ true .holm 1).wellFormed = true := by decide

theorem test_ring_reset_of_vf_holm_ring_refused : (Instr.ringReset 0 ⟨63, by decide⟩ true .mainland true true).wellFormed = false := by decide

theorem test_eq_read_index_of_vf_holm_queue_refused : (Instr.eqReadIndexWrite 0 ⟨63, by decide⟩ true .mainland 0).wellFormed = false := by decide

theorem test_ring_fetch_error_of_vf_holm_ring_refused : (Instr.ringFetchError 0 ⟨4, by decide⟩ true).wellFormed = false := by decide

theorem test_ring_reset_takes_effect_of_vf_holm_ring_refused : (Instr.ringResetTakesEffect 0 ⟨4, by decide⟩ true).wellFormed = false := by decide

theorem test_auth_lock_end_of_vf_holm_ring_refused : (Instr.authLockEnd 0 (.ring ⟨4, by decide⟩ true)).wellFormed = false := by decide

theorem test_request_on_vf_holm_ring_refused : (Instr.identify 0 ⟨.ring ⟨4, by decide⟩ true, packet 0x0101 0 1 false []⟩).wellFormed = false := by decide

theorem test_pcie_timeout_of_vf_holm_ring_refused : (Instr.pcieCompletionTimeout 0 (some (⟨4, by decide⟩, true)) 0).wellFormed = false := by decide

/-- No row of the table has bits. -/
theorem test_no_word_spells_a_command : decodeTableWord 32 0 = none ∧ (State.reset.withFetchWord 32 0).pending = [] := by decide

/-! ### Single commands on fixed values -/

/-- The check value of CRC-32C (R93): the nine ASCII digits. -/
theorem test_crc32c_of_digits : crc32c (ascii "123456789") = 0xE3069283 := by decide +kernel

/-- The hash of "abc" (FIPS 180-4). -/
theorem test_sha256_of_abc : (sha256 (ascii "abc")).take 4 = bytes [0xBA, 0x78, 0x16, 0xBF] := by decide +kernel

/-- A command moves time up to its tick, never back. -/
theorem test_time_moves_to_the_command : (nextOf (exec (.spiReadStatus 5) State.reset)).gtb = 5 ∧ (nextOf (exec (.spiReadStatus 5) { State.reset with gtb := 9 })).gtb = 9 := by
  decide +kernel

/-- R106: 64 packets past RI are accepted, 65 set DB_OVERRUN. -/
theorem test_doorbell_64_and_65 :
    (ringRec (nextOf (exec (.ringDoorbell 5 ⟨0, by decide⟩ true .holm 64) (ringAt 1 { enable := true } (bench State.reset)))) 0 true).pi = 64 ∧
      (ringRec (nextOf (exec (.ringDoorbell 5 ⟨0, by decide⟩ true .holm 65) (ringAt 1 { enable := true } (bench State.reset)))) 0 true).dbOverrun = true := by
  decide +kernel

/-- R577, R557: the complement completes the pair only inside 2,000 ticks. -/
theorem test_pair_window :
    pairMatch { armed := some (Reg.RST_REQ, 1, 100) } (Reg.RST_REQ + 4) (~~~1#32) 2099 = some 1#32 ∧ pairMatch { armed := some (Reg.RST_REQ, 1, 100) } (Reg.RST_REQ + 4) (~~~1#32) 2101 = none := by
  decide +kernel

/-- R542: loss of CLKIN sets CLK_LOST and it stands after the return. -/
theorem test_clk_lost_stands :
    let s := nextOf (exec (.clkinReturn 9) (nextOf (exec (.clkinLoss 5) (nextOf (exec (.powerOnReset 0 true) State.reset)))))
    flg s Reg.CLK_STAT Fld.CLK_STAT_CLK_LOST = true := by
  decide +kernel

/-- R562: the watchdog is enabled once, and from then on runs. -/
theorem test_watchdog_enable : wdRunning (nextOf (exec (.watchdogEnable 5 0 .holm 1 2) (bench State.reset))) = true := by decide +kernel

/-- A supply dip shorter than 2 µs resets nothing; one of 2 µs asserts power-on reset. -/
theorem test_supply_dip :
    (nextOf (exec (.supplyDip 5 0 399) (bench State.reset))).gtb = 5 ∧ (nextOf (exec (.supplyDip 5 0 400) (bench State.reset))).pwr.inReset = true := by decide +kernel

/-- R616: the core supply region holds 252 VDD_CORE balls, 108 VDD_SRAM balls and 360 VSS balls. -/
theorem test_core_supply_balls :
    let l := (List.range 20).flatMap (fun r => (List.range 36).map (fun c => ballAt (11 + r) (7 + c)))
    l.count (some (.rail .core)) = 252 ∧ l.count (some (.rail .sram)) = 108 ∧ l.count (some (.rail .vss)) = 360 := by
  decide +kernel

/-- Balls named by the tables: TC000 and TC255, LN31_N, LN47_RXN, LN63_N, DQ31 of CH3, TDM7_SDI, HC_SNSN_15, HS1_SLEEVE. -/
theorem test_named_balls :
    ballAt 33 11 = some (.pin (.touch 0)) ∧ ballAt 40 42 = some (.pin (.touch 255)) ∧ ballAt 3 48 = some (.pin (.txLane 31 true)) ∧ ballAt 39 6 = some (.pin (.pcieRx 47 true)) ∧
      ballAt 21 48 = some (.pin (.rxLane 63 true)) ∧ ballAt 48 46 = some (.pin (.dq 3 31)) ∧ ballAt 9 40 = some (.pin (.tdmSdi 7)) ∧ ballAt 40 47 = some (.pin (.hapSense 15 true)) ∧
      ballAt 38 10 = some (.pin (.hsSleeve 1)) ∧ ballAt 49 1 = none := by
  decide +kernel

/-- Table 22.6 at reset: transmitters idle, panels off, DRAM reset held, flash released, outputs clamped. -/
theorem test_pins_at_reset :
    pinState State.reset (.txLane 0 false) = .idle ∧ pinState State.reset (.ppen 7) = .low ∧ pinState State.reset .dramResetN = .low ∧ pinState State.reset .qspiCsN = .highZ ∧
      pinState State.reset (.hsOut 0 true) = .clamped ∧ pinState State.reset (.touch 255) = .highZ ∧ pinState State.reset (.tdmSdo 0) = .low ∧ pinState State.reset (.hapDrive 15 true) = .low ∧
      pinState State.reset .spimAlertN = .released ∧ pinState State.reset (.pcieTx 32 false) = .quiet ∧ pinState State.reset (.hsSleeve 1) = .highZ := by
  decide +kernel

/-- R619: with PPEN, BLEN and BL_AUTO the backlight waits for the link. -/
theorem test_backlight_follows_the_link :
    let s := wr (Reg.LNK_TXg_PANEL 3) 7 { State.reset with pwr := { State.reset.pwr with inReset := false } }
    pinState s (.ppen 3) = .high ∧ pinState s (.blen 3) = .low ∧ pinState (wr (Reg.LNK_TXg_PANEL 3) 3 s) (.blen 3) = .high := by
  decide +kernel


/-! ### The machine as a whole -/

theorem hypotheses_StepRunsFrontCommand :
    let c : Instr := .spiReadStatus 5
    let cs : List Instr := []
    let s : State := { State.reset with pending := [.spiReadStatus 5] }
    (s.pending = c :: cs) :=
  by decide +kernel

theorem hypotheses_EmptyQueueLetsOneTickPass :
    (let s : State := State.reset
     (s.pending = []) ∧ ((s.pwr.inReset = true) ∧ ((s.gtb = 0)))) ∧
    (let s : State := { State.reset with gtb := 9 }
     (s.pending = []) ∧ ((s.pwr.inReset = false ∨ s.gtb ≠ 0))) :=
  ⟨⟨by decide +kernel, by decide +kernel, rfl⟩,
    by decide +kernel⟩

theorem hypotheses_CommandsLeaveTheQueue :
    let c : Instr := .spiReadStatus 5
    let s : State := State.reset
    let u : State := setSpi (fun r => { r with replyReady := false }) (advance 5 State.reset)
    (exec c s = .next u) :=
  rfl

theorem hypotheses_EveryReachableCommandIsExecuted :
    (let c : Instr := .ringDoorbell 5 ⟨3, by decide⟩ true .holm 0
     (c.wellFormed = true)) ∧
    (let c : Instr := .ringDoorbell 5 ⟨4, by decide⟩ true .holm 0
     (c.wellFormed = false)) :=
  ⟨by decide +kernel,
    by decide +kernel⟩

theorem hypotheses_StepKeepsCanonicalForm :
    let s : State := { up false with pending := [.identify 5 (req opIdentify false [])] }
    let u : State := nextOf (step s)
    (memWf s) ∧ ((step s = .next u)) :=
  ⟨by unfold memWf; decide +kernel, rfl⟩

theorem hypotheses_TimeNeverStepsBack :
    let c : Instr := .spiReadStatus 5
    let cs : List Instr := []
    let s : State := { State.reset with pending := [.spiReadStatus 5] }
    let u : State := nextOf (step s)
    (s.pending = c :: cs) ∧ ((∀ t g, c ≠ .powerOnReset t g) ∧ ((∀ t r n, c ≠ .supplyDip t r n) ∧ ((step s = .next u)))) :=
  ⟨by decide +kernel, by intros; simp, by intros; simp, rfl⟩

theorem hypotheses_FusesOnlyGain :
    let s : State := { State.reset with pending := [.powerOnReset 5 true] }
    let u : State := nextOf (step s)
    (step s = .next u) :=
  rfl

theorem hypotheses_RefusedRequestsAndTheirSequence :
    (let o : OpInfo := opLedgerRead
     let t : Tick := 5
     let q : Request := sent opLedgerRead false 0 [123, 26, 74, 114]
     let i : Instr := .ledgerRead t q
     let s : State := { up false with gcp := { (up false).gcp with sessions := [] } }
     (gcpRow i = some (o, t, q)) ∧ ((Served o t q s) ∧ (let st := .sessionUnknown
     let mac := false
     (verdict o q (stampOf t q s) (taken t q s) = .refuse st mac)))) ∧
    (let o : OpInfo := opLedgerRead
     let t : Tick := 5
     let q : Request := sent opLedgerRead false 0 [123, 26, 74, 114]
     let i : Instr := .ledgerRead t q
     let s : State := up false
     (gcpRow i = some (o, t, q)) ∧ ((Served o t q s) ∧ (let x := ses false
     let st := .lengthInvalid
     (verdict o q (stampOf t q s) (taken t q s) = .new x (some st))))) :=
  ⟨⟨by decide +kernel, served_of (by decide +kernel), by decide +kernel⟩,
    ⟨by decide +kernel, served_of (by decide +kernel), by decide +kernel⟩⟩

theorem hypotheses_DuplicatesAreAnsweredFromTheCache :
    let o : OpInfo := opSessionClose
    let t : Tick := 5
    let q : Request := sent opSessionClose false 0 [247, 142, 196, 138]
    let i : Instr := .sessionClose t q
    let s : State := upSes false (fun y => { y with cache := [⟨1, trailerOf (req opSessionClose false []).pkt, [0, 0, 0, 0]⟩] })
    let x : Session := { ses false with cache := [⟨1, trailerOf (req opSessionClose false []).pkt, [0, 0, 0, 0]⟩] }
    let pay : List Byte := [0, 0, 0, 0]
    (gcpRow i = some (o, t, q)) ∧ ((Served o t q s) ∧ ((o.dupE = false) ∧ ((verdict o q (stampOf t q s) (taken t q s) = .dup x pay)))) :=
  ⟨by decide +kernel, served_of (by decide +kernel), by decide +kernel, by decide +kernel⟩

theorem hypotheses_UnservedRequestsWait :
    (let o : OpInfo := opIdentify
     let t : Tick := 5
     let q : Request := sent opIdentify false 0 [61, 113, 205, 118]
     let i : Instr := .identify t q
     let s : State := State.reset
     (gcpRow i = some (o, t, q)) ∧ ((portExists q.port = true) ∧ ((portReady o.code q (advance t s) = false)))) ∧
    (let o : OpInfo := opIdentify
     let t : Tick := 5
     let q : Request := sent opIdentify false 0 [61, 113, 205, 118]
     let i : Instr := .identify t q
     let s : State := { up false with gcp := { (up false).gcp with stalled := true } }
     (gcpRow i = some (o, t, q)) ∧ ((portExists q.port = true) ∧ ((s.gcp.stalled = true) ∧ ((s.boot.recovery = none))))) ∧
    (let o : OpInfo := opLedgerRead
     let t : Tick := 5
     let q : Request := ⟨.spi, packet 0x0204 7 1 false []⟩
     let i : Instr := .ledgerRead t q
     let s : State := { State.reset with boot := { State.reset.boot with recovery := some 2 }, gcp := { State.reset.gcp with spi := { busy := true, heldStamp := 5, held := headerBytes 0x0204 (packet 0x0204 7 1 false []) ++ (packet 0x0204 7 1 false []).body } } }
     (gcpRow i = some (o, t, q)) ∧ ((portExists q.port = true) ∧ ((portReady o.code q (advance t s) = true) ∧ ((s.boot.recovery.isSome = true) ∧ ((o.code ≠ 0x0100)))))) :=
  ⟨by decide +kernel,
    by decide +kernel,
    by decide +kernel⟩

theorem hypotheses_RequestsOnEndedSessionsExpire :
    let o : OpInfo := opLedgerRead
    let t : Tick := 12000000000
    let q : Request := sent opLedgerRead false 0 [123, 26, 74, 114]
    let i : Instr := .ledgerRead t q
    let s : State := { up false with gcp := { (up false).gcp with rings := [(0, { enable := true, pi := 1, stamps := [12000000000] })] } }
    let x : Session := ses false
    let e : Tick := 12000000000
    (gcpRow i = some (o, t, q)) ∧ ((Served o t q s) ∧ ((verdict o q (stampOf t q s) (taken t q s) = .expire x e) ∧ ((x.state = .opened)))) :=
  ⟨by decide +kernel, served_of (by decide +kernel), by decide +kernel, by decide +kernel⟩

theorem hypotheses_SessionCommandsComplete :
    (let t : Tick := 5
     let q : Request := sent opIdentify false 0 [61, 113, 205, 118]
     let s : State := up false
     let x : Session := ses false
     (Accepted opIdentify t q s x)) ∧
    (let t : Tick := 5
     let q : Request := ⟨ringPort false, packet 0x0100 0 1 false []⟩
     let s : State := up false
     let f := taken t q s
     (Served opIdentify t q s) ∧ ((verdict opIdentify q (stampOf t q s) f = .free none))) ∧
    (let t : Tick := 5
     let q : Request := ⟨ringPort false, packet 0x0101 0 1 false ([0, 3, 2, 0] ++ le 4 0x00010000 ++ List.replicate 32 1)⟩
     let s : State := upWith false (fun s => { s with boot := { s.boot with mainKeys := [⟨0x00010000, 1, [9]⟩] } })
     let b := bareCtx t q s
     let f := taken t q s
     let p := payloadOf q.pkt
     let ver := ((3, 2) : Nat × Nat)
     (Served opSessionOpen t q s) ∧ ((verdict opSessionOpen q (stampOf t q s) f = .free none) ∧ ((sessionOpenCheck b f = none) ∧ ((grantVersion (leAt p 1 1) (leAt p 2 1) = some ver))))) ∧
    (let t : Tick := 5
     let q : Request := ⟨ringPort true, packet 0x0102 7 1 false ((hmac [1] (proofInput ({ ses true with state := .pending, deviceNonce := [2], hostNonce := [3] }) false)))⟩
     let s : State := { upSes true (fun _ => { ses true with state := .pending, deviceNonce := [2], hostNonce := [3] }) with boot := { State.reset.boot with running := true, otp := { State.reset.boot.otp with keys := [{ key := [1], valid := true }, {}, {}, {}] } } }
     let x : Session := { ses true with state := .pending, deviceNonce := [2], hostNonce := [3] }
     let h := handed t q s x
     let p := payloadOf q.pkt
     let k := ([1] : List Byte)
     let hm := true
     let lab := false
     let mask := (2 ^ 65 - 1 : Nat)
     (Accepted opSessionProve t q s x) ∧ ((keyOf h x.keyId = some (k, hm, lab, mask)) ∧ ((slice p 0 32 = hmac k (proofInput x false))))) ∧
    (let t : Tick := 5
     let q : Request := ⟨ringPort true, packet 0x0102 7 1 false (List.replicate 32 0)⟩
     let s : State := { upSes true (fun _ => { ses true with state := .pending, deviceNonce := [2], hostNonce := [3] }) with boot := { State.reset.boot with running := true, otp := { State.reset.boot.otp with keys := [{ key := [1], valid := true }, {}, {}, {}] } } }
     let x : Session := { ses true with state := .pending, deviceNonce := [2], hostNonce := [3] }
     let h := handed t q s x
     let p := payloadOf q.pkt
     let k := ([1] : List Byte)
     let hm := true
     let lab := false
     let mask := (2 ^ 65 - 1 : Nat)
     (Accepted opSessionProve t q s x) ∧ ((keyOf h x.keyId = some (k, hm, lab, mask)) ∧ ((slice p 0 32 ≠ hmac k (proofInput x false))))) ∧
    (let t : Tick := 5
     let q : Request := sent opSessionKeepalive false 0 [212, 82, 60, 35]
     let s : State := up false
     let x : Session := ses false
     (Accepted opSessionKeepalive t q s x)) ∧
    (let t : Tick := 5
     let q : Request := sent opSessionClose false 0 [247, 142, 196, 138]
     let s : State := up false
     let x : Session := ses false
     (Accepted opSessionClose t q s x)) :=
  ⟨accepted_of (by decide +kernel),
    ⟨served_of (by decide +kernel), by decide +kernel⟩,
    ⟨served_of (by decide +kernel), by decide +kernel, by decide +kernel, by decide +kernel⟩,
    ⟨accepted_of (by decide +kernel), by decide +kernel, by decide +kernel⟩,
    ⟨accepted_of (by decide +kernel), by decide +kernel, by decide +kernel⟩,
    accepted_of (by decide +kernel),
    accepted_of (by decide +kernel)⟩

theorem hypotheses_LedgerCommandsComplete :
    (let t : Tick := 5
     let q : Request := sent opContractCancel false 4 [1, 0, 0, 0, 241, 121, 10, 85]
     let s : State := upWith false (fun s => { s with ledger := { s.ledger with contracts := [contract 1 false .dma] } })
     let x : Session := ses false
     let k : Contract := contract 1 false .dma
     let h := handed t q s x
     let p := payloadOf q.pkt
     let fn := portFn q.port
     (Accepted opContractCancel t q s x) ∧ ((contractOf h fn (leAt p 0 4) = some k) ∧ ((k.holm = x.holm) ∧ ((flipGone h k = false))))) ∧
    (let t : Tick := 5
     let q : Request := sent opContractCancel false 4 [1, 0, 0, 0, 241, 121, 10, 85]
     let s : State := up false
     let x : Session := ses false
     let h := handed t q s x
     let p := payloadOf q.pkt
     let fn := portFn q.port
     (Accepted opContractCancel t q s x) ∧ ((contractOf h fn (leAt p 0 4) = none))) ∧
    (let t : Tick := 5
     let q : Request := sent opContractCancel false 4 [1, 0, 0, 0, 241, 121, 10, 85]
     let s : State := upWith false (fun s => { s with ledger := { s.ledger with contracts := [contract 1 true .dma] } })
     let x : Session := ses false
     let k : Contract := contract 1 true .dma
     let h := handed t q s x
     let p := payloadOf q.pkt
     let fn := portFn q.port
     (Accepted opContractCancel t q s x) ∧ ((contractOf h fn (leAt p 0 4) = some k) ∧ ((k.holm ≠ x.holm)))) ∧
    (let t : Tick := 5
     let q : Request := sent opContractQuery false 4 [1, 0, 0, 0, 140, 127, 177, 68]
     let s : State := upWith false (fun s => { s with ledger := { s.ledger with contracts := [contract 1 false .dma] } })
     let x : Session := ses false
     let k : Contract := contract 1 false .dma
     let h := handed t q s x
     let p := payloadOf q.pkt
     let fn := portFn q.port
     (Accepted opContractQuery t q s x) ∧ ((contractOf h fn (leAt p 0 4) = some k) ∧ ((k.holm = x.holm)))) ∧
    (let t : Tick := 5
     let q : Request := sent opContractQuery false 4 [1, 0, 0, 0, 140, 127, 177, 68]
     let s : State := up false
     let x : Session := ses false
     let h := handed t q s x
     let p := payloadOf q.pkt
     let fn := portFn q.port
     (Accepted opContractQuery t q s x) ∧ ((contractOf h fn (leAt p 0 4) = none))) ∧
    (let t : Tick := 5
     let q : Request := sent opReserveSet true 4 [100, 0, 50, 0, 15, 157, 58, 219, 193, 25, 53, 29, 186, 86, 68, 100]
     let s : State := up true
     let x : Session := ses true
     let h := handed t q s x
     let p := payloadOf q.pkt
     (Accepted opReserveSet t q s x) ∧ ((100 ≤ leAt p 0 2) ∧ ((leAt p 0 2 ≤ 400) ∧ ((50 ≤ leAt p 2 2) ∧ ((leAt p 2 2 ≤ 300) ∧ ((reserveFits h .shd (leAt p 0 2) = true) ∧ ((reserveFits h .drb (leAt p 2 2) = true)))))))) ∧
    (let t : Tick := 5
     let q : Request := sent opReserveSet true 4 [144, 1, 44, 1, 157, 48, 113, 178, 54, 116, 64, 37, 209, 45, 59, 126]
     let s : State := upWith true (fun s => { s with hif := { s.hif with fns := [(0, { state := .active, shd := 900 })] } })
     let x : Session := ses true
     let h := handed t q s x
     let p := payloadOf q.pkt
     (Accepted opReserveSet t q s x) ∧ ((100 ≤ leAt p 0 2) ∧ ((leAt p 0 2 ≤ 400) ∧ ((50 ≤ leAt p 2 2) ∧ ((leAt p 2 2 ≤ 300) ∧ ((reserveFits h .shd (leAt p 0 2) = false))))))) ∧
    (let t : Tick := 5
     let q : Request := sent opLedgerRead false 4 [0, 0, 0, 0, 206, 217, 130, 186]
     let s : State := up false
     let x : Session := ses false
     let c := ctxOf t q s x
     let h := handed t q s x
     let p := payloadOf q.pkt
     (Accepted opLedgerRead t q s x) ∧ ((leAt p 0 1 < 64 → (fnRec h (leAt p 0 1)).state ≠ .absent) ∧ ((leAt p 0 1 < 64 ∨ 0xFE ≤ leAt p 0 1) ∧ ((leAt p 1 3 = 0) ∧ ((poolReadable h c (leAt p 0 1) = true)))))) ∧
    (let t : Tick := 5
     let q : Request := sent opFenceRead false 0 [6, 87, 94, 121]
     let s : State := up false
     let x : Session := ses false
     (Accepted opFenceRead t q s x)) :=
  ⟨⟨accepted_of (by decide +kernel), by decide +kernel, by decide +kernel, by decide +kernel⟩,
    ⟨accepted_of (by decide +kernel), by decide +kernel⟩,
    ⟨accepted_of (by decide +kernel), by decide +kernel, by decide +kernel⟩,
    ⟨accepted_of (by decide +kernel), by decide +kernel, by decide +kernel⟩,
    ⟨accepted_of (by decide +kernel), by decide +kernel⟩,
    ⟨accepted_of (by decide +kernel), by decide +kernel, by decide +kernel, by decide +kernel, by decide +kernel, by decide +kernel, by decide +kernel⟩,
    ⟨accepted_of (by decide +kernel), by decide +kernel, by decide +kernel, by decide +kernel, by decide +kernel, by decide +kernel⟩,
    ⟨accepted_of (by decide +kernel), by decide +kernel, by decide +kernel, by decide +kernel, by decide +kernel⟩,
    accepted_of (by decide +kernel)⟩

/-! ### Submissions and admission -/

theorem hypotheses_SignedSubmissionsAreAccepted :
    (let t : Tick := 5
     let q : Request := sent opComputeSubmit false 120 [1, 2, 0, 0, 0, 0, 0, 0, 0, 0, 0, 0, 0, 0, 0, 0, 0, 225, 245, 5, 0, 0, 0, 0, 0, 0, 0, 0, 1, 0, 0, 0, 0, 0, 0, 0, 0, 0, 0, 0, 0, 0, 0, 0, 0, 0, 0, 0, 0, 0, 0, 0, 0, 0, 0, 0, 0, 0, 0, 0, 0, 0, 0, 0, 0, 0, 0, 0, 0, 0, 0, 0, 0, 0, 0, 0, 0, 0, 0, 0, 0, 0, 0, 0, 0, 0, 0, 0, 0, 0, 0, 0, 0, 0, 0, 0, 0, 0, 0, 0, 0, 0, 0, 0, 0, 16, 0, 0, 0, 0, 0, 0, 72, 0, 0, 0, 0, 0, 0, 0, 177, 211, 82, 182]
     let s : State := upWith false (fun s => gatesOn [2] (stocked s))
     let x : Session := ses false
     let k : Contract := signedBy (admitAsk (handed t q s x) ({ shaderAsk (handed t q s x) (baseAsk (ctxOf t q s x) .compute (handed t q s x)) with blocksFit := true, params := [0x1000, 0x48, 0] }))
     let c := ctxOf t q s x
     let h := handed t q s x
     let p := payloadOf q.pkt
     let fn := portFn q.port
     let kind : Kind := Kind.compute
     (kind = .render ∨ kind = .compute) ∧ (let o := if kind = .compute then opComputeSubmit else opRenderSubmit
     let dev := (parseBlock p).cls == 0
     let d := parseDesc (jobRead h dev fn (leAt p 0x68 8) (min (leAt p 0x70 4) 352))
     let a := { shaderAsk h (baseAsk c kind h) with blocksFit := (shaderAsk h (baseAsk c kind h)).blocksFit && jobCostOk d (parseCost kind p), params := [leAt p 0x68 8, leAt p 0x70 4, leAt p 0x74 4] }
     (Accepted o t q s x) ∧ ((leAt p 0x68 8 % 8 = 0) ∧ ((leAt p 0x70 4 % 8 = 0) ∧ ((0x48 ≤ leAt p 0x70 4) ∧ ((leAt p 0x70 4 ≤ 0x1000000) ∧ ((jobRange h dev fn false (leAt p 0x68 8) (leAt p 0x70 4) && ctxPoison h (if dev then none else some fn) (leAt p 0x68 8) (min (leAt p 0x70 4) 352)) = false ∧ ((descCheck h dev fn (leAt p 0x68 8) (leAt p 0x70 4) (parseCost kind p).bins (if kind = .compute then 1 else 0) = none) ∧ ((contractGuard h fn (gatesNeeded kind 0) = none) ∧ ((admitAsk h a = .signed k))))))))))) ∧
    (let t : Tick := 5
     let q : Request := sent opRenderSubmit false 120 [1, 1, 0, 0, 0, 0, 0, 0, 0, 0, 0, 0, 0, 0, 0, 0, 0, 225, 245, 5, 0, 0, 0, 0, 0, 0, 0, 0, 1, 0, 0, 0, 0, 0, 0, 0, 0, 0, 0, 0, 1, 0, 0, 0, 0, 0, 0, 0, 0, 0, 0, 0, 0, 0, 0, 0, 0, 0, 0, 0, 0, 0, 0, 0, 0, 0, 0, 0, 0, 0, 0, 0, 0, 0, 0, 0, 0, 0, 0, 0, 0, 0, 0, 0, 0, 0, 0, 0, 0, 0, 0, 0, 0, 0, 0, 0, 0, 0, 0, 0, 0, 0, 0, 0, 0, 20, 0, 0, 0, 0, 0, 0, 72, 0, 0, 0, 0, 0, 0, 0, 180, 57, 131, 57]
     let s : State := upWith false (fun s => gatesOn [2] (stocked s))
     let x : Session := ses false
     let k : Contract := signedBy (admitAsk (handed t q s x) ({ shaderAsk (handed t q s x) (baseAsk (ctxOf t q s x) .render (handed t q s x)) with blocksFit := true, params := [0x1400, 0x48, 0] }))
     let c := ctxOf t q s x
     let h := handed t q s x
     let p := payloadOf q.pkt
     let fn := portFn q.port
     let kind : Kind := Kind.render
     (kind = .render ∨ kind = .compute) ∧ (let o := if kind = .compute then opComputeSubmit else opRenderSubmit
     let dev := (parseBlock p).cls == 0
     let d := parseDesc (jobRead h dev fn (leAt p 0x68 8) (min (leAt p 0x70 4) 352))
     let a := { shaderAsk h (baseAsk c kind h) with blocksFit := (shaderAsk h (baseAsk c kind h)).blocksFit && jobCostOk d (parseCost kind p), params := [leAt p 0x68 8, leAt p 0x70 4, leAt p 0x74 4] }
     (Accepted o t q s x) ∧ ((leAt p 0x68 8 % 8 = 0) ∧ ((leAt p 0x70 4 % 8 = 0) ∧ ((0x48 ≤ leAt p 0x70 4) ∧ ((leAt p 0x70 4 ≤ 0x1000000) ∧ ((jobRange h dev fn false (leAt p 0x68 8) (leAt p 0x70 4) && ctxPoison h (if dev then none else some fn) (leAt p 0x68 8) (min (leAt p 0x70 4) 352)) = false ∧ ((descCheck h dev fn (leAt p 0x68 8) (leAt p 0x70 4) (parseCost kind p).bins (if kind = .compute then 1 else 0) = none) ∧ ((contractGuard h fn (gatesNeeded kind 0) = none) ∧ ((admitAsk h a = .signed k))))))))))) ∧
    (let t : Tick := 5
     let q : Request := sent opCreamUpdate true 160 [0, 4, 0, 0, 7, 0, 0, 0, 0, 0, 0, 0, 0, 0, 0, 0, 0, 225, 245, 5, 0, 0, 0, 0, 0, 0, 0, 0, 1, 0, 0, 0, 0, 0, 0, 0, 0, 0, 0, 0, 0, 0, 0, 0, 0, 0, 0, 0, 0, 0, 0, 0, 0, 0, 0, 0, 0, 0, 0, 0, 0, 0, 0, 0, 0, 0, 0, 0, 0, 0, 0, 0, 0, 0, 0, 0, 0, 0, 0, 0, 64, 0, 0, 0, 0, 0, 0, 0, 0, 0, 0, 0, 0, 0, 0, 0, 0, 0, 0, 0, 0, 0, 0, 0, 1, 0, 1, 3, 0, 0, 0, 0, 0, 0, 0, 0, 64, 0, 0, 0, 0, 0, 0, 0, 0, 0, 0, 0, 0, 0, 0, 0, 0, 0, 0, 0, 0, 0, 0, 0, 0, 0, 0, 0, 0, 0, 0, 0, 0, 0, 0, 0, 0, 0, 0, 0, 0, 0, 0, 0, 196, 247, 159, 4, 35, 235, 101, 47, 199, 203, 198, 28]
     let s : State := upWith true (fun s => raster 7 (wr (Reg.CRL_REGEN 7) 1 (gatesOn [3, 0x24] (stocked s))))
     let x : Session := ses true
     let k : Contract := signedBy (admitAsk (handed t q s x) (keepWork (creamAsk (handed t q s x) (ctxOf t q s x))))
     let c := ctxOf t q s x
     let h := handed t q s x
     let fn := portFn q.port
     (Accepted opCreamUpdate t q s x) ∧ ((creamCheck h c = none) ∧ ((contractGuard h fn (creamGates h c) = none) ∧ ((admitAsk h (keepWork (creamAsk h c)) = .signed k))))) ∧
    (let t : Tick := 5
     let q : Request := sent opDmaSubmit false 68 [1, 7, 0, 0, 0, 0, 0, 0, 0, 0, 0, 0, 0, 0, 0, 0, 0, 225, 245, 5, 0, 0, 0, 0, 0, 0, 0, 0, 1, 0, 0, 0, 0, 0, 0, 0, 0, 0, 0, 0, 64, 0, 0, 0, 0, 0, 0, 0, 0, 16, 0, 0, 0, 0, 0, 0, 0, 32, 0, 0, 0, 0, 0, 0, 0, 0, 0, 0, 72, 10, 160, 221]
     let s : State := upWith false (fun s => wrF (Reg.DMA_RATEn 0) Fld.DMA_RATEn_RATE 32 (wrB (Reg.DMA_Cn_CTRL 0) Fld.DMA_Cn_CTRL_ENABLE true (grant 0x3000 0 (stocked s))))
     let x : Session := ses false
     let k : Contract := signedBy (admitAsk (handed t q s x) (dmaAsk (handed t q s x) (ctxOf t q s x)))
     let c := ctxOf t q s x
     let h := handed t q s x
     let fn := portFn q.port
     (Accepted opDmaSubmit t q s x) ∧ ((contractGuard h fn [] = none) ∧ ((dmaCheck h c = none) ∧ ((admitAsk h (dmaAsk h c) = .signed k))))) ∧
    (let t : Tick := 5
     let q : Request := sent opCheckSubmit false 60 [1, 8, 0, 0, 3, 0, 0, 0, 0, 0, 0, 0, 0, 0, 0, 0, 0, 225, 245, 5, 0, 0, 0, 0, 0, 0, 0, 0, 1, 0, 0, 0, 0, 0, 0, 0, 0, 0, 0, 0, 64, 0, 0, 0, 0, 0, 0, 0, 0, 16, 0, 0, 0, 0, 0, 0, 3, 0, 0, 0, 215, 4, 0, 98]
     let s : State := upWith false (fun s => grant 0x4003 0 (gatesOn [0x24] (stocked s)))
     let x : Session := ses false
     let k : Contract := signedBy (admitAsk (handed t q s x) (checkAsk (handed t q s x) (ctxOf t q s x)))
     let c := ctxOf t q s x
     let h := handed t q s x
     let p := payloadOf q.pkt
     let fn := portFn q.port
     let n := (parseBlock p).target
     (Accepted opCheckSubmit t q s x) ∧ ((contractGuard h fn [] = none) ∧ ((checkCheck h c = none) ∧ ((contractGuard h fn (gatesNeeded .check n) = none) ∧ ((admitAsk h (checkAsk h c) = .signed k)))))) ∧
    (let t : Tick := 5
     let q : Request := sent opAudioQueue false 60 [1, 5, 0, 0, 31, 0, 0, 0, 0, 0, 0, 0, 0, 0, 0, 0, 0, 225, 245, 5, 0, 0, 0, 0, 0, 0, 0, 0, 1, 0, 0, 0, 0, 0, 0, 0, 0, 0, 0, 0, 16, 0, 0, 0, 0, 0, 0, 0, 0, 16, 0, 0, 0, 0, 0, 0, 64, 0, 0, 0, 247, 187, 71, 104]
     let s : State := upWith false (fun s => wrF (Reg.AUD_Ss_RATE 31) Fld.AUD_Ss_RATE_RATE_HZ 48000 (wrF (Reg.AUD_Ss_CFG 31) Fld.AUD_Ss_CFG_CHANNELS 2 (wrB (Reg.AUD_Ss_CFG 31) Fld.AUD_Ss_CFG_OPEN true (grant 0x601F 0 (gatesOn [6] (stocked s))))))
     let x : Session := ses false
     let k : Contract := signedBy (admitAsk (handed t q s x) (audioAsk (handed t q s x) (ctxOf t q s x)))
     let c := ctxOf t q s x
     let h := handed t q s x
     let p := payloadOf q.pkt
     let fn := portFn q.port
     let n := (parseBlock p).target
     (Accepted opAudioQueue t q s x) ∧ ((contractGuard h fn [] = none) ∧ ((audioCheck h c = none) ∧ ((contractGuard h fn (gatesNeeded .audio n) = none) ∧ ((admitAsk h (audioAsk h c) = .signed k)))))) ∧
    (let t : Tick := 5
     let q : Request := sent opHapticPlay false 52 [1, 6, 0, 0, 15, 0, 0, 0, 0, 0, 0, 0, 0, 0, 0, 0, 0, 225, 245, 5, 0, 0, 0, 0, 0, 0, 0, 0, 1, 0, 0, 0, 0, 0, 0, 0, 0, 0, 0, 0, 0, 9, 61, 0, 0, 0, 0, 0, 15, 0, 0, 0, 152, 175, 46, 12]
     let s : State := upWith false (fun s => wrB (Reg.HAP_Cn_STAT 15) Fld.HAP_Cn_STAT_CAL_VALID true (wrF (Reg.HAP_Cn_FXs_2 15 15) Fld.HAP_Cn_FXs_2_SUS_LEN 4 (wrB (Reg.HAP_Cn_FXs_0 15 15) Fld.HAP_Cn_FXs_0_VALID true (wrB (Reg.HAP_Cn_CTRL 15) Fld.HAP_Cn_CTRL_ENABLE true (grant 0x700F 0 (gatesOn [7, 0x67] (stocked s)))))))
     let x : Session := ses false
     let k : Contract := signedBy (admitAsk (handed t q s x) (playAsk (handed t q s x) (ctxOf t q s x)))
     let c := ctxOf t q s x
     let h := handed t q s x
     let p := payloadOf q.pkt
     let fn := portFn q.port
     let n := (parseBlock p).target
     (Accepted opHapticPlay t q s x) ∧ ((contractGuard h fn [] = none) ∧ ((playCheck h c = none) ∧ ((contractGuard h fn (gatesNeeded .haptic n) = none) ∧ ((admitAsk h (playAsk h c) = .signed k)))))) ∧
    (let t : Tick := 5
     let q : Request := sent opCommit false 48 [1, 3, 0, 0, 7, 0, 0, 0, 0, 0, 0, 0, 0, 0, 0, 0, 0, 225, 245, 5, 0, 0, 0, 0, 0, 0, 0, 0, 1, 0, 0, 0, 0, 0, 0, 0, 0, 0, 0, 0, 0, 0, 0, 0, 0, 0, 0, 0, 211, 180, 16, 177]
     let s : State := upWith false (fun s => grant 0x203F 0 (gatesOn [3, 0x2F] (stocked s)))
     let x : Session := ses false
     let k : Contract := signedBy (admitAsk (handed t q s x) ({ baseAsk (ctxOf t q s x) .commit (handed t q s x) with latchNow := true }))
     let c := ctxOf t q s x
     let h := handed t q s x
     let p := payloadOf q.pkt
     let fn := portFn q.port
     let n := (parseBlock p).target
     let hd := ctxHolder c
     let add (at_ id : Nat) (y : State) : State := setOut n (fun o => { o with commits := o.commits ++ [({ holder := hd, fn := fn, id := id, at_ := at_ } : PendCommit)] }) y
     let s' := pendApplied (add 0 0 h) n
     let a := { baseAsk c .commit h with latchOut := if tgOn h n then some n else none, latchNow := !tgOn h n,
                                              depOk := decide (depRate (add 0 0 h) ≤ 4800000000) && (!tgOn s' n || decide (pclk s' n ≤ 1200000000)) }
     let w := (growQueue n (max (queueBytes h n) (queueBytes s' n)) (add k.s0 k.id h)).getD h
     (Accepted opCommit t q s x) ∧ ((n < 8) ∧ ((holdsAny h n hd = true) ∧ ((pendOf h n hd).isNone = true ∧ ((contractGuard h fn (gatesNeeded .commit n) = none) ∧ ((admitAsk h a = .signed k) ∧ ((configReason h s' n hd.holm = none) ∧ ((timingChange h s' n && !(lockedFit h s' n && latchesFit (add k.s0 k.id h) n)) = false ∧ ((demandRefusal h (add k.s0 k.id h) = none) ∧ ((growQueue n (max (queueBytes h n) (queueBytes s' n)) (add k.s0 k.id h) = some w))))))))))) :=
  ⟨⟨Or.inr rfl, accepted_of (by decide +kernel), by decide +kernel, by decide +kernel, by decide +kernel, by decide +kernel, by decide +kernel, by decide +kernel, by decide +kernel, by decide +kernel⟩,
    ⟨Or.inl rfl, accepted_of (by decide +kernel), by decide +kernel, by decide +kernel, by decide +kernel, by decide +kernel, by decide +kernel, by decide +kernel, by decide +kernel, by decide +kernel⟩,
    ⟨accepted_of (by decide +kernel), by decide +kernel, by decide +kernel, by decide +kernel⟩,
    ⟨accepted_of (by decide +kernel), by decide +kernel, by decide +kernel, by decide +kernel⟩,
    ⟨accepted_of (by decide +kernel), by decide +kernel, by decide +kernel, by decide +kernel, by decide +kernel⟩,
    ⟨accepted_of (by decide +kernel), by decide +kernel, by decide +kernel, by decide +kernel, by decide +kernel⟩,
    ⟨accepted_of (by decide +kernel), by decide +kernel, by decide +kernel, by decide +kernel, by decide +kernel⟩,
    ⟨accepted_of (by decide +kernel), by decide +kernel, by decide +kernel, by decide +kernel, by decide +kernel, by decide +kernel, by decide +kernel, by decide +kernel, by decide +kernel, some_of_isSome _ (by decide +kernel)⟩⟩

theorem hypotheses_RefusedSubmissionsChangeNothing :
    (let t : Tick := 5
     let q : Request := sent opCreamUpdate true 160 [0, 0, 0, 0, 7, 0, 0, 0, 0, 0, 0, 0, 0, 0, 0, 0, 0, 225, 245, 5, 0, 0, 0, 0, 0, 0, 0, 0, 1, 0, 0, 0, 0, 0, 0, 0, 0, 0, 0, 0, 0, 0, 0, 0, 0, 0, 0, 0, 0, 0, 0, 0, 0, 0, 0, 0, 0, 0, 0, 0, 0, 0, 0, 0, 0, 0, 0, 0, 0, 0, 0, 0, 0, 0, 0, 0, 0, 0, 0, 0, 64, 0, 0, 0, 0, 0, 0, 0, 0, 0, 0, 0, 0, 0, 0, 0, 0, 0, 0, 0, 0, 0, 0, 0, 1, 0, 1, 3, 0, 0, 0, 0, 0, 0, 0, 0, 64, 0, 0, 0, 0, 0, 0, 0, 0, 0, 0, 0, 0, 0, 0, 0, 0, 0, 0, 0, 0, 0, 0, 0, 0, 0, 0, 0, 0, 0, 0, 0, 0, 0, 0, 0, 0, 0, 0, 0, 0, 0, 0, 0, 142, 71, 23, 27, 28, 128, 97, 179, 31, 185, 201, 254]
     let s : State := upWith true (fun s => raster 7 (wr (Reg.CRL_REGEN 7) 1 (gatesOn [3, 0x24] (stocked s))))
     let x : Session := ses true
     let st : Status := .costInvalid
     let res : Nat := 0
     let er : Nat := 0
     let need : Nat := 0
     let avail : Nat := 0
     let c := ctxOf t q s x
     let h := handed t q s x
     let fn := portFn q.port
     (Accepted opCreamUpdate t q s x) ∧ ((creamCheck h c = none) ∧ ((contractGuard h fn (creamGates h c) = none) ∧ ((admitAsk h (keepWork (creamAsk h c)) = .refused st res er need avail))))) ∧
    (let t : Tick := 5
     let q : Request := sent opDmaSubmit false 68 [1, 0, 0, 0, 0, 0, 0, 0, 0, 0, 0, 0, 0, 0, 0, 0, 0, 225, 245, 5, 0, 0, 0, 0, 0, 0, 0, 0, 1, 0, 0, 0, 0, 0, 0, 0, 0, 0, 0, 0, 64, 0, 0, 0, 0, 0, 0, 0, 0, 16, 0, 0, 0, 0, 0, 0, 0, 32, 0, 0, 0, 0, 0, 0, 0, 0, 0, 0, 45, 213, 219, 165]
     let s : State := upWith false (fun s => wrF (Reg.DMA_RATEn 0) Fld.DMA_RATEn_RATE 32 (wrB (Reg.DMA_Cn_CTRL 0) Fld.DMA_Cn_CTRL_ENABLE true (grant 0x3000 0 (stocked s))))
     let x : Session := ses false
     let st : Status := .costInvalid
     let res : Nat := 0
     let er : Nat := 0
     let need : Nat := 0
     let avail : Nat := 0
     let c := ctxOf t q s x
     let h := handed t q s x
     let fn := portFn q.port
     (Accepted opDmaSubmit t q s x) ∧ ((contractGuard h fn [] = none) ∧ ((dmaCheck h c = none) ∧ ((admitAsk h (dmaAsk h c) = .refused st res er need avail))))) ∧
    (let t : Tick := 5
     let q : Request := sent opCheckSubmit false 60 [1, 0, 0, 0, 3, 0, 0, 0, 0, 0, 0, 0, 0, 0, 0, 0, 0, 225, 245, 5, 0, 0, 0, 0, 0, 0, 0, 0, 1, 0, 0, 0, 0, 0, 0, 0, 0, 0, 0, 0, 64, 0, 0, 0, 0, 0, 0, 0, 0, 16, 0, 0, 0, 0, 0, 0, 3, 0, 0, 0, 134, 31, 224, 197]
     let s : State := upWith false (fun s => grant 0x4003 0 (gatesOn [0x24] (stocked s)))
     let x : Session := ses false
     let st : Status := .costInvalid
     let res : Nat := 0
     let er : Nat := 0
     let need : Nat := 0
     let avail : Nat := 0
     let c := ctxOf t q s x
     let h := handed t q s x
     let fn := portFn q.port
     let n := (parseBlock (payloadOf q.pkt)).target
     (Accepted opCheckSubmit t q s x) ∧ ((contractGuard h fn [] = none) ∧ ((checkCheck h c = none) ∧ ((contractGuard h fn (gatesNeeded .check n) = none) ∧ ((admitAsk h (checkAsk h c) = .refused st res er need avail)))))) ∧
    (let t : Tick := 5
     let q : Request := sent opAudioQueue false 60 [1, 0, 0, 0, 31, 0, 0, 0, 0, 0, 0, 0, 0, 0, 0, 0, 0, 225, 245, 5, 0, 0, 0, 0, 0, 0, 0, 0, 1, 0, 0, 0, 0, 0, 0, 0, 0, 0, 0, 0, 16, 0, 0, 0, 0, 0, 0, 0, 0, 16, 0, 0, 0, 0, 0, 0, 64, 0, 0, 0, 147, 0, 0, 141]
     let s : State := upWith false (fun s => wrF (Reg.AUD_Ss_RATE 31) Fld.AUD_Ss_RATE_RATE_HZ 48000 (wrF (Reg.AUD_Ss_CFG 31) Fld.AUD_Ss_CFG_CHANNELS 2 (wrB (Reg.AUD_Ss_CFG 31) Fld.AUD_Ss_CFG_OPEN true (grant 0x601F 0 (gatesOn [6] (stocked s))))))
     let x : Session := ses false
     let st : Status := .costInvalid
     let res : Nat := 0
     let er : Nat := 0
     let need : Nat := 0
     let avail : Nat := 0
     let c := ctxOf t q s x
     let h := handed t q s x
     let fn := portFn q.port
     let n := (parseBlock (payloadOf q.pkt)).target
     (Accepted opAudioQueue t q s x) ∧ ((contractGuard h fn [] = none) ∧ ((audioCheck h c = none) ∧ ((contractGuard h fn (gatesNeeded .audio n) = none) ∧ ((admitAsk h (audioAsk h c) = .refused st res er need avail)))))) ∧
    (let t : Tick := 5
     let q : Request := sent opHapticPlay false 52 [1, 0, 0, 0, 15, 0, 0, 0, 0, 0, 0, 0, 0, 0, 0, 0, 0, 225, 245, 5, 0, 0, 0, 0, 0, 0, 0, 0, 1, 0, 0, 0, 0, 0, 0, 0, 0, 0, 0, 0, 0, 9, 61, 0, 0, 0, 0, 0, 15, 0, 0, 0, 140, 48, 222, 154]
     let s : State := upWith false (fun s => wrB (Reg.HAP_Cn_STAT 15) Fld.HAP_Cn_STAT_CAL_VALID true (wrF (Reg.HAP_Cn_FXs_2 15 15) Fld.HAP_Cn_FXs_2_SUS_LEN 4 (wrB (Reg.HAP_Cn_FXs_0 15 15) Fld.HAP_Cn_FXs_0_VALID true (wrB (Reg.HAP_Cn_CTRL 15) Fld.HAP_Cn_CTRL_ENABLE true (grant 0x700F 0 (gatesOn [7, 0x67] (stocked s)))))))
     let x : Session := ses false
     let st : Status := .costInvalid
     let res : Nat := 0
     let er : Nat := 0
     let need : Nat := 0
     let avail : Nat := 0
     let c := ctxOf t q s x
     let h := handed t q s x
     let fn := portFn q.port
     let n := (parseBlock (payloadOf q.pkt)).target
     (Accepted opHapticPlay t q s x) ∧ ((contractGuard h fn [] = none) ∧ ((playCheck h c = none) ∧ ((contractGuard h fn (gatesNeeded .haptic n) = none) ∧ ((admitAsk h (playAsk h c) = .refused st res er need avail)))))) :=
  ⟨⟨accepted_of (by decide +kernel), by decide +kernel, by decide +kernel, by decide +kernel⟩,
    ⟨accepted_of (by decide +kernel), by decide +kernel, by decide +kernel, by decide +kernel⟩,
    ⟨accepted_of (by decide +kernel), by decide +kernel, by decide +kernel, by decide +kernel, by decide +kernel⟩,
    ⟨accepted_of (by decide +kernel), by decide +kernel, by decide +kernel, by decide +kernel, by decide +kernel⟩,
    ⟨accepted_of (by decide +kernel), by decide +kernel, by decide +kernel, by decide +kernel, by decide +kernel⟩⟩

theorem hypotheses_AdmissionTest :
    let s : State := stocked (up false)
    let a : AskFor := { fn := 0, holm := false, kind := .dma, blk := { cls := 1, kind := 7, deadline := 2000000000, count := 1 }, cost := { amount := 64 }, blocksFit := true, drb := 128, units := 2, objRes := 7 }
    let k : Contract := signedBy (admitAsk s a)
    (admitAsk s a = .signed k) :=
  by decide +kernel

theorem hypotheses_SigningOvercommitsNoPool :
    let s : State := stocked (up false)
    let a : AskFor := { fn := 0, holm := false, kind := .dma, blk := { cls := 1, kind := 7, deadline := 2000000000, count := 1 }, cost := { amount := 64 }, blocksFit := true, drb := 128, units := 2, objRes := 7 }
    let k : Contract := signedBy (admitAsk s a)
    let p : Pool := .share 0
    let r : Rate := .drb
    (admitAsk s a = .signed k) ∧ ((poolUsed s p r ≤ poolCap s p r)) :=
  by decide +kernel

/-! ### Operations of the ports -/

theorem hypotheses_ReadCommandsComplete :
    (let t : Tick := 5
     let q : Request := sent opOutputStatus false 4 [7, 0, 0, 0, 112, 191, 15, 243]
     let s : State := up false
     let x : Session := ses false
     let p := payloadOf q.pkt
     (Accepted opOutputStatus t q s x) ∧ ((leAt p 0 1 < 8) ∧ ((leAt p 1 3 = 0)))) ∧
    (let t : Tick := 5
     let q : Request := sent opEvidenceRead true 24 [255, 0, 0, 0, 0, 0, 0, 0, 0, 0, 0, 0, 0, 0, 0, 0, 0, 0, 0, 0, 64, 0, 0, 0, 197, 75, 67, 235, 116, 166, 32, 90, 213, 157, 8, 30]
     let s : State := up true
     let x : Session := ses true
     let p := payloadOf q.pkt
     (Accepted opEvidenceRead t q s x) ∧ ((leAt p 0 1 < 8 ∨ leAt p 0 1 = 0xFF) ∧ ((leAt p 1 3 = 0) ∧ ((leAt p 0x14 4 % 64 = 0))))) ∧
    (let t : Tick := 5
     let q : Request := sent opMeasureRead false 8 [0, 0, 0, 0, 216, 15, 0, 0, 206, 251, 30, 116]
     let s : State := up false
     let x : Session := ses false
     let p := payloadOf q.pkt
     (Accepted opMeasureRead t q s x) ∧ ((leAt p 0 4 % 4 = 0) ∧ ((leAt p 4 4 % 4 = 0) ∧ ((leAt p 4 4 ≤ 4056))))) ∧
    (let t : Tick := 5
     let q : Request := sent opIsoLogRead true 20 [0, 0, 0, 0, 0, 0, 0, 0, 0, 0, 0, 0, 0, 0, 0, 0, 64, 0, 0, 0, 64, 53, 54, 48, 1, 176, 253, 52, 46, 131, 202, 165]
     let s : State := up true
     let x : Session := ses true
     let p := payloadOf q.pkt
     (Accepted opIsoLogRead t q s x) ∧ ((leAt p 4 4 = 0) ∧ ((leAt p 0x10 4 % 32 = 0)))) ∧
    (let t : Tick := 5
     let q : Request := sent opDumpRead true 20 [0, 0, 0, 0, 0, 0, 0, 0, 0, 0, 0, 0, 0, 0, 0, 0, 64, 0, 0, 0, 73, 128, 194, 140, 85, 168, 114, 43, 30, 198, 81, 254]
     let s : State := up true
     let x : Session := ses true
     let p := payloadOf q.pkt
     (Accepted opDumpRead t q s x) ∧ ((leAt p 0 4 % 4 = 0) ∧ ((leAt p 4 4 = 0) ∧ ((leAt p 0x10 4 % 4 = 0))))) ∧
    (let t : Tick := 5
     let q : Request := sent opCheckResult false 4 [3, 0, 0, 0, 120, 229, 254, 156]
     let s : State := upWith false (fun s => { s with mv := { s.mv with results := [⟨0, false, 3, 0, [1, 2, 3, 4]⟩] } })
     let x : Session := ses false
     let h := handed t q s x
     let p := payloadOf q.pkt
     let fn := portFn q.port
     let r := (⟨0, false, 3, 0, [1, 2, 3, 4]⟩ : CvResult)
     (Accepted opCheckResult t q s x) ∧ ((h.mv.results.reverse.find? (fun y => y.fn == fn && y.holm == x.holm && y.id == leAt p 0 4) = some r))) ∧
    (let t : Tick := 5
     let q : Request := sent opFaultStatus true 4 [2, 0, 0, 0, 99, 143, 157, 80, 3, 221, 100, 252, 205, 42, 220, 143]
     let s : State := upWith true (fun s => wrB Reg.ISO_DBG Fld.ISO_DBG_WATCH_H true { s with lnk := { s.lnk with faults := [({ id := 2, tag := 7, target := 3, inst := 0, dir := 0, fault := 0, mode := 0, amount := 1, tile := 0, left := 1 } : FaultRec)] } })
     let x : Session := ses true
     let h := handed t q s x
     let p := payloadOf q.pkt
     let f := ({ id := 2, tag := 7, target := 3, inst := 0, dir := 0, fault := 0, mode := 0, amount := 1, tile := 0, left := 1 } : FaultRec)
     (Accepted opFaultStatus t q s x) ∧ ((faultOf h q.pkt.tag (leAt p 0 4) = some f))) ∧
    (let t : Tick := 5
     let q : Request := sent opPowerStatus false 0 [199, 151, 229, 193]
     let s : State := up false
     let x : Session := ses false
     (Accepted opPowerStatus t q s x)) :=
  ⟨⟨accepted_of (by decide +kernel), by decide +kernel, by decide +kernel⟩,
    ⟨accepted_of (by decide +kernel), by decide +kernel, by decide +kernel, by decide +kernel⟩,
    ⟨accepted_of (by decide +kernel), by decide +kernel, by decide +kernel, by decide +kernel⟩,
    ⟨accepted_of (by decide +kernel), by decide +kernel, by decide +kernel⟩,
    ⟨accepted_of (by decide +kernel), by decide +kernel, by decide +kernel, by decide +kernel⟩,
    ⟨accepted_of (by decide +kernel), by decide +kernel⟩,
    ⟨accepted_of (by decide +kernel), by decide +kernel⟩,
    accepted_of (by decide +kernel)⟩

theorem hypotheses_MappingAndStreamCommandsComplete :
    (let t : Tick := 5
     let q : Request := sent opMemMap false 24 [0, 16, 0, 0, 0, 0, 0, 0, 0, 32, 0, 0, 0, 0, 0, 0, 3, 0, 0, 0, 0, 0, 0, 0, 101, 137, 221, 37]
     let s : State := upWith false (fun s => wrF (Reg.DRC_COn_SIZE 0) Fld.DRC_COn_SIZE_SIZE 1 s)
     let x : Session := ses false
     let h := handed t q s x
     let p := payloadOf q.pkt
     let fn := portFn q.port
     let fl := leAt p 0x10 4
     let kind := natBits fl 3 2
     let pg := pageSize (fl.testBit 4)
     let len := leAt p 8 8
     let va := (4096 : Nat)
     let m := (⟨0, 4096, 8192, 0, false, true, true, [], none⟩ : Mapping)
     let rest := (h.mem.free : List (Nat × Nat))
     (Accepted opMemMap t q s x) ∧ ((fnQuiet h fn = false) ∧ ((fl < 32) ∧ ((leAt p 0x14 4 = 0) ∧ ((fl % 4 ≠ 0) ∧ ((kind ≠ 3) ∧ ((fl.testBit 4 = true → kind = 1) ∧ ((0 < len) ∧ ((len % pg = 0) ∧ ((leAt p 0 8 % pg = 0) ∧ ((if leAt p 0 8 = 0 then kind ≠ 0 ∧ chooseVa h fn len pg = some va else va = leAt p 0 8) ∧ ((if kind = 0 then va + len ≤ devSpace else devSpace ≤ va ∧ va + len ≤ 2 ^ 48) ∧ ((mapped h fn va len = false) ∧ ((kind = 0 → overlapsBar h va len = false) ∧ ((newMapping h fn va len fl = some (m, rest)) ∧ ((mapsOf h fn).length < 4096 ∧ ((tablesFit h m = true)))))))))))))))))) ∧
    (let t : Tick := 5
     let q : Request := sent opMemUnmap false 16 [0, 0, 0, 0, 0, 1, 0, 0, 0, 16, 0, 0, 0, 0, 0, 0, 2, 175, 159, 68]
     let s : State := upWith false (fun s => { s with mem := { s.mem with maps := [(⟨0, 2 ^ 40, 4096, 1, false, true, true, [(0x2000000, 4096)], none⟩ : Mapping)] } })
     let x : Session := ses false
     let h := handed t q s x
     let p := payloadOf q.pkt
     let fn := portFn q.port
     let len := leAt p 8 8
     (Accepted opMemUnmap t q s x) ∧ ((fnQuiet h fn = false) ∧ ((leAt p 0 8 % 4096 = 0) ∧ ((0 < len) ∧ ((len % 4096 = 0) ∧ ((coveredLen h fn (leAt p 0 8) len = len) ∧ ((splitsLarge h fn (leAt p 0 8) len = false)))))))) ∧
    (let t : Tick := 5
     let q : Request := sent opMemUnmap false 16 [0, 0, 0, 0, 0, 1, 0, 0, 0, 32, 0, 0, 0, 0, 0, 0, 25, 214, 159, 229]
     let s : State := upWith false (fun s => { s with mem := { s.mem with maps := [(⟨0, 2 ^ 40, 4096, 1, false, true, true, [(0x2000000, 4096)], none⟩ : Mapping)] } })
     let x : Session := ses false
     let h := handed t q s x
     let p := payloadOf q.pkt
     let fn := portFn q.port
     let len := leAt p 8 8
     (Accepted opMemUnmap t q s x) ∧ ((fnQuiet h fn = false) ∧ ((leAt p 0 8 % 4096 = 0) ∧ ((0 < len) ∧ ((len % 4096 = 0) ∧ ((coveredLen h fn (leAt p 0 8) len ≠ len))))))) ∧
    (let t : Tick := 5
     let q : Request := sent opStreamOpen false 8 [8, 3, 0, 0, 0, 238, 2, 0, 227, 109, 127, 93]
     let s : State := upWith false (fun s => grant 0x6003 0 (gatesOn [6] (wrF Reg.DRC_CFG Fld.DRC_CFG_DRB_CAP 300 { s with hif := { s.hif with fns := [(0, { state := .active, drb := 100 })] } })))
     let x : Session := ses false
     let c := ctxOf t q s x
     let h := handed t q s x
     let p := payloadOf q.pkt
     let fn := portFn q.port
     let a := (3 : Nat)
     (Accepted opStreamOpen t q s x) ∧ ((fnQuiet h fn = false) ∧ ((0 < leAt p 0 1) ∧ ((leAt p 0 1 ≤ 8) ∧ ((leAt p 1 1 ≤ 3) ∧ ((leAt p 2 2 = 0) ∧ ((8000 ≤ leAt p 4 4) ∧ ((leAt p 4 4 ≤ 192000) ∧ ((List.range 32).find? (fun a => holderOf h (obj 6 a) == some c.holder && !streamIsOpen h a) = some a ∧ ((streamDemand (leAt p 0 1) ≤ poolFree h (holderPool c.holder) .drb) ∧ ((gateOn h 6 = true)))))))))))) ∧
    (let t : Tick := 5
     let q : Request := sent opStreamClose false 4 [3, 0, 0, 0, 37, 139, 59, 253]
     let s : State := upWith false (fun s => wrB (Reg.AUD_Ss_CFG 3) Fld.AUD_Ss_CFG_OPEN true (grant 0x6003 0 (gatesOn [6] (wrF Reg.DRC_CFG Fld.DRC_CFG_DRB_CAP 300 { s with hif := { s.hif with fns := [(0, { state := .active, drb := 100 })] } }))))
     let x : Session := ses false
     let c := ctxOf t q s x
     let h := handed t q s x
     let p := payloadOf q.pkt
     (Accepted opStreamClose t q s x) ∧ ((leAt p 0 1 ≤ 31) ∧ ((leAt p 1 3 = 0) ∧ ((streamIsOpen h (leAt p 0 1) = true) ∧ ((holderOf h (obj 6 (leAt p 0 1)) = some c.holder)))))) :=
  ⟨⟨accepted_of (by decide +kernel), by decide +kernel, by decide +kernel, by decide +kernel, by decide +kernel, by decide +kernel, by decide +kernel, by decide +kernel, by decide +kernel, by decide +kernel, by decide +kernel, by decide +kernel, by decide +kernel, by decide +kernel, by decide +kernel, by decide +kernel, by decide +kernel⟩,
    ⟨accepted_of (by decide +kernel), by decide +kernel, by decide +kernel, by decide +kernel, by decide +kernel, by decide +kernel, by decide +kernel⟩,
    ⟨accepted_of (by decide +kernel), by decide +kernel, by decide +kernel, by decide +kernel, by decide +kernel, by decide +kernel⟩,
    ⟨accepted_of (by decide +kernel), by decide +kernel, by decide +kernel, by decide +kernel, by decide +kernel, by decide +kernel, by decide +kernel, by decide +kernel, by decide +kernel, by decide +kernel, by decide +kernel⟩,
    ⟨accepted_of (by decide +kernel), by decide +kernel, by decide +kernel, by decide +kernel, by decide +kernel⟩⟩

theorem hypotheses_FunctionCommandsComplete :
    (let t : Tick := 5
     let q : Request := sent opFnCreate false 16 [0, 0, 0, 0, 0, 0, 0, 0, 0, 0, 0, 0, 2, 0, 0, 0, 151, 101, 252, 133]
     let s : State := upWith false (fun s => { s with hif := { s.hif with vfPool := 2 } })
     let x : Session := ses false
     let c := ctxOf t q s x
     let h := handed t q s x
     let p := payloadOf q.pkt
     let a := parseFnAsk p
     let slot := (0 : Nat)
     (Accepted opFnCreate t q s x) ∧ ((leAt p 0xE 2 = 0) ∧ ((fnAskCheck h c a = none) ∧ ((slotFor h a.vf = some slot))))) ∧
    (let t : Tick := 5
     let q : Request := sent opFnQuiesce false 4 [4, 0, 0, 0, 174, 119, 202, 78]
     let s : State := upWith false (fun s => { s with hif := { s.hif with fns := [(0, { state := .active }), (4, { state := .active, vectors := 2 })], vfPool := 100 } })
     let x : Session := ses false
     let c := ctxOf t q s x
     let h := handed t q s x
     let p := payloadOf q.pkt
     let f := leAt p 0 1
     let st := (fnRec h f).state
     (Accepted opFnQuiesce t q s x) ∧ ((fnTarget h c = none) ∧ ((st = .active)))) ∧
    (let t : Tick := 5
     let q : Request := sent opFnQuiesce false 4 [4, 0, 0, 0, 174, 119, 202, 78]
     let s : State := upWith false (fun s => { s with hif := { s.hif with fns := [(0, { state := .active }), (4, { state := .quiesced, vectors := 2 })], vfPool := 100 } })
     let x : Session := ses false
     let c := ctxOf t q s x
     let h := handed t q s x
     let p := payloadOf q.pkt
     let f := leAt p 0 1
     let st := (fnRec h f).state
     (Accepted opFnQuiesce t q s x) ∧ ((fnTarget h c = none) ∧ ((st = .quiesced)))) ∧
    (let t : Tick := 5
     let q : Request := sent opFnQuiesce false 4 [4, 0, 0, 0, 174, 119, 202, 78]
     let s : State := upWith false (fun s => { s with hif := { s.hif with fns := [(0, { state := .active }), (4, { state := .resetting, vectors := 2 })], vfPool := 100 } })
     let x : Session := ses false
     let c := ctxOf t q s x
     let h := handed t q s x
     let p := payloadOf q.pkt
     let f := leAt p 0 1
     let st := (fnRec h f).state
     (Accepted opFnQuiesce t q s x) ∧ ((fnTarget h c = none) ∧ ((st = .resetting)))) ∧
    (let t : Tick := 5
     let q : Request := sent opFnResume false 4 [4, 0, 0, 0, 211, 113, 113, 95]
     let s : State := upWith false (fun s => { s with hif := { s.hif with fns := [(0, { state := .active }), (4, { state := .quiesced, vectors := 2 })], vfPool := 100 } })
     let x : Session := ses false
     let c := ctxOf t q s x
     let h := handed t q s x
     let p := payloadOf q.pkt
     let f := leAt p 0 1
     let st := (fnRec h f).state
     (Accepted opFnResume t q s x) ∧ ((fnTarget h c = none) ∧ ((st = .quiesced)))) ∧
    (let t : Tick := 5
     let q : Request := sent opFnResume false 4 [4, 0, 0, 0, 211, 113, 113, 95]
     let s : State := upWith false (fun s => { s with hif := { s.hif with fns := [(0, { state := .active }), (4, { state := .quiescing, vectors := 2 })], vfPool := 100 } })
     let x : Session := ses false
     let c := ctxOf t q s x
     let h := handed t q s x
     let p := payloadOf q.pkt
     let f := leAt p 0 1
     let st := (fnRec h f).state
     (Accepted opFnResume t q s x) ∧ ((fnTarget h c = none) ∧ ((st = .quiescing ∨ st = .resetting ∨ st = .saving)))) ∧
    (let t : Tick := 5
     let q : Request := sent opFnReset false 4 [4, 0, 0, 0, 248, 115, 24, 80]
     let s : State := upWith false (fun s => { s with hif := { s.hif with fns := [(0, { state := .active }), (4, { state := .quiesced, vectors := 2 })], vfPool := 100 } })
     let x : Session := ses false
     let c := ctxOf t q s x
     let h := handed t q s x
     let p := payloadOf q.pkt
     let f := leAt p 0 1
     let st := (fnRec h f).state
     (Accepted opFnReset t q s x) ∧ ((fnTarget h c = none) ∧ ((st = .quiesced)))) ∧
    (let t : Tick := 5
     let q : Request := sent opFnReset false 4 [4, 0, 0, 0, 248, 115, 24, 80]
     let s : State := upWith false (fun s => { s with hif := { s.hif with fns := [(0, { state := .active }), (4, { state := .active, vectors := 2 })], vfPool := 100 } })
     let x : Session := ses false
     let c := ctxOf t q s x
     let h := handed t q s x
     let p := payloadOf q.pkt
     let f := leAt p 0 1
     let st := (fnRec h f).state
     (Accepted opFnReset t q s x) ∧ ((fnTarget h c = none) ∧ ((st ≠ .quiesced)))) ∧
    (let t : Tick := 5
     let q : Request := sent opFnRemove false 4 [4, 0, 0, 0, 41, 125, 7, 124]
     let s : State := upWith false (fun s => { s with hif := { s.hif with fns := [(0, { state := .active }), (4, { state := .quiesced, vectors := 2 })], vfPool := 100 } })
     let x : Session := ses false
     let c := ctxOf t q s x
     let h := handed t q s x
     let p := payloadOf q.pkt
     let f := leAt p 0 1
     let st := (fnRec h f).state
     (Accepted opFnRemove t q s x) ∧ ((fnTarget h c = none) ∧ ((st = .quiesced)))) ∧
    (let t : Tick := 5
     let q : Request := sent opFnRemove false 4 [4, 0, 0, 0, 41, 125, 7, 124]
     let s : State := upWith false (fun s => { s with hif := { s.hif with fns := [(0, { state := .active }), (4, { state := .active, vectors := 2 })], vfPool := 100 } })
     let x : Session := ses false
     let c := ctxOf t q s x
     let h := handed t q s x
     let p := payloadOf q.pkt
     let f := leAt p 0 1
     let st := (fnRec h f).state
     (Accepted opFnRemove t q s x) ∧ ((fnTarget h c = none) ∧ ((st ≠ .quiesced)))) ∧
    (let t : Tick := 5
     let q : Request := sent opFnSave false 16 [4, 0, 0, 0, 0, 0, 0, 0, 0, 0, 0, 0, 0, 0, 0, 0, 208, 175, 201, 191]
     let s : State := upWith false (fun s => { s with hif := { s.hif with fns := [(0, { state := .active }), (4, { state := .quiesced, vectors := 2 })], vfPool := 100 } })
     let x : Session := ses false
     let c := ctxOf t q s x
     let h := handed t q s x
     let p := payloadOf q.pkt
     let f := leAt p 0 1
     let st := (fnRec h f).state
     (Accepted opFnSave t q s x) ∧ ((fnTarget h c = none) ∧ ((st = .quiesced) ∧ ((leAt p 0xC 4 = 0))))) ∧
    (let t : Tick := 5
     let q : Request := sent opFnSave false 16 [4, 0, 0, 0, 0, 0, 0, 0, 0, 0, 0, 0, 0, 0, 1, 0, 167, 55, 107, 172]
     let s : State := upWith false (fun s => { s with hif := { s.hif with fns := [(0, { state := .active }), (4, { state := .quiesced, vectors := 2 })], vfPool := 100 } })
     let x : Session := ses false
     let c := ctxOf t q s x
     let h := handed t q s x
     let p := payloadOf q.pkt
     let f := leAt p 0 1
     let st := (fnRec h f).state
     (Accepted opFnSave t q s x) ∧ ((fnTarget h c = none) ∧ ((st = .quiesced) ∧ ((leAt p 0xC 4 ≠ 0) ∧ ((imageLen h f ≤ leAt p 0xC 4)))))) ∧
    (let t : Tick := 5
     let q : Request := sent opFnRestore false 16 [0, 0, 0, 0, 0, 16, 0, 0, 0, 0, 0, 0, 96, 0, 0, 0, 37, 54, 19, 102]
     let s : State := upWith false (fun s => withImage { s with hif := { s.hif with vfPool := 2 } })
     let x : Session := ses false
     let c := ctxOf t q s x
     let h := handed t q s x
     let p := payloadOf q.pkt
     let fn := portFn q.port
     let body := ([] : List Byte)
     let slot := (0 : Nat)
     let u := restored t q s
     (Accepted opFnRestore t q s x) ∧ ((leAt p 2 2 = 0) ∧ (let img := rdIovas h fn (leAt p 4 8) (leAt p 0xC 4)
     let v := noteFault fn 8 false (leAt p 4 8) (leAt p 0xC 4) h
     let b := imageAsk (leAt p 0 1) (leAt p 1 1) img
     (ctxPoison v (some fn) (leAt p 4 8) (leAt p 0xC 4) = false) ∧ ((openImage v img (leAt p 0xC 4) = some body) ∧ ((fnAskCheck v c b = none) ∧ ((slotFor v b.vf = some slot) ∧ ((restoreParts (4 + slot) (sectionsOf body.length body) (buildFn fn slot .quiesced (ctxRequester c) b v) = some u)))))))) :=
  ⟨⟨accepted_of (by decide +kernel), by decide +kernel, by decide +kernel, by decide +kernel⟩,
    ⟨accepted_of (by decide +kernel), by decide +kernel, by decide +kernel⟩,
    ⟨accepted_of (by decide +kernel), by decide +kernel, by decide +kernel⟩,
    ⟨accepted_of (by decide +kernel), by decide +kernel, by decide +kernel⟩,
    ⟨accepted_of (by decide +kernel), by decide +kernel, by decide +kernel⟩,
    ⟨accepted_of (by decide +kernel), by decide +kernel, by decide +kernel⟩,
    ⟨accepted_of (by decide +kernel), by decide +kernel, by decide +kernel⟩,
    ⟨accepted_of (by decide +kernel), by decide +kernel, by decide +kernel⟩,
    ⟨accepted_of (by decide +kernel), by decide +kernel, by decide +kernel⟩,
    ⟨accepted_of (by decide +kernel), by decide +kernel, by decide +kernel⟩,
    ⟨accepted_of (by decide +kernel), by decide +kernel, by decide +kernel, by decide +kernel⟩,
    ⟨accepted_of (by decide +kernel), by decide +kernel, by decide +kernel, by decide +kernel, by decide +kernel⟩,
    ⟨accepted_of (by decide +kernel), by decide +kernel, by decide +kernel, by decide +kernel, by decide +kernel, by decide +kernel, by decide +kernel⟩⟩

theorem hypotheses_PowerCommandsComplete :
    (let t : Tick := 5
     let q : Request := sent opBlockPower false 4 [88, 0, 0, 0, 48, 141, 211, 151]
     let s : State := upWith false (fun s => grant 0x7000 0 (gatesOn [0x58] s))
     let x : Session := ses false
     let c := ctxOf t q s x
     let h := handed t q s x
     let p := payloadOf q.pkt
     let g := leAt p 0 2
     let known := (gateKind g = some .power ∨ gateKind g = some .clock) ∧ leAt p 3 1 = 0
     (Accepted opBlockPower t q s x) ∧ ((known) ∧ ((leAt p 2 1 = 0) ∧ ((gateRefusal h c g = none) ∧ ((∀ y ∈ gateChildren g, gateState h y = .off) ∧ ((gateState (leaveGate g (reqMember c) h) g = .on))))))) ∧
    (let t : Tick := 5
     let q : Request := sent opBlockPower false 4 [103, 0, 0, 0, 170, 243, 214, 70]
     let s : State := upWith false (fun s => grant 0x700F 0 s)
     let x : Session := ses false
     let c := ctxOf t q s x
     let h := handed t q s x
     let p := payloadOf q.pkt
     let g := leAt p 0 2
     let known := (gateKind g = some .power ∨ gateKind g = some .clock) ∧ leAt p 3 1 = 0
     (Accepted opBlockPower t q s x) ∧ ((known) ∧ ((leAt p 2 1 = 0) ∧ ((gateRefusal h c g = none) ∧ ((∀ y ∈ gateChildren g, gateState h y = .off) ∧ ((gateState (leaveGate g (reqMember c) h) g = .off))))))) ∧
    (let t : Tick := 5
     let q : Request := sent opBlockPower true 4 [3, 0, 0, 0, 64, 255, 157, 250, 122, 192, 180, 87, 245, 169, 191, 55]
     let s : State := upWith true (fun s => gatesOn [0x28] s)
     let x : Session := ses true
     let c := ctxOf t q s x
     let h := handed t q s x
     let p := payloadOf q.pkt
     let g := leAt p 0 2
     let known := (gateKind g = some .power ∨ gateKind g = some .clock) ∧ leAt p 3 1 = 0
     (Accepted opBlockPower t q s x) ∧ ((known) ∧ ((leAt p 2 1 = 0) ∧ ((gateRefusal h c g = none) ∧ ((∃ y ∈ gateChildren g, gateState h y ≠ .off)))))) ∧
    (let t : Tick := 5
     let q : Request := sent opBlockPower false 4 [88, 0, 1, 0, 71, 21, 113, 132]
     let s : State := upWith false (fun s => grant 0x7000 0 (gatesOn [0x58] s))
     let x : Session := ses false
     let c := ctxOf t q s x
     let h := handed t q s x
     let p := payloadOf q.pkt
     let g := leAt p 0 2
     let known := (gateKind g = some .power ∨ gateKind g = some .clock) ∧ leAt p 3 1 = 0
     (Accepted opBlockPower t q s x) ∧ ((known) ∧ ((leAt p 2 1 = 1) ∧ ((clkLost h = false) ∧ ((if holmOwned h (obj 9 g) then x.holm = true else granteeOf h (obj 9 g) = some (portFn q.port)) ∧ ((standbyNeeds h g = false) ∧ ((gateState (joinGate g (reqMember c) h) g = .on)))))))) ∧
    (let t : Tick := 5
     let q : Request := sent opBlockPower false 4 [48, 0, 1, 0, 205, 61, 182, 14]
     let s : State := upWith false (fun s => grant 0xC000 0 s)
     let x : Session := ses false
     let c := ctxOf t q s x
     let h := handed t q s x
     let p := payloadOf q.pkt
     let g := leAt p 0 2
     let known := (gateKind g = some .power ∨ gateKind g = some .clock) ∧ leAt p 3 1 = 0
     (Accepted opBlockPower t q s x) ∧ ((known) ∧ ((leAt p 2 1 = 1) ∧ ((gateKind g = some .power) ∧ ((clkLost h = false) ∧ ((if holmOwned h (obj 9 g) then x.holm = true else granteeOf h (obj 9 g) = some (portFn q.port)) ∧ ((standbyNeeds h g = false) ∧ ((gateState (joinGate g (reqMember c) h) g = .off))))))))) ∧
    (let t : Tick := 5
     let q : Request := sent opClockSet true 8 [2, 0, 0, 0, 192, 92, 21, 0, 214, 214, 90, 26, 126, 255, 183, 16, 250, 181, 43, 128]
     let s : State := upWith true (fun s => gatesOn [2] s)
     let x : Session := ses true
     let h := handed t q s x
     let p := payloadOf q.pkt
     (Accepted opClockSet t q s x) ∧ ((clkLost h = false) ∧ ((leAt p 0 1 = 2) ∧ ((leAt p 1 3 = 0) ∧ ((leAt p 4 4 % 25000 = 0) ∧ ((700000 ≤ leAt p 4 4) ∧ ((leAt p 4 4 ≤ 1400000) ∧ ((admittedKhz h ≤ leAt p 4 4) ∧ ((gateState h 2 ≠ .off)))))))))) ∧
    (let t : Tick := 5
     let q : Request := sent opClockSet true 8 [2, 0, 0, 0, 96, 174, 10, 0, 129, 226, 22, 79, 100, 196, 103, 14, 20, 69, 153, 42]
     let s : State := upWith true (fun s => { s with ledger := { s.ledger with contracts := [{ contract 1 false .render with khz := 1400000 }] } })
     let x : Session := ses true
     let h := handed t q s x
     let p := payloadOf q.pkt
     (Accepted opClockSet t q s x) ∧ ((clkLost h = false) ∧ ((leAt p 0 1 = 2) ∧ ((leAt p 1 3 = 0) ∧ ((leAt p 4 4 % 25000 = 0) ∧ ((700000 ≤ leAt p 4 4) ∧ ((leAt p 4 4 ≤ 1400000) ∧ ((leAt p 4 4 < admittedKhz h))))))))) ∧
    (let t : Tick := 5
     let q : Request := sent opPowerState true 4 [1, 0, 0, 0, 14, 226, 93, 71, 13, 30, 66, 130, 102, 237, 77, 157]
     let s : State := up true
     let x : Session := ses true
     let h := handed t q s x
     let p := payloadOf q.pkt
     (Accepted opPowerState t q s x) ∧ ((clkLost h = false) ∧ ((leAt p 0 1 = 1) ∧ ((leAt p 1 3 = 0) ∧ ((pwrMode h = 0) ∧ ((standbyBusy h = false))))))) ∧
    (let t : Tick := 5
     let q : Request := sent opPowerState true 4 [1, 0, 0, 0, 14, 226, 93, 71, 13, 30, 66, 130, 102, 237, 77, 157]
     let s : State := upWith true (fun s => { s with ledger := { s.ledger with contracts := [contract 1 false .render] } })
     let x : Session := ses true
     let h := handed t q s x
     let p := payloadOf q.pkt
     (Accepted opPowerState t q s x) ∧ ((clkLost h = false) ∧ ((leAt p 0 1 = 1) ∧ ((leAt p 1 3 = 0) ∧ ((pwrMode h = 0) ∧ ((standbyBusy h = true))))))) ∧
    (let t : Tick := 5
     let q : Request := sent opPowerState true 4 [0, 0, 0, 0, 212, 252, 110, 26, 187, 76, 145, 240, 183, 164, 197, 106]
     let s : State := upWith true (fun s => wrF Reg.PWR_STAT Fld.PWR_STAT_STATE 1 s)
     let x : Session := ses true
     let h := handed t q s x
     let p := payloadOf q.pkt
     (Accepted opPowerState t q s x) ∧ ((clkLost h = false) ∧ ((leAt p 0 1 = 0) ∧ ((leAt p 1 3 = 0) ∧ ((pwrMode h = 1)))))) :=
  ⟨⟨accepted_of (by decide +kernel), by decide +kernel, by decide +kernel, by decide +kernel, by decide +kernel, by decide +kernel⟩,
    ⟨accepted_of (by decide +kernel), by decide +kernel, by decide +kernel, by decide +kernel, by decide +kernel, by decide +kernel⟩,
    ⟨accepted_of (by decide +kernel), by decide +kernel, by decide +kernel, by decide +kernel, by decide +kernel⟩,
    ⟨accepted_of (by decide +kernel), by decide +kernel, by decide +kernel, by decide +kernel, by decide +kernel, by decide +kernel, by decide +kernel⟩,
    ⟨accepted_of (by decide +kernel), by decide +kernel, by decide +kernel, by decide +kernel, by decide +kernel, by decide +kernel, by decide +kernel, by decide +kernel⟩,
    ⟨accepted_of (by decide +kernel), by decide +kernel, by decide +kernel, by decide +kernel, by decide +kernel, by decide +kernel, by decide +kernel, by decide +kernel, by decide +kernel⟩,
    ⟨accepted_of (by decide +kernel), by decide +kernel, by decide +kernel, by decide +kernel, by decide +kernel, by decide +kernel, by decide +kernel, by decide +kernel⟩,
    ⟨accepted_of (by decide +kernel), by decide +kernel, by decide +kernel, by decide +kernel, by decide +kernel, by decide +kernel⟩,
    ⟨accepted_of (by decide +kernel), by decide +kernel, by decide +kernel, by decide +kernel, by decide +kernel, by decide +kernel⟩,
    ⟨accepted_of (by decide +kernel), by decide +kernel, by decide +kernel, by decide +kernel, by decide +kernel⟩⟩

theorem hypotheses_FirmwareAndCalibrationCommandsComplete :
    (let t : Tick := 5
     let q : Request := sent opFwWrite true 16 [1, 0, 0, 0, 0, 0, 0, 0, 4, 0, 0, 0, 1, 2, 3, 4, 245, 144, 181, 250, 140, 191, 37, 76, 9, 187, 104, 101]
     let s : State := up true
     let x : Session := ses true
     let h := handed t q s x
     let p := payloadOf q.pkt
     let slot := leAt p 0 1
     let area := flashArea slot
     let off := leAt p 4 4
     let len := leAt p 8 4
     (Accepted opFwWrite t q s x) ∧ ((slot ≤ 3) ∧ ((leAt p 1 3 = 0) ∧ ((off % 4 = 0) ∧ ((len % 4 = 0) ∧ ((4 ≤ len) ∧ ((len ≤ 4056) ∧ ((off + len ≤ area.2) ∧ ((slot ≠ h.boot.slot)))))))))) ∧
    (let t : Tick := 5
     let q : Request := sent opFwWrite true 16 [0, 0, 0, 0, 0, 0, 0, 0, 4, 0, 0, 0, 1, 2, 3, 4, 48, 237, 47, 24, 31, 158, 89, 241, 209, 139, 144, 104]
     let s : State := up true
     let x : Session := ses true
     let h := handed t q s x
     let p := payloadOf q.pkt
     let slot := leAt p 0 1
     let area := flashArea slot
     let off := leAt p 4 4
     let len := leAt p 8 4
     (Accepted opFwWrite t q s x) ∧ ((slot ≤ 3) ∧ ((leAt p 1 3 = 0) ∧ ((off % 4 = 0) ∧ ((len % 4 = 0) ∧ ((4 ≤ len) ∧ ((len ≤ 4056) ∧ ((off + len ≤ area.2) ∧ ((slot = h.boot.slot)))))))))) ∧
    (let t : Tick := 5
     let q : Request := sent opFwActivate true 36 [1, 0, 0, 0, 14, 88, 170, 112, 8, 181, 138, 98, 241, 152, 160, 225, 94, 92, 138, 111, 81, 131, 199, 70, 96, 233, 47, 198, 160, 187, 172, 32, 207, 157, 147, 154, 155, 117, 10, 209, 120, 48, 78, 204, 144, 252, 151, 215]
     let s : State := upWith true (fun s => { s with boot := { s.boot with otp := { s.boot.otp with rootHash := bytes [216, 117, 219, 125, 239, 35, 34, 54, 174, 199, 56, 198, 176, 187, 62, 128, 20, 47, 93, 15, 216, 244, 223, 36, 254, 214, 238, 245, 203, 181, 13, 159] }, flash := (List.zip ((List.range 192).map (0x900000 + ·)) signedImage).filter (fun e => e.2 != 0xFF) } })
     let x : Session := ses true
     let h := handed t q s x
     let p := payloadOf q.pkt
     let slot := leAt p 0 1
     let o := (signedImage : List Byte)
     (Accepted opFwActivate t q s x) ∧ ((slot < 2) ∧ ((leAt p 1 3 = 0) ∧ ((verified h slot = some o) ∧ ((objectDigest o = slice p 4 32) ∧ ((slot ≠ h.boot.slot))))))) ∧
    (let t : Tick := 5
     let q : Request := sent opFwActivate true 36 [1, 0, 0, 0, 14, 88, 170, 112, 8, 181, 138, 98, 241, 152, 160, 225, 94, 92, 138, 111, 81, 131, 199, 70, 96, 233, 47, 198, 160, 187, 172, 32, 207, 157, 147, 154, 155, 117, 10, 209, 120, 48, 78, 204, 144, 252, 151, 215]
     let s : State := up true
     let x : Session := ses true
     let h := handed t q s x
     let p := payloadOf q.pkt
     let slot := leAt p 0 1
     (Accepted opFwActivate t q s x) ∧ ((slot ≤ 3) ∧ ((leAt p 1 3 = 0) ∧ ((∀ o, verified h slot = some o → objectDigest o ≠ slice p 4 32))))) ∧
    (let t : Tick := 5
     let q : Request := sent opSelftest true 4 [0, 0, 0, 0, 79, 196, 144, 38, 140, 196, 214, 94, 165, 138, 212, 41]
     let s : State := upWith true (fun s => gatesOn [2] (wrF Reg.DRC_CFG Fld.DRC_CFG_DRB_CAP 300 (wrF (Reg.CLK_ISLn 2) Fld.CLK_ISLn_FREQ_KHZ 1400000 s)))
     let x : Session := ses true
     let h := handed t q s x
     let p := payloadOf q.pkt
     let fn := portFn q.port
     let k := signedBy (admitAsk (handed t q s x) (testAsk (handed t q s x) 0))
     (Accepted opSelftest t q s x) ∧ ((leAt p 0 1 = 0) ∧ ((leAt p 1 3 = 0) ∧ ((contractGuard h fn [2] = none) ∧ ((admitAsk h (testAsk h fn) = .signed k)))))) ∧
    (let t : Tick := 5
     let q : Request := sent opFaultArm true 16 [0, 0, 0, 0, 0, 0, 0, 0, 1, 0, 0, 0, 0, 0, 0, 0, 195, 54, 184, 28, 52, 160, 83, 168, 187, 140, 121, 227]
     let s : State := upWith true (fun s => wrB Reg.ISO_DBG Fld.ISO_DBG_WATCH_H true s)
     let x : Session := ses true
     let h := handed t q s x
     let p := payloadOf q.pkt
     (Accepted opFaultArm t q s x) ∧ ((faultCheck h p = none) ∧ ((h.lnk.faults.filter (fun f => f.armed)).length < 16))) ∧
    (let t : Tick := 5
     let q : Request := sent opFaultDisarm true 4 [2, 0, 0, 0, 75, 164, 248, 77, 246, 246, 99, 146, 248, 46, 139, 220]
     let s : State := upWith true (fun s => wrB Reg.ISO_DBG Fld.ISO_DBG_WATCH_H true { s with lnk := { s.lnk with faults := [({ id := 2, tag := 7, target := 3, inst := 0, dir := 0, fault := 0, mode := 0, amount := 1, tile := 0, left := 1 } : FaultRec)] } })
     let x : Session := ses true
     let h := handed t q s x
     let p := payloadOf q.pkt
     let f := ({ id := 2, tag := 7, target := 3, inst := 0, dir := 0, fault := 0, mode := 0, amount := 1, tile := 0, left := 1 } : FaultRec)
     (Accepted opFaultDisarm t q s x) ∧ ((leAt p 0 4 ≠ 0xFFFFFFFF) ∧ ((faultOf h q.pkt.tag (leAt p 0 4) = some f)))) ∧
    (let t : Tick := 5
     let q : Request := sent opTouchCalibrate true 4 [7, 1, 0, 0, 71, 230, 33, 206, 23, 14, 74, 195, 200, 52, 53, 125]
     let s : State := upWith true (fun s => wrB (Reg.TCH_Sk_CTRL 7) Fld.TCH_Sk_CTRL_ENABLE true (wrF (Reg.TCH_Sk_STAT 7) Fld.TCH_Sk_STAT_STATE 2 s))
     let x : Session := ses true
     let h := handed t q s x
     let p := payloadOf q.pkt
     let k := leAt p 0 1
     (Accepted opTouchCalibrate t q s x) ∧ ((k < 8) ∧ ((sensorOn h k = true) ∧ ((leAt p 1 1 ≤ 1) ∧ ((leAt p 2 2 = 0) ∧ ((tsOf h k).contacts = [] ∧ ((tState h k = 2) ∧ ((tsOf h k).cal = none)))))))) ∧
    (let t : Tick := 5
     let q : Request := sent opHapticCalibrate false 4 [15, 0, 0, 0, 111, 5, 185, 47]
     let s : State := upWith false (fun s => grant 0x700F 0 (gatesOn [7, 0x67] (wrB (Reg.HAP_Cn_CTRL 15) Fld.HAP_Cn_CTRL_ENABLE true s)))
     let x : Session := ses false
     let c := ctxOf t q s x
     let h := handed t q s x
     let p := payloadOf q.pkt
     let n := leAt p 0 1
     (Accepted opHapticCalibrate t q s x) ∧ ((leAt p 1 3 = 0) ∧ ((n ≤ 15) ∧ ((holdsTarget h c (obj 7 n) = true) ∧ ((gateOn h (0x58 + n) = true) ∧ ((hapOn h n = true) ∧ ((hapState h n ≠ 5) ∧ ((hapOf h n).cal = none ∧ ((hapOf h n).queue = [] ∧ ((hapOf h n).drive = none ∧ ((hapOf h n).brake = none))))))))))) :=
  ⟨⟨accepted_of (by decide +kernel), by decide +kernel, by decide +kernel, by decide +kernel, by decide +kernel, by decide +kernel, by decide +kernel, by decide +kernel, by decide +kernel⟩,
    ⟨accepted_of (by decide +kernel), by decide +kernel, by decide +kernel, by decide +kernel, by decide +kernel, by decide +kernel, by decide +kernel, by decide +kernel, by decide +kernel⟩,
    ⟨accepted_of (by decide +kernel), by decide +kernel, by decide +kernel, by decide +kernel, by decide +kernel, by decide +kernel⟩,
    ⟨accepted_of (by decide +kernel), by decide +kernel, by decide +kernel, by rw [show verified _ _ = none by decide +kernel]; intro o e; exact nomatch e⟩,
    ⟨accepted_of (by decide +kernel), by decide +kernel, by decide +kernel, by decide +kernel, by decide +kernel⟩,
    ⟨accepted_of (by decide +kernel), by decide +kernel, by decide +kernel⟩,
    ⟨accepted_of (by decide +kernel), by decide +kernel, by decide +kernel⟩,
    ⟨accepted_of (by decide +kernel), by decide +kernel, by decide +kernel, by decide +kernel, by decide +kernel, by decide +kernel, by decide +kernel, by decide +kernel⟩,
    ⟨accepted_of (by decide +kernel), by decide +kernel, by decide +kernel, by decide +kernel, by decide +kernel, by decide +kernel, by decide +kernel, by decide +kernel, by decide +kernel, by decide +kernel, by decide +kernel⟩⟩

theorem hypotheses_RegisterListsComplete :
    (let t : Tick := 5
     let q : Request := sent opDisplayWrite false 12 [7, 0, 1, 0, 0, 16, 0, 0, 0, 0, 0, 0, 136, 174, 175, 19]
     let s : State := upWith false (fun s => grant 0x203F 0 (gatesOn [3, 0x2F] (stocked s)))
     let x : Session := ses false
     let base : Nat := 0xA70000
     let size : Nat := 0x10000
     let c := ctxOf t q s x
     let h := handed t q s x
     let p := payloadOf q.pkt
     let fn := portFn q.port
     let rq := ctxRequester c
     let count := leAt p 2 2
     let es (w : Bool) := listEntries w p count
     let u := (listApply rq base (es true) (dropLatch rq h)).getD h
     (Accepted opDisplayWrite t q s x) ∧ ((fnQuiet h fn = false) ∧ ((0 < count) ∧ ((count ≤ 508) ∧ ((listInstance 3 (leAt p 0 1) (leAt p 1 1) = .ok (base, size)) ∧ ((badEntry size (es true) = none) ∧ ((listRefusal h rq true base (es true) = none) ∧ ((listApply rq base (es true) (dropLatch rq h) = some u))))))))) ∧
    (let t : Tick := 5
     let q : Request := sent opDisplayRead false 8 [7, 0, 1, 0, 0, 16, 0, 0, 68, 226, 21, 201]
     let s : State := upWith false (fun s => grant 0x203F 0 (gatesOn [3, 0x2F] (stocked s)))
     let x : Session := ses false
     let base : Nat := 0xA70000
     let size : Nat := 0x10000
     let c := ctxOf t q s x
     let h := handed t q s x
     let p := payloadOf q.pkt
     let rq := ctxRequester c
     let count := leAt p 2 2
     let es (w : Bool) := listEntries w p count
     (Accepted opDisplayRead t q s x) ∧ ((0 < count) ∧ ((count ≤ 508) ∧ ((listInstance 3 (leAt p 0 1) (leAt p 1 1) = .ok (base, size)) ∧ ((badEntry size (es false) = none) ∧ ((listRefusal h rq false base (es false) = none))))))) ∧
    (let t : Tick := 5
     let q : Request := sent opDisplayWrite false 4 [7, 0, 0, 0, 220, 183, 171, 206]
     let s : State := upWith false (fun s => (fun s => { s with hif := { s.hif with fns := [(0, { state := .quiescing })] } }) (grant 0x203F 0 (gatesOn [3, 0x2F] (stocked s))))
     let x : Session := ses false
     let h := handed t q s x
     let fn := portFn q.port
     (Accepted opDisplayWrite t q s x) ∧ ((fnQuiet h fn = true))) ∧
    (let t : Tick := 5
     let q : Request := sent opDisplayWrite false 4 [7, 0, 0, 0, 220, 183, 171, 206]
     let s : State := upWith false (fun s => grant 0x203F 0 (gatesOn [3, 0x2F] (stocked s)))
     let x : Session := ses false
     let h := handed t q s x
     let p := payloadOf q.pkt
     let fn := portFn q.port
     let count := leAt p 2 2
     (Accepted opDisplayWrite t q s x) ∧ ((fnQuiet h fn = false) ∧ ((count = 0 ∨ 508 < count)))) ∧
    (let t : Tick := 5
     let q : Request := sent opTouchWrite true 12 [7, 0, 1, 0, 0, 0, 0, 0, 0, 0, 0, 0, 227, 122, 76, 44, 31, 86, 154, 198, 3, 183, 128, 221]
     let s : State := upWith true (fun s => gatesOn [7] (stocked s))
     let x : Session := ses true
     let base : Nat := 0xE02C00
     let size : Nat := 0x400
     let c := ctxOf t q s x
     let h := handed t q s x
     let p := payloadOf q.pkt
     let fn := portFn q.port
     let rq := ctxRequester c
     let count := leAt p 2 2
     let es (w : Bool) := listEntries w p count
     let u := (listApply rq base (es true) (dropLatch rq h)).getD h
     (Accepted opTouchWrite t q s x) ∧ ((fnQuiet h fn = false) ∧ ((0 < count) ∧ ((count ≤ 508) ∧ ((listInstance 5 (leAt p 0 1) (leAt p 1 1) = .ok (base, size)) ∧ ((badEntry size (es true) = none) ∧ ((listRefusal h rq true base (es true) = none) ∧ ((listApply rq base (es true) (dropLatch rq h) = some u))))))))) ∧
    (let t : Tick := 5
     let q : Request := sent opTouchRead true 8 [7, 0, 1, 0, 0, 0, 0, 0, 231, 107, 247, 21, 41, 213, 49, 133, 202, 14, 46, 70]
     let s : State := upWith true (fun s => gatesOn [7] (stocked s))
     let x : Session := ses true
     let base : Nat := 0xE02C00
     let size : Nat := 0x400
     let c := ctxOf t q s x
     let h := handed t q s x
     let p := payloadOf q.pkt
     let rq := ctxRequester c
     let count := leAt p 2 2
     let es (w : Bool) := listEntries w p count
     (Accepted opTouchRead t q s x) ∧ ((0 < count) ∧ ((count ≤ 508) ∧ ((listInstance 5 (leAt p 0 1) (leAt p 1 1) = .ok (base, size)) ∧ ((badEntry size (es false) = none) ∧ ((listRefusal h rq false base (es false) = none))))))) ∧
    (let t : Tick := 5
     let q : Request := sent opTouchWrite true 4 [7, 0, 0, 0, 45, 214, 98, 107, 241, 78, 132, 16, 197, 111, 51, 93]
     let s : State := upWith true (fun s => (fun s => { s with hif := { s.hif with fns := [(0, { state := .quiescing })] } }) (gatesOn [7] (stocked s)))
     let x : Session := ses true
     let h := handed t q s x
     let fn := portFn q.port
     (Accepted opTouchWrite t q s x) ∧ ((fnQuiet h fn = true))) ∧
    (let t : Tick := 5
     let q : Request := sent opTouchWrite true 4 [7, 0, 0, 0, 45, 214, 98, 107, 241, 78, 132, 16, 197, 111, 51, 93]
     let s : State := upWith true (fun s => gatesOn [7] (stocked s))
     let x : Session := ses true
     let h := handed t q s x
     let p := payloadOf q.pkt
     let fn := portFn q.port
     let count := leAt p 2 2
     (Accepted opTouchWrite t q s x) ∧ ((fnQuiet h fn = false) ∧ ((count = 0 ∨ 508 < count)))) ∧
    (let t : Tick := 5
     let q : Request := sent opHapticWrite false 12 [15, 0, 1, 0, 0, 0, 0, 0, 0, 0, 0, 0, 182, 102, 113, 151]
     let s : State := upWith false (fun s => grant 0x700F 0 (gatesOn [7, 0x67] (stocked s)))
     let x : Session := ses false
     let base : Nat := 0xE82E00
     let size : Nat := 0x200
     let c := ctxOf t q s x
     let h := handed t q s x
     let p := payloadOf q.pkt
     let fn := portFn q.port
     let rq := ctxRequester c
     let count := leAt p 2 2
     let es (w : Bool) := listEntries w p count
     let u := (listApply rq base (es true) (dropLatch rq h)).getD h
     (Accepted opHapticWrite t q s x) ∧ ((fnQuiet h fn = false) ∧ ((0 < count) ∧ ((count ≤ 508) ∧ ((listInstance 6 (leAt p 0 1) (leAt p 1 1) = .ok (base, size)) ∧ ((badEntry size (es true) = none) ∧ ((listRefusal h rq true base (es true) = none) ∧ ((listApply rq base (es true) (dropLatch rq h) = some u))))))))) ∧
    (let t : Tick := 5
     let q : Request := sent opHapticRead false 8 [15, 0, 1, 0, 0, 0, 0, 0, 77, 17, 175, 194]
     let s : State := upWith false (fun s => grant 0x700F 0 (gatesOn [7, 0x67] (stocked s)))
     let x : Session := ses false
     let base : Nat := 0xE82E00
     let size : Nat := 0x200
     let c := ctxOf t q s x
     let h := handed t q s x
     let p := payloadOf q.pkt
     let rq := ctxRequester c
     let count := leAt p 2 2
     let es (w : Bool) := listEntries w p count
     (Accepted opHapticRead t q s x) ∧ ((0 < count) ∧ ((count ≤ 508) ∧ ((listInstance 6 (leAt p 0 1) (leAt p 1 1) = .ok (base, size)) ∧ ((badEntry size (es false) = none) ∧ ((listRefusal h rq false base (es false) = none))))))) ∧
    (let t : Tick := 5
     let q : Request := sent opHapticWrite false 4 [15, 0, 0, 0, 232, 15, 116, 29]
     let s : State := upWith false (fun s => (fun s => { s with hif := { s.hif with fns := [(0, { state := .quiescing })] } }) (grant 0x700F 0 (gatesOn [7, 0x67] (stocked s))))
     let x : Session := ses false
     let h := handed t q s x
     let fn := portFn q.port
     (Accepted opHapticWrite t q s x) ∧ ((fnQuiet h fn = true))) ∧
    (let t : Tick := 5
     let q : Request := sent opHapticWrite false 4 [15, 0, 0, 0, 232, 15, 116, 29]
     let s : State := upWith false (fun s => grant 0x700F 0 (gatesOn [7, 0x67] (stocked s)))
     let x : Session := ses false
     let h := handed t q s x
     let p := payloadOf q.pkt
     let fn := portFn q.port
     let count := leAt p 2 2
     (Accepted opHapticWrite t q s x) ∧ ((fnQuiet h fn = false) ∧ ((count = 0 ∨ 508 < count)))) ∧
    (let t : Tick := 5
     let q : Request := sent opAudioWrite false 12 [0, 0, 1, 0, 0, 16, 0, 0, 0, 0, 0, 0, 108, 172, 41, 61]
     let s : State := upWith false (fun s => grant 0x6000 0 (gatesOn [6] (stocked s)))
     let x : Session := ses false
     let base : Nat := 0xF00000
     let size : Nat := 0x100000
     let c := ctxOf t q s x
     let h := handed t q s x
     let p := payloadOf q.pkt
     let fn := portFn q.port
     let rq := ctxRequester c
     let count := leAt p 2 2
     let es (w : Bool) := listEntries w p count
     let u := (listApply rq base (es true) (dropLatch rq h)).getD h
     (Accepted opAudioWrite t q s x) ∧ ((fnQuiet h fn = false) ∧ ((0 < count) ∧ ((count ≤ 508) ∧ ((listInstance 7 (leAt p 0 1) (leAt p 1 1) = .ok (base, size)) ∧ ((badEntry size (es true) = none) ∧ ((listRefusal h rq true base (es true) = none) ∧ ((listApply rq base (es true) (dropLatch rq h) = some u))))))))) ∧
    (let t : Tick := 5
     let q : Request := sent opAudioRead false 8 [0, 0, 1, 0, 0, 16, 0, 0, 244, 16, 101, 7]
     let s : State := upWith false (fun s => grant 0x6000 0 (gatesOn [6] (stocked s)))
     let x : Session := ses false
     let base : Nat := 0xF00000
     let size : Nat := 0x100000
     let c := ctxOf t q s x
     let h := handed t q s x
     let p := payloadOf q.pkt
     let rq := ctxRequester c
     let count := leAt p 2 2
     let es (w : Bool) := listEntries w p count
     (Accepted opAudioRead t q s x) ∧ ((0 < count) ∧ ((count ≤ 508) ∧ ((listInstance 7 (leAt p 0 1) (leAt p 1 1) = .ok (base, size)) ∧ ((badEntry size (es false) = none) ∧ ((listRefusal h rq false base (es false) = none))))))) ∧
    (let t : Tick := 5
     let q : Request := sent opAudioWrite false 4 [0, 0, 0, 0, 155, 8, 212, 173]
     let s : State := upWith false (fun s => (fun s => { s with hif := { s.hif with fns := [(0, { state := .quiescing })] } }) (grant 0x6000 0 (gatesOn [6] (stocked s))))
     let x : Session := ses false
     let h := handed t q s x
     let fn := portFn q.port
     (Accepted opAudioWrite t q s x) ∧ ((fnQuiet h fn = true))) ∧
    (let t : Tick := 5
     let q : Request := sent opAudioWrite false 4 [0, 0, 0, 0, 155, 8, 212, 173]
     let s : State := upWith false (fun s => grant 0x6000 0 (gatesOn [6] (stocked s)))
     let x : Session := ses false
     let h := handed t q s x
     let p := payloadOf q.pkt
     let fn := portFn q.port
     let count := leAt p 2 2
     (Accepted opAudioWrite t q s x) ∧ ((fnQuiet h fn = false) ∧ ((count = 0 ∨ 508 < count)))) :=
  ⟨⟨accepted_of (by decide +kernel), by decide +kernel, by decide +kernel, by decide +kernel, rfl, by decide +kernel, by decide +kernel, some_of_isSome _ (by decide +kernel)⟩,
    ⟨accepted_of (by decide +kernel), by decide +kernel, by decide +kernel, rfl, by decide +kernel, by decide +kernel⟩,
    ⟨accepted_of (by decide +kernel), by decide +kernel⟩,
    ⟨accepted_of (by decide +kernel), by decide +kernel, by decide +kernel⟩,
    ⟨accepted_of (by decide +kernel), by decide +kernel, by decide +kernel, by decide +kernel, rfl, by decide +kernel, by decide +kernel, some_of_isSome _ (by decide +kernel)⟩,
    ⟨accepted_of (by decide +kernel), by decide +kernel, by decide +kernel, rfl, by decide +kernel, by decide +kernel⟩,
    ⟨accepted_of (by decide +kernel), by decide +kernel⟩,
    ⟨accepted_of (by decide +kernel), by decide +kernel, by decide +kernel⟩,
    ⟨accepted_of (by decide +kernel), by decide +kernel, by decide +kernel, by decide +kernel, rfl, by decide +kernel, by decide +kernel, some_of_isSome _ (by decide +kernel)⟩,
    ⟨accepted_of (by decide +kernel), by decide +kernel, by decide +kernel, rfl, by decide +kernel, by decide +kernel⟩,
    ⟨accepted_of (by decide +kernel), by decide +kernel⟩,
    ⟨accepted_of (by decide +kernel), by decide +kernel, by decide +kernel⟩,
    ⟨accepted_of (by decide +kernel), by decide +kernel, by decide +kernel, by decide +kernel, rfl, by decide +kernel, by decide +kernel, some_of_isSome _ (by decide +kernel)⟩,
    ⟨accepted_of (by decide +kernel), by decide +kernel, by decide +kernel, rfl, by decide +kernel, by decide +kernel⟩,
    ⟨accepted_of (by decide +kernel), by decide +kernel⟩,
    ⟨accepted_of (by decide +kernel), by decide +kernel, by decide +kernel⟩⟩

/-! ### Sessions, rings, isolation, functions and memory -/

theorem hypotheses_SessionEventsComplete :
    (let t : Tick := 5
     let s : State := made fun s => ringAt 126 { resetPending := true } s
     let h := advance t s
     let fn : Fn := 63
     let holm : Bool := false
     (portExists (.ring fn holm) = true) ∧ (let r := ringRec h fn.val holm
     (r.resetPending = true) ∧ ((r.busy = none) ∧ ((r.enable = false))))) ∧
    (let t : Tick := 5
     let s : State := made fun s => fnIs 3 .active (ringAt 7 { enable := true, pi := 1, stamps := [5] } s)
     let h := advance t s
     let fn : Fn := 3
     let holm : Bool := true
     (portExists (.ring fn holm) = true) ∧ (let r := ringRec h fn.val holm
     (r.enable = true) ∧ ((r.busy = none) ∧ ((r.ci ≠ r.pi) ∧ ((fnFetches h fn.val = true)))))) ∧
    (let t : Tick := 5
     let s : State := State.reset
     let h := advance t s
     let fn : Fn := ⟨0, by decide⟩
     let holm : Bool := false
     (portExists (.ring fn holm) = true) ∧ (let r := ringRec h fn.val holm
     (r.enable = false))) ∧
    (let t : Tick := 5
     let s : State := made fun s => { s with gcp := { s.gcp with auth := [(128, { lock := some (0, 5) })] } }
     let h := advance t s
     let port : Port := .spi
     let b : Tick := 0
     let e : Tick := 5
     (portExists port = true) ∧ ((tget {} h.gcp.auth (portKey port)).lock = some (b, e) ∧ ((e ≤ h.gtb)))) ∧
    (let t : Tick := 40000000
     let s : State := made fun s => sesAt ({ ses false with state := .pending }) s
     let h := advance t s
     let tag : Word := 7
     let x : Session := { ses false with state := .pending }
     (sessionOf h tag = some x) ∧ ((x.state = .pending) ∧ ((x.tOpen + 40000000 ≤ h.gtb)))) ∧
    (let t : Tick := 12000000000
     let s : State := made fun s => sesAt ({ ses false with state := .expired }) s
     let h := advance t s
     let tag : Word := 7
     let x : Session := { ses false with state := .expired }
     (sessionOf h tag = some x) ∧ ((x.state = .expired) ∧ ((x.expiredAt + 12000000000 ≤ h.gtb)))) ∧
    (let t : Tick := 12000000000
     let s : State := made fun s => sesAt ({ ses false with  }) s
     let h := advance t s
     let tag : Word := 7
     let x : Session := { ses false with  }
     (sessionOf h tag = some x) ∧ ((x.state = .opened) ∧ ((x.r + idleLimit x ≤ h.gtb) ∧ ((rungBefore h x.port (x.r + idleLimit x) = false) ∧ ((h.gcp.stalled = false) ∧ ((portBusy h x.port = none) ∧ ((x.holm = true → x.r + idleLimit x ≤ x.tOpen + lifetime)))))))) ∧
    (let t : Tick := 5760000000000
     let s : State := made fun s => sesAt ({ ses true with r := 5760000000000 - 5, tOpen := 0 }) s
     let h := advance t s
     let tag : Word := 7
     let x : Session := { ses true with r := 5760000000000 - 5, tOpen := 0 }
     (sessionOf h tag = some x) ∧ ((x.state = .opened) ∧ ((x.holm = true) ∧ ((x.tOpen + lifetime < x.r + idleLimit x) ∧ ((x.tOpen + lifetime ≤ h.gtb) ∧ ((rungBefore h x.port (x.tOpen + lifetime) = false))))))) ∧
    (let t : Tick := 11999999999
     let s : State := made fun s => sesAt ({ ses false with  }) s
     let h := advance t s
     let tag : Word := 7
     let x : Session := { ses false with  }
     (sessionOf h tag = some x) ∧ ((x.state = .opened) ∧ ((h.gtb < x.r + idleLimit x) ∧ ((h.gtb < x.tOpen + lifetime))))) ∧
    (let t : Tick := 5
     let s : State := State.reset
     let h := advance t s
     (h.gcp.stalled = false)) ∧
    (let t : Tick := 5
     let s : State := made fun s => { s with gcp := { s.gcp with stalled := true } }
     let h := advance t s
     (h.gcp.stalled = true)) ∧
    (let t : Tick := 5
     let s : State := made fun s => { s with gcp := { s.gcp with stalled := true } }
     let h := advance t s
     (h.gcp.stalled = true)) ∧
    (let t : Tick := 5
     let s : State := State.reset
     let h := advance t s
     (h.gcp.stalled = false)) :=
  ⟨by decide +kernel,
    by decide +kernel,
    by decide +kernel,
    by decide +kernel,
    by decide +kernel,
    by decide +kernel,
    by decide +kernel,
    by decide +kernel,
    by decide +kernel,
    by decide +kernel,
    by decide +kernel,
    by decide +kernel,
    by decide +kernel⟩

theorem hypotheses_SpiPortEventsComplete :
    (let t : Tick := 5
     let s : State := made fun s => { s with gcp := { s.gcp with spi := { busy := true } } }
     let h := advance t s
     let r := h.gcp.spi
     (r.busy = true ∨ r.replyReady = true)) ∧
    (let t : Tick := 5
     let s : State := State.reset
     let length : BitVec 16 := 20
     let bytes : List Byte := bytes (List.replicate 20 0)
     let h := advance t s
     let r := h.gcp.spi
     (r.busy = false) ∧ ((r.replyReady = false) ∧ ((spiFramed length.toNat bytes = true)))) ∧
    (let t : Tick := 5
     let s : State := State.reset
     let length : BitVec 16 := 15
     let bytes : List Byte := bytes (List.replicate 20 0)
     let h := advance t s
     let r := h.gcp.spi
     (r.busy = false) ∧ ((r.replyReady = false) ∧ ((spiFramed length.toNat bytes = false)))) :=
  ⟨by decide +kernel,
    by decide +kernel,
    by decide +kernel⟩

theorem hypotheses_ContractEventsComplete :
    (let t : Tick := 5
     let s : State := made fun s => owes ({ contract 1 false .dma with blk := { deadline := 100 }, s0 := 5 }) s
     let fn : Fn := ⟨0, by decide⟩
     let h := advance t s
     let id : Word := 1
     let c : Contract := { contract 1 false .dma with blk := { deadline := 100 }, s0 := 5 }
     (contractOf h fn.val id.toNat = some c) ∧ ((released h c = true))) ∧
    (let t : Tick := 4
     let s : State := made fun s => owes ({ contract 1 false .dma with blk := { deadline := 100 }, s0 := 5 }) s
     let fn : Fn := ⟨0, by decide⟩
     let h := advance t s
     let id : Word := 1
     let c : Contract := { contract 1 false .dma with blk := { deadline := 100 }, s0 := 5 }
     (contractOf h fn.val id.toNat = some c) ∧ ((released h c = false))) ∧
    (let t : Tick := 99
     let s : State := made fun s => owes ({ contract 1 false .dma with blk := { deadline := 100 }, s0 := 5 }) s
     let fn : Fn := ⟨0, by decide⟩
     let h := advance t s
     let id : Word := 1
     let c : Contract := { contract 1 false .dma with blk := { deadline := 100 }, s0 := 5 }
     (contractOf h fn.val id.toNat = some c) ∧ ((h.gtb < (instWindow h c).2))) ∧
    (let t : Tick := 100
     let s : State := made fun s => owes ({ contract 1 false .dma with blk := { deadline := 100 }, s0 := 5 }) s
     let fn : Fn := ⟨0, by decide⟩
     let h := advance t s
     let id : Word := 1
     let c : Contract := { contract 1 false .dma with blk := { deadline := 100 }, s0 := 5 }
     (contractOf h fn.val id.toNat = some c) ∧ ((instWindow h c).2 ≤ h.gtb ∧ ((c.blk.locked = true → c.latches ≠ []) ∧ ((c.kind = .cream → creamPending h c = false) ∧ ((fnRec h c.fn).state ≠ .quiescing))))) ∧
    (let t : Tick := 5
     let s : State := State.reset
     let fn : Fn := ⟨0, by decide⟩
     let h := advance t s
     let id : Word := 1
     (contractOf h fn.val id.toNat = none)) ∧
    (let t : Tick := 5
     let s : State := State.reset
     let fn : Fn := ⟨0, by decide⟩
     let h := advance t s
     let id : Word := 1
     (contractOf h fn.val id.toNat = none)) ∧
    (let t : Tick := 2000000005
     let s : State := made fun s => { s with ledger := { s.ledger with acct := [(63, { probation := true, lastBreach := 5 })] } }
     let fn : Fn := 63
     let h := advance t s
     let a := tget {} h.ledger.acct fn.val
     (a.probation = true) ∧ ((a.lastBreach + 2000000000 ≤ h.gtb))) ∧
    (let t : Tick := 2000000004
     let s : State := made fun s => { s with ledger := { s.ledger with acct := [(63, { probation := true, lastBreach := 5 })] } }
     let fn : Fn := 63
     let h := advance t s
     let a := tget {} h.ledger.acct fn.val
     (h.gtb < a.lastBreach + 2000000000)) ∧
    (let t : Tick := 104
     let s : State := made fun s => { s with ren := { s.ren with jobs := [job], cores := [(15, { ctx := some { ctx (.group 0 0) with sectAt := some 5 } })] } }
     let h := advance t s
     let core : BitVec 4 := 15
     let x : SCtx := { ctx (.group 0 0) with sectAt := some 5 }
     let j : Job := job
     let e : Tick := 5
     let a := accrue h
     (coreRec a core.toNat).ctx = some x ∧ ((jobOf a x.fn x.id x.inst = some j) ∧ ((j.sect ≠ 0) ∧ ((x.sectAt = some e) ∧ ((a.gtb < e + j.sect)))))) ∧
    (let t : Tick := 105
     let s : State := made fun s => owes (contract 1 false .compute) { s with ren := { s.ren with jobs := [job], cores := [(15, { ctx := some { ctx (.group 0 0) with sectAt := some 5 } })] } }
     let h := advance t s
     let core : BitVec 4 := 15
     let x : SCtx := { ctx (.group 0 0) with sectAt := some 5 }
     let j : Job := job
     let k : Contract := contract 1 false .compute
     let e : Tick := 5
     let a := accrue h
     (coreRec a core.toNat).ctx = some x ∧ ((jobOf a x.fn x.id x.inst = some j) ∧ ((j.sect ≠ 0) ∧ ((x.sectAt = some e) ∧ ((e + j.sect ≤ a.gtb) ∧ (let y := setCore core.toNat { coreRec a core.toNat with ctx := some { x with sectAt := none } } a
     let z := wrF Reg.GPX_PRE_WORST Fld.GPX_PRE_WORST_SECTIONS_ENDED ((fld y Reg.GPX_PRE_WORST Fld.GPX_PRE_WORST_SECTIONS_ENDED + 1) % 65536) y
     (openInst z x.fn x.id x.inst = some k))))))) :=
  ⟨by decide +kernel,
    by decide +kernel,
    by decide +kernel,
    by decide +kernel,
    by decide +kernel,
    by decide +kernel,
    by decide +kernel,
    by decide +kernel,
    by decide +kernel,
    by decide +kernel⟩

theorem hypotheses_BreachesAreRecorded :
    let c : Contract := contract 1 false .dma
    let charged : Nat := 0
    let s : State := made fun s => fnIs 0 .active s
    (charged ≠ 0xFF) ∧ ((fnRec s (recordQueue c).1).state ≠ .absent) :=
  by decide +kernel

theorem hypotheses_IsoLogDrainsInOrder :
    (let t : Tick := 5
     let s : State := made fun s => awake s
     let h := advance t s
     (mgmtUp h = true)) ∧
    (let t : Tick := 5
     let s : State := State.reset
     let h := advance t s
     (mgmtUp h = false)) ∧
    (let t : Tick := 5
     let s : State := State.reset
     let h := advance t s
     (mgmtUp h = false)) ∧
    (let t : Tick := 5
     let s : State := made fun s => awake (wrB Reg.ISO_CTRL Fld.ISO_CTRL_NOTICE_EN true { s with iso := { s.iso with ringNext := 1 } })
     let h := advance t s
     (noticeDue h = true)) ∧
    (let t : Tick := 5
     let s : State := State.reset
     let h := advance t s
     (newEntries h.iso = 0)) :=
  ⟨by decide +kernel,
    by decide +kernel,
    by decide +kernel,
    by decide +kernel,
    by decide +kernel⟩

theorem hypotheses_TheGatewayIsTheOnlyWayIn :
    (let t : Tick := 5
     let s : State := made fun s => { s with iso := { s.iso with cores := { s.iso.cores with world := .mainland, landings := [3], landMarks := [3] } } }
     let n : BitVec 32 := 3
     let h := advance t s
     let c := h.iso.cores
     let marked := c.landings.contains n.toNat && c.landMarks.contains n.toNat
     (c.world = .mainland) ∧ ((marked = true))) ∧
    (let t : Tick := 5
     let s : State := made fun s => { s with iso := { s.iso with cores := { s.iso.cores with world := .mainland, landings := [3] } } }
     let n : BitVec 32 := 3
     let h := advance t s
     let c := h.iso.cores
     let marked := c.landings.contains n.toNat && c.landMarks.contains n.toNat
     (c.world = .mainland) ∧ ((marked = false))) ∧
    (let t : Tick := 5
     let s : State := made fun s => { s with iso := { s.iso with cores := { s.iso.cores with world := .mainland } } }
     let h := advance t s
     let c := h.iso.cores
     (c.world = .mainland)) ∧
    (let t : Tick := 5
     let s : State := State.reset
     let h := advance t s
     let c := h.iso.cores
     (c.world = .holm)) :=
  ⟨by decide +kernel,
    by decide +kernel,
    by decide +kernel,
    by decide +kernel⟩

theorem hypotheses_MainlandSeesHolmOnlyAsElapsedTime :
    (let t : Tick := 5
     let s : State := made fun s => { s with iso := { s.iso with cores := { s.iso.cores with gate := some (9, [1]) } } }
     let h := advance t s
     let c := h.iso.cores
     let pc : Word := 9
     let regs : List Word := [1]
     (c.gate = some (pc, regs)) ∧ ((c.world = .holm) ∧ ((c.byInterrupt = false)))) ∧
    (let t : Tick := 5
     let s : State := made fun s => { s with iso := { s.iso with cores := { s.iso.cores with world := .mainland, pendingHolm := [(2, 1)] } } }
     let h := advance t s
     let c := h.iso.cores
     let x : Nat × Nat := ((2, 1) : Nat × Nat)
     let rest : List (Nat × Nat) := []
     (takeIrq c.pendingHolm = some (x, rest)) ∧ ((c.world = .mainland))) ∧
    (let t : Tick := 5
     let s : State := State.reset
     let h := advance t s
     let c := h.iso.cores
     (takeIrq c.pendingHolm = none)) ∧
    (let t : Tick := 5
     let s : State := made fun s => { s with iso := { s.iso with cores := { s.iso.cores with byInterrupt := true, saved := some (9, 0, [1]) } } }
     let h := advance t s
     let c := h.iso.cores
     let pc : Word := 9
     let st : Word := 0
     let regs : List Word := [1]
     (c.saved = some (pc, st, regs)) ∧ ((c.world = .holm) ∧ ((c.byInterrupt = true)))) ∧
    (let t : Tick := 5
     let s : State := made fun s => { s with iso := { s.iso with cores := { s.iso.cores with world := .mainland } } }
     let h := advance t s
     let c := h.iso.cores
     (c.world = .mainland)) :=
  ⟨by decide +kernel,
    by decide +kernel,
    by decide +kernel,
    by decide +kernel,
    by decide +kernel⟩

theorem hypotheses_DebugIsCheckedAgainstTheEnables :
    (let i : ScanInstr := .bypass
     (i = .idcode ∨ i = .bypass)) ∧
    (let t : Tick := 5
     let s : State := made fun s => wr Reg.ISO_DBG 12 s
     let h := advance t s
     let r : DebugReq := .scan .extest false
     let n : Nat := 3
     (dbgNeed r = some n) ∧ ((dbgEnabled h n = true) ∧ ((dbgSecret r = false)))) ∧
    (let t : Tick := 5
     let s : State := State.reset
     let h := advance t s
     let r : DebugReq := .dap true true false .halt
     let n : Nat := 3
     (dbgNeed r = some n) ∧ ((dbgEnabled h n = false ∨ dbgSecret r = true))) ∧
    (let t : Tick := 5
     let s : State := made fun s => wr Reg.ISO_DBG 12 s
     let h := advance t s
     let holm : Bool := true
     (dbgEnabled h (2 * bit holm + 1) = true)) :=
  ⟨by decide +kernel,
    by decide +kernel,
    by decide +kernel,
    by decide +kernel⟩

theorem hypotheses_EventRecordsWaitTheirTurn :
    (let t : Tick := 5
     let s : State := State.reset
     let h := advance t s
     (mgmtUp h = false)) ∧
    (let t : Tick := 5
     let s : State := made fun s => awake (fnIs 0 .active { s with hif := { s.hif with eqs := [(0, { enable := true, size := 64, base := 4096, backlog := [bytes (List.replicate 32 0)] })], posts := [] } })
     let fn : Fn := 0
     let holm : Bool := false
     let h := advance t s
     let d := dueFault fn.val holm h
     let q := eqRec d fn.val holm
     let b := (bytes (List.replicate 32 0) : List Byte)
     let bs := ([] : List (List Byte))
     (mgmtUp h = true) ∧ ((q.backlog = b :: bs) ∧ ((eqOpen q = true)))) ∧
    (let t : Tick := 5
     let s : State := made fun s => awake (fnIs 0 .active { s with hif := { s.hif with eqs := [(0, { enable := true, size := 64, base := 4096 })], posts := [(0, bytes (List.replicate 32 0))] } })
     let fn : Fn := 0
     let holm : Bool := false
     let r : List Byte := bytes (List.replicate 32 0)
     let rest : List (Nat × List Byte) := []
     let h := advance t s
     let d := dueFault fn.val holm h
     let q := eqRec d fn.val holm
     let e : State := { d with hif := { d.hif with posts := rest } }
     (mgmtUp h = true) ∧ ((q.backlog = []) ∧ ((takePost (eqKey fn.val holm) d.hif.posts = some (r, rest)) ∧ ((fnRec e fn.val).state ≠ .absent ∧ ((eqOpen q = true)))))) ∧
    (let t : Tick := 5
     let s : State := made fun s => awake (fnIs 0 .active { s with hif := { s.hif with eqs := [(0, { backlog := List.replicate 63 (bytes (List.replicate 32 0)) })], posts := [(0, bytes (List.replicate 32 0))] } })
     let fn : Fn := 0
     let holm : Bool := false
     let r : List Byte := bytes (List.replicate 32 0)
     let rest : List (Nat × List Byte) := []
     let h := advance t s
     let d := dueFault fn.val holm h
     let q := eqRec d fn.val holm
     let e : State := { d with hif := { d.hif with posts := rest } }
     (mgmtUp h = true) ∧ ((takePost (eqKey fn.val holm) d.hif.posts = some (r, rest)) ∧ ((fnRec e fn.val).state ≠ .absent ∧ ((eqOpen q = false) ∧ ((q.backlog.length < 64)))))) ∧
    (let t : Tick := 5
     let s : State := made fun s => awake (fnIs 0 .active { s with hif := { s.hif with eqs := [(0, { backlog := List.replicate 64 (bytes (List.replicate 32 0)) })], posts := [(0, bytes (List.replicate 32 0))] } })
     let fn : Fn := 0
     let holm : Bool := false
     let r : List Byte := bytes (List.replicate 32 0)
     let rest : List (Nat × List Byte) := []
     let h := advance t s
     let d := dueFault fn.val holm h
     let q := eqRec d fn.val holm
     let e : State := { d with hif := { d.hif with posts := rest } }
     (mgmtUp h = true) ∧ ((takePost (eqKey fn.val holm) d.hif.posts = some (r, rest)) ∧ ((fnRec e fn.val).state ≠ .absent ∧ ((eqOpen q = false) ∧ ((64 ≤ q.backlog.length)))))) ∧
    (let t : Tick := 5
     let s : State := made fun s => awake (fnIs 0 .active { s with hif := { s.hif with eqs := [(0, { enable := true, size := 64, base := 4096 })], posts := [] } })
     let fn : Fn := 0
     let holm : Bool := false
     let h := advance t s
     let d := dueFault fn.val holm h
     let q := eqRec d fn.val holm
     (mgmtUp h = true) ∧ ((q.backlog = []) ∧ ((takePost (eqKey fn.val holm) d.hif.posts = none)))) :=
  ⟨by decide +kernel,
    by decide +kernel,
    by decide +kernel,
    by decide +kernel,
    by decide +kernel,
    by decide +kernel⟩

theorem hypotheses_FunctionEventsComplete :
    (let t : Tick := 5
     let s : State := made fun s => fnIs 63 .quiescing s
     let fn : Fn := 63
     let h := advance t s
     let f := fnRec h fn.val
     (f.state = .quiescing) ∧ ((fnStill h fn.val = true))) ∧
    (let t : Tick := 5
     let s : State := made fun s => fnIs 63 .active s
     let fn : Fn := 63
     let h := advance t s
     let f := fnRec h fn.val
     (f.state ≠ .quiescing ∨ fnStill h fn.val = false)) ∧
    (let t : Tick := 5
     let s : State := made fun s => { fnIs 0 .saving s with mem := { s.mem with poison := [0x2000000], maps := [⟨0, 2 ^ 40, 4096, 1, false, true, true, [(0x2000000, 4096)], none⟩] } }
     let fn : Fn := ⟨0, by decide⟩
     let h := advance t s
     let f := fnRec h fn.val
     (f.state = .saving) ∧ ((savePoisoned h fn.val = true))) ∧
    (let t : Tick := 5
     let s : State := made fun s => fnIs 63 .saving s
     let fn : Fn := 63
     let h := advance t s
     let f := fnRec h fn.val
     (f.state = .saving) ∧ ((savePoisoned h fn.val = false))) ∧
    (let t : Tick := 5
     let s : State := State.reset
     let fn : Fn := ⟨0, by decide⟩
     let h := advance t s
     let f := fnRec h fn.val
     (f.state = .absent)) ∧
    (let t : Tick := 5
     let s : State := made fun s => fnIs 4 .active s
     let fn : Fn := 4
     let h := advance t s
     let f := fnRec h fn.val
     (f.state ≠ .absent)) ∧
    (let t : Tick := 5
     let s : State := made fun s => fnIs 4 .resetting s
     let fn : Fn := 4
     let h := advance t s
     let f := fnRec h fn.val
     (f.state = .resetting)) ∧
    (let t : Tick := 5
     let s : State := State.reset
     let fn : Fn := ⟨0, by decide⟩
     let h := advance t s
     let f := fnRec h fn.val
     (f.state ≠ .resetting)) ∧
    (let t : Tick := 5
     let s : State := made fun s => fnIs 3 .active s
     let h := advance t s
     let port : BitVec 2 := 3
     (fnRec h port.toNat).state ≠ .absent) ∧
    (let t : Tick := 5
     let s : State := made fun s => fnIs 3 .active s
     let h := advance t s
     let port : BitVec 2 := 3
     (fnRec h port.toNat).state ≠ .absent) ∧
    (let t : Tick := 5
     let s : State := State.reset
     let h := advance t s
     let port : BitVec 2 := 3
     (fnRec h port.toNat).state = .absent) ∧
    (let t : Tick := 5
     let s : State := State.reset
     let h := advance t s
     let port : BitVec 2 := 3
     (fnRec h port.toNat).state = .absent) ∧
    (let t : Tick := 5
     let s : State := State.reset
     let h := advance t s
     let port : BitVec 2 := 3
     (fnRec h port.toNat).state = .absent) ∧
    (let t : Tick := 5
     let s : State := made fun s => fnIs 3 .active s
     let h := advance t s
     let port : BitVec 2 := 3
     (fnRec h port.toNat).state ≠ .absent) ∧
    (let t : Tick := 5
     let s : State := made fun s => fnIs 0 .active (ringAt 0 { enable := true, pi := 1, stamps := [5] } s)
     let fn : Fn := ⟨0, by decide⟩
     let h := advance t s
     let holm : Bool := false
     (portExists (.ring fn holm) = true) ∧ ((ringOpen h fn.val holm = true))) ∧
    (let t : Tick := 5
     let s : State := State.reset
     let fn : Fn := ⟨0, by decide⟩
     let h := advance t s
     let holm : Bool := false
     (portExists (.ring fn holm) = true) ∧ ((ringOpen h fn.val holm = false))) :=
  ⟨by decide +kernel,
    by decide +kernel,
    by decide +kernel,
    by decide +kernel,
    by decide +kernel,
    by decide +kernel,
    by decide +kernel,
    by decide +kernel,
    by decide +kernel,
    by decide +kernel,
    by decide +kernel,
    by decide +kernel,
    by decide +kernel,
    by decide +kernel,
    by decide +kernel,
    by decide +kernel⟩

theorem hypotheses_MemoryEventsComplete :
    (let t : Tick := 5
     let s : State := State.reset
     let h := advance t s
     let dpa : BitVec 40 := 2 ^ 39
     let a := dpa.toNat / 8 * 8
     (dpaMapped h a = false)) ∧
    (let t : Tick := 5
     let s : State := made fun s => { s with mem := { s.mem with populated := 2 ^ 34 } }
     let h := advance t s
     let dpa : BitVec 40 := 2 ^ 34 - 1
     let a := dpa.toNat / 8 * 8
     (dpaMapped h a = true) ∧ ((a < vatBase))) ∧
    (let t : Tick := 5
     let s : State := State.reset
     let h := advance t s
     let dpa : BitVec 40 := BitVec.ofNat 40 vatBase
     let a := dpa.toNat / 8 * 8
     (dpaMapped h a = true) ∧ ((vatBase ≤ a))) ∧
    (let t : Tick := 5
     let s : State := made fun s => { s with mem := { s.mem with clearing := [(0, 4096)] } }
     let h := advance t s
     let b := (0 : Nat)
     let n := (4096 : Nat)
     let es := ([] : List (Nat × Nat))
     (h.mem.clearing = (b, n) :: es)) ∧
    (let t : Tick := 5
     let s : State := State.reset
     let h := advance t s
     (h.mem.clearing = [])) ∧
    (let t : Tick := 5
     let s : State := State.reset
     let h := advance t s
     let fn : Fn := ⟨0, by decide⟩
     let iova : BitVec 48 := 4096
     let write : Bool := true
     let perm : Bool := false
     (xlate h fn.val write iova.toNat = .fault perm)) ∧
    (let t : Tick := 5
     let s : State := made fun s => wrB (Reg.TG_CTRL 7) Fld.TG_CTRL_ENABLE true s
     let h := advance t s
     let n : BitVec 3 := 7
     (tgOn h n.toNat = true)) ∧
    (let t : Tick := 5
     let s : State := State.reset
     let h := advance t s
     let n : BitVec 3 := 7
     (tgOn h n.toNat = false)) ∧
    (let t : Tick := 5
     let s : State := State.reset
     let h := advance t s
     (flg h Reg.DRC_SR_STAT Fld.DRC_SR_STAT_IN_SR = false)) ∧
    (let t : Tick := 5
     let s : State := made fun s => wrB Reg.DRC_SR_STAT Fld.DRC_SR_STAT_IN_SR true s
     let h := advance t s
     (flg h Reg.DRC_SR_STAT Fld.DRC_SR_STAT_IN_SR = true)) ∧
    (let off : BitVec 18 := 0x2FFFC
     let bs : List Byte := bytes [1, 2, 3, 4]
     (off.toNat + bs.length ≤ 0x30000)) :=
  ⟨by decide +kernel,
    by decide +kernel,
    by decide +kernel,
    by decide +kernel,
    by decide +kernel,
    by decide +kernel,
    by decide +kernel,
    by decide +kernel,
    by decide +kernel,
    by decide +kernel,
    by decide +kernel⟩

/-! ### Rendering and the display -/

theorem hypotheses_JobEventsComplete :
    (let t : Tick := 5
     let s : State := made fun s => working (job) (.batch 0 0 1) s
     let core : BitVec 4 := 15
     let x : SCtx := ctx (.batch 0 0 1)
     let j : Job := job
     let h := accrue (advance t s)
     (coreRec h core.toNat).ctx = some x ∧ ((jobOf h x.fn x.id x.inst = some j) ∧ (let cmd := (0 : Nat)
     let prim := (0 : Nat)
     let len := (1 : Nat)
     (x.step = .batch cmd prim len)))) ∧
    (let t : Tick := 5
     let s : State := made fun s => working ({ job with tiles := [3], phase := .fragment }) (.tile none) s
     let core : BitVec 4 := 15
     let x : SCtx := ctx (.tile none)
     let j : Job := { job with tiles := [3], phase := .fragment }
     let h := accrue (advance t s)
     (coreRec h core.toNat).ctx = some x ∧ ((jobOf h x.fn x.id x.inst = some j) ∧ (let i := (3 : Nat)
     let rest := ([] : List Nat)
     (x.step = .tile none) ∧ ((j.tiles = i :: rest))))) ∧
    (let t : Tick := 5
     let s : State := made fun s => working ({ job with phase := .fragment }) (.tile none) s
     let core : BitVec 4 := 15
     let x : SCtx := ctx (.tile none)
     let j : Job := { job with phase := .fragment }
     let h := accrue (advance t s)
     (coreRec h core.toNat).ctx = some x ∧ ((jobOf h x.fn x.id x.inst = some j) ∧ ((x.step = .tile none) ∧ ((j.tiles = []))))) ∧
    (let t : Tick := 5
     let s : State := made fun s => working ({ job with phase := .fragment }) (.tile (some 3)) s
     let core : BitVec 4 := 15
     let x : SCtx := ctx (.tile (some 3))
     let j : Job := { job with phase := .fragment }
     let h := accrue (advance t s)
     (coreRec h core.toNat).ctx = some x ∧ ((jobOf h x.fn x.id x.inst = some j) ∧ (let i := (3 : Nat)
     (x.step = .tile (some i))))) ∧
    (let t : Tick := 5
     let s : State := made fun s => working ({ job with phase := .compute, cmds := [⟨0, .dispatch 1 1 1⟩] }) (.group 0 0) s
     let core : BitVec 4 := 15
     let x : SCtx := ctx (.group 0 0)
     let j : Job := { job with phase := .compute, cmds := [⟨0, .dispatch 1 1 1⟩] }
     let h := accrue (advance t s)
     (coreRec h core.toNat).ctx = some x ∧ ((jobOf h x.fn x.id x.inst = some j) ∧ (let a := (0 : Nat)
     let b := (0 : Nat)
     (x.step = .group a b)))) ∧
    (let t : Tick := 5
     let s : State := made fun s => working (job) (.batch 0 0 1) s
     let core : BitVec 4 := 15
     let x : SCtx := ctx (.batch 0 0 1)
     let j : Job := job
     let h := accrue (advance t s)
     (coreRec h core.toNat).ctx = some x ∧ ((jobOf h x.fn x.id x.inst = some j) ∧ (let cmd := (0 : Nat)
     let a := (0 : Nat)
     let b := (1 : Nat)
     (x.step = .batch cmd a b)))) ∧
    (let t : Tick := 5
     let s : State := made fun s => working ({ job with phase := .compute, cmds := [⟨0, .dispatch 1 1 1⟩] }) (.group 0 0) s
     let core : BitVec 4 := 15
     let x : SCtx := ctx (.group 0 0)
     let j : Job := { job with phase := .compute, cmds := [⟨0, .dispatch 1 1 1⟩] }
     let h := accrue (advance t s)
     (coreRec h core.toNat).ctx = some x ∧ ((jobOf h x.fn x.id x.inst = some j) ∧ (let cmd := (0 : Nat)
     let a := (0 : Nat)
     (x.step = .group cmd a)))) ∧
    (let t : Tick := 5
     let s : State := State.reset
     let core : BitVec 4 := 15
     let h := accrue (advance t s)
     (coreRec h core.toNat).ctx = none) ∧
    (let t : Tick := 5
     let s : State := State.reset
     let core : BitVec 4 := 15
     let h := accrue (advance t s)
     (coreRec h core.toNat).ctx = none) ∧
    (let t : Tick := 5
     let s : State := made fun s => holding (job) s
     let j : Job := job
     let h := accrue (advance t s)
     let fn : Fn := ⟨0, by decide⟩
     let id : Word := 1
     let inst : Word := 0
     (jobOf h fn.val id.toNat inst.toNat = some j)) ∧
    (let t : Tick := 5
     let s : State := made fun s => holding (job) s
     let j : Job := job
     let h := accrue (advance t s)
     let fn : Fn := ⟨0, by decide⟩
     let id : Word := 1
     let inst : Word := 0
     (jobOf h fn.val id.toNat inst.toNat = some j) ∧ (let j' := binOn (2 * j.cmds.length + 2) j
     (vertexDone h j' = true))) ∧
    (let t : Tick := 5
     let s : State := made fun s => holding ({ job with phase := .fragment }) s
     let j : Job := { job with phase := .fragment }
     let h := accrue (advance t s)
     let fn : Fn := ⟨0, by decide⟩
     let id : Word := 1
     let inst : Word := 0
     (jobOf h fn.val id.toNat inst.toNat = some j) ∧ (let j' := binOn (2 * j.cmds.length + 2) j
     (vertexDone h j' = false))) ∧
    (let t : Tick := 5
     let s : State := made fun s => holding ({ job with phase := .compute, cmds := [⟨0, .dispatch 1 1 1⟩] }) s
     let j : Job := { job with phase := .compute, cmds := [⟨0, .dispatch 1 1 1⟩] }
     let h := accrue (advance t s)
     let fn : Fn := ⟨0, by decide⟩
     let id : Word := 1
     let inst : Word := 0
     (jobOf h fn.val id.toNat inst.toNat = some j) ∧ ((jobDispatch j ≠ none) ∧ ((j.begun = false) ∧ ((j.wgOut = 0))))) ∧
    (let t : Tick := 5
     let s : State := made fun s => holding ({ job with begun := true, phase := .compute, cmds := [⟨0, .dispatch 1 1 1⟩] }) s
     let j : Job := { job with begun := true, phase := .compute, cmds := [⟨0, .dispatch 1 1 1⟩] }
     let h := accrue (advance t s)
     let fn : Fn := ⟨0, by decide⟩
     let id : Word := 1
     let inst : Word := 0
     (jobOf h fn.val id.toNat inst.toNat = some j) ∧ ((j.begun = true))) ∧
    (let t : Tick := 5
     let s : State := made fun s => holding (job) s
     let j : Job := job
     let h := accrue (advance t s)
     let fn : Fn := ⟨0, by decide⟩
     let id : Word := 1
     let inst : Word := 0
     (jobOf h fn.val id.toNat inst.toNat = some j) ∧ ((jobDone h j = false))) ∧
    (let t : Tick := 5
     let s : State := made fun s => holding ({ job with lost := true, phase := .fragment }) s
     let j : Job := { job with lost := true, phase := .fragment }
     let h := accrue (advance t s)
     let fn : Fn := ⟨0, by decide⟩
     let id : Word := 1
     let inst : Word := 0
     (jobOf h fn.val id.toNat inst.toNat = some j) ∧ ((jobDone h j = true) ∧ ((j.lost = true)))) ∧
    (let t : Tick := 5
     let s : State := made fun s => owes (contract 1 false .render) <| holding ({ job with phase := .fragment }) s
     let j : Job := { job with phase := .fragment }
     let h := accrue (advance t s)
     let fn : Fn := ⟨0, by decide⟩
     let id : Word := 1
     let inst : Word := 0
     (jobOf h fn.val id.toNat inst.toNat = some j) ∧ ((jobDone h j = true) ∧ ((j.lost = false) ∧ (let d := bump32 Reg.GPX_CNT_JOBS 1 (setFence j.fn j.holm j.fence j.id (dropJob j.fn j.id j.inst (reportFault j h)))
     let c := contract 1 false .render
     (contractOf d j.fn j.id = some c) ∧ ((c.kind ≠ .cream)))))) ∧
    (let t : Tick := 5
     let s : State := made fun s => owes (contract 1 false .cream) <| holding ({ job with phase := .fragment }) s
     let j : Job := { job with phase := .fragment }
     let h := accrue (advance t s)
     let fn : Fn := ⟨0, by decide⟩
     let id : Word := 1
     let inst : Word := 0
     (jobOf h fn.val id.toNat inst.toNat = some j) ∧ ((jobDone h j = true) ∧ ((j.lost = false) ∧ (let d := bump32 Reg.GPX_CNT_JOBS 1 (setFence j.fn j.holm j.fence j.id (dropJob j.fn j.id j.inst (reportFault j h)))
     let c := contract 1 false .cream
     (contractOf d j.fn j.id = some c) ∧ ((c.kind = .cream)))))) ∧
    (let t : Tick := 5
     let s : State := State.reset
     let h := accrue (advance t s)
     let fn : Fn := ⟨0, by decide⟩
     let id : Word := 0
     let inst : Word := 0
     (jobOf h fn.val id.toNat inst.toNat = none)) ∧
    (let t : Tick := 5
     let s : State := State.reset
     let h := accrue (advance t s)
     let fn : Fn := ⟨0, by decide⟩
     let id : Word := 0
     let inst : Word := 0
     (jobOf h fn.val id.toNat inst.toNat = none)) :=
  ⟨by decide +kernel,
    by decide +kernel,
    by decide +kernel,
    by decide +kernel,
    by decide +kernel,
    by decide +kernel,
    by decide +kernel,
    by decide +kernel,
    by decide +kernel,
    by decide +kernel,
    by decide +kernel,
    by decide +kernel,
    by decide +kernel,
    by decide +kernel,
    by decide +kernel,
    by decide +kernel,
    by decide +kernel,
    by decide +kernel,
    by decide +kernel,
    by decide +kernel⟩

theorem hypotheses_DispatcherEventsComplete :
    (let t : Tick := 5
     let s : State := made fun s => gatesOn [2] s
     let h := accrue (advance t s)
     (gateOn h 2 = true)) ∧
    (let t : Tick := 5
     let s : State := State.reset
     let h := accrue (advance t s)
     (gateOn h 2 = false)) ∧
    (let t : Tick := 5
     let s : State := made fun s => holding { job with phase := .fragment, tiles := [3], cls := 0 } s
     let took : BitVec 10 := 0
     let h := accrue (advance t s)
     let c := (⟨{ ctx (.tile none) with cls := 0, holm := true }, none, 0⟩ : Cand)
     let core := (0 : Nat)
     let claimed := false
     let u := h
     (bestCand ((candidates h 0).filter (fun c => c.rank == 0)) = some c) ∧ ((claimCore took.toNat h = some (core, claimed, u)))) ∧
    (let t : Tick := 5
     let s : State := made fun s => holding { job with phase := .fragment, tiles := [3] } s
     let h := accrue (advance t s)
     (∀ c ∈ candidates h 0, c.rank ≠ 0)) ∧
    (let t : Tick := 400
     let s : State := made fun s => holding { job with phase := .fragment, tiles := [3], sect := 0 } (full { stocked s with ren := { s.ren with credits := [(2, 100000)] } })
     let h := accrue (advance t s)
     let c := (15 : Nat)
     let x := ({ ctx (.group 0 15) with cls := 3, lent := true } : SCtx)
     let y := (⟨ctx (.tile none), none, 1⟩ : Cand)
     (∀ k < 16, (coreRec h k).ctx ≠ none) ∧ ((bestVictim (swappable h) = some (c, x)) ∧ ((bestCand ((candidates h c).filter (fun y => y.rank == 1)) = some y)))) ∧
    (let t : Tick := 5
     let s : State := State.reset
     let h := accrue (advance t s)
     let k := 15
     (k < 16) ∧ ((coreRec h k).ctx = none)) :=
  ⟨by decide +kernel,
    by decide +kernel,
    by decide +kernel,
    by decide +kernel,
    ⟨all_below (by decide +kernel), by decide +kernel, by decide +kernel⟩,
    by decide +kernel⟩

theorem hypotheses_CompositionEventsComplete :
    (let t : Tick := 5
     let s : State := made fun s => scans (fun o => { o with strips := [] }) s
     let output : BitVec 3 := 7
     let strip : BitVec 10 := 29
     let h := advance t s
     let n := output.toNat
     let k := strip.toNat
     let live := scanning h n = true ∧ inStrips h n = true ∧ k < stripCount h n
     let v := setOut n (fun o => { o with strips := o.strips.filter (fun x => decide (k < x.index + 4)) ++ [{ index := k, plan := (List.range 8).map (stripPlan h n), views := (List.range 8).map (fun l => (layerSt h (9 * n + l)).applied), waiting := (List.range 8).filter (fun l => ((List.range 8).map (stripPlan h n)).getD l 0 == 3) }] }) h
     (0 < k) ∧ ((live) ∧ ((stripOf h n k = none) ∧ (let plan := (List.range 8).map (stripPlan h n)
     let st : Strip := { index := k, plan := plan, views := (List.range 8).map (fun l => (layerSt h (9 * n + l)).applied), waiting := (List.range 8).filter (fun l => plan.getD l 0 == 3) }
     (v = setOut n (fun o => { o with strips := o.strips.filter (fun x => decide (k < x.index + 4)) ++ [st] }) h))))) ∧
    (let t : Tick := 5
     let s : State := made fun s => scans (fun o => { o with strips := [stripRec 29 true] }) s
     let output : BitVec 3 := 7
     let strip : BitVec 10 := 29
     let h := advance t s
     let n := output.toNat
     let k := strip.toNat
     let st := stripRec 29 true
     (stripOf h n k = some st)) ∧
    (let t : Tick := 5
     let s : State := made fun s => gatesOn [2] (scans (fun o => { o with strips := [stripRec 29 false] }) s)
     let output : BitVec 3 := 7
     let layer : BitVec 3 := 7
     let strip : BitVec 10 := 29
     let h := advance t s
     let a := accrue h
     let n := output.toNat
     let k := strip.toNat
     let st : Strip := stripRec 29 false
     let took : BitVec 10 := 0
     let core := (0 : Nat)
     let claimed := false
     let u := a
     (stripOf a n k = some st) ∧ ((gateOn a 2 = true) ∧ ((∀ x ∈ running a, x.step ≠ .skim n layer.toNat k) ∧ ((st.waiting.contains layer.toNat = true) ∧ ((claimCore took.toNat a = some (core, claimed, u))))))) ∧
    (let t : Tick := 5
     let s : State := made fun s => working job (.skim 7 7 29) (scans (fun o => { o with strips := [stripRec 29 true] }) s)
     let output : BitVec 3 := 7
     let strip : BitVec 10 := 29
     let h := advance t s
     let a := accrue h
     let n := output.toNat
     let k := strip.toNat
     let core : BitVec 4 := 15
     let x : SCtx := ctx (.skim 7 7 29)
     let l : Nat := 7
     let st : Strip := stripRec 29 true
     (coreRec a core.toNat).ctx = some x ∧ ((x.step = .skim n l k) ∧ ((stripOf (freeCore core.toNat a) n k = some st) ∧ ((st.complete = true))))) ∧
    (let t : Tick := 5
     let s : State := made fun s => working job (.skim 7 7 29) (scans (fun o => { o with strips := [stripRec 29 false] }) s)
     let output : BitVec 3 := 7
     let strip : BitVec 10 := 29
     let h := advance t s
     let a := accrue h
     let n := output.toNat
     let k := strip.toNat
     let core : BitVec 4 := 15
     let x : SCtx := ctx (.skim 7 7 29)
     let l : Nat := 7
     let st : Strip := stripRec 29 false
     (coreRec a core.toNat).ctx = some x ∧ ((x.step = .skim n l k) ∧ ((stripOf (freeCore core.toNat a) n k = some st) ∧ ((st.complete = false) ∧ (let f := freeCore core.toNat a
     let w := setStrip n k (fun y => { y with waiting := y.waiting.erase l, skims := y.skims ++ [(l, skimRows f n l st)] }) f
     (skimSrc w n l = none)))))) ∧
    (let t : Tick := 5
     let s : State := made fun s => scans (fun o => { o with strips := [stripRec 29 true] }) s
     let output : BitVec 3 := 7
     let strip : BitVec 10 := 29
     let h := advance t s
     let n := output.toNat
     let k := strip.toNat
     let live := scanning h n = true ∧ inStrips h n = true ∧ k < stripCount h n
     let st := stripRec 29 true
     (live) ∧ ((stripOf h n k = some st) ∧ ((st.complete = true)))) ∧
    (let t : Tick := 5
     let s : State := made fun s => scans (fun o => { o with strips := [] }) s
     let output : BitVec 3 := 7
     let strip : BitVec 10 := 29
     let h := advance t s
     let n := output.toNat
     let k := strip.toNat
     let live := scanning h n = true ∧ inStrips h n = true ∧ k < stripCount h n
     (live) ∧ ((stripOf h n k = none))) ∧
    (let t : Tick := 5
     let s : State := made fun s => scans (fun o => { o with strips := [stripRec 29 false] }) s
     let output : BitVec 3 := 7
     let strip : BitVec 10 := 29
     let lines : BitVec 5 := 0
     let h := advance t s
     let n := output.toNat
     let k := strip.toNat
     let live := scanning h n = true ∧ inStrips h n = true ∧ k < stripCount h n
     let st := stripRec 29 false
     (live) ∧ ((stripOf h n k = some st) ∧ ((st.complete = false) ∧ ((lines = 0))))) ∧
    (let t : Tick := 5
     let s : State := State.reset
     let output : BitVec 3 := 7
     let h := advance t s
     let n := output.toNat
     (queueFree h n = false)) ∧
    (let t : Tick := 5
     let s : State := made fun s => raster 7 (setOut 7 (fun o => { o with starved := true }) s)
     let output : BitVec 3 := 7
     let h := advance t s
     let n := output.toNat
     (queueFree h n = true)) ∧
    (let t : Tick := 5
     let s : State := State.reset
     let output : BitVec 3 := 7
     let h := advance t s
     let n := output.toNat
     (∀ q ∈ (outSt h n).queue, q.complete = true)) ∧
    (let t : Tick := 5
     let output : BitVec 3 := 7
     let lines : BitVec 5 := 0
     let s : State := made fun s => raster 7 (setOut 7 (fun o => { o with queue := [{ complete := false, lines := [] }] }) s)
     let h := advance t s
     let n := output.toNat
     let q := ({ complete := false, lines := [] } : QFrame)
     (outSt h n).queue.find? (fun q => !q.complete) = some q) :=
  ⟨⟨by decide +kernel, by decide +kernel, by decide +kernel, rfl⟩,
    by decide +kernel,
    by decide +kernel,
    by decide +kernel,
    by decide +kernel,
    by decide +kernel,
    by decide +kernel,
    by decide +kernel,
    by decide +kernel,
    by decide +kernel,
    by decide +kernel,
    by decide +kernel⟩

theorem hypotheses_ScanEventsComplete :
    (let t : Tick := 5
     let s : State := State.reset
     let output : BitVec 3 := 7
     let h := advance t s
     let n := output.toNat
     (scanning h n = false)) ∧
    (let t : Tick := 5
     let s : State := made fun s => scans (fun o => { o with strips := [] }) s
     let output : BitVec 3 := 7
     let line : BitVec 13 := 479
     let h := advance t s
     let n := output.toNat
     let y := line.toNat
     (scanning h n = true) ∧ ((0 < y) ∧ ((y < vAct h n)))) ∧
    (let t : Tick := 5
     let s : State := made fun s => scans (fun o => { o with strips := [] }) s
     let output : BitVec 3 := 7
     let line : BitVec 13 := 0
     let h := advance t s
     let n := output.toNat
     let y := line.toNat
     (scanning h n = true) ∧ ((y = 0) ∧ ((0 < vAct h n) ∧ ((cursorLayer h n = none))))) ∧
    (let t : Tick := 5
     let s : State := State.reset
     let output : BitVec 3 := 7
     let h := advance t s
     let n := output.toNat
     (flg h (Reg.OP_WB_CTRL n) Fld.OP_WB_CTRL_WB_EN = false)) ∧
    (let t : Tick := 5
     let s : State := made fun s => wrB (Reg.OP_WB_CTRL 7) Fld.OP_WB_CTRL_WB_EN true (scans (fun o => { o with raster := [(479, [1, 2])] }) s)
     let output : BitVec 3 := 7
     let line : BitVec 13 := 479
     let h := advance t s
     let n := output.toNat
     let y := line.toNat
     (flg h (Reg.OP_WB_CTRL n) Fld.OP_WB_CTRL_WB_EN = true) ∧ ((scanning h n = true) ∧ ((y < vAct h n) ∧ ((tget [] (outSt h n).raster y ≠ []) ∧ ((outSt h n).wbStopped = false))))) ∧
    (let t : Tick := 5
     let s : State := made fun s => wrB (Reg.OP_WB_CTRL 7) Fld.OP_WB_CTRL_WB_EN true (scans (fun o => { o with raster := [(479, [1, 2])], wbCut := true }) s)
     let output : BitVec 3 := 7
     let line : BitVec 13 := 479
     let h := advance t s
     let n := output.toNat
     let y := line.toNat
     (flg h (Reg.OP_WB_CTRL n) Fld.OP_WB_CTRL_WB_EN = true) ∧ ((scanning h n = true) ∧ ((y < vAct h n) ∧ ((tget [] (outSt h n).raster y ≠ []) ∧ ((outSt h n).wbStopped = false ∧ (let sp := ((true, 0) : Bool × Nat)
     (spaceOf h (outObj n) = some sp) ∧ ((outSt h n).wbCut = true))))))) ∧
    (let t : Tick := 5
     let s : State := made fun s => wrB (Reg.OP_WB_CTRL 7) Fld.OP_WB_CTRL_WB_EN true (scans (fun o => { o with raster := [(478, [1, 2])] }) s)
     let output : BitVec 3 := 7
     let line : BitVec 13 := 478
     let h := advance t s
     let n := output.toNat
     let y := line.toNat
     (flg h (Reg.OP_WB_CTRL n) Fld.OP_WB_CTRL_WB_EN = true) ∧ ((scanning h n = true) ∧ ((y < vAct h n) ∧ ((tget [] (outSt h n).raster y ≠ []) ∧ ((outSt h n).wbStopped = false ∧ (let p := (0 : Nat)
     (spaceOf h (outObj n) = some (true, p)) ∧ ((outSt h n).wbCut = false ∧ ((y + 1 < vAct h n))))))))) ∧
    (let t : Tick := 5
     let s : State := State.reset
     let h := advance t s
     (h.sense.express = [])) ∧
    (let t : Tick := 5
     let s : State := made fun s => { s with sense := { s.sense with express := [(0, ⟨true, 0⟩, 1, 2)] } }
     let h := advance t s
     let k := (0 : Nat)
     let v := (⟨true, 0⟩ : Holder)
     let cx := (1 : Nat)
     let cy := (2 : Nat)
     let rest := ([] : List (Nat × Holder × Nat × Nat))
     (h.sense.express = (k, v, cx, cy) :: rest)) :=
  ⟨by decide +kernel,
    by decide +kernel,
    by decide +kernel,
    by decide +kernel,
    by decide +kernel,
    by decide +kernel,
    by decide +kernel,
    by decide +kernel,
    by decide +kernel⟩

theorem hypotheses_TraversalEventsComplete :
    (let t : Tick := 5
     let s : State := State.reset
     let output : BitVec 3 := 7
     let h := advance t s
     let n := output.toNat
     (armRec h n).pending = none) ∧
    (let t : Tick := 5
     let s : State := made fun s => scene ({ s with trv := { s.trv with arms := [(7, { pending := some true })] } })
     let output : BitVec 3 := 7
     let b : Bool := true
     let h := advance t s
     let n := output.toNat
     (armRec h n).pending = some b ∧ ((sceneOk h (slotBase n b) = true))) ∧
    (let t : Tick := 5
     let s : State := made fun s => { s with trv := { s.trv with arms := [(7, { pending := some true })] } }
     let output : BitVec 3 := 7
     let b : Bool := true
     let h := advance t s
     let n := output.toNat
     (armRec h n).pending = some b ∧ ((sceneOk h (slotBase n b) = false))) ∧
    (let t : Tick := 5
     let s : State := State.reset
     let h := advance t s
     (h.trv.running ≠ none ∨ gateOn h 0x20 = false ∨ (∀ r ∈ h.trv.queue, mayStart h r = false))) ∧
    (let t : Tick := 5
     let output : BitVec 3 := 7
     let s : State := made fun s => gatesOn [2, 0x20] ({ s with trv := { s.trv with queue := [({ kind := 0, output := 7, regions := 0, owner := none, pixels := 0, steps := 0 } : TrvRender)] } })
     let h := advance t s
     let r := ({ kind := 0, output := 7, regions := 0, owner := none, pixels := 0, steps := 0 } : TrvRender)
     (h.trv.running = none) ∧ ((gateOn h 0x20 = true) ∧ ((h.trv.queue.find? (mayStart h) = some r)))) ∧
    (let t : Tick := 5
     let s : State := State.reset
     let h := advance t s
     (h.trv.running = none)) ∧
    (let t : Tick := 5
     let output : BitVec 3 := 7
     let s : State := made fun s => { s with trv := { s.trv with running := some ({ kind := 2, output := 7, regions := 0, owner := none, pixels := 0, steps := 0 } : TrvRender) } }
     let h := advance t s
     let r := ({ kind := 2, output := 7, regions := 0, owner := none, pixels := 0, steps := 0 } : TrvRender)
     (h.trv.running = some r) ∧ ((r.kind = 2))) ∧
    (let t : Tick := 5
     let output : BitVec 3 := 7
     let s : State := made fun s => { s with trv := { s.trv with running := some ({ kind := 0, output := 7, regions := 0, owner := none, pixels := 0, steps := 0 } : TrvRender) } }
     let h := advance t s
     let r := ({ kind := 0, output := 7, regions := 0, owner := none, pixels := 0, steps := 0 } : TrvRender)
     (h.trv.running = some r) ∧ ((r.kind ≠ 2) ∧ ((r.owner = none)))) ∧
    (let t : Tick := 5
     let output : BitVec 3 := 7
     let s : State := made fun s => { s with trv := { s.trv with running := some ({ kind := 1, output := 7, regions := 0, owner := some (0, 1, 0), pixels := 0, steps := 0 } : TrvRender) } }
     let h := advance t s
     let r := ({ kind := 1, output := 7, regions := 0, owner := some (0, 1, 0), pixels := 0, steps := 0 } : TrvRender)
     (h.trv.running = some r) ∧ ((r.kind ≠ 2) ∧ (let fn := (0 : Nat)
     let id := (1 : Nat)
     let inst := (0 : Nat)
     (r.owner = some (fn, id, inst))))) ∧
    (let t : Tick := 5
     let s : State := State.reset
     let h := advance t s
     (h.trv.tests = [])) ∧
    (let t : Tick := 5
     let s : State := made fun s => { s with trv := { s.trv with tests := [⟨none, 0, none⟩] } }
     let h := advance t s
     let x := (⟨none, 0, none⟩ : SelfTest)
     let xs := ([] : List SelfTest)
     let i := (List.replicate 65536 0 : List Byte)
     let j := (List.replicate 65536 1 : List Byte)
     (h.trv.tests = x :: xs) ∧ ((testDone h = true) ∧ ((i.length = 65536) ∧ ((j.length = 65536) ∧ ((x.raster = none) ∧ ((x.port = none))))))) :=
  ⟨by decide +kernel,
    by decide +kernel,
    by decide +kernel,
    by decide +kernel,
    by decide +kernel,
    by decide +kernel,
    by decide +kernel,
    by decide +kernel,
    by decide +kernel,
    by decide +kernel,
    ⟨by decide +kernel, by decide +kernel, List.length_replicate, List.length_replicate, by decide +kernel, by decide +kernel⟩⟩

theorem hypotheses_LatchEventsComplete :
    (let t : Tick := 5
     let s : State := made fun s => raster 7 s
     let output : BitVec 3 := 7
     let h := advance t s
     let n := output.toNat
     let o := outSt h n
     (scanning h n = true) ∧ ((o.lastLatch < h.gtb))) ∧
    (let t : Tick := 5
     let s : State := State.reset
     let output : BitVec 3 := 7
     let h := advance t s
     let n := output.toNat
     let o := outSt h n
     (scanning h n = false ∨ h.gtb ≤ o.lastLatch)) ∧
    (let t : Tick := 5
     let s : State := State.reset
     let output : BitVec 3 := 7
     let h := advance t s
     let n := output.toNat
     let o := outSt h n
     (tgOn h n = false ∨ o.latched = true ∨ outReady h n = false)) ∧
    (let t : Tick := 5
     let s : State := made fun s => wrB (Reg.CLK_ISLn 15) Fld.CLK_ISLn_GOOD true (setOut 7 (fun o => { o with latched := false }) (raster 7 s))
     let output : BitVec 3 := 7
     let h := advance t s
     let n := output.toNat
     let o := outSt h n
     (tgOn h n = true) ∧ ((o.latched = false) ∧ ((outReady h n = true) ∧ (let r := noteReadyAt n h
     (flg r (Reg.TG_CTRL n) Fld.TG_CTRL_ALIGN_EN = false))))) ∧
    (let t : Tick := 5
     let s : State := made fun s => wrB (Reg.TG_CTRL 7) Fld.TG_CTRL_ALIGN_EN true (wrB (Reg.CLK_ISLn 15) Fld.CLK_ISLn_GOOD true (setOut 7 (fun o => { o with latched := false }) (raster 7 s)))
     let output : BitVec 3 := 7
     let h := advance t s
     let n := output.toNat
     let o := outSt h n
     (tgOn h n = true) ∧ ((o.latched = false) ∧ ((outReady h n = true) ∧ (let r := noteReadyAt n h
     (flg r (Reg.TG_CTRL n) Fld.TG_CTRL_ALIGN_EN = true) ∧ ((alignFails r n = true)))))) ∧
    (let t : Tick := 5
     let s : State := made fun s => wrB (Reg.TG_CTRL 7) Fld.TG_CTRL_ALIGN_EN true (wrB (Reg.CLK_ISLn 15) Fld.CLK_ISLn_GOOD true (raster 0 (setOut 7 (fun o => { o with latched := false }) (raster 7 s))))
     let output : BitVec 3 := 7
     let h := advance t s
     let n := output.toNat
     let o := outSt h n
     (tgOn h n = true) ∧ ((o.latched = false) ∧ ((outReady h n = true) ∧ (let r := noteReadyAt n h
     (flg r (Reg.TG_CTRL n) Fld.TG_CTRL_ALIGN_EN = true) ∧ ((alignFails r n = false) ∧ ((alignedNow r n = true))))))) ∧
    (let t : Tick := 1000000
     let s : State := made fun s => wrB (Reg.TG_CTRL 7) Fld.TG_CTRL_ALIGN_EN true (wrB (Reg.CLK_ISLn 15) Fld.CLK_ISLn_GOOD true (raster 0 (setOut 7 (fun o => { o with latched := false }) (raster 7 s))))
     let output : BitVec 3 := 7
     let h := advance t s
     let n := output.toNat
     let o := outSt h n
     (tgOn h n = true) ∧ ((o.latched = false) ∧ ((outReady h n = true) ∧ (let r := noteReadyAt n h
     (flg r (Reg.TG_CTRL n) Fld.TG_CTRL_ALIGN_EN = true) ∧ ((alignFails r n = false) ∧ ((alignedNow r n = false))))))) ∧
    (let t : Tick := 5
     let s : State := State.reset
     let output : BitVec 3 := 7
     let h := advance t s
     let n := output.toNat
     let o := outSt h n
     (o.waitNew = none)) ∧
    (let t : Tick := 40
     let s : State := made fun s => wrB (Reg.CLK_ISLn 15) Fld.CLK_ISLn_GOOD true (setOut 7 (fun o => { o with waitNew := some 40 }) (raster 7 s))
     let output : BitVec 3 := 7
     let h := advance t s
     let n := output.toNat
     let o := outSt h n
     let last := (40 : Nat)
     (o.waitNew = some last) ∧ ((flg h (Reg.TG_CTRL n) Fld.TG_CTRL_ALIGN_EN = false) ∧ ((outReady h n = true) ∧ ((h.gtb = latchAfter h n o.lastLatch 2 ∨ h.gtb = latchAfter h n o.lastLatch 3 ∨ last ≤ h.gtb))))) ∧
    (let t : Tick := 40
     let s : State := made fun s => setOut 7 (fun o => { o with waitNew := some 40 }) (raster 7 s)
     let output : BitVec 3 := 7
     let h := advance t s
     let n := output.toNat
     let o := outSt h n
     let last := (40 : Nat)
     (o.waitNew = some last) ∧ ((flg h (Reg.TG_CTRL n) Fld.TG_CTRL_ALIGN_EN = false) ∧ ((outReady h n = false) ∧ ((last ≤ h.gtb))))) ∧
    (let t : Tick := 39
     let s : State := made fun s => setOut 7 (fun o => { o with waitNew := some 40 }) (raster 7 s)
     let output : BitVec 3 := 7
     let h := advance t s
     let n := output.toNat
     let o := outSt h n
     let last := (40 : Nat)
     (o.waitNew = some last) ∧ ((flg h (Reg.TG_CTRL n) Fld.TG_CTRL_ALIGN_EN = false) ∧ ((outReady h n = false) ∧ ((h.gtb < last))))) ∧
    (let t : Tick := 5
     let s : State := State.reset
     let output : BitVec 3 := 7
     let h := advance t s
     let n := output.toNat
     let o := outSt h n
     (o.latchDue = false)) ∧
    (let t : Tick := 5
     let s : State := made fun s => setOut 7 (fun o => { o with latchDue := true }) s
     let output : BitVec 3 := 7
     let h := advance t s
     let n := output.toNat
     let o := outSt h n
     (o.latchDue = true) ∧ (let u := (o.commits.filter (fun c => c.taken)).foldl (fun s c => applyDisplay n c.holder s) (layersOff n h)
     let v := setOut n (fun o => { o with latchDue := false, commits := o.commits.filter (fun c => !c.taken) }) u
     (tgOn v n = false))) ∧
    (let t : Tick := 5
     let s : State := made fun s => setOut 7 (fun o => { o with latchDue := true }) (raster 7 s)
     let output : BitVec 3 := 7
     let h := advance t s
     let n := output.toNat
     let o := outSt h n
     (o.latchDue = true) ∧ (let u := (o.commits.filter (fun c => c.taken)).foldl (fun s c => applyDisplay n c.holder s) (layersOff n h)
     let v := setOut n (fun o => { o with latchDue := false, commits := o.commits.filter (fun c => !c.taken) }) u
     (tgOn v n = true))) :=
  ⟨by decide +kernel,
    by decide +kernel,
    by decide +kernel,
    by decide +kernel,
    by decide +kernel,
    by decide +kernel,
    by decide +kernel,
    by decide +kernel,
    by decide +kernel,
    by decide +kernel,
    by decide +kernel,
    by decide +kernel,
    by decide +kernel,
    by decide +kernel⟩

theorem hypotheses_CreamEventsComplete :
    (let t : Tick := 5
     let s : State := made fun s => owes ({ contract 1 true .cream with blk := { target := 7 } }) (setCrl 7 (fun c => { c with holdPending := true }) s)
     let output : BitVec 3 := 7
     let h := advance t s
     let n := output.toNat
     let c := { contract 1 true .cream with blk := { target := 7 } }
     (contractsOn h .cream n).find? (fun c => c.phase == .waiting && decide (c.s0 ≤ h.gtb)) = some c ∧ ((crlSt h n).holdPending = true ∨ backBusy h n = true)) ∧
    (let t : Tick := 5
     let s : State := made fun s => owes ({ contract 1 true .cream with blk := { target := 7 } }) s
     let output : BitVec 3 := 7
     let h := advance t s
     let n := output.toNat
     let c := { contract 1 true .cream with blk := { target := 7 } }
     (contractsOn h .cream n).find? (fun c => c.phase == .waiting && decide (c.s0 ≤ h.gtb)) = some c ∧ ((crlSt h n).holdPending = false ∧ ((backBusy h n = false)))) ∧
    (let t : Tick := 5
     let s : State := State.reset
     let output : BitVec 3 := 7
     let h := advance t s
     let n := output.toNat
     (h.disp.cream.find? (fun w => w.output == n && w.begun) = none)) ∧
    (let t : Tick := 5
     let output : BitVec 3 := 7
     let s : State := made fun s => holding job ({ s with disp := { s.disp with cream := [({ fn := 0, id := 1, inst := 0, output := 7, regions := 1, source := 0, cv := 0, addr := 0, len := 4, dest := 0, hash := [], recovery := false, begun := true } : CreamWork)] } })
     let h := advance t s
     let n := output.toNat
     let w := ({ fn := 0, id := 1, inst := 0, output := 7, regions := 1, source := 0, cv := 0, addr := 0, len := 4, dest := 0, hash := [], recovery := false, begun := true } : CreamWork)
     (h.disp.cream.find? (fun w => w.output == n && w.begun) = some w) ∧ ((creamReady h w = false))) ∧
    (let t : Tick := 5
     let output : BitVec 3 := 7
     let s : State := made fun s => { s with disp := { s.disp with cream := [({ fn := 0, id := 1, inst := 0, output := 7, regions := 1, source := 0, cv := 0, addr := 0, len := 4, dest := 0, hash := [], recovery := false, begun := true } : CreamWork)] } }
     let h := advance t s
     let n := output.toNat
     let w := ({ fn := 0, id := 1, inst := 0, output := 7, regions := 1, source := 0, cv := 0, addr := 0, len := 4, dest := 0, hash := [], recovery := false, begun := true } : CreamWork)
     (h.disp.cream.find? (fun w => w.output == n && w.begun) = some w) ∧ ((creamReady h w = true) ∧ ((w.source ≠ 1)))) ∧
    (let t : Tick := 5
     let output : BitVec 3 := 7
     let s : State := made fun s => { s with disp := { s.disp with cream := [({ fn := 0, id := 1, inst := 0, output := 7, regions := 1, source := 1, cv := 0, addr := 0, len := 4, dest := 0, hash := sha256 (List.replicate 4 0), recovery := false, begun := true } : CreamWork)] } }
     let h := advance t s
     let n := output.toNat
     let w := ({ fn := 0, id := 1, inst := 0, output := 7, regions := 1, source := 1, cv := 0, addr := 0, len := 4, dest := 0, hash := sha256 (List.replicate 4 0), recovery := false, begun := true } : CreamWork)
     (h.disp.cream.find? (fun w => w.output == n && w.begun) = some w) ∧ (let u := setContract w.fn w.id (fun c => if c.inst = w.inst then { c with phase := .ended } else c) { h with disp := { h.disp with cream := h.disp.cream.filter (fun x => x != w) } }
     let at_ := lcBuffer n (1 - (crlSt h n).front) + w.dest
     let v := meter w.fn w.id w.inst 0 w.len (wrVat at_ (rdDpas u w.addr w.len) u)
     (creamReady h w = true) ∧ ((w.source = 1) ∧ ((sha256 (rdVat v at_ w.len) = w.hash))))) ∧
    (let t : Tick := 5
     let output : BitVec 3 := 7
     let s : State := made fun s => owes ({ contract 1 true .cream with blk := { target := 7 } }) ({ s with disp := { s.disp with cream := [({ fn := 0, id := 1, inst := 0, output := 7, regions := 1, source := 1, cv := 0, addr := 0, len := 4, dest := 0, hash := [], recovery := false, begun := true } : CreamWork)] } })
     let h := advance t s
     let n := output.toNat
     let w := ({ fn := 0, id := 1, inst := 0, output := 7, regions := 1, source := 1, cv := 0, addr := 0, len := 4, dest := 0, hash := [], recovery := false, begun := true } : CreamWork)
     (h.disp.cream.find? (fun w => w.output == n && w.begun) = some w) ∧ (let u := setContract w.fn w.id (fun c => if c.inst = w.inst then { c with phase := .ended } else c) { h with disp := { h.disp with cream := h.disp.cream.filter (fun x => x != w) } }
     let at_ := lcBuffer n (1 - (crlSt h n).front) + w.dest
     let v := meter w.fn w.id w.inst 0 w.len (wrVat at_ (rdDpas u w.addr w.len) u)
     let c := { contract 1 true .cream with blk := { target := 7 }, phase := .ended, usedDrb := 4 }
     (creamReady h w = true) ∧ ((w.source = 1) ∧ ((sha256 (rdVat v at_ w.len) ≠ w.hash) ∧ ((openInst v w.fn w.id w.inst = some c)))))) ∧
    (let t : Tick := 5
     let s : State := State.reset
     let output : BitVec 3 := 7
     let h := advance t s
     let n := output.toNat
     let tile : BitVec 17 := 131071
     let i := tile.toNat
     (scanning h n = false ∨ tileW h n * tileH h n ≤ i ∨ (crlSt h n).cur.signed.contains i = true)) ∧
    (let t : Tick := 5
     let s : State := made fun s => scans (fun o => { o with zones := [⟨0, 0, 640, 480⟩], raster := (List.range 480).map (fun y => (y, [1])) }) s
     let output : BitVec 3 := 7
     let h := advance t s
     let n := output.toNat
     let tile : BitVec 17 := 4799
     let i := tile.toNat
     (scanning h n = true) ∧ ((i < tileW h n * tileH h n) ∧ ((tileScanned h n i = true) ∧ ((crlSt h n).cur.signed.contains i = false ∧ ((h.lnk.faults = []) ∧ (let u := setCrl n (fun c => { c with cur := { c.cur with signed := c.cur.signed ++ [i] } }) h
     (tileIn (outSt u n).zones (tileW u n) i = true))))))) ∧
    (let t : Tick := 5
     let s : State := State.reset
     let output : BitVec 3 := 7
     let h := advance t s
     let n := output.toNat
     (crlSt h n).due = []) ∧
    (let t : Tick := 5
     let s : State := made fun s => wrB Reg.CRL_EV_CTRL Fld.CRL_EV_CTRL_MODE true (setCrl 7 (fun c => { c with due := [((bytes (List.replicate 64 0) : List Byte), false)], prevKey := some (0, 0, 0, 0) }) s)
     let output : BitVec 3 := 7
     let h := advance t s
     let n := output.toNat
     let b := (bytes (List.replicate 64 0) : List Byte)
     let must := false
     let ds := ([] : List (List Byte × Bool))
     (crlSt h n).due = (b, must) :: ds ∧ (let u := setCrl n (fun c => { c with due := ds }) h
     let same := flg u Reg.CRL_EV_CTRL Fld.CRL_EV_CTRL_MODE = true ∧ must = false ∧ (crlSt h n).prevKey = some (evidenceKey b)
     (same))) ∧
    (let t : Tick := 5
     let s : State := made fun s => setCrl 7 (fun c => { c with due := [((bytes (List.replicate 64 0) : List Byte), true)] }) s
     let output : BitVec 3 := 7
     let h := advance t s
     let n := output.toNat
     let b := (bytes (List.replicate 64 0) : List Byte)
     let must := true
     let ds := ([] : List (List Byte × Bool))
     (crlSt h n).due = (b, must) :: ds ∧ (let u := setCrl n (fun c => { c with due := ds }) h
     let same := flg u Reg.CRL_EV_CTRL Fld.CRL_EV_CTRL_MODE = true ∧ must = false ∧ (crlSt h n).prevKey = some (evidenceKey b)
     (¬ same))) :=
  ⟨by decide +kernel,
    by decide +kernel,
    by decide +kernel,
    by decide +kernel,
    by decide +kernel,
    by decide +kernel,
    by decide +kernel,
    by decide +kernel,
    by decide +kernel,
    by decide +kernel,
    by decide +kernel,
    by decide +kernel⟩

/-! ### Links, touch, haptics, audio, data movers, clocks and resets -/

theorem hypotheses_LinkEventsComplete :
    (let t : Tick := 5
     let s : State := made fun s => setTx 7 (fun x => { x with trying := some (4, 2) }) (gatesOn [1, 3, 0xF, 0x37] (raster 7 s))
     let output : BitVec 3 := 7
     let h := advance t s
     let n := output.toNat
     let x := txSt h n
     let c : Nat × Nat := ((4, 2) : Nat × Nat)
     let passed : Bool := true
     (x.trying = some c) ∧ ((tgOn h n = true) ∧ ((gateOn h (0x30 + n) = true) ∧ ((passed = true))))) ∧
    (let t : Tick := 5
     let s : State := made fun s => setTx 7 (fun x => { x with trying := some (4, 2) }) (gatesOn [1, 3, 0xF, 0x37] (raster 7 s))
     let output : BitVec 3 := 7
     let h := advance t s
     let n := output.toNat
     let x := txSt h n
     let c : Nat × Nat := ((4, 2) : Nat × Nat)
     let passed : Bool := false
     (x.trying = some c) ∧ ((tgOn h n = true) ∧ ((gateOn h (0x30 + n) = true) ∧ ((passed = false) ∧ ((x.second = false)))))) ∧
    (let t : Tick := 5
     let s : State := made fun s => setTx 7 (fun x => { x with trying := some (4, 2), second := true, rest := [(2, 2)] }) (wrF (Reg.OP_CTRL 7) Fld.OP_CTRL_PANEL_BPC 3 (gatesOn [1, 3, 0xF, 0x37] (raster 7 s)))
     let output : BitVec 3 := 7
     let h := advance t s
     let n := output.toNat
     let x := txSt h n
     let c : Nat × Nat := ((4, 2) : Nat × Nat)
     let passed : Bool := false
     let panel : BitVec 8 := 255
     (x.trying = some c) ∧ ((tgOn h n = true) ∧ ((gateOn h (0x30 + n) = true) ∧ (let d := ((2, 2) : Nat × Nat)
     let ds := ([] : List (Nat × Nat))
     (passed = false) ∧ ((x.second = true) ∧ ((x.rest.dropWhile (fun c => !tryable h n panel.toNat c) = d :: ds))))))) ∧
    (let t : Tick := 5
     let s : State := made fun s => setTx 7 (fun x => { x with trying := some (4, 2), second := true }) (gatesOn [1, 3, 0xF, 0x37] (raster 7 s))
     let output : BitVec 3 := 7
     let h := advance t s
     let n := output.toNat
     let x := txSt h n
     let c : Nat × Nat := ((4, 2) : Nat × Nat)
     let passed : Bool := false
     let panel : BitVec 8 := 255
     (x.trying = some c) ∧ ((tgOn h n = true) ∧ ((gateOn h (0x30 + n) = true) ∧ ((passed = false) ∧ ((x.second = true) ∧ ((x.rest.dropWhile (fun c => !tryable h n panel.toNat c) = []))))))) ∧
    (let t : Tick := 5
     let s : State := State.reset
     let output : BitVec 3 := 7
     let h := advance t s
     let n := output.toNat
     let x := txSt h n
     (x.trying = none)) ∧
    (let t : Tick := 5
     let s : State := made fun s => setTx 7 (fun x => { x with retryAt := some 100 }) (s)
     let output : BitVec 3 := 7
     let h := advance t s
     let n := output.toNat
     let x := txSt h n
     let r := (100 : Nat)
     (x.retryAt = some r) ∧ ((h.gtb < r))) ∧
    (let t : Tick := 5
     let s : State := made fun s => setTx 7 (fun x => { x with retryAt := some 5 }) (raster 7 s)
     let output : BitVec 3 := 7
     let h := advance t s
     let n := output.toNat
     let x := txSt h n
     let r := (5 : Nat)
     (x.retryAt = some r) ∧ ((r ≤ h.gtb) ∧ ((tgOn h n = true)))) ∧
    (let t : Tick := 5
     let s : State := State.reset
     let output : BitVec 3 := 7
     let h := advance t s
     let n := output.toNat
     (txProto h n ≠ 1) ∧ ((txProto h n ≠ 2))) ∧
    (let ticks : Word := 99999
     (ticks.toNat < 100000)) ∧
    (let t : Tick := 5
     let s : State := made fun s => wrF (Reg.LNK_TXg_CFG 7) Fld.LNK_TXg_CFG_PROTO 1 (s)
     let output : BitVec 3 := 7
     let h := advance t s
     let n := output.toNat
     let ticks : Word := 100000
     (txProto h n = 1 ∨ txProto h n = 2) ∧ ((100000 ≤ ticks.toNat) ∧ ((ticks.toNat < 400000)))) ∧
    (let t : Tick := 5
     let s : State := made fun s => wrF (Reg.LNK_TXg_CFG 7) Fld.LNK_TXg_CFG_PROTO 1 (s)
     let output : BitVec 3 := 7
     let h := advance t s
     let n := output.toNat
     let x := txSt h n
     let ticks : Word := 400000
     (txProto h n = 1 ∨ txProto h n = 2) ∧ ((400000 ≤ ticks.toNat) ∧ ((x.sb = none)))) ∧
    (let t : Tick := 5
     let s : State := State.reset
     let output : BitVec 3 := 7
     let h := advance t s
     let n := output.toNat
     let x := txSt h n
     (x.sb = none)) ∧
    (let t : Tick := 5
     let s : State := made fun s => setTx 7 (fun x => { x with sb := some ⟨1, 4, 0⟩ }) (s)
     let output : BitVec 3 := 7
     let h := advance t s
     let n := output.toNat
     let x := txSt h n
     let result : BitVec 3 := 4
     let q : SbRec := (⟨1, 4, 0⟩ : SbRec)
     (x.sb = some q) ∧ ((1 ≤ result.toNat) ∧ ((result.toNat ≤ 4) ∧ ((q.cmd ≠ 0) ∧ ((q.cmd ≠ 2) ∧ ((q.cmd ≠ 6))))))) ∧
    (let t : Tick := 5
     let s : State := made fun s => setTx 7 (fun x => { x with sb := some ⟨6, 4, 0⟩ }) (s)
     let output : BitVec 3 := 7
     let h := advance t s
     let n := output.toNat
     let x := txSt h n
     let result : BitVec 3 := 1
     let q : SbRec := (⟨6, 4, 0⟩ : SbRec)
     (x.sb = some q) ∧ ((1 ≤ result.toNat) ∧ ((result.toNat ≤ 4)))) ∧
    (let id : Byte := 8
     (straitListed id.toNat = false)) ∧
    (let t : Tick := 5
     let s : State := State.reset
     let h := advance t s
     let id : Byte := 0x47
     (straitListed id.toNat = true) ∧ ((h.lnk.faults = []) ∧ ((straitRec h id.toNat).held = none))) :=
  ⟨by decide +kernel,
    by decide +kernel,
    by decide +kernel,
    by decide +kernel,
    by decide +kernel,
    by decide +kernel,
    by decide +kernel,
    by decide +kernel,
    by decide +kernel,
    by decide +kernel,
    by decide +kernel,
    by decide +kernel,
    by decide +kernel,
    by decide +kernel,
    by decide +kernel,
    by decide +kernel⟩

theorem hypotheses_VideoInputEventsComplete :
    (let t : Tick := 5
     let s : State := State.reset
     let vin : BitVec 2 := 3
     let h := advance t s
     let v := vin.toNat
     (vinSt h v).island = false) ∧
    (let t : Tick := 5
     let s : State := made fun s => setVin 3 (fun x => { x with island := true }) (s)
     let vin : BitVec 2 := 3
     let h := advance t s
     let v := vin.toNat
     let width : BitVec 16 := 640
     let height : BitVec 16 := 480
     let kind : BitVec 2 := 0
     let period : Word := 3333333
     let st := setF (setB (rd h (Reg.VIN_STAT v)) Fld.VIN_STAT_SIGNAL true) Fld.VIN_STAT_KIND kind.toNat
     let u := setVin v (fun x => { x with width := width.toNat, height := height.toNat, period := period.toNat }) (wr (Reg.VIN_DET v) (BitVec.ofNat 32 (height.toNat * 65536 + width.toNat)) (wr (Reg.VIN_PERIOD v) period (wr (Reg.VIN_STAT v) st h)))
     (vinSt h v).island = true ∧ ((flg u (Reg.VIN_CTRL v) Fld.VIN_CTRL_ENABLE = false))) ∧
    (let t : Tick := 5
     let s : State := made fun s => setVin 3 (fun x => { x with island := true }) (wrB (Reg.VIN_CTRL 3) Fld.VIN_CTRL_ENABLE true (wrF (Reg.VIN_CTRL 3) Fld.VIN_CTRL_CAPFMT 1 (s)))
     let vin : BitVec 2 := 3
     let h := advance t s
     let v := vin.toNat
     let width : BitVec 16 := 640
     let height : BitVec 16 := 480
     let kind : BitVec 2 := 0
     let interlaced : Bool := false
     let period : Word := 3333333
     let st := setF (setB (rd h (Reg.VIN_STAT v)) Fld.VIN_STAT_SIGNAL true) Fld.VIN_STAT_KIND kind.toNat
     let u := setVin v (fun x => { x with width := width.toNat, height := height.toNat, period := period.toNat }) (wr (Reg.VIN_DET v) (BitVec.ofNat 32 (height.toNat * 65536 + width.toNat)) (wr (Reg.VIN_PERIOD v) period (wr (Reg.VIN_STAT v) st h)))
     let f := fld u (Reg.VIN_CTRL v) Fld.VIN_CTRL_CAPFMT
     let within := width.toNat ≤ fld u (Reg.VIN_LIMIT0 v) Fld.VIN_LIMIT0_MAX_W ∧ height.toNat ≤ fld u (Reg.VIN_LIMIT0 v) Fld.VIN_LIMIT0_MAX_H ∧ 200000000 ≤ fld u (Reg.VIN_LIMIT1 v) Fld.VIN_LIMIT1_MAX_RATE * period.toNat
     let suits := interlaced = false ∧ ((f = 1 ∨ f = 2) ∧ kind.toNat = 0 ∨ (f = 0x21 ∨ f = 0x25) ∧ (kind.toNat = 1 ∨ kind.toNat = 2))
     (vinSt h v).island = true ∧ ((flg u (Reg.VIN_CTRL v) Fld.VIN_CTRL_ENABLE = true) ∧ ((¬ within) ∧ ((suits))))) ∧
    (let t : Tick := 5
     let s : State := made fun s => setVin 3 (fun x => { x with island := true }) (wrB (Reg.VIN_CTRL 3) Fld.VIN_CTRL_ENABLE true (wrF (Reg.VIN_CTRL 3) Fld.VIN_CTRL_CAPFMT 1 (wrF (Reg.VIN_LIMIT0 3) Fld.VIN_LIMIT0_MAX_W 640 (wrF (Reg.VIN_LIMIT0 3) Fld.VIN_LIMIT0_MAX_H 480 (wrF (Reg.VIN_LIMIT1 3) Fld.VIN_LIMIT1_MAX_RATE 61 (s))))))
     let vin : BitVec 2 := 3
     let h := advance t s
     let v := vin.toNat
     let width : BitVec 16 := 640
     let height : BitVec 16 := 480
     let kind : BitVec 2 := 0
     let interlaced : Bool := true
     let period : Word := 3333333
     let st := setF (setB (rd h (Reg.VIN_STAT v)) Fld.VIN_STAT_SIGNAL true) Fld.VIN_STAT_KIND kind.toNat
     let u := setVin v (fun x => { x with width := width.toNat, height := height.toNat, period := period.toNat }) (wr (Reg.VIN_DET v) (BitVec.ofNat 32 (height.toNat * 65536 + width.toNat)) (wr (Reg.VIN_PERIOD v) period (wr (Reg.VIN_STAT v) st h)))
     let f := fld u (Reg.VIN_CTRL v) Fld.VIN_CTRL_CAPFMT
     let within := width.toNat ≤ fld u (Reg.VIN_LIMIT0 v) Fld.VIN_LIMIT0_MAX_W ∧ height.toNat ≤ fld u (Reg.VIN_LIMIT0 v) Fld.VIN_LIMIT0_MAX_H ∧ 200000000 ≤ fld u (Reg.VIN_LIMIT1 v) Fld.VIN_LIMIT1_MAX_RATE * period.toNat
     let suits := interlaced = false ∧ ((f = 1 ∨ f = 2) ∧ kind.toNat = 0 ∨ (f = 0x21 ∨ f = 0x25) ∧ (kind.toNat = 1 ∨ kind.toNat = 2))
     (vinSt h v).island = true ∧ ((flg u (Reg.VIN_CTRL v) Fld.VIN_CTRL_ENABLE = true) ∧ ((within) ∧ ((¬ suits))))) ∧
    (let t : Tick := 5
     let s : State := made fun s => (fun s : State => { s with mem := { s.mem with leases := [⟨0, 0, 0, true, [(0, 100)], 0, 0, 0, 0, true, none, false⟩] } }) (holmHas 0xB003 (wrF (Reg.VIN_PITCH 3) Fld.VIN_PITCH_PITCH 1280 (setVin 3 (fun x => { x with island := true }) (wrB (Reg.VIN_CTRL 3) Fld.VIN_CTRL_ENABLE true (wrF (Reg.VIN_CTRL 3) Fld.VIN_CTRL_CAPFMT 1 (wrF (Reg.VIN_LIMIT0 3) Fld.VIN_LIMIT0_MAX_W 640 (wrF (Reg.VIN_LIMIT0 3) Fld.VIN_LIMIT0_MAX_H 480 (wrF (Reg.VIN_LIMIT1 3) Fld.VIN_LIMIT1_MAX_RATE 61 (s)))))))))
     let vin : BitVec 2 := 3
     let h := advance t s
     let v := vin.toNat
     let width : BitVec 16 := 640
     let height : BitVec 16 := 480
     let kind : BitVec 2 := 0
     let interlaced : Bool := false
     let period : Word := 3333333
     let st := setF (setB (rd h (Reg.VIN_STAT v)) Fld.VIN_STAT_SIGNAL true) Fld.VIN_STAT_KIND kind.toNat
     let u := setVin v (fun x => { x with width := width.toNat, height := height.toNat, period := period.toNat }) (wr (Reg.VIN_DET v) (BitVec.ofNat 32 (height.toNat * 65536 + width.toNat)) (wr (Reg.VIN_PERIOD v) period (wr (Reg.VIN_STAT v) st h)))
     let f := fld u (Reg.VIN_CTRL v) Fld.VIN_CTRL_CAPFMT
     let within := width.toNat ≤ fld u (Reg.VIN_LIMIT0 v) Fld.VIN_LIMIT0_MAX_W ∧ height.toNat ≤ fld u (Reg.VIN_LIMIT0 v) Fld.VIN_LIMIT0_MAX_H ∧ 200000000 ≤ fld u (Reg.VIN_LIMIT1 v) Fld.VIN_LIMIT1_MAX_RATE * period.toNat
     let suits := interlaced = false ∧ ((f = 1 ∨ f = 2) ∧ kind.toNat = 0 ∨ (f = 0x21 ∨ f = 0x25) ∧ (kind.toNat = 1 ∨ kind.toNat = 2))
     (vinSt h v).island = true ∧ ((flg u (Reg.VIN_CTRL v) Fld.VIN_CTRL_ENABLE = true) ∧ ((within) ∧ ((suits) ∧ ((vinPick u v = none)))))) ∧
    (let t : Tick := 5
     let s : State := made fun s => setVin 3 (fun x => { x with island := true }) (wrB (Reg.VIN_CTRL 3) Fld.VIN_CTRL_ENABLE true (wrF (Reg.VIN_CTRL 3) Fld.VIN_CTRL_CAPFMT 1 (wrF (Reg.VIN_LIMIT0 3) Fld.VIN_LIMIT0_MAX_W 640 (wrF (Reg.VIN_LIMIT0 3) Fld.VIN_LIMIT0_MAX_H 480 (wrF (Reg.VIN_LIMIT1 3) Fld.VIN_LIMIT1_MAX_RATE 61 (s))))))
     let vin : BitVec 2 := 3
     let h := advance t s
     let v := vin.toNat
     let width : BitVec 16 := 640
     let height : BitVec 16 := 480
     let kind : BitVec 2 := 0
     let interlaced : Bool := false
     let period : Word := 3333333
     let st := setF (setB (rd h (Reg.VIN_STAT v)) Fld.VIN_STAT_SIGNAL true) Fld.VIN_STAT_KIND kind.toNat
     let u := setVin v (fun x => { x with width := width.toNat, height := height.toNat, period := period.toNat }) (wr (Reg.VIN_DET v) (BitVec.ofNat 32 (height.toNat * 65536 + width.toNat)) (wr (Reg.VIN_PERIOD v) period (wr (Reg.VIN_STAT v) st h)))
     let f := fld u (Reg.VIN_CTRL v) Fld.VIN_CTRL_CAPFMT
     let within := width.toNat ≤ fld u (Reg.VIN_LIMIT0 v) Fld.VIN_LIMIT0_MAX_W ∧ height.toNat ≤ fld u (Reg.VIN_LIMIT0 v) Fld.VIN_LIMIT0_MAX_H ∧ 200000000 ≤ fld u (Reg.VIN_LIMIT1 v) Fld.VIN_LIMIT1_MAX_RATE * period.toNat
     let suits := interlaced = false ∧ ((f = 1 ∨ f = 2) ∧ kind.toNat = 0 ∨ (f = 0x21 ∨ f = 0x25) ∧ (kind.toNat = 1 ∨ kind.toNat = 2))
     let k := (0 : Nat)
     (vinSt h v).island = true ∧ ((flg u (Reg.VIN_CTRL v) Fld.VIN_CTRL_ENABLE = true) ∧ ((within) ∧ ((suits) ∧ ((vinPick u v = some k)))))) ∧
    (let t : Tick := 5
     let s : State := State.reset
     let vin : BitVec 2 := 3
     let h := advance t s
     let v := vin.toNat
     (vinSt h v).writing = none) ∧
    (let t : Tick := 5
     let s : State := made fun s => setVin 3 (fun x => { x with writing := some (3, 640, 480) }) s
     let vin : BitVec 2 := 3
     let h := advance t s
     let v := vin.toNat
     let k := (3 : Nat)
     let w := (640 : Nat)
     let hh := (480 : Nat)
     (vinSt h v).writing = some (k, w, hh)) :=
  ⟨by decide +kernel,
    by decide +kernel,
    by decide +kernel,
    by decide +kernel,
    by decide +kernel,
    by decide +kernel,
    by decide +kernel,
    by decide +kernel⟩

theorem hypotheses_TouchEventsComplete :
    (let t : Tick := 5
     let s : State := State.reset
     let sensor : BitVec 3 := 7
     let h := advance t s
     let k := sensor.toNat
     let r := tsOf h k
     (sensorOn h k = false ∨ tState h k = 3 ∨ h.gtb < r.dueAt)) ∧
    (let t : Tick := 5
     let s : State := made fun s => setTs 7 (fun r => { r with busy := some 3 }) (wrB (Reg.TCH_Sk_CTRL 7) Fld.TCH_Sk_CTRL_ENABLE true (s))
     let sensor : BitVec 3 := 7
     let h := advance t s
     let k := sensor.toNat
     let r := tsOf h k
     (sensorOn h k = true) ∧ ((tState h k ≠ 3) ∧ ((r.dueAt ≤ h.gtb) ∧ ((r.busy ≠ none))))) ∧
    (let t : Tick := 5
     let s : State := made fun s => wrB (Reg.TCH_Sk_CTRL 7) Fld.TCH_Sk_CTRL_ENABLE true (s)
     let sensor : BitVec 3 := 7
     let h := advance t s
     let k := sensor.toNat
     let r := tsOf h k
     (sensorOn h k = true) ∧ ((tState h k ≠ 3) ∧ ((r.dueAt ≤ h.gtb) ∧ ((r.busy = none))))) ∧
    (let t : Tick := 5
     let s : State := State.reset
     let sensor : BitVec 3 := 7
     let h := advance t s
     let k := sensor.toNat
     let r := tsOf h k
     (r.busy = none)) ∧
    (let t : Tick := 5
     let s : State := made fun s => setTs 7 (fun r => { r with busy := some 3 }) (setTState 7 1 (s))
     let sensor : BitVec 3 := 7
     let h := advance t s
     let k := sensor.toNat
     let r := tsOf h k
     let counts := ([] : List (List (BitVec 12)))
     let m := (3 : Nat)
     (r.busy = some m) ∧ (let cs := scanCounts (samplesOf h k) (fld h (Reg.TCH_Sk_MEAS k) Fld.TCH_Sk_MEAS_MAX_COUNT) (channels h k) counts
     let ns := cs.map (fun c => c.1)
     let a := (List.range ns.length).foldl (fun s i => wrF (Reg.TCH_CHc ((geom h k).1 + i)) Fld.TCH_CHc_COUNT (ns.getD i 0) s) h
     let b := wrF (Reg.TCH_Sk_STAT k) Fld.TCH_Sk_STAT_OVERRANGE (cs.filter (fun c => c.2)).length a
     let c := wr (Reg.TCH_Sk_SCAN k) (BitVec.ofNat 32 m) (wr (Reg.TCH_Sk_STAMP_LO k) (BitVec.ofNat 32 h.gtb) (wr (Reg.TCH_Sk_STAMP_HI k) (BitVec.ofNat 32 (h.gtb / 2 ^ 32)) b))
     let u := setTs k (fun r => { r with busy := none, scan := m, stamp := h.gtb }) c
     (tState u k = 1))) ∧
    (let t : Tick := 5
     let s : State := made fun s => setTs 7 (fun r => { r with busy := some 3 }) (setTState 7 5 (s))
     let sensor : BitVec 3 := 7
     let h := advance t s
     let k := sensor.toNat
     let r := tsOf h k
     let counts := ([] : List (List (BitVec 12)))
     let m := (3 : Nat)
     (r.busy = some m) ∧ (let cs := scanCounts (samplesOf h k) (fld h (Reg.TCH_Sk_MEAS k) Fld.TCH_Sk_MEAS_MAX_COUNT) (channels h k) counts
     let ns := cs.map (fun c => c.1)
     let a := (List.range ns.length).foldl (fun s i => wrF (Reg.TCH_CHc ((geom h k).1 + i)) Fld.TCH_CHc_COUNT (ns.getD i 0) s) h
     let b := wrF (Reg.TCH_Sk_STAT k) Fld.TCH_Sk_STAT_OVERRANGE (cs.filter (fun c => c.2)).length a
     let c := wr (Reg.TCH_Sk_SCAN k) (BitVec.ofNat 32 m) (wr (Reg.TCH_Sk_STAMP_LO k) (BitVec.ofNat 32 h.gtb) (wr (Reg.TCH_Sk_STAMP_HI k) (BitVec.ofNat 32 (h.gtb / 2 ^ 32)) b))
     let u := setTs k (fun r => { r with busy := none, scan := m, stamp := h.gtb }) c
     (tState u k = 5))) ∧
    (let t : Tick := 5
     let s : State := made fun s => setTs 7 (fun r => { r with busy := some 3 }) (setTState 7 4 (s))
     let sensor : BitVec 3 := 7
     let h := advance t s
     let k := sensor.toNat
     let r := tsOf h k
     let counts := ([] : List (List (BitVec 12)))
     let m := (3 : Nat)
     (r.busy = some m) ∧ (let cs := scanCounts (samplesOf h k) (fld h (Reg.TCH_Sk_MEAS k) Fld.TCH_Sk_MEAS_MAX_COUNT) (channels h k) counts
     let ns := cs.map (fun c => c.1)
     let a := (List.range ns.length).foldl (fun s i => wrF (Reg.TCH_CHc ((geom h k).1 + i)) Fld.TCH_CHc_COUNT (ns.getD i 0) s) h
     let b := wrF (Reg.TCH_Sk_STAT k) Fld.TCH_Sk_STAT_OVERRANGE (cs.filter (fun c => c.2)).length a
     let c := wr (Reg.TCH_Sk_SCAN k) (BitVec.ofNat 32 m) (wr (Reg.TCH_Sk_STAMP_LO k) (BitVec.ofNat 32 h.gtb) (wr (Reg.TCH_Sk_STAMP_HI k) (BitVec.ofNat 32 (h.gtb / 2 ^ 32)) b))
     let u := setTs k (fun r => { r with busy := none, scan := m, stamp := h.gtb }) c
     (tState u k = 2 ∨ tState u k = 4))) ∧
    (let t : Tick := 5
     let s : State := made fun s => setTs 7 (fun r => { r with busy := some 3 }) (setTState 7 3 (s))
     let sensor : BitVec 3 := 7
     let h := advance t s
     let k := sensor.toNat
     let r := tsOf h k
     let counts := ([] : List (List (BitVec 12)))
     let m := (3 : Nat)
     (r.busy = some m) ∧ (let cs := scanCounts (samplesOf h k) (fld h (Reg.TCH_Sk_MEAS k) Fld.TCH_Sk_MEAS_MAX_COUNT) (channels h k) counts
     let ns := cs.map (fun c => c.1)
     let a := (List.range ns.length).foldl (fun s i => wrF (Reg.TCH_CHc ((geom h k).1 + i)) Fld.TCH_CHc_COUNT (ns.getD i 0) s) h
     let b := wrF (Reg.TCH_Sk_STAT k) Fld.TCH_Sk_STAT_OVERRANGE (cs.filter (fun c => c.2)).length a
     let c := wr (Reg.TCH_Sk_SCAN k) (BitVec.ofNat 32 m) (wr (Reg.TCH_Sk_STAMP_LO k) (BitVec.ofNat 32 h.gtb) (wr (Reg.TCH_Sk_STAMP_HI k) (BitVec.ofNat 32 (h.gtb / 2 ^ 32)) b))
     let u := setTs k (fun r => { r with busy := none, scan := m, stamp := h.gtb }) c
     (tState u k = 0 ∨ tState u k = 3))) ∧
    (let t : Tick := 5
     let s : State := State.reset
     let sensor : BitVec 3 := 7
     let h := advance t s
     let k := sensor.toNat
     let r := tsOf h k
     let contact : BitVec 8 := 2
     (r.contacts.find? (fun c => c.num == contact.toNat && stuckDue r r.stamp c) = none)) ∧
    (let t : Tick := 5
     let s : State := made fun s => setTs 7 (fun r => { r with contacts := [({ num := 2, x := 10, y := 10, pc := 0, pr := 0, peak := 40, down := 0, ax := 10, ay := 10, anchor := 0 } : TouchContact)], cfg := [0, 0, 0, 0, 0, 0xFFFFFFFF], stamp := 2 ^ 60 }) (s)
     let sensor : BitVec 3 := 7
     let h := advance t s
     let k := sensor.toNat
     let r := tsOf h k
     let contact : BitVec 8 := 2
     let c : TouchContact := ({ num := 2, x := 10, y := 10, pc := 0, pr := 0, peak := 40, down := 0, ax := 10, ay := 10, anchor := 0 } : TouchContact)
     (r.contacts.find? (fun c => c.num == contact.toNat && stuckDue r r.stamp c) = some c)) ∧
    (let t : Tick := 5
     let s : State := State.reset
     let sensor : BitVec 3 := 7
     let h := advance t s
     let k := sensor.toNat
     (slowDueNow h k = false)) ∧
    (let t : Tick := 5
     let s : State := made fun s => wrF Reg.PWR_STAT Fld.PWR_STAT_STATE 1 (wrB (Reg.TCH_Sk_CTRL 7) Fld.TCH_Sk_CTRL_LP_EN true (setTState 7 2 (s)))
     let sensor : BitVec 3 := 7
     let h := advance t s
     let k := sensor.toNat
     (slowDueNow h k = true)) ∧
    (let t : Tick := 5
     let s : State := State.reset
     let sensor : BitVec 3 := 7
     let h := advance t s
     let k := sensor.toNat
     let r := tsOf h k
     (tState h k ≠ 3 ∨ h.gtb < r.slowDue)) ∧
    (let t : Tick := 5
     let s : State := made fun s => setTState 7 3 (s)
     let sensor : BitVec 3 := 7
     let h := advance t s
     let k := sensor.toNat
     let r := tsOf h k
     (tState h k = 3) ∧ ((r.slowDue ≤ h.gtb) ∧ ((r.groups = [])))) ∧
    (let t : Tick := 5
     let s : State := made fun s => setTs 7 (fun r => { r with groups := [(0, 0, 0)] }) (wrF (Reg.TCH_Sk_THR2 7) Fld.TCH_Sk_THR2_LP_WAKE 0 (setTState 7 3 (s)))
     let sensor : BitVec 3 := 7
     let h := advance t s
     let k := sensor.toNat
     let r := tsOf h k
     let counts := ([] : List (List (BitVec 12)))
     (tState h k = 3) ∧ ((r.slowDue ≤ h.gtb) ∧ (let g := 2 ^ fld h (Reg.TCH_Sk_PERIOD k) Fld.TCH_Sk_PERIOD_GANG
     let ns := (scanCounts (samplesOf h k) (fld h (Reg.TCH_Sk_MEAS k) Fld.TCH_Sk_MEAS_MAX_COUNT) g counts).map (fun c => c.1)
     let u := setTs k (fun r => { r with slowDue := r.slowDue + 200000 * fld h (Reg.TCH_Sk_PERIOD k) Fld.TCH_Sk_PERIOD_LP_PERIOD }) h
     let hit := (List.range g).any (fun i => decide (((fld u (Reg.TCH_Sk_THR2 k) Fld.TCH_Sk_THR2_LP_WAKE : Nat) : Int) ≤ signalOf (r.groups.getD i (0, 0, 0)).1 (ns.getD i 0)))
     (r.groups ≠ []) ∧ ((hit = true))))) ∧
    (let t : Tick := 5
     let s : State := made fun s => setTs 7 (fun r => { r with groups := [(0, 0, 0)] }) (wrF (Reg.TCH_Sk_THR2 7) Fld.TCH_Sk_THR2_LP_WAKE 1 (setTState 7 3 (s)))
     let sensor : BitVec 3 := 7
     let h := advance t s
     let k := sensor.toNat
     let r := tsOf h k
     let counts := ([] : List (List (BitVec 12)))
     (tState h k = 3) ∧ ((r.slowDue ≤ h.gtb) ∧ (let g := 2 ^ fld h (Reg.TCH_Sk_PERIOD k) Fld.TCH_Sk_PERIOD_GANG
     let ns := (scanCounts (samplesOf h k) (fld h (Reg.TCH_Sk_MEAS k) Fld.TCH_Sk_MEAS_MAX_COUNT) g counts).map (fun c => c.1)
     let u := setTs k (fun r => { r with slowDue := r.slowDue + 200000 * fld h (Reg.TCH_Sk_PERIOD k) Fld.TCH_Sk_PERIOD_LP_PERIOD }) h
     let hit := (List.range g).any (fun i => decide (((fld u (Reg.TCH_Sk_THR2 k) Fld.TCH_Sk_THR2_LP_WAKE : Nat) : Int) ≤ signalOf (r.groups.getD i (0, 0, 0)).1 (ns.getD i 0)))
     (r.groups ≠ []) ∧ ((hit = false))))) ∧
    (let t : Tick := 5
     let s : State := State.reset
     let sensor : BitVec 3 := 7
     let h := advance t s
     let k := sensor.toNat
     let r := tsOf h k
     (r.cal = none)) ∧
    (let t : Tick := 5
     let s : State := made fun s => setTs 7 (fun r => { r with cal := some ({ ports := [], store := false } : TouchCal) }) (s)
     let sensor : BitVec 3 := 7
     let h := advance t s
     let k := sensor.toNat
     let r := tsOf h k
     let c := ({ ports := [], store := false } : TouchCal)
     (r.cal = some c) ∧ ((tState h k ≠ 5))) ∧
    (let t : Tick := 5
     let s : State := made fun s => setTs 7 (fun r => { r with cal := some ({ ports := [], store := false, contact := true } : TouchCal) }) (setTState 7 5 (s))
     let sensor : BitVec 3 := 7
     let h := advance t s
     let k := sensor.toNat
     let r := tsOf h k
     let c := ({ ports := [], store := false, contact := true } : TouchCal)
     (r.cal = some c) ∧ ((tState h k = 5) ∧ ((c.contact = true)))) ∧
    (let t : Tick := 5
     let s : State := made fun s => setTs 7 (fun r => { r with cal := some ({ ports := [], store := false, scans := 63 } : TouchCal) }) (setTState 7 5 (s))
     let sensor : BitVec 3 := 7
     let h := advance t s
     let k := sensor.toNat
     let r := tsOf h k
     let c := ({ ports := [], store := false, scans := 63 } : TouchCal)
     (r.cal = some c) ∧ ((tState h k = 5) ∧ ((c.contact = false) ∧ ((c.scans < 64))))) ∧
    (let t : Tick := 5
     let s : State := made fun s => setTs 7 (fun r => { r with cal := some ({ ports := [], store := true, scans := 64 } : TouchCal) }) (setTState 7 5 (s))
     let sensor : BitVec 3 := 7
     let h := advance t s
     let k := sensor.toNat
     let r := tsOf h k
     let c := ({ ports := [], store := true, scans := 64 } : TouchCal)
     let ok := false
     (r.cal = some c) ∧ ((tState h k = 5) ∧ ((c.contact = false) ∧ ((64 ≤ c.scans) ∧ ((c.store = true) ∧ ((ok = false))))))) ∧
    (let t : Tick := 5
     let s : State := made fun s => setTs 7 (fun r => { r with cal := some ({ ports := [], store := false, scans := 64 } : TouchCal) }) (setTState 7 5 (s))
     let sensor : BitVec 3 := 7
     let h := advance t s
     let k := sensor.toNat
     let r := tsOf h k
     let c := ({ ports := [], store := false, scans := 64 } : TouchCal)
     (r.cal = some c) ∧ ((tState h k = 5) ∧ ((c.contact = false) ∧ ((64 ≤ c.scans) ∧ ((c.store = false)))))) ∧
    (let t : Tick := 5
     let s : State := made fun s => setTs 7 (fun r => { r with cal := some ({ ports := [], store := true, scans := 64 } : TouchCal) }) (setTState 7 5 (s))
     let sensor : BitVec 3 := 7
     let h := advance t s
     let k := sensor.toNat
     let r := tsOf h k
     let c := ({ ports := [], store := true, scans := 64 } : TouchCal)
     let ok := true
     (r.cal = some c) ∧ ((tState h k = 5) ∧ ((c.contact = false) ∧ ((64 ≤ c.scans) ∧ ((c.store = true) ∧ ((ok = true))))))) :=
  ⟨by decide +kernel,
    by decide +kernel,
    by decide +kernel,
    by decide +kernel,
    by decide +kernel,
    by decide +kernel,
    by decide +kernel,
    by decide +kernel,
    by decide +kernel,
    by decide +kernel,
    by decide +kernel,
    by decide +kernel,
    by decide +kernel,
    by decide +kernel,
    by decide +kernel,
    by decide +kernel,
    by decide +kernel,
    by decide +kernel,
    by decide +kernel,
    by decide +kernel,
    by decide +kernel,
    by decide +kernel,
    by decide +kernel⟩

theorem hypotheses_HapticEventsComplete :
    (let t : Tick := 5
     let s : State := State.reset
     let channel : BitVec 4 := 15
     let h := advance t s
     let n := channel.toNat
     let a := accountHap n h
     (hapOf a n).queue = []) ∧
    (let t : Tick := 5
     let s : State := made fun s => setHap 15 (fun r => { r with queue := [({ fn := 0, id := 1, holm := false, release := 0, s0 := 0, odLen := 0, odLevel := 0, susLen := 10, susLevel := 1, brakeEn := false, reverse := false, brakeMax := 3, brakeLevel := 1, len := 10 } : Effect)] }) (s)
     let channel : BitVec 4 := 15
     let h := advance t s
     let n := channel.toNat
     let a := accountHap n h
     let e := ({ fn := 0, id := 1, holm := false, release := 0, s0 := 0, odLen := 0, odLevel := 0, susLen := 10, susLevel := 1, brakeEn := false, reverse := false, brakeMax := 3, brakeLevel := 1, len := 10 } : Effect)
     let rest := ([] : List Effect)
     (hapOf a n).queue = e :: rest ∧ (let free := e.s0 ≤ a.gtb ∧ (hapOf a n).brake = none ∧ (hapOf a n).cal = none ∧ hapState a n ≠ 5 ∧ hapOn a n = true ∧ budgetSpent (hapOf a n) = false
     (¬ free))) ∧
    (let t : Tick := 5
     let s : State := made fun s => setHap 15 (fun r => { r with queue := [({ fn := 0, id := 1, holm := false, release := 0, s0 := 0, odLen := 0, odLevel := 0, susLen := 10, susLevel := 1, brakeEn := false, reverse := false, brakeMax := 3, brakeLevel := 1, len := 10 } : Effect)] }) (wrB (Reg.HAP_Cn_CTRL 15) Fld.HAP_Cn_CTRL_ENABLE true (s))
     let channel : BitVec 4 := 15
     let h := advance t s
     let n := channel.toNat
     let a := accountHap n h
     let e := ({ fn := 0, id := 1, holm := false, release := 0, s0 := 0, odLen := 0, odLevel := 0, susLen := 10, susLevel := 1, brakeEn := false, reverse := false, brakeMax := 3, brakeLevel := 1, len := 10 } : Effect)
     let rest := ([] : List Effect)
     (hapOf a n).queue = e :: rest ∧ (let free := e.s0 ≤ a.gtb ∧ (hapOf a n).brake = none ∧ (hapOf a n).cal = none ∧ hapState a n ≠ 5 ∧ hapOn a n = true ∧ budgetSpent (hapOf a n) = false
     (free) ∧ ((hapOf (endDrive n a) n).brake = none))) ∧
    (let t : Tick := 5
     let s : State := State.reset
     let channel : BitVec 4 := 15
     let h := advance t s
     let n := channel.toNat
     (hapOf h n).drive = none) ∧
    (let t : Tick := 5
     let s : State := State.reset
     let channel : BitVec 4 := 15
     let h := advance t s
     let n := channel.toNat
     (hapOf h n).drive = none) ∧
    (let t : Tick := 10
     let s : State := made fun s => setHap 15 (fun r => { r with drive := some (({ fn := 0, id := 1, holm := false, release := 0, s0 := 0, odLen := 0, odLevel := 0, susLen := 10, susLevel := 1, brakeEn := false, reverse := false, brakeMax := 3, brakeLevel := 1, len := 10 } : Effect), 0) }) (s)
     let channel : BitVec 4 := 15
     let h := advance t s
     let n := channel.toNat
     let e := ({ fn := 0, id := 1, holm := false, release := 0, s0 := 0, odLen := 0, odLevel := 0, susLen := 10, susLevel := 1, brakeEn := false, reverse := false, brakeMax := 3, brakeLevel := 1, len := 10 } : Effect)
     let b := (0 : Nat)
     (hapOf h n).drive = some (e, b) ∧ ((b + e.len ≤ h.gtb))) ∧
    (let t : Tick := 9
     let s : State := made fun s => setHap 15 (fun r => { r with drive := some (({ fn := 0, id := 1, holm := false, release := 0, s0 := 0, odLen := 0, odLevel := 0, susLen := 10, susLevel := 1, brakeEn := false, reverse := false, brakeMax := 3, brakeLevel := 1, len := 10 } : Effect), 0) }) (s)
     let channel : BitVec 4 := 15
     let h := advance t s
     let n := channel.toNat
     let e := ({ fn := 0, id := 1, holm := false, release := 0, s0 := 0, odLen := 0, odLevel := 0, susLen := 10, susLevel := 1, brakeEn := false, reverse := false, brakeMax := 3, brakeLevel := 1, len := 10 } : Effect)
     let b := (0 : Nat)
     (hapOf h n).drive = some (e, b) ∧ ((h.gtb < b + e.len))) ∧
    (let t : Tick := 5
     let s : State := made fun s => setHap 15 (fun r => { r with drive := some (({ fn := 0, id := 1, holm := false, release := 0, s0 := 0, odLen := 0, odLevel := 0, susLen := 10, susLevel := 1, brakeEn := false, reverse := false, brakeMax := 3, brakeLevel := 1, len := 10 } : Effect), 0) }) (s)
     let channel : BitVec 4 := 15
     let h := advance t s
     let n := channel.toNat
     let e := ({ fn := 0, id := 1, holm := false, release := 0, s0 := 0, odLen := 0, odLevel := 0, susLen := 10, susLevel := 1, brakeEn := false, reverse := false, brakeMax := 3, brakeLevel := 1, len := 10 } : Effect)
     let b := (0 : Nat)
     (hapOf h n).drive = some (e, b) ∧ (let m := 200000 * getF ((hapOf h n).lim.getD 0 0) Fld.HAP_Cn_LIMIT_ON_MAX
     (m < e.len) ∧ ((b + m ≤ h.gtb)))) ∧
    (let t : Tick := 5
     let s : State := made fun s => setHap 15 (fun r => { r with drive := some (({ fn := 0, id := 1, holm := false, release := 0, s0 := 0, odLen := 0, odLevel := 0, susLen := 10, susLevel := 1, brakeEn := false, reverse := false, brakeMax := 3, brakeLevel := 1, len := 10 } : Effect), 0), lim := [0xFFFFFFFF] }) (s)
     let channel : BitVec 4 := 15
     let h := advance t s
     let n := channel.toNat
     let e := ({ fn := 0, id := 1, holm := false, release := 0, s0 := 0, odLen := 0, odLevel := 0, susLen := 10, susLevel := 1, brakeEn := false, reverse := false, brakeMax := 3, brakeLevel := 1, len := 10 } : Effect)
     let b := (0 : Nat)
     (hapOf h n).drive = some (e, b) ∧ (let m := 200000 * getF ((hapOf h n).lim.getD 0 0) Fld.HAP_Cn_LIMIT_ON_MAX
     (e.len ≤ m))) ∧
    (let t : Tick := 200000
     let s : State := made fun s => setHap 15 (fun r => { r with lim := [0, setF 0 Fld.HAP_Cn_BUDGET_WIN 1 ||| setF 0 Fld.HAP_Cn_BUDGET_BUDGET 1, setF 0 Fld.HAP_Cn_BRAKE_BRAKE_STOP 4], drive := some (({ fn := 0, id := 1, holm := false, release := 0, s0 := 0, odLen := 0, odLevel := 0, susLen := 10, susLevel := 1, brakeEn := false, reverse := false, brakeMax := 3, brakeLevel := 1, len := 10 } : Effect), 0) }) (s)
     let channel : BitVec 4 := 15
     let h := advance t s
     let n := channel.toNat
     let a := accountHap n h
     let e := ({ fn := 0, id := 1, holm := false, release := 0, s0 := 0, odLen := 0, odLevel := 0, susLen := 10, susLevel := 1, brakeEn := false, reverse := false, brakeMax := 3, brakeLevel := 1, len := 10 } : Effect)
     let b := (0 : Nat)
     (hapOf a n).drive = some (e, b) ∧ ((budgetSpent (hapOf a n) = true))) ∧
    (let t : Tick := 199999
     let s : State := made fun s => setHap 15 (fun r => { r with lim := [0, setF 0 Fld.HAP_Cn_BUDGET_WIN 1 ||| setF 0 Fld.HAP_Cn_BUDGET_BUDGET 1, setF 0 Fld.HAP_Cn_BRAKE_BRAKE_STOP 4], drive := some (({ fn := 0, id := 1, holm := false, release := 0, s0 := 0, odLen := 0, odLevel := 0, susLen := 10, susLevel := 1, brakeEn := false, reverse := false, brakeMax := 3, brakeLevel := 1, len := 10 } : Effect), 0) }) (s)
     let channel : BitVec 4 := 15
     let h := advance t s
     let n := channel.toNat
     let a := accountHap n h
     let e := ({ fn := 0, id := 1, holm := false, release := 0, s0 := 0, odLen := 0, odLevel := 0, susLen := 10, susLevel := 1, brakeEn := false, reverse := false, brakeMax := 3, brakeLevel := 1, len := 10 } : Effect)
     let b := (0 : Nat)
     (hapOf a n).drive = some (e, b) ∧ ((budgetSpent (hapOf a n) = false))) ∧
    (let t : Tick := 5
     let s : State := State.reset
     let channel : BitVec 4 := 15
     let h := advance t s
     let n := channel.toNat
     let a := accountHap n h
     (hapOf a n).brake = none) ∧
    (let t : Tick := 4
     let s : State := made fun s => setHap 15 (fun r => { r with lim := [0, setF 0 Fld.HAP_Cn_BUDGET_WIN 1 ||| setF 0 Fld.HAP_Cn_BUDGET_BUDGET 1, setF 0 Fld.HAP_Cn_BRAKE_BRAKE_STOP 4], brake := some ({ eff := ({ fn := 0, id := 1, holm := false, release := 0, s0 := 0, odLen := 0, odLevel := 0, susLen := 10, susLevel := 1, brakeEn := false, reverse := false, brakeMax := 3, brakeLevel := 1, len := 10 } : Effect), began := 0, unit := 0, unitAt := 0, rev := false, ub := 5, erm := false } : BrakeRec) }) (s)
     let channel : BitVec 4 := 15
     let h := advance t s
     let n := channel.toNat
     let a := accountHap n h
     let b : BrakeRec := ({ eff := ({ fn := 0, id := 1, holm := false, release := 0, s0 := 0, odLen := 0, odLevel := 0, susLen := 10, susLevel := 1, brakeEn := false, reverse := false, brakeMax := 3, brakeLevel := 1, len := 10 } : Effect), began := 0, unit := 0, unitAt := 0, rev := false, ub := 5, erm := false } : BrakeRec)
     (hapOf a n).brake = some b ∧ ((a.gtb < b.unitAt + b.ub) ∧ ((a.gtb < b.began + 2400000)))) ∧
    (let t : Tick := 5
     let s : State := made fun s => setHap 15 (fun r => { r with lim := [0, setF 0 Fld.HAP_Cn_BUDGET_WIN 1 ||| setF 0 Fld.HAP_Cn_BUDGET_BUDGET 1, setF 0 Fld.HAP_Cn_BRAKE_BRAKE_STOP 4], brake := some ({ eff := ({ fn := 0, id := 1, holm := false, release := 0, s0 := 0, odLen := 0, odLevel := 0, susLen := 10, susLevel := 1, brakeEn := false, reverse := false, brakeMax := 3, brakeLevel := 1, len := 10 } : Effect), began := 0, unit := 0, unitAt := 0, rev := false, ub := 5, erm := false } : BrakeRec) }) (s)
     let channel : BitVec 4 := 15
     let h := advance t s
     let n := channel.toNat
     let a := accountHap n h
     let peak : BitVec 12 := 3
     let b : BrakeRec := ({ eff := ({ fn := 0, id := 1, holm := false, release := 0, s0 := 0, odLen := 0, odLevel := 0, susLen := 10, susLevel := 1, brakeEn := false, reverse := false, brakeMax := 3, brakeLevel := 1, len := 10 } : Effect), began := 0, unit := 0, unitAt := 0, rev := false, ub := 5, erm := false } : BrakeRec)
     (hapOf a n).brake = some b ∧ (let last := b.began + 2400000 ≤ a.gtb ∨ peak.toNat < getF ((hapOf a n).lim.getD 2 0) Fld.HAP_Cn_BRAKE_BRAKE_STOP ∨ b.eff.brakeMax ≤ b.unit + 1
     (b.unitAt + b.ub ≤ a.gtb) ∧ ((last)))) ∧
    (let t : Tick := 5
     let s : State := made fun s => setHap 15 (fun r => { r with lim := [0, setF 0 Fld.HAP_Cn_BUDGET_WIN 1 ||| setF 0 Fld.HAP_Cn_BUDGET_BUDGET 1, setF 0 Fld.HAP_Cn_BRAKE_BRAKE_STOP 4], brake := some ({ eff := ({ fn := 0, id := 1, holm := false, release := 0, s0 := 0, odLen := 0, odLevel := 0, susLen := 10, susLevel := 1, brakeEn := false, reverse := false, brakeMax := 3, brakeLevel := 1, len := 10 } : Effect), began := 0, unit := 0, unitAt := 0, rev := false, ub := 5, erm := false } : BrakeRec) }) (s)
     let channel : BitVec 4 := 15
     let h := advance t s
     let n := channel.toNat
     let a := accountHap n h
     let peak : BitVec 12 := 4
     let b : BrakeRec := ({ eff := ({ fn := 0, id := 1, holm := false, release := 0, s0 := 0, odLen := 0, odLevel := 0, susLen := 10, susLevel := 1, brakeEn := false, reverse := false, brakeMax := 3, brakeLevel := 1, len := 10 } : Effect), began := 0, unit := 0, unitAt := 0, rev := false, ub := 5, erm := false } : BrakeRec)
     (hapOf a n).brake = some b ∧ (let last := b.began + 2400000 ≤ a.gtb ∨ peak.toNat < getF ((hapOf a n).lim.getD 2 0) Fld.HAP_Cn_BRAKE_BRAKE_STOP ∨ b.eff.brakeMax ≤ b.unit + 1
     (b.unitAt + b.ub ≤ a.gtb) ∧ ((¬ last)))) ∧
    (let t : Tick := 5
     let s : State := State.reset
     let channel : BitVec 4 := 15
     let h := advance t s
     let n := channel.toNat
     let a := accountHap n h
     (hapOf a n).drive = none ∧ ((hapOf a n).brake = none)) ∧
    (let t : Tick := 5
     let s : State := made fun s => setHap 15 (fun r => { r with drive := some (({ fn := 0, id := 1, holm := false, release := 0, s0 := 0, odLen := 0, odLevel := 0, susLen := 10, susLevel := 1, brakeEn := false, reverse := false, brakeMax := 3, brakeLevel := 1, len := 10 } : Effect), 0), lim := [1 <<< 0 ||| 0xFFFFFFFF] }) (s)
     let channel : BitVec 4 := 15
     let h := advance t s
     let n := channel.toNat
     let a := accountHap n h
     let c0 : BitVec 12 := 0
     let c1 : BitVec 12 := 0
     let c2 : BitVec 12 := 0
     let c3 : BitVec 12 := 0
     let e := ({ fn := 0, id := 1, holm := false, release := 0, s0 := 0, odLen := 0, odLevel := 0, susLen := 10, susLevel := 1, brakeEn := false, reverse := false, brakeMax := 3, brakeLevel := 1, len := 10 } : Effect)
     let b := (0 : Nat)
     (hapOf a n).drive = some (e, b) ∧ (let all := ∀ c ∈ [c0, c1, c2, c3], getF ((hapOf a n).lim.getD 0 0) Fld.HAP_Cn_LIMIT_I_LIMIT ≤ codeAbs c
     (¬ all))) ∧
    (let t : Tick := 5
     let s : State := made fun s => setHap 15 (fun r => { r with drive := some (({ fn := 0, id := 1, holm := false, release := 0, s0 := 0, odLen := 0, odLevel := 0, susLen := 10, susLevel := 1, brakeEn := false, reverse := false, brakeMax := 3, brakeLevel := 1, len := 10 } : Effect), 0) }) (wrB (Reg.HAP_Cn_CTRL 15) Fld.HAP_Cn_CTRL_ENABLE true (s))
     let channel : BitVec 4 := 15
     let h := advance t s
     let n := channel.toNat
     let a := accountHap n h
     let c0 : BitVec 12 := 0
     let c1 : BitVec 12 := 0
     let c2 : BitVec 12 := 0
     let c3 : BitVec 12 := 0
     let e := ({ fn := 0, id := 1, holm := false, release := 0, s0 := 0, odLen := 0, odLevel := 0, susLen := 10, susLevel := 1, brakeEn := false, reverse := false, brakeMax := 3, brakeLevel := 1, len := 10 } : Effect)
     let b := (0 : Nat)
     (hapOf a n).drive = some (e, b) ∧ (let all := ∀ c ∈ [c0, c1, c2, c3], getF ((hapOf a n).lim.getD 0 0) Fld.HAP_Cn_LIMIT_I_LIMIT ≤ codeAbs c
     let u := setHap n (fun r => { r with drive := none, brake := none, lastEnd := some a.gtb }) a
     (all) ∧ ((hapOn u n = true)))) ∧
    (let t : Tick := 5
     let s : State := State.reset
     let channel : BitVec 4 := 15
     let h := advance t s
     let n := channel.toNat
     (hapOf h n).cal = none) ∧
    (let t : Tick := 5
     let s : State := made fun s => setHap 15 (fun r => { r with cal := some (none, 0) }) (wrF (Reg.HAP_Cn_CAL0 15) Fld.HAP_Cn_CAL0_F_LO 50 (wrF (Reg.HAP_Cn_CAL0 15) Fld.HAP_Cn_CAL0_F_HI 300 (wrF (Reg.HAP_Cn_CAL1 15) Fld.HAP_Cn_CAL1_CAL_MIN 0 (s))))
     let channel : BitVec 4 := 15
     let h := advance t s
     let n := channel.toNat
     let amps : List (BitVec 12) := [0]
     let cr := ([0, 0, 0, 0, 4000000] : List Nat)
     let began := (0 : Nat)
     let hp := (1000000 : Nat)
     let fr := (100000 : Nat)
     let bad := (0 : Nat)
     (hapOf h n).cal = some (none, began) ∧ ((hapOf h n).brake = none ∧ ((isErm h n = false) ∧ ((calResult false (fld h (Reg.HAP_Cn_CAL0 n) Fld.HAP_Cn_CAL0_F_LO) (fld h (Reg.HAP_Cn_CAL0 n) Fld.HAP_Cn_CAL0_F_HI) (fld h (Reg.HAP_Cn_CAL1 n) Fld.HAP_Cn_CAL1_CAL_MIN) (amps.map BitVec.toNat) cr = (hp, fr, bad)) ∧ ((bad = 0)))))) ∧
    (let t : Tick := 5
     let s : State := made fun s => setHap 15 (fun r => { r with cal := some (none, 0) }) (wrF (Reg.HAP_Cn_CAL1 15) Fld.HAP_Cn_CAL1_CAL_MIN 0 (s))
     let channel : BitVec 4 := 15
     let h := advance t s
     let n := channel.toNat
     let amps : List (BitVec 12) := [0]
     let cr := ([] : List Nat)
     let began := (0 : Nat)
     let hp := (0 : Nat)
     let fr := (0 : Nat)
     let bad := (2 : Nat)
     (hapOf h n).cal = some (none, began) ∧ ((hapOf h n).brake = none ∧ ((isErm h n = false) ∧ ((calResult false (fld h (Reg.HAP_Cn_CAL0 n) Fld.HAP_Cn_CAL0_F_LO) (fld h (Reg.HAP_Cn_CAL0 n) Fld.HAP_Cn_CAL0_F_HI) (fld h (Reg.HAP_Cn_CAL1 n) Fld.HAP_Cn_CAL1_CAL_MIN) (amps.map BitVec.toNat) cr = (hp, fr, bad)) ∧ ((bad ≠ 0)))))) :=
  ⟨by decide +kernel,
    by decide +kernel,
    by decide +kernel,
    by decide +kernel,
    by decide +kernel,
    by decide +kernel,
    by decide +kernel,
    by decide +kernel,
    by decide +kernel,
    by decide +kernel,
    by decide +kernel,
    by decide +kernel,
    by decide +kernel,
    by decide +kernel,
    by decide +kernel,
    by decide +kernel,
    by decide +kernel,
    by decide +kernel,
    by decide +kernel,
    by decide +kernel,
    by decide +kernel⟩

theorem hypotheses_AudioEventsComplete :
    (let t : Tick := 5
     let s : State := State.reset
     let h := advance t s
     (boundaryDue h = false)) ∧
    (let t : Tick := 5
     let s : State := made fun s => wrF (Reg.CLK_ISLn 6) Fld.CLK_ISLn_SRC 1 (wrB (Reg.CLK_ISLn 6) Fld.CLK_ISLn_GOOD true (gatesOn [6] s))
     let h := advance t s
     (boundaryDue h = true)) ∧
    (let t : Tick := 5
     let s : State := made fun s => setAud (fun a => { a with tone := some { done := false } }) s
     let h := advance t s
     let r := ({ done := false } : ToneRec)
     (h.aud.tone = some r) ∧ ((r.done = false))) ∧
    (let t : Tick := 5
     let s : State := made fun s => setAud (fun a => { a with tone := some { done := true } }) s
     let h := advance t s
     let r := ({ done := true } : ToneRec)
     (h.aud.tone = some r) ∧ ((r.done = true))) ∧
    (let t : Tick := 5
     let s : State := made fun s => wrB (Reg.AUD_TDMn_FMT 7) Fld.AUD_TDMn_FMT_MASTER false (wrB (Reg.AUD_TDMn_FMT 7) Fld.AUD_TDMn_FMT_EN true (s))
     let h := advance t s
     let port : BitVec 3 := 7
     let n := port.toNat
     let slave := flg h (Reg.AUD_TDMn_FMT n) Fld.AUD_TDMn_FMT_EN = true ∧ flg h (Reg.AUD_TDMn_FMT n) Fld.AUD_TDMn_FMT_MASTER = false
     (slave) ∧ ((flg h (Reg.AUD_Ie_STAT n) Fld.AUD_Ie_STAT_NO_CLOCK = false))) ∧
    (let t : Tick := 5
     let s : State := made fun s => wrB (Reg.AUD_Ie_STAT 7) Fld.AUD_Ie_STAT_NO_CLOCK true (wrB (Reg.AUD_TDMn_FMT 7) Fld.AUD_TDMn_FMT_MASTER false (wrB (Reg.AUD_TDMn_FMT 7) Fld.AUD_TDMn_FMT_EN true (s)))
     let h := advance t s
     let port : BitVec 3 := 7
     let n := port.toNat
     (flg h (Reg.AUD_Ie_STAT n) Fld.AUD_Ie_STAT_NO_CLOCK = true)) ∧
    (let t : Tick := 5
     let s : State := made fun s => wrB (Reg.AUD_TDMn_FMT 7) Fld.AUD_TDMn_FMT_MASTER false (wrB (Reg.AUD_TDMn_FMT 7) Fld.AUD_TDMn_FMT_EN true (s))
     let h := advance t s
     let port : BitVec 3 := 7
     let n := port.toNat
     let slave := flg h (Reg.AUD_TDMn_FMT n) Fld.AUD_TDMn_FMT_EN = true ∧ flg h (Reg.AUD_TDMn_FMT n) Fld.AUD_TDMn_FMT_MASTER = false
     (slave)) ∧
    (let t : Tick := 5
     let s : State := State.reset
     let h := advance t s
     let port : BitVec 3 := 7
     let n := port.toNat
     let slave := flg h (Reg.AUD_TDMn_FMT n) Fld.AUD_TDMn_FMT_EN = true ∧ flg h (Reg.AUD_TDMn_FMT n) Fld.AUD_TDMn_FMT_MASTER = false
     (¬ slave)) ∧
    (let t : Tick := 5
     let s : State := State.reset
     let h := advance t s
     let port : BitVec 3 := 7
     let n := port.toNat
     let slave := flg h (Reg.AUD_TDMn_FMT n) Fld.AUD_TDMn_FMT_EN = true ∧ flg h (Reg.AUD_TDMn_FMT n) Fld.AUD_TDMn_FMT_MASTER = false
     (¬ slave)) ∧
    (let t : Tick := 5
     let s : State := State.reset
     let h := advance t s
     let port : BitVec 1 := 1
     let since : Tick := 5
     let n := port.toNat
     let deb := 200000 * fld h (Reg.AUD_HSn_DET n) Fld.AUD_HSn_DET_DET_DEB
     (hsLive h n = false ∨ h.gtb < since + deb)) ∧
    (let t : Tick := 10 ^ 9
     let s : State := made fun s => gatesOn [6, 0x49] (s)
     let h := advance t s
     let port : BitVec 1 := 1
     let since : Tick := 5
     let n := port.toNat
     let plugged := flg h (Reg.AUD_HSn_STAT n) Fld.AUD_HSn_STAT_PLUGGED
     let deb := 200000 * fld h (Reg.AUD_HSn_DET n) Fld.AUD_HSn_DET_DET_DEB
     (hsLive h n = true) ∧ ((since + deb ≤ h.gtb) ∧ ((plugged = false)))) ∧
    (let t : Tick := 5
     let s : State := made fun s => gatesOn [6, 0x49] (wrB (Reg.AUD_HSn_STAT 1) Fld.AUD_HSn_STAT_MEASURING true (s))
     let h := advance t s
     let port : BitVec 1 := 1
     let n := port.toNat
     (hsLive h n = true) ∧ ((flg h (Reg.AUD_HSn_STAT n) Fld.AUD_HSn_STAT_MEASURING = true))) ∧
    (let t : Tick := 5
     let s : State := State.reset
     let h := advance t s
     let port : BitVec 1 := 1
     let n := port.toNat
     let plugged := flg h (Reg.AUD_HSn_STAT n) Fld.AUD_HSn_STAT_PLUGGED
     (plugged = false)) ∧
    (let t : Tick := 200004
     let s : State := made fun s => gatesOn [6, 0x49] (wrF (Reg.AUD_HSn_DET 1) Fld.AUD_HSn_DET_DET_DEB 1 (wrB (Reg.AUD_HSn_STAT 1) Fld.AUD_HSn_STAT_PLUGGED true (s)))
     let h := advance t s
     let port : BitVec 1 := 1
     let since : Tick := 5
     let n := port.toNat
     let plugged := flg h (Reg.AUD_HSn_STAT n) Fld.AUD_HSn_STAT_PLUGGED
     (hsLive h n = true) ∧ ((plugged = true) ∧ ((flg h (Reg.AUD_HSn_STAT n) Fld.AUD_HSn_STAT_MEASURING = false) ∧ (let u := setHs n (fun h => { h with removing := some since }) (setHsStat n true false 0 7 h)
     let wait := 200000 * fld u (Reg.AUD_HSn_DET n) Fld.AUD_HSn_DET_DET_DEB
     (h.gtb < since + wait))))) ∧
    (let t : Tick := 200005
     let s : State := made fun s => gatesOn [6, 0x49] (wrF (Reg.AUD_HSn_DET 1) Fld.AUD_HSn_DET_DET_DEB 1 (wrB (Reg.AUD_HSn_STAT 1) Fld.AUD_HSn_STAT_PLUGGED true (s)))
     let h := advance t s
     let port : BitVec 1 := 1
     let since : Tick := 5
     let n := port.toNat
     let plugged := flg h (Reg.AUD_HSn_STAT n) Fld.AUD_HSn_STAT_PLUGGED
     (hsLive h n = true) ∧ ((plugged = true) ∧ ((flg h (Reg.AUD_HSn_STAT n) Fld.AUD_HSn_STAT_MEASURING = false) ∧ (let u := setHs n (fun h => { h with removing := some since }) (setHsStat n true false 0 7 h)
     let wait := 200000 * fld u (Reg.AUD_HSn_DET n) Fld.AUD_HSn_DET_DET_DEB
     (since + wait ≤ h.gtb))))) ∧
    (let t : Tick := 5
     let s : State := made fun s => wrF (Reg.AUD_HSn_STAT 1) Fld.AUD_HSn_STAT_BUTTON 7 (s)
     let h := advance t s
     let port : BitVec 1 := 1
     let n := port.toNat
     let ohms : BitVec 24 := 0xFFFFFF
     let old := fld h (Reg.AUD_HSn_STAT n) Fld.AUD_HSn_STAT_BUTTON
     let b := buttonBand h n ohms.toNat
     (b = old)) ∧
    (let t : Tick := 10 ^ 9
     let s : State := made fun s => gatesOn [6, 0x49] (wrF (Reg.AUD_HSn_STAT 1) Fld.AUD_HSn_STAT_TYPE 3 (wrF (Reg.AUD_HSn_STAT 1) Fld.AUD_HSn_STAT_BUTTON 7 (s)))
     let h := advance t s
     let port : BitVec 1 := 1
     let since : Tick := 5
     let n := port.toNat
     let ohms : BitVec 24 := 0
     let ty := fld h (Reg.AUD_HSn_STAT n) Fld.AUD_HSn_STAT_TYPE
     let old := fld h (Reg.AUD_HSn_STAT n) Fld.AUD_HSn_STAT_BUTTON
     let b := buttonBand h n ohms.toNat
     (hsLive h n = true) ∧ ((ty = 2 ∨ ty = 3) ∧ ((old = 7) ∧ ((b ≠ 7) ∧ ((since + 200000 * fld h (Reg.AUD_HSn_DET n) Fld.AUD_HSn_DET_BTN_DEB ≤ h.gtb)))))) :=
  ⟨by decide +kernel,
    by decide +kernel,
    by decide +kernel,
    by decide +kernel,
    by decide +kernel,
    by decide +kernel,
    by decide +kernel,
    by decide +kernel,
    by decide +kernel,
    by decide +kernel,
    by decide +kernel,
    by decide +kernel,
    by decide +kernel,
    by decide +kernel,
    by decide +kernel,
    by decide +kernel,
    by decide +kernel⟩

theorem hypotheses_DataMoverEventsComplete :
    (let t : Tick := 5
     let s : State := State.reset
     let channel : BitVec 7 := 127
     let h := advance t s
     let n := channel.toNat
     let r := dmaOf h n
     (flg h (Reg.DMA_Cn_CTRL n) Fld.DMA_Cn_CTRL_ENABLE = false ∨ nextSet h.gtb r = none)) ∧
    (let t : Tick := 5
     let s : State := made fun s => wrB (Reg.DMA_Cn_CTRL 127) Fld.DMA_Cn_CTRL_ENABLE true (setDma 127 (fun r => { r with regs := [({ src := 0, dst := 4096, count := 64, dflags := 0 } : DmaSet)] }) (s))
     let channel : BitVec 7 := 127
     let h := advance t s
     let n := channel.toNat
     let r := dmaOf h n
     let x := ({ src := 0, dst := 4096, count := 64, dflags := 0 } : DmaSet)
     (flg h (Reg.DMA_Cn_CTRL n) Fld.DMA_Cn_CTRL_ENABLE = true) ∧ ((nextSet h.gtb r = some x) ∧ ((r.running = none)))) ∧
    (let t : Tick := 5
     let s : State := made fun s => wrB (Reg.DMA_Cn_CTRL 127) Fld.DMA_Cn_CTRL_ENABLE true (setDma 127 (fun r => { r with queue := [({ owner := some (0, 1), src := 0, dst := 4096, count := 64, dflags := 0 } : DmaSet)], running := some ({ src := 0, dst := 4096, count := 64, dflags := 0 } : DmaSet) }) (s))
     let channel : BitVec 7 := 127
     let h := advance t s
     let n := channel.toNat
     let r := dmaOf h n
     let x := ({ owner := some (0, 1), src := 0, dst := 4096, count := 64, dflags := 0 } : DmaSet)
     let y := ({ src := 0, dst := 4096, count := 64, dflags := 0 } : DmaSet)
     (flg h (Reg.DMA_Cn_CTRL n) Fld.DMA_Cn_CTRL_ENABLE = true) ∧ ((nextSet h.gtb r = some x) ∧ ((r.running = some y) ∧ ((setBefore x y = true) ∧ ((r.shadow = none)))))) ∧
    (let t : Tick := 5
     let s : State := made fun s => wrB (Reg.DMA_Cn_CTRL 127) Fld.DMA_Cn_CTRL_MODE true (wrB (Reg.DMA_Cn_CTRL 127) Fld.DMA_Cn_CTRL_ENABLE true (setDma 127 (fun r => { r with regs := [({ src := 0, dst := 4096, count := 64, dflags := 0 } : DmaSet)], running := some ({ owner := some (0, 1), src := 0, dst := 4096, count := 64, dflags := 0 } : DmaSet) }) (s)))
     let channel : BitVec 7 := 127
     let h := advance t s
     let n := channel.toNat
     let r := dmaOf h n
     let x := ({ src := 0, dst := 4096, count := 64, dflags := 0 } : DmaSet)
     let y := ({ owner := some (0, 1), src := 0, dst := 4096, count := 64, dflags := 0 } : DmaSet)
     (flg h (Reg.DMA_Cn_CTRL n) Fld.DMA_Cn_CTRL_ENABLE = true) ∧ ((nextSet h.gtb r = some x) ∧ ((r.running = some y) ∧ ((setBefore x y = false) ∧ ((flg h (Reg.DMA_Cn_CTRL n) Fld.DMA_Cn_CTRL_MODE = true) ∧ ((r.shadow = none))))))) ∧
    (let t : Tick := 5
     let s : State := made fun s => wrB (Reg.DMA_Cn_CTRL 127) Fld.DMA_Cn_CTRL_ENABLE true (setDma 127 (fun r => { r with regs := [({ src := 0, dst := 4096, count := 64, dflags := 0 } : DmaSet)], running := some ({ owner := some (0, 1), src := 0, dst := 4096, count := 64, dflags := 0 } : DmaSet) }) (s))
     let channel : BitVec 7 := 127
     let h := advance t s
     let n := channel.toNat
     let r := dmaOf h n
     let x := ({ src := 0, dst := 4096, count := 64, dflags := 0 } : DmaSet)
     let y := ({ owner := some (0, 1), src := 0, dst := 4096, count := 64, dflags := 0 } : DmaSet)
     (flg h (Reg.DMA_Cn_CTRL n) Fld.DMA_Cn_CTRL_ENABLE = true) ∧ ((nextSet h.gtb r = some x) ∧ ((r.running = some y) ∧ ((setBefore x y = false) ∧ ((flg h (Reg.DMA_Cn_CTRL n) Fld.DMA_Cn_CTRL_MODE = false)))))) ∧
    (let t : Tick := 5
     let s : State := State.reset
     let channel : BitVec 7 := 127
     let h := advance t s
     let n := channel.toNat
     let r := dmaOf h n
     (r.running = none)) ∧
    (let t : Tick := 5
     let s : State := made fun s => setDma 127 (fun r => { r with running := some ({ src := 0, dst := 4096, count := 64, dflags := 0 } : DmaSet) }) (s)
     let channel : BitVec 7 := 127
     let h := advance t s
     let n := channel.toNat
     let r := dmaOf h n
     let x := ({ src := 0, dst := 4096, count := 64, dflags := 0 } : DmaSet)
     (r.running = some x) ∧ (let a := setDma n (fun r => { r with running := none }) (wr (Reg.DMA_Cn_MOVED n) (BitVec.ofNat 32 x.count) (dmaRun n x h))
     let cnt (b : Bits) (s : State) : State := wrF (Reg.DMA_Cn_SETS n) b (fld s (Reg.DMA_Cn_SETS n) b + 1) s
     let e := if x.isReg then
               (let w := wrB (Reg.DMA_Cn_STAT n) Fld.DMA_Cn_STAT_DONE true a
                raiseSource (obj 8 (0x200 + n)) (fld a (Reg.DMA_Cn_CTRL n) Fld.DMA_Cn_CTRL_VECTOR) (cnt Fld.DMA_Cn_SETS_REGISTER w))
             else dmaDeliver x (ctxPoison h (dmaCtx h n x.dflags false) x.src x.count) (cnt Fld.DMA_Cn_SETS_CONTRACTED a)
     (dmaOf e n).shadow = none)) ∧
    (let t : Tick := 5
     let s : State := made fun s => setDma 127 (fun r => { r with running := some ({ src := 0, dst := 4096, count := 64, dflags := 0 } : DmaSet), shadow := some ({ owner := some (0, 1), src := 0, dst := 4096, count := 64, dflags := 0 } : DmaSet) }) (s)
     let channel : BitVec 7 := 127
     let h := advance t s
     let n := channel.toNat
     let r := dmaOf h n
     let x := ({ src := 0, dst := 4096, count := 64, dflags := 0 } : DmaSet)
     (r.running = some x) ∧ (let a := setDma n (fun r => { r with running := none }) (wr (Reg.DMA_Cn_MOVED n) (BitVec.ofNat 32 x.count) (dmaRun n x h))
     let cnt (b : Bits) (s : State) : State := wrF (Reg.DMA_Cn_SETS n) b (fld s (Reg.DMA_Cn_SETS n) b + 1) s
     let e := if x.isReg then
               (let w := wrB (Reg.DMA_Cn_STAT n) Fld.DMA_Cn_STAT_DONE true a
                raiseSource (obj 8 (0x200 + n)) (fld a (Reg.DMA_Cn_CTRL n) Fld.DMA_Cn_CTRL_VECTOR) (cnt Fld.DMA_Cn_SETS_REGISTER w))
             else dmaDeliver x (ctxPoison h (dmaCtx h n x.dflags false) x.src x.count) (cnt Fld.DMA_Cn_SETS_CONTRACTED a)
     let y := ({ owner := some (0, 1), src := 0, dst := 4096, count := 64, dflags := 0 } : DmaSet)
     (dmaOf e n).shadow = some y)) ∧
    (let t : Tick := 5
     let s : State := State.reset
     let unit : BitVec 2 := 3
     let h := advance t s
     let u := unit.toNat
     (cvOf h u).reg = none ∨ (cvOf h u).pause = false) ∧
    (let t : Tick := 5
     let s : State := made fun s => setCv 3 (fun r => { r with reg := some ((0, 128, 0, false, none) : Nat × Nat × Nat × Bool × Option Nat), pause := true }) (s)
     let unit : BitVec 2 := 3
     let h := advance t s
     let u := unit.toNat
     let bytes : BitVec 31 := 64
     let job := ((0, 128, 0, false, none) : Nat × Nat × Nat × Bool × Option Nat)
     (cvOf h u).reg = some job ∧ ((cvOf h u).pause = true ∧ ((bytes.toNat % 64 = 0 ∨ job.2.1 ≤ bytes.toNat)))) ∧
    (let t : Tick := 5
     let s : State := made fun s => setCv 3 (fun r => { r with reg := some ((0, 128, 0, false, none) : Nat × Nat × Nat × Bool × Option Nat), pause := true }) (s)
     let unit : BitVec 2 := 3
     let h := advance t s
     let u := unit.toNat
     let bytes : BitVec 31 := 65
     let job := ((0, 128, 0, false, none) : Nat × Nat × Nat × Bool × Option Nat)
     (cvOf h u).reg = some job ∧ ((cvOf h u).pause = true ∧ ((bytes.toNat % 64 ≠ 0) ∧ ((bytes.toNat < job.2.1))))) ∧
    (let t : Tick := 5
     let s : State := State.reset
     let unit : BitVec 2 := 3
     let h := advance t s
     let u := unit.toNat
     (gateOn h (0x21 + u) = false)) ∧
    (let t : Tick := 5
     let s : State := made fun s => setCv 3 (fun r => { r with jobs := [({ fn := 0, id := 1, holm := false, deadline := 100, s0 := 0, addr := 0, len := 64, alg := 0 } : CvJob)] }) (gatesOn [2, 1, 0x24] s)
     let unit : BitVec 2 := 3
     let h := advance t s
     let u := unit.toNat
     let j := ({ fn := 0, id := 1, holm := false, deadline := 100, s0 := 0, addr := 0, len := 64, alg := 0 } : CvJob)
     (gateOn h (0x21 + u) = true) ∧ ((cvCurrent h.gtb (cvOf h u) = some j))) ∧
    (let t : Tick := 5
     let s : State := made fun s => setCv 3 (fun r => { r with reg := some ((0, 128, 0, false, none) : Nat × Nat × Nat × Bool × Option Nat) }) (gatesOn [2, 1, 0x24] s)
     let unit : BitVec 2 := 3
     let h := advance t s
     let u := unit.toNat
     let job := ((0, 128, 0, false, none) : Nat × Nat × Nat × Bool × Option Nat)
     (gateOn h (0x21 + u) = true) ∧ ((cvCurrent h.gtb (cvOf h u) = none) ∧ ((cvOf h u).reg = some job))) :=
  ⟨by decide +kernel,
    by decide +kernel,
    by decide +kernel,
    by decide +kernel,
    by decide +kernel,
    by decide +kernel,
    by decide +kernel,
    by decide +kernel,
    by decide +kernel,
    by decide +kernel,
    by decide +kernel,
    by decide +kernel,
    by decide +kernel,
    by decide +kernel⟩

theorem hypotheses_ClockAndPowerEventsComplete :
    (let t : Tick := 5
     let s : State := made fun s => wrB Reg.CLK_STAT Fld.CLK_STAT_CLKIN_OK true (s)
     let h := advance t s
     (clkinOk h = true)) ∧
    (let t : Tick := 5
     let s : State := made fun s => wrB Reg.CLK_STAT Fld.CLK_STAT_CLKIN_OK true (s)
     let h := advance t s
     (clkinOk h = true)) ∧
    (let t : Tick := 5
     let s : State := State.reset
     let h := advance t s
     (clkinOk h = false)) ∧
    (let t : Tick := 5
     let s : State := State.reset
     let h := advance t s
     (clkinOk h = false) ∧ ((lossForced h = false) ∧ ((h.pwr.inReset = true) ∧ ((h.pwr.thermalHold = false))))) ∧
    (let t : Tick := 5
     let s : State := made fun s => setPwr (fun p => { p with inReset := false }) (s)
     let h := advance t s
     (clkinOk h = false) ∧ ((lossForced h = false) ∧ ((h.pwr.inReset = false)))) ∧
    (let t : Tick := 5
     let s : State := State.reset
     let h := advance t s
     (clkinOk h = false ∨ flg h Reg.CLK_STAT Fld.CLK_STAT_RELOCKING = false)) ∧
    (let t : Tick := 5
     let s : State := made fun s => wrB Reg.CLK_STAT Fld.CLK_STAT_CLKIN_OK true (wrB Reg.CLK_STAT Fld.CLK_STAT_RELOCKING true (s))
     let h := advance t s
     (clkinOk h = true) ∧ ((flg h Reg.CLK_STAT Fld.CLK_STAT_RELOCKING = true))) ∧
    (let t : Tick := 5
     let s : State := made fun s => wrB Reg.CLK_STAT Fld.CLK_STAT_CLKIN_OK true (wrF (Reg.CLK_ISLn 19) Fld.CLK_ISLn_SRC 1 (s))
     let h := advance t s
     let island : BitVec 5 := 19
     let n := island.toNat
     let may := n < 20 ∧ fld h (Reg.CLK_ISLn n) Fld.CLK_ISLn_SRC ≠ 0 ∧ isGood h n = false ∧ flg h (Reg.CLK_ISLn n) Fld.CLK_ISLn_COASTING = false ∧ clkinOk h = true
     (may)) ∧
    (let t : Tick := 5
     let s : State := State.reset
     let h := advance t s
     let island : BitVec 5 := 31
     let n := island.toNat
     let may := n < 20 ∧ fld h (Reg.CLK_ISLn n) Fld.CLK_ISLn_SRC ≠ 0 ∧ isGood h n = false ∧ flg h (Reg.CLK_ISLn n) Fld.CLK_ISLn_COASTING = false ∧ clkinOk h = true
     (¬ may)) ∧
    (let t : Tick := 5
     let s : State := State.reset
     let h := advance t s
     (h.pwr.shdNext = [])) ∧
    (let t : Tick := 5
     let s : State := made fun s => setPwr (fun p => { p with shdNext := [1400000] }) (wrF (Reg.CLK_ISLn 2) Fld.CLK_ISLn_SRC 2 (s))
     let h := advance t s
     let f := (1400000 : Nat)
     let rest := ([] : List Nat)
     (h.pwr.shdNext = f :: rest) ∧ ((fld h (Reg.CLK_ISLn 2) Fld.CLK_ISLn_SRC = 2) ∧ (let u := setPwr (fun p => { p with shdKhz := f, shdNext := rest }) (wr (Reg.CLK_ISLn 2) (setF (setF (rd h (Reg.CLK_ISLn 2)) Fld.CLK_ISLn_FREQ_KHZ f) Fld.CLK_ISLn_SRC 3) h)
     (longPorts u 0x0B02 = [])))) ∧
    (let t : Tick := 5
     let s : State := made fun s => ringAt 0 { busy := some ⟨0x0B02, packet 0x0B02 7 1 false [], 0, 0⟩ } (setPwr (fun p => { p with shdNext := [1400000] }) (wrF (Reg.CLK_ISLn 2) Fld.CLK_ISLn_SRC 2 (s)))
     let h := advance t s
     let f := (1400000 : Nat)
     let rest := ([] : List Nat)
     (h.pwr.shdNext = f :: rest) ∧ ((fld h (Reg.CLK_ISLn 2) Fld.CLK_ISLn_SRC = 2) ∧ (let u := setPwr (fun p => { p with shdKhz := f, shdNext := rest }) (wr (Reg.CLK_ISLn 2) (setF (setF (rd h (Reg.CLK_ISLn 2)) Fld.CLK_ISLn_FREQ_KHZ f) Fld.CLK_ISLn_SRC 3) h)
     let x := ((0, .ring ⟨0, by decide⟩ false) : Tick × Port)
     let xs := ([] : List (Tick × Port))
     (longPorts u 0x0B02 = x :: xs)))) ∧
    (let t : Tick := 5
     let s : State := made fun s => { s with pwr := { s.pwr with gates := [(7, { state := .draining })] } }
     let h := advance t s
     let gate : BitVec 8 := 7
     (gateState h gate.toNat = .draining)) ∧
    (let t : Tick := 5
     let s : State := State.reset
     let h := advance t s
     let gate : BitVec 8 := 255
     (gateState h gate.toNat ≠ .draining)) ∧
    (let t : Tick := 5
     let s : State := made fun s => { s with pwr := { s.pwr with gates := [(48, { state := .waking })] } }
     let h := advance t s
     let gate : BitVec 8 := 0x30
     (gateState h gate.toNat = .waking) ∧ ((isIsland gate.toNat = false ∨ isGood h gate.toNat = true))) ∧
    (let t : Tick := 5
     let s : State := State.reset
     let h := advance t s
     let gate : BitVec 8 := 255
     (gateState h gate.toNat ≠ .waking)) ∧
    (let t : Tick := 5
     let s : State := made fun s => { s with pwr := { s.pwr with gates := [2, 3].map (fun g => (g, { state := .waking })), queue := [{ gate := 4, holm := false, stamp := 0 }] } }
     let h := advance t s
     let e := ({ gate := 4, holm := false, stamp := 0 } : WakeEntry)
     let q := ([] : List WakeEntry)
     (h.pwr.queue = e :: q) ∧ ((8 < inrushUsed h + gateCost e.gate))) ∧
    (let t : Tick := 5
     let s : State := made fun s => wrF Reg.PWR_STAT Fld.PWR_STAT_STATE 2 (s)
     let h := advance t s
     (pwrMode h = 2) ∧ ((∀ g ∈ h.pwr.standbySet, gateState h g = .off))) ∧
    (let t : Tick := 5
     let s : State := State.reset
     let h := advance t s
     (pwrMode h ≠ 2)) ∧
    (let t : Tick := 5
     let s : State := made fun s => gatesOn [4] (wrF Reg.PWR_STAT Fld.PWR_STAT_STATE 3 (s))
     let h := advance t s
     (pwrMode h = 3) ∧ ((∀ g ∈ h.pwr.standbySet ++ [4], gateState h g = .on))) ∧
    (let t : Tick := 5
     let s : State := State.reset
     let h := advance t s
     (pwrMode h ≠ 3)) :=
  ⟨by decide +kernel,
    by decide +kernel,
    by decide +kernel,
    by decide +kernel,
    by decide +kernel,
    by decide +kernel,
    by decide +kernel,
    by decide +kernel,
    by decide +kernel,
    by decide +kernel,
    by decide +kernel,
    by decide +kernel,
    by decide +kernel,
    by decide +kernel,
    by decide +kernel,
    by decide +kernel,
    by decide +kernel,
    by decide +kernel,
    by decide +kernel,
    by decide +kernel,
    by decide +kernel⟩

theorem hypotheses_ResetEventsComplete :
    (let ticks : Word := 399
     (ticks.toNat < 400)) ∧
    (let ticks : Word := 400
     (400 ≤ ticks.toNat)) ∧
    (let t : Tick := 5
     let s : State := made fun s => setBoot (fun b => { b with resetPending := some 0 }) (s)
     let h := advance t s
     (h.boot.resetPending ≠ none)) ∧
    (let t : Tick := 5
     let s : State := State.reset
     let h := advance t s
     (h.boot.resetPending = none)) ∧
    (let t : Tick := 5
     let s : State := made fun s => setPwr (fun p => { p with resets := [2] }) (s)
     let h := advance t s
     let g := (2 : Nat)
     let gs := ([] : List Nat)
     (h.pwr.resets = g :: gs)) ∧
    (let t : Tick := 5
     let s : State := State.reset
     let h := advance t s
     (h.pwr.resets = [])) ∧
    (let t : Tick := 5
     let s : State := made fun s => wrB Reg.RST_WD_STAT Fld.RST_WD_STAT_RUNNING true (s)
     let h := advance t s
     let late := (wdWindow h).2 ≤ h.gtb
     (wdRunning h = true) ∧ ((wdDumping h = false) ∧ ((late)))) ∧
    (let t : Tick := 5
     let s : State := State.reset
     let h := advance t s
     let late := (wdWindow h).2 ≤ h.gtb
     (wdRunning h = false ∨ ¬ late)) ∧
    (let t : Tick := 5
     let s : State := made fun s => wrF Reg.PWR_THERM Fld.PWR_THERM_TEMP 2000 (wrB Reg.PWR_THERM_CTRL Fld.PWR_THERM_CTRL_ALARM_EN true (s))
     let h := advance t s
     let due := flg h Reg.PWR_THERM_CTRL Fld.PWR_THERM_CTRL_ALARM_EN = true ∧ h.pwr.alarmArmed = true ∧ alarmAt h ≤ dieTemp h
     (due)) ∧
    (let t : Tick := 5
     let s : State := State.reset
     let h := advance t s
     let due := flg h Reg.PWR_THERM_CTRL Fld.PWR_THERM_CTRL_ALARM_EN = true ∧ h.pwr.alarmArmed = true ∧ alarmAt h ≤ dieTemp h
     (¬ due)) ∧
    (let t : Tick := 5
     let s : State := State.reset
     let h := advance t s
     (h.pwr.inReset = true ∨ h.boot.running = true ∨ h.boot.recovery ≠ none ∨ h.boot.bootDone ≠ none ∨ h.boot.dump.writing ≠ none)) ∧
    (let t : Tick := 5
     let s : State := made fun s => setPwr (fun p => { p with inReset := false }) (s)
     let h := advance t s
     (h.pwr.inReset = false) ∧ ((h.boot.running = false) ∧ ((h.boot.recovery = none) ∧ ((h.boot.bootDone = none) ∧ ((h.boot.dump.writing = none)))))) ∧
    (let t : Tick := 5
     let s : State := State.reset
     let h := advance t s
     (h.boot.dump.writing = none)) ∧
    (let t : Tick := 5
     let s : State := made fun s => setBoot (fun b => { b with dump := { b.dump with writing := some (2, 0) } }) (s)
     let h := advance t s
     let k := (2 : Nat)
     let at_ := (0 : Nat)
     (h.boot.dump.writing = some (k, at_))) ∧
    (let t : Tick := 2000000000
     let s : State := made fun s => setBoot (fun b => { b with bootDone := some 0 }) (s)
     let h := advance t s
     let b := (0 : Nat)
     (h.boot.bootDone = some b) ∧ ((b + 2000000000 ≤ h.gtb) ∧ ((h.boot.dump.writing = none) ∧ ((h.boot.dump.dumps = 0))))) ∧
    (let t : Tick := 1999999999
     let s : State := made fun s => setBoot (fun b => { b with bootDone := some 0 }) (s)
     let h := advance t s
     let b := (0 : Nat)
     (h.boot.bootDone = some b) ∧ ((h.gtb < b + 2000000000))) ∧
    (let t : Tick := 5
     let s : State := made fun s => wrB Reg.REG_CRC_CTRL Fld.REG_CRC_CTRL_EN false (s)
     let h := advance t s
     (flg h Reg.REG_CRC_CTRL Fld.REG_CRC_CTRL_EN = false)) ∧
    (let t : Tick := 5
     let s : State := made fun s => wrB Reg.REG_CRC_CTRL Fld.REG_CRC_CTRL_EN true (s)
     let h := advance t s
     (flg h Reg.REG_CRC_CTRL Fld.REG_CRC_CTRL_EN = true)) :=
  ⟨by decide +kernel,
    by decide +kernel,
    by decide +kernel,
    by decide +kernel,
    by decide +kernel,
    by decide +kernel,
    by decide +kernel,
    by decide +kernel,
    by decide +kernel,
    by decide +kernel,
    by decide +kernel,
    by decide +kernel,
    by decide +kernel,
    by decide +kernel,
    by decide +kernel,
    by decide +kernel,
    by decide +kernel,
    by decide +kernel⟩

/-! ### Register accesses -/

theorem hypotheses_DoorbellsAreJudgedByR106 :
    (let t : Tick := 5
     let fn : Fn := ⟨0, by decide⟩
     let holm : Bool := true
     let world : World := .holm
     let pi : BitVec 7 := 64
     let s : State := made fun s => ringAt 1 { enable := true, pi := 64, ri := 0 } (bench s)
     let h := advance t s
     let rq : Requester := ⟨fn, world⟩
     let off := ringOff fn.val holm 0xC
     let r := ringRec (dropLatch rq h) fn.val holm
     let dist (a b : Nat) : Nat := (b + 128 - a % 128) % 128
     let accepted := dist r.ri pi.toNat ≤ 64 ∧ dist r.pi pi.toNat ≤ dist r.ri pi.toNat
     (portExists (.ring fn holm) = true) ∧ ((portExists (.ring fn (world == .holm)) = true) ∧ ((Plain rq off off h) ∧ ((accepted) ∧ ((pi.toNat = r.pi) ∧ ((r.pi < 128))))))) ∧
    (let t : Tick := 5
     let fn : Fn := ⟨0, by decide⟩
     let holm : Bool := true
     let world : World := .holm
     let pi : BitVec 7 := 64
     let s : State := made fun s => ringAt 1 { enable := true, pi := 0, ri := 0 } (bench s)
     let h := advance t s
     let rq : Requester := ⟨fn, world⟩
     let off := ringOff fn.val holm 0xC
     let r := ringRec (dropLatch rq h) fn.val holm
     let dist (a b : Nat) : Nat := (b + 128 - a % 128) % 128
     let accepted := dist r.ri pi.toNat ≤ 64 ∧ dist r.pi pi.toNat ≤ dist r.ri pi.toNat
     (portExists (.ring fn holm) = true) ∧ ((portExists (.ring fn (world == .holm)) = true) ∧ ((Plain rq off off h) ∧ ((accepted) ∧ ((pi.toNat ≠ r.pi)))))) ∧
    (let t : Tick := 5
     let fn : Fn := ⟨0, by decide⟩
     let holm : Bool := true
     let world : World := .holm
     let pi : BitVec 7 := 65
     let s : State := made fun s => ringAt 1 { enable := true, pi := 0, ri := 0 } (bench s)
     let h := advance t s
     let rq : Requester := ⟨fn, world⟩
     let off := ringOff fn.val holm 0xC
     let r := ringRec (dropLatch rq h) fn.val holm
     let dist (a b : Nat) : Nat := (b + 128 - a % 128) % 128
     let accepted := dist r.ri pi.toNat ≤ 64 ∧ dist r.pi pi.toNat ≤ dist r.ri pi.toNat
     (portExists (.ring fn holm) = true) ∧ ((portExists (.ring fn (world == .holm)) = true) ∧ ((Plain rq off off h) ∧ ((¬ accepted))))) :=
  ⟨⟨by decide +kernel, by decide +kernel, plain_of (by decide +kernel), by decide +kernel, by decide +kernel, by decide +kernel⟩,
    ⟨by decide +kernel, by decide +kernel, plain_of (by decide +kernel), by decide +kernel, by decide +kernel⟩,
    ⟨by decide +kernel, by decide +kernel, plain_of (by decide +kernel), by decide +kernel⟩⟩

theorem hypotheses_MainlandReachesNoHolmRegister :
    (let t : Tick := 5
     let s : State := made fun s => bench s
     let pf : BitVec 2 := 0
     let off : BitVec 26 := BitVec.ofNat 26 Reg.ISO_DBG
     let h := advance t s
     let rq := pfReq pf .mainland
     let o := off.toNat / 4 * 4
     (∀ f ∈ h.lnk.faults, faultAims f 0 pf.toNat 0 0 = false) ∧ ((tget none h.lnk.held (heldKey pf.toNat 0) = none) ∧ ((reached h rq = true) ∧ ((accessOwner pf.toNat o = .holm ∨ (∃ b, accessOwner pf.toNat o = .obj b ∧ holmOwned h b = true)))))) ∧
    (let t : Tick := 5
     let s : State := made fun s => holmHas 0x2000 (bench s)
     let pf : BitVec 2 := 0
     let off : BitVec 26 := BitVec.ofNat 26 (layerBase 0)
     let be : BitVec 4 := 1
     let h := advance t s
     let rq := pfReq pf .mainland
     let o := off.toNat / 4 * 4
     (∀ f ∈ h.lnk.faults, faultAims f 0 pf.toNat 0 0 = false) ∧ ((tget none h.lnk.held (heldKey pf.toNat 0) = none) ∧ ((reached h rq = true) ∧ ((accessOwner pf.toNat o = .holm ∨ (∃ b, accessOwner pf.toNat o = .obj b ∧ holmOwned h b = true)) ∧ ((buffered h rq o = false ∨ be ≠ 15#4)))))) :=
  ⟨⟨by decide +kernel, by decide +kernel, by decide +kernel, .inl (by decide +kernel)⟩,
    ⟨by decide +kernel, by decide +kernel, by decide +kernel, .inr ⟨0x2000, by decide +kernel, by decide +kernel⟩, by decide +kernel⟩⟩

theorem hypotheses_BusAccessesComplete :
    (let t : Tick := 5
     let s : State := made fun s => bench s
     let rq : Requester := ⟨⟨0, by decide⟩, .holm⟩
     let off : BitVec 26 := BitVec.ofNat 26 (Reg.ISO_DBG)
     let o : Nat := Reg.ISO_DBG
     let h := advance t s
     (Plain rq off.toNat o h)) ∧
    (let t : Tick := 5
     let s : State := made fun s => bench s
     let rq : Requester := ⟨⟨0, by decide⟩, .holm⟩
     let off : BitVec 26 := BitVec.ofNat 26 (Reg.ISO_DBG)
     let be : BitVec 4 := 7
     let o : Nat := Reg.ISO_DBG
     let h := advance t s
     let p := portOf h rq.fn.val
     let calm := ∀ f ∈ h.lnk.faults, faultAims f 0 p 0 0 = false
     (calm) ∧ ((reached h rq = true) ∧ ((windowOff h rq.fn.val (off.toNat / 4 * 4) = some o) ∧ ((be ≠ 15#4) ∧ ((miss h rq o true true = none)))))) ∧
    (let t : Tick := 5
     let s : State := made fun s => s
     let rq : Requester := ⟨⟨0, by decide⟩, .holm⟩
     let h := advance t s
     let p := portOf h rq.fn.val
     let calm := ∀ f ∈ h.lnk.faults, faultAims f 0 p 0 0 = false
     (calm) ∧ ((reached h rq = false))) ∧
    (let t : Tick := 5
     let s : State := made fun s => bench s
     let rq : Requester := ⟨⟨0, by decide⟩, .holm⟩
     let h := advance t s
     let p := portOf h rq.fn.val
     let calm := ∀ f ∈ h.lnk.faults, faultAims f 0 p 0 0 = false
     (calm)) ∧
    (let t : Tick := 5
     let s : State := made fun s => bench s
     let rq : Requester := ⟨⟨0, by decide⟩, .holm⟩
     let h := advance t s
     let p := portOf h rq.fn.val
     let calm := ∀ f ∈ h.lnk.faults, faultAims f 0 p 0 0 = false
     (calm)) ∧
    (let t : Tick := 5
     let s : State := made fun s => holmAt 0xA01104 (bench s)
     let rq : Requester := ⟨⟨0, by decide⟩, .holm⟩
     let off : BitVec 26 := BitVec.ofNat 26 (0xA01104)
     let o : Nat := 0xA01104
     let h := advance t s
     let z := dropLatch rq h
     let q : PortSel := ((portAt (made fun s => holmAt 0xA01104 (bench s)) 0xA01104).getD ⟨0, none, 0⟩)
     (Plain rq off.toNat o h) ∧ ((portAt z o = some q))) ∧
    (let t : Tick := 5
     let s : State := made fun s => bench s
     let rq : Requester := ⟨⟨0, by decide⟩, .holm⟩
     let off : BitVec 26 := BitVec.ofNat 26 (Reg.CLK_SNAP_CTRL)
     let o : Nat := Reg.CLK_SNAP_CTRL
     let h := advance t s
     (Plain rq off.toNat o h) ∧ ((isSnapCtrl o = true))) ∧
    (let t : Tick := 5
     let s : State := State.reset
     let h := advance t s
     let port : BitVec 2 := 0
     let outbound : Bool := true
     let k := heldKey port.toNat (bit outbound)
     (tget none h.lnk.held k = none)) ∧
    (let t : Tick := 5
     let s : State := made fun s => { s with lnk := { s.lnk with held := [(heldKey 0 0, some (.inbound ⟨⟨⟨0, by decide⟩, .holm⟩, 0, 0, 15⟩ 0))] } }
     let h := advance t s
     let port : BitVec 2 := 0
     let outbound : Bool := false
     let k := heldKey port.toNat (bit outbound)
     let x := (⟨⟨⟨0, by decide⟩, .holm⟩, 0, 0, 15⟩ : BusWrite)
     let since := (0 : Nat)
     (tget none h.lnk.held k = some (.inbound x since))) ∧
    (let t : Tick := 5
     let s : State := made fun s => { s with lnk := { s.lnk with held := [(heldKey 0 0, some (.outbound 0 [1] 0))] } }
     let h := advance t s
     let port : BitVec 2 := 0
     let outbound : Bool := false
     let k := heldKey port.toNat (bit outbound)
     let a := (0 : Nat)
     let bs := ([1] : List Byte)
     let since := (0 : Nat)
     (tget none h.lnk.held k = some (.outbound a bs since))) ∧
    (let t : Tick := 5
     let s : State := made fun s => bench s
     let h := advance t s
     let pf : BitVec 2 := 0
     let world : World := .holm
     let register : Fin 15 := 14
     let a := pairOffsets.getD register.val 0
     (Lands (pfReq pf world) a a h)) ∧
    (let t : Tick := 5
     let s : State := State.reset
     let rq : Requester := ⟨⟨0, by decide⟩, .holm⟩
     let h := advance t s
     (pairRec h rq).armed = none) ∧
    (let t : Tick := 5
     let s : State := made fun s => { s with rg := { s.rg with latches := [(reqNo (pfReq 0 .holm), { armed := some (Reg.RST_REQ, 1, 5) })] } }
     let rq : Requester := pfReq 0 .holm
     let h := advance t s
     let a := Reg.RST_REQ
     let v := (1 : Word)
     let at_ := (5 : Nat)
     (pairRec h rq).armed = some (a, v, at_)) ∧
    (let t : Tick := 5
     let s : State := made fun s => ringAt 1 { enable := true } (bench (s))
     let h := advance t s
     let fn : Fn := ⟨0, by decide⟩
     let holm : Bool := true
     let world : World := .holm
     let r : Requester := ⟨fn, world⟩
     (portExists (.ring fn holm) = true) ∧ ((portExists (.ring fn (world == .holm)) = true) ∧ ((Plain r (ringOff fn.val holm 8) (ringOff fn.val holm 8) h)))) ∧
    (let t : Tick := 5
     let s : State := made fun s => ringAt 1 { enable := true } (bench (s))
     let h := advance t s
     let fn : Fn := ⟨0, by decide⟩
     let holm : Bool := true
     let world : World := .holm
     let r : Requester := ⟨fn, world⟩
     (portExists (.ring fn holm) = true) ∧ ((portExists (.ring fn (world == .holm)) = true) ∧ ((Plain r (ringOff fn.val holm 0x10C) (ringOff fn.val holm 0x10C) h)))) :=
  ⟨plain_of (by decide +kernel),
    by decide +kernel,
    by decide +kernel,
    by decide +kernel,
    by decide +kernel,
    ⟨plain_of (by decide +kernel), by decide +kernel⟩,
    ⟨plain_of (by decide +kernel), by decide +kernel⟩,
    by decide +kernel,
    by decide +kernel,
    by decide +kernel,
    lands_of (by decide +kernel),
    by decide +kernel,
    by decide +kernel,
    ⟨by decide +kernel, by decide +kernel, plain_of (by decide +kernel)⟩,
    ⟨by decide +kernel, by decide +kernel, plain_of (by decide +kernel)⟩⟩

theorem hypotheses_OwnershipChangesComplete :
    (let t : Tick := 5
     let s : State := made fun s => grant 0x3000 0 (bench s)
     let pf : BitVec 2 := 0
     let world : World := .holm
     let object : BitVec 16 := 0x3000
     let h := advance t s
     let rq := pfReq pf world
     let a := passHeld pf.toNat (ownSelect (object.setWidth 32) (dropLatch rq h))
     let claim := ownSpell true false 0
     let u (w : Word) : State := pairDone rq Reg.ISO_OWN_DATA w a
     let open_ (w : Word) : Prop := Plain rq Reg.ISO_OWN_IDX Reg.ISO_OWN_IDX h ∧ PairLands rq Reg.ISO_OWN_DATA w a
     let free (w : Word) : Prop := (u w).iso.change = none ∧ ownSelected (u w) = object.toNat ∧ objExists object.toNat = true ∧ followed object.toNat = none
     (open_ claim) ∧ ((free claim) ∧ ((holmOwned (u claim) object.toNat = false)))) ∧
    (let t : Tick := 5
     let s : State := made fun s => holmHas 0x3000 (bench s)
     let pf : BitVec 2 := 0
     let world : World := .holm
     let object : BitVec 16 := 0x3000
     let h := advance t s
     let rq := pfReq pf world
     let a := passHeld pf.toNat (ownSelect (object.setWidth 32) (dropLatch rq h))
     let claim := ownSpell true false 0
     let u (w : Word) : State := pairDone rq Reg.ISO_OWN_DATA w a
     let open_ (w : Word) : Prop := Plain rq Reg.ISO_OWN_IDX Reg.ISO_OWN_IDX h ∧ PairLands rq Reg.ISO_OWN_DATA w a
     let free (w : Word) : Prop := (u w).iso.change = none ∧ ownSelected (u w) = object.toNat ∧ objExists object.toNat = true ∧ followed object.toNat = none
     (open_ claim) ∧ ((free claim) ∧ ((holmOwned (u claim) object.toNat = true)))) ∧
    (let t : Tick := 5
     let s : State := made fun s => holmHas 0x3000 (bench s)
     let pf : BitVec 2 := 0
     let world : World := .holm
     let object : BitVec 16 := 0x3000
     let granted : Bool := true
     let fn : Fn := ⟨3, by decide⟩
     let h := advance t s
     let rq := pfReq pf world
     let a := passHeld pf.toNat (ownSelect (object.setWidth 32) (dropLatch rq h))
     let grant := ownSpell false granted fn.val
     let u (w : Word) : State := pairDone rq Reg.ISO_OWN_DATA w a
     let open_ (w : Word) : Prop := Plain rq Reg.ISO_OWN_IDX Reg.ISO_OWN_IDX h ∧ PairLands rq Reg.ISO_OWN_DATA w a
     let free (w : Word) : Prop := (u w).iso.change = none ∧ ownSelected (u w) = object.toNat ∧ objExists object.toNat = true ∧ followed object.toNat = none
     (open_ grant) ∧ ((free grant) ∧ ((holmOwned (u grant) object.toNat = true)))) ∧
    (let t : Tick := 5
     let s : State := made fun s => grant 0x3000 0 (bench s)
     let pf : BitVec 2 := 0
     let world : World := .holm
     let object : BitVec 16 := 0x3000
     let granted : Bool := true
     let fn : Fn := ⟨3, by decide⟩
     let h := advance t s
     let rq := pfReq pf world
     let a := passHeld pf.toNat (ownSelect (object.setWidth 32) (dropLatch rq h))
     let grant := ownSpell false granted fn.val
     let u (w : Word) : State := pairDone rq Reg.ISO_OWN_DATA w a
     let open_ (w : Word) : Prop := Plain rq Reg.ISO_OWN_IDX Reg.ISO_OWN_IDX h ∧ PairLands rq Reg.ISO_OWN_DATA w a
     let free (w : Word) : Prop := (u w).iso.change = none ∧ ownSelected (u w) = object.toNat ∧ objExists object.toNat = true ∧ followed object.toNat = none
     (open_ grant) ∧ ((free grant) ∧ ((holmOwned (u grant) object.toNat = false)))) ∧
    (let t : Tick := 5
     let s : State := made fun s => { (bench s : State) with iso := { (bench s : State).iso with change := some ⟨0x3001, true, ⟨true, false, 0⟩⟩ } }
     let pf : BitVec 2 := 0
     let world : World := .holm
     let object : BitVec 16 := 0x3000
     let granted : Bool := true
     let fn : Fn := ⟨3, by decide⟩
     let h := advance t s
     let rq := pfReq pf world
     let a := passHeld pf.toNat (ownSelect (object.setWidth 32) (dropLatch rq h))
     let grant := ownSpell false granted fn.val
     let u (w : Word) : State := pairDone rq Reg.ISO_OWN_DATA w a
     let open_ (w : Word) : Prop := Plain rq Reg.ISO_OWN_IDX Reg.ISO_OWN_IDX h ∧ PairLands rq Reg.ISO_OWN_DATA w a
     (open_ grant) ∧ ((u grant).iso.change ≠ none)) ∧
    (let t : Tick := 5
     let s : State := made fun s => { (bench s : State) with iso := { (bench s : State).iso with change := some ⟨0x3001, true, ⟨true, false, 0⟩⟩ } }
     let pf : BitVec 2 := 0
     let world : World := .holm
     let object : BitVec 16 := 0x3000
     let granted : Bool := true
     let fn : Fn := ⟨3, by decide⟩
     let h := advance t s
     let rq := pfReq pf world
     let a := passHeld pf.toNat (ownSelect (object.setWidth 32) (dropLatch rq h))
     let grant := ownSpell false granted fn.val
     let u (w : Word) : State := pairDone rq Reg.ISO_OWN_DATA w a
     let open_ (w : Word) : Prop := Plain rq Reg.ISO_OWN_IDX Reg.ISO_OWN_IDX h ∧ PairLands rq Reg.ISO_OWN_DATA w a
     (open_ grant) ∧ ((u grant).iso.change ≠ none)) ∧
    (let t : Tick := 5
     let s : State := made fun s => { (bench s : State) with iso := { (bench s : State).iso with change := some ⟨0x3001, false, ⟨true, false, 0⟩⟩ } }
     let pf : BitVec 2 := 0
     let world : World := .holm
     let object : BitVec 16 := 0x3000
     let h := advance t s
     let rq := pfReq pf world
     let a := passHeld pf.toNat (ownSelect (object.setWidth 32) (dropLatch rq h))
     let claim := ownSpell true false 0
     let u (w : Word) : State := pairDone rq Reg.ISO_OWN_DATA w a
     let open_ (w : Word) : Prop := Plain rq Reg.ISO_OWN_IDX Reg.ISO_OWN_IDX h ∧ PairLands rq Reg.ISO_OWN_DATA w a
     (open_ claim) ∧ ((u claim).iso.change ≠ none)) ∧
    (let t : Tick := 5
     let s : State := made fun s => bench s
     let pf : BitVec 2 := 0
     let world : World := .holm
     let object : BitVec 16 := 0x827F
     let granted : Bool := true
     let fn : Fn := ⟨3, by decide⟩
     let h := advance t s
     let rq := pfReq pf world
     let a := passHeld pf.toNat (ownSelect (object.setWidth 32) (dropLatch rq h))
     let grant := ownSpell false granted fn.val
     let u (w : Word) : State := pairDone rq Reg.ISO_OWN_DATA w a
     let open_ (w : Word) : Prop := Plain rq Reg.ISO_OWN_IDX Reg.ISO_OWN_IDX h ∧ PairLands rq Reg.ISO_OWN_DATA w a
     (open_ grant) ∧ ((u grant).iso.change = none ∧ ((ownSelected (u grant) = object.toNat) ∧ ((objExists object.toNat = true) ∧ ((followed object.toNat ≠ none)))))) ∧
    (let t : Tick := 5
     let s : State := made fun s => s
     let h := advance t s
     (h.iso.change = none)) ∧
    (let t : Tick := 5
     let s : State := made fun s => s
     let h := advance t s
     (h.iso.change = none)) ∧
    (let t : Tick := 5
     let s : State := made fun s => { (s : State) with iso := { (s : State).iso with change := some ⟨0x3001, false, ⟨true, false, 0⟩⟩ } }
     let h := advance t s
     let c := (⟨0x3001, false, ⟨true, false, 0⟩⟩ : OwnChange)
     (h.iso.change = some c) ∧ ((c.release = false))) ∧
    (let t : Tick := 5
     let s : State := made fun s => { (s : State) with iso := { (s : State).iso with change := some ⟨0x3001, false, ⟨true, false, 0⟩⟩ } }
     let h := advance t s
     let c := (⟨0x3001, false, ⟨true, false, 0⟩⟩ : OwnChange)
     (h.iso.change = some c) ∧ ((c.release = false))) ∧
    (let t : Tick := 5
     let s : State := made fun s => { (s : State) with iso := { (s : State).iso with change := some ⟨0x3001, true, ⟨true, false, 0⟩⟩ } }
     let h := advance t s
     let c := (⟨0x3001, true, ⟨true, false, 0⟩⟩ : OwnChange)
     (h.iso.change = some c) ∧ ((c.release = true))) ∧
    (let t : Tick := 5
     let s : State := made fun s => { (s : State) with iso := { (s : State).iso with change := some ⟨0x3001, true, ⟨true, false, 0⟩⟩ } }
     let h := advance t s
     let c := (⟨0x3001, true, ⟨true, false, 0⟩⟩ : OwnChange)
     (h.iso.change = some c) ∧ ((c.release = true))) :=
  ⟨⟨⟨plain_of (by decide +kernel), pairLands_of (by decide +kernel)⟩, by decide +kernel, by decide +kernel⟩,
    ⟨⟨plain_of (by decide +kernel), pairLands_of (by decide +kernel)⟩, by decide +kernel, by decide +kernel⟩,
    ⟨⟨plain_of (by decide +kernel), pairLands_of (by decide +kernel)⟩, by decide +kernel, by decide +kernel⟩,
    ⟨⟨plain_of (by decide +kernel), pairLands_of (by decide +kernel)⟩, by decide +kernel, by decide +kernel⟩,
    ⟨⟨plain_of (by decide +kernel), pairLands_of (by decide +kernel)⟩, by decide +kernel⟩,
    ⟨⟨plain_of (by decide +kernel), pairLands_of (by decide +kernel)⟩, by decide +kernel⟩,
    ⟨⟨plain_of (by decide +kernel), pairLands_of (by decide +kernel)⟩, by decide +kernel⟩,
    ⟨⟨plain_of (by decide +kernel), pairLands_of (by decide +kernel)⟩, by decide +kernel, by decide +kernel, by decide +kernel, by decide +kernel⟩,
    by decide +kernel,
    by decide +kernel,
    by decide +kernel,
    by decide +kernel,
    by decide +kernel,
    by decide +kernel⟩

theorem hypotheses_PairedWritesComplete :
    (let t : Tick := 5
     let s : State := made fun s => holmAt (Reg.TRV_CTRL) (bench (s))
     let pf : BitVec 2 := 0
     let world : World := .holm
     let h := advance t s
     let rq := pfReq pf world
     (PairLands rq Reg.TRV_CTRL 1 h)) ∧
    (let t : Tick := 5
     let s : State := made fun s => holmAt (Reg.TRV_CTRL) (bench (s))
     let pf : BitVec 2 := 0
     let world : World := .holm
     let h := advance t s
     let rq := pfReq pf world
     (PairLands rq Reg.TRV_CTRL 2 h)) ∧
    (let t : Tick := 5
     let s : State := made fun s => holmAt (Reg.TRV_CTRL) (bench (wrF Reg.TRV_STAT Fld.TRV_STAT_LAST_CLASS 1 ({ s with trv := { s.trv with lastBegan := 1 } })))
     let pf : BitVec 2 := 0
     let world : World := .holm
     let h := advance t s
     let rq := pfReq pf world
     let d (off : Nat) (v : Word) : State := pairDone rq off v h
     (PairLands rq Reg.TRV_CTRL 4 h) ∧ (let u := d Reg.TRV_CTRL 4
     let may := fld u Reg.TRV_STAT Fld.TRV_STAT_LAST_CLASS = 1 ∧ u.trv.rasterSetAt < u.trv.lastBegan
     (may))) ∧
    (let t : Tick := 5
     let s : State := made fun s => holmAt (Reg.TRV_CTRL) (bench (s))
     let pf : BitVec 2 := 0
     let world : World := .holm
     let h := advance t s
     let rq := pfReq pf world
     let d (off : Nat) (v : Word) : State := pairDone rq off v h
     (PairLands rq Reg.TRV_CTRL 4 h) ∧ (let u := d Reg.TRV_CTRL 4
     let may := fld u Reg.TRV_STAT Fld.TRV_STAT_LAST_CLASS = 1 ∧ u.trv.rasterSetAt < u.trv.lastBegan
     (¬ may))) ∧
    (let t : Tick := 5
     let s : State := made fun s => holmAt (Reg.TRV_CTRL) (bench (wrF Reg.TRV_STAT Fld.TRV_STAT_LAST_CLASS 1 ({ s with trv := { s.trv with lastBegan := 1 } })))
     let pf : BitVec 2 := 0
     let world : World := .holm
     let h := advance t s
     let rq := pfReq pf world
     let d (off : Nat) (v : Word) : State := pairDone rq off v h
     (PairLands rq Reg.TRV_CTRL 8 h) ∧ (let u := d Reg.TRV_CTRL 8
     let may := fld u Reg.TRV_STAT Fld.TRV_STAT_LAST_CLASS = 1 ∧ u.trv.travSetAt < u.trv.lastBegan
     (may))) ∧
    (let t : Tick := 5
     let s : State := made fun s => holmAt (Reg.TRV_CTRL) (bench (s))
     let pf : BitVec 2 := 0
     let world : World := .holm
     let h := advance t s
     let rq := pfReq pf world
     let d (off : Nat) (v : Word) : State := pairDone rq off v h
     (PairLands rq Reg.TRV_CTRL 8 h) ∧ (let u := d Reg.TRV_CTRL 8
     let may := fld u Reg.TRV_STAT Fld.TRV_STAT_LAST_CLASS = 1 ∧ u.trv.travSetAt < u.trv.lastBegan
     (¬ may))) ∧
    (let t : Tick := 5
     let s : State := made fun s => holmAt (Reg.CRL_RECOVER 7) (bench (s))
     let pf : BitVec 2 := 0
     let world : World := .holm
     let h := advance t s
     let rq := pfReq pf world
     let n : BitVec 3 := 7
     (PairLands rq (Reg.CRL_RECOVER n.toNat) 1 h)) ∧
    (let t : Tick := 5
     let s : State := made fun s => holmAt (Reg.RST_REQ) (bench (s))
     let pf : BitVec 2 := 0
     let world : World := .holm
     let h := advance t s
     let rq := pfReq pf world
     (PairLands rq Reg.RST_REQ 1 h)) ∧
    (let t : Tick := 5
     let s : State := made fun s => holmAt (Reg.RST_BLK) (bench (s))
     let pf : BitVec 2 := 0
     let world : World := .holm
     let h := advance t s
     let rq := pfReq pf world
     let d (off : Nat) (v : Word) : State := pairDone rq off v h
     let g : BitVec 16 := 0xFFFF
     (PairLands rq Reg.RST_BLK (g.setWidth 32) h) ∧ (let u := d Reg.RST_BLK (g.setWidth 32)
     (resettable u g.toNat = false))) ∧
    (let t : Tick := 5
     let s : State := made fun s => holmAt (Reg.RST_BLK) (bench (s))
     let pf : BitVec 2 := 0
     let world : World := .holm
     let h := advance t s
     let rq := pfReq pf world
     let d (off : Nat) (v : Word) : State := pairDone rq off v h
     let g : BitVec 16 := 0x67
     (PairLands rq Reg.RST_BLK (g.setWidth 32) h) ∧ (let u := d Reg.RST_BLK (g.setWidth 32)
     (resettable u g.toNat = true))) ∧
    (let t : Tick := 5
     let s : State := made fun s => holmAt (Reg.RST_WD_SVC) (bench (s))
     let pf : BitVec 2 := 0
     let world : World := .holm
     let h := advance t s
     let rq := pfReq pf world
     let d (off : Nat) (v : Word) : State := pairDone rq off v h
     let v : Word := 0
     (PairLands rq Reg.RST_WD_SVC v h) ∧ (let u := d Reg.RST_WD_SVC v
     (wdRunning u = false))) ∧
    (let t : Tick := 5
     let s : State := made fun s => holmAt (Reg.RST_WD_SVC) (bench (wrF Reg.RST_WD_CTRL Fld.RST_WD_CTRL_MIN 1 (wrF Reg.RST_WD_CTRL Fld.RST_WD_CTRL_MAX 2 (wrB Reg.RST_WD_STAT Fld.RST_WD_STAT_RUNNING true (s)))))
     let pf : BitVec 2 := 0
     let world : World := .holm
     let h := advance t s
     let rq := pfReq pf world
     let d (off : Nat) (v : Word) : State := pairDone rq off v h
     let v : Word := 0
     (PairLands rq Reg.RST_WD_SVC v h) ∧ (let u := d Reg.RST_WD_SVC v
     (wdRunning u = true) ∧ ((wdDumping u = false) ∧ ((u.gtb < (wdWindow u).1))))) ∧
    (let t : Tick := 131072
     let s : State := made fun s => holmAt (Reg.RST_WD_SVC) (bench (wrF Reg.RST_WD_CTRL Fld.RST_WD_CTRL_MIN 1 (wrF Reg.RST_WD_CTRL Fld.RST_WD_CTRL_MAX 2 (wrB Reg.RST_WD_STAT Fld.RST_WD_STAT_RUNNING true (s)))))
     let pf : BitVec 2 := 0
     let world : World := .holm
     let h := advance t s
     let rq := pfReq pf world
     let d (off : Nat) (v : Word) : State := pairDone rq off v h
     let v : Word := 0
     (PairLands rq Reg.RST_WD_SVC v h) ∧ (let u := d Reg.RST_WD_SVC v
     (wdRunning u = true) ∧ ((wdDumping u = false) ∧ ((wdWindow u).1 ≤ u.gtb ∧ ((wdWindow u).2 ≤ u.gtb))))) ∧
    (let t : Tick := 65536
     let s : State := made fun s => holmAt (Reg.RST_WD_SVC) (bench (wrF Reg.RST_WD_CTRL Fld.RST_WD_CTRL_MIN 1 (wrF Reg.RST_WD_CTRL Fld.RST_WD_CTRL_MAX 2 (wrB Reg.RST_WD_STAT Fld.RST_WD_STAT_RUNNING true (s)))))
     let pf : BitVec 2 := 0
     let world : World := .holm
     let h := advance t s
     let rq := pfReq pf world
     let d (off : Nat) (v : Word) : State := pairDone rq off v h
     let v : Word := 0
     (PairLands rq Reg.RST_WD_SVC v h) ∧ (let u := d Reg.RST_WD_SVC v
     (wdRunning u = true) ∧ ((wdDumping u = false) ∧ ((wdWindow u).1 ≤ u.gtb ∧ ((u.gtb < (wdWindow u).2)))))) ∧
    (let t : Tick := 5
     let s : State := made fun s => holmAt (Reg.REG_CRC_COMMIT) (bench (s))
     let pf : BitVec 2 := 0
     let world : World := .holm
     let h := advance t s
     let rq := pfReq pf world
     (PairLands rq Reg.REG_CRC_COMMIT 1 h)) ∧
    (let t : Tick := 5
     let s : State := made fun s => holmAt (Reg.REG_CRC_RESYNC) (bench (s))
     let pf : BitVec 2 := 0
     let world : World := .holm
     let h := advance t s
     let rq := pfReq pf world
     let g : Byte := 255
     (PairLands rq Reg.REG_CRC_RESYNC (g.setWidth 32) h)) :=
  ⟨pairLands_of (by decide +kernel),
    pairLands_of (by decide +kernel),
    ⟨pairLands_of (by decide +kernel), by decide +kernel⟩,
    ⟨pairLands_of (by decide +kernel), by decide +kernel⟩,
    ⟨pairLands_of (by decide +kernel), by decide +kernel⟩,
    ⟨pairLands_of (by decide +kernel), by decide +kernel⟩,
    pairLands_of (by decide +kernel),
    pairLands_of (by decide +kernel),
    ⟨pairLands_of (by decide +kernel), by decide +kernel⟩,
    ⟨pairLands_of (by decide +kernel), by decide +kernel⟩,
    ⟨pairLands_of (by decide +kernel), by decide +kernel⟩,
    ⟨pairLands_of (by decide +kernel), by decide +kernel, by decide +kernel, by decide +kernel⟩,
    ⟨pairLands_of (by decide +kernel), by decide +kernel, by decide +kernel, by decide +kernel, by decide +kernel⟩,
    ⟨pairLands_of (by decide +kernel), by decide +kernel, by decide +kernel, by decide +kernel, by decide +kernel⟩,
    pairLands_of (by decide +kernel),
    pairLands_of (by decide +kernel)⟩

theorem hypotheses_ControlWritesComplete :
    (let t : Tick := 5
     let s : State := made fun s => holmAt (Reg.ISO_DBG) (bench (s))
     let pf : BitVec 2 := 0
     let world : World := .holm
     let h := advance t s
     let rq := pfReq pf world
     let z := dropLatch rq h
     let at_ (off : Nat) : Prop := Plain rq off off h
     let en : BitVec 4 := 0
     (at_ Reg.ISO_DBG) ∧ (let old := (rd z Reg.ISO_DBG).toNat
     let new := dbgAfterClear old en.toNat
     (new = old))) ∧
    (let t : Tick := 5
     let s : State := made fun s => holmAt (Reg.ISO_DBG) (bench (wr Reg.ISO_DBG 15 s))
     let pf : BitVec 2 := 0
     let world : World := .holm
     let h := advance t s
     let rq := pfReq pf world
     let z := dropLatch rq h
     let at_ (off : Nat) : Prop := Plain rq off off h
     let en : BitVec 4 := 15
     (at_ Reg.ISO_DBG) ∧ (let old := (rd z Reg.ISO_DBG).toNat
     let new := dbgAfterClear old en.toNat
     (new ≠ old))) ∧
    (let t : Tick := 5
     let s : State := made fun s => holmAt (Reg.DRC_CO_LOCK) (bench (s))
     let pf : BitVec 2 := 0
     let world : World := .holm
     let h := advance t s
     let rq := pfReq pf world
     let z := dropLatch rq h
     let at_ (off : Nat) : Prop := Plain rq off off h
     (at_ Reg.DRC_CO_LOCK) ∧ ((flg z Reg.DRC_CO_LOCK Fld.DRC_CO_LOCK_LOCK = false))) ∧
    (let t : Tick := 5
     let s : State := made fun s => holmAt (Reg.TRV_ARMn 7) (bench (s))
     let pf : BitVec 2 := 0
     let world : World := .holm
     let h := advance t s
     let rq := pfReq pf world
     let at_ (off : Nat) : Prop := Plain rq off off h
     let n : BitVec 3 := 7
     (at_ (Reg.TRV_ARMn n.toNat))) ∧
    (let t : Tick := 5
     let s : State := made fun s => holmAt (Reg.TRV_ARMn 7) (bench (s))
     let pf : BitVec 2 := 0
     let world : World := .holm
     let h := advance t s
     let rq := pfReq pf world
     let at_ (off : Nat) : Prop := Plain rq off off h
     let n : BitVec 3 := 7
     (at_ (Reg.TRV_ARMn n.toNat))) ∧
    (let t : Tick := 5
     let s : State := made fun s => s
     let h := advance t s
     let r : Requester := ⟨⟨4, by decide⟩, .mainland⟩
     let n : BitVec 3 := 7
     let l : Fin 9 := 8
     let i := 9 * n.toNat + l.val
     (layerWindow h r.fn.val i = none)) ∧
    (let t : Tick := 5
     let s : State := made fun s => holmHas 0x2047 (bench s)
     let h := advance t s
     let r : Requester := ⟨⟨0, by decide⟩, .holm⟩
     let n : BitVec 3 := 7
     let l : Fin 9 := 8
     let i := 9 * n.toNat + l.val
     let b := layerBase 71
     (layerWindow h r.fn.val i = some b) ∧ ((Plain r (b + 0xA0) (layerBase i + 0xA0) h))) ∧
    (let t : Tick := 5
     let s : State := made fun s => holmAt (Reg.VIN_CTRL 3) (bench (wrF (Reg.VIN_LIMIT0 3) Fld.VIN_LIMIT0_MAX_W 8191 (wrF (Reg.VIN_LIMIT0 3) Fld.VIN_LIMIT0_MAX_H 8191 (wrF (Reg.VIN_LIMIT1 3) Fld.VIN_LIMIT1_MAX_RATE 1000 (s)))))
     let pf : BitVec 2 := 0
     let world : World := .holm
     let h := advance t s
     let rq := pfReq pf world
     let z := dropLatch rq h
     let at_ (off : Nat) : Prop := Plain rq off off h
     let v : BitVec 2 := 3
     let value : Word := BitVec.ofNat 32 (packF Fld.VIN_CTRL_CAPFMT 1)
     let r := Reg.VIN_CTRL v.toNat
     let y := plainWrite r (setB (setB value Fld.VIN_CTRL_ENABLE true) Fld.VIN_CTRL_ENABLE false) z
     (at_ r) ∧ ((flg z r Fld.VIN_CTRL_ENABLE = false) ∧ ((vinRefused y v.toNat = true)))) ∧
    (let t : Tick := 5
     let s : State := made fun s => holmAt (Reg.VIN_CTRL 3) (bench (s))
     let pf : BitVec 2 := 0
     let world : World := .holm
     let h := advance t s
     let rq := pfReq pf world
     let z := dropLatch rq h
     let at_ (off : Nat) : Prop := Plain rq off off h
     let v : BitVec 2 := 3
     let value : Word := 0
     let r := Reg.VIN_CTRL v.toNat
     let y := plainWrite r (setB (setB value Fld.VIN_CTRL_ENABLE true) Fld.VIN_CTRL_ENABLE false) z
     (at_ r) ∧ ((flg z r Fld.VIN_CTRL_ENABLE = false) ∧ ((vinRefused y v.toNat = false)))) ∧
    (let t : Tick := 5
     let s : State := made fun s => holmAt (Reg.LNK_TXg_SB_CTRL 7) (bench (s))
     let pf : BitVec 2 := 0
     let world : World := .holm
     let h := advance t s
     let rq := pfReq pf world
     let at_ (off : Nat) : Prop := Plain rq off off h
     let n : BitVec 3 := 7
     let off := Reg.LNK_TXg_SB_CTRL n.toNat
     (at_ off)) ∧
    (let t : Tick := 5
     let s : State := made fun s => holmAt (Reg.LNK_TXg_SB_CTRL 7) (bench (s))
     let pf : BitVec 2 := 0
     let world : World := .holm
     let h := advance t s
     let rq := pfReq pf world
     let at_ (off : Nat) : Prop := Plain rq off off h
     let n : BitVec 3 := 7
     let off := Reg.LNK_TXg_SB_CTRL n.toNat
     (at_ off)) ∧
    (let t : Tick := 5
     let s : State := made fun s => holmAt (Reg.LNK_TXg_SB_CTRL 7) (bench (s))
     let pf : BitVec 2 := 0
     let world : World := .holm
     let h := advance t s
     let rq := pfReq pf world
     let at_ (off : Nat) : Prop := Plain rq off off h
     let n : BitVec 3 := 7
     let off := Reg.LNK_TXg_SB_CTRL n.toNat
     (at_ off)) ∧
    (let t : Tick := 5
     let s : State := made fun s => holmAt (Reg.LNK_TXg_SB_CTRL 7) (bench (s))
     let pf : BitVec 2 := 0
     let world : World := .holm
     let h := advance t s
     let rq := pfReq pf world
     let at_ (off : Nat) : Prop := Plain rq off off h
     let n : BitVec 3 := 7
     let off := Reg.LNK_TXg_SB_CTRL n.toNat
     (at_ off)) ∧
    (let t : Tick := 5
     let s : State := made fun s => holmAt (Reg.LNK_TXg_SB_CTRL 7) (bench (s))
     let pf : BitVec 2 := 0
     let world : World := .holm
     let h := advance t s
     let rq := pfReq pf world
     let at_ (off : Nat) : Prop := Plain rq off off h
     let n : BitVec 3 := 7
     let off := Reg.LNK_TXg_SB_CTRL n.toNat
     (at_ off)) ∧
    (let t : Tick := 5
     let s : State := made fun s => holmAt (Reg.LNK_TXg_SB_CTRL 7) (bench (s))
     let pf : BitVec 2 := 0
     let world : World := .holm
     let h := advance t s
     let rq := pfReq pf world
     let at_ (off : Nat) : Prop := Plain rq off off h
     let n : BitVec 3 := 7
     let off := Reg.LNK_TXg_SB_CTRL n.toNat
     (at_ off)) ∧
    (let t : Tick := 5
     let s : State := made fun s => holmAt (Reg.LNK_TXg_SB_CTRL 7) (bench (s))
     let pf : BitVec 2 := 0
     let world : World := .holm
     let h := advance t s
     let rq := pfReq pf world
     let at_ (off : Nat) : Prop := Plain rq off off h
     let n : BitVec 3 := 7
     let off := Reg.LNK_TXg_SB_CTRL n.toNat
     (at_ off)) ∧
    (let t : Tick := 5
     let s : State := made fun s => holmAt (Reg.LNK_TXg_SB_CTRL 7) (bench (setTx 7 (fun x => { x with sb := some ⟨1, 4, 0⟩ }) s))
     let pf : BitVec 2 := 0
     let world : World := .holm
     let h := advance t s
     let rq := pfReq pf world
     let z := dropLatch rq h
     let at_ (off : Nat) : Prop := Plain rq off off h
     let n : BitVec 3 := 7
     let len : BitVec 5 := 16
     let addr : BitVec 20 := 0x50
     let off := Reg.LNK_TXg_SB_CTRL n.toNat
     let y (cmd : Nat) : State := plainWrite off (BitVec.ofNat 32 (packF Fld.LNK_TXg_SB_CTRL_START 1 + packF Fld.LNK_TXg_SB_CTRL_CMD cmd + packF Fld.LNK_TXg_SB_CTRL_LEN len.toNat + packF Fld.LNK_TXg_SB_CTRL_ADDR addr.toNat)) z
     (at_ off) ∧ (let cmd := (6 : Nat)
     (cmd < 7) ∧ ((txSt (y cmd) n.toNat).sb ≠ none))) ∧
    (let t : Tick := 5
     let s : State := made fun s => holmAt (Reg.RST_WD_CTRL) (bench (wrB Reg.RST_WD_CTRL Fld.RST_WD_CTRL_EN true (s)))
     let pf : BitVec 2 := 0
     let world : World := .holm
     let h := advance t s
     let rq := pfReq pf world
     let z := dropLatch rq h
     let at_ (off : Nat) : Prop := Plain rq off off h
     (at_ Reg.RST_WD_CTRL) ∧ ((flg z Reg.RST_WD_CTRL Fld.RST_WD_CTRL_EN = true))) ∧
    (let t : Tick := 5
     let s : State := made fun s => holmAt (Reg.RST_WD_CTRL) (bench (s))
     let pf : BitVec 2 := 0
     let world : World := .holm
     let h := advance t s
     let rq := pfReq pf world
     let z := dropLatch rq h
     let at_ (off : Nat) : Prop := Plain rq off off h
     (at_ Reg.RST_WD_CTRL) ∧ ((flg z Reg.RST_WD_CTRL Fld.RST_WD_CTRL_EN = false))) ∧
    (let t : Tick := 5
     let s : State := made fun s => holmAt (Reg.REG_DUMP_CTRL) (bench (s))
     let pf : BitVec 2 := 0
     let world : World := .holm
     let h := advance t s
     let rq := pfReq pf world
     let at_ (off : Nat) : Prop := Plain rq off off h
     let k : BitVec 3 := 5
     (at_ Reg.REG_DUMP_CTRL) ∧ ((3 ≤ k.toNat) ∧ ((k.toNat ≤ 5)))) ∧
    (let t : Tick := 5
     let s : State := made fun s => holmAt (Reg.REG_DUMP_CTRL) (bench (s))
     let pf : BitVec 2 := 0
     let world : World := .holm
     let h := advance t s
     let rq := pfReq pf world
     let at_ (off : Nat) : Prop := Plain rq off off h
     let k : BitVec 3 := 6
     (at_ Reg.REG_DUMP_CTRL) ∧ ((k.toNat < 3 ∨ 5 < k.toNat))) ∧
    (let t : Tick := 5
     let s : State := made fun s => holmAt (Reg.REG_DUMP_CTRL) (bench (s))
     let pf : BitVec 2 := 0
     let world : World := .holm
     let h := advance t s
     let rq := pfReq pf world
     let at_ (off : Nat) : Prop := Plain rq off off h
     (at_ Reg.REG_DUMP_CTRL)) :=
  ⟨⟨plain_of (by decide +kernel), by decide +kernel⟩,
    ⟨plain_of (by decide +kernel), by decide +kernel⟩,
    ⟨plain_of (by decide +kernel), by decide +kernel⟩,
    plain_of (by decide +kernel),
    plain_of (by decide +kernel),
    by decide +kernel,
    ⟨by decide +kernel, plain_of (by decide +kernel)⟩,
    ⟨plain_of (by decide +kernel), by decide +kernel, by decide +kernel⟩,
    ⟨plain_of (by decide +kernel), by decide +kernel, by decide +kernel⟩,
    plain_of (by decide +kernel),
    plain_of (by decide +kernel),
    plain_of (by decide +kernel),
    plain_of (by decide +kernel),
    plain_of (by decide +kernel),
    plain_of (by decide +kernel),
    plain_of (by decide +kernel),
    ⟨plain_of (by decide +kernel), by decide +kernel, by decide +kernel⟩,
    ⟨plain_of (by decide +kernel), by decide +kernel⟩,
    ⟨plain_of (by decide +kernel), by decide +kernel⟩,
    ⟨plain_of (by decide +kernel), by decide +kernel, by decide +kernel⟩,
    ⟨plain_of (by decide +kernel), by decide +kernel⟩,
    plain_of (by decide +kernel)⟩

theorem hypotheses_UnitWritesComplete :
    (let t : Tick := 5
     let s : State := made fun s => holmAt (Reg.TCH_Sk_CTRL 7) (bench (wrB (Reg.TCH_Sk_CTRL 7) Fld.TCH_Sk_CTRL_ENABLE true (s)))
     let pf : BitVec 2 := 0
     let world : World := .holm
     let h := advance t s
     let rq := pfReq pf world
     let z := dropLatch rq h
     let at_ (off : Nat) : Prop := Plain rq off off h
     let k : BitVec 3 := 7
     let r := Reg.TCH_Sk_CTRL k.toNat
     let old := rd z r
     (at_ r) ∧ ((getB old Fld.TCH_Sk_CTRL_ENABLE = true))) ∧
    (let t : Tick := 5
     let s : State := made fun s => holmAt (Reg.TCH_Sk_CTRL 7) (bench (s))
     let pf : BitVec 2 := 0
     let world : World := .holm
     let value : Word := 0
     let h := advance t s
     let rq := pfReq pf world
     let z := dropLatch rq h
     let at_ (off : Nat) : Prop := Plain rq off off h
     let k : BitVec 3 := 7
     let r := Reg.TCH_Sk_CTRL k.toNat
     let old := rd z r
     let w := setB value Fld.TCH_Sk_CTRL_ENABLE true
     let y := wr r (setB (setB old Fld.TCH_Sk_CTRL_LP_EN (getB w Fld.TCH_Sk_CTRL_LP_EN)) Fld.TCH_Sk_CTRL_KIND (getB w Fld.TCH_Sk_CTRL_KIND)) z
     let e := sensorCheck y k.toNat w
     (at_ r) ∧ ((getB old Fld.TCH_Sk_CTRL_ENABLE = false) ∧ ((e ≠ 0)))) ∧
    (let t : Tick := 5
     let s : State := made fun s => holmAt (Reg.TCH_Sk_CTRL 7) (bench (wrF (Reg.TCH_Sk_GEOM 7) Fld.TCH_Sk_GEOM_COLS 3 (wrF (Reg.TCH_Sk_GEOM 7) Fld.TCH_Sk_GEOM_ROWS 3 (wrF (Reg.TCH_Sk_MEAS 7) Fld.TCH_Sk_MEAS_XFER 4 (wrF (Reg.TCH_Sk_MEAS 7) Fld.TCH_Sk_MEAS_MAX_COUNT 64 (wrF (Reg.TCH_Sk_PERIOD 7) Fld.TCH_Sk_PERIOD_PERIOD 8334 (wrF (Reg.TCH_Sk_PERIOD 7) Fld.TCH_Sk_PERIOD_LP_PERIOD 10 (wrF (Reg.TCH_Sk_THR 7) Fld.TCH_Sk_THR_T_ON 2 (wrF (Reg.TCH_Sk_THR 7) Fld.TCH_Sk_THR_T_OFF 1 (wrF (Reg.TCH_Sk_THR2 7) Fld.TCH_Sk_THR2_LP_WAKE 1 (wrF (Reg.TCH_Sk_PERIOD 7) Fld.TCH_Sk_PERIOD_GANG 0 (s))))))))))))
     let pf : BitVec 2 := 0
     let world : World := .holm
     let value : Word := 0
     let h := advance t s
     let rq := pfReq pf world
     let z := dropLatch rq h
     let at_ (off : Nat) : Prop := Plain rq off off h
     let k : BitVec 3 := 7
     let r := Reg.TCH_Sk_CTRL k.toNat
     let old := rd z r
     let w := setB value Fld.TCH_Sk_CTRL_ENABLE true
     let y := wr r (setB (setB old Fld.TCH_Sk_CTRL_LP_EN (getB w Fld.TCH_Sk_CTRL_LP_EN)) Fld.TCH_Sk_CTRL_KIND (getB w Fld.TCH_Sk_CTRL_KIND)) z
     let e := sensorCheck y k.toNat w
     (at_ r) ∧ ((getB old Fld.TCH_Sk_CTRL_ENABLE = false) ∧ ((e = 0)))) ∧
    (let t : Tick := 5
     let s : State := made fun s => holmAt (Reg.HAP_Cn_CTRL 15) (bench (wrB (Reg.HAP_Cn_CTRL 15) Fld.HAP_Cn_CTRL_ENABLE true (s)))
     let pf : BitVec 2 := 0
     let world : World := .holm
     let h := advance t s
     let rq := pfReq pf world
     let z := dropLatch rq h
     let at_ (off : Nat) : Prop := Plain rq off off h
     let n : BitVec 4 := 15
     let r := Reg.HAP_Cn_CTRL n.toNat
     (at_ r) ∧ ((flg z r Fld.HAP_Cn_CTRL_ENABLE = true))) ∧
    (let t : Tick := 5
     let s : State := made fun s => holmAt (Reg.HAP_Cn_CTRL 15) (bench (s))
     let pf : BitVec 2 := 0
     let world : World := .holm
     let value : Word := 0
     let h := advance t s
     let rq := pfReq pf world
     let z := dropLatch rq h
     let at_ (off : Nat) : Prop := Plain rq off off h
     let n : BitVec 4 := 15
     let r := Reg.HAP_Cn_CTRL n.toNat
     let w := setB value Fld.HAP_Cn_CTRL_ENABLE true
     let a := wrB r Fld.HAP_Cn_CTRL_AUTO_CAL (getB w Fld.HAP_Cn_CTRL_AUTO_CAL) z
     let y := wrB r Fld.HAP_Cn_CTRL_KIND (getB w Fld.HAP_Cn_CTRL_KIND) a
     let e := hapCheck y n.toNat w
     (at_ r) ∧ ((flg z r Fld.HAP_Cn_CTRL_ENABLE = false) ∧ ((e ≠ 0)))) ∧
    (let t : Tick := 5
     let s : State := made fun s => holmAt (Reg.HAP_Cn_CTRL 15) (bench (wrF (Reg.HAP_Cn_BUDGET 15) Fld.HAP_Cn_BUDGET_BUDGET 0 (wrF (Reg.HAP_Cn_CAL1 15) Fld.HAP_Cn_CAL1_CAL_LEVEL 1 (wrF (Reg.HAP_Cn_CAL0 15) Fld.HAP_Cn_CAL0_F_HI 500 (wrF (Reg.HAP_Cn_CAL0 15) Fld.HAP_Cn_CAL0_F_LO 50 (wrF (Reg.HAP_Cn_BRAKE 15) Fld.HAP_Cn_BRAKE_BRAKE_STOP 1 (wrF (Reg.HAP_Cn_LIMIT 15) Fld.HAP_Cn_LIMIT_I_LIMIT 1 (wrF (Reg.HAP_Cn_LIMIT 15) Fld.HAP_Cn_LIMIT_ON_MAX 1 (wrF (Reg.HAP_Cn_PWM 15) Fld.HAP_Cn_PWM_PWM_DIV 500 (wrF (Reg.HAP_Cn_SUPPLY 15) Fld.HAP_Cn_SUPPLY_V_MAX 1000 (wrF (Reg.HAP_Cn_SUPPLY 15) Fld.HAP_Cn_SUPPLY_V_SUPPLY 1000 (s))))))))))))
     let pf : BitVec 2 := 0
     let world : World := .holm
     let value : Word := 0
     let h := advance t s
     let rq := pfReq pf world
     let z := dropLatch rq h
     let at_ (off : Nat) : Prop := Plain rq off off h
     let n : BitVec 4 := 15
     let r := Reg.HAP_Cn_CTRL n.toNat
     let w := setB value Fld.HAP_Cn_CTRL_ENABLE true
     let a := wrB r Fld.HAP_Cn_CTRL_AUTO_CAL (getB w Fld.HAP_Cn_CTRL_AUTO_CAL) z
     let y := wrB r Fld.HAP_Cn_CTRL_KIND (getB w Fld.HAP_Cn_CTRL_KIND) a
     let e := hapCheck y n.toNat w
     (at_ r) ∧ ((flg z r Fld.HAP_Cn_CTRL_ENABLE = false) ∧ ((e = 0)))) ∧
    (let t : Tick := 5
     let s : State := made fun s => holmAt (Reg.AUD_TDMn_FMT 7) (bench (s))
     let pf : BitVec 2 := 0
     let world : World := .holm
     let h := advance t s
     let rq := pfReq pf world
     let at_ (off : Nat) : Prop := Plain rq off off h
     let n : BitVec 3 := 7
     (at_ (Reg.AUD_TDMn_FMT n.toNat))) ∧
    (let t : Tick := 5
     let s : State := made fun s => holmAt (Reg.AUD_Kk_CTRL 9) (bench (s))
     let pf : BitVec 2 := 0
     let world : World := .holm
     let h := advance t s
     let rq := pfReq pf world
     let at_ (off : Nat) : Prop := Plain rq off off h
     let k : Fin 11 := 9
     (at_ (Reg.AUD_Kk_CTRL k.val))) ∧
    (let t : Tick := 5
     let s : State := made fun s => holmAt (Reg.AUD_Kk_CTRL 10) (bench (s))
     let pf : BitVec 2 := 0
     let world : World := .holm
     let h := advance t s
     let rq := pfReq pf world
     let at_ (off : Nat) : Prop := Plain rq off off h
     (at_ (Reg.AUD_Kk_CTRL 10))) ∧
    (let t : Tick := 5
     let s : State := made fun s => holmAt (Reg.AUD_ATT_CTRL) (bench (s))
     let pf : BitVec 2 := 0
     let world : World := .holm
     let h := advance t s
     let rq := pfReq pf world
     let at_ (off : Nat) : Prop := Plain rq off off h
     (at_ Reg.AUD_ATT_CTRL)) ∧
    (let t : Tick := 5
     let s : State := made fun s => holmAt (Reg.AUD_ATT_CTRL) (bench (s))
     let pf : BitVec 2 := 0
     let world : World := .holm
     let h := advance t s
     let rq := pfReq pf world
     let at_ (off : Nat) : Prop := Plain rq off off h
     (at_ Reg.AUD_ATT_CTRL)) ∧
    (let t : Tick := 5
     let s : State := made fun s => holmAt (Reg.DMA_Cn_CTRL 127) (bench (s))
     let pf : BitVec 2 := 0
     let world : World := .holm
     let value : Word := BitVec.ofNat 32 (packF Fld.DMA_Cn_CTRL_ENABLE 1 + packF Fld.DMA_Cn_CTRL_START 1)
     let h := advance t s
     let rq := pfReq pf world
     let at_ (off : Nat) : Prop := Plain rq off off h
     let n : BitVec 7 := 127
     let r := Reg.DMA_Cn_CTRL n.toNat
     (at_ r) ∧ ((getB value Fld.DMA_Cn_CTRL_ENABLE = true) ∧ ((getB value Fld.DMA_Cn_CTRL_STOP = false)))) ∧
    (let t : Tick := 5
     let s : State := made fun s => holmAt (Reg.DMA_Cn_CTRL 127) (bench (s))
     let pf : BitVec 2 := 0
     let world : World := .holm
     let value : Word := BitVec.ofNat 32 (packF Fld.DMA_Cn_CTRL_ENABLE 1 + packF Fld.DMA_Cn_CTRL_STOP 1)
     let h := advance t s
     let rq := pfReq pf world
     let at_ (off : Nat) : Prop := Plain rq off off h
     let n : BitVec 7 := 127
     let r := Reg.DMA_Cn_CTRL n.toNat
     (at_ r) ∧ ((getB value Fld.DMA_Cn_CTRL_ENABLE = true) ∧ ((getB value Fld.DMA_Cn_CTRL_START = false)))) ∧
    (let t : Tick := 5
     let s : State := made fun s => holmAt (Reg.DMA_Cn_CTRL 127) (bench (s))
     let pf : BitVec 2 := 0
     let world : World := .holm
     let value : Word := 0
     let h := advance t s
     let rq := pfReq pf world
     let at_ (off : Nat) : Prop := Plain rq off off h
     let n : BitVec 7 := 127
     let r := Reg.DMA_Cn_CTRL n.toNat
     (at_ r) ∧ ((getB value Fld.DMA_Cn_CTRL_START = false) ∧ ((getB value Fld.DMA_Cn_CTRL_STOP = false)))) ∧
    (let t : Tick := 5
     let s : State := made fun s => holmAt (Reg.DMA_RATEn 127) (bench (s))
     let pf : BitVec 2 := 0
     let world : World := .holm
     let value : Word := 0
     let h := advance t s
     let rq := pfReq pf world
     let z := dropLatch rq h
     let at_ (off : Nat) : Prop := Plain rq off off h
     let n : BitVec 7 := 127
     (at_ (Reg.DMA_RATEn n.toNat)) ∧ (let r := Reg.DMA_RATEn n.toNat
     let old := fld z r Fld.DMA_RATEn_RATE
     let new := getF value Fld.DMA_RATEn_RATE
     let bad := new = 0 ∨ 320 < new ∨ 320 < rateSum z - old + new ∨ (new < old ∧ contractsOn z .dma n.toNat ≠ [])
     (bad))) ∧
    (let t : Tick := 5
     let s : State := made fun s => holmAt (Reg.DMA_RATEn 127) (bench (s))
     let pf : BitVec 2 := 0
     let world : World := .holm
     let value : Word := 1
     let h := advance t s
     let rq := pfReq pf world
     let z := dropLatch rq h
     let at_ (off : Nat) : Prop := Plain rq off off h
     let n : BitVec 7 := 127
     (at_ (Reg.DMA_RATEn n.toNat)) ∧ (let r := Reg.DMA_RATEn n.toNat
     let old := fld z r Fld.DMA_RATEn_RATE
     let new := getF value Fld.DMA_RATEn_RATE
     let bad := new = 0 ∨ 320 < new ∨ 320 < rateSum z - old + new ∨ (new < old ∧ contractsOn z .dma n.toNat ≠ [])
     (¬ bad))) ∧
    (let t : Tick := 5
     let s : State := made fun s => holmAt (Reg.CV_Un_CTRL 3) (bench (s))
     let pf : BitVec 2 := 0
     let world : World := .holm
     let value : Word := 0
     let h := advance t s
     let rq := pfReq pf world
     let z := dropLatch rq h
     let at_ (off : Nat) : Prop := Plain rq off off h
     let u : BitVec 2 := 3
     (at_ (Reg.CV_Un_CTRL u.toNat)) ∧ (let w := setB value Fld.CV_Un_CTRL_GO true
     let e := goError z u.toNat w
     (getB value Fld.CV_Un_CTRL_PAUSE = false) ∧ ((e ≠ 0)))) ∧
    (let t : Tick := 5
     let s : State := made fun s => holmAt (Reg.CV_Un_CTRL 3) (bench (wrF (Reg.CV_Un_LEN 3) Fld.CV_Un_LEN_LEN 64 (s)))
     let pf : BitVec 2 := 0
     let world : World := .holm
     let value : Word := BitVec.ofNat 32 (packF Fld.CV_Un_CTRL_INIT 1)
     let h := advance t s
     let rq := pfReq pf world
     let z := dropLatch rq h
     let at_ (off : Nat) : Prop := Plain rq off off h
     let u : BitVec 2 := 3
     (at_ (Reg.CV_Un_CTRL u.toNat)) ∧ (let w := setB value Fld.CV_Un_CTRL_GO true
     let e := goError z u.toNat w
     (getB value Fld.CV_Un_CTRL_PAUSE = false) ∧ ((e = 0)))) ∧
    (let t : Tick := 5
     let s : State := made fun s => holmAt (Reg.CV_Un_CTRL 3) (bench (s))
     let pf : BitVec 2 := 0
     let world : World := .holm
     let value : Word := 0
     let h := advance t s
     let rq := pfReq pf world
     let at_ (off : Nat) : Prop := Plain rq off off h
     let u : BitVec 2 := 3
     (at_ (Reg.CV_Un_CTRL u.toNat)) ∧ ((getB value Fld.CV_Un_CTRL_GO = false))) :=
  ⟨⟨plain_of (by decide +kernel), by decide +kernel⟩,
    ⟨plain_of (by decide +kernel), by decide +kernel, by decide +kernel⟩,
    ⟨plain_of (by decide +kernel), by decide +kernel, by decide +kernel⟩,
    ⟨plain_of (by decide +kernel), by decide +kernel⟩,
    ⟨plain_of (by decide +kernel), by decide +kernel, by decide +kernel⟩,
    ⟨plain_of (by decide +kernel), by decide +kernel, by decide +kernel⟩,
    plain_of (by decide +kernel),
    plain_of (by decide +kernel),
    plain_of (by decide +kernel),
    plain_of (by decide +kernel),
    plain_of (by decide +kernel),
    ⟨plain_of (by decide +kernel), by decide +kernel, by decide +kernel⟩,
    ⟨plain_of (by decide +kernel), by decide +kernel, by decide +kernel⟩,
    ⟨plain_of (by decide +kernel), by decide +kernel, by decide +kernel⟩,
    ⟨plain_of (by decide +kernel), by decide +kernel⟩,
    ⟨plain_of (by decide +kernel), by decide +kernel⟩,
    ⟨plain_of (by decide +kernel), by decide +kernel, by decide +kernel⟩,
    ⟨plain_of (by decide +kernel), by decide +kernel, by decide +kernel⟩,
    ⟨plain_of (by decide +kernel), by decide +kernel⟩⟩

theorem hypotheses_ClkLostStandsUntilWritten :
    (let t : Tick := 5
     let s : State := made fun s => bench s
     (memWf s) ∧ (let h := advance t s
     let pf : BitVec 2 := 0
     let world : World := .holm
     (Plain (pfReq pf world) Reg.CLK_STAT Reg.CLK_STAT h))) ∧
    (let t : Tick := 5
     let s : State := made fun s => s
     (memWf s) ∧ (let u := nextOf (exec (.clkinReturn t) s)
     (exec (.clkinReturn t) s = .next u))) ∧
    (let s : State := made fun s => s
     (memWf s)) ∧
    (let s : State := made fun s => s
     (memWf s) ∧ (let c : Nat := (8 : Nat)
     (c ≤ 8))) :=
  ⟨⟨by unfold memWf; decide +kernel, plain_of (by decide +kernel)⟩,
    ⟨by unfold memWf; decide +kernel, rfl⟩,
    by unfold memWf; decide +kernel,
    ⟨by unfold memWf; decide +kernel, by decide +kernel⟩⟩

theorem hypotheses_ChurnBatchesApplyWhole :
    (let t : Tick := 5
     let s : State := made fun s => (fun s : State => wrReq (pfReq 0 .holm) Reg.REG_CHURN_CTRL (setB 0 Fld.REG_CHURN_CTRL_OPEN true) s) (churnIs { entries := List.replicate 31 (Reg.CLK_SNAP_CTRL, 0) } (bench s))
     let pf : BitVec 2 := 0
     let world : World := .holm
     let h := advance t s
     let rq := pfReq pf world
     let z := dropLatch rq h
     let off : BitVec 26 := BitVec.ofNat 26 Reg.CLK_SNAP_CTRL
     (∀ f ∈ h.lnk.faults, faultAims f 0 pf.toNat 0 0 = false) ∧ ((reached h rq = true) ∧ ((buffered h rq (off.toNat / 4 * 4) = true) ∧ ((churnRec z rq).entries.length < 32)))) ∧
    (let t : Tick := 5
     let s : State := made fun s => (fun s : State => wrReq (pfReq 0 .holm) Reg.REG_CHURN_CTRL (setB 0 Fld.REG_CHURN_CTRL_OPEN true) s) (churnIs { entries := List.replicate 32 (Reg.CLK_SNAP_CTRL, 0) } (bench s))
     let pf : BitVec 2 := 0
     let world : World := .holm
     let h := advance t s
     let rq := pfReq pf world
     let z := dropLatch rq h
     let off : BitVec 26 := BitVec.ofNat 26 Reg.CLK_SNAP_CTRL
     (∀ f ∈ h.lnk.faults, faultAims f 0 pf.toNat 0 0 = false) ∧ ((reached h rq = true) ∧ ((buffered h rq (off.toNat / 4 * 4) = true) ∧ ((32 ≤ (churnRec z rq).entries.length))))) ∧
    (let t : Tick := 5
     let s : State := made fun s => churnIs { busy := true } (bench (s))
     let pf : BitVec 2 := 0
     let world : World := .holm
     let h := advance t s
     let rq := pfReq pf world
     let z := dropLatch rq h
     let open_ : Bool := true
     (Lands rq Reg.REG_CHURN_CTRL Reg.REG_CHURN_CTRL h) ∧ (let y := setOpen rq open_ z
     let c := churnRec y rq
     (c.busy = true))) ∧
    (let t : Tick := 5
     let s : State := made fun s => churnIs { overflowed := true } (bench (s))
     let pf : BitVec 2 := 0
     let world : World := .holm
     let h := advance t s
     let rq := pfReq pf world
     let z := dropLatch rq h
     let open_ : Bool := true
     (Lands rq Reg.REG_CHURN_CTRL Reg.REG_CHURN_CTRL h) ∧ (let y := setOpen rq open_ z
     let c := churnRec y rq
     (c.busy = false) ∧ ((c.overflowed = true)))) ∧
    (let t : Tick := 5
     let s : State := made fun s => churnIs {} (bench (s))
     let pf : BitVec 2 := 0
     let world : World := .holm
     let h := advance t s
     let rq := pfReq pf world
     let z := dropLatch rq h
     let open_ : Bool := true
     (Lands rq Reg.REG_CHURN_CTRL Reg.REG_CHURN_CTRL h) ∧ (let y := setOpen rq open_ z
     let c := churnRec y rq
     (c.busy = false) ∧ ((c.overflowed = false) ∧ ((c.entries = []))))) ∧
    (let t : Tick := 5
     let s : State := made fun s => churnIs { entries := [(Reg.RST_WD_SVC, 0)] } (bench (s))
     let pf : BitVec 2 := 0
     let world : World := .holm
     let h := advance t s
     let rq := pfReq pf world
     let z := dropLatch rq h
     let open_ : Bool := true
     (Lands rq Reg.REG_CHURN_CTRL Reg.REG_CHURN_CTRL h) ∧ (let y := setOpen rq open_ z
     let c := churnRec y rq
     let run := batchRun rq 0 c.entries y
     let r := (5 : Nat)
     let i := (0 : Nat)
     let n := (none : Option (Nat × Miss))
     (c.busy = false) ∧ ((c.overflowed = false) ∧ ((run = .failed r i n))))) ∧
    (let t : Tick := 5
     let s : State := made fun s => churnIs { entries := [(Reg.RST_WD_CTRL, 0)] } (bench (s))
     let pf : BitVec 2 := 0
     let world : World := .holm
     let h := advance t s
     let rq := pfReq pf world
     let z := dropLatch rq h
     let open_ : Bool := true
     (Lands rq Reg.REG_CHURN_CTRL Reg.REG_CHURN_CTRL h) ∧ (let y := setOpen rq open_ z
     let c := churnRec y rq
     let run := batchRun rq 0 c.entries y
     let v := batchState run
     (c.busy = false) ∧ ((c.overflowed = false) ∧ ((c.entries ≠ []) ∧ ((run = .applied v) ∧ ((churnRec v rq = c))))))) ∧
    (let t : Tick := 5
     let s : State := made fun s => churnIs {} (bench (s))
     let pf : BitVec 2 := 0
     let world : World := .holm
     let h := advance t s
     let rq := pfReq pf world
     (Lands rq Reg.REG_CHURN_CTRL Reg.REG_CHURN_CTRL h)) ∧
    (let t : Tick := 5
     let s : State := made fun s => churnIs {} (bench (s))
     let pf : BitVec 2 := 0
     let world : World := .holm
     let h := advance t s
     let rq := pfReq pf world
     (churnRec h rq).busy = false) ∧
    (let t : Tick := 5
     let s : State := made fun s => churnIs { busy := true } (bench (s))
     let pf : BitVec 2 := 0
     let world : World := .holm
     let h := advance t s
     let rq := pfReq pf world
     (churnRec h rq).busy = true) :=
  ⟨by decide +kernel,
    by decide +kernel,
    ⟨lands_of (by decide +kernel), by decide +kernel⟩,
    ⟨lands_of (by decide +kernel), by decide +kernel, by decide +kernel⟩,
    ⟨lands_of (by decide +kernel), by decide +kernel, by decide +kernel, by decide +kernel⟩,
    ⟨lands_of (by decide +kernel), by decide +kernel, by decide +kernel, by decide +kernel⟩,
    ⟨lands_of (by decide +kernel), by decide +kernel, by decide +kernel, by decide +kernel, by decide +kernel, by decide +kernel⟩,
    lands_of (by decide +kernel),
    by decide +kernel,
    by decide +kernel⟩

end Sys2Proof.Tests
end

namespace Sys2Proof.Proofs

open Sys2Proof Sys2Proof.Machine Sys2Proof.Laws

/-! ### The empty queue (R16, R560) -/

theorem step_of_empty {s : State} (h : s.pending = []) : step s = .next (idle s) := by
  unfold step
  rw [h]

/-- Power-on reset holds the time base at zero (R560). -/
theorem idle_held {s : State} (hr : s.pwr.inReset = true) (hg : s.gtb = 0) : idle s = s := by
  simp [idle, hr, hg]

theorem idle_counts {s : State} (h : s.pwr.inReset = false ∨ s.gtb ≠ 0) : idle s = { s with gtb := s.gtb + 1 } := by
  rcases h with hr | hg
  · simp [idle, hr]
  · simp [idle, hg]

/-- Settles O2: with no command waiting a step is `idle`, which is one of two cases by the reset and the time base. -/
theorem emptyQueueLetsOneTickPass : Obligations.EmptyQueueLetsOneTickPass := by
  intro s hq
  rw [step_of_empty hq]
  refine ⟨fun hr hg => ?_, fun h => ?_⟩
  · rw [idle_held hr hg]
  · rw [idle_counts h]

/-! ### The state after power-on reset

A register word is stored as its difference from the reset word (`rd`, `rdSh`, `rdReq`), so an offset that no table entry lists reads as its reset word. -/

theorem rd_of_unlisted {s : State} {off : Nat} (h : tget 0 s.regs off = 0) : rd s off = resetWordAt off := by
  rw [rd, h]
  exact BitVec.zero_xor

theorem rdSh_of_unlisted {s : State} {off : Nat} (h : tget 0 s.shadow off = 0) : rdSh s off = resetWordAt off := by
  rw [rdSh, h]
  exact BitVec.zero_xor

theorem rdReq_of_unlisted {s : State} {r : Requester} {off : Nat} (h : tget 0 s.reqRegs (reqKey r off) = 0) : rdReq s r off = resetWordAt off := by
  rw [rdReq, h]
  exact BitVec.zero_xor

/-- A byte of device memory that nothing has written reads zero, whether its address is assigned or not (R216). -/
theorem rdDpa_of_unlisted {s : State} {a : Nat} (h : tget 0 s.mem.dpa a = 0) : rdDpa s a = 0 := by
  rw [rdDpa, h, ite_self]

/-- Settles O9: every table of the reset state is empty, and an empty table reads as its default at every key. -/
theorem resetLeavesTheResetValues : Obligations.ResetLeavesTheResetValues := by
  refine ⟨fun off => ⟨rd_of_unlisted rfl, rdSh_of_unlisted rfl⟩, fun r off => rdReq_of_unlisted rfl,
    rfl, rfl, rfl, rfl, rfl, rfl, rfl, rfl, fun fn => ?absent, fun a => rdDpa_of_unlisted rfl, fun p a => ?host⟩
  case absent => rfl
  case host => rfl

/-! ### Logging an event leaves the links alone

An access that misses is logged before the TLP that its port holds is passed on (R438), so that the log must not touch what is held. -/

@[simp] theorem wrDpa_lnk (a : Nat) (b : Byte) (s : State) : (wrDpa a b s).lnk = s.lnk := by
  unfold wrDpa
  split <;> rfl

@[simp] theorem wrDpaBytes_lnk (bs : List Byte) (a : Nat) (s : State) : (wrDpaBytes a bs s).lnk = s.lnk := by
  induction bs generalizing a s with
  | nil => rfl
  | cons b bs ih => rw [wrDpaBytes, ih, wrDpa_lnk]

@[simp] theorem ringMirror_lnk (e : IsoEntry) (s : State) : (ringMirror e s).lnk = s.lnk := wrDpaBytes_lnk ..

@[simp] theorem isoLog_lnk (kind req src flags addr obj status : Nat) (s : State) : (isoLog kind req src flags addr obj status s).lnk = s.lnk := by
  unfold isoLog
  dsimp only
  split
  · split
    · rfl
    · split <;> rfl
  · split
    · rw [ringMirror_lnk]
    · rfl
  · rfl

@[simp] theorem setPair_lnk (rq : Requester) (p : PairRec) (s : State) : (setPair rq p s).lnk = s.lnk := rfl

@[simp] theorem dropLatch_lnk (rq : Requester) (s : State) : (dropLatch rq s).lnk = s.lnk := by
  unfold dropLatch
  split
  · rfl
  · rw [setPair_lnk]

/-! ### Register accesses as TLPs that meet no provoked fault (R437, R438) -/

theorem exec_registerWrite_read (t : Tick) (rq : Requester) (off : BitVec 26) (s : State) :
    exec (.registerWrite t rq off .read) s = .next (tlpRead rq off.toNat (advance t s)) := rfl

theorem exec_registerWrite_write (t : Tick) (rq : Requester) (off : BitVec 26) (value : Word) (be : BitVec 4) (s : State) :
    exec (.registerWrite t rq off (.write value be)) s = .next (tlpWrite ⟨rq, off.toNat, value, be⟩ (advance t s)) := rfl

theorem faultHits_of_unaimed {f : FaultRec} {target inst dir tile : Nat} (h : faultAims f target inst dir tile = false) (d : Nat) :
    faultHits f target inst dir tile d = false := by
  rw [faultHits, h, Bool.false_and]

theorem meetFaults_of_unaimed {target inst dir tile : Nat} {s : State} (h : ∀ f ∈ s.lnk.faults, faultAims f target inst dir tile = false) :
    meetFaults target inst dir tile s = ([], s) := by
  unfold meetFaults
  refine List.foldlRecOn (motive := fun a => a = ([], s)) _ _ rfl ?_
  rintro _ rfl f hf
  simp [h f hf, faultHits_of_unaimed (h f hf)]

theorem passHeld_of_none {port : Nat} {s : State} (h : tget none s.lnk.held (heldKey port 0) = none) : passHeld port s = s := by
  rw [passHeld, h]

/-- A write TLP that meets no fault arrives; the TLP that its port holds follows it. -/
theorem tlpWrite_of_unaimed {x : BusWrite} {s : State} (h : ∀ f ∈ s.lnk.faults, faultAims f 0 (portOf s x.rq.fn.val) 0 0 = false) :
    tlpWrite x s = passHeld (portOf s x.rq.fn.val) (busWrite x.rq x.off x.value x.be s) := by
  simp [tlpWrite, meetFaults_of_unaimed h]

/-- A read TLP that meets no fault shows its word in the read data window; the TLP that its port holds follows it. -/
theorem tlpRead_of_unaimed {rq : Requester} {off : Nat} {s : State} (h : ∀ f ∈ s.lnk.faults, faultAims f 0 (portOf s rq.fn.val) 0 0 = false) :
    tlpRead rq off s = passHeld (portOf s rq.fn.val) { (busRead rq off s).2 with busData := (busRead rq off s).1 } := by
  simp [tlpRead, meetFaults_of_unaimed h]

/-! ### Accesses of a PF window that miss (Table 20.2) -/

theorem windowOff_pf (s : State) {fn : Nat} (h : fn < 4) (off : Nat) : windowOff s fn off = some off := by
  rw [windowOff, if_pos h]

theorem portOf_pf (s : State) {fn : Nat} (h : fn < 4) : portOf s fn = fn := by
  rw [portOf, if_pos h]

theorem pfReq_fn (pf : BitVec 2) (w : World) : (pfReq pf w).fn.val = pf.toNat :=
  Nat.mod_eq_of_lt (Nat.lt_trans pf.isLt (by decide))

section
variable {s : State} {rq : Requester} {off : Nat} {m : Miss}

theorem busRead_of_miss (hpf : rq.fn.val < 4) (hr : reached s rq = true) (hm : miss s rq (off / 4 * 4) false true = some m) :
    busRead rq off s = (0, noteMiss rq (off / 4 * 4) false m s) := by
  simp [busRead, hr, windowOff_pf s hpf, hm, Nat.not_le.2 hpf]

theorem busWrite_of_miss {w : Word} {be : BitVec 4} (hpf : rq.fn.val < 4) (hr : reached s rq = true)
    (hb : buffered s rq (off / 4 * 4) = false ∨ be ≠ 15#4) (hm : miss s rq (off / 4 * 4) true (be == 15#4) = some m) :
    busWrite rq off w be s = noteMiss rq (off / 4 * 4) true m (dropLatch rq s) := by
  have direct : ((be == 15#4) && buffered s rq (off / 4 * 4)) = false := by
    rcases hb with hb | hb
    · rw [hb, Bool.and_false]
    · rw [beq_false_of_ne hb, Bool.false_and]
  simp [busWrite, offWrite, hr, windowOff_pf s hpf, hm, direct, Nat.not_le.2 hpf]

/-- A Mainland access to what Holm owns crosses the worlds, read or write, with full or partial byte enables (R15, R148). -/
theorem miss_of_mainland_holm (hw : rq.world = .mainland) (write full : Bool)
    (ho : accessOwner rq.fn.val off = .holm ∨ ∃ b, accessOwner rq.fn.val off = .obj b ∧ holmOwned s b = true) :
    miss s rq off write full = some .cross := by
  have hc : crosses s rq off write = true := by
    rcases ho with ho | ⟨b, ho, hb⟩
    · simp [crosses, ho, hw]
    · simp [crosses, ho, hw, hb]
  rw [miss, if_pos hc]

/-- ISO_FAULT names the function, the address and, in its flags, the direction (Table 5.6). -/
theorem noteMiss_cross_mainland (hw : rq.world = .mainland) (write : Bool) :
    noteMiss rq off write .cross s = isoLog 0x01 rq.fn.val 0 (bit write) off (logObj off) 0 s := by
  simp [noteMiss, hw, logReq, bit]

end

/-- Settles O53: the access crosses the worlds, so it misses, and a TLP that meets no fault with none held behind it leaves just what the miss leaves. -/
theorem mainlandReachesNoHolmRegister : Obligations.MainlandReachesNoHolmRegister := by
  intro t s pf off value be h rq o hcalm hheld hreach howner
  have hfn : rq.fn.val = pf.toNat := pfReq_fn pf .mainland
  have hpf : rq.fn.val < 4 := hfn ▸ pf.isLt
  have hport : portOf h rq.fn.val = pf.toNat := (portOf_pf h hpf).trans hfn
  have hmiss (write full : Bool) : miss h rq o write full = some .cross :=
    miss_of_mainland_holm rfl write full (hfn.symm ▸ howner)
  have hnote (write : Bool) (x : State) : noteMiss rq o write .cross x = isoLog 0x01 pf.toNat 0 (bit write) o (logObj o) 0 x :=
    hfn ▸ noteMiss_cross_mainland rfl write
  refine ⟨?read, fun hb => ?write⟩
  case read =>
    rw [exec_registerWrite_read, tlpRead_of_unaimed (hport.symm ▸ hcalm), hport, busRead_of_miss hpf hreach (hmiss false true), hnote,
      passHeld_of_none (by simpa using hheld)]
    rfl
  case write =>
    rw [exec_registerWrite_write, tlpWrite_of_unaimed (hport.symm ▸ hcalm), hport, busWrite_of_miss hpf hreach hb (hmiss true _), hnote,
      passHeld_of_none (by simpa using hheld)]
    rfl

end Sys2Proof.Proofs

namespace Sys2Proof.Proofs

open Sys2Proof Sys2Proof.Machine Sys2Proof.Laws

/-! ### Admission and the pools (R61 to R63, R72) -/

/-- Settles O18: the admission test is a chain of refusals, so a signature says that none of them stood (`admitAsk_signed`). -/
theorem admissionTest : Obligations.AdmissionTest := by
  intro s a k h
  obtain ⟨hcls, -, l0, hl0, hahead, hhorizon, hcount, hsect, hwindow, hshd, hdrb, hvat, hdep, hfull, rfl⟩ := admitAsk_signed h
  rw [not_or, Nat.not_le, Nat.not_le] at hcount
  refine ⟨l0, hl0, rfl, rfl, rfl, rfl, rfl, rfl, rfl, Int.not_le.1 hahead, ?horizon, hcount.1, hcount.2, Nat.not_lt.1 hsect, Int.not_lt.1 hwindow,
    eq_true_of_ne_false hdep, eq_false_of_ne_true hfull, ?holm, hshd, hdrb, hvat⟩
  case horizon => omega
  case holm => exact fun h0 => eq_true_of_ne_false fun hm => hcls ⟨h0, hm⟩

@[simp] theorem sign_contracts (k : Contract) (s : State) : (sign k s).ledger.contracts = s.ledger.contracts ++ [k] := rfl

/-- Capacities come from clocks, shares and the reserve, none of which a signature moves. -/
@[simp] theorem poolCap_sign (k : Contract) (s : State) (p : Pool) (r : Rate) : poolCap (sign k s) p r = poolCap s p r := rfl

/-- A signature adds the contract's density to the use of its own pool. -/
theorem poolUsed_sign_own {k : Contract} (s : State) {p : Pool} (r : Rate) (h : poolOf k.blk.cls k.fn = p) :
    poolUsed (sign k s) p r = poolUsed s p r + k.density r := by
  simp [poolUsed, demands_sign, h, Nat.add_right_comm]

/-- A signature leaves the use of every other pool alone. -/
theorem poolUsed_sign_other {k : Contract} (s : State) {p : Pool} (r : Rate) (h : poolOf k.blk.cls k.fn ≠ p) :
    poolUsed (sign k s) p r = poolUsed s p r := by
  simp [poolUsed, demands_sign, h]

/-- What the test signs fits what is free in its pool (R72). -/
theorem density_le_poolFree {s : State} {a : AskFor} {k : Contract} (h : admitAsk s a = .signed k) (r : Rate) :
    k.density r ≤ poolFree s (poolOf k.blk.cls k.fn) r := by
  obtain ⟨-, -, l0, -, -, -, -, -, -, hshd, hdrb, hvat, -, -, rfl⟩ := admitAsk_signed h
  cases r with
  | shd => exact hshd
  | drb => exact hdrb
  | vat => exact hvat

/-- Settles O19: the contract's own pool had its density free, and no other pool moves. -/
theorem signingOvercommitsNoPool : Obligations.SigningOvercommitsNoPool := by
  intro s a k p r h hfits
  rw [poolCap_sign]
  by_cases hp : poolOf k.blk.cls k.fn = p
  · have hfree : k.density r ≤ poolCap s p r - poolUsed s p r := hp ▸ density_le_poolFree h r
    rw [poolUsed_sign_own s r hp]
    omega
  · rwa [poolUsed_sign_other s r hp]

/-! ### Commands on contracts and the ledger (R64, R81, R131, R633)

What the opcode's own step answers in each of its cases; the request around it is `gcp_reply`. -/

section
variable {c : Ctx} {s : State} {k : Contract}

theorem doContractCancel_none (hk : contractOf s c.fn (leAt c.pay 0 4) = none) : doContractCancel c s = .reply (stOnly .contractClosed) s := by
  simp [doContractCancel, hk]

theorem doContractCancel_otherWorld (hk : contractOf s c.fn (leAt c.pay 0 4) = some k) (hw : k.holm ≠ c.holm) :
    doContractCancel c s = .reply (stOnly .worldDenied) s := by
  simp [doContractCancel, hk, hw]

theorem doContractCancel_own (hk : contractOf s c.fn (leAt c.pay 0 4) = some k) (hw : k.holm = c.holm) (hf : flipGone s k = false) :
    doContractCancel c s = .reply (stDone []) (cancelWork k s.gtb s) := by
  simp [doContractCancel, hk, hw, hf]

theorem doContractQuery_none (hk : contractOf s c.fn (leAt c.pay 0 4) = none) : doContractQuery c s = .reply (stOnly .contractClosed) s := by
  simp [doContractQuery, hk]

theorem doContractQuery_own (hk : contractOf s c.fn (leAt c.pay 0 4) = some k) (hw : k.holm = c.holm) :
    doContractQuery c s =
      .reply (stDone (le 4 k.inst ++ le 8 (instWindow s k).1 ++ le 8 (instWindow s k).2 ++ le 4 k.shd ++ le 4 k.drb)) s := by
  simp [doContractQuery, hk, hw]

/-- With both fields in their ranges RESERVE_SET asks only whether the commitments fit (R64). -/
theorem doReserveSet_inRange (ha : 100 ≤ leAt c.pay 0 2) (ha' : leAt c.pay 0 2 ≤ 400) (hb : 50 ≤ leAt c.pay 2 2) (hb' : leAt c.pay 2 2 ≤ 300) :
    doReserveSet c s =
      if reserveFits s .shd (leAt c.pay 0 2) && reserveFits s .drb (leAt c.pay 2 2) then
        .reply (stDone (le 2 (leAt c.pay 0 2) ++ le 2 (leAt c.pay 2 2)))
          { s with ledger := { s.ledger with reserveShd := leAt c.pay 0 2, reserveDrb := leAt c.pay 2 2 } }
      else .reply (stOnly .reserveInUse) s := by
  unfold doReserveSet
  rw [if_neg (by omega), if_neg (by omega)]

theorem doReserveSet_fits (ha : 100 ≤ leAt c.pay 0 2) (ha' : leAt c.pay 0 2 ≤ 400) (hb : 50 ≤ leAt c.pay 2 2) (hb' : leAt c.pay 2 2 ≤ 300)
    (hshd : reserveFits s .shd (leAt c.pay 0 2) = true) (hdrb : reserveFits s .drb (leAt c.pay 2 2) = true) :
    doReserveSet c s = .reply (stDone (le 2 (leAt c.pay 0 2) ++ le 2 (leAt c.pay 2 2)))
      { s with ledger := { s.ledger with reserveShd := leAt c.pay 0 2, reserveDrb := leAt c.pay 2 2 } } := by
  rw [doReserveSet_inRange ha ha' hb hb', if_pos (Bool.and_eq_true_iff.2 ⟨hshd, hdrb⟩)]

theorem doReserveSet_inUse (ha : 100 ≤ leAt c.pay 0 2) (ha' : leAt c.pay 0 2 ≤ 400) (hb : 50 ≤ leAt c.pay 2 2) (hb' : leAt c.pay 2 2 ≤ 300)
    (hshd : reserveFits s .shd (leAt c.pay 0 2) = false) : doReserveSet c s = .reply (stOnly .reserveInUse) s := by
  rw [doReserveSet_inRange ha ha' hb hb', hshd, Bool.false_and, if_neg Bool.false_ne_true]

/-- What LEDGER_READ reports of a pool (R633): capacity and use of each rate, its open contracts, probation. -/
def ledgerReport (s : State) (p : Nat) : List Byte :=
  let w (n : Nat) : List Byte := le 4 (min n 0xFFFFFFFF)
  let one (r : Rate) : List Byte := w (poolCap s (poolNamed p) r) ++ w (poolUsed s (poolNamed p) r)
  one .shd ++ one .drb ++ one .vat ++ le 2 (s.ledger.contracts.filter (fun k => poolOf k.blk.cls k.fn == poolNamed p)).length ++
    le 1 (bit (decide (p < 64) && onProbation s p)) ++ le 1 0

theorem doLedgerRead_readable (hfn : leAt c.pay 0 1 < 64 → (fnRec s (leAt c.pay 0 1)).state ≠ .absent) (hpool : leAt c.pay 0 1 < 64 ∨ 0xFE ≤ leAt c.pay 0 1)
    (hres : leAt c.pay 1 3 = 0) (hr : poolReadable s c (leAt c.pay 0 1) = true) :
    doLedgerRead c s = .reply (stDone (ledgerReport s (leAt c.pay 0 1))) s := by
  have hnamed : ¬((64 ≤ leAt c.pay 0 1 ∧ leAt c.pay 0 1 < 0xFE) ∨ (leAt c.pay 0 1 < 64 ∧ (fnRec s (leAt c.pay 0 1)).state = .absent)) := by
    rintro (h | ⟨h, habsent⟩)
    · omega
    · exact hfn h habsent
  unfold doLedgerRead
  dsimp only
  rw [if_neg hnamed, if_neg (Classical.not_not.2 hres), if_neg (ne_false_of_eq_true hr)]
  rfl

end

/-- Settles O15: an accepted request ends with what its opcode's own step answers. -/
theorem ledgerCommandsComplete : Obligations.LedgerCommandsComplete := by
  intro t q s x k c h p fn
  exact ⟨fun a hk hw hf => gcp_reply a (doContractCancel_own hk hw hf), fun a hk => gcp_reply a (doContractCancel_none hk),
    fun a hk hw => gcp_reply a (doContractCancel_otherWorld hk hw), fun a hk hw => gcp_reply a (doContractQuery_own hk hw),
    fun a hk => gcp_reply a (doContractQuery_none hk), fun a ha ha' hb hb' hshd hdrb => gcp_reply a (doReserveSet_fits ha ha' hb hb' hshd hdrb),
    fun a ha ha' hb hb' hshd => gcp_reply a (doReserveSet_inUse ha ha' hb hb' hshd),
    fun a hfn hpool hres hr => gcp_reply a (doLedgerRead_readable hfn hpool hres hr), fun a => gcp_reply a rfl⟩

/-! ### Events of contracts (R50, R74, R79, R87) -/

section
variable {t : Tick} {s : State} {fn : Fn} {id : Word} {c : Contract}

theorem execInstanceRelease_open (hc : contractOf (advance t s) fn.val id.toNat = some c) :
    execInstanceRelease t fn id s = .next (if released (advance t s) c then beginWork c (advance t s) else advance t s) := by
  simp only [execInstanceRelease, hc]
  split <;> rfl

theorem execInstanceRelease_none (hc : contractOf (advance t s) fn.val id.toNat = none) : execInstanceRelease t fn id s = .next (advance t s) := by
  simp [execInstanceRelease, hc]

theorem execContractDeadline_none (hc : contractOf (advance t s) fn.val id.toNat = none) : execContractDeadline t fn id s = .next (advance t s) := by
  simp [execContractDeadline, hc]

theorem execContractDeadline_early (hc : contractOf (advance t s) fn.val id.toNat = some c) (hd : (advance t s).gtb < (instWindow (advance t s) c).2) :
    execContractDeadline t fn id s = .next (advance t s) := by
  simp only [execContractDeadline, hc, if_pos (Or.inl hd)]

/-- At its deadline a contract whose latch point is known, whose creamline update is not being verified and whose function is not being quiesced is breached (R87, R204). -/
theorem execContractDeadline_missed (hc : contractOf (advance t s) fn.val id.toNat = some c) (hd : (instWindow (advance t s) c).2 ≤ (advance t s).gtb)
    (hlatch : c.blk.locked = true → c.latches ≠ []) (hcream : c.kind = .cream → creamPending (advance t s) c = false)
    (hquiet : (fnRec (advance t s) c.fn).state ≠ .quiescing) :
    execContractDeadline t fn id s = .next (breach c (missReason (advance t s) c).1 (missReason (advance t s) c).2 0 (advance t s)) := by
  have hdue : ¬((advance t s).gtb < (instWindow (advance t s) c).2 ∨ (c.blk.locked ∧ c.latches.isEmpty) ∨ (c.kind = .cream ∧ creamPending (advance t s) c)) := by
    rintro (h | ⟨hl, he⟩ | ⟨hk, hp⟩)
    · exact Nat.not_lt.2 hd h
    · exact hlatch hl (List.isEmpty_iff.1 he)
    · exact Bool.eq_false_iff.1 (hcream hk) hp
  simp only [execContractDeadline, hc, if_neg hdue, if_neg hquiet]

theorem execProbationEnd_due (hp : (tget {} (advance t s).ledger.acct fn.val).probation = true)
    (hd : (tget {} (advance t s).ledger.acct fn.val).lastBreach + 2000000000 ≤ (advance t s).gtb) :
    execProbationEnd t fn s = .next { advance t s with ledger := { (advance t s).ledger with
      acct := tput {} (advance t s).ledger.acct fn.val { tget {} (advance t s).ledger.acct fn.val with probation := false } } } :=
  if_pos ⟨hp, hd⟩

theorem execProbationEnd_early (hd : (advance t s).gtb < (tget {} (advance t s).ledger.acct fn.val).lastBreach + 2000000000) :
    execProbationEnd t fn s = .next (advance t s) :=
  if_neg fun h => Nat.not_le.2 hd h.2

end

/-- The state once the section of a core's context has been ended at its bound: the context is outside a section and SECTIONS_ENDED counts it (R79). -/
def sectionEnded (core : Nat) (x : SCtx) (s : State) : State :=
  let y := setCore core { coreRec s core with ctx := some { x with sectAt := none } } s
  wrF Reg.GPX_PRE_WORST Fld.GPX_PRE_WORST_SECTIONS_ENDED ((fld y Reg.GPX_PRE_WORST Fld.GPX_PRE_WORST_SECTIONS_ENDED + 1) % 65536) y

section
variable {t entered e : Tick} {s : State} {core : BitVec 4} {x : SCtx} {j : Job}
  (hx : (coreRec (accrue (advance t s)) core.toNat).ctx = some x) (hj : jobOf (accrue (advance t s)) x.fn x.id x.inst = some j) (he : x.sectAt = some e)
include hx hj he

theorem execSectionBound_early (hd : (accrue (advance t s)).gtb < e + j.sect) :
    execSectionBound t core entered s = .next (accrue (advance t s)) := by
  simp [execSectionBound, hx, hj, he, Nat.not_le.2 hd]

theorem execSectionBound_reached {k : Contract} (h0 : j.sect ≠ 0) (hd : e + j.sect ≤ (accrue (advance t s)).gtb)
    (hk : openInst (sectionEnded core.toNat x (accrue (advance t s))) x.fn x.id x.inst = some k) :
    execSectionBound t core entered s = .next (breach k .sectionOverrun k.fn 0 (sectionEnded core.toNat x (accrue (advance t s)))) := by
  unfold sectionEnded at hk
  simp only [execSectionBound, hx, hj, he, if_pos (And.intro h0 hd)]
  rw [hk]
  rfl

end

/-- Settles O28: each event checks that its moment has come, and the cases of each are the lemmas above. -/
theorem contractEventsComplete : Obligations.ContractEventsComplete := by
  intro t s fn h
  refine ⟨fun id c hc => ⟨fun hr => ?begins, fun hr => ?waits, execContractDeadline_early hc, execContractDeadline_missed hc⟩,
    fun id hc => ⟨execContractDeadline_none hc, execInstanceRelease_none hc⟩, ⟨execProbationEnd_due, execProbationEnd_early⟩,
    fun core entered x j k e hx hj h0 he => ⟨execSectionBound_early hx hj he, execSectionBound_reached hx hj he h0⟩⟩
  case begins => exact (execInstanceRelease_open hc).trans (congrArg _ (if_pos hr))
  case waits => exact (execInstanceRelease_open hc).trans (congrArg _ (if_neg (ne_true_of_eq_false hr)))

/-! ### Submissions (R72, R75)

Once its guards and its own checks pass, a submission is decided by the admission test alone. -/

/-- How the admission test ends a submission: refused, with the state as it was; or signed, the contract in the ledger and its work with its unit. -/
def admitThen (a : AskFor) (work : Contract → State → State) (s : State) : Ans :=
  match admitAsk s a with
  | .refused st res er need avail => .reply (refusedReply st res er need avail) s
  | .signed k => .reply (acceptedReply (sign k s) k) (work k (sign k s))

section
variable {a : AskFor} {work : Contract → State → State} {s : State}

theorem admitThen_signed {k : Contract} (h : admitAsk s a = .signed k) : admitThen a work s = .reply (acceptedReply (sign k s) k) (work k (sign k s)) := by
  rw [admitThen, h]

theorem admitThen_refused {st : Status} {res er need avail : Nat} (h : admitAsk s a = .refused st res er need avail) :
    admitThen a work s = .reply (refusedReply st res er need avail) s := by
  rw [admitThen, h]

/-- `admitReply` signs; the opcode then gives the work of a signed contract to its unit. -/
theorem admitThen_eq_admitReply : admitThen a work s =
    (admitReply a s).2.2.elim (.reply (admitReply a s).1 (admitReply a s).2.1) (fun k => .reply (admitReply a s).1 (work k (admitReply a s).2.1)) := by
  rw [admitThen, admitReply]
  cases admitAsk s a <;> rfl

end

/-- The contracts of RENDER, COMPUTE and CREAM are their own work: no unit is given any before its release. -/
def noWork : Contract → State → State := fun _ s => s

theorem admitThen_noWork (a : AskFor) (s : State) : admitThen a noWork s = .reply (admitReply a s).1 (admitReply a s).2.1 := by
  rw [admitThen_eq_admitReply]
  cases (admitReply a s).2.2 <;> rfl

/-- A contract's set waits in its channel (R514). -/
def queueSet (c : Ctx) (k : Contract) (s : State) : State :=
  setDma (parseBlock c.pay).target (fun r => { r with queue := r.queue ++
    [{ owner := some (k.fn, k.id), deadline := k.blk.deadline.toNat, s0 := k.s0, src := leAt c.pay 0x30 8, dst := leAt c.pay 0x38 8,
       count := k.cost.amount, dflags := leAt c.pay 0x40 4 }] }) s

/-- A contract's job waits at its check value unit (R526). -/
def queueCheck (c : Ctx) (k : Contract) (s : State) : State :=
  setCv (parseBlock c.pay).target (fun r => { r with jobs := r.jobs ++
    [{ fn := k.fn, id := k.id, holm := k.holm, deadline := k.blk.deadline.toNat, s0 := k.s0, addr := leAt c.pay 0x30 8,
       len := k.cost.amount, alg := leAt c.pay 0x38 1 }] }) s

/-- A contract's buffer waits in its stream (R490), its duration by the stream as it was before (`z`). -/
def queueBuffer (c : Ctx) (z : State) (k : Contract) (s : State) : State :=
  let n := (parseBlock c.pay).target
  let frames := (parseCost .audio c.pay).amount
  setStream n (fun r => { r with bufs := r.bufs ++
    [{ fn := k.fn, id := k.id, holm := k.holm, addr := leAt c.pay 0x30 8, frames := frames, frameBytes := streamFrameBytes z n, s0 := k.s0,
       dur := ceilDiv (frames * 200000000) (streamRate z n) }] }) s

/-- A contract's effect, copied from its slot as it was before (`z`), waits in its channel in order of start (R467, R479). -/
def queueEffect (c : Ctx) (z : State) (k : Contract) (s : State) : State :=
  let n := (parseBlock c.pay).target
  let e : Effect := { slotEffect z n (leAt c.pay 0x30 1) with fn := k.fn, id := k.id, holm := k.holm, release := k.blk.release.toNat, s0 := k.s0 }
  setHap n (fun r => { r with queue := effectInsert e r.queue }) s

section
variable {c : Ctx} {s : State}

theorem doCreamUpdate_of_checks (hc : creamCheck s c = none) (hg : contractGuard s c.fn (creamGates s c) = none) :
    doCreamUpdate c s = admitThen (keepWork (creamAsk s c)) noWork s := by
  simp only [admitThen_noWork, doCreamUpdate, hc, hg]

theorem doDmaSubmit_of_checks (hg : contractGuard s c.fn [] = none) (hc : dmaCheck s c = none) :
    doDmaSubmit c s = admitThen (dmaAsk s c) (queueSet c) s := by
  simp only [admitThen_eq_admitReply, doDmaSubmit, hg, hc]
  cases (admitReply (dmaAsk s c) s).2.2 <;> rfl

theorem doCheckSubmit_of_checks (hg : contractGuard s c.fn [] = none) (hc : checkCheck s c = none)
    (hgate : contractGuard s c.fn (gatesNeeded .check (parseBlock c.pay).target) = none) :
    doCheckSubmit c s = admitThen (checkAsk s c) (queueCheck c) s := by
  simp only [admitThen_eq_admitReply, doCheckSubmit, hg, hc, hgate]
  cases (admitReply (checkAsk s c) s).2.2 <;> rfl

theorem doAudioQueue_of_checks (hg : contractGuard s c.fn [] = none) (hc : audioCheck s c = none)
    (hgate : contractGuard s c.fn (gatesNeeded .audio (parseBlock c.pay).target) = none) :
    doAudioQueue c s = admitThen (audioAsk s c) (queueBuffer c s) s := by
  simp only [admitThen_eq_admitReply, doAudioQueue, hg, hc, hgate]
  cases (admitReply (audioAsk s c) s).2.2 <;> rfl

theorem doHapticPlay_of_checks (hg : contractGuard s c.fn [] = none) (hc : playCheck s c = none)
    (hgate : contractGuard s c.fn (gatesNeeded .haptic (parseBlock c.pay).target) = none) :
    doHapticPlay c s = admitThen (playAsk s c) (queueEffect c s) s := by
  simp only [admitThen_eq_admitReply, doHapticPlay, hg, hc, hgate]
  cases (admitReply (playAsk s c) s).2.2 <;> rfl

end

/-! #### Jobs (R251, R252) -/

/-- What RENDER_SUBMIT and COMPUTE_SUBMIT ask of admission: the costs bounded by the descriptor, the place of the command buffer. -/
def jobAsk (k : Kind) (c : Ctx) (s : State) : AskFor :=
  let a := baseAsk c k s
  let d := parseDesc (jobRead s (a.blk.cls == 0) c.fn (leAt c.pay 0x68 8) (min (leAt c.pay 0x70 4) (0x40 + 32 * 9)))
  { shaderAsk s a with blocksFit := (shaderAsk s a).blocksFit && jobCostOk d a.cost,
                       params := [leAt c.pay 0x68 8, leAt c.pay 0x70 4, leAt c.pay 0x74 4] }

/-- The checks of Table 8.5 on a job pass: its command buffer is aligned, of a length in range and not poisoned, and its descriptor is sound. -/
structure JobChecked (k : Kind) (c : Ctx) (s : State) : Prop where
  addrAligned : leAt c.pay 0x68 8 % 8 = 0
  lenAligned : leAt c.pay 0x70 4 % 8 = 0
  lenLeast : 0x48 ≤ leAt c.pay 0x70 4
  lenMost : leAt c.pay 0x70 4 ≤ 0x1000000
  unpoisoned : (jobRange s ((baseAsk c k s).blk.cls == 0) c.fn false (leAt c.pay 0x68 8) (leAt c.pay 0x70 4) &&
    ctxPoison s (if (baseAsk c k s).blk.cls == 0 then none else some c.fn) (leAt c.pay 0x68 8) (min (leAt c.pay 0x70 4) (0x40 + 32 * 9))) = false
  sound : descCheck s ((baseAsk c k s).blk.cls == 0) c.fn (leAt c.pay 0x68 8) (leAt c.pay 0x70 4) (baseAsk c k s).cost.bins (if k = .compute then 1 else 0) = none

theorem doSubmit_of_checks {k : Kind} {c : Ctx} {s : State} (h : JobChecked k c s) (hg : contractGuard s c.fn (gatesNeeded k 0) = none) :
    doSubmit k c s = admitThen (jobAsk k c s) noWork s := by
  obtain ⟨haddr, hlen, hleast, hmost, hpoison, hsound⟩ := h
  have hrange : ¬(leAt c.pay 0x70 4 % 8 ≠ 0 ∨ leAt c.pay 0x70 4 < 0x48 ∨ 0x1000000 < leAt c.pay 0x70 4) := by omega
  unfold doSubmit
  dsimp only
  rw [if_neg (Classical.not_not.2 haddr), if_neg hrange, if_neg (ne_true_of_eq_false hpoison), hsound, hg]
  exact (admitThen_noWork (jobAsk k c s) s).symm

/-! #### COMMIT (R369 to R375) -/

/-- A commit of the session's holder pending on its output. -/
def commitAdd (c : Ctx) (at_ id : Nat) (s : State) : State :=
  setOut (parseBlock c.pay).target (fun o => { o with commits := o.commits ++ [{ holder := ctxHolder c, fn := c.fn, id := id, at_ := at_ }] }) s

/-- The state as the commits pending on the output, this one among them, will leave it. -/
def commitLeaves (c : Ctx) (s : State) : State := pendApplied (commitAdd c 0 0 s) (parseBlock c.pay).target

/-- What COMMIT asks of admission. -/
def commitAsk (c : Ctx) (s : State) : AskFor :=
  let n := (parseBlock c.pay).target
  { baseAsk c .commit s with
    latchOut := if tgOn s n then some n else none, latchNow := !tgOn s n,
    depOk := decide (depRate (commitAdd c 0 0 s) ≤ 4800000000) && (!tgOn (commitLeaves c s) n || decide (pclk (commitLeaves c s) n ≤ 1200000000)) }

/-- The session may commit on the output: it exists, the session's holder holds something of it and has no commit pending on it, and no guard stands. -/
structure CommitOpen (c : Ctx) (s : State) : Prop where
  output : (parseBlock c.pay).target < 8
  holds : holdsAny s (parseBlock c.pay).target (ctxHolder c) = true
  notPending : (pendOf s (parseBlock c.pay).target (ctxHolder c)).isNone = true
  guard : contractGuard s c.fn (gatesNeeded .commit (parseBlock c.pay).target) = none

/-- The checks of Table 12.3 on what contract `k` commits: the configuration it leaves is sound, and what is locked to the output still fits under its timing. -/
structure CommitSound (c : Ctx) (s : State) (k : Contract) : Prop where
  config : configReason s (commitLeaves c s) (parseBlock c.pay).target (ctxHolder c).holm = none
  timing : (timingChange s (commitLeaves c s) (parseBlock c.pay).target &&
    !(lockedFit s (commitLeaves c s) (parseBlock c.pay).target && latchesFit (commitAdd c k.s0 k.id s) (parseBlock c.pay).target)) = false
  demands : demandRefusal s (commitAdd c k.s0 k.id s) = none

/-- The state once a commit is signed: the contract stands in the ledger and the start of the holder's last commit is kept. -/
def commitSigned (c : Ctx) (k : Contract) (w : State) : State :=
  sign k (setOut (parseBlock c.pay).target (fun o => { o with commitAt := aset (ctxHolder c) k.s0 o.commitAt }) w)

theorem doCommit_signed {c : Ctx} {s w : State} {k : Contract} (ho : CommitOpen c s) (ha : admitAsk s (commitAsk c s) = .signed k) (hs : CommitSound c s k)
    (hw : growQueue (parseBlock c.pay).target (max (queueBytes s (parseBlock c.pay).target) (queueBytes (commitLeaves c s) (parseBlock c.pay).target))
      (commitAdd c k.s0 k.id s) = some w) :
    doCommit c s = .reply (acceptedReply (commitSigned c k w) k) (commitSigned c k w) := by
  obtain ⟨hn, hholds, hfree, hguard⟩ := ho
  obtain ⟨hconfig, htiming, hdemands⟩ := hs
  unfold commitAsk commitLeaves commitAdd at ha
  unfold commitLeaves commitAdd at hconfig htiming hw
  unfold commitAdd at hdemands
  unfold doCommit
  dsimp only at ha ⊢
  rw [if_neg (Nat.not_le.2 hn), if_neg (ne_false_of_eq_true hholds), if_neg (by simpa using hfree), hguard, ha, hconfig]
  dsimp only
  rw [if_neg (ne_true_of_eq_false htiming), hdemands, hw]
  rfl

/-- Settles O16: once its own checks pass, each submission is decided by the admission test, and a signature ends it. -/
theorem signedSubmissionsAreAccepted : Obligations.SignedSubmissionsAreAccepted := by
  intro t q s x k c h p fn n v ok
  refine ⟨?jobs, fun a hc hg hk => gcp_reply a ((doCreamUpdate_of_checks hc hg).trans (admitThen_signed hk)),
    fun a hg hc hk => gcp_reply a ((doDmaSubmit_of_checks hg hc).trans (admitThen_signed hk)),
    fun a hg hc hgate hk => gcp_reply a ((doCheckSubmit_of_checks hg hc hgate).trans (admitThen_signed hk)),
    fun a hg hc hgate hk => gcp_reply a ((doAudioQueue_of_checks hg hc hgate).trans (admitThen_signed hk)),
    fun a hg hc hgate hk => gcp_reply a ((doHapticPlay_of_checks hg hc hgate).trans (admitThen_signed hk)), ?commit⟩
  case jobs =>
    intro kind hkind o dev d ask a haddr hlen hleast hmost hpoison hsound hg hk
    have hchecked : JobChecked kind c h := ⟨haddr, hlen, hleast, hmost, hpoison, hsound⟩
    have hsigned : admitAsk h (jobAsk kind c h) = .signed k := hk
    have hdo : doSubmit kind c h = .reply ok v := (doSubmit_of_checks hchecked hg).trans (admitThen_signed hsigned)
    rcases hkind with rfl | rfl
    · exact gcp_reply a hdo
    · exact gcp_reply a hdo
  case commit =>
    intro hd add s' ask w a hn hholds hfree hg hk hconfig htiming hdemands hw
    exact gcp_reply a (doCommit_signed ⟨hn, hholds, hfree, hg⟩ hk ⟨hconfig, htiming, hdemands⟩ hw)

/-! ### Submissions refused (R72, R539) -/

theorem contractGuard_eq (s : State) (fn : Nat) (gates : List Nat) :
    contractGuard s fn gates =
      if clkLost s then some .clockLost else if fnQuiet s fn then some .functionQuiesced else if gates.all (gateOn s) then none else some .blockGated := rfl

/-- CLK_LOST comes first among the guards, and none of the others answers with it (R539). -/
theorem contractGuard_eq_clockLost_iff (s : State) (fn : Nat) (gates : List Nat) : contractGuard s fn gates = some .clockLost ↔ clkLost s = true := by
  rw [contractGuard_eq]
  by_cases h : clkLost s = true
  · simp [h]
  · rw [if_neg h]
    split
    · simp [h]
    · split <;> simp [h]

/-- Settles O17: a refusal of the admission test ends the submission with its figures, on the state that it was handed. -/
theorem refusedSubmissionsChangeNothing : Obligations.RefusedSubmissionsChangeNothing := by
  intro t q s x st res er need avail c h fn n no
  exact ⟨fun a hc hg hr => gcp_reply a ((doCreamUpdate_of_checks hc hg).trans (admitThen_refused hr)),
    fun a hg hc hr => gcp_reply a ((doDmaSubmit_of_checks hg hc).trans (admitThen_refused hr)),
    fun a hg hc hgate hr => gcp_reply a ((doCheckSubmit_of_checks hg hc hgate).trans (admitThen_refused hr)),
    fun a hg hc hgate hr => gcp_reply a ((doAudioQueue_of_checks hg hc hgate).trans (admitThen_refused hr)),
    fun a hg hc hgate hr => gcp_reply a ((doHapticPlay_of_checks hg hc hgate).trans (admitThen_refused hr)),
    fun k => contractGuard_eq_clockLost_iff h fn (gatesNeeded k 0)⟩

end Sys2Proof.Proofs

namespace Sys2Proof.Proofs

open Sys2Proof Sys2Proof.Machine Sys2Proof.Laws

/-! ### The SPI management port (R111, R112) -/

section
variable {t : Tick} {s : State} {length : BitVec 16} {bytes : List Byte}

theorem execSpiWritePacket_held (h : (advance t s).gcp.spi.busy = true ∨ (advance t s).gcp.spi.replyReady = true) :
    execSpiWritePacket t length bytes s = .next (setSpi (fun r => { r with overrun := true }) (advance t s)) := by
  unfold execSpiWritePacket
  dsimp only
  rw [if_pos (Bool.or_eq_true_iff.2 h)]

/-- With the port free the framing alone decides. -/
theorem execSpiWritePacket_free (hb : (advance t s).gcp.spi.busy = false) (hr : (advance t s).gcp.spi.replyReady = false) :
    execSpiWritePacket t length bytes s =
      if spiFramed length.toNat bytes then
        .next (setSpi (fun r => { r with busy := true, held := bytes.take length.toNat, heldStamp := (advance t s).gtb }) (advance t s))
      else .next (setSpi (fun r => { r with framing := true }) (advance t s)) := by
  unfold execSpiWritePacket
  dsimp only
  rw [hb, hr, Bool.or_self, if_neg Bool.false_ne_true]

end

/-- The four bits of the status byte (Table 3.13). -/
theorem spiStatus_testBit (r : SpiRec) :
    (spiStatus r).testBit 0 = r.replyReady ∧ (spiStatus r).testBit 1 = r.busy ∧ (spiStatus r).testBit 2 = r.overrun ∧ (spiStatus r).testBit 3 = r.framing := by
  unfold spiStatus
  generalize r.replyReady = a, r.busy = b, r.overrun = c, r.framing = d
  revert a b c d
  decide

/-- Settles O27: the port is held, free and well framed, or free and ill framed; the status byte spells its four flags. -/
theorem spiPortEventsComplete : Obligations.SpiPortEventsComplete := by
  intro t s length bytes h r
  obtain ⟨hready, hbusy, hoverrun, hframing⟩ := spiStatus_testBit r
  have shown {i : Nat} (hi : i < 32) : (BitVec.ofNat 32 (spiStatus r)).getLsbD i = (spiStatus r).testBit i := by
    rw [BitVec.getLsbD_ofNat, decide_eq_true hi, Bool.true_and]
  refine ⟨execSpiWritePacket_held, fun hb hr hf => ?framed, fun hb hr hf => ?illFramed,
    ⟨_, rfl, (shown (by decide)).trans hready, (shown (by decide)).trans hbusy, (shown (by decide)).trans hoverrun, (shown (by decide)).trans hframing, rfl⟩,
    ⟨_, rfl, rfl, rfl, rfl⟩⟩
  case framed => exact (execSpiWritePacket_free hb hr).trans (if_pos hf)
  case illFramed => exact (execSpiWritePacket_free hb hr).trans (if_neg (ne_true_of_eq_false hf))

/-! ### Doorbells (R106) -/

/-- A full write that reaches a plain register has that register's effect, and clears the requester's pair latch (R578). -/
theorem reachWrite_plain {rq : Requester} {woff o : Nat} {w : Word} {s : State} (h : Plain rq woff o s) :
    reachWrite rq o w s = applyReg rq o w (dropLatch rq s) := by
  obtain ⟨-, hvalue, hcomplement, hchurn, hunlocked⟩ := h
  simp [reachWrite, hvalue, hcomplement, hchurn, hunlocked]

theorem busWrite_plain {rq : Requester} {woff o : Nat} {w : Word} {s : State} (h : Plain rq woff o s) :
    busWrite rq woff w 15#4 s = applyReg rq o w (dropLatch rq s) := by
  obtain ⟨-, hwindow, hoffset, hdirect, hallowed⟩ := h.lands
  simp [busWrite, offWrite, hwindow, hoffset, hdirect, hallowed, reachWrite_plain h]

theorem fullWrite_plain {rq : Requester} {woff o : Nat} {w : Word} {s : State} (h : Plain rq woff o s) :
    fullWrite rq woff w s = passHeld (portOf s rq.fn.val) (applyReg rq o w (dropLatch rq s)) := by
  rw [fullWrite, tlpWrite_of_unaimed h.lands.calm, busWrite_plain h]

@[simp] theorem dropLatch_gtb (rq : Requester) (s : State) : (dropLatch rq s).gtb = s.gtb := by
  unfold dropLatch
  split <;> rfl

/-- A VF window has ring 0 alone, at the offsets of the first ring of a PF window (R104). -/
theorem ringOff_doorbell {fn : Fn} {holm : Bool} (h : portExists (.ring fn holm) = true) : ringOff fn.val holm 0xC = 0x10C + 0x40 * bit holm := by
  unfold ringOff
  split
  · omega
  · have : holm = false := by simpa [portExists, *] using h
    simp [this, bit]

/-- A write of MGT_RINGn_DB rings the doorbell of its ring. -/
theorem applyReg_doorbell (rq : Requester) (holm : Bool) (w : Word) (s : State) :
    applyReg rq (0x10C + 0x40 * bit holm) w s = setRing rq.fn.val holm (doorbell (getF w Fld.MGT_RINGn_DB_PI) s.gtb) s := by
  cases holm with
  | false =>
    have hsnap : isSnapCtrl 0x10C = false := by decide
    have hreq : perRequester 0x10C = false := by decide
    simp [applyReg, writeMgt, isMsix, bit, hsnap, hreq]
  | true =>
    have hsnap : isSnapCtrl 0x14C = false := by decide
    have hreq : perRequester 0x14C = false := by decide
    simp [applyReg, writeMgt, isMsix, bit, hsnap, hreq]

theorem getF_doorbell (pi : BitVec 7) : getF (pi.setWidth 32) Fld.MGT_RINGn_DB_PI = pi.toNat := by
  have hpi := pi.isLt
  simp only [getF, natBits, Fld.MGT_RINGn_DB_PI, BitVec.toNat_setWidth, Nat.shiftRight_zero]
  omega

theorem execRingDoorbell_plain {t : Tick} {fn : Fn} {holm : Bool} {world : World} {pi : BitVec 7} {s : State} (hring : portExists (.ring fn holm) = true)
    (hwindow : portExists (.ring fn (world == .holm)) = true) (h : Plain ⟨fn, world⟩ (ringOff fn.val holm 0xC) (ringOff fn.val holm 0xC) (advance t s)) :
    execRingDoorbell t fn holm world pi s =
      .next (passHeld (portOf (advance t s) fn.val)
        (setRing fn.val holm (doorbell pi.toNat (advance t s).gtb) (dropLatch ⟨fn, world⟩ (advance t s)))) := by
  simp only [execRingDoorbell, hring, hwindow, Bool.and_self, if_true, fullWrite_plain h]
  rw [ringOff_doorbell hring, applyReg_doorbell, getF_doorbell, dropLatch_gtb]

theorem doorbellOk_iff (r : RingRec) (pi : Nat) :
    doorbellOk r pi = true ↔ modDist 128 r.ri pi ≤ 64 ∧ modDist 128 r.pi pi ≤ modDist 128 r.ri pi := by
  simp [doorbellOk]

theorem doorbell_accepted {r : RingRec} {pi : Nat} (stamp : Tick) (h : doorbellOk r pi = true) :
    doorbell pi stamp r = { r with pi := pi, stamps := r.stamps ++ List.replicate (modDist 128 r.pi pi) stamp } := by
  rw [doorbell, if_pos h]

theorem doorbell_ignored {r : RingRec} {pi : Nat} (stamp : Tick) (h : ¬ doorbellOk r pi = true) : doorbell pi stamp r = { r with dbOverrun := true } := by
  rw [doorbell, if_neg h]

theorem modDist_self {m a : Nat} (h : a < m) : modDist m a a = 0 := by
  rw [modDist, Nat.mod_eq_of_lt h, Nat.add_sub_cancel_left, Nat.mod_self]

/-- A doorbell that repeats PI makes no packet available. -/
theorem doorbell_repeated {r : RingRec} (stamp : Tick) (h : doorbellOk r r.pi = true) (hpi : r.pi < 128) : doorbell r.pi stamp r = r := by
  rw [doorbell_accepted stamp h, modDist_self hpi, List.replicate_zero, List.append_nil]

/-- Settles O52: the write reaches MGT_RINGn_DB, whose effect on the ring is `doorbell`. -/
theorem doorbellsAreJudgedByR106 : Obligations.DoorbellsAreJudgedByR106 := by
  intro t s fn holm world pi h rq off r dist accepted hring hwindow hplain
  have hok : doorbellOk r pi.toNat = true ↔ accepted := doorbellOk_iff r pi.toNat
  refine ⟨doorbell pi.toNat h.gtb r, execRingDoorbell_plain hring hwindow hplain, fun ha => ?accepted, fun ha hpi hlt => ?repeated,
    fun ha => doorbell_ignored _ (mt hok.1 ha)⟩
  case accepted =>
    rw [doorbell_accepted _ (hok.2 ha)]
    exact ⟨rfl, rfl⟩
  case repeated =>
    have hok' := hok.2 ha
    rw [hpi] at hok' ⊢
    exact doorbell_repeated _ hok' hlt

/-! ### Packets that wait and packets in ROM recovery (R70, R85, R107, R594) -/

section
variable {o : OpInfo} {t : Tick} {q : Request} {s : State} {g : Ctx → State → Ans}

theorem gcp_waits (hport : portExists q.port = true) (h : portReady o.code q (advance t s) = false) : gcp o t q g s = .next (advance t s) := by
  simp [gcp, hport, h]

/-- A stalled management plane takes no packet (R85). -/
theorem portReady_of_stalled {op : Nat} (hs : s.gcp.stalled = true) (hr : s.boot.recovery = none) : portReady op q s = false := by
  simp [portReady, mgmtUp, hs, hr]

/-- ROM recovery knows no opcode but IDENTIFY (R594). -/
theorem gcp_recovery (hport : portExists q.port = true) (h : portReady o.code q (advance t s) = true) (hr : s.boot.recovery.isSome = true)
    (ho : o.code ≠ 0x0100) : gcp o t q g s = .next (answer o (bareCtx t q s) false false (stOnly .unknownOpcode) (taken t q s)) := by
  have hr' : (advance t s).boot.recovery.isSome = true := hr
  simp only [gcp, if_pos hport, if_pos h, if_pos hr', serveRecovery, if_neg ho]
  rfl

end

/-- Settles O12: every row of the table is a `gcp`, and the three cases are those of a packet it does not serve. -/
theorem unservedRequestsWait : Obligations.UnservedRequestsWait := by
  intro i o t q s hrow hport
  obtain ⟨g, hg⟩ := gcpRow_exec hrow
  rw [hg]
  exact ⟨gcp_waits hport, fun hs hr => gcp_waits hport (portReady_of_stalled hs hr), gcp_recovery hport⟩

/-! ### Requests ended by the checks of Table 3.4 (R100 to R102)

What a served request comes to for each verdict that does not reach the opcode's own checks. -/

section
variable {o : OpInfo} {t : Tick} {q : Request} {s : State} {g : Ctx → State → Ans} {x : Session}

@[simp] theorem sessionOf_taken (tag : Word) : sessionOf (taken t q s) tag = sessionOf s tag := by
  rw [sessionOf, (reply_taken t q s).sessions]
  rfl

theorem serveRequest_refuse {st : Status} {mac : Bool} (h : verdict o q (stampOf t q s) (taken t q s) = .refuse st mac) :
    serveRequest o q g (advance t s) =
      answer o { bareCtx t q s with ses := sessionOf s q.pkt.tag } mac false (stOnly st) (taken t q s) := by
  rw [← sessionOf_taken (t := t) (q := q)]
  unfold stampOf taken at h
  simp only [serveRequest, h]
  rfl

theorem serveRequest_dup {pay : List Byte} (ho : o.dupE = false) (h : verdict o q (stampOf t q s) (taken t q s) = .dup x pay) :
    serveRequest o q g (advance t s) =
      answer o { bareCtx t q s with ses := some x } (replyMac o x) true pay (setSession x.tag (fun y => { y with r := stampOf t q s }) (taken t q s)) := by
  unfold stampOf taken at h
  simp only [serveRequest, h, ho]
  rfl

theorem serveRequest_new_refused {st : Status} (h : verdict o q (stampOf t q s) (taken t q s) = .new x (some st)) :
    serveRequest o q g (advance t s) = finished o (ctxOf t q s x) x (stOnly st) (handed t q s x) := by
  unfold stampOf taken at h
  simp only [serveRequest, h]
  rfl

theorem setSession_taken_sessions (tag : Word) (f : Session → Session) :
    (setSession tag f (taken t q s)).gcp.sessions = s.gcp.sessions.map (fun y => if y.tag = tag then f y else y) := by
  simp [setSession, (reply_taken t q s).sessions]

/-- The session of a refused new request: its window moves, its sequence number is consumed, and its cache keeps the reply among the 64 latest (R100, R101, R132). -/
theorem cacheReply_handed_sessions (hx : x.tag = q.pkt.tag) (pay : List Byte) :
    (cacheReply (ctxOf t q s x) pay (handed t q s x)).gcp.sessions = s.gcp.sessions.map (fun y => if y.tag = x.tag then
      { y with r := stampOf t q s, h := q.pkt.seq,
               cache := (y.cache ++ [({ seq := q.pkt.seq, trailer := trailerOf q.pkt, payload := pay } : CacheEntry)]).drop (y.cache.length + 1 - 64) } else y) := by
  rw [cacheReply, handed, setSession, setSession_taken_sessions, List.map_map]
  refine List.map_congr_left fun y _ => ?_
  by_cases hy : y.tag = x.tag <;> simp [ctxOf, ← hx, hy]

end

/-- Settles O10: the reply leaves all but its own path alone (`ReplyKeeps`), and the refusals at steps 8 to 11 have touched the sessions before it. -/
theorem refusedRequestsAndTheirSequence : Obligations.RefusedRequestsAndTheirSequence := by
  intro i o t q s hrow hserved
  obtain ⟨g, hg⟩ := gcpRow_exec hrow
  have hexec : exec i s = .next (serveRequest o q g (advance t s)) := (hg s).trans (gcp_served hserved)
  have htaken : ReplyKeeps (advance t s) (taken t q s) := reply_taken t q s
  refine ⟨fun st mac hv => ?early, fun x st hv => ?late⟩
  case early =>
    rw [hexec, serveRequest_refuse hv]
    have k := htaken.trans (reply_answer o { bareCtx t q s with ses := sessionOf s q.pkt.tag } mac false (stOnly st) (taken t q s))
    exact ⟨_, rfl, rfl, k.sessions, k.contracts, k.regs, k.shadow, k.reqRegs, k.tabs, k.tabShadow, k.dpa, k.maps, k.iso, k.boot, k.pwr, k.disp, k.rg,
      k.ren, k.trv, k.sense, k.aud, k.mv⟩
  case late =>
    rw [hexec, serveRequest_new_refused hv, finished]
    have k := reply_answer o (ctxOf t q s x) (replyMac o x) false (stOnly st) (cacheReply (ctxOf t q s x) (stOnly st) (handed t q s x))
    exact ⟨_, rfl, k.sessions.trans (cacheReply_handed_sessions (verdict_tag hv) _), k.contracts.trans htaken.contracts, k.regs.trans htaken.regs,
      k.shadow.trans htaken.shadow, k.reqRegs.trans htaken.reqRegs, k.dpa.trans htaken.dpa, k.maps.trans htaken.maps, k.iso.trans htaken.iso,
      k.boot.trans htaken.boot, k.pwr.trans htaken.pwr, k.disp.trans htaken.disp⟩

/-! #### Sending a reply leaves the ledger alone

`ReplyKeeps` names the contracts only, because a refused contract packet counts in its function's account (R90). -/

@[simp] theorem wrHost_ledger (port a : Nat) (bs : List Byte) (s : State) : (wrHost port a bs s).ledger = s.ledger := by
  induction bs generalizing a s with
  | nil => rfl
  | cons b bs ih => rw [wrHost, ih]

@[simp] theorem meetFaults_ledger (target inst dir tile : Nat) (s : State) : (meetFaults target inst dir tile s).2.ledger = s.ledger := by
  unfold meetFaults
  refine List.foldlRecOn (motive := fun a : List Nat × State => a.2.ledger = s.ledger) _ _ rfl ?_
  intro a ha f _
  dsimp only
  split <;> split <;> exact ha

@[simp] theorem outTlp_ledger (port a : Nat) (bs : List Byte) (s : State) : (outTlp port a bs s).ledger = s.ledger := by
  unfold outTlp
  dsimp only
  split
  · split <;> simp
  · split <;> split <;> simp

@[simp] theorem hostWrite_ledger (port n a : Nat) (bs : List Byte) (s : State) : (hostWrite port n a bs s).ledger = s.ledger := by
  induction n generalizing a bs s with
  | zero => rfl
  | succ n ih =>
    unfold hostWrite
    split
    · rfl
    · rw [ih, outTlp_ledger]

@[simp] theorem sendMsix_ledger (fn vec : Nat) (s : State) : (sendMsix fn vec s).ledger = s.ledger := by
  unfold sendMsix
  dsimp only
  split
  · rfl
  · exact hostWrite_ledger ..

@[simp] theorem completePort_ledger (p : Port) (r : Option (List Byte)) (s : State) : (completePort p r s).ledger = s.ledger := by
  cases p with
  | spi => cases r <;> rfl
  | ring fn holm =>
    unfold completePort
    cases r <;> (dsimp only; split <;> simp)

/-- A reply sent again counts no refused contract. -/
theorem answer_replayed_ledger (o : OpInfo) (c : Ctx) (mac : Bool) (pay : List Byte) (s : State) : (answer o c mac true pay s).ledger = s.ledger := by
  simp [answer]

theorem taken_ledger (t : Tick) (q : Request) (s : State) : (taken t q s).ledger = s.ledger := by
  unfold taken takePacket
  split <;> rfl

/-- Settles O11: the stored reply goes out again over a state in which the session's window alone has moved. -/
theorem duplicatesAreAnsweredFromTheCache : Obligations.DuplicatesAreAnsweredFromTheCache := by
  intro i o t q s x pay hrow hserved ho hv
  obtain ⟨g, hg⟩ := gcpRow_exec hrow
  have htaken : ReplyKeeps (advance t s) (taken t q s) := reply_taken t q s
  rw [hg, gcp_served hserved, serveRequest_dup ho hv]
  have k := reply_answer o { bareCtx t q s with ses := some x } (replyMac o x) true pay
    (setSession x.tag (fun y => { y with r := stampOf t q s }) (taken t q s))
  exact ⟨_, rfl, rfl, k.sessions.trans (setSession_taken_sessions ..), k.contracts.trans htaken.contracts,
    congrArg LedgerState.acct ((answer_replayed_ledger ..).trans (taken_ledger t q s)), k.regs.trans htaken.regs, k.shadow.trans htaken.shadow,
    k.dpa.trans htaken.dpa, k.boot.trans htaken.boot, k.disp.trans htaken.disp⟩

/-! ### Register lists (R114 to R116, R203) -/

/-- A list passes its checks: its count is in range, the block it names exists, its entries lie inside that block, and none of them is refused. -/
structure ListSound (cls : Nat) (write : Bool) (base size : Nat) (c : Ctx) (s : State) : Prop where
  counted : 0 < leAt c.pay 2 2 ∧ leAt c.pay 2 2 ≤ 508
  placed : listInstance cls (leAt c.pay 0 1) (leAt c.pay 1 1) = .ok (base, size)
  inside : badEntry size (listEntries write c.pay (leAt c.pay 2 2)) = none
  allowed : listRefusal s (ctxRequester c) write base (listEntries write c.pay (leAt c.pay 2 2)) = none

section
variable {cls base size : Nat} {c : Ctx} {s u : State}

theorem doList_applied (hq : fnQuiet s c.fn = false) (h : ListSound cls true base size c s)
    (hu : listApply (ctxRequester c) base (listEntries true c.pay (leAt c.pay 2 2)) (dropLatch (ctxRequester c) s) = some u) :
    doList cls true c s = .reply (stDone []) u := by
  obtain ⟨hcount, hplaced, hinside, hallowed⟩ := h
  have hcount' : ¬(leAt c.pay 2 2 = 0 ∨ 508 < leAt c.pay 2 2) := by omega
  simp [doList, hq, hcount', hplaced, hinside, hallowed, hu]

/-- A read list is read whether or not its function is quiesced. -/
theorem doList_read (h : ListSound cls false base size c s) :
    doList cls false c s = .reply (stDone (listRead (ctxRequester c) base (listEntries false c.pay (leAt c.pay 2 2)) s).1)
      (listRead (ctxRequester c) base (listEntries false c.pay (leAt c.pay 2 2)) s).2 := by
  obtain ⟨hcount, hplaced, hinside, hallowed⟩ := h
  have hcount' : ¬(leAt c.pay 2 2 = 0 ∨ 508 < leAt c.pay 2 2) := by omega
  simp [doList, hcount', hplaced, hinside, hallowed]

theorem doList_quiet (hq : fnQuiet s c.fn = true) : doList cls true c s = .reply (stOnly .functionQuiesced) s := by
  simp [doList, hq]

theorem doList_badCount (hq : fnQuiet s c.fn = false) (h : leAt c.pay 2 2 = 0 ∨ 508 < leAt c.pay 2 2) :
    doList cls true c s = .reply (stOff .paramInvalid 2) s := by
  simp [doList, hq, h]

end

/-- Settles O20: the eight opcodes are one operation, `doList`, at a class and a direction. -/
theorem registerListsComplete : Obligations.RegisterListsComplete := by
  intro t q s x base size c h p fn rq count es shape applied read quieted badCount
  have sound {cls : Nat} {w : Bool} : shape cls w → ListSound cls w base size c h := by
    rintro ⟨hleast, hmost, hplaced, hinside, hallowed⟩
    exact ⟨⟨hleast, hmost⟩, hplaced, hinside, hallowed⟩
  have writes {o : OpInfo} {cls : Nat} {i : Instr} (hi : exec i s = gcp o t q (doList cls true) s) : applied o cls i := fun u a hq hs hu =>
    hi.trans (gcp_reply a (doList_applied hq (sound hs) hu))
  have reads {o : OpInfo} {cls : Nat} {i : Instr} (hi : exec i s = gcp o t q (doList cls false) s) : read o cls i := fun a hs =>
    hi.trans (gcp_reply a (doList_read (sound hs)))
  have quiets {o : OpInfo} {cls : Nat} {i : Instr} (hi : exec i s = gcp o t q (doList cls true) s) : quieted o i := fun a hq =>
    hi.trans (gcp_reply a (doList_quiet hq))
  have counts {o : OpInfo} {cls : Nat} {i : Instr} (hi : exec i s = gcp o t q (doList cls true) s) : badCount o i := fun a hq hc =>
    hi.trans (gcp_reply a (doList_badCount hq hc))
  exact ⟨writes rfl, writes rfl, writes rfl, writes rfl, reads rfl, reads rfl, reads rfl, reads rfl,
    quiets rfl, quiets rfl, quiets rfl, quiets rfl, counts rfl, counts rfl, counts rfl, counts rfl⟩

/-! ### Which commands are executed (R104, R148)

Only a ring or an aperture that its window does not have stops a command; every other condition of a command chooses between next states. -/

/-- An outcome is a next state if the windows that its command names are there, and the fault if they are not. -/
def ExecutedIff (there : Bool) (x : Out) : Prop := (there = true → ∃ u, x = .next u) ∧ (there = false → x = .fault .noSuchWindow)

theorem executedIff_next (u : State) : ExecutedIff true (.next u) := ⟨fun _ => ⟨u, rfl⟩, Bool.noConfusion⟩

theorem executedIff_ite {there : Bool} {p : Prop} [Decidable p] {a b : Out} (ha : ExecutedIff there a) (hb : ExecutedIff there b) :
    ExecutedIff there (if p then a else b) := by
  split
  · exact ha
  · exact hb

/-- A command that asks first whether its window is there. -/
theorem executedIff_window {there : Bool} {x : Out} (hx : ExecutedIff true x) : ExecutedIff there (if there then x else .fault .noSuchWindow) := by
  cases there with
  | true => exact hx
  | false => exact ⟨Bool.noConfusion, fun _ => rfl⟩

theorem executedIff_gcp (o : OpInfo) (t : Tick) (q : Request) (g : Ctx → State → Ans) (s : State) : ExecutedIff q.there (gcp o t q g s) := by
  refine executedIff_window ?_
  dsimp only
  exact executedIff_ite (executedIff_next _) (executedIff_next _)

/-- First the commands that name a ring or an aperture, then the requests on a port, then by their units the commands that branch on what they find in the state, and last those
whose every condition is a test. -/
theorem exec_executedIff_wellFormed (c : Instr) (s : State) : ExecutedIff c.wellFormed (exec c s) := by
  cases c with
  | ringDoorbell | ringReset | eqReadIndexWrite | ringResetTakesEffect | authLockEnd => exact executedIff_window (executedIff_next _)
  | ringFetchError => exact executedIff_window (executedIff_ite (executedIff_next _) (executedIff_next _))
  | pcieCompletionTimeout t ring =>
    cases ring with
    | none => exact executedIff_next _
    | some => exact executedIff_window (executedIff_ite (executedIff_next _) (executedIff_next _))
  | identify | sessionOpen | sessionProve | sessionClose | sessionKeepalive | contractCancel | contractQuery | reserveSet | ledgerRead | displayWrite | displayRead |
  commit | creamUpdate | outputStatus | renderSubmit | computeSubmit | fenceRead | touchWrite | touchRead | touchCalibrate | hapticWrite | hapticRead | hapticPlay |
  hapticCalibrate | audioWrite | audioRead | streamOpen | streamClose | audioQueue | memMap | memUnmap | dmaSubmit | checkSubmit | checkResult | fnCreate | fnQuiesce |
  fnResume | fnReset | fnRemove | fnSave | fnRestore | evidenceRead | measureRead | isoLogRead | dumpRead | selftest | fwWrite | fwActivate | faultArm | faultDisarm |
  faultStatus | blockPowerGate | blockPowerWake | clockSet | powerStateStandby | powerStateRun | powerStatus =>
    exact executedIff_gcp ..
  -- sessions and the ledger
  | pendingLimit | expiredTagRelease | idleOrLifetimeExpiry | instanceRelease | contractDeadline | sectionBound =>
    dsimp only [exec, Instr.wellFormed, execPendingLimit, execExpiredTagRelease, execIdleOrLifetimeExpiry, execInstanceRelease, execContractDeadline,
      execSectionBound]
    repeat' first | exact executedIff_next _ | apply executedIff_ite | split
  -- worlds and memory
  | isoOwnClaimDone | isoOwnReleaseDone | gateRet | holmInterrupt | mainlandReturn | pageZeroFillDone | memFault =>
    dsimp only [exec, Instr.wellFormed, execIsoOwnClaimDone, execIsoOwnReleaseDone, execGateRet, execHolmInterrupt, execMainlandReturn, execPageZeroFillDone,
      execMemFault]
    repeat' first | exact executedIff_next _ | apply executedIff_ite | split
  -- jobs and shader cores
  | vertexPhaseDone | vertexBatchEnd | tileDispatch | tileStoreDone | commandFault | programFault | dispatchBegin | workgroupDone | jobDelivered | compositorPreempt |
  mainlandSwap | skim | skimDone | stripDuePoint =>
    dsimp only [exec, Instr.wellFormed, execVertexPhaseDone, execVertexBatchEnd, execTileDispatch, execTileStoreDone, execCommandFault, execProgramFault,
      execDispatchBegin, execWorkgroupDone, execJobDelivered, execCompositorPreempt, execMainlandSwap, execSkim, execSkimDone, execStripDuePoint]
    repeat' first | exact executedIff_next _ | apply executedIff_ite | split
  -- frames, traversal, video input and links
  | queueFrameComplete | trvArmComplete | traversalRenderStart | traversalRenderDone | viewApply | writebackLine | vinFrameReceived | vinCaptureComplete |
  firstLatchNewTiming | cursorExpressPath | creamWorkStart | creamWorkDone | evidenceRecord | linkTrainingAttempt | linkRetry | sbTransactionEnd |
  heldTlpRelease =>
    dsimp only [exec, Instr.wellFormed, execQueueFrameComplete, execTrvArmComplete, execTraversalRenderStart, execTraversalRenderDone, execViewApply,
      execWritebackLine, execVinFrameReceived, execVinCaptureComplete, execFirstLatchNewTiming, execCursorExpressPath, execCreamWorkStart,
      execCreamWorkDone, execEvidenceRecord, execLinkTrainingAttempt, execLinkRetry, execSbTransactionEnd, execHeldTlpRelease]
    repeat' first | exact executedIff_next _ | apply executedIff_ite | split
  -- touch, haptics, audio and transfers
  | touchCalibrationDone | touchScanEnd | touchStuckRelease | hapticCalibrationDone | hapticDriveBegin | hapticDriveEnd | brakingUnitEnd | hapticOnMax |
  hapticBudgetSpent | overcurrent | attentionEnd | dmaSetLoad | dmaSetDone | cvPaused | cvJobDone =>
    dsimp only [exec, Instr.wellFormed, execTouchCalibrationDone, execTouchScanEnd, execTouchStuckRelease, execHapticCalibrationDone, execHapticDriveBegin,
      execHapticDriveEnd, execBrakingUnitEnd, execHapticOnMax, execHapticBudgetSpent, execOvercurrent, execAttentionEnd, execDmaSetLoad, execDmaSetDone,
      execCvPaused, execCvJobDone]
    repeat' first | exact executedIff_next _ | apply executedIff_ite | split
  -- clocks, resets, registers and boot
  | sourceSwitch | blockResetDone | dieSensorRead | pairLatchLapse | dumpStreakClear | dumpComplete | selftestComplete =>
    dsimp only [exec, Instr.wellFormed, execSourceSwitch, execBlockResetDone, execDieSensorRead, execPairLatchLapse, execDumpStreakClear, execDumpComplete,
      execSelftestComplete]
    repeat' first | exact executedIff_next _ | apply executedIff_ite | split
  | _ => repeat' first | exact executedIff_next _ | apply executedIff_ite

/-- Settles O4: a command names a window that is not there just when it is ill formed, and nothing else stops it. -/
theorem everyReachableCommandIsExecuted : Obligations.EveryReachableCommandIsExecuted := exec_executedIff_wellFormed

end Sys2Proof.Proofs

namespace Sys2Proof.Proofs

open Sys2Proof Sys2Proof.Machine Sys2Proof.Laws

/-! ### Requests on ended sessions (R132, R135) -/

section
variable {o : OpInfo} {t : Tick} {q : Request} {s : State} {g : Ctx → State → Ans} {x : Session} {e : Tick}

theorem serveRequest_expire (ho : x.state = .opened) (h : verdict o q (stampOf t q s) (taken t q s) = .expire x e) :
    serveRequest o q g (advance t s) =
      answer o { bareCtx t q s with ses := some x } (replyMac o x) false (stOnly .sessionExpired) (expireSession x.tag e (taken t q s)) := by
  unfold stampOf taken at h
  simp only [serveRequest, h, if_pos ho]
  rfl

/-- Expiring a session touches its slot alone. -/
theorem expireSession_sessions (tag : Word) (e : Tick) (s : State) :
    (expireSession tag e s).gcp.sessions =
      s.gcp.sessions.map (fun y => if y.tag = tag then { y with state := .expired, expiredAt := e, cache := [] } else y) := by
  simp [expireSession, disarmSession, disarm, setLnk, setSession]

theorem mem_expireSession_expired {tag : Word} {y : Session} (hy : y ∈ (expireSession tag e s).gcp.sessions) (ht : y.tag = tag) :
    y.state = .expired ∧ y.expiredAt = e ∧ y.cache = [] := by
  rw [expireSession_sessions] at hy
  obtain ⟨z, -, rfl⟩ := List.mem_map.1 hy
  by_cases hz : z.tag = tag
  · simp [hz]
  · simp [hz] at ht

theorem mem_expireSession_other {tag : Word} {y : Session} (hy : y ∈ s.gcp.sessions) (ht : y.tag ≠ tag) :
    y ∈ (expireSession tag e s).gcp.sessions := by
  rw [expireSession_sessions]
  exact List.mem_map.2 ⟨y, hy, if_neg ht⟩

end

/-- Settles O13: the reply leaves alone the sessions, contracts and registers that expiring the session left. -/
theorem requestsOnEndedSessionsExpire : Obligations.RequestsOnEndedSessionsExpire := by
  intro i o t q s x e hrow hserved hv ho
  obtain ⟨g, hg⟩ := gcpRow_exec hrow
  have htaken : ReplyKeeps (advance t s) (taken t q s) := reply_taken t q s
  have k := reply_answer o { bareCtx t q s with ses := some x } (replyMac o x) false (stOnly .sessionExpired) (expireSession x.tag e (taken t q s))
  rw [hg, gcp_served hserved, serveRequest_expire ho hv]
  refine ⟨_, rfl, rfl, fun y hy => ?expired, fun y hy ht => ?others, k.contracts.trans htaken.contracts, k.regs.trans htaken.regs⟩
  case expired =>
    rw [k.sessions] at hy
    exact mem_expireSession_expired hy
  case others =>
    rw [k.sessions]
    exact mem_expireSession_other (htaken.sessions ▸ hy) ht

/-! ### Fresh session tags (R118)

The walk of `freshTag` tries consecutive words. It passes over 0 and the tags that slots hold, so among more words than those it finds one. -/

/-- A tag that R118 lets a new session have. -/
def TagFree (s : State) (w : Word) : Prop := w ≠ 0#32 ∧ sessionOf s w = none

theorem sessionOf_eq_none_iff (s : State) (w : Word) : sessionOf s w = none ↔ w ∉ s.gcp.sessions.map Session.tag := by
  simp [sessionOf]

theorem freshTag_of_free {s : State} {n : Nat} (k : Nat) (h : TagFree s (BitVec.ofNat 32 n)) : freshTag s (k + 1) n = BitVec.ofNat 32 n := by
  obtain ⟨hzero, hheld⟩ := h
  simp [freshTag, hzero, hheld]

theorem freshTag_of_not_free {s : State} {n : Nat} (k : Nat) (h : ¬ TagFree s (BitVec.ofNat 32 n)) : freshTag s (k + 1) n = freshTag s k (n + 1) :=
  if_neg fun ⟨hzero, hheld⟩ => h ⟨hzero, Option.isNone_iff_eq_none.1 hheld⟩

/-- The walk ends on a free tag where it comes past one. -/
theorem tagFree_freshTag {s : State} {k n : Nat} (h : ∃ i < k, TagFree s (BitVec.ofNat 32 (n + i))) : TagFree s (freshTag s k n) := by
  induction k generalizing n with
  | zero =>
    obtain ⟨i, hi, -⟩ := h
    exact absurd hi (Nat.not_lt_zero i)
  | succ k ih =>
    by_cases hn : TagFree s (BitVec.ofNat 32 n)
    · rwa [freshTag_of_free k hn]
    · rw [freshTag_of_not_free k hn]
      obtain ⟨i, hi, hfree⟩ := h
      cases i with
      | zero => exact absurd hfree hn
      | succ i => exact ih ⟨i, Nat.lt_of_succ_lt_succ hi, by rwa [Nat.add_assoc, Nat.add_comm 1 i]⟩

/-- Words that follow each other differ until they wrap. -/
theorem ofNat_add_ne {m i j : Nat} (n : Nat) (hm : m ≤ 2 ^ 32) (hij : i < j) (hj : j < m) : BitVec.ofNat 32 (n + i) ≠ BitVec.ofNat 32 (n + j) := by
  intro h
  have hmod := congrArg BitVec.toNat h
  simp only [BitVec.toNat_ofNat] at hmod
  omega

/-- A list that holds as many words, no two alike, is at least that long. -/
theorem le_length_of_distinct_mem {f : Nat → Word} {m : Nat} {l : List Word} (hne : ∀ i j, i < j → j < m → f i ≠ f j) (hmem : ∀ i < m, f i ∈ l) :
    m ≤ l.length := by
  induction m generalizing l with
  | zero => exact Nat.zero_le _
  | succ m ih =>
    have hlast : f m ∈ l := hmem m (Nat.lt_succ_self m)
    have hrest : m ≤ (l.erase (f m)).length :=
      ih (fun i j hij hj => hne i j hij (Nat.lt_succ_of_lt hj))
        (fun i hi => (List.mem_erase_of_ne (hne i m hi (Nat.lt_succ_self m))).2 (hmem i (Nat.lt_succ_of_lt hi)))
    have hpos : 0 < l.length := List.length_pos_of_mem hlast
    rw [List.length_erase_of_mem hlast] at hrest
    omega

/-- The words that R118 bars: 0 and the tags that slots hold. -/
def barredTags (s : State) : List Word := 0#32 :: s.gcp.sessions.map Session.tag

theorem length_barredTags (s : State) : (barredTags s).length = s.gcp.sessions.length + 1 := by
  rw [barredTags, List.length_cons, List.length_map]

theorem tagFree_iff (s : State) (w : Word) : TagFree s w ↔ w ∉ barredTags s := by
  rw [barredTags, List.mem_cons, not_or, ← sessionOf_eq_none_iff, TagFree]

/-- Of two words more than slots are held, one is free. -/
theorem exists_tagFree {s : State} (n : Nat) (h : s.gcp.sessions.length < 2 ^ 31) :
    ∃ i < s.gcp.sessions.length + 2, TagFree s (BitVec.ofNat 32 (n + i)) := by
  refine Classical.byContradiction fun hnone => ?_
  have hbarred : ∀ i < s.gcp.sessions.length + 2, BitVec.ofNat 32 (n + i) ∈ barredTags s := fun i hi =>
    Classical.byContradiction fun hfree => hnone ⟨i, hi, (tagFree_iff s _).2 hfree⟩
  have hlength := le_length_of_distinct_mem (fun i j => ofNat_add_ne n (by omega)) hbarred
  rw [length_barredTags] at hlength
  omega

/-! ### The session commands (chapter 4)

What each opcode's own step answers; the request around it is `gcp_reply`, or `gcp_reply_free` for a request without a session. -/

/-- A request without a session whose own checks answer with a reply ends with that reply (R121). -/
theorem gcp_reply_free {o : OpInfo} {t : Tick} {q : Request} {s u : State} {g : Ctx → State → Ans} {pay : List Byte} (k : Served o t q s)
    (hv : verdict o q (stampOf t q s) (taken t q s) = .free none) (hg : g (bareCtx t q s) (taken t q s) = .reply pay u) :
    gcp o t q g s = .next (answer o (bareCtx t q s) false false pay u) := by
  rw [gcp_served k]
  unfold stampOf taken at hv
  unfold bareCtx stampOf taken at hg
  simp only [serveRequest, hv, hg]
  rfl

/-- SESSION_OPEN makes 33 draws: one for the tag, 32 for the nonce (R118, R122). -/
def openDrawn (s : State) : State := { s with drawn := s.drawn + 33 }

def openTag (s : State) : Word := freshTag (openDrawn s) (s.gcp.sessions.length + 2) (Config.random s.drawn)

def openNonce (s : State) : List Byte := (List.range 32).map (fun i => BitVec.ofNat 8 (Config.random (s.drawn + 1 + i)))

/-- The state with the new slot. -/
def sessionOpened (c : Ctx) (s : State) (ver : Nat × Nat) : State :=
  { openDrawn s with gcp := { s.gcp with sessions := s.gcp.sessions ++ [newSession c s (openTag s) (openNonce s) ver] } }

theorem tagFree_openTag {s : State} (h : s.gcp.sessions.length < 2 ^ 31) : TagFree s (openTag s) :=
  tagFree_freshTag (exists_tagFree (s := openDrawn s) (Config.random s.drawn) h)

theorem doSessionOpen_of_checks {c : Ctx} {s : State} {ver : Nat × Nat} (hc : sessionOpenCheck c s = none)
    (hv : grantVersion (leAt c.pay 1 1) (leAt c.pay 2 1) = some ver) :
    doSessionOpen c s =
      .reply (stDone (le 4 (openTag s).toNat ++ le 1 ver.1 ++ le 1 ver.2 ++ le 2 0 ++ openNonce s)) (sessionOpened c s ver) := by
  simp only [doSessionOpen, hc, hv]
  rfl

section
variable {c : Ctx} {s : State} {x : Session} {k : List Byte} {hm lab : Bool} {mask : Nat}

theorem doSessionProve_right (hx : c.ses = some x) (hk : keyOf s x.keyId = some (k, hm, lab, mask)) (hp : slice c.pay 0 32 = hmac k (proofInput x false)) :
    doSessionProve c s = .reply (stDone (hmac k (proofInput x true))) (setSession x.tag (fun y => { y with state := .opened, pk := packetKey x k }) s) := by
  simp [doSessionProve, hx, hk, hp]

theorem doSessionProve_wrong (hx : c.ses = some x) (hk : keyOf s x.keyId = some (k, hm, lab, mask)) (hp : slice c.pay 0 32 ≠ hmac k (proofInput x false)) :
    doSessionProve c s = .reply (stOnly .authFailed)
      (freeSession x.tag { s with gcp := { s.gcp with auth := tmod {} s.gcp.auth (portKey c.port) (authFail c.stamp) } }) := by
  simp [doSessionProve, hx, hk, hp]

theorem doSessionKeepalive_some (hx : c.ses = some x) :
    doSessionKeepalive c s = .reply (stDone (le 8 s.gtb ++ le 8 (expiry { x with r := c.stamp }))) s := by
  simp [doSessionKeepalive, hx]

theorem doSessionClose_some (hx : c.ses = some x) : doSessionClose c s = .reply (stDone []) (freeSession x.tag s) := by
  simp [doSessionClose, hx]

end

/-- Settles O14: a request that goes through ends with what its opcode's own step answers; the tag of SESSION_OPEN is free by counting. -/
theorem sessionCommandsComplete : Obligations.SessionCommandsComplete := by
  intro t q s x c b h f p
  refine ⟨fun a => gcp_reply a rfl, fun k hv => gcp_reply_free k hv rfl, fun ver k hv hc hver => ?opens,
    fun _ _ _ _ a hk hp => gcp_reply a (doSessionProve_right rfl hk hp), fun _ _ _ _ a hk hp => gcp_reply a (doSessionProve_wrong rfl hk hp),
    fun a => gcp_reply a (doSessionKeepalive_some rfl), fun a => gcp_reply a (doSessionClose_some rfl)⟩
  case opens =>
    exact ⟨openTag f, openNonce f, sessionOpened b f ver, tagFree_openTag, rfl, rfl, rfl, rfl, gcp_reply_free k hv (doSessionOpen_of_checks hc hver)⟩

end Sys2Proof.Proofs

namespace Sys2Proof.Proofs

open Sys2Proof Sys2Proof.Machine Sys2Proof.Laws

/-! ### The ISO log and its notices (R179 to R183) -/

/-- Storing a byte of device memory touches the device memory alone. -/
theorem wrDpa_eq (a : Nat) (b : Byte) (s : State) : wrDpa a b s = { s with mem := (wrDpa a b s).mem } := by
  unfold wrDpa
  split <;> rfl

theorem wrDpaBytes_eq (bs : List Byte) (a : Nat) (s : State) : wrDpaBytes a bs s = { s with mem := (wrDpaBytes a bs s).mem } := by
  induction bs generalizing a s with
  | nil => rfl
  | cons b bs ih =>
    rw [wrDpaBytes, ih, wrDpa_eq]

@[simp] theorem wrDpaBytes_iso (bs : List Byte) (a : Nat) (s : State) : (wrDpaBytes a bs s).iso = s.iso := by rw [wrDpaBytes_eq]
@[simp] theorem wrDpaBytes_regs (bs : List Byte) (a : Nat) (s : State) : (wrDpaBytes a bs s).regs = s.regs := by rw [wrDpaBytes_eq]
@[simp] theorem wrDpaBytes_gcp (bs : List Byte) (a : Nat) (s : State) : (wrDpaBytes a bs s).gcp = s.gcp := by rw [wrDpaBytes_eq]

@[simp] theorem ringMirror_iso (e : IsoEntry) (s : State) : (ringMirror e s).iso = s.iso := wrDpaBytes_iso ..
@[simp] theorem ringMirror_regs (e : IsoEntry) (s : State) : (ringMirror e s).regs = s.regs := wrDpaBytes_regs ..
@[simp] theorem ringMirror_gcp (e : IsoEntry) (s : State) : (ringMirror e s).gcp = s.gcp := wrDpaBytes_gcp ..

/-- What draining entries leaves alone: the FIFO, the count of entries and of lost events, the registers and the sessions. -/
structure DrainKeeps (s u : State) : Prop where
  fifo : u.iso.fifo = s.iso.fifo
  nextIndex : u.iso.nextIndex = s.iso.nextIndex
  lost : u.iso.lost = s.iso.lost
  regs : u.regs = s.regs
  gcp : u.gcp = s.gcp

theorem drainOne_keeps (s : State) (e : IsoEntry) : DrainKeeps s (drainOne s e) where
  fifo := by rw [drainOne, setIso_iso, ringMirror_iso]
  nextIndex := by rw [drainOne, setIso_iso, ringMirror_iso]
  lost := by rw [drainOne, setIso_iso, ringMirror_iso]
  regs := by rw [drainOne, setIso_regs, ringMirror_regs]
  gcp := by rw [drainOne, setIso_gcp, ringMirror_gcp]

theorem DrainKeeps.trans {s u v : State} (h : DrainKeeps s u) (k : DrainKeeps u v) : DrainKeeps s v :=
  ⟨k.fifo.trans h.fifo, k.nextIndex.trans h.nextIndex, k.lost.trans h.lost, k.regs.trans h.regs, k.gcp.trans h.gcp⟩

theorem drain_keeps (es : List IsoEntry) (s : State) : DrainKeeps s (es.foldl drainOne s) := by
  induction es generalizing s with
  | nil => exact ⟨rfl, rfl, rfl, rfl, rfl⟩
  | cons e es ih =>
    rw [List.foldl_cons]
    exact (drainOne_keeps s e).trans (ih _)

theorem drainOne_ring (s : State) (e : IsoEntry) : (drainOne s e).iso.ring = (s.iso.ring ++ [e]).drop (s.iso.ring.length + 1 - 4096) := by
  rw [drainOne, setIso_iso, ringMirror_iso]

theorem drainOne_ringNext (s : State) (e : IsoEntry) : (drainOne s e).iso.ringNext = (e.index + 1) % 2 ^ 32 := rfl

/-- Cutting to the newest `m` entries one by one is cutting once at the end. -/
theorem drop_append_drop {α : Type} (l es : List α) (m : Nat) :
    (l.drop (l.length - m) ++ es).drop ((l.drop (l.length - m)).length + es.length - m) = (l ++ es).drop (l.length + es.length - m) := by
  rw [← List.drop_append_of_le_length (by omega), List.drop_drop, List.length_drop]
  congr 1
  omega

/-- A drain moves the entries to the ring in their order and keeps its newest 4,096 (R180). -/
theorem drain_ring (es : List IsoEntry) (s : State) (h : s.iso.ring.length ≤ 4096) :
    (es.foldl drainOne s).iso.ring = (s.iso.ring ++ es).drop (s.iso.ring.length + es.length - 4096) := by
  induction es generalizing s with
  | nil => simp [Nat.sub_eq_zero_of_le h]
  | cons e es ih =>
    have hcut : (drainOne s e).iso.ring = (s.iso.ring ++ [e]).drop ((s.iso.ring ++ [e]).length - 4096) := by
      rw [drainOne_ring, List.length_append, List.length_singleton]
    have hlen : (drainOne s e).iso.ring.length ≤ 4096 := by
      rw [hcut, List.length_drop]
      omega
    rw [List.foldl_cons, ih _ hlen, hcut, drop_append_drop]
    simp [Nat.add_assoc, Nat.add_comm 1]

/-- After a drain the ring ends with the last entry drained. -/
theorem drain_ringNext {es : List IsoEntry} {e : IsoEntry} (h : es.getLast? = some e) (s : State) :
    (es.foldl drainOne s).iso.ringNext = (e.index + 1) % 2 ^ 32 := by
  obtain ⟨es, rfl⟩ := List.getLast?_eq_some_iff.1 h
  rw [List.foldl_append, List.foldl_cons, List.foldl_nil, drainOne_ringNext]

theorem execIsoLogDrain_up {t : Tick} {s : State} (h : mgmtUp (advance t s) = true) :
    execIsoLogDrain t s = .next ((advance t s).iso.fifo.foldl drainOne (setIso (fun i => { i with fifo := [] }) (advance t s))) := by
  simp [execIsoLogDrain, h]

theorem noticeDue_of_down {s : State} (h : mgmtUp s = false) : noticeDue s = false := by
  simp [noticeDue, h]

theorem noticeDue_of_noEntries {s : State} (h : newEntries s.iso = 0) : noticeDue s = false := by
  simp [noticeDue, h]

theorem execIsoNotice_notDue {t : Tick} {s : State} (h : noticeDue (advance t s) = false) : execIsoNotice t s = .next (advance t s) := by
  simp [execIsoNotice, h]

@[simp] theorem post_gtb (fn : Nat) (holm : Bool) (rec : List Byte) (s : State) : (post fn holm rec s).gtb = s.gtb := by
  unfold post
  split <;> rfl

theorem execIsoNotice_due {t : Tick} {s : State} (h : noticeDue (advance t s) = true) :
    execIsoNotice t s = .next (setIso (fun i => { i with noticeFirst := i.ringNext, noticeStamp := none, lastNotice := some (advance t s).gtb })
      (post (fld (advance t s) Reg.ISO_CTRL Fld.ISO_CTRL_NOTICE_PF) true (noticeRecord (advance t s).iso) (advance t s))) := by
  simp only [execIsoNotice, if_pos h, post_gtb]

/-- Settles O30: the drain is a fold of `drainOne` over the FIFO, and a notice is posted just when `noticeDue` says so. -/
theorem isoLogDrainsInOrder : Obligations.IsoLogDrainsInOrder := by
  intro t s h
  refine ⟨fun hup => ⟨_, execIsoLogDrain_up hup, ?drained⟩, fun hdown => ⟨?stalled, execIsoNotice_notDue (noticeDue_of_down hdown)⟩,
    fun hdue => ⟨noticeRecord h.iso, rfl, execIsoNotice_due hdue⟩, fun hnone => execIsoNotice_notDue (noticeDue_of_noEntries hnone)⟩
  case drained =>
    have k := drain_keeps h.iso.fifo (setIso (fun i => { i with fifo := [] }) h)
    exact ⟨k.fifo, k.nextIndex, k.lost, k.regs, k.gcp, drain_ring h.iso.fifo (setIso (fun i => { i with fifo := [] }) h), fun e he => drain_ringNext he _⟩
  case stalled => exact if_pos hdown

/-! ### Fields of a word after a field is set (R8) -/

theorem natBits_testBit (n hi lo i : Nat) : (natBits n hi lo).testBit i = (decide (i < hi + 1 - lo) && n.testBit (lo + i)) := by
  rw [natBits, Nat.testBit_mod_two_pow, Nat.testBit_shiftRight]

/-- The bits of the word with field `b` set: those of the value inside the field, the old ones elsewhere. -/
theorem setF_testBit (w : Word) (b : Bits) (v : Nat) {i : Nat} (hi : i < 32) :
    (setF w b v).toNat.testBit i = if b.lo ≤ i ∧ i ≤ b.hi then v.testBit (i - b.lo) else w.toNat.testBit i := by
  have hmask : (0xFFFFFFFF : Nat) = 2 ^ 32 - 1 := rfl
  simp only [setF, BitVec.toNat_ofNat, hmask, Nat.testBit_mod_two_pow, Nat.testBit_or, Nat.testBit_and, Nat.testBit_xor, Nat.testBit_shiftLeft,
    Nat.testBit_two_pow_sub_one, hi]
  by_cases hlo : b.lo ≤ i
  · by_cases hin : i ≤ b.hi
    · have hw : i - b.lo < b.hi + 1 - b.lo := by omega
      simp [hlo, hin, hw]
    · have hw : ¬ i - b.lo < b.hi + 1 - b.lo := by omega
      simp [hin, hw]
  · simp [hlo]

/-- A field that was set reads as the value cut to its width. -/
theorem getF_setF_same (w : Word) (b : Bits) (v : Nat) (hb : b.hi < 32) : getF (setF w b v) b = v % 2 ^ (b.hi + 1 - b.lo) := by
  apply Nat.eq_of_testBit_eq
  intro i
  rw [getF, natBits_testBit, Nat.testBit_mod_two_pow]
  by_cases hi : i < b.hi + 1 - b.lo
  · rw [setF_testBit w b v (by omega), if_pos (by omega), Nat.add_sub_cancel_left]
  · simp [hi]

/-- A field beside the one that was set stands. -/
theorem getF_setF_other (w : Word) {b c : Bits} (v : Nat) (hc : c.hi < 32) (hbc : c.hi < b.lo ∨ b.hi < c.lo) : getF (setF w b v) c = getF w c := by
  apply Nat.eq_of_testBit_eq
  intro i
  rw [getF, getF, natBits_testBit, natBits_testBit]
  by_cases hi : i < c.hi + 1 - c.lo
  · rw [setF_testBit w b v (by omega), if_neg (by omega)]
  · simp [hi]

theorem getB_setB_same (w : Word) {b : Bits} (v : Bool) (hb : b.hi < 32) (hlo : b.lo ≤ b.hi) : getB (setB w b v) b = v := by
  have hwidth : 1 < 2 ^ (b.hi + 1 - b.lo) := Nat.one_lt_two_pow (by omega)
  rw [getB, setB, getF_setF_same w b _ hb]
  cases v
  · simp
  · simp [Nat.mod_eq_of_lt hwidth]

theorem getB_setF_other (w : Word) {b c : Bits} (v : Nat) (hc : c.hi < 32) (hbc : c.hi < b.lo ∨ b.hi < c.lo) : getB (setF w b v) c = getB w c := by
  rw [getB, getF_setF_other w v hc hbc, getB]

theorem getF_setB_other (w : Word) {b c : Bits} (v : Bool) (hc : c.hi < 32) (hbc : c.hi < b.lo ∨ b.hi < c.lo) : getF (setB w b v) c = getF w c :=
  getF_setF_other w _ hc hbc

theorem getB_setB_other (w : Word) {b c : Bits} (v : Bool) (hc : c.hi < 32) (hbc : c.hi < b.lo ∨ b.hi < c.lo) : getB (setB w b v) c = getB w c :=
  getB_setF_other w _ hc hbc

/-! ### The worlds of the control cores (R164 to R170) -/

@[simp] theorem isoLog_cores (kind req src flags addr obj status : Nat) (s : State) : (isoLog kind req src flags addr obj status s).iso.cores = s.iso.cores := by
  unfold isoLog
  dsimp only
  split
  · split
    · rfl
    · split <;> rfl
  · split
    · rw [ringMirror_iso]
    · rfl
  · rfl

section
variable {t : Tick} {s : State} {n : BitVec 32} {pc : Word} {regs : List Word}

theorem execGate_marked (hw : (advance t s).iso.cores.world = .mainland)
    (hm : ((advance t s).iso.cores.landings.contains n.toNat && (advance t s).iso.cores.landMarks.contains n.toNat) = true) :
    execGate t n pc regs s = .next (setCores (fun c =>
      { c with world := .holm, gate := some (pc, regs), landing := some n.toNat, holmSince := (advance t s).gtb, byInterrupt := false }) (advance t s)) := by
  unfold execGate
  dsimp only
  rw [if_neg (by rw [hw]; decide), if_pos hm]

theorem execGate_unmarked (hw : (advance t s).iso.cores.world = .mainland)
    (hm : ((advance t s).iso.cores.landings.contains n.toNat && (advance t s).iso.cores.landMarks.contains n.toNat) = false) :
    execGate t n pc regs s = .next (setCores (fun c => { c with trap := 1 }) (isoLog 0x05 0xFC 6 0 n.toNat 0xFFFF 0 (advance t s))) := by
  unfold execGate
  dsimp only
  rw [if_neg (by rw [hw]; decide), if_neg (ne_true_of_eq_false hm)]

theorem execGate_holm (hw : (advance t s).iso.cores.world = .holm) :
    execGate t n pc regs s = .next (setCores (fun c => { c with trap := 3 }) (advance t s)) := if_pos hw

theorem execFetchCross_mainland (hw : (advance t s).iso.cores.world = .mainland) :
    execFetchCross t s = .next (setCores (fun c => { c with trap := 2 }) (isoLog 0x06 0xFC 6 0 0 0xFFFF 0 (advance t s))) := if_pos hw

end

/-- Settles O31: GATE is decided by the world and by whether its number is a marked landing; the log leaves the cores alone. -/
theorem theGatewayIsTheOnlyWayIn : Obligations.TheGatewayIsTheOnlyWayIn := by
  intro t s n pc regs h c marked
  exact ⟨execGate_marked, execGate_unmarked, execFetchCross_mainland, execGate_holm, isoLog_cores⟩

/-- The cores in Mainland again, before a deferred halt acts. -/
def mainlandCores (c : CoreState) : CoreState :=
  { c with world := .mainland, byInterrupt := false, landing := none,
           pendingMainland := match takeIrq c.pendingMainland with | some (_, r) => r | none => [] }

/-- The return moves the cores, and where a halt was deferred DBG_STAT (R176). -/
theorem toMainland_eq (s : State) :
    toMainland s = { s with regs := (toMainland s).regs, iso := { s.iso with cores := mainlandCores s.iso.cores } } := by
  unfold toMainland
  dsimp only
  split <;> rfl

/-- With no halt deferred the return touches no register. -/
theorem toMainland_regs {s : State} (h : flg s Reg.DBG_STAT Fld.DBG_STAT_DEFERRED = false) : (toMainland s).regs = s.regs := by
  unfold toMainland
  dsimp only
  split
  case isTrue hd => exact absurd (hd.symm.trans h) (by decide)
  case isFalse => rfl

section
variable {t : Tick} {s : State} {pc st : Word} {regs : List Word}

theorem execGateRet_inGate {g1 g2 : Word} (hg : (advance t s).iso.cores.gate = some (pc, regs)) (hw : (advance t s).iso.cores.world = .holm)
    (hi : (advance t s).iso.cores.byInterrupt = false) :
    execGateRet t g1 g2 s = .next (toMainland (setCores (fun c => { c with gate := none, pc := pc, regs := g1 :: g2 :: regs.drop 2 }) (advance t s))) := by
  simp only [execGateRet, hg, hw, hi, and_self, if_true]

theorem execHolmInterrupt_mainland {x : Nat × Nat} {rest : List (Nat × Nat)} (ht : takeIrq (advance t s).iso.cores.pendingHolm = some (x, rest))
    (hw : (advance t s).iso.cores.world = .mainland) :
    execHolmInterrupt t pc st regs s = .next (setCores (fun c =>
      { c with world := .holm, byInterrupt := true, saved := some (pc, st, regs), pendingHolm := rest, holmSince := (advance t s).gtb }) (advance t s)) := by
  simp only [execHolmInterrupt, ht, hw, if_true]

theorem execHolmInterrupt_none (ht : takeIrq (advance t s).iso.cores.pendingHolm = none) : execHolmInterrupt t pc st regs s = .next (advance t s) := by
  simp only [execHolmInterrupt, ht]

theorem execMainlandReturn_interrupt (hs : (advance t s).iso.cores.saved = some (pc, st, regs)) (hw : (advance t s).iso.cores.world = .holm)
    (hi : (advance t s).iso.cores.byInterrupt = true) :
    execMainlandReturn t s = .next (toMainland (setCores (fun c => { c with saved := none, pc := pc, status := st, regs := regs }) (advance t s))) := by
  simp only [execMainlandReturn, hs, hw, hi, true_or, and_self, if_true]

theorem execMainlandReturn_mainland (hw : (advance t s).iso.cores.world = .mainland) : execMainlandReturn t s = .next (advance t s) := by
  unfold execMainlandReturn
  dsimp only
  rw [if_neg (by rw [hw]; simp)]

end

/-- Settles O32: both returns go through `toMainland`, which gives the cores back and leaves the rest, but for a deferred halt. -/
theorem mainlandSeesHolmOnlyAsElapsedTime : Obligations.MainlandSeesHolmOnlyAsElapsedTime := by
  intro t s h c
  refine ⟨fun g1 g2 pc regs hg hw hi => ⟨_, execGateRet_inGate hg hw hi, ?gateRet⟩, fun _ _ _ _ _ => execHolmInterrupt_mainland,
    fun _ _ _ => execHolmInterrupt_none, fun pc st regs hs hw hi => ⟨_, execMainlandReturn_interrupt hs hw hi, ?interrupt⟩, execMainlandReturn_mainland⟩
  case gateRet =>
    rw [toMainland_eq]
    exact ⟨rfl, rfl, rfl, rfl, rfl, rfl, rfl⟩
  case interrupt =>
    rw [toMainland_eq]
    exact ⟨rfl, rfl, rfl, rfl, rfl, rfl, rfl, rfl, fun hd => toMainland_regs hd⟩

/-! ### Debug accesses (R174, R175) -/

theorem dbgNeed_lt {r : DebugReq} {n : Nat} (h : dbgNeed r = some n) : n < 4 := by
  cases r with
  | scan i secret => cases i <;> simp [dbgNeed] at h <;> omega
  | dap holm steer secret op =>
    rw [dbgNeed, Option.some.injEq] at h
    subst h
    cases holm <;> cases steer <;> decide

theorem dbgAccess_permitted {r : DebugReq} {n : Nat} (first : Bool) (code : Nat) {s : State} (hn : dbgNeed r = some n) (he : dbgEnabled s n = true)
    (hs : dbgSecret r = false) : dbgAccess r first code s = dbgAct r (dbgProceed r first s) := by
  simp [dbgAccess, hn, he, hs]

theorem dbgAccess_refused {r : DebugReq} {n : Nat} (first : Bool) (code : Nat) {s : State} (hn : dbgNeed r = some n)
    (h : dbgEnabled s n = false ∨ dbgSecret r = true) : dbgAccess r first code s = dbgRefuse r n code s := by
  rcases h with h | h <;> simp [dbgAccess, hn, h]

/-- DBG_DENY after a refusal (Table 5.18): one more, the enable that was needed, whether a secret was concerned, the code. -/
def dbgDenied (r : DebugReq) (n code : Nat) (w : Word) : Word :=
  setF (setF (setB (setF w Fld.DBG_DENY_DENIED (getF w Fld.DBG_DENY_DENIED + 1)) Fld.DBG_DENY_SECRET (dbgSecret r)) Fld.DBG_DENY_LAST_NEED (2 ^ n))
    Fld.DBG_DENY_LAST_INSTR code

theorem dbgRefuse_eq (r : DebugReq) (n code : Nat) (s : State) :
    dbgRefuse r n code s = wr Reg.DBG_DENY (dbgDenied r n code (rd (isoLog 0x08 0xFD 7 0 0 0xFFFF 0 s) Reg.DBG_DENY)) (isoLog 0x08 0xFD 7 0 0 0xFFFF 0 s) := rfl

theorem dbgDenied_lastNeed (r : DebugReq) {n : Nat} (hn : n < 4) (code : Nat) (w : Word) : getF (dbgDenied r n code w) Fld.DBG_DENY_LAST_NEED = 2 ^ n := by
  rw [dbgDenied, getF_setF_other _ _ (by decide) (by decide), getF_setF_same _ _ _ (by decide)]
  exact Nat.mod_eq_of_lt (Nat.pow_lt_pow_right (by decide) hn)

theorem dbgDenied_secret (r : DebugReq) (n code : Nat) (w : Word) : getB (dbgDenied r n code w) Fld.DBG_DENY_SECRET = dbgSecret r := by
  rw [dbgDenied, getB_setF_other _ _ (by decide) (by decide), getB_setF_other _ _ (by decide) (by decide), getB_setB_same _ _ (by decide) (by decide)]

theorem execDebugHaltRequest_permitted {t : Tick} {holm first : Bool} {s : State} (h : dbgEnabled (advance t s) (2 * bit holm + 1) = true) :
    execDebugHaltRequest t (if holm then .holm else .mainland) first s =
      .next (dbgHalt holm (dbgProceed (.dap holm true false .halt) first (advance t s))) := by
  have hworld : ((if holm then World.holm else World.mainland) == .holm) = holm := by cases holm <;> rfl
  rw [execDebugHaltRequest, hworld, dbgAccess_permitted first 0xFF rfl h rfl]
  rfl

/-- Settles O33: an access is permitted or refused by its enable and the secrets rule, and a refusal writes DBG_DENY alone. -/
theorem debugIsCheckedAgainstTheEnables : Obligations.DebugIsCheckedAgainstTheEnables := by
  intro t s code first secret h
  refine ⟨?unchecked, fun r n hn he hs => congrArg _ (dbgAccess_permitted first _ hn he hs), fun r n hn hr => ?refused,
    fun _ _ => execDebugHaltRequest_permitted, rfl, rfl⟩
  case unchecked => rintro i (rfl | rfl) <;> rfl
  case refused =>
    exact ⟨_, _, congrArg Host.Outcome.next (dbgAccess_refused first _ hn hr), dbgRefuse_eq .., dbgDenied_lastNeed r (dbgNeed_lt hn) .., dbgDenied_secret ..⟩

/-! ### Paired writes whose two halves arrive (R577 to R579) -/

/-- A full write that lands arrives at its register; the TLP that its port holds follows it. -/
theorem fullWrite_lands {rq : Requester} {woff o : Nat} {w : Word} {s : State} (h : Lands rq woff o s) :
    fullWrite rq woff w s = passHeld (portOf s rq.fn.val) (reachWrite rq o w s) := by
  obtain ⟨hcalm, hwindow, hoffset, hdirect, hallowed⟩ := h
  rw [fullWrite, tlpWrite_of_unaimed hcalm]
  simp [busWrite, offWrite, hwindow, hoffset, hdirect, hallowed]

@[simp] theorem armed_lnk (rq : Requester) (off : Nat) (v : Word) (s : State) : (armed rq off v s).lnk = s.lnk := rfl

theorem portOf_armed (rq : Requester) (off : Nat) (v : Word) (s : State) (fn : Nat) : portOf (armed rq off v s) fn = portOf s fn := rfl

/-- A value write arms the latch of its requester (R578). -/
theorem reachWrite_value {rq : Requester} {off : Nat} {v : Word} {s : State} (h : isPairValue off = true) : reachWrite rq off v s = armed rq off v s := by
  rw [reachWrite, if_pos h, armed]

/-- The complement that matches the latch completes the pair. -/
theorem reachWrite_complement {rq : Requester} {off : Nat} {v : Word} {s : State} (hv : isPairValue off = true) (hn : isPairValue (off + 4) = false)
    (hm : pairMatch (pairRec (armed rq off v s) rq) (off + 4) (~~~v) s.gtb = some v) :
    reachWrite rq (off + 4) (~~~v) (armed rq off v s) = pairEffect off v (pairDone rq off v s) := by
  have hgtb : (armed rq off v s).gtb = s.gtb := rfl
  have hhalf : (pairValueOf (off + 4)).isSome = true := hv
  rw [reachWrite, if_neg (ne_true_of_eq_false hn), if_pos hhalf, hgtb, hm]
  rfl

/-- A pair that lands has its effect once, with the latch clear. -/
theorem pairTlps_lands {rq : Requester} {off : Nat} {v : Word} {s : State} (hv : isPairValue off = true) (hn : isPairValue (off + 4) = false)
    (h : PairLands rq off v s) : pairTlps rq off v s = passHeld (portOf s rq.fn.val) (pairEffect off v (pairDone rq off v s)) := by
  obtain ⟨hvalue, hfree, hcomplement, hmatched⟩ := h
  have hfirst : fullWrite rq off v s = armed rq off v s := by
    rw [fullWrite_lands hvalue, reachWrite_value hv]
    exact passHeld_of_none hfree
  rw [pairTlps, hfirst, fullWrite_lands hcomplement, portOf_armed, reachWrite_complement hv hn hmatched]

/-- A requester of a PF window sends its TLPs on that PF's port (R188). -/
theorem portOf_pfReq (s : State) (pf : BitVec 2) (world : World) : portOf s (pfReq pf world).fn.val = pf.toNat := by
  rw [pfReq_fn, portOf_pf s pf.isLt]

theorem fullWrite_pf_plain {pf : BitVec 2} {world : World} {off : Nat} {w : Word} {s : State} (h : Plain (pfReq pf world) off off s) :
    fullWrite (pfReq pf world) off w s = passHeld pf.toNat (applyReg (pfReq pf world) off w (dropLatch (pfReq pf world) s)) := by
  rw [fullWrite_plain h, portOf_pfReq]

theorem pairTlps_pf_lands {pf : BitVec 2} {world : World} {off : Nat} {v : Word} {s : State} (hv : isPairValue off = true)
    (hn : isPairValue (off + 4) = false) (h : PairLands (pfReq pf world) off v s) :
    pairTlps (pfReq pf world) off v s = passHeld pf.toNat (pairEffect off v (pairDone (pfReq pf world) off v s)) := by
  rw [pairTlps_lands hv hn h, portOf_pfReq]

/-! ### The effect of a write, by register

`applyReg` asks first whether the register is held per requester. -/

/-- A register that is not held per requester is no snapshot control either, so its own effect decides. -/
theorem sharedReg_skips {off : Nat} (h : perRequester off = false) (a b c : State) :
    (if isSnapCtrl off then a else if perRequester off then b else c) = c := by
  have hsnap : isSnapCtrl off = false := by
    simp only [perRequester, Bool.or_eq_false_iff] at h
    exact h.1.1
  rw [hsnap, h, if_neg Bool.false_ne_true, if_neg Bool.false_ne_true]

theorem applyReg_ownIdx (rq : Requester) (w : Word) (s : State) : applyReg rq Reg.ISO_OWN_IDX w s = ownSelect w s := by
  have hreq : perRequester Reg.ISO_OWN_IDX = false := by decide
  rw [applyReg, sharedReg_skips hreq]
  simp [Reg.ISO_OWN_IDX, Reg.ISO_DBG]

/-! ### Changes of ownership (R153 to R157, R637) -/

section
variable {w : Word} {s : State} {o : Nat}

theorem ownWrite_pending (hc : s.iso.change ≠ none) : ownWrite w s = s := if_pos (Option.isSome_iff_ne_none.2 hc)

/-- With no change pending and an object that exists, what follows another is refused (R637). -/
theorem ownWrite_follower (hc : s.iso.change = none) (hs : ownSelected s = o) (he : objExists o = true) (hf : followed o ≠ none) :
    ownWrite w s = wrB Reg.ISO_OWN_STAT Fld.ISO_OWN_STAT_REFUSED true s := by
  simp [ownWrite, hc, hs, he, Option.isSome_iff_ne_none.2 hf]

/-- With no change pending and an object of its own, the entry's world and the owner decide. -/
theorem ownWrite_free (hc : s.iso.change = none) (hs : ownSelected s = o) (he : objExists o = true) (hf : followed o = none) :
    ownWrite w s = if (ownWord w).holm then (if holmOwned s o then s else claimObject o s)
      else if holmOwned s o then releaseObject o (ownWord w) s else setOwn o (ownWord w) s := by
  simp [ownWrite, hc, hs, he, hf]

end

theorem ownWord_claim : ownWord (ownSpell true false 0) = {} := by decide

/-- A Mainland entry reads back as it was spelt. -/
theorem ownWord_grant (granted : Bool) (fn : Fn) : ownWord (ownSpell false granted fn.val) = ⟨false, granted, fn.val⟩ := by
  have hworld : getB (ownSpell false granted fn.val) Fld.ISO_OWN_DATA_WORLD = false := by
    rw [ownSpell, getB_setB_same _ _ (by decide) (by decide)]
  have hgranted : getB (ownSpell false granted fn.val) Fld.ISO_OWN_DATA_GRANTED = granted := by
    rw [ownSpell, getB_setB_other _ _ (by decide) (by decide), getB_setF_other _ _ (by decide) (by decide), getB_setB_same _ _ (by decide) (by decide)]
  have hfn : getF (ownSpell false granted fn.val) Fld.ISO_OWN_DATA_FN = fn.val := by
    rw [ownSpell, getF_setB_other _ _ (by decide) (by decide), getF_setF_same _ _ _ (by decide)]
    exact Nat.mod_eq_of_lt fn.isLt
  rw [ownWord, hworld, hgranted, hfn]
  rfl

/-- The state in which a requester's change of an object's entry is judged: the object selected, the pair complete. -/
def ownAsked (pf : BitVec 2) (world : World) (object : BitVec 16) (w : Word) (h : State) : State :=
  pairDone (pfReq pf world) Reg.ISO_OWN_DATA w (passHeld pf.toNat (ownSelect (object.setWidth 32) (dropLatch (pfReq pf world) h)))

/-- Selecting the object and writing its pair ends with what the paired write does. -/
theorem ownChange_lands {pf : BitVec 2} {world : World} {object : BitVec 16} {w : Word} {h : State}
    (hi : Plain (pfReq pf world) Reg.ISO_OWN_IDX Reg.ISO_OWN_IDX h)
    (hp : PairLands (pfReq pf world) Reg.ISO_OWN_DATA w (passHeld pf.toNat (ownSelect (object.setWidth 32) (dropLatch (pfReq pf world) h)))) :
    ownChange (pfReq pf world) object w h = passHeld pf.toNat (ownWrite w (ownAsked pf world object w h)) := by
  rw [ownChange, fullWrite_pf_plain hi, applyReg_ownIdx, pairTlps_pf_lands (by decide) (by decide) hp]
  rfl

section
variable {t : Tick} {s : State}

theorem execIsoOwnClaimDone_none (hc : (advance t s).iso.change = none) : execIsoOwnClaimDone t s = .next (advance t s) := by
  simp only [execIsoOwnClaimDone, hc]

theorem execIsoOwnReleaseDone_none (hc : (advance t s).iso.change = none) : execIsoOwnReleaseDone t s = .next (advance t s) := by
  simp only [execIsoOwnReleaseDone, hc]

theorem execIsoOwnClaimDone_some {c : OwnChange} (hc : (advance t s).iso.change = some c) :
    execIsoOwnClaimDone t s = if c.release then .next (advance t s)
      else .next (showChange false true { advance t s with iso := { (advance t s).iso with change := none } }) := by
  simp only [execIsoOwnClaimDone, hc]

theorem execIsoOwnReleaseDone_some {c : OwnChange} (hc : (advance t s).iso.change = some c) :
    execIsoOwnReleaseDone t s =
      if c.release then .next (showChange false true (setOwn c.obj c.entry { advance t s with iso := { (advance t s).iso with change := none } }))
      else .next (advance t s) := by
  simp only [execIsoOwnReleaseDone, hc]

end

/-- Settles O55: the two writes land, and the paired write then acts by the pending change, the object and its owner. -/
theorem ownershipChangesComplete : Obligations.OwnershipChangesComplete := by
  intro t s pf world object granted fn h rq a claim grant u e open_ free
  have hdone {w : Word} (i : State → Out) (hi : i s = .next (ownChange rq object w h)) (ho : open_ w) : i s = .next (passHeld pf.toNat (ownWrite w (u w))) :=
    hi.trans (congrArg _ (ownChange_lands ho.1 ho.2))
  have hclaim : open_ claim → exec (.isoOwnClaim t pf world object) s = .next (passHeld pf.toNat (ownWrite claim (u claim))) := hdone _ rfl
  have hrelease : open_ grant → exec (.isoOwnRelease t pf world object granted fn) s = .next (passHeld pf.toNat (ownWrite grant (u grant))) := hdone _ rfl
  have hgrant : open_ grant → exec (.isoOwnGrant t pf world object granted fn) s = .next (passHeld pf.toNat (ownWrite grant (u grant))) := hdone _ rfl
  have hword : ownWord grant = e := ownWord_grant granted fn
  refine ⟨fun ho ⟨hc, hs, he, hf⟩ hown => ?claims, fun ho ⟨hc, hs, he, hf⟩ hown => ?keeps, fun ho ⟨hc, hs, he, hf⟩ hown => ?releases,
    fun ho ⟨hc, hs, he, hf⟩ hown => ?grants, fun ho hc => ⟨?pendingGrant, ?pendingRelease⟩, fun ho hc => ?pendingClaim, fun ho hc hs he hf => ?follower, ?ends⟩
  case claims => rw [hclaim ho, ownWrite_free hc hs he hf, ownWord_claim, if_pos rfl, hown, if_neg Bool.false_ne_true]
  case keeps => rw [hclaim ho, ownWrite_free hc hs he hf, ownWord_claim, if_pos rfl, hown, if_pos rfl]
  case releases => rw [hrelease ho, ownWrite_free hc hs he hf, hword, if_neg Bool.false_ne_true, hown, if_pos rfl]
  case grants => rw [hgrant ho, ownWrite_free hc hs he hf, hword, if_neg Bool.false_ne_true, hown, if_neg Bool.false_ne_true]
  case pendingGrant => rw [hgrant ho, ownWrite_pending hc]
  case pendingRelease => rw [hrelease ho, ownWrite_pending hc]
  case pendingClaim => rw [hclaim ho, ownWrite_pending hc]
  case follower => rw [hgrant ho, ownWrite_follower hc hs he hf]
  case ends =>
    refine ⟨fun hc => ⟨execIsoOwnClaimDone_none hc, execIsoOwnReleaseDone_none hc⟩, fun c hc hr => ?claim, fun c hc hr => ?release⟩
    case claim =>
      have hkind := ne_true_of_eq_false hr
      exact ⟨(execIsoOwnReleaseDone_some hc).trans (if_neg hkind), (execIsoOwnClaimDone_some hc).trans (if_neg hkind)⟩
    case release => exact ⟨(execIsoOwnClaimDone_some hc).trans (if_pos hr), (execIsoOwnReleaseDone_some hc).trans (if_pos hr)⟩

/-! ### Which effect a control register's write has -/

theorem applyReg_dbg (rq : Requester) (w : Word) (s : State) : applyReg rq Reg.ISO_DBG w s = writeDbg rq w s := by
  have hreq : perRequester Reg.ISO_DBG = false := by decide
  rw [applyReg, sharedReg_skips hreq]
  simp [Reg.ISO_DBG]

theorem applyReg_coLock (rq : Requester) (w : Word) (s : State) : applyReg rq Reg.DRC_CO_LOCK w s = lockedWrite Reg.DRC_CO_LOCK w s := by
  have hreq : perRequester Reg.DRC_CO_LOCK = false := by decide
  have hidx : isPortIdx 0x400180 = false := by decide
  have hport : portAt s 0x400180 = none := rfl
  rw [applyReg, sharedReg_skips hreq]
  simp [Reg.DRC_CO_LOCK, Reg.ISO_DBG, Reg.ISO_OWN_IDX, Reg.CLK_STAT, Reg.RST_WD_CTRL, Reg.REG_DUMP_CTRL, hidx, hport]

theorem applyReg_arm (rq : Requester) (n : BitVec 3) (w : Word) (s : State) : applyReg rq (Reg.TRV_ARMn n.toNat) w s = writeArm n.toNat w s := by
  have hn := n.isLt
  have hreq : perRequester (Reg.TRV_ARMn n.toNat) = false := by revert n; decide
  have hidx : isPortIdx (Reg.TRV_ARMn n.toNat) = false := by revert n; decide
  have hplace : (0x900100 + 8 * n.toNat - 0x900100) / 8 = n.toNat := by omega
  rw [applyReg, sharedReg_skips hreq, hidx]
  simp (disch := omega) only [Reg.TRV_ARMn, Reg.ISO_DBG, Reg.ISO_OWN_IDX, if_neg, if_pos, Bool.false_eq_true, if_false, hplace]

theorem applyReg_vin (rq : Requester) (v : BitVec 2) (w : Word) (s : State) : applyReg rq (Reg.VIN_CTRL v.toNat) w s = writeVinCtrl v.toNat w s := by
  have hv := v.isLt
  have hreq : perRequester (Reg.VIN_CTRL v.toNat) = false := by revert v; decide
  have hidx : isPortIdx (Reg.VIN_CTRL v.toNat) = false := by revert v; decide
  have hplace : (0xB80000 + 0x1000 * v.toNat - 0xB80000) / 0x1000 = v.toNat := by omega
  rw [applyReg, sharedReg_skips hreq, hidx]
  simp (disch := omega) only [Reg.VIN_CTRL, Reg.ISO_DBG, Reg.ISO_OWN_IDX, if_neg, if_pos, Bool.false_eq_true, if_false, hplace]

theorem applyReg_sb (rq : Requester) (n : BitVec 3) (w : Word) (s : State) :
    applyReg rq (Reg.LNK_TXg_SB_CTRL n.toNat) w s = writeSbCtrl n.toNat w s := by
  have hn := n.isLt
  have hreq : perRequester (Reg.LNK_TXg_SB_CTRL n.toNat) = false := by revert n; decide
  have hidx : isPortIdx (Reg.LNK_TXg_SB_CTRL n.toNat) = false := by revert n; decide
  have hplace : (0xD00008 + 0x100 * n.toNat - 0xD00000) / 0x100 = n.toNat := by omega
  rw [applyReg, sharedReg_skips hreq, hidx]
  simp (disch := omega) only [Reg.LNK_TXg_SB_CTRL, Reg.ISO_DBG, Reg.ISO_OWN_IDX, if_neg, if_pos, Bool.false_eq_true, if_false, hplace]

theorem applyReg_wdCtrl (rq : Requester) (w : Word) (s : State) : applyReg rq Reg.RST_WD_CTRL w s = writeWdCtrl w s := by
  have hreq : perRequester Reg.RST_WD_CTRL = false := by decide
  have hidx : isPortIdx 0x1210020 = false := by decide
  rw [applyReg, sharedReg_skips hreq]
  simp [Reg.ISO_DBG, Reg.ISO_OWN_IDX, Reg.CLK_STAT, Reg.RST_WD_CTRL, hidx]

theorem applyReg_dumpCtrl (rq : Requester) (w : Word) (s : State) : applyReg rq Reg.REG_DUMP_CTRL w s = writeDumpCtrl w s := by
  have hreq : perRequester Reg.REG_DUMP_CTRL = false := by decide
  have hidx : isPortIdx 0x123010C = false := by decide
  rw [applyReg, sharedReg_skips hreq]
  simp [Reg.ISO_DBG, Reg.ISO_OWN_IDX, Reg.CLK_STAT, Reg.RST_WD_CTRL, Reg.REG_DUMP_CTRL, hidx]

theorem perRequester_viewApply : ∀ i < 72, perRequester (layerBase i + 0xA0) = false := by decide

theorem isPortIdx_viewApply : ∀ i < 72, isPortIdx (layerBase i + 0xA0) = false := by decide

theorem layerBase_bounds {i : Nat} (h : i < 72) : 0xA01000 ≤ layerBase i ∧ layerBase i + 0xA0 < 0xA80000 := by
  unfold layerBase
  omega

/-- Where VIEW_APPLY of a layer stands in its output's block and in its own register set. -/
theorem layerBase_place (i : Nat) : (layerBase i + 0xA0) % 0x10000 = 0x10A0 + 0x400 * (i % 9) ∧ (layerBase i + 0xA0 - 0xA00000) / 0x10000 = i / 9 := by
  unfold layerBase
  omega

theorem portAt_viewApply {i : Nat} (h : i < 72) (s : State) : portAt s (layerBase i + 0xA0) = none := by
  obtain ⟨hlo, hhi⟩ := layerBase_bounds h
  obtain ⟨hplace, -⟩ := layerBase_place i
  unfold portAt
  simp (disch := omega) only [if_pos, if_neg]

theorem writeLayer_viewApply {i : Nat} (s : State) : writeLayer (layerBase i + 0xA0) 1 s = viewApply i s := by
  obtain ⟨hplace, hout⟩ := layerBase_place i
  have hlayer : 9 * (i / 9) + ((layerBase i + 0xA0) % 0x10000 - 0x1000) / 0x400 = i := by omega
  have hoff : ((layerBase i + 0xA0) % 0x10000 - 0x1000) % 0x400 = 0xA0 := by omega
  have happly : getB 1 Fld.Lx_VIEW_APPLY_APPLY = true := by decide
  rw [writeLayer, hout, hlayer, if_pos hoff, if_pos happly]

theorem applyReg_viewApply (rq : Requester) {i : Nat} (h : i < 72) (s : State) : applyReg rq (layerBase i + 0xA0) 1 s = viewApply i s := by
  have hidx := isPortIdx_viewApply i h
  obtain ⟨hlo, hhi⟩ := layerBase_bounds h
  obtain ⟨hplace, -⟩ := layerBase_place i
  rw [applyReg, sharedReg_skips (perRequester_viewApply i h), hidx, portAt_viewApply h]
  simp (disch := omega) only [Reg.ISO_DBG, Reg.ISO_OWN_IDX, Reg.CLK_STAT, Reg.RST_WD_CTRL, Reg.REG_DUMP_CTRL, if_neg, if_pos, Bool.false_eq_true,
    if_false, writeLayer_viewApply]

/-! ### Control registers of units (R174, R231, R315, R336, R355, R431, R562, R607) -/

section
variable {s : State}

theorem writeDbg_same {rq : Requester} {w : Word} (h : dbgAfterClear (rd s Reg.ISO_DBG).toNat w.toNat = (rd s Reg.ISO_DBG).toNat) :
    writeDbg rq w s = s := if_pos h

theorem writeDbg_clears {rq : Requester} {w : Word} (h : dbgAfterClear (rd s Reg.ISO_DBG).toNat w.toNat ≠ (rd s Reg.ISO_DBG).toNat) :
    writeDbg rq w s = measure 0x0010 0 (le 1 (dbgAfterClear (rd s Reg.ISO_DBG).toNat w.toNat % 16)) []
      (isoLog 0x42 (logReq rq) 0 3 Reg.ISO_DBG 0xFFFF 0 (wr Reg.ISO_DBG (BitVec.ofNat 32 (dbgAfterClear (rd s Reg.ISO_DBG).toNat w.toNat)) s)) := if_neg h

/-- Before LOCK nothing keeps a bit of DRC_CO_LOCK from a write (R231). -/
theorem lockedWrite_coLock (w : Word) (h : flg s Reg.DRC_CO_LOCK Fld.DRC_CO_LOCK_LOCK = false) :
    lockedWrite Reg.DRC_CO_LOCK w s = plainWrite Reg.DRC_CO_LOCK w s := by
  have hmask : lockMask s Reg.DRC_CO_LOCK w = 0#32 := by
    rw [lockMask, if_pos (by decide), h, if_neg Bool.false_ne_true]
    rfl
  rw [lockedWrite, hmask, BitVec.and_zero, BitVec.or_zero, BitVec.not_zero, BitVec.and_allOnes]

theorem writeArm_a (n : Nat) : writeArm n 1 s = armBegin n false (plainWrite (Reg.TRV_ARMn n) 1 s) := by
  have ha : getB 1 Fld.TRV_ARMn_ARM_A = true := by decide
  have hb : getB 1 Fld.TRV_ARMn_ARM_B = false := by decide
  rw [writeArm, ha, hb, if_pos rfl, if_neg Bool.false_ne_true]

theorem writeArm_b (n : Nat) : writeArm n 2 s = armBegin n true (plainWrite (Reg.TRV_ARMn n) 2 s) := by
  have ha : getB 2 Fld.TRV_ARMn_ARM_A = false := by decide
  have hb : getB 2 Fld.TRV_ARMn_ARM_B = true := by decide
  rw [writeArm, ha, hb, if_pos rfl, if_neg Bool.false_ne_true]

/-- ENABLE of a video input that was off rises when the demand fits (R355). -/
theorem writeVinCtrl_enable {v : Nat} {w : Word} (hw : getB w Fld.VIN_CTRL_ENABLE = true) (hoff : flg s (Reg.VIN_CTRL v) Fld.VIN_CTRL_ENABLE = false) :
    writeVinCtrl v w s =
      if vinRefused (plainWrite (Reg.VIN_CTRL v) (setB w Fld.VIN_CTRL_ENABLE false) s) v then plainWrite (Reg.VIN_CTRL v) (setB w Fld.VIN_CTRL_ENABLE false) s
      else vinStart v (wrB (Reg.VIN_CTRL v) Fld.VIN_CTRL_ENABLE true (plainWrite (Reg.VIN_CTRL v) (setB w Fld.VIN_CTRL_ENABLE false) s)) := by
  have hwas : getB (rd s (Reg.VIN_CTRL v)) Fld.VIN_CTRL_ENABLE = false := hoff
  simp only [writeVinCtrl, hwas, hw, Bool.not_false, Bool.and_self, if_true, Bool.false_eq_true, if_false]

/-- The word of LNK_TXg_SB_CTRL that starts a transaction (Table 14.10). -/
def sbWord (cmd len addr : Nat) : Word :=
  BitVec.ofNat 32 (packF Fld.LNK_TXg_SB_CTRL_START 1 + packF Fld.LNK_TXg_SB_CTRL_CMD cmd + packF Fld.LNK_TXg_SB_CTRL_LEN len + packF Fld.LNK_TXg_SB_CTRL_ADDR addr)

theorem getB_sbWord_start (cmd len addr : Nat) : getB (sbWord cmd len addr) Fld.LNK_TXg_SB_CTRL_START = true := by
  simp only [getB, getF, natBits, sbWord, packF, BitVec.toNat_ofNat, Nat.shiftLeft_eq, Nat.shiftRight_eq_div_pow, bne_iff_ne,
    Fld.LNK_TXg_SB_CTRL_START, Fld.LNK_TXg_SB_CTRL_CMD, Fld.LNK_TXg_SB_CTRL_LEN, Fld.LNK_TXg_SB_CTRL_ADDR]
  omega

theorem writeSbCtrl_start (n cmd len addr : Nat) :
    writeSbCtrl n (sbWord cmd len addr) s = sbStart n (plainWrite (Reg.LNK_TXg_SB_CTRL n) (sbWord cmd len addr) s) := by
  rw [writeSbCtrl, getB_sbWord_start, if_pos rfl]

/-- START is ignored while a transaction of the output runs (R431). -/
theorem sbStart_busy {n : Nat} (h : (txSt s n).sb ≠ none) : sbStart n s = s := if_pos (Option.isSome_iff_ne_none.2 h)

@[simp] theorem plainWrite_gtb (off : Nat) (w : Word) (s : State) : (plainWrite off w s).gtb = s.gtb := by
  unfold plainWrite
  split
  · rfl
  · dsimp only
    split <;> rfl

theorem writeWdCtrl_enabled {w : Word} (h : flg s Reg.RST_WD_CTRL Fld.RST_WD_CTRL_EN = true) : writeWdCtrl w s = s := if_pos h

/-- The watchdog's window counts from the write that enables it (R562). -/
theorem writeWdCtrl_enables {w : Word} (h : flg s Reg.RST_WD_CTRL Fld.RST_WD_CTRL_EN = false) (hw : getB w Fld.RST_WD_CTRL_EN = true) :
    writeWdCtrl w s = wr Reg.RST_WD_STAT (BitVec.ofNat 32 (packF Fld.RST_WD_STAT_RUNNING 1))
      (setPwr (fun p => { p with wdLast := s.gtb }) (plainWrite Reg.RST_WD_CTRL w s)) := by
  rw [writeWdCtrl, if_neg (ne_true_of_eq_false h)]
  simp only [hw, if_true, plainWrite_gtb]

theorem getB_wdWord_en (min max : Nat) :
    getB (BitVec.ofNat 32 (packF Fld.RST_WD_CTRL_MAX max + packF Fld.RST_WD_CTRL_MIN min + packF Fld.RST_WD_CTRL_EN 1)) Fld.RST_WD_CTRL_EN = true := by
  simp only [getB, getF, natBits, packF, BitVec.toNat_ofNat, Nat.shiftLeft_eq, Nat.shiftRight_eq_div_pow, bne_iff_ne,
    Fld.RST_WD_CTRL_MAX, Fld.RST_WD_CTRL_MIN, Fld.RST_WD_CTRL_EN]
  omega

/-- The words of REG_DUMP_CTRL that fire or clear a dump carry the trigger and one action. -/
theorem dumpWord_fields (k : BitVec 3) :
    let fire : Word := BitVec.ofNat 32 (packF Fld.REG_DUMP_CTRL_TRIGGER k.toNat + packF Fld.REG_DUMP_CTRL_FIRE 1)
    let clear : Word := BitVec.ofNat 32 (packF Fld.REG_DUMP_CTRL_TRIGGER k.toNat + packF Fld.REG_DUMP_CTRL_CLEAR 1)
    (getF fire Fld.REG_DUMP_CTRL_TRIGGER = k.toNat ∧ getB fire Fld.REG_DUMP_CTRL_FIRE = true ∧ getB fire Fld.REG_DUMP_CTRL_CLEAR = false) ∧
    (getF clear Fld.REG_DUMP_CTRL_TRIGGER = k.toNat ∧ getB clear Fld.REG_DUMP_CTRL_FIRE = false ∧ getB clear Fld.REG_DUMP_CTRL_CLEAR = true) := by
  revert k
  decide

theorem writeDumpCtrl_fire {w : Word} {k : Nat} (hk : getF w Fld.REG_DUMP_CTRL_TRIGGER = k) (hf : getB w Fld.REG_DUMP_CTRL_FIRE = true)
    (hc : getB w Fld.REG_DUMP_CTRL_CLEAR = false) :
    writeDumpCtrl w s = if 3 ≤ k ∧ k ≤ 5 then dumpTrigger k 0 (wrF Reg.REG_DUMP_CTRL Fld.REG_DUMP_CTRL_TRIGGER k s)
      else wrF Reg.REG_DUMP_CTRL Fld.REG_DUMP_CTRL_TRIGGER k s := by
  simp only [writeDumpCtrl, hk, hf, hc, true_and, Bool.false_eq_true, if_false]

theorem writeDumpCtrl_clear {w : Word} {k : Nat} (hk : getF w Fld.REG_DUMP_CTRL_TRIGGER = k) (hf : getB w Fld.REG_DUMP_CTRL_FIRE = false)
    (hc : getB w Fld.REG_DUMP_CTRL_CLEAR = true) : writeDumpCtrl w s = dumpClear (wrF Reg.REG_DUMP_CTRL Fld.REG_DUMP_CTRL_TRIGGER k s) := by
  simp only [writeDumpCtrl, hk, hf, hc, Bool.false_eq_true, false_and, if_false, if_true]

end

theorem execViewApply_unreached {t : Tick} {r : Requester} {n : BitVec 3} {l : Fin 9} {s : State}
    (h : layerWindow (advance t s) r.fn.val (9 * n.toNat + l.val) = none) : execViewApply t r n l s = .next (advance t s) := by
  simp only [execViewApply, h]

theorem execViewApply_reached {t : Tick} {r : Requester} {n : BitVec 3} {l : Fin 9} {s : State} {b : Nat}
    (h : layerWindow (advance t s) r.fn.val (9 * n.toNat + l.val) = some b)
    (hp : Plain r (b + 0xA0) (layerBase (9 * n.toNat + l.val) + 0xA0) (advance t s)) :
    execViewApply t r n l s = .next (passHeld (portOf (advance t s) r.fn.val) (viewApply (9 * n.toNat + l.val) (dropLatch r (advance t s)))) := by
  have hn := n.isLt
  have hl := l.isLt
  simp only [execViewApply, h, fullWrite_plain hp]
  rw [applyReg_viewApply r (by omega)]

/-- Settles O57: the write reaches its register, whose effect is that of its chapter. -/
theorem controlWritesComplete : Obligations.ControlWritesComplete := by
  intro t s pf world h rq z pass at_
  have lands {off : Nat} (hp : at_ off) (w : Word) {u : State} (hu : applyReg rq off w z = u) : Host.Outcome.next (fullWrite rq off w h) = pass u := by
    rw [fullWrite_pf_plain hp, hu]
  refine ⟨fun en hp => ?dbg, fun hp hl => ?coLock, fun n hp => ?arm, fun r n l => ⟨execViewApply_unreached, fun b => execViewApply_reached⟩,
    fun v value => ?vin, fun n len addr => ?sideband, fun min max hp => ?watchdog, fun k hp => ?dump⟩
  case dbg =>
    have hen : (en.setWidth 32 : Word).toNat = en.toNat := BitVec.toNat_setWidth_of_le (by decide)
    refine ⟨fun hsame => lands hp _ ?_, fun hnew => lands hp _ ?_⟩
    · rw [applyReg_dbg, writeDbg_same (by rw [hen]; exact hsame)]
    · rw [applyReg_dbg, writeDbg_clears (by rw [hen]; exact hnew), hen, logReq, pfReq_fn]
  case coLock => exact lands hp 1 ((applyReg_coLock ..).trans (lockedWrite_coLock 1 hl))
  case arm => exact ⟨lands hp 1 ((applyReg_arm ..).trans (writeArm_a _)), lands hp 2 ((applyReg_arm ..).trans (writeArm_b _))⟩
  case vin =>
    intro r y hp hoff
    have hen : getB (setB value Fld.VIN_CTRL_ENABLE true) Fld.VIN_CTRL_ENABLE = true := getB_setB_same _ _ (by decide) (by decide)
    have heff := (applyReg_vin rq v (setB value Fld.VIN_CTRL_ENABLE true) z).trans (writeVinCtrl_enable hen hoff)
    exact ⟨fun hr => lands hp _ (heff.trans (if_pos hr)), fun hr => lands hp _ (heff.trans (if_neg (ne_true_of_eq_false hr)))⟩
  case sideband =>
    intro off y hp
    have start (cmd : Nat) : Host.Outcome.next (sbWrite rq n.toNat cmd len.toNat addr.toNat h) = pass (sbStart n.toNat (y cmd)) :=
      lands hp (sbWord cmd len.toNat addr.toNat) ((applyReg_sb ..).trans (writeSbCtrl_start ..))
    exact ⟨start 0, start 1, start 2, start 3, start 4, start 5, start 6, fun _ _ => sbStart_busy⟩
  case watchdog =>
    refine ⟨fun hen => lands hp _ ((applyReg_wdCtrl ..).trans (writeWdCtrl_enabled hen)), fun hen => lands hp _ ?_⟩
    rw [applyReg_wdCtrl, writeWdCtrl_enables hen (getB_wdWord_en ..), dropLatch_gtb]
  case dump =>
    obtain ⟨⟨hk, hf, hc⟩, hk', hf', hc'⟩ := dumpWord_fields k
    have hfire := (applyReg_dumpCtrl rq _ z).trans (writeDumpCtrl_fire hk hf hc)
    exact ⟨fun hlo hhi => lands hp _ (hfire.trans (if_pos ⟨hlo, hhi⟩)), fun hout => lands hp _ (hfire.trans (if_neg (by omega))),
      lands hp _ ((applyReg_dumpCtrl ..).trans (writeDumpCtrl_clear hk' hf' hc'))⟩

end Sys2Proof.Proofs

namespace Sys2Proof.Proofs

open Sys2Proof Sys2Proof.Machine Sys2Proof.Laws

/-! ### Event queues (R193 to R195)

What one EVENT_RECORD_POST does at a queue: the oldest record of its backlog goes first; a posted record is written, held in the backlog, or lost and counted. -/

/-- The state once a posted record has been taken off the list of those that wait. -/
def postTaken (rest : List (Nat × List Byte)) (s : State) : State := { s with hif := { s.hif with posts := rest } }

/-- Two changes of a queue that agree on the record it holds are one change. -/
theorem setEq_congr {fn : Nat} {holm : Bool} {f g : EqRec → EqRec} {s : State} (h : f (eqRec s fn holm) = g (eqRec s fn holm)) :
    setEq fn holm f s = setEq fn holm g s := by
  unfold eqRec at h
  simp only [setEq, tmod, h]

theorem execEventRecordPost_down {t : Tick} {fn : Fn} {holm : Bool} {s : State} (h : mgmtUp (advance t s) = false) :
    execEventRecordPost t fn holm s = .next (advance t s) :=
  if_pos h

theorem execEventRecordPost_up {t : Tick} {fn : Fn} {holm : Bool} {s u : State} (h : mgmtUp (advance t s) = true)
    (hu : eqPost fn.val holm (dueFault fn.val holm (advance t s)) = u) : execEventRecordPost t fn holm s = .next u :=
  hu ▸ if_neg (ne_false_of_eq_true h)

section
variable {fn : Nat} {holm : Bool} {s : State} {b r : List Byte} {bs : List (List Byte)} {rest : List (Nat × List Byte)}

theorem eqPost_backlog (hb : (eqRec s fn holm).backlog = b :: bs) (ho : eqOpen (eqRec s fn holm) = true) :
    eqPost fn holm s = setEq fn holm (fun q => { q with backlog := bs }) (eqWrite fn holm b s) := by
  simp [eqPost, hb, ho]

theorem eqPost_idle (hb : (eqRec s fn holm).backlog = []) (ht : takePost (eqKey fn holm) s.hif.posts = none) : eqPost fn holm s = s := by
  simp [eqPost, hb, ht]

theorem eqPost_written (hb : (eqRec s fn holm).backlog = []) (ht : takePost (eqKey fn holm) s.hif.posts = some (r, rest))
    (hp : (fnRec (postTaken rest s) fn).state ≠ .absent) (ho : eqOpen (eqRec s fn holm) = true) :
    eqPost fn holm s = eqWrite fn holm r (postTaken rest s) := by
  unfold postTaken at hp
  simp [eqPost, postTaken, hb, ht, hp, ho]

/-- A queue without room holds the record or loses it, as its backlog has room or not; an empty backlog is no case of its own. -/
theorem eqPost_closed (ht : takePost (eqKey fn holm) s.hif.posts = some (r, rest)) (hp : (fnRec (postTaken rest s) fn).state ≠ .absent)
    (ho : eqOpen (eqRec s fn holm) = false) :
    eqPost fn holm s =
      if (eqRec s fn holm).backlog.length < 64 then setEq fn holm (fun q => { q with backlog := q.backlog ++ [r] }) (postTaken rest s)
      else setEq fn holm (fun q => { q with lost := (q.lost + 1) % 65536, overflow := true }) (postTaken rest s) := by
  unfold postTaken at hp
  cases hb : (eqRec s fn holm).backlog with
  | nil =>
    have hfirst : setEq fn holm (fun q => { q with backlog := q.backlog ++ [r] }) (postTaken rest s) =
        setEq fn holm (fun q => { q with backlog := [r] }) (postTaken rest s) :=
      setEq_congr (congrArg (fun l => { eqRec s fn holm with backlog := l ++ [r] }) hb)
    rw [hfirst]
    simp [eqPost, postTaken, hb, ht, hp, ho]
  | cons b bs => simp [eqPost, postTaken, hb, ht, hp, ho]

theorem eqPost_held (ht : takePost (eqKey fn holm) s.hif.posts = some (r, rest)) (hp : (fnRec (postTaken rest s) fn).state ≠ .absent)
    (ho : eqOpen (eqRec s fn holm) = false) (hl : (eqRec s fn holm).backlog.length < 64) :
    eqPost fn holm s = setEq fn holm (fun q => { q with backlog := q.backlog ++ [r] }) (postTaken rest s) :=
  (eqPost_closed ht hp ho).trans (if_pos hl)

theorem eqPost_lost (ht : takePost (eqKey fn holm) s.hif.posts = some (r, rest)) (hp : (fnRec (postTaken rest s) fn).state ≠ .absent)
    (ho : eqOpen (eqRec s fn holm) = false) (hl : 64 ≤ (eqRec s fn holm).backlog.length) :
    eqPost fn holm s = setEq fn holm (fun q => { q with lost := (q.lost + 1) % 65536, overflow := true }) (postTaken rest s) :=
  (eqPost_closed ht hp ho).trans (if_neg (Nat.not_lt.2 hl))

end

/-- Settles O34: outside a stall the command is `eqPost`, whose cases turn on the backlog, on whether the queue has room, and on whether the backlog has. -/
theorem eventRecordsWaitTheirTurn : Obligations.EventRecordsWaitTheirTurn := by
  intro t s fn holm r rest h d q e
  exact ⟨execEventRecordPost_down,
    fun _ _ hm hb ho => execEventRecordPost_up hm (eqPost_backlog hb ho),
    fun hm hb ht hp ho => execEventRecordPost_up hm (eqPost_written hb ht hp ho),
    fun hm ht hp ho hl => execEventRecordPost_up hm (eqPost_held ht hp ho hl),
    fun hm ht hp ho hl => execEventRecordPost_up hm (eqPost_lost ht hp ho hl),
    fun hm hb ht => execEventRecordPost_up hm (eqPost_idle hb ht)⟩

/-! ### The commands on functions (R199 to R214, R639)

What each opcode's own step answers once its target has passed R639; the request around it is `gcp_reply`, or `gcp_later` where the reply waits. -/

section
variable {c : Ctx} {s : State}

theorem doFnCreate_built {slot : Nat} (hres : leAt c.pay 0xE 2 = 0) (hask : fnAskCheck s c (parseFnAsk c.pay) = none)
    (hslot : slotFor s (parseFnAsk c.pay).vf = some slot) :
    doFnCreate c s = .reply (stDone (le 1 (4 + slot) ++ le 3 0)) (buildFn c.fn slot .active (ctxRequester c) (parseFnAsk c.pay) s) := by
  simp [doFnCreate, hres, hask, hslot]

theorem doFnQuiesce_active (ht : fnTarget s c = none) (hst : (fnRec s (leAt c.pay 0 1)).state = .active) :
    doFnQuiesce c s = .later (setFn (leAt c.pay 0 1) (fun y => { y with waiters := y.waiters ++ [c.port] }) (quiesce (leAt c.pay 0 1) s)) := by
  simp [doFnQuiesce, ht, hst]

theorem doFnQuiesce_quiesced (ht : fnTarget s c = none) (hst : (fnRec s (leAt c.pay 0 1)).state = .quiesced) :
    doFnQuiesce c s = .reply (stDone []) s := by
  simp [doFnQuiesce, ht, hst]

theorem doFnQuiesce_resetting (ht : fnTarget s c = none) (hst : (fnRec s (leAt c.pay 0 1)).state = .resetting) :
    doFnQuiesce c s = .reply (stOnly .functionBusy) s := by
  simp [doFnQuiesce, ht, hst]

theorem doFnResume_quiesced (ht : fnTarget s c = none) (hst : (fnRec s (leAt c.pay 0 1)).state = .quiesced) :
    doFnResume c s = .reply (stDone []) (setFn (leAt c.pay 0 1) (fun y => { y with state := .active }) s) := by
  simp [doFnResume, ht, hst]

/-- FN_RESUME waits for nothing: a function on its way to rest, in reset or being saved refuses it (R206). -/
theorem doFnResume_busy (ht : fnTarget s c = none)
    (hst : (fnRec s (leAt c.pay 0 1)).state = .quiescing ∨ (fnRec s (leAt c.pay 0 1)).state = .resetting ∨ (fnRec s (leAt c.pay 0 1)).state = .saving) :
    doFnResume c s = .reply (stOnly .functionBusy) s := by
  rcases hst with hst | hst | hst <;> simp [doFnResume, ht, hst]

theorem doFnReset_quiesced (ht : fnTarget s c = none) (hst : (fnRec s (leAt c.pay 0 1)).state = .quiesced) :
    doFnReset c s = .reply (stDone []) (resetNow (leAt c.pay 0 1) s) := by
  simp [doFnReset, ht, hst]

theorem doFnReset_busy (ht : fnTarget s c = none) (hst : (fnRec s (leAt c.pay 0 1)).state ≠ .quiesced) :
    doFnReset c s = .reply (stOnly .functionBusy) s := by
  simp [doFnReset, ht, hst]

theorem doFnRemove_quiesced (ht : fnTarget s c = none) (hst : (fnRec s (leAt c.pay 0 1)).state = .quiesced) :
    doFnRemove c s = .reply (stDone []) (removeFn (leAt c.pay 0 1) c.fn s) := by
  simp [doFnRemove, ht, hst]

theorem doFnRemove_busy (ht : fnTarget s c = none) (hst : (fnRec s (leAt c.pay 0 1)).state ≠ .quiesced) :
    doFnRemove c s = .reply (stOnly .functionBusy) s := by
  simp [doFnRemove, ht, hst]

/-- FN_SAVE with length 0 asks for the image's length alone (R212). -/
theorem doFnSave_length (ht : fnTarget s c = none) (hst : (fnRec s (leAt c.pay 0 1)).state = .quiesced) (hlen : leAt c.pay 0xC 4 = 0) :
    doFnSave c s = .reply (stDone (le 4 (imageLen s (leAt c.pay 0 1)))) s := by
  simp [doFnSave, ht, hst, hlen]

theorem doFnSave_room (ht : fnTarget s c = none) (hst : (fnRec s (leAt c.pay 0 1)).state = .quiesced) (hlen : leAt c.pay 0xC 4 ≠ 0)
    (hroom : imageLen s (leAt c.pay 0 1) ≤ leAt c.pay 0xC 4) :
    doFnSave c s = .later (setFn (leAt c.pay 0 1)
      (fun y => { y with state := .saving, waiters := [c.port], saveDest := leAt c.pay 4 8, saveLen := leAt c.pay 0xC 4, saveAt := s.gtb }) s) := by
  simp [doFnSave, ht, hst, hlen, Nat.not_lt.2 hroom]

/-- The state in which FN_RESTORE judges its image: the read of the source has left its fault, if it met one (R238). -/
def imageFetched (c : Ctx) (s : State) : State := noteFault c.fn 8 false (leAt c.pay 4 8) (leAt c.pay 0xC 4) s

/-- The image that FN_RESTORE reads. -/
def imageRead (c : Ctx) (s : State) : List Byte := rdIovas s c.fn (leAt c.pay 4 8) (leAt c.pay 0xC 4)

/-- The function that the header of that image asks for. -/
def imageAsked (c : Ctx) (s : State) : FnAsk := imageAsk (leAt c.pay 0 1) (leAt c.pay 1 1) (imageRead c s)

theorem doFnRestore_built {body : List Byte} {slot : Nat} {u : State} (hres : leAt c.pay 2 2 = 0)
    (hpoison : ctxPoison (imageFetched c s) (some c.fn) (leAt c.pay 4 8) (leAt c.pay 0xC 4) = false)
    (hopen : openImage (imageFetched c s) (imageRead c s) (leAt c.pay 0xC 4) = some body)
    (hask : fnAskCheck (imageFetched c s) c (imageAsked c s) = none) (hslot : slotFor (imageFetched c s) (imageAsked c s).vf = some slot)
    (hparts : restoreParts (4 + slot) (sectionsOf body.length body)
      (buildFn c.fn slot .quiesced (ctxRequester c) (imageAsked c s) (imageFetched c s)) = some u) :
    doFnRestore c s = .reply (stDone (le 1 (4 + slot) ++ le 3 0)) u := by
  unfold imageFetched imageAsked imageRead at *
  simp [doFnRestore, hres, hpoison, hopen, hask, hslot, hparts]

end

/-- Settles O23: an accepted request ends with what its opcode's own step answers, or is held on its port until the function is quiet or saved. -/
theorem functionCommandsComplete : Obligations.FunctionCommandsComplete := by
  intro t q s x c h p fn f a st
  exact ⟨fun _ k hres hask hslot => gcp_reply k (doFnCreate_built hres hask hslot),
    fun k ht hst => gcp_later k (doFnQuiesce_active ht hst), fun k ht hst => gcp_reply k (doFnQuiesce_quiesced ht hst),
    fun k ht hst => gcp_reply k (doFnQuiesce_resetting ht hst),
    fun k ht hst => gcp_reply k (doFnResume_quiesced ht hst), fun k ht hst => gcp_reply k (doFnResume_busy ht hst),
    fun k ht hst => gcp_reply k (doFnReset_quiesced ht hst), fun k ht hst => gcp_reply k (doFnReset_busy ht hst),
    fun k ht hst => gcp_reply k (doFnRemove_quiesced ht hst), fun k ht hst => gcp_reply k (doFnRemove_busy ht hst),
    fun k ht hst hlen => gcp_reply k (doFnSave_length ht hst hlen), fun k ht hst hlen hroom => gcp_later k (doFnSave_room ht hst hlen hroom),
    fun _ _ _ k hres hpoison hopen hask hslot hparts => gcp_reply k (doFnRestore_built hres hpoison hopen hask hslot hparts)⟩

end Sys2Proof.Proofs

namespace Sys2Proof.Proofs

open Sys2Proof Sys2Proof.Machine Sys2Proof.Laws

/-! ### Events of memory (R220, R221, R228, R229, R232, R238, R241, R316)

What each event does to the state that its tick has reached, by the condition that the rule turns on. -/

section
variable {t : Tick} {s : State}

/-- The command of a scrub with no corrected word still lets time pass (R220). -/
theorem execVatScrub_nil : execVatScrub t [] s = .next (advance t s) := rfl

theorem execVatScrub_cons (off : BitVec 26) (rest : List (BitVec 26)) :
    execVatScrub t (off :: rest) s = .next (rest.foldl vatCorrected (vatCorrected (advance t s) off)) := rfl

/-- The state in which a mapped word in error is marked and noted, before its region decides what follows (R221, R228). -/
def eccNoted (a : Nat) (data : BitVec 64) (s : State) : State := faultNote 0x45 2 a 0x0602 (poisonWord a (le 8 data.toNat) s)

/-- The state in which the Vat has counted the error and shows its word (R221). -/
def vatUncorrected (o : Nat) (s : State) : State :=
  wr Reg.VAT_ECC_LAST (BitVec.ofNat 32 (packF Fld.VAT_ECC_LAST_UE 1 + o))
    (wrF Reg.VAT_ECC_CNT Fld.VAT_ECC_CNT_UNCORRECTED ((fld s Reg.VAT_ECC_CNT Fld.VAT_ECC_CNT_UNCORRECTED + 1) % 65536) s)

section
variable {dpa : BitVec 40} (data : BitVec 64) (item : Option (Fn × Word))

/-- An error at a DPA that no array holds is no event (Table 7.1). -/
theorem execEccUncorrectable_unmapped (hm : dpaMapped (advance t s) (dpa.toNat / 8 * 8) = false) :
    execEccUncorrectable t dpa data item s = .next (advance t s) :=
  if_pos hm

theorem execEccUncorrectable_mapped (hm : dpaMapped (advance t s) (dpa.toNat / 8 * 8) = true) :
    execEccUncorrectable t dpa data item s =
      if dpa.toNat / 8 * 8 < vatBase then .next (lostItem item (eccNoted (dpa.toNat / 8 * 8) data (advance t s)))
      else .next (eccRegion (dpa.toNat / 8 * 8 - vatBase) item
        (vatUncorrected (dpa.toNat / 8 * 8 - vatBase) (eccNoted (dpa.toNat / 8 * 8) data (advance t s)))) :=
  if_neg (ne_false_of_eq_true hm)

theorem execEccUncorrectable_dram (hm : dpaMapped (advance t s) (dpa.toNat / 8 * 8) = true) (hd : dpa.toNat / 8 * 8 < vatBase) :
    execEccUncorrectable t dpa data item s = .next (lostItem item (eccNoted (dpa.toNat / 8 * 8) data (advance t s))) :=
  (execEccUncorrectable_mapped data item hm).trans (if_pos hd)

theorem execEccUncorrectable_vat (hm : dpaMapped (advance t s) (dpa.toNat / 8 * 8) = true) (hv : vatBase ≤ dpa.toNat / 8 * 8) :
    execEccUncorrectable t dpa data item s = .next (eccRegion (dpa.toNat / 8 * 8 - vatBase) item
      (vatUncorrected (dpa.toNat / 8 * 8 - vatBase) (eccNoted (dpa.toNat / 8 * 8) data (advance t s)))) :=
  (execEccUncorrectable_mapped data item hm).trans (if_neg (Nat.not_lt.2 hv))

end

/-- The extent that has waited longest is cleared and joins the free pool (R232). -/
theorem execPageZeroFillDone_cons {b n : Nat} {es : List (Nat × Nat)} (hc : (advance t s).mem.clearing = (b, n) :: es) :
    execPageZeroFillDone t s = .next { zeroFill b n (advance t s) with
      mem := { (zeroFill b n (advance t s)).mem with clearing := es, free := addExt b n (zeroFill b n (advance t s)).mem.free } } := by
  simp only [execPageZeroFillDone, hc]

theorem execPageZeroFillDone_nil (hc : (advance t s).mem.clearing = []) : execPageZeroFillDone t s = .next (advance t s) := by
  simp only [execPageZeroFillDone, hc]

/-- A faulting access counts towards its function's next record and moves no data (R238). -/
theorem execMemFault_fault {fn : Fn} {source : BitVec 8} {iova : BitVec 48} {write perm : Bool}
    (hx : xlate (advance t s) fn.val write iova.toNat = .fault perm) :
    execMemFault t fn source iova write s = .next (countFault fn.val fn.val source.toNat iova.toNat write perm (advance t s)) := by
  simp only [execMemFault, hx, memFault]

theorem execNoFetchInFlight_on {n : BitVec 3} (hn : tgOn (advance t s) n.toNat = true) : execNoFetchInFlight t n s = .next (advance t s) :=
  if_pos hn

theorem execNoFetchInFlight_off {n : BitVec 3} (hn : tgOn (advance t s) n.toNat = false) :
    execNoFetchInFlight t n s = .next (leaseAll n.toNat (advance t s).gtb (advance t s)) :=
  if_neg (ne_true_of_eq_false hn)

theorem execSelfRefreshWake_awake (hr : flg (advance t s) Reg.DRC_SR_STAT Fld.DRC_SR_STAT_IN_SR = false) :
    execSelfRefreshWake t s = .next (advance t s) :=
  if_neg (ne_true_of_eq_false hr)

/-- Showing that a request is held changes neither gate 4 nor the time base, so both are read in the state that the tick has reached (R229). -/
theorem execSelfRefreshWake_held (hr : flg (advance t s) Reg.DRC_SR_STAT Fld.DRC_SR_STAT_IN_SR = true) :
    execSelfRefreshWake t s = .next
      (if gateState (advance t s) 4 = .off then
        queueGate 4 true (advance t s).gtb [] (wrB Reg.DRC_SR_STAT Fld.DRC_SR_STAT_HELD true (advance t s))
      else wrB Reg.DRC_SR_STAT Fld.DRC_SR_STAT_HELD true (advance t s)) :=
  if_pos hr

/-- A write that stays inside its slot is a write of device memory, whose own rule disarms the slot or holds the bytes back (R316). -/
theorem execSlotWriteDisarm_within {n : BitVec 3} {slot : Bool} {off : BitVec 18} {bs : List Byte} (hb : off.toNat + bs.length ≤ 0x30000) :
    execSlotWriteDisarm t n slot off bs s = .next (wrDpas (slotBase n.toNat slot + off.toNat) bs (advance t s)) :=
  if_pos hb

end

/-- Settles O36: each event's meaning is a choice by one condition on the state its tick has reached, and each clause is the branch that its hypothesis selects. -/
theorem memoryEventsComplete : Obligations.MemoryEventsComplete := by
  intro t s h
  refine ⟨⟨execVatScrub_nil, execVatScrub_cons⟩, fun dpa data item => ?ecc, fun _ _ _ => execPageZeroFillDone_cons, execPageZeroFillDone_nil,
    fun _ _ _ _ _ => execMemFault_fault, fun _ => ⟨execNoFetchInFlight_on, execNoFetchInFlight_off⟩,
    execSelfRefreshWake_awake, execSelfRefreshWake_held, fun _ _ _ _ => execSlotWriteDisarm_within⟩
  case ecc =>
    exact ⟨execEccUncorrectable_unmapped data item, execEccUncorrectable_dram data item, execEccUncorrectable_vat data item⟩

end Sys2Proof.Proofs

namespace Sys2Proof.Proofs

open Sys2Proof Sys2Proof.Machine Sys2Proof.Laws

/-! ### Events of render and compute jobs (R255, R261, R270, R272, R274, R280)

Every event acts on the state `accrue (advance t s)`: the command's tick is reached and the meters stand at it. -/

/-- The step of the context `x` on a core is over: the DRAM bytes that it moved are charged to its item and the core is free (R275, R284). -/
def stepEnded (core : BitVec 4) (x : SCtx) (drb : BitVec 40) (s : State) : State :=
  freeCore core.toNat (meter x.fn x.id x.inst 0 drb.toNat s)

/-- A tile's samples and its programs' writes are stored, and the tile and its removed fragments are counted (R267, Tables 8.15 and 8.16). -/
def tileStored (j : Job) (i : Nat) (r : TileRun) (writes : List MemWrite) (s : State) : State :=
  bump32 Reg.GPX_CNT_TILES 1 (bump32 Reg.GPX_CNT_HSR (removedCount r.passed)
    (storeTile j i r.tm (jobStores j writes { s with drawn := s.drawn + 1 })))

/-- A job faults with BAD_STATE at a byte offset of its stream: its front end stops there and the fault is reported (R274, R280). -/
def programFaulted (off : Nat) (j : Job) (s : State) : State :=
  reportFault (stopFront 4 off j) (setJob j.fn j.id j.inst (fun _ => stopFront 4 off j) s)

theorem some_if_or_none {α : Type} (p : Prop) [Decidable p] (v : α) : (if p then some v else none) = none ∨ (if p then some v else none) = some v := by
  by_cases h : p
  · exact .inr (if_pos h)
  · exact .inl (if_neg h)

section
variable {t : Tick} {s : State} {core : BitVec 4} {x : SCtx} {j : Job}
  (hx : (coreRec (accrue (advance t s)) core.toNat).ctx = some x) (hj : jobOf (accrue (advance t s)) x.fn x.id x.inst = some j)
include hx hj

theorem execVertexBatchEnd_batch {cmd prim len : Nat} {prims : List ClipPrim} {writes : List MemWrite} {drb : BitVec 40} (hs : x.step = .batch cmd prim len) :
    execVertexBatchEnd t core prims writes drb s =
      .next (setJob x.fn x.id x.inst (batchDone cmd prim len prims) (stepEnded core x drb (jobStores j writes (accrue (advance t s))))) := by
  simp only [execVertexBatchEnd, hx, hs, hj, stepEnded]

/-- The context that takes a tile is inside a section from now on where the tile's first entry lies in one, and outside any otherwise (R79, R261). -/
theorem execTileDispatch_next {i : Nat} {rest : List Nat} (hs : x.step = .tile none) (ht : j.tiles = i :: rest) :
    ∃ sec, execTileDispatch t core s = .next (setJob x.fn x.id x.inst (fun j => { j with tiles := rest, tilesOut := j.tilesOut + 1 })
        (setCore core.toNat { coreRec (accrue (advance t s)) core.toNat with ctx := some { x with step := .tile (some i), sectAt := sec } }
          (accrue (advance t s)))) ∧
      (sec = none ∨ sec = some (accrue (advance t s)).gtb) := by
  simp only [execTileDispatch, hx, hs, hj, ht]
  exact ⟨_, rfl, some_if_or_none _ _⟩

theorem execTileDispatch_noTile (hs : x.step = .tile none) (ht : j.tiles = []) :
    execTileDispatch t core s = .next (freeCore core.toNat (accrue (advance t s))) := by
  simp only [execTileDispatch, hx, hs, hj, ht]

theorem execTileStoreDone_tile {i : Nat} {frags : List Frag} {writes : List MemWrite} {drb : BitVec 40} (hs : x.step = .tile (some i)) :
    execTileStoreDone t core frags writes drb s = .next (setJob x.fn x.id x.inst (fun j => { j with tilesOut := j.tilesOut - 1 })
      (stepEnded core x drb (tileStored j i (runTile (accrue (advance t s)) j frags i) writes (accrue (advance t s))))) := by
  simp only [execTileStoreDone, hx, hs, hj, stepEnded, tileStored]

theorem execWorkgroupDone_group {cmd i : Nat} {writes : List MemWrite} {drb : BitVec 40} (hs : x.step = .group cmd i) :
    execWorkgroupDone t core writes drb s =
      .next (setJob x.fn x.id x.inst groupEnd (stepEnded core x drb (jobStores j writes (accrue (advance t s))))) := by
  simp only [execWorkgroupDone, hx, hs, hj, stepEnded]

/-- The fault of a vertex program lies at the STATE that selected it (R280). -/
theorem execProgramFault_batch {cmd prim len : Nat} {entry : Word} (hs : x.step = .batch cmd prim len) :
    execProgramFault t core entry s = .next (programFaulted (progOff j cmd false) j (accrue (advance t s))) := by
  simp only [execProgramFault, hx, hs, hj, programFaulted]

/-- The fault of a compute program lies at its DISPATCH (R280). -/
theorem execProgramFault_group {cmd i : Nat} {entry : Word} (hs : x.step = .group cmd i) :
    execProgramFault t core entry s = .next (programFaulted (progOff j cmd true) j (accrue (advance t s))) := by
  simp only [execProgramFault, hx, hs, hj, programFaulted]

end

section
variable {t : Tick} {s : State} {core : BitVec 4} (hx : (coreRec (accrue (advance t s)) core.toNat).ctx = none)
include hx

theorem execTileDispatch_free : execTileDispatch t core s = .next (accrue (advance t s)) := by
  simp only [execTileDispatch, hx]

theorem execWorkgroupDone_free {writes : List MemWrite} {drb : BitVec 40} :
    execWorkgroupDone t core writes drb s = .next (accrue (advance t s)) := by
  simp only [execWorkgroupDone, hx]

end

/-- A finished job leaves the renderer, its command fault reported first (R272, R274). -/
def jobClosed (j : Job) (s : State) : State := dropJob j.fn j.id j.inst (reportFault j s)

/-- A delivered job has left the renderer, its fence is written and GPX_CNT_JOBS counts it (R272, Table 8.14). -/
def jobFenced (j : Job) (s : State) : State :=
  bump32 Reg.GPX_CNT_JOBS 1 (setFence j.fn j.holm j.fence j.id (jobClosed j s))

section
variable {t : Tick} {s : State} {fn : Fn} {id inst : Word} {j : Job} (hj : jobOf (accrue (advance t s)) fn.val id.toNat inst.toNat = some j)
include hj

theorem execCommandFault_job : execCommandFault t fn id inst s = .next (reportFault j (accrue (advance t s))) := by
  simp only [execCommandFault, hj]

theorem execVertexPhaseDone_job :
    execVertexPhaseDone t fn id inst s =
      if vertexDone (accrue (advance t s)) (binOn (2 * j.cmds.length + 2) j) then
        .next (setJob j.fn j.id j.inst (fun _ => toFragment (binOn (2 * j.cmds.length + 2) j)) (accrue (advance t s)))
      else .next (accrue (advance t s)) := by
  simp only [execVertexPhaseDone, hj]

theorem execDispatchBegin_job :
    execDispatchBegin t fn id inst s =
      if (jobDispatch j).isSome ∧ j.begun = false ∧ j.wgOut = 0 then
        .next (setJob j.fn j.id j.inst (fun j => { j with begun := true, wg := 0 }) (accrue (advance t s)))
      else .next (accrue (advance t s)) := by
  simp only [execDispatchBegin, hj]

theorem execJobDelivered_unfinished (hd : jobDone (accrue (advance t s)) j = false) :
    execJobDelivered t fn id inst s = .next (accrue (advance t s)) := by
  simp [execJobDelivered, hj, hd]

variable (hd : jobDone (accrue (advance t s)) j = true)
include hd

theorem execJobDelivered_lost (hl : j.lost = true) : execJobDelivered t fn id inst s = .next (jobClosed j (accrue (advance t s))) := by
  simp only [execJobDelivered, hj, if_pos hd, if_pos hl, jobClosed]

section
variable (hl : j.lost = false) {c : Contract} (hc : contractOf (jobFenced j (accrue (advance t s))) j.fn j.id = some c)
include hl hc

theorem execJobDelivered_kept :
    execJobDelivered t fn id inst s =
      if c.kind == .cream then .next (setContract j.fn j.id (fun c => { c with phase := .ended }) (jobFenced j (accrue (advance t s))))
      else .next (finish j.fn j.id j.inst (jobFenced j (accrue (advance t s))).gtb 0
        (frameDone j.fn j.id j.inst (jobFenced j (accrue (advance t s))).gtb (jobFenced j (accrue (advance t s))))) := by
  unfold jobFenced jobClosed at *
  simp only [execJobDelivered, hj, if_pos hd, hl, hc, Bool.false_eq_true, if_false]

/-- The item of any other contract is finished at the tick of its delivery (R272). -/
theorem execJobDelivered_finishes (hk : c.kind ≠ .cream) :
    execJobDelivered t fn id inst s = .next (finish j.fn j.id j.inst (jobFenced j (accrue (advance t s))).gtb 0
      (frameDone j.fn j.id j.inst (jobFenced j (accrue (advance t s))).gtb (jobFenced j (accrue (advance t s))))) :=
  (execJobDelivered_kept hj hd hl hc).trans (if_neg (mt eq_of_beq hk))

/-- A CREAM item is delivered at the latch point that shows its update (R401), so its job only ends its work. -/
theorem execJobDelivered_cream (hk : c.kind = .cream) :
    execJobDelivered t fn id inst s =
      .next (setContract j.fn j.id (fun c => { c with phase := .ended }) (jobFenced j (accrue (advance t s)))) :=
  (execJobDelivered_kept hj hd hl hc).trans (if_pos (beq_iff_eq.2 hk))

end

end

section
variable {t : Tick} {s : State} {fn : Fn} {id inst : Word} (hj : jobOf (accrue (advance t s)) fn.val id.toNat inst.toNat = none)
include hj

theorem execCommandFault_noJob : execCommandFault t fn id inst s = .next (accrue (advance t s)) := by
  simp only [execCommandFault, hj]

theorem execJobDelivered_noJob : execJobDelivered t fn id inst s = .next (accrue (advance t s)) := by
  simp only [execJobDelivered, hj]

end

/-- Settles O37: an event of a core acts by the step that its context runs, an event of a job by the job's phase, and each clause is one of those cases. -/
theorem jobEventsComplete : Obligations.JobEventsComplete := by
  intro t s core drb writes x j h free
  refine ⟨fun hx hj => ?core, fun hx => ⟨execTileDispatch_free hx, execWorkgroupDone_free hx⟩, fun fn id inst hj => ?job,
    fun fn id inst hj => ⟨execCommandFault_noJob hj, execJobDelivered_noJob hj⟩⟩
  case core =>
    exact ⟨fun _ _ _ _ => execVertexBatchEnd_batch hx hj, fun _ _ => execTileDispatch_next hx hj, execTileDispatch_noTile hx hj,
      fun _ _ => execTileStoreDone_tile hx hj, fun _ _ => execWorkgroupDone_group hx hj,
      fun _ _ _ _ => execProgramFault_batch hx hj, fun _ _ _ => execProgramFault_group hx hj⟩
  case job =>
    refine ⟨execCommandFault_job hj, ⟨fun hv => ?binned, fun hv => ?binning⟩, fun hdisp hb hw => ?begins, fun hb => ?begun,
      execJobDelivered_unfinished hj, execJobDelivered_lost hj,
      fun hd hl => ⟨fun _ => execJobDelivered_finishes hj hd hl, fun _ => execJobDelivered_cream hj hd hl⟩⟩
    case binned => exact (execVertexPhaseDone_job hj).trans (if_pos hv)
    case binning => exact (execVertexPhaseDone_job hj).trans (if_neg (ne_true_of_eq_false hv))
    case begins => exact (execDispatchBegin_job hj).trans (if_pos ⟨Option.isSome_iff_ne_none.2 hdisp, hb, hw⟩)
    case begun => exact (execDispatchBegin_job hj).trans (if_neg fun hopen => ne_false_of_eq_true hb hopen.2.1)

end Sys2Proof.Proofs

namespace Sys2Proof.Proofs

open Sys2Proof Sys2Proof.Machine Sys2Proof.Laws

/-! ### The dispatcher's decisions (R286, R287, R291, R296)

Every decision is taken on the state `accrue (advance t s)`: the command's tick is reached and the meters stand at it. -/

theorem bestCand_filter_of_none {p : Cand → Bool} {l : List Cand} (h : ∀ c ∈ l, p c = false) : bestCand (l.filter p) = none := by
  rw [List.filter_eq_nil_iff.2 fun c hc => Bool.eq_false_iff.1 (h c hc), bestCand]

theorem any_core_idle_iff {s : State} : (List.range 16).any (fun c => (coreRec s c).ctx.isNone) = true ↔ ∃ k < 16, (coreRec s k).ctx = none := by
  simp only [List.any_eq_true, List.mem_range, Option.isNone_iff_eq_none]

section
variable {t : Tick} {s : State} {took : BitVec 10}

theorem execDispatcherDecision_on (hg : gateOn (accrue (advance t s)) 2 = true) :
    execDispatcherDecision t s = .next ((List.range 16).foldl fillCore (accrue (advance t s))) := if_pos hg

theorem execDispatcherDecision_off (hg : gateOn (accrue (advance t s)) 2 = false) :
    execDispatcherDecision t s = .next (accrue (advance t s)) := if_neg (ne_true_of_eq_false hg)

theorem execCompositorPreempt_claims {c : Cand} {core : Nat} {claimed : Bool} {u : State}
    (hc : bestCand ((candidates (accrue (advance t s)) 0).filter (fun c => c.rank == 0)) = some c)
    (hu : claimCore took.toNat (accrue (advance t s)) = some (core, claimed, u)) :
    execCompositorPreempt t took s = .next (place core claimed c u) := by
  simp only [execCompositorPreempt, hc, hu]

theorem execCompositorPreempt_noCandidate (hc : bestCand ((candidates (accrue (advance t s)) 0).filter (fun c => c.rank == 0)) = none) :
    execCompositorPreempt t took s = .next (accrue (advance t s)) := by
  simp only [execCompositorPreempt, hc]

theorem execMainlandSwap_idleCore {k : Nat} (hk : k < 16) (hi : (coreRec (accrue (advance t s)) k).ctx = none) :
    execMainlandSwap t s = .next (accrue (advance t s)) := if_pos (any_core_idle_iff.2 ⟨k, hk, hi⟩)

theorem execMainlandSwap_swaps {c : Nat} {x : SCtx} {y : Cand} (hbusy : ∀ k < 16, (coreRec (accrue (advance t s)) k).ctx ≠ none)
    (hv : bestVictim (swappable (accrue (advance t s))) = some (c, x))
    (hy : bestCand ((candidates (accrue (advance t s)) c).filter (fun y => y.rank == 1)) = some y) :
    execMainlandSwap t s = .next (place c false y (bump32 Reg.GPX_PRE_SWAP 1 (saveCtx c (accrue (advance t s))))) := by
  have hall : ¬ (List.range 16).any (fun c => (coreRec (accrue (advance t s)) c).ctx.isNone) = true := fun hany =>
    let ⟨k, hk, hi⟩ := any_core_idle_iff.1 hany
    hbusy k hk hi
  simp only [execMainlandSwap, if_neg hall, hv, hy]

end

/-- Settles O38: each of the three decisions is a choice by the gate, the free cores and the best candidate, and each clause is the branch that its hypothesis selects. -/
theorem dispatcherEventsComplete : Obligations.DispatcherEventsComplete := by
  intro t s took h
  refine ⟨execDispatcherDecision_on, execDispatcherDecision_off, fun _ _ _ _ => execCompositorPreempt_claims, fun hnone => ?noCompositor,
    fun _ _ _ => execMainlandSwap_swaps, fun _ => execMainlandSwap_idleCore⟩
  case noCompositor =>
    exact execCompositorPreempt_noCandidate (bestCand_filter_of_none fun c hc => beq_false_of_ne (hnone c hc))

end Sys2Proof.Proofs

namespace Sys2Proof.Proofs

open Sys2Proof Sys2Proof.Machine Sys2Proof.Laws

/-! ### Strips and skims (R42 to R45, R299 to R303) -/

/-- An output scans, composes in strips, and has a strip `k` in its active area (R43, R47). -/
def StripLive (s : State) (n k : Nat) : Prop := scanning s n = true ∧ inStrips s n = true ∧ k < stripCount s n

theorem stripLive_iff {s : State} {n k : Nat} :
    (scanning s n && inStrips s n && decide (k < stripCount s n)) = true ↔ StripLive s n k := by
  rw [Bool.and_eq_true, Bool.and_eq_true, decide_eq_true_eq, and_assoc, StripLive]

/-- What each layer of an output shows in the strip planned now (R299, R334). -/
def stripPlans (s : State) (n : Nat) : List Nat := (List.range 8).map (stripPlan s n)

/-- Strip `k` as its window opens: planned, with the views sampled and the skims of the late layers waited for (R299, R302). -/
def openedStrip (s : State) (n k : Nat) : Strip :=
  { index := k, plan := stripPlans s n, views := (List.range 8).map (fun l => (layerSt s (9 * n + l)).applied),
    waiting := (List.range 8).filter (fun l => (stripPlans s n).getD l 0 == 3) }

/-- A strip takes its place in the output's ring of four slots; an older strip leaves it (R44). -/
def enterStrip (n : Nat) (st : Strip) (s : State) : State :=
  setOut n (fun o => { o with strips := o.strips.filter (fun x => decide (st.index < x.index + 4)) ++ [st] }) s

/-- The lines of a strip of which nothing is ready (R45). -/
def uflowLines (s : State) (n k : Nat) : List (List Word) := List.replicate (stripLines s n k) (uflowLine s n)

/-- The context of a skim on a core: a compositor context that belongs to no function's job (R302). -/
def skimCtx (n l k : Nat) (stamp : Tick) : SCtx :=
  { fn := 0xFF, id := 0, inst := 0, cls := 0, holm := true, deadline := stamp, step := .skim n l k, placed := stamp }

/-- The skim of a layer in a strip is done: the strip waits for it no longer and holds its rows (R301). -/
def skimmed (n l k : Nat) (st : Strip) (s : State) : State :=
  setStrip n k (fun y => { y with waiting := y.waiting.erase l, skims := y.skims ++ [(l, skimRows s n l st)] }) s

section
variable {t : Tick} {s : State} {output : BitVec 3} {strip : BitVec 10}

/-- The window of a strip past strip 0, whose own window alone selects captures and judges readiness (R299, R353). -/
theorem execStripWindowOpen_plans (hk : 0 < strip.toNat) (hl : StripLive (advance t s) output.toNat strip.toNat)
    (hst : stripOf (advance t s) output.toNat strip.toNat = none) :
    execStripWindowOpen t output strip s = .next (composeStrip output.toNat strip.toNat
      (planFlags output.toNat (stripPlans (advance t s) output.toNat)
        ((List.range 8).foldl (noteReady output.toNat (stripPlans (advance t s) output.toNat))
          (enterStrip output.toNat (openedStrip (advance t s) output.toNat strip.toNat) (advance t s))))) := by
  simp only [execStripWindowOpen, stripLive_iff.2 hl, hst, Option.isNone_none, Bool.and_self, if_true, if_neg (Nat.ne_of_gt hk)]
  rfl

theorem execStripWindowOpen_planned {st : Strip} (hst : stripOf (advance t s) output.toNat strip.toNat = some st) :
    execStripWindowOpen t output strip s = .next (advance t s) := by
  simp only [execStripWindowOpen, hst, Option.isNone_some, Bool.and_false, Bool.false_eq_true, if_false]

theorem execSkim_claims {layer : BitVec 3} {took : BitVec 10} {st : Strip} {core : Nat} {claimed : Bool} {u : State}
    (hst : stripOf (accrue (advance t s)) output.toNat strip.toNat = some st) (hg : gateOn (accrue (advance t s)) 2 = true)
    (hfree : ∀ x ∈ running (accrue (advance t s)), x.step ≠ .skim output.toNat layer.toNat strip.toNat)
    (hw : st.waiting.contains layer.toNat = true) (hu : claimCore took.toNat (accrue (advance t s)) = some (core, claimed, u)) :
    execSkim t output layer strip took s =
      .next (setCore core { coreRec u core with ctx := some (skimCtx output.toNat layer.toNat strip.toNat u.gtb), claimed := claimed } u) := by
  have hnone : (running (accrue (advance t s))).any (fun x => x.step == .skim output.toNat layer.toNat strip.toNat) = false :=
    List.any_eq_false.2 fun x hx => mt eq_of_beq (hfree x hx)
  simp only [execSkim, hst, hg, hnone, hw, hu, Bool.not_false, Bool.and_self, if_true, skimCtx]

section
variable {core : BitVec 4} {x : SCtx} {n l k : Nat} {st : Strip}
  (hx : (coreRec (accrue (advance t s)) core.toNat).ctx = some x) (hs : x.step = .skim n l k)
  (hst : stripOf (freeCore core.toNat (accrue (advance t s))) n k = some st)
include hx hs hst

theorem execSkimDone_late (hc : st.complete = true) : execSkimDone t core s = .next (freeCore core.toNat (accrue (advance t s))) := by
  simp only [execSkimDone, hx, hs, hst, if_pos hc]

/-- Without a last ready frame as source there is no lease on which a fetch would count (R300, R303). -/
theorem execSkimDone_noSource (hc : st.complete = false) (hsrc : skimSrc (skimmed n l k st (freeCore core.toNat (accrue (advance t s)))) n l = none) :
    execSkimDone t core s = .next (composeStrip n k (layerFlag Fld.Lx_STAT_SKIMMED n l
      (bump32 Reg.GPX_SKIM_CNT 1 (skimmed n l k st (freeCore core.toNat (accrue (advance t s))))))) := by
  unfold skimmed at hsrc ⊢
  simp only [execSkimDone, hx, hs, hst, hc, Bool.false_eq_true, if_false, hsrc]

end

section
variable {lines : BitVec 5} (hl : StripLive (advance t s) output.toNat strip.toNat)
include hl

theorem execStripDuePoint_complete {st : Strip} (hst : stripOf (advance t s) output.toNat strip.toNat = some st) (hc : st.complete = true) :
    execStripDuePoint t output strip lines s = .next (advance t s) := by
  simp only [execStripDuePoint, stripLive_iff.2 hl, hst, hc, if_true]

theorem execStripDuePoint_missing (hst : stripOf (advance t s) output.toNat strip.toNat = none) :
    execStripDuePoint t output strip lines s = .next (underrun output.toNat strip.toNat
      (enterStrip output.toNat { index := strip.toNat, complete := true, lines := uflowLines (advance t s) output.toNat strip.toNat } (advance t s))) := by
  simp only [execStripDuePoint, stripLive_iff.2 hl, hst, if_true, enterStrip, uflowLines]

/-- With no line ready every line of the strip has the underflow colour, and nothing counts as fetched (R45). -/
theorem execStripDuePoint_unready {st : Strip} (hst : stripOf (advance t s) output.toNat strip.toNat = some st) (hc : st.complete = false) :
    execStripDuePoint t output strip 0 s = .next (underrun output.toNat strip.toNat
      (setStrip output.toNat strip.toNat (fun x => { x with complete := true, lines := uflowLines (advance t s) output.toNat strip.toNat }) (advance t s))) := by
  simp only [execStripDuePoint, stripLive_iff.2 hl, hst, hc, Bool.false_eq_true, if_true, if_false, BitVec.toNat_zero, BitVec.ofNat_eq_ofNat,
    Nat.not_lt_zero, List.map_const', List.length_range, uflowLines]

end

end

/-! ### The Bulk queue (R46, R304, R305) -/

/-- The queue frame whose composition begins on the state in which its captures are selected (R304). -/
def begunFrame (s : State) (n : Nat) : QFrame :=
  let plan := (List.range 8).map (queuePlan s n)
  { complete := false, lines := (List.range (vAct s n)).map (composeLine s n plan (fun _ => [])), began := s.gtb, plan := plan, reads := planReads s n plan }

theorem begunFrame_lines_length (s : State) (n : Nat) : (begunFrame s n).lines.length = vAct s n := by
  rw [begunFrame, List.length_map, List.length_range]

/-- The frame in work as it becomes available, with the fallback colour where a buffer was freed during its composition (R243, R304). -/
def completedFrame (s : State) (n : Nat) (q : QFrame) : QFrame := { freeInQueue s n q with complete := true }

section
variable {t : Tick} {s : State} {output : BitVec 3}

theorem execQueueFrameCompose_full (hq : queueFree (advance t s) output.toNat = false) :
    execQueueFrameCompose t output s = .next (advance t s) := if_neg (ne_true_of_eq_false hq)

theorem execQueueFrameCompose_room {v : State} (hq : queueFree (advance t s) output.toNat = true)
    (hv : v = (List.range 8).foldl (selectVin output.toNat) (advance t s)) :
    execQueueFrameCompose t output s = .next (planFlags output.toNat (begunFrame v output.toNat).plan (markLeases output.toNat
      (setOut output.toNat (fun o => { o with queue := o.queue ++ [begunFrame v output.toNat], starved := false })
        ((List.range 8).foldl (noteUsed output.toNat) v)))) := by
  subst hv
  exact if_pos hq

theorem execQueueFrameComplete_idle (hq : ∀ q ∈ (outSt (advance t s) output.toNat).queue, q.complete = true) :
    execQueueFrameComplete t output s = .next (advance t s) := by
  have hnone : (outSt (advance t s) output.toNat).queue.find? (fun q => !q.complete) = none :=
    List.find?_eq_none.2 fun q hm => by rw [hq q hm]; decide
  simp only [execQueueFrameComplete, hnone]

theorem execQueueFrameComplete_inWork {q : QFrame} (hq : (outSt (advance t s) output.toNat).queue.find? (fun q => !q.complete) = some q) :
    execQueueFrameComplete t output s = .next (planFlags output.toNat (completedFrame (advance t s) output.toNat q).plan
      (markLeases output.toNat (setOut output.toNat
        (fun o => { o with queue := o.queue.map (fun x => if x.complete then x else completedFrame (advance t s) output.toNat q) })
        (fetched output.toNat q.reads (advance t s).gtb (advance t s))))) := by
  simp only [execQueueFrameComplete, hq, completedFrame]

end

/-- Settles O39: each event of composition is a choice by the strip, the skim or the queue frame that the state holds, and each clause is the branch that its hypothesis selects. -/
theorem compositionEventsComplete : Obligations.CompositionEventsComplete := by
  intro t s output layer strip lines h a n k live
  refine ⟨fun v hk hl hst => ?opens, fun _ => execStripWindowOpen_planned, fun _ _ _ _ _ => execSkim_claims,
    fun _ _ _ _ => execSkimDone_late, fun _ _ _ _ => execSkimDone_noSource,
    fun _ hl => execStripDuePoint_complete hl, execStripDuePoint_missing, fun _ hl hst hc hlines => ?unready,
    execQueueFrameCompose_full, fun hq => ?room, execQueueFrameComplete_idle, fun _ => execQueueFrameComplete_inWork⟩
  case opens =>
    rintro plan st rfl
    exact execStripWindowOpen_plans hk hl hst
  case unready =>
    subst hlines
    exact execStripDuePoint_unready hl hst hc
  case room =>
    exact ⟨_, begunFrame _ n, rfl, rfl, rfl, rfl, begunFrame_lines_length _ n, execQueueFrameCompose_room hq rfl⟩

end Sys2Proof.Proofs

namespace Sys2Proof.Proofs

open Sys2Proof Sys2Proof.Machine Sys2Proof.Laws

/-! ### Events of the traversal unit (R307, R315, R319, R321) -/

/-- A render as it starts: it reads the slot that is active then, but the traversal half of a self-test draws the scene of the boot ROM (R307, R317). -/
def renderStarted (s : State) (r : TrvRender) : TrvRender := if r.kind = 2 then r else { r with slotB := (armRec s r.output).active == some true }

theorem renderStarted_changes_slotB (s : State) (r : TrvRender) : renderStarted s r = { r with slotB := (renderStarted s r).slotB } := by
  unfold renderStarted
  split
  case isTrue => rfl
  case isFalse => rfl

theorem renderStarted_slotB {s : State} {r : TrvRender} (hk : r.kind ≠ 2) : (renderStarted s r).slotB = ((armRec s r.output).active == some true) := by
  rw [renderStarted, if_neg hk]

/-- A render counted in TRV_RECn, with its rays that reached the step limit (R314, Table 10.10). -/
def renderCounted (n hits : Nat) (s : State) : State :=
  let w := setF (rd s (Reg.TRV_RECn n)) Fld.TRV_RECn_LIMIT_HITS (getF (rd s (Reg.TRV_RECn n)) Fld.TRV_RECn_LIMIT_HITS + hits)
  wr (Reg.TRV_RECn n) (setF w Fld.TRV_RECn_RENDERS (getF w Fld.TRV_RECn_RENDERS + 1)) s

/-- The regions of a render drawn from its slot, with the count of rays that reached the step limit (R314, R321). -/
def regionsDrawn (r : TrvRender) (s : State) : State × Nat :=
  (setBits 16 r.regions).foldl (drawRegion r.output (slotBase r.output r.slotB)) (s, 0)

/-- The unit idle again: the render is drawn and counted, and the writes that it held have landed (R307, R316, R321). -/
def renderEnded (r : TrvRender) (s : State) : State :=
  let p := regionsDrawn r s
  releaseHeld r.output (renderCounted r.output p.2 { p.1 with trv := { p.1.trv with running := none } })

/-- The CREAM work of an item told that its recovery render has ended (R322). -/
def creamRendered (fn id inst : Nat) (s : State) : State :=
  { s with disp := { s.disp with cream := s.disp.cream.map (fun w => if w.fn == fn && w.id == id && w.inst == inst then { w with rendered := true } else w) } }

section
variable {t : Tick} {s : State} {output : BitVec 3}

theorem execTrvArmComplete_idle (hp : (armRec (advance t s) output.toNat).pending = none) : execTrvArmComplete t output s = .next (advance t s) := by
  simp only [execTrvArmComplete, hp]

section
variable {b : Bool} (hp : (armRec (advance t s) output.toNat).pending = some b)
include hp

theorem execTrvArmComplete_sound (hok : sceneOk (advance t s) (slotBase output.toNat b) = true) :
    execTrvArmComplete t output s = .next (holmWake 0x20 (setArm output.toNat
      (fun r => { r with a := r.a || !b, b := r.b || b, active := some b, pending := none }) (advance t s))) := by
  simp only [execTrvArmComplete, hp, if_pos hok]

theorem execTrvArmComplete_unsound (hok : sceneOk (advance t s) (slotBase output.toNat b) = false) :
    execTrvArmComplete t output s = .next (wrB (Reg.TRV_ARMn output.toNat) Fld.TRV_ARMn_ARM_ERR true (setArm output.toNat
      (fun r => { r with a := r.a && b, b := r.b && !b, pending := none }) (advance t s))) := by
  simp only [execTrvArmComplete, hp, if_neg (ne_true_of_eq_false hok)]

end

theorem execTraversalRenderStart_running (hr : (advance t s).trv.running ≠ none) :
    execTraversalRenderStart t s = .next (advance t s) :=
  if_neg fun hready => hr (Option.isNone_iff_eq_none.1 (Bool.and_eq_true_iff.1 hready).1)

theorem execTraversalRenderStart_gateOff (hg : gateOn (advance t s) 0x20 = false) :
    execTraversalRenderStart t s = .next (advance t s) :=
  if_neg fun hready => ne_true_of_eq_false hg (Bool.and_eq_true_iff.1 hready).2

theorem execTraversalRenderStart_noneMayStart (hq : ∀ r ∈ (advance t s).trv.queue, mayStart (advance t s) r = false) :
    execTraversalRenderStart t s = .next (advance t s) := by
  have hnone : (advance t s).trv.queue.find? (mayStart (advance t s)) = none := List.find?_eq_none.2 fun r hm => ne_true_of_eq_false (hq r hm)
  simp only [execTraversalRenderStart, hnone, ite_self]

/-- The first render of the queue that may start leaves the queue and runs (R307, R402). -/
theorem execTraversalRenderStart_starts {r : TrvRender} (hr : (advance t s).trv.running = none) (hg : gateOn (advance t s) 0x20 = true)
    (hq : (advance t s).trv.queue.find? (mayStart (advance t s)) = some r) :
    execTraversalRenderStart t s = .next { advance t s with trv := { (advance t s).trv with
      running := some (renderStarted (advance t s) r), queue := (advance t s).trv.queue.erase r } } := by
  have hready : ((advance t s).trv.running.isNone && gateOn (advance t s) 0x20) = true :=
    Bool.and_eq_true_iff.2 ⟨Option.isNone_iff_eq_none.2 hr, hg⟩
  simp only [execTraversalRenderStart, if_pos hready, hq, renderStarted]

theorem execTraversalRenderDone_idle (hr : (advance t s).trv.running = none) : execTraversalRenderDone t s = .next (advance t s) := by
  simp only [execTraversalRenderDone, hr]

section
variable {r : TrvRender} (hr : (advance t s).trv.running = some r)
include hr

theorem execTraversalRenderDone_testHalf (hk : r.kind = 2) :
    execTraversalRenderDone t s = .next { advance t s with trv := { (advance t s).trv with running := none } } := by
  simp only [execTraversalRenderDone, hr, if_pos hk]

/-- A render without an owner is shown by the flip that its end makes pending (R411). -/
theorem execTraversalRenderDone_flip (hk : r.kind ≠ 2) (ho : r.owner = none) :
    execTraversalRenderDone t s = .next (flipPending r.output ⟨none, r.regions, (renderEnded r (advance t s)).gtb⟩ (renderEnded r (advance t s))) := by
  simp only [execTraversalRenderDone, hr, if_neg hk, ho, renderEnded, regionsDrawn, renderCounted]

/-- A render of an item lets the item's CREAM work go on (R322). -/
theorem execTraversalRenderDone_owned {fn id inst : Nat} (hk : r.kind ≠ 2) (ho : r.owner = some (fn, id, inst)) :
    execTraversalRenderDone t s = .next (creamRendered fn id inst (renderEnded r (advance t s))) := by
  simp only [execTraversalRenderDone, hr, if_neg hk, ho, renderEnded, regionsDrawn, renderCounted, creamRendered]

end

theorem execSelftestComplete_noTest {i j : List Byte} (hx : (advance t s).trv.tests = []) : execSelftestComplete t i j s = .next (advance t s) := by
  simp only [execSelftestComplete, hx]

/-- A self-test that no request waits for and whose raster half is no contract ends with its class recorded (R319). -/
theorem execSelftestComplete_unasked {x : SelfTest} {xs : List SelfTest} {i j : List Byte} (hx : (advance t s).trv.tests = x :: xs)
    (hd : testDone (advance t s) = true) (hi : i.length = 65536) (hj : j.length = 65536) (hraster : x.raster = none) (hport : x.port = none) :
    execSelftestComplete t i j s = .next (recordClass
      (testClass (BitVec.ofNat 32 (crc32c i)) (BitVec.ofNat 32 (crc32c j)) Config.refSig) (BitVec.ofNat 32 (crc32c i)) (BitVec.ofNat 32 (crc32c j)) x.began
      (wrVat 0x33E0000 i (wrVat 0x33F0000 j { advance t s with trv := { (advance t s).trv with tests := xs } }))) := by
  have hdone : (testDone (advance t s) && i.length == 65536 && j.length == 65536) = true := by simp [hd, hi, hj]
  simp only [execSelftestComplete, hx, if_pos hdone, hraster, hport]

end

/-- Settles O41: each event of the unit is a choice by the arming, the render or the self-test that the state holds, and each clause is the branch that its hypothesis selects. -/
theorem traversalEventsComplete : Obligations.TraversalEventsComplete := by
  intro t s output b h n
  refine ⟨execTrvArmComplete_idle, execTrvArmComplete_sound, execTrvArmComplete_unsound, fun hidle => ?notStarted, fun r hr hg hq => ?started,
    execTraversalRenderDone_idle, fun _ => execTraversalRenderDone_testHalf, fun r hr hk => ?drawn,
    fun hx _ _ => execSelftestComplete_noTest hx, fun _ _ _ _ => execSelftestComplete_unasked⟩
  case notStarted =>
    obtain hrun | hoff | hwait := hidle
    · exact execTraversalRenderStart_running hrun
    · exact execTraversalRenderStart_gateOff hoff
    · exact execTraversalRenderStart_noneMayStart hwait
  case started =>
    exact ⟨renderStarted h r, execTraversalRenderStart_starts hr hg hq, renderStarted_changes_slotB h r, renderStarted_slotB⟩
  case drawn =>
    exact ⟨execTraversalRenderDone_flip hr hk, fun _ _ _ => execTraversalRenderDone_owned hr hk⟩

end Sys2Proof.Proofs

namespace Sys2Proof.Proofs

open Sys2Proof Sys2Proof.Machine Sys2Proof.Laws

/-! ### Training of a video input (R434)

The status word of an input's link is set field by field, and each field reads back as what was put there last. -/

/-- The status word of an input's link after a training: its lanes and rate where it is up, and its symbol errors counted on. -/
def rxStatus (up : Bool) (lanes rate errors : Nat) (w : Word) : Word :=
  let counted := setF w Fld.LNK_RXn_STAT_SYMBOL_ERRS (getF w Fld.LNK_RXn_STAT_SYMBOL_ERRS + errors)
  setF (setF (setF counted Fld.LNK_RXn_STAT_RATE (if up then rate else 0)) Fld.LNK_RXn_STAT_LANES (if up then lanes else 0)) Fld.LNK_RXn_STAT_STATE (if up then 2 else 0)

section
variable (up : Bool) (lanes rate errors : Nat) (w : Word)

theorem rxStatus_state : getF (rxStatus up lanes rate errors w) Fld.LNK_RXn_STAT_STATE = if up then 2 else 0 := by
  rw [rxStatus, getF_setF_same _ _ _ (by decide)]
  cases up <;> rfl

theorem rxStatus_lanes (hl : lanes < 8) : getF (rxStatus up lanes rate errors w) Fld.LNK_RXn_STAT_LANES = if up then lanes else 0 := by
  rw [rxStatus, getF_setF_other _ _ (by decide) (by decide), getF_setF_same _ _ _ (by decide)]
  cases up
  · rfl
  · exact Nat.mod_eq_of_lt hl

theorem rxStatus_rate (hr : rate < 4) : getF (rxStatus up lanes rate errors w) Fld.LNK_RXn_STAT_RATE = if up then rate else 0 := by
  rw [rxStatus, getF_setF_other _ _ (by decide) (by decide), getF_setF_other _ _ (by decide) (by decide), getF_setF_same _ _ _ (by decide)]
  cases up
  · rfl
  · exact Nat.mod_eq_of_lt hr

theorem rxStatus_symbolErrs : getF (rxStatus up lanes rate errors w) Fld.LNK_RXn_STAT_SYMBOL_ERRS =
    (getF w Fld.LNK_RXn_STAT_SYMBOL_ERRS + errors) % 65536 := by
  rw [rxStatus, getF_setF_other _ _ (by decide) (by decide), getF_setF_other _ _ (by decide) (by decide), getF_setF_other _ _ (by decide) (by decide),
    getF_setF_same _ _ _ (by decide)]
  rfl

end

/-- A source that trained at a rate and on lanes that the input's DPCD advertises (R434). -/
def rxTrained (s : State) (v lanes rate : Nat) (trained : Bool) : Bool :=
  let cfg := Reg.LNK_RXn_CFG v
  trained && flg s cfg Fld.LNK_RXn_CFG_HPD_EN && [1, 2, 4].contains lanes && decide (lanes ≤ fld s cfg Fld.LNK_RXn_CFG_MAX_LANES) && decide (rate ≤ fld s cfg Fld.LNK_RXn_CFG_MAX_RATE)

theorem execVinLinkTraining_shows (t : Tick) (vin : BitVec 2) (lanes : BitVec 3) (rate : BitVec 2) (trained : Bool) (errors : BitVec 16) (s : State) :
    execVinLinkTraining t vin lanes rate trained errors s =
      let h := advance t s
      let up := rxTrained h vin.toNat lanes.toNat rate.toNat trained
      .next (setVin vin.toNat (fun x => { x with island := up })
        (wr (Reg.LNK_RXn_STAT vin.toNat) (rxStatus up lanes.toNat rate.toNat errors.toNat (rd h (Reg.LNK_RXn_STAT vin.toNat))) h)) := rfl

/-! ### A frame received by a video input (R352, R356, Table 11.19)

A frame is shown first. Whether it is captured then turns on the input's ENABLE, on VIN_LIMIT and CAPFMT, and on a buffer. -/

/-- A frame's kind, size and period shown in the input's registers. -/
def vinShown (v width height kind : Nat) (period : Word) (s : State) : State :=
  setVin v (fun x => { x with width := width, height := height, period := period.toNat })
    (wr (Reg.VIN_DET v) (BitVec.ofNat 32 (height * 65536 + width)) (wr (Reg.VIN_PERIOD v) period
      (wr (Reg.VIN_STAT v) (setF (setB (rd s (Reg.VIN_STAT v)) Fld.VIN_STAT_SIGNAL true) Fld.VIN_STAT_KIND kind) s)))

/-- The test of a frame's width, height and rate against VIN_LIMIT (R356). -/
def vinWithin (v width height period : Nat) (s : State) : Bool :=
  decide (width ≤ fld s (Reg.VIN_LIMIT0 v) Fld.VIN_LIMIT0_MAX_W) && decide (height ≤ fld s (Reg.VIN_LIMIT0 v) Fld.VIN_LIMIT0_MAX_H) &&
    decide (200000000 ≤ fld s (Reg.VIN_LIMIT1 v) Fld.VIN_LIMIT1_MAX_RATE * period)

/-- The test of a frame's kind and scan against a capture format (R356). -/
def vinSuits (f kind : Nat) (interlaced : Bool) : Bool :=
  !interlaced && (if f = 1 ∨ f = 2 then kind == 0 else (f == 0x21 || f == 0x25) && (kind == 1 || kind == 2))

theorem vinWithin_iff {v width height period : Nat} {s : State} : vinWithin v width height period s = true ↔
    width ≤ fld s (Reg.VIN_LIMIT0 v) Fld.VIN_LIMIT0_MAX_W ∧ height ≤ fld s (Reg.VIN_LIMIT0 v) Fld.VIN_LIMIT0_MAX_H ∧
      200000000 ≤ fld s (Reg.VIN_LIMIT1 v) Fld.VIN_LIMIT1_MAX_RATE * period := by
  simp only [vinWithin, Bool.and_eq_true, decide_eq_true_eq, and_assoc]

theorem vinSuits_iff {f kind : Nat} {interlaced : Bool} : vinSuits f kind interlaced = true ↔
    interlaced = false ∧ ((f = 1 ∨ f = 2) ∧ kind = 0 ∨ (f = 0x21 ∨ f = 0x25) ∧ (kind = 1 ∨ kind = 2)) := by
  by_cases hrgb : f = 1 ∨ f = 2
  · have hluma : ¬ (f = 0x21 ∨ f = 0x25) := by omega
    simp [vinSuits, hrgb, hluma]
  · simp [vinSuits, hrgb]

/-- The flag of each test that a frame failed, set in VIN_STAT (R356). -/
def vinFlagged (v : Nat) (within suits : Bool) (s : State) : State :=
  let a := if within then s else wrB (Reg.VIN_STAT v) Fld.VIN_STAT_OVER_LIMIT true s
  if suits then a else wrB (Reg.VIN_STAT v) Fld.VIN_STAT_FMT_MISMATCH true a

/-- A frame for which no buffer qualified, counted (R352). -/
def vinDropped (v : Nat) (s : State) : State :=
  wrF (Reg.VIN_CNT v) Fld.VIN_CNT_DROPPED ((fld s (Reg.VIN_CNT v) Fld.VIN_CNT_DROPPED + 1) % 65536) s

/-- A frame's rows written to buffer `k`; a frame received whole is then completing (R352). -/
def vinCaptured (v k width height kind depth : Nat) (rows : List (List (List Nat))) (s : State) : State :=
  vinWrite v k height depth (kind == 1) (rows.take height)
    (setVin v (fun x => { x with done := x.done.set k (some x.seq), seq := x.seq + 1, writing := if height ≤ rows.length then some (k, width, height) else none }) s)

/-- What becomes of a frame shown while ENABLE is 1: flagged, or, with both tests passed, dropped or captured (R352, R356). -/
def vinJudged (v width height kind depth : Nat) (rows : List (List (List Nat))) (within suits : Bool) (s : State) : Out :=
  let f := vinFlagged v within suits s
  if (within && suits) = false then .next f
  else match vinPick f v with
    | none => .next (vinDropped v f)
    | some k => .next (vinCaptured v k width height kind depth rows f)

section
variable {v width height kind depth : Nat} {rows : List (List (List Nat))} {s : State}

theorem vinJudged_overLimit : vinJudged v width height kind depth rows false true s = .next (wrB (Reg.VIN_STAT v) Fld.VIN_STAT_OVER_LIMIT true s) := rfl

theorem vinJudged_mismatch : vinJudged v width height kind depth rows true false s = .next (wrB (Reg.VIN_STAT v) Fld.VIN_STAT_FMT_MISMATCH true s) := rfl

theorem vinJudged_noBuffer (hp : vinPick s v = none) : vinJudged v width height kind depth rows true true s = .next (vinDropped v s) := by
  simp [vinJudged, vinFlagged, hp]

theorem vinJudged_buffer {k : Nat} (hp : vinPick s v = some k) :
    vinJudged v width height kind depth rows true true s = .next (vinCaptured v k width height kind depth rows s) := by
  simp [vinJudged, vinFlagged, hp]

end

section
variable {t : Tick} {vin : BitVec 2} {width height : BitVec 16} {kind : BitVec 2} {depth : BitVec 4} {interlaced : Bool} {period : Word} {rows : List (List (List Nat))} {s : State}

theorem execVinFrameReceived_stopped (hi : (vinSt (advance t s) vin.toNat).island = false) :
    execVinFrameReceived t vin width height kind depth interlaced period rows s = .next (advance t s) :=
  if_pos hi

section
variable {u : State} (hi : (vinSt (advance t s) vin.toNat).island = true)
  (hu : vinShown vin.toNat width.toNat height.toNat kind.toNat period (advance t s) = u)
include hi hu

theorem execVinFrameReceived_disabled (he : flg u (Reg.VIN_CTRL vin.toNat) Fld.VIN_CTRL_ENABLE = false) :
    execVinFrameReceived t vin width height kind depth interlaced period rows s = .next u := by
  subst hu
  exact (if_neg (ne_false_of_eq_true hi)).trans (if_pos he)

/-- A frame of an enabled input is judged by the two tests, on the state that shows it. -/
theorem execVinFrameReceived_enabled {within suits : Bool} (he : flg u (Reg.VIN_CTRL vin.toNat) Fld.VIN_CTRL_ENABLE = true)
    (hw : vinWithin vin.toNat width.toNat height.toNat period.toNat u = within)
    (hs : vinSuits (fld u (Reg.VIN_CTRL vin.toNat) Fld.VIN_CTRL_CAPFMT) kind.toNat interlaced = suits) :
    execVinFrameReceived t vin width height kind depth interlaced period rows s =
      vinJudged vin.toNat width.toNat height.toNat kind.toNat depth.toNat rows within suits u := by
  subst hu hw hs
  exact (if_neg (ne_false_of_eq_true hi)).trans (if_neg (ne_false_of_eq_true he))

end

theorem execVinCaptureComplete_idle (hx : (vinSt (advance t s) vin.toNat).writing = none) : execVinCaptureComplete t vin s = .next (advance t s) := by
  simp only [execVinCaptureComplete, hx]

/-- The buffer of a capture whose last write is visible, shown as the newest complete one (R352). -/
def vinNewest (v k : Nat) (s : State) : State :=
  wr (Reg.VIN_STAT v) (setB (setF (rd s (Reg.VIN_STAT v)) Fld.VIN_STAT_NEWEST k) Fld.VIN_STAT_NEWEST_VALID true) s

theorem execVinCaptureComplete_counts {k w hh : Nat} (hx : (vinSt (advance t s) vin.toNat).writing = some (k, w, hh)) :
    execVinCaptureComplete t vin s =
      let a := vinNewest vin.toNat k (advance t s)
      .next (setVin vin.toNat (fun x => { x with writing := none, newest := some (k, w, hh), done := x.done.set k (some x.seq), seq := x.seq + 1, frames := x.frames + 1 })
        (wrF (Reg.VIN_CNT vin.toNat) Fld.VIN_CNT_FRAMES ((fld a (Reg.VIN_CNT vin.toNat) Fld.VIN_CNT_FRAMES + 1) % 65536) a)) := by
  simp only [execVinCaptureComplete, hx, vinNewest]

end

/-- Settles O45: a training is one assignment of the status word, a frame is one branch of its tests after it is shown, and a capture ends only where one was begun. -/
theorem videoInputEventsComplete : Obligations.VideoInputEventsComplete := by
  intro t s vin h v cfg
  refine ⟨?training, ?frame, execVinCaptureComplete_idle, fun _ _ _ => execVinCaptureComplete_counts, rfl⟩
  case training =>
    intro lanes rate trained errors ok
    exact ⟨rxStatus ok lanes.toNat rate.toNat errors.toNat (rd h (Reg.LNK_RXn_STAT v)), execVinLinkTraining_shows .., rxStatus_state ..,
      rxStatus_lanes (hl := lanes.isLt) .., rxStatus_rate (hr := rate.isLt) .., rxStatus_symbolErrs ..⟩
  case frame =>
    intro width height kind depth interlaced period rows c st u f within suits
    have hshown : vinShown v width.toNat height.toNat kind.toNat period h = u := rfl
    have isWithin : within → vinWithin v width.toNat height.toNat period.toNat u = true := vinWithin_iff.2
    have notWithin (hn : ¬ within) : vinWithin v width.toNat height.toNat period.toNat u = false := eq_false_of_ne_true fun hw => hn (vinWithin_iff.1 hw)
    have isSuited : suits → vinSuits f kind.toNat interlaced = true := vinSuits_iff.2
    have notSuited (hn : ¬ suits) : vinSuits f kind.toNat interlaced = false := eq_false_of_ne_true fun hs => hn (vinSuits_iff.1 hs)
    refine ⟨execVinFrameReceived_stopped, fun hi => execVinFrameReceived_disabled hi hshown, fun hi he hn hs => ?overLimit, fun hi he hw hn => ?mismatch,
      fun hi he hw hs hp => ?dropped, fun k hi he hw hs hp => ?captured⟩
    case overLimit => exact (execVinFrameReceived_enabled hi hshown he (notWithin hn) (isSuited hs)).trans vinJudged_overLimit
    case mismatch => exact (execVinFrameReceived_enabled hi hshown he (isWithin hw) (notSuited hn)).trans vinJudged_mismatch
    case dropped => exact (execVinFrameReceived_enabled hi hshown he (isWithin hw) (isSuited hs)).trans (vinJudged_noBuffer hp)
    case captured => exact (execVinFrameReceived_enabled hi hshown he (isWithin hw) (isSuited hs)).trans (vinJudged_buffer hp)

end Sys2Proof.Proofs

namespace Sys2Proof.Proofs

open Sys2Proof Sys2Proof.Machine Sys2Proof.Laws

/-! ### What no command undoes (R16, R538, R588)

`Laws/Flow*.lean` says of the meaning of each command that it flows: the queue stands, the canonical form is kept, OTP only gains and, of all but a power-on reset and a dip of
a rail, time does not step back. -/

/-- Does a command leave the time base running? A power-on reset clears it, and so does a dip of a rail that is long enough to cause one (R16, R566). -/
def keepsTime : Instr → Prop
  | .powerOnReset _ _ => False
  | .supplyDip _ _ _ => False
  | _ => True

/-- Whatever the command, its outcome flows from the state before; with time, if it leaves the time base running. -/
theorem exec_flows {timed : Bool} (c : Instr) (s : State) (ht : timed = true → keepsTime c) : OutFlow timed s (exec c s) := by
  have hs : Flow timed s s := flow_refl s
  cases c with
  | powerOnReset t g =>
    cases timed with
    | false => exact flow_execPowerOnReset (a0 := t) hs
    | true => exact (ht rfl).elim
  | supplyDip t r n =>
    cases timed with
    | false => exact flow_execSupplyDip (a1 := r) hs
    | true => exact (ht rfl).elim
  | ringDoorbell => exact flow_execRingDoorbell hs
  | ringReset => exact flow_execRingReset hs
  | ringResetTakesEffect => exact flow_execRingResetTakesEffect hs
  | ringFetchError => exact flow_execRingFetchError hs
  | identify => exact flow_execIdentify hs
  | sessionOpen => exact flow_execSessionOpen hs
  | sessionProve => exact flow_execSessionProve hs
  | authLockEnd => exact flow_execAuthLockEnd hs
  | pendingLimit => exact flow_execPendingLimit hs
  | sessionClose => exact flow_execSessionClose hs
  | sessionKeepalive => exact flow_execSessionKeepalive hs
  | expiredTagRelease => exact flow_execExpiredTagRelease hs
  | contractCancel => exact flow_execContractCancel hs
  | contractQuery => exact flow_execContractQuery hs
  | reserveSet => exact flow_execReserveSet hs
  | ledgerRead => exact flow_execLedgerRead hs
  | displayWrite => exact flow_execDisplayWrite hs
  | displayRead => exact flow_execDisplayRead hs
  | commit => exact flow_execCommit hs
  | creamUpdate => exact flow_execCreamUpdate hs
  | outputStatus => exact flow_execOutputStatus hs
  | renderSubmit => exact flow_execRenderSubmit hs
  | computeSubmit => exact flow_execComputeSubmit hs
  | fenceRead => exact flow_execFenceRead hs
  | touchWrite => exact flow_execTouchWrite hs
  | touchRead => exact flow_execTouchRead hs
  | touchCalibrate => exact flow_execTouchCalibrate hs
  | touchCalibrationDone => exact flow_execTouchCalibrationDone hs
  | hapticWrite => exact flow_execHapticWrite hs
  | hapticRead => exact flow_execHapticRead hs
  | hapticPlay => exact flow_execHapticPlay hs
  | hapticCalibrate => exact flow_execHapticCalibrate hs
  | audioWrite => exact flow_execAudioWrite hs
  | audioRead => exact flow_execAudioRead hs
  | streamOpen => exact flow_execStreamOpen hs
  | streamClose => exact flow_execStreamClose hs
  | audioQueue => exact flow_execAudioQueue hs
  | memMap => exact flow_execMemMap hs
  | memUnmap => exact flow_execMemUnmap hs
  | dmaSubmit => exact flow_execDmaSubmit hs
  | checkSubmit => exact flow_execCheckSubmit hs
  | checkResult => exact flow_execCheckResult hs
  | fnCreate => exact flow_execFnCreate hs
  | fnQuiesce => exact flow_execFnQuiesce hs
  | fnQuietReached => exact flow_execFnQuietReached hs
  | fnResume => exact flow_execFnResume hs
  | fnReset => exact flow_execFnReset hs
  | fnRemove => exact flow_execFnRemove hs
  | fnSave => exact flow_execFnSave hs
  | fnSaveDone => exact flow_execFnSaveDone hs
  | fnRestore => exact flow_execFnRestore hs
  | evidenceRead => exact flow_execEvidenceRead hs
  | measureRead => exact flow_execMeasureRead hs
  | isoLogRead => exact flow_execIsoLogRead hs
  | dumpRead => exact flow_execDumpRead hs
  | selftest => exact flow_execSelftest hs
  | selftestComplete => exact flow_execSelftestComplete hs
  | fwWrite => exact flow_execFwWrite hs
  | fwActivate => exact flow_execFwActivate hs
  | faultArm => exact flow_execFaultArm hs
  | faultDisarm => exact flow_execFaultDisarm hs
  | faultStatus => exact flow_execFaultStatus hs
  | blockPowerGate => exact flow_execBlockPowerGate hs
  | blockPowerWake => exact flow_execBlockPowerWake hs
  | clockSet => exact flow_execClockSet hs
  | powerStateStandby => exact flow_execPowerStateStandby hs
  | powerStateRun => exact flow_execPowerStateRun hs
  | powerStatus => exact flow_execPowerStatus hs
  | spiWritePacket => exact flow_execSpiWritePacket hs
  | spiReadStatus => exact flow_execSpiReadStatus hs
  | spiReadReply => exact flow_execSpiReadReply hs
  | instanceRelease => exact flow_execInstanceRelease hs
  | contractDeadline => exact flow_execContractDeadline hs
  | probationEnd => exact flow_execProbationEnd hs
  | sectionBound => exact flow_execSectionBound hs
  | eventRecordPost => exact flow_execEventRecordPost hs
  | eqReadIndexWrite => exact flow_execEqReadIndexWrite hs
  | mgmtStallResume => exact flow_execMgmtStallResume hs
  | lockstepMismatch => exact flow_execLockstepMismatch hs
  | isoOwnClaim => exact flow_execIsoOwnClaim hs
  | isoOwnClaimDone => exact flow_execIsoOwnClaimDone hs
  | isoOwnRelease => exact flow_execIsoOwnRelease hs
  | isoOwnReleaseDone => exact flow_execIsoOwnReleaseDone hs
  | isoOwnGrant => exact flow_execIsoOwnGrant hs
  | isoLogDrain => exact flow_execIsoLogDrain hs
  | isoNotice => exact flow_execIsoNotice hs
  | gate => exact flow_execGate hs
  | gateRet => exact flow_execGateRet hs
  | fetchCross => exact flow_execFetchCross hs
  | holmInterrupt => exact flow_execHolmInterrupt hs
  | mainlandReturn => exact flow_execMainlandReturn hs
  | debugAccess => exact flow_execDebugAccess hs
  | debugHaltRequest => exact flow_execDebugHaltRequest hs
  | dbgClear => exact flow_execDbgClear hs
  | flr => exact flow_execFlr hs
  | vfEnableClear => exact flow_execVfEnableClear hs
  | portReset => exact flow_execPortReset hs
  | pcieCompletionTimeout => exact flow_execPcieCompletionTimeout hs
  | vatScrub => exact flow_execVatScrub hs
  | eccUncorrectable => exact flow_execEccUncorrectable hs
  | pageZeroFillDone => exact flow_execPageZeroFillDone hs
  | memFault => exact flow_execMemFault hs
  | selfRefreshWake => exact flow_execSelfRefreshWake hs
  | vertexPhaseDone => exact flow_execVertexPhaseDone hs
  | tileDispatch => exact flow_execTileDispatch hs
  | tileStoreDone => exact flow_execTileStoreDone hs
  | commandFault => exact flow_execCommandFault hs
  | programFault => exact flow_execProgramFault hs
  | dispatchBegin => exact flow_execDispatchBegin hs
  | workgroupDone => exact flow_execWorkgroupDone hs
  | jobDelivered => exact flow_execJobDelivered hs
  | dispatcherDecision => exact flow_execDispatcherDecision hs
  | compositorPreempt => exact flow_execCompositorPreempt hs
  | mainlandSwap => exact flow_execMainlandSwap hs
  | stripWindowOpen => exact flow_execStripWindowOpen hs
  | skim => exact flow_execSkim hs
  | skimDone => exact flow_execSkimDone hs
  | stripDuePoint => exact flow_execStripDuePoint hs
  | queueFrameCompose => exact flow_execQueueFrameCompose hs
  | queueFrameComplete => exact flow_execQueueFrameComplete hs
  | trvArmA => exact flow_execTrvArmA hs
  | trvArmB => exact flow_execTrvArmB hs
  | trvArmComplete => exact flow_execTrvArmComplete hs
  | slotWriteDisarm => exact flow_execSlotWriteDisarm hs
  | traversalRenderStart => exact flow_execTraversalRenderStart hs
  | traversalRenderDone => exact flow_execTraversalRenderDone hs
  | trvSetRaster => exact flow_execTrvSetRaster hs
  | trvSetTrv => exact flow_execTrvSetTrv hs
  | trvClearRaster => exact flow_execTrvClearRaster hs
  | trvClearTrv => exact flow_execTrvClearTrv hs
  | viewApply => exact flow_execViewApply hs
  | tablePortAccess => exact flow_execTablePortAccess hs
  | writebackLine => exact flow_execWritebackLine hs
  | vinEnable => exact flow_execVinEnable hs
  | vinFrameReceived => exact flow_execVinFrameReceived hs
  | vinCaptureComplete => exact flow_execVinCaptureComplete hs
  | vinSignalLost => exact flow_execVinSignalLost hs
  | commitVisible => exact flow_execCommitVisible hs
  | latchPoint => exact flow_execLatchPoint hs
  | shadowApply => exact flow_execShadowApply hs
  | rawRasterStart => exact flow_execRawRasterStart hs
  | firstLatchNewTiming => exact flow_execFirstLatchNewTiming hs
  | lineRequest => exact flow_execLineRequest hs
  | cursorExpressPath => exact flow_execCursorExpressPath hs
  | creamWorkStart => exact flow_execCreamWorkStart hs
  | creamWorkDone => exact flow_execCreamWorkDone hs
  | tileSignatureDone => exact flow_execTileSignatureDone hs
  | evidenceRecord => exact flow_execEvidenceRecord hs
  | crlRecover => exact flow_execCrlRecover hs
  | linkTrainingAttempt => exact flow_execLinkTrainingAttempt hs
  | linkRetry => exact flow_execLinkRetry hs
  | hpdLowPulse => exact flow_execHpdLowPulse hs
  | hpdReplug => exact flow_execHpdReplug hs
  | sbAuxRead => exact flow_execSbAuxRead hs
  | sbAuxWrite => exact flow_execSbAuxWrite hs
  | sbI2cRead => exact flow_execSbI2cRead hs
  | sbI2cWrite => exact flow_execSbI2cWrite hs
  | sbDcsShortWrite => exact flow_execSbDcsShortWrite hs
  | sbDcsLongWrite => exact flow_execSbDcsLongWrite hs
  | sbDcsRead => exact flow_execSbDcsRead hs
  | sbTransactionEnd => exact flow_execSbTransactionEnd hs
  | vinLinkTraining => exact flow_execVinLinkTraining hs
  | straitEntryArrival => exact flow_execStraitEntryArrival hs
  | touchSensorEnable => exact flow_execTouchSensorEnable hs
  | touchScanStart => exact flow_execTouchScanStart hs
  | touchScanEnd => exact flow_execTouchScanEnd hs
  | touchStuckRelease => exact flow_execTouchStuckRelease hs
  | touchEnterSlow => exact flow_execTouchEnterSlow hs
  | touchSlowScan => exact flow_execTouchSlowScan hs
  | hapticChannelEnable => exact flow_execHapticChannelEnable hs
  | hapticCalibrationDone => exact flow_execHapticCalibrationDone hs
  | hapticDriveBegin => exact flow_execHapticDriveBegin hs
  | hapticDriveEnd => exact flow_execHapticDriveEnd hs
  | brakingUnitEnd => exact flow_execBrakingUnitEnd hs
  | hapticOnMax => exact flow_execHapticOnMax hs
  | hapticBudgetSpent => exact flow_execHapticBudgetSpent hs
  | hapticBudgetWindow => exact flow_execHapticBudgetWindow hs
  | overcurrent => exact flow_execOvercurrent hs
  | audioFrameBoundary => exact flow_execAudioFrameBoundary hs
  | tdmPortEnable => exact flow_execTdmPortEnable hs
  | tdmClockLoss => exact flow_execTdmClockLoss hs
  | audioSinkEnable => exact flow_execAudioSinkEnable hs
  | audioWritebackEnable => exact flow_execAudioWritebackEnable hs
  | attentionStart => exact flow_execAttentionStart hs
  | attentionStop => exact flow_execAttentionStop hs
  | attentionEnd => exact flow_execAttentionEnd hs
  | headsetInsertConfirm => exact flow_execHeadsetInsertConfirm hs
  | headsetRemoval => exact flow_execHeadsetRemoval hs
  | headsetTypeMeasured => exact flow_execHeadsetTypeMeasured hs
  | headsetButtonConfirm => exact flow_execHeadsetButtonConfirm hs
  | dmaStart => exact flow_execDmaStart hs
  | dmaStop => exact flow_execDmaStop hs
  | dmaChannelDisable => exact flow_execDmaChannelDisable hs
  | dmaSetLoad => exact flow_execDmaSetLoad hs
  | dmaSetDone => exact flow_execDmaSetDone hs
  | dmaRateWrite => exact flow_execDmaRateWrite hs
  | cvGo => exact flow_execCvGo hs
  | cvPause => exact flow_execCvPause hs
  | cvPaused => exact flow_execCvPaused hs
  | cvJobDone => exact flow_execCvJobDone hs
  | clkinLoss => exact flow_execClkinLoss hs
  | clkinReturn => exact flow_execClkinReturn hs
  | loopsRelocked => exact flow_execLoopsRelocked hs
  | clkLostClear => exact flow_execClkLostClear hs
  | loopLock => exact flow_execLoopLock hs
  | sourceSwitch => exact flow_execSourceSwitch hs
  | drainEnd => exact flow_execDrainEnd hs
  | wakeAdmission => exact flow_execWakeAdmission hs
  | wakeComplete => exact flow_execWakeComplete hs
  | standbyReached => exact flow_execStandbyReached hs
  | standbyLeft => exact flow_execStandbyLeft hs
  | deviceReset => exact flow_execDeviceReset hs
  | rstReqDevice => exact flow_execRstReqDevice hs
  | rstBlk => exact flow_execRstBlk hs
  | blockResetDone => exact flow_execBlockResetDone hs
  | watchdogEnable => exact flow_execWatchdogEnable hs
  | watchdogService => exact flow_execWatchdogService hs
  | watchdogExpiry => exact flow_execWatchdogExpiry hs
  | thermalAlarm => exact flow_execThermalAlarm hs
  | thermalTrip => exact flow_execThermalTrip hs
  | churnBufferedWrite => exact flow_execChurnBufferedWrite hs
  | churnStrobe => exact flow_execChurnStrobe hs
  | churnApplyConfirmed => exact flow_execChurnApplyConfirmed hs
  | churnDiscard => exact flow_execChurnDiscard hs
  | pairValueWrite => exact flow_execPairValueWrite hs
  | pairLatchLapse => exact flow_execPairLatchLapse hs
  | crcCommit => exact flow_execCrcCommit hs
  | crcResync => exact flow_execCrcResync hs
  | crcPassEnd => exact flow_execCrcPassEnd hs
  | coLock => exact flow_execCoLock hs
  | snap => exact flow_execSnap hs
  | registerWrite => exact flow_execRegisterWrite hs
  | bootSequence => exact flow_execBootSequence hs
  | dumpStreakClear => exact flow_execDumpStreakClear hs
  | dumpFire => exact flow_execDumpFire hs
  | dumpComplete => exact flow_execDumpComplete hs
  | dumpClear => exact flow_execDumpClear hs
  | idleOrLifetimeExpiry => exact flow_execIdleOrLifetimeExpiry hs
  | functionResetEnd => exact flow_execFunctionResetEnd hs
  | vertexBatchEnd => exact flow_execVertexBatchEnd hs
  | managementStall => exact flow_execManagementStall hs
  | heldTlpRelease => exact flow_execHeldTlpRelease hs
  | pcieLinkUp => exact flow_execPcieLinkUp hs
  | dieSensorRead => exact flow_execDieSensorRead hs
  | noFetchInFlight => exact flow_execNoFetchInFlight hs
  | tdmClockReturn => exact flow_execTdmClockReturn hs

theorem flow_of_exec {timed : Bool} {c : Instr} {s u : State} (h : exec c s = .next u) (ht : timed = true → keepsTime c) : Flow timed s u := by
  have hflows := (exec_flows c s ht).flows
  rwa [h] at hflows

/-- What a command never undoes, time apart. -/
theorem flow_of_exec_untimed {c : Instr} {s u : State} (h : exec c s = .next u) : Flow false s u := flow_of_exec h Bool.noConfusion

theorem step_of_cons {c : Instr} {cs : List Instr} {s : State} (h : s.pending = c :: cs) : step s = exec c { s with pending := cs } := by
  unfold step
  rw [h]

/-- A step with no command waiting moves the time base alone. -/
theorem idle_eq (s : State) : idle s = { s with gtb := (idle s).gtb } := by
  unfold idle
  split
  · rfl
  · rfl

/-- A step is an idle tick or the front command's own step. -/
theorem step_cases {s u : State} (h : step s = .next u) :
    u = idle s ∨ ∃ c cs, s.pending = c :: cs ∧ exec c { s with pending := cs } = .next u := by
  cases hq : s.pending with
  | nil =>
    rw [step_of_empty hq] at h
    exact .inl (Host.Outcome.next.inj h).symm
  | cons c cs =>
    rw [step_of_cons hq] at h
    exact .inr ⟨c, cs, rfl, h⟩

theorem idle_otp (s : State) : (idle s).boot.otp = s.boot.otp := by
  rw [idle_eq]

theorem memWf_idle {s : State} (h : memWf s) : memWf (idle s) := by
  rw [idle_eq]
  exact h

/-- Settles O1: `step` runs the front command by definition. -/
theorem stepRunsFrontCommand : Obligations.StepRunsFrontCommand := fun _ _ _ => step_of_cons

/-- Settles O3: the queue stands in every flow. -/
theorem commandsLeaveTheQueue : Obligations.CommandsLeaveTheQueue := fun _ _ _ h => (flow_of_exec_untimed h).queue

/-- Settles O5: every table of the reset state is empty. -/
theorem resetIsCanonical : Obligations.ResetIsCanonical := ⟨rfl, rfl, rfl, rfl, rfl, rfl, rfl, rfl⟩

/-- Settles O6: every flow keeps the canonical form, and an idle tick writes no memory. -/
theorem stepKeepsCanonicalForm : Obligations.StepKeepsCanonicalForm := by
  intro s u hwf h
  obtain rfl | ⟨c, cs, -, hc⟩ := step_cases h
  · exact memWf_idle hwf
  · exact (flow_of_exec_untimed hc).wf hwf

/-- Settles O7: time does not step back in the flow of a command that leaves the time base running. -/
theorem timeNeverStepsBack : Obligations.TimeNeverStepsBack := by
  intro c cs s u hq hpor hdip h
  have hkeeps : keepsTime c := by
    unfold keepsTime
    split
    · exact hpor _ _ rfl
    · exact hdip _ _ _ rfl
    · trivial
  rw [step_of_cons hq] at h
  exact (flow_of_exec (timed := true) h fun _ => hkeeps).time rfl

/-- Settles O8: OTP only gains in every flow, and an idle tick leaves it. -/
theorem fusesOnlyGain : Obligations.FusesOnlyGain := by
  intro s u h
  obtain rfl | ⟨c, cs, -, hc⟩ := step_cases h
  · rw [idle_otp]
    exact otp_refl _
  · exact (flow_of_exec_untimed hc).otp

end Sys2Proof.Proofs

namespace Sys2Proof.Proofs

open Sys2Proof Sys2Proof.Machine Sys2Proof.Laws

/-! ### Tables in any form

A read after a write to the same or to another key needs no canonical form: a walk of a table looks at no entry behind a greater key. -/

theorem tget_dropWhile_le {α : Type} {d : α} (t : Table α) (i j : Nat) :
    tget d (t.dropWhile (fun e => decide (e.1 ≤ i))) j = if j ≤ i then d else tget d t j := by
  induction t with
  | nil => simp [tget]
  | cons e t ih =>
    obtain ⟨k, w⟩ := e
    simp only [List.dropWhile_cons, decide_eq_true_eq]
    by_cases hk : k ≤ i
    · rw [if_pos hk, ih]
      by_cases hj : j ≤ i
      · rw [if_pos hj, if_pos hj]
      · rw [if_neg hj, if_neg hj, tget, if_neg (by omega), if_neg (by omega)]
    · rw [if_neg hk]
      by_cases hj : j ≤ i
      · rw [if_pos hj, tget, if_neg (by omega), if_pos (by omega)]
      · rw [if_neg hj]

section
variable {α : Type} [DecidableEq α] {d : α}

theorem tget_tput (t : Table α) (i j : Nat) (v : α) : tget d (tput d t i v) j = if j = i then v else tget d t j := by
  induction t with
  | nil =>
    unfold tput
    split <;> grind [tget]
  | cons e t ih =>
    obtain ⟨k, w⟩ := e
    obtain hlt | rfl | hgt := Nat.lt_trichotomy i k
    · rw [tput, if_pos hlt]
      split <;> grind [tget]
    · rw [tput, if_neg (Nat.lt_irrefl i), if_pos rfl]
      split
      · rw [tget_dropWhile_le]
        grind [tget]
      · grind [tget]
    · rw [tput, if_neg (by omega), if_neg (by omega)]
      grind [tget]

theorem tget_tmod_same (t : Table α) (i : Nat) (f : α → α) : tget d (tmod d t i f) i = f (tget d t i) := by
  rw [tmod, tget_tput, if_pos rfl]

end

theorem rd_wr (off off' : Nat) (w : Word) (s : State) : rd (wr off w s) off' = if off' = off then w else rd s off' := by
  rw [rd, wr, tget_tput]
  split
  case isTrue h => rw [h, BitVec.xor_assoc, BitVec.xor_self, BitVec.xor_zero]
  case isFalse => rfl

theorem rd_wrB_other {off off' : Nat} (h : off' ≠ off) (b : Bits) (v : Bool) (s : State) : rd (wrB off b v s) off' = rd s off' := by
  rw [wrB, rd_wr, if_neg h]

end Sys2Proof.Proofs

namespace Sys2Proof.Proofs

open Sys2Proof Sys2Proof.Machine Sys2Proof.Laws

/-! ### Stores of the writeback leave the raster's size

A store of device memory writes no register but TRV_ARMn, where it disarms a scene slot (R316), so the count of active lines stands. -/

theorem isoLog_regs (kind req src flags addr obj status : Nat) (s : State) : (isoLog kind req src flags addr obj status s).regs = s.regs := by
  unfold isoLog
  dsimp only
  split
  · split
    · rfl
    · split <;> rfl
  · split
    · rw [ringMirror_regs]
    · rfl
  · rfl

theorem vAct_eq_of_regs {s u : State} (h : u.regs = s.regs) (n : Nat) : vAct u n = vAct s n := by
  rw [vAct, vAct, fld, fld, rd, rd, h]

theorem vAct_disarmWrite {e : Nat × Bool} (_he : e.1 < 8) (s : State) (n : Nat) : vAct (disarmWrite s e) n = vAct s n := by
  have hoff : Reg.TG_V0 n ≠ Reg.TRV_ARMn e.1 := by
    simp only [Reg.TG_V0, Reg.TRV_ARMn]
    omega
  rw [vAct, fld, disarmWrite, rd_wrB_other hoff]
  rfl

theorem vAct_disarmWrites (n : Nat) {hits : List (Nat × Bool)} (h : ∀ e ∈ hits, e.1 < 8) (s : State) : vAct (hits.foldl disarmWrite s) n = vAct s n := by
  induction hits generalizing s with
  | nil => rfl
  | cons e es ih =>
    rw [List.foldl_cons, ih fun x hx => h x (List.mem_cons_of_mem _ hx), vAct_disarmWrite (h e List.mem_cons_self)]

/-- Scene slots belong to the eight outputs (Table 7.2). -/
theorem slotsHit_output {s : State} {a n : Nat} {e : Nat × Bool} (h : e ∈ slotsHit s a n) : e.1 < 8 := by
  unfold slotsHit at h
  split at h
  · cases h
  · obtain ⟨o, ho, he⟩ := List.mem_flatMap.1 (List.mem_filter.1 h).1
    rw [List.mem_range] at ho
    obtain rfl | rfl : e = (o, false) ∨ e = (o, true) := by simpa using he
    · exact ho
    · exact ho

theorem vAct_wrDpas (a : Nat) (bs : List Byte) (s : State) (n : Nat) : vAct (wrDpas a bs s) n = vAct s n := by
  have hdisarmed : vAct ((slotsHit s a bs.length).foldl disarmWrite s) n = vAct s n := vAct_disarmWrites n (fun _ => slotsHit_output) s
  have hstored : vAct (unpoison a bs.length (wrDpaBytes a bs ((slotsHit s a bs.length).foldl disarmWrite s))) n = vAct s n :=
    (vAct_eq_of_regs (wrDpaBytes_regs ..) n).trans hdisarmed
  unfold wrDpas
  dsimp only
  split
  · rfl
  · split
    · exact hstored
    · exact (vAct_eq_of_regs (isoLog_regs ..) n).trans hstored

theorem foldl_leaseFetch_regs (output layer : Nat) (rs : List (List (Nat × Nat))) (s : State) :
    (rs.foldl (fun v g => leaseFetch output layer g v.gtb v) s).regs = s.regs := by
  induction rs generalizing s with
  | nil => rfl
  | cons r rs ih => rw [List.foldl_cons, ih, leaseFetch]

/-! ### Scan-out (R350, R351, R381, R385 to R387) -/

/-- The bytes that the writeback stores of a scanned line (R350, Table 11.9). -/
def wbBytes (s : State) (n y : Nat) : List Byte :=
  ((tget [] (outSt s n).raster y).zipIdx).flatMap
    (fun e => wbPixel (fld s (Reg.OP_WB_CTRL n) Fld.OP_WB_CTRL_WB_FORMAT) (wbTap s n e.2 y ((heldLine s n y).getD e.2 0) e.1))

/-- Where the writeback stores a line: WB_ADDR + y * PITCH (R350). -/
def wbPlace (s : State) (n y : Nat) : Nat :=
  (rd s (Reg.OP_WB_ADDR_LO n)).toNat + 2 ^ 32 * (rd s (Reg.OP_WB_ADDR_HI n)).toNat + y * fld s (Reg.OP_WB_PITCH n) Fld.OP_WB_PITCH_PITCH

/-- A line written by the writeback counts as a fetch of the buffers that it names (R241). -/
def wbFetched (n : Nat) (s : State) : State := (namedRanges s n 9).foldl (fun v g => leaseFetch n 9 g v.gtb v) s

theorem vAct_wbFetched (n : Nat) (s : State) : vAct (wbFetched n s) n = vAct s n := vAct_eq_of_regs (foldl_leaseFetch_regs ..) n

section
variable {t : Tick} {s : State} {output : BitVec 3} {line : BitVec 13}

/-! #### LINE_REQUEST -/

section
variable {cursorDone : Bool}

theorem execLineRequest_idle (hs : scanning (advance t s) output.toNat = false) :
    execLineRequest t output line cursorDone s = .next (advance t s) := by
  simp only [execLineRequest, hs, Bool.false_and, Bool.false_eq_true, if_false]

variable (hs : scanning (advance t s) output.toNat = true) (hy : line.toNat < vAct (advance t s) output.toNat)
include hs hy

/-- The cursor's own cases belong to line 0 (R384). -/
theorem execLineRequest_inner (h0 : 0 < line.toNat) :
    execLineRequest t output line cursorDone s =
      .next (setOut output.toNat (fun o => { o with raster := tput [] o.raster line.toNat (rasterLine (advance t s) output.toNat line.toNat) }) (advance t s)) := by
  have hfirst : line.toNat ≠ 0 := by omega
  simp only [execLineRequest, hs, hy, hfirst, decide_true, decide_false, Bool.and_self, Bool.and_false, false_and, Bool.false_eq_true, if_true, if_false]
  cases cursorLayer (advance t s) output.toNat <;> rfl

theorem execLineRequest_first (h0 : line.toNat = 0) (hc : cursorLayer (advance t s) output.toNat = none) :
    execLineRequest t output line true s =
      .next (setOut output.toNat (fun o => { o with raster := tput [] o.raster 0 (rasterLine (advance t s) output.toNat 0) }) (advance t s)) := by
  rw [h0] at hy
  simp [execLineRequest, hs, h0, hy, hc]

end

/-! #### WRITEBACK_LINE -/

section
variable {inTime : Bool}

theorem execWritebackLine_off (he : flg (advance t s) (Reg.OP_WB_CTRL output.toNat) Fld.OP_WB_CTRL_WB_EN = false) :
    execWritebackLine t output line inTime s = .next (advance t s) := by
  simp only [execWritebackLine, he, Bool.false_and, Bool.false_eq_true, if_false]

end

/-- A line that the writeback takes: WB_EN is set, the output scans, the line is active and on the raster, and the frame goes on (R351). -/
structure WbLine (s : State) (n y : Nat) : Prop where
  enabled : flg s (Reg.OP_WB_CTRL n) Fld.OP_WB_CTRL_WB_EN = true
  scans : scanning s n = true
  active : y < vAct s n
  scanned : tget [] (outSt s n).raster y ≠ []
  goesOn : (outSt s n).wbStopped = false

theorem wbLine_test {s : State} {n y : Nat} (h : WbLine s n y) :
    (flg s (Reg.OP_WB_CTRL n) Fld.OP_WB_CTRL_WB_EN && scanning s n && decide (y < vAct s n) && !(tget [] (outSt s n).raster y).isEmpty &&
      !(outSt s n).wbStopped) = true := by
  obtain ⟨henabled, hscans, hactive, hscanned, hgoesOn⟩ := h
  simp [henabled, hscans, hactive, hscanned, hgoesOn]

section
variable (hl : WbLine (advance t s) output.toNat line.toNat)
include hl

theorem execWritebackLine_late :
    execWritebackLine t output line false s = .next (wrB (Reg.OP_WB_STAT output.toNat) Fld.OP_WB_STAT_INCOMPLETE true
      (setOut output.toNat (fun o => { o with wbStopped := true }) (advance t s))) :=
  if_pos (wbLine_test hl)

theorem execWritebackLine_cut {sp : Bool × Nat} (hsp : spaceOf (advance t s) (outObj output.toNat) = some sp) (hc : (outSt (advance t s) output.toNat).wbCut = true) :
    execWritebackLine t output line true s = .next (wrB (Reg.OP_WB_STAT output.toNat) Fld.OP_WB_STAT_DISCARDED true (advance t s)) := by
  simp only [execWritebackLine, wbLine_test hl, hsp, hc, Bool.true_eq_false, if_true, if_false]

/-- A line before the last of its frame is stored in Holm's space, and no more (R350). -/
theorem execWritebackLine_stored {p : Nat} (hsp : spaceOf (advance t s) (outObj output.toNat) = some (true, p))
    (hc : (outSt (advance t s) output.toNat).wbCut = false) (hlast : line.toNat + 1 < vAct (advance t s) output.toNat) :
    execWritebackLine t output line true s = .next (wbFetched output.toNat
      (wrDpas (wbPlace (advance t s) output.toNat line.toNat) (wbBytes (advance t s) output.toNat line.toNat) (advance t s))) := by
  have hlines : line.toNat + 1 ≠ vAct (wbFetched output.toNat
      (wrDpas (wbPlace (advance t s) output.toNat line.toNat) (wbBytes (advance t s) output.toNat line.toNat) (advance t s))) output.toNat := by
    rw [vAct_wbFetched, vAct_wrDpas]
    omega
  unfold wbFetched wbPlace wbBytes at *
  simp only [execWritebackLine, wbLine_test hl, hsp, hc, hlines, Bool.true_eq_false, Bool.false_eq_true, if_true, if_false]

end

/-! #### CURSOR_EXPRESS_PATH -/

theorem execCursorExpressPath_idle (hx : (advance t s).sense.express = []) : execCursorExpressPath t s = .next (advance t s) := by
  simp only [execCursorExpressPath, hx]

theorem execCursorExpressPath_oldest {k : Nat} {v : Holder} {cx cy : Nat} {rest : List (Nat × Holder × Nat × Nat)}
    (hx : (advance t s).sense.express = (k, v, cx, cy) :: rest) :
    execCursorExpressPath t s =
      .next ((List.range 8).foldl (expressOne k v cx cy) { advance t s with sense := { (advance t s).sense with express := rest } }) := by
  simp only [execCursorExpressPath, hx]

end

/-- Settles O40: a line request, a writeback line and a cursor move are each a choice by what the output shows, and each clause is the branch that its hypothesis selects. -/
theorem scanEventsComplete : Obligations.ScanEventsComplete := by
  intro t s output line h n y
  refine ⟨fun _ => execLineRequest_idle, fun hs h0 hy _ => execLineRequest_inner hs hy h0, fun hs h0 hv hc => execLineRequest_first hs (lt_of_eq_of_lt h0 hv) h0 hc,
    fun he _ => execWritebackLine_off he, fun he hs hy hw hg => ?line, execCursorExpressPath_idle, fun _ _ _ _ _ => execCursorExpressPath_oldest⟩
  case line =>
    have hl : WbLine h n y := ⟨he, hs, hy, hw, hg⟩
    exact ⟨execWritebackLine_late hl, fun _ => execWritebackLine_cut hl, fun _ => execWritebackLine_stored hl⟩

end Sys2Proof.Proofs

namespace Sys2Proof.Proofs

open Sys2Proof Sys2Proof.Machine Sys2Proof.Laws

/-! ### Latch points and the application of shadows (R365, R366, R371, R379)

Each event chooses by what the output shows at its tick. -/

section
variable {t : Tick} {s : State} {output : BitVec 3}

theorem execLatchPoint_running (hs : scanning (advance t s) output.toNat = true) (hl : (outSt (advance t s) output.toNat).lastLatch < (advance t s).gtb) :
    execLatchPoint t output s = .next (latchEvent .running output.toNat (advance t s)) :=
  if_pos (Bool.and_eq_true_iff.2 ⟨hs, decide_eq_true hl⟩)

/-- An output that does not scan has no latch point, and none has two at one instant (R371). -/
theorem execLatchPoint_none (h : scanning (advance t s) output.toNat = false ∨ (advance t s).gtb ≤ (outSt (advance t s) output.toNat).lastLatch) :
    execLatchPoint t output s = .next (advance t s) := by
  refine if_neg fun hlatch => ?_
  obtain ⟨hs, hl⟩ := Bool.and_eq_true_iff.1 hlatch
  obtain hidle | hsame := h
  · exact ne_true_of_eq_false hidle hs
  · exact Nat.not_lt.2 hsame (of_decide_eq_true hl)

/-! #### The raster begins -/

theorem execRawRasterStart_waits (h : tgOn (advance t s) output.toNat = false ∨ (outSt (advance t s) output.toNat).latched = true ∨
    outReady (advance t s) output.toNat = false) : execRawRasterStart t output s = .next (advance t s) := by
  obtain h | h | h := h
  · simp only [execRawRasterStart, h, Bool.false_and, Bool.false_eq_true, if_false]
  · simp only [execRawRasterStart, h, Bool.not_true, Bool.and_false, Bool.false_and, Bool.false_eq_true, if_false]
  · simp only [execRawRasterStart, h, Bool.and_false, Bool.false_eq_true, if_false]

section
variable (hon : tgOn (advance t s) output.toNat = true) (hl : (outSt (advance t s) output.toNat).latched = false)
  (hr : outReady (advance t s) output.toNat = true) {r : State} (hn : noteReadyAt output.toNat (advance t s) = r)
include hon hl hr hn

theorem execRawRasterStart_ready :
    execRawRasterStart t output s =
      if flg r (Reg.TG_CTRL output.toNat) Fld.TG_CTRL_ALIGN_EN then
        (if alignFails r output.toNat then .next (startRaster output.toNat (wrB (Reg.TG_STAT output.toNat) Fld.TG_STAT_ALIGN_FAILED true r))
         else if alignedNow r output.toNat then .next (latchEvent .first output.toNat r)
         else .next r)
      else .next (startRaster output.toNat r) := by
  subst hn
  have hready : (tgOn (advance t s) output.toNat && !(outSt (advance t s) output.toNat).latched && outReady (advance t s) output.toNat) = true := by
    rw [hon, hl, hr]
    rfl
  exact if_pos hready

theorem execRawRasterStart_free (ha : flg r (Reg.TG_CTRL output.toNat) Fld.TG_CTRL_ALIGN_EN = false) :
    execRawRasterStart t output s = .next (startRaster output.toNat r) :=
  (execRawRasterStart_ready hon hl hr hn).trans (if_neg (ne_true_of_eq_false ha))

variable (ha : flg r (Reg.TG_CTRL output.toNat) Fld.TG_CTRL_ALIGN_EN = true)
include ha

theorem execRawRasterStart_alignFails (hf : alignFails r output.toNat = true) :
    execRawRasterStart t output s = .next (startRaster output.toNat (wrB (Reg.TG_STAT output.toNat) Fld.TG_STAT_ALIGN_FAILED true r)) :=
  (execRawRasterStart_ready hon hl hr hn).trans ((if_pos ha).trans (if_pos hf))

theorem execRawRasterStart_aligned (hf : alignFails r output.toNat = false) (hw : alignedNow r output.toNat = true) :
    execRawRasterStart t output s = .next (latchEvent .first output.toNat r) :=
  (execRawRasterStart_ready hon hl hr hn).trans ((if_pos ha).trans ((if_neg (ne_true_of_eq_false hf)).trans (if_pos hw)))

theorem execRawRasterStart_unaligned (hf : alignFails r output.toNat = false) (hw : alignedNow r output.toNat = false) :
    execRawRasterStart t output s = .next r :=
  (execRawRasterStart_ready hon hl hr hn).trans ((if_pos ha).trans ((if_neg (ne_true_of_eq_false hf)).trans (if_neg (ne_true_of_eq_false hw))))

end

/-! #### The first latch of a new timing (R379) -/

theorem execFirstLatchNewTiming_none (hw : (outSt (advance t s) output.toNat).waitNew = none) :
    execFirstLatchNewTiming t output s = .next (advance t s) := by
  simp only [execFirstLatchNewTiming, hw]

section
variable {last : Tick} (hw : (outSt (advance t s) output.toNat).waitNew = some last)
  (ha : flg (advance t s) (Reg.TG_CTRL output.toNat) Fld.TG_CTRL_ALIGN_EN = false)
include hw ha

/-- Without alignment a ready output latches two or three periods after the last latch, or at the latest moment (R379). -/
theorem execFirstLatchNewTiming_ready (hr : outReady (advance t s) output.toNat = true)
    (hd : (advance t s).gtb = latchAfter (advance t s) output.toNat (outSt (advance t s) output.toNat).lastLatch 2 ∨
      (advance t s).gtb = latchAfter (advance t s) output.toNat (outSt (advance t s) output.toNat).lastLatch 3 ∨ last ≤ (advance t s).gtb) :
    execFirstLatchNewTiming t output s = .next (latchEvent .newTiming output.toNat (advance t s)) := by
  obtain hd | hd | hd := hd
  · simp [execFirstLatchNewTiming, hw, ha, hr, ← hd, -advance_gtb]
  · simp [execFirstLatchNewTiming, hw, ha, hr, ← hd, -advance_gtb]
  · simp [execFirstLatchNewTiming, hw, ha, hr, hd, -advance_gtb]

/-- At the latest moment the latch comes without the link, whose state is then FAULT (R379). -/
theorem execFirstLatchNewTiming_unready (hr : outReady (advance t s) output.toNat = false) :
    execFirstLatchNewTiming t output s =
      if last ≤ (advance t s).gtb then .next (latchEvent .newTiming output.toNat (linkState output.toNat 3 3 (advance t s))) else .next (advance t s) := by
  simp only [execFirstLatchNewTiming, hw, ha, hr, Bool.false_and, Bool.false_eq_true, false_and, if_false]

end

/-! #### SHADOW_APPLY -/

theorem execShadowApply_notDue (hd : (outSt (advance t s) output.toNat).latchDue = false) : execShadowApply t output s = .next (advance t s) :=
  if_neg (ne_true_of_eq_false hd)

/-- The commits that the latch point took. -/
def takenCommits (s : State) (n : Nat) : List PendCommit := (outSt s n).commits.filter (fun c => c.taken)

/-- The commits taken are applied in order and off the list (R371). -/
def commitsApplied (n : Nat) (s : State) : State :=
  setOut n (fun o => { o with latchDue := false, commits := o.commits.filter (fun c => !c.taken) })
    ((takenCommits s n).foldl (fun s c => applyDisplay n c.holder s) (layersOff n s))

/-- The zones of the frame that begins, the ones before it kept (R405). -/
def zonesFormed (n : Nat) (s : State) : State := setOut n (fun o => { o with prevZones := o.zones, zones := zonesOf s n }) s

/-- The layers bind, the writeback begins its frame, and leases and queue follow (R241, R304). -/
def layersLatched (n : Nat) (s : State) : State :=
  trimQueue n (markLeases n (wbLatch n (outSt s n).lastLatch ((List.range 8).foldl (layerLatch n (outSt s n).lastLatch) s)))

/-- Where the cursor is first seen in the frame. -/
def cursorFirst (s : State) (n : Nat) : List (Int × Int) := match cursorLayer s n with | some k => [cursorPos s n k] | none => []

section
variable (hd : (outSt (advance t s) output.toNat).latchDue = true)
include hd

theorem execShadowApply_off (hon : tgOn (commitsApplied output.toNat (advance t s)) output.toNat = false) :
    execShadowApply t output s = .next (trimQueue output.toNat (markLeases output.toNat (commitsApplied output.toNat (advance t s)))) :=
  (if_pos hd).trans (if_neg (ne_true_of_eq_false hon))

/-- On a running output the Creamline hands over, the zones form, and the layers and the cursor follow. -/
theorem execShadowApply_on {c w : State} (hon : tgOn (commitsApplied output.toNat (advance t s)) output.toNat = true)
    (hc : crlHandover output.toNat ((takenCommits (advance t s) output.toNat).any (fun c => c.holder.holm)) (commitsApplied output.toNat (advance t s)) = c)
    (hw : layersLatched output.toNat (zonesFormed output.toNat c) = w) :
    execShadowApply t output s = .next (setOut output.toNat
      (fun o => { o with cursor := fetchCursor w output.toNat, push := pushRegion w output.toNat, cursorSeen := cursorFirst w output.toNat, reverifyEnd := false }) w) := by
  subst hw hc
  exact (if_pos hd).trans (if_pos hon)

end

end

/-- Settles O42: each event is a choice by the output's raster, its link and its commits, and each clause is the branch that its hypothesis selects. -/
theorem latchEventsComplete : Obligations.LatchEventsComplete := by
  intro t s output h n o
  refine ⟨fun _ _ => rfl, execLatchPoint_running, execLatchPoint_none, execRawRasterStart_waits, fun hon hl hr => ?starts, execFirstLatchNewTiming_none,
    fun last hw ha => ⟨execFirstLatchNewTiming_ready hw ha, fun hr hd => ?latest, fun hr hd => ?early⟩, execShadowApply_notDue,
    fun hd => ⟨execShadowApply_off hd, fun hon => execShadowApply_on hd hon rfl rfl⟩⟩
  case starts =>
    exact ⟨execRawRasterStart_free hon hl hr rfl, execRawRasterStart_alignFails hon hl hr rfl, execRawRasterStart_aligned hon hl hr rfl,
      execRawRasterStart_unaligned hon hl hr rfl⟩
  case latest => exact (execFirstLatchNewTiming_unready hw ha hr).trans (if_pos hd)
  case early => exact (execFirstLatchNewTiming_unready hw ha hr).trans (if_neg (Nat.not_le.2 hd))

end Sys2Proof.Proofs

namespace Sys2Proof.Proofs

open Sys2Proof Sys2Proof.Machine Sys2Proof.Laws

/-! ### The Creamline (R399, R405 to R407, R416) -/

section
variable {t : Tick} {s : State} {output : BitVec 3}

/-! #### CREAM work -/

section
variable {c : Contract}
  (hc : (contractsOn (advance t s) .cream output.toNat).find? (fun c => c.phase == .waiting && decide (c.s0 ≤ (advance t s).gtb)) = some c)
include hc

theorem execCreamWorkStart_held (hb : (crlSt (advance t s) output.toNat).holdPending = true ∨ backBusy (advance t s) output.toNat = true) :
    execCreamWorkStart t output s = .next (advance t s) := by
  simp only [execCreamWorkStart, hc, if_pos (Bool.or_eq_true_iff.2 hb)]

theorem execCreamWorkStart_begins (hp : (crlSt (advance t s) output.toNat).holdPending = false) (hb : backBusy (advance t s) output.toNat = false) :
    execCreamWorkStart t output s = .next (creamBegin c (advance t s)) := by
  simp only [execCreamWorkStart, hc, hp, hb, Bool.or_self, Bool.false_eq_true, if_false]

end

theorem execCreamWorkDone_none (hw : (advance t s).disp.cream.find? (fun w => w.output == output.toNat && w.begun) = none) :
    execCreamWorkDone t output s = .next (advance t s) := by
  simp only [execCreamWorkDone, hw]

/-- The item's work is over: it leaves the list, and the contract's occurrence, if still the one in work, has ended. -/
def creamEnded (w : CreamWork) (s : State) : State :=
  setContract w.fn w.id (fun c => if c.inst = w.inst then { c with phase := .ended } else c)
    { s with disp := { s.disp with cream := s.disp.cream.filter (fun x => x != w) } }

/-- Where the loader stores the item's data: in the back buffer of its output (R399). -/
def creamPlace (s : State) (n : Nat) (w : CreamWork) : Nat := lcBuffer n (1 - (crlSt s n).front) + w.dest

/-- The data copied into the back buffer, and the bytes charged to the item (R399). -/
def creamCopied (at_ : Nat) (w : CreamWork) (s : State) : State := meter w.fn w.id w.inst 0 w.len (wrVat at_ (rdDpas s w.addr w.len) s)

/-- The flip that an item asks for. -/
def creamFlip (n : Nat) (w : CreamWork) (s : State) : State := flipPending n ⟨some (w.fn, w.id, w.inst), w.regions, s.gtb⟩ s

section
variable {w : CreamWork} (hw : (advance t s).disp.cream.find? (fun w => w.output == output.toNat && w.begun) = some w)
include hw

theorem execCreamWorkDone_unready (hr : creamReady (advance t s) w = false) : execCreamWorkDone t output s = .next (advance t s) := by
  simp only [execCreamWorkDone, hw, hr, Bool.false_eq_true, if_false]

variable (hr : creamReady (advance t s) w = true)
include hr

theorem execCreamWorkDone_rendered (hk : w.source ≠ 1) :
    execCreamWorkDone t output s = .next (creamFlip output.toNat w (creamEnded w (advance t s))) := by
  simp only [execCreamWorkDone, hw, hr, hk, if_true, if_false, creamFlip, creamEnded]

variable (hk : w.source = 1) {v : State} (hv : creamCopied (creamPlace (advance t s) output.toNat w) w (creamEnded w (advance t s)) = v)
include hk hv

theorem execCreamWorkDone_copied :
    execCreamWorkDone t output s =
      if sha256 (rdVat v (creamPlace (advance t s) output.toNat w) w.len) = w.hash then .next (creamFlip output.toNat w v)
      else match openInst v w.fn w.id w.inst with
        | some c => .next (breach c .assetMismatch w.fn 0 v)
        | none => .next v := by
  subst hv
  simp only [execCreamWorkDone, hw, hr, hk, if_true, creamFlip, creamPlace, creamCopied, creamEnded]
  rfl

theorem execCreamWorkDone_matches (hh : sha256 (rdVat v (creamPlace (advance t s) output.toNat w) w.len) = w.hash) :
    execCreamWorkDone t output s = .next (creamFlip output.toNat w v) :=
  (execCreamWorkDone_copied hw hr hk hv).trans (if_pos hh)

theorem execCreamWorkDone_mismatch {c : Contract} (hh : sha256 (rdVat v (creamPlace (advance t s) output.toNat w) w.len) ≠ w.hash)
    (ho : openInst v w.fn w.id w.inst = some c) : execCreamWorkDone t output s = .next (breach c .assetMismatch w.fn 0 v) := by
  rw [execCreamWorkDone_copied hw hr hk hv, if_neg hh, ho]

end

/-! #### Tile signatures -/

section
variable {tile : BitVec 17} {upset : Word} {expLost : Bool}

theorem execTileSignatureDone_skips (h : scanning (advance t s) output.toNat = false ∨
    tileW (advance t s) output.toNat * tileH (advance t s) output.toNat ≤ tile.toNat ∨ (crlSt (advance t s) output.toNat).cur.signed.contains tile.toNat = true) :
    execTileSignatureDone t output tile upset expLost s = .next (advance t s) := by
  refine if_neg fun hdue => ?_
  simp only [Bool.and_eq_true, Bool.not_eq_true', decide_eq_true_eq] at hdue
  obtain ⟨⟨⟨hscans, hplace⟩, -⟩, hsigned⟩ := hdue
  obtain h | h | h := h
  · exact ne_true_of_eq_false h hscans
  · exact Nat.not_lt.2 h hplace
  · exact ne_true_of_eq_false hsigned h

/-- The tile is signed in this frame. -/
def tileSigned (n i : Nat) (s : State) : State := setCrl n (fun c => { c with cur := { c.cur with signed := c.cur.signed ++ [i] } }) s

/-- Without armed faults no fault meets the tile, so the signature is that of the pixels with the upset alone, and a certified tile's is compared (R405, R407). -/
theorem execTileSignatureDone_certified (hs : scanning (advance t s) output.toNat = true)
    (hp : tile.toNat < tileW (advance t s) output.toNat * tileH (advance t s) output.toNat) (ht : tileScanned (advance t s) output.toNat tile.toNat = true)
    (hn : (crlSt (advance t s) output.toNat).cur.signed.contains tile.toNat = false) (hf : (advance t s).lnk.faults = []) {u : State} {sig exp : Word}
    (hu : tileSigned output.toNat tile.toNat (advance t s) = u) (hsig : tileSig (advance t s) output.toNat tile.toNat ^^^ upset = sig)
    (hexp : (if expLost then 0 else tileExp u output.toNat tile.toNat) = exp)
    (hz : tileIn (outSt u output.toNat).zones (tileW u output.toNat) tile.toNat = true) :
    execTileSignatureDone t output tile upset expLost s =
      .next (if sig = exp ∧ expLost = false ∧ tilePoisoned u output.toNat tile.toNat = false
        then wrVat (tileEntry output.toNat tile.toNat) (le 4 sig.toNat ++ le 4 exp.toNat) u
        else tileMismatch output.toNat tile.toNat sig exp expLost (wrVat (tileEntry output.toNat tile.toNat) (le 4 sig.toNat ++ le 4 exp.toNat) u)) := by
  have hmeets : meetFaults 2 output.toNat 0 tile.toNat (advance t s) = ([], advance t s) := meetFaults_of_unaimed fun f hm => by
    rw [hf] at hm
    cases hm
  have hsigned : setCrl output.toNat (fun c => { c with cur := { c.cur with signed := c.cur.signed ++ [tile.toNat], provoked := c.cur.provoked || !([] : List Nat).isEmpty } })
      (advance t s) = u := by
    simpa only [tileSigned, List.isEmpty_nil, Bool.not_true, Bool.or_false] using hu
  have hunflipped : tileSig (advance t s) output.toNat tile.toNat ^^^ upset ^^^ (if ([] : List Nat).length % 2 = 1 then 1 else 0) = sig := by
    simpa using hsig
  simp only [execTileSignatureDone, hs, hp, ht, hn, decide_true, Bool.not_false, Bool.and_self, if_true, hmeets, hsigned, hunflipped, hz, hexp]
  split <;> rfl

end

/-! #### Evidence -/

theorem execEvidenceRecord_none (hd : (crlSt (advance t s) output.toNat).due = []) : execEvidenceRecord t output s = .next (advance t s) := by
  simp only [execEvidenceRecord, hd]

/-- The oldest due record has left the list. -/
def evidenceTaken (n : Nat) (ds : List (List Byte × Bool)) (s : State) : State := setCrl n (fun c => { c with due := ds }) s

/-- MODE 1 leaves out a record that need not be written and shows what the one before it shows (R416). -/
theorem evidenceSame_iff {n : Nat} {b : List Byte} {must : Bool} {s u : State} :
    (flg u Reg.CRL_EV_CTRL Fld.CRL_EV_CTRL_MODE && !must && (crlSt s n).prevKey == some (evidenceKey b)) = true ↔
      flg u Reg.CRL_EV_CTRL Fld.CRL_EV_CTRL_MODE = true ∧ must = false ∧ (crlSt s n).prevKey = some (evidenceKey b) := by
  simp only [Bool.and_eq_true, Bool.not_eq_true', beq_iff_eq, and_assoc]

section
variable {b : List Byte} {must : Bool} {ds : List (List Byte × Bool)} (hd : (crlSt (advance t s) output.toNat).due = (b, must) :: ds)
  {u : State} (hu : evidenceTaken output.toNat ds (advance t s) = u)
include hd hu

theorem execEvidenceRecord_due :
    execEvidenceRecord t output s =
      if flg u Reg.CRL_EV_CTRL Fld.CRL_EV_CTRL_MODE && !must && (crlSt (advance t s) output.toNat).prevKey == some (evidenceKey b)
      then .next u else .next (evidencePut output.toNat b u) := by
  subst hu
  unfold evidenceTaken
  simp only [execEvidenceRecord, hd]

theorem execEvidenceRecord_same (h : flg u Reg.CRL_EV_CTRL Fld.CRL_EV_CTRL_MODE = true ∧ must = false ∧
    (crlSt (advance t s) output.toNat).prevKey = some (evidenceKey b)) : execEvidenceRecord t output s = .next u :=
  (execEvidenceRecord_due hd hu).trans (if_pos (evidenceSame_iff.2 h))

theorem execEvidenceRecord_new (h : ¬(flg u Reg.CRL_EV_CTRL Fld.CRL_EV_CTRL_MODE = true ∧ must = false ∧
    (crlSt (advance t s) output.toNat).prevKey = some (evidenceKey b))) : execEvidenceRecord t output s = .next (evidencePut output.toNat b u) :=
  (execEvidenceRecord_due hd hu).trans (if_neg (mt evidenceSame_iff.1 h))

end

end

/-- Settles O43: each event is a choice by the oldest work, the tile or the oldest record that the state holds, and each clause is the branch that its hypothesis selects. -/
theorem creamEventsComplete : Obligations.CreamEventsComplete := by
  intro t s output h n
  refine ⟨fun _ hc => ⟨execCreamWorkStart_held hc, execCreamWorkStart_begins hc⟩, execCreamWorkDone_none,
    fun w hw => ⟨execCreamWorkDone_unready hw, execCreamWorkDone_rendered hw, fun hr hk => execCreamWorkDone_matches hw hr hk rfl,
      fun c hr hk => execCreamWorkDone_mismatch hw hr hk rfl⟩,
    fun _ _ _ => ⟨execTileSignatureDone_skips, fun hs hp ht hn hf => execTileSignatureDone_certified hs hp ht hn hf rfl rfl rfl⟩,
    execEvidenceRecord_none, fun _ _ _ hd => ⟨execEvidenceRecord_same hd rfl, execEvidenceRecord_new hd rfl⟩⟩

end Sys2Proof.Proofs

namespace Sys2Proof.Proofs

open Sys2Proof Sys2Proof.Machine Sys2Proof.Laws

/-! ### Display links and straits (R426, R428, R431, R436) -/

section
variable {t : Tick} {s : State} {output : BitVec 3}

/-! #### Training (R426) -/

section
variable {passed : Bool} {panel : BitVec 8}

theorem execLinkTrainingAttempt_idle (hx : (txSt (advance t s) output.toNat).trying = none) :
    execLinkTrainingAttempt t output passed panel s = .next (advance t s) := by
  simp only [execLinkTrainingAttempt, hx]

section
variable {c : Nat × Nat} (hx : (txSt (advance t s) output.toNat).trying = some c) (hon : tgOn (advance t s) output.toNat = true)
  (hg : gateOn (advance t s) (0x30 + output.toNat) = true)
include hx hon hg

theorem execLinkTrainingAttempt_live :
    execLinkTrainingAttempt t output passed panel s =
      if passed then .next (trainPass output.toNat c (advance t s)) else .next (trainFail output.toNat panel.toNat (advance t s)) := by
  simp only [execLinkTrainingAttempt, hx, hon, hg, Bool.true_eq_false, or_self, if_false]

theorem execLinkTrainingAttempt_passed : execLinkTrainingAttempt t output true panel s = .next (trainPass output.toNat c (advance t s)) :=
  execLinkTrainingAttempt_live hx hon hg

theorem execLinkTrainingAttempt_failed : execLinkTrainingAttempt t output false panel s = .next (trainFail output.toNat panel.toNat (advance t s)) :=
  execLinkTrainingAttempt_live hx hon hg

end

end

section
variable {u : State} {n panel : Nat}

theorem trainFail_first (h : (txSt u n).second = false) : trainFail n panel u = setTx n (fun x => { x with second := true }) u := if_pos h

theorem trainFail_fallback {d : Nat × Nat} {ds : List (Nat × Nat)} (h : (txSt u n).second = true)
    (hd : (txSt u n).rest.dropWhile (fun c => !tryable u n panel c) = d :: ds) :
    trainFail n panel u = setTx n (fun x => { x with trying := some d, rest := ds, second := false }) u := by
  simp only [trainFail, h, Bool.true_eq_false, if_false, hd]

/-- With no configuration left to try the link fails, and tries again a second later (R426). -/
theorem trainFail_last (h : (txSt u n).second = true) (hd : (txSt u n).rest.dropWhile (fun c => !tryable u n panel c) = []) :
    trainFail n panel u =
      linkState n 3 3 (setTx n (fun x => { x with trying := none, rest := [], second := false, retryAt := some (u.gtb + 200000000) }) u) := by
  simp only [trainFail, h, Bool.true_eq_false, if_false, hd]

end

section
variable {r : Tick} (hr : (txSt (advance t s) output.toNat).retryAt = some r)
include hr

theorem execLinkRetry_early (hd : (advance t s).gtb < r) : execLinkRetry t output s = .next (advance t s) := by
  simp only [execLinkRetry, hr, Nat.not_le.2 hd, false_and, if_false]

/-- The configurations that a retry falls back to after the configured one. -/
def retryRest (s : State) (n : Nat) : List (Nat × Nat) := if flg s (Reg.LNK_TXg_CFG n) Fld.LNK_TXg_CFG_FALLBACK_EN then fallbacks s n else []

theorem execLinkRetry_due (hd : r ≤ (advance t s).gtb) (hon : tgOn (advance t s) output.toNat = true) :
    execLinkRetry t output s = .next (setTx output.toNat (fun x => { x with
      trying := some (txLanes (advance t s) output.toNat, txRate (advance t s) output.toNat), second := false, rest := retryRest (advance t s) output.toNat,
      cause := 8, retryAt := none }) (advance t s)) := by
  simp only [execLinkRetry, hr, hd, hon, and_self, if_true, retryRest]

end

/-! #### Hot plug (R428) -/

section
variable {ticks : Word} {lost : Bool}

theorem execHpdLowPulse_noHpd (h1 : txProto (advance t s) output.toNat ≠ 1) (h2 : txProto (advance t s) output.toNat ≠ 2) :
    execHpdLowPulse t output ticks lost s = .next (advance t s) :=
  if_pos ⟨h1, h2⟩

theorem execHpdLowPulse_short (hd : ticks.toNat < 100000) : execHpdLowPulse t output ticks lost s = .next (advance t s) := by
  simp only [execHpdLowPulse, hd, if_true, ite_self]

section
variable (hp : txProto (advance t s) output.toNat = 1 ∨ txProto (advance t s) output.toNat = 2) (hlong : 100000 ≤ ticks.toNat)
include hp hlong

/-- A pulse that is no bounce is a service request below 400,000 ticks and an unplug from there on. -/
theorem execHpdLowPulse_seen :
    execHpdLowPulse t output ticks lost s =
      if ticks.toNat < 400000 then
        (if lost = true ∧ (txSt (advance t s) output.toNat).state = 2 then .next (linkBring output.toNat 6 (advance t s)) else .next (advance t s))
      else
        let u := wrB (Reg.LNK_TXg_STAT output.toNat) Fld.LNK_TXg_STAT_HPD false (advance t s)
        let v := if (txSt u output.toNat).sb.isSome then sbEnd output.toNat 4 0 u else u
        if (txSt v output.toNat).state = 0 then .next v
        else .next (noteReadyAt output.toNat (linkState output.toNat 3 4 (setTx output.toNat
          (fun x => { x with trying := none, rest := [], retryAt := none, unplugged := true, lanes := 0, rate := 0 }) v))) :=
  (if_neg (by omega)).trans (if_neg (Nat.not_lt.2 hlong))

theorem execHpdLowPulse_service (hd : ticks.toNat < 400000) :
    execHpdLowPulse t output ticks lost s =
      .next (if lost = true ∧ (txSt (advance t s) output.toNat).state = 2 then linkBring output.toNat 6 (advance t s) else advance t s) := by
  rw [execHpdLowPulse_seen hp hlong, if_pos hd]
  split <;> rfl

end

/-- Without a sideband transaction to end, an unplug sets the link down and waits for the sink (R428). -/
theorem execHpdLowPulse_unplug (hp : txProto (advance t s) output.toNat = 1 ∨ txProto (advance t s) output.toNat = 2) (hd : 400000 ≤ ticks.toNat)
    (hsb : (txSt (advance t s) output.toNat).sb = none) {u : State} (hu : wrB (Reg.LNK_TXg_STAT output.toNat) Fld.LNK_TXg_STAT_HPD false (advance t s) = u) :
    execHpdLowPulse t output ticks lost s = .next (if (txSt (advance t s) output.toNat).state = 0 then u else
      noteReadyAt output.toNat (linkState output.toNat 3 4 (setTx output.toNat
        (fun x => { x with trying := none, rest := [], retryAt := none, unplugged := true, lanes := 0, rate := 0 }) u))) := by
  have htx : txSt u output.toNat = txSt (advance t s) output.toNat := by
    subst hu
    rfl
  rw [execHpdLowPulse_seen hp (by omega), if_neg (Nat.not_lt.2 hd)]
  simp only [hu, htx, hsb, Option.isSome_none, Bool.false_eq_true, if_false]
  split <;> rfl

end

theorem execHpdReplug_shows {u : State} (hu : wrB (Reg.LNK_TXg_STAT output.toNat) Fld.LNK_TXg_STAT_HPD true (advance t s) = u) :
    execHpdReplug t output s = .next (if (txSt u output.toNat).unplugged = true ∧ tgOn u output.toNat = true then linkBring output.toNat 5 u else u) := by
  subst hu
  unfold execHpdReplug
  dsimp only
  split <;> rfl

/-! #### Sideband transactions (R431) -/

/-- Byte `i` of a transaction's data shown in its place of the data registers. -/
def sbShow (n : Nat) (bs : List Byte) (s : State) (i : Nat) : State :=
  wrF (Reg.LNK_TXg_SB_DATAi n (i / 4)) ⟨8 * (i % 4) + 7, 8 * (i % 4)⟩ (byteAt bs i).toNat s

theorem foldl_sbShow_eq (n : Nat) (bs : List Byte) (is : List Nat) (s : State) :
    is.foldl (sbShow n bs) s = { s with regs := (is.foldl (sbShow n bs) s).regs } := by
  induction is generalizing s with
  | nil => rfl
  | cons i is ih => rw [List.foldl_cons, ih, sbShow, wrF, wr]

/-- The state in which the bytes of a read are shown; those of a write are not. -/
def sbShown (n : Nat) (q : SbRec) (bs : List Byte) (s : State) : State :=
  if q.cmd == 0 || q.cmd == 2 || q.cmd == 6 then (List.range bs.length).foldl (sbShow n bs) s else s

theorem sbShown_eq (n : Nat) (q : SbRec) (bs : List Byte) (s : State) : sbShown n q bs s = { s with regs := (sbShown n q bs s).regs } := by
  unfold sbShown
  split
  · exact foldl_sbShow_eq ..
  · rfl

theorem sbShown_write {n : Nat} {q : SbRec} {bs : List Byte} {s : State} (h0 : q.cmd ≠ 0) (h2 : q.cmd ≠ 2) (h6 : q.cmd ≠ 6) : sbShown n q bs s = s := by
  simp [sbShown, h0, h2, h6]

section
variable {result : BitVec 3} {bytes : List Byte}

theorem execSbTransactionEnd_none (hx : (txSt (advance t s) output.toNat).sb = none) : execSbTransactionEnd t output result bytes s = .next (advance t s) := by
  simp only [execSbTransactionEnd, hx]

theorem execSbTransactionEnd_ends {q : SbRec} (hx : (txSt (advance t s) output.toNat).sb = some q) (hlo : 1 ≤ result.toNat) (hhi : result.toNat ≤ 4) :
    execSbTransactionEnd t output result bytes s = .next (sbEnd output.toNat result.toNat (bytes.take q.len).length
      (sbShown output.toNat q (bytes.take q.len) (advance t s))) := by
  have hresult : ¬(result.toNat = 0 ∨ 4 < result.toNat) := by omega
  simp only [execSbTransactionEnd, hx, if_neg hresult]
  rfl

end

/-! #### Straits (R436) -/

section
variable {id : Byte} {seq : BitVec 4} {parity : Bool} {item : Option (Fn × Word)}

theorem execStraitEntryArrival_unlisted (hl : straitListed id.toNat = false) : execStraitEntryArrival t id seq parity item s = .next (advance t s) :=
  if_neg (ne_true_of_eq_false hl)

/-- With no fault armed and no entry held back, an entry arrives as it was sent; one that counts an error is lost (R30, R436). -/
theorem execStraitEntryArrival_listed (hl : straitListed id.toNat = true) (hf : (advance t s).lnk.faults = []) (hh : (straitRec (advance t s) id.toNat).held = none)
    {u : State} (hu : straitArrive id.toNat seq.toNat parity (advance t s) = u) :
    execStraitEntryArrival t id seq parity item s =
      .next (if (straitRec u id.toNat).errors = (straitRec (advance t s) id.toNat).errors then u else lostItem item u) := by
  have hmeets : meetFaults 1 id.toNat 0 0 (advance t s) = ([], advance t s) := meetFaults_of_unaimed fun f hm => by
    rw [hf] at hm
    cases hm
  have hnone (k : Nat) : ([] : List Nat).contains k = false := rfl
  simp only [execStraitEntryArrival, if_pos hl, hmeets, hnone, hh, Bool.false_and, Bool.false_eq_true, if_false, Bool.not_false, Bool.and_true, hu]
  split <;> rfl

end

end

/-- Settles O44: each event is a choice by what the link, the transaction or the strait is doing, and each clause is the branch that its hypothesis selects. -/
theorem linkEventsComplete : Obligations.LinkEventsComplete := by
  intro t s output h n x
  refine ⟨fun c passed panel hx hon hg => ⟨fun hp => ?passed, fun hp hs => ?again, fun d ds hp hs hd => ?fallback, fun hp hs hd => ?fails⟩,
    fun _ _ => execLinkTrainingAttempt_idle, fun r hr => ⟨execLinkRetry_early hr, fun hd hon => ⟨_, execLinkRetry_due hr hd hon⟩⟩,
    fun ticks lost => ⟨execHpdLowPulse_noHpd, execHpdLowPulse_short, execHpdLowPulse_service, fun hp hd hsb => execHpdLowPulse_unplug hp hd hsb rfl⟩,
    execHpdReplug_shows rfl, fun _ _ => execSbTransactionEnd_none, fun result bytes q hx hlo hhi => ⟨fun h0 h2 h6 => ?write, ?shown⟩,
    fun id seq parity item => ⟨execStraitEntryArrival_unlisted, fun hl hf hh => execStraitEntryArrival_listed hl hf hh rfl⟩⟩
  case passed =>
    subst hp
    exact execLinkTrainingAttempt_passed hx hon hg
  case again =>
    subst hp
    exact (execLinkTrainingAttempt_failed hx hon hg).trans (congrArg _ (trainFail_first hs))
  case fallback =>
    subst hp
    exact (execLinkTrainingAttempt_failed hx hon hg).trans (congrArg _ (trainFail_fallback hs hd))
  case fails =>
    subst hp
    exact (execLinkTrainingAttempt_failed hx hon hg).trans (congrArg _ (trainFail_last hs hd))
  case write => exact (execSbTransactionEnd_ends hx hlo hhi).trans (by rw [sbShown_write h0 h2 h6])
  case shown => exact ⟨_, execSbTransactionEnd_ends hx hlo hhi, sbShown_eq ..⟩

end Sys2Proof.Proofs

namespace Sys2Proof.Proofs

open Sys2Proof Sys2Proof.Machine Sys2Proof.Laws

/-! ### Touch (R442, R443, R453, R455, R456) -/

section
variable {t : Tick} {s : State} {sensor : BitVec 3}

/-! #### Scans (R442, R443) -/

theorem execTouchScanStart_waits (h : sensorOn (advance t s) sensor.toNat = false ∨ tState (advance t s) sensor.toNat = 3 ∨
    (advance t s).gtb < (tsOf (advance t s) sensor.toNat).dueAt) : execTouchScanStart t sensor s = .next (advance t s) := by
  refine if_neg fun hdue => ?_
  simp only [Bool.and_eq_true, bne_iff_ne, decide_eq_true_eq] at hdue
  obtain ⟨⟨hon, hfast⟩, hat⟩ := hdue
  obtain h | h | h := h
  · exact ne_true_of_eq_false h hon
  · exact hfast h
  · exact Nat.not_le.2 h hat

/-- The number and the instant of the scan after the one that is due (R443). -/
def scanNumbered (k : Nat) (s : State) : State :=
  setTs k (fun r => { r with nextScan := (tsOf s k).nextScan + 1, dueAt := r.tEn + ((tsOf s k).nextScan + 1) * scanTicks s k }) s

section
variable (hon : sensorOn (advance t s) sensor.toNat = true) (hfast : tState (advance t s) sensor.toNat ≠ 3)
  (hd : (tsOf (advance t s) sensor.toNat).dueAt ≤ (advance t s).gtb) {u : State} (hu : scanNumbered sensor.toNat (advance t s) = u)
include hon hfast hd hu

theorem execTouchScanStart_due :
    execTouchScanStart t sensor s =
      if (tsOf (advance t s) sensor.toNat).busy.isSome then .next (wrB (Reg.TCH_Sk_STAT sensor.toNat) Fld.TCH_Sk_STAT_SKIPPED true u)
      else .next (setTs sensor.toNat (fun x => { x with busy := some (tsOf (advance t s) sensor.toNat).nextScan, cfg := liveCfg u sensor.toNat }) u) := by
  subst hu
  exact if_pos (Bool.and_eq_true_iff.2 ⟨Bool.and_eq_true_iff.2 ⟨hon, bne_iff_ne.2 hfast⟩, decide_eq_true hd⟩)

theorem execTouchScanStart_skips (hb : (tsOf (advance t s) sensor.toNat).busy ≠ none) :
    execTouchScanStart t sensor s = .next (wrB (Reg.TCH_Sk_STAT sensor.toNat) Fld.TCH_Sk_STAT_SKIPPED true u) :=
  (execTouchScanStart_due hon hfast hd hu).trans (if_pos (Option.isSome_iff_ne_none.2 hb))

theorem execTouchScanStart_starts (hb : (tsOf (advance t s) sensor.toNat).busy = none) :
    execTouchScanStart t sensor s =
      .next (setTs sensor.toNat (fun x => { x with busy := some (tsOf (advance t s) sensor.toNat).nextScan, cfg := liveCfg u sensor.toNat }) u) := by
  rw [execTouchScanStart_due hon hfast hd hu, hb, Option.isSome_none, if_neg Bool.false_ne_true]

end

section
variable {counts : List (List (BitVec 12))}

theorem execTouchScanEnd_none (hb : (tsOf (advance t s) sensor.toNat).busy = none) : execTouchScanEnd t sensor counts s = .next (advance t s) := by
  simp only [execTouchScanEnd, hb]

/-- What a scan measured on each channel of a sensor (R442). -/
def scanMeasured (s : State) (k : Nat) (counts : List (List (BitVec 12))) : List (Nat × Bool) :=
  scanCounts (samplesOf s k) (fld s (Reg.TCH_Sk_MEAS k) Fld.TCH_Sk_MEAS_MAX_COUNT) (channels s k) counts

/-- Every channel's count shown. -/
def countsShown (k : Nat) (ns : List Nat) (s : State) : State :=
  (List.range ns.length).foldl (fun u i => wrF (Reg.TCH_CHc ((geom s k).1 + i)) Fld.TCH_CHc_COUNT (ns.getD i 0) u) s

/-- Scan `m` of a sensor over and shown: counts, overranges, number and stamp (R442). -/
def scanShown (k m : Nat) (cs : List (Nat × Bool)) (s : State) : State :=
  setTs k (fun r => { r with busy := none, scan := m, stamp := s.gtb })
    (wr (Reg.TCH_Sk_SCAN k) (BitVec.ofNat 32 m) (wr (Reg.TCH_Sk_STAMP_LO k) (BitVec.ofNat 32 s.gtb) (wr (Reg.TCH_Sk_STAMP_HI k) (BitVec.ofNat 32 (s.gtb / 2 ^ 32))
      (wrF (Reg.TCH_Sk_STAT k) Fld.TCH_Sk_STAT_OVERRANGE (cs.filter (fun c => c.2)).length (countsShown k (cs.map (fun c => c.1)) s)))))

/-- The step that the sensor's state takes at the end of a scan; in OFF and in SLOW none. -/
def scanStep (k : Nat) (stamp : Tick) (cs : List (Nat × Bool)) (s : State) : State :=
  if tState s k = 1 then profileScan k stamp (cs.map (fun c => c.1)) s
  else if tState s k = 5 then calScan k cs s
  else if tState s k = 2 ∨ tState s k = 4 then runScan k stamp (cs.map (fun c => c.1)) s
  else s

section
variable {k : Nat} {stamp : Tick} {cs : List (Nat × Bool)} {u : State}

theorem scanStep_profile (h : tState u k = 1) : scanStep k stamp cs u = profileScan k stamp (cs.map (fun c => c.1)) u := if_pos h

theorem scanStep_calibrating (h : tState u k = 5) : scanStep k stamp cs u = calScan k cs u := by simp [scanStep, h]

theorem scanStep_run (h : tState u k = 2 ∨ tState u k = 4) : scanStep k stamp cs u = runScan k stamp (cs.map (fun c => c.1)) u := by
  obtain h | h := h
  · simp [scanStep, h]
  · simp [scanStep, h]

theorem scanStep_other (h1 : tState u k ≠ 1) (h5 : tState u k ≠ 5) (h2 : tState u k ≠ 2) (h4 : tState u k ≠ 4) : scanStep k stamp cs u = u := by
  simp [scanStep, h1, h5, h2, h4]

theorem scanStep_none (h : tState u k = 0 ∨ tState u k = 3) : scanStep k stamp cs u = u :=
  scanStep_other (by omega) (by omega) (by omega) (by omega)

end

theorem execTouchScanEnd_busy {m : Nat} (hb : (tsOf (advance t s) sensor.toNat).busy = some m) :
    execTouchScanEnd t sensor counts s = .next (scanStep sensor.toNat (advance t s).gtb (scanMeasured (advance t s) sensor.toNat counts)
      (scanShown sensor.toNat m (scanMeasured (advance t s) sensor.toNat counts) (advance t s))) := by
  simp only [execTouchScanEnd, hb]
  congr 1
  split
  next h => exact (scanStep_profile h).symm
  next h => exact (scanStep_calibrating h).symm
  next h => exact (scanStep_run (.inl h)).symm
  next h => exact (scanStep_run (.inr h)).symm
  next h1 h5 h2 h4 => exact (scanStep_other h1 h5 h2 h4).symm

end

/-! #### A contact held too long (R453) -/

section
variable {contact : BitVec 8}

theorem execTouchStuckRelease_none (hc : (tsOf (advance t s) sensor.toNat).contacts.find?
    (fun c => c.num == contact.toNat && stuckDue (tsOf (advance t s) sensor.toNat) (tsOf (advance t s) sensor.toNat).stamp c) = none) :
    execTouchStuckRelease t sensor contact s = .next (advance t s) := by
  simp only [execTouchStuckRelease, hc]

theorem post_sense (fn : Nat) (holm : Bool) (rec : List Byte) (s : State) : (post fn holm rec s).sense = s.sense := by
  unfold post
  split <;> rfl

theorem postTouch_sense (k : Nat) (c : TouchContact) (flags x y : Nat) (stamp : Tick) (s : State) : (postTouch k c flags x y stamp s).sense = s.sense := by
  unfold postTouch
  split
  · rfl
  · dsimp only
    split <;> exact post_sense ..

/-- The channels under a contact take the counts of the last scan as their baselines (R453). -/
def rebased (k : Nat) (c : TouchContact) (s : State) : State :=
  ((List.range (channels s k)).filter (underContact (setContacts k [c] s) k)).foldl
    (fun u i => setBase k i (fld u (Reg.TCH_CHc ((geom u k).1 + i)) Fld.TCH_CHc_COUNT) u) s

theorem rebased_sense (k : Nat) (c : TouchContact) (s : State) : (rebased k c s).sense = s.sense :=
  List.foldlRecOn (motive := fun u : State => u.sense = s.sense) _ _ rfl fun _ hu _ _ => hu

/-- The release of a stuck contact reported (R453). -/
def stuckReported (k : Nat) (c : TouchContact) (s : State) : State :=
  postTouch k c (0x42 + contactFlags ((tsOf s k).contacts.head? == some c) c) c.x c.y (tsOf s k).stamp s

theorem setTs_congr {k : Nat} {f g : TouchRec → TouchRec} {s : State} (h : f (tsOf s k) = g (tsOf s k)) : setTs k f s = setTs k g s := by
  unfold tsOf at h
  rw [setTs, setTs, tmod, tmod, h]

/-- The report and the new baselines leave the sensor's record, so it has been idle since the stamp of its last scan. -/
theorem execTouchStuckRelease_due {c : TouchContact} (hc : (tsOf (advance t s) sensor.toNat).contacts.find?
    (fun c => c.num == contact.toNat && stuckDue (tsOf (advance t s) sensor.toNat) (tsOf (advance t s) sensor.toNat).stamp c) = some c) :
    execTouchStuckRelease t sensor contact s = .next (setContacts sensor.toNat ((tsOf (advance t s) sensor.toNat).contacts.filter (fun x => x != c))
      (setTs sensor.toNat (fun r => { r with idleSince := (tsOf (advance t s) sensor.toNat).stamp }) (rebased sensor.toNat c (stuckReported sensor.toNat c (advance t s))))) := by
  have hkept : tsOf (rebased sensor.toNat c (stuckReported sensor.toNat c (advance t s))) sensor.toNat = tsOf (advance t s) sensor.toNat := by
    rw [tsOf, rebased_sense, stuckReported, postTouch_sense, tsOf]
  rw [setTs_congr (g := fun r => { r with idleSince := r.stamp }) (by rw [hkept])]
  simp only [execTouchStuckRelease, hc, rebased, stuckReported]

end

/-! #### Slow scanning (R456) -/

theorem execTouchEnterSlow_awake (h : slowDueNow (advance t s) sensor.toNat = false) : execTouchEnterSlow t sensor s = .next (advance t s) :=
  congrArg _ (if_neg (ne_true_of_eq_false h))

theorem execTouchEnterSlow_due (h : slowDueNow (advance t s) sensor.toNat = true) :
    execTouchEnterSlow t sensor s = .next (setTState sensor.toNat 3
      (setTs sensor.toNat (fun r => { r with groups := [], cands := [], high := [], slowDue := (advance t s).gtb }) (advance t s))) :=
  congrArg _ (if_pos h)

section
variable {counts : List (List (BitVec 12))}

theorem execTouchSlowScan_waits (h : tState (advance t s) sensor.toNat ≠ 3 ∨ (advance t s).gtb < (tsOf (advance t s) sensor.toNat).slowDue) :
    execTouchSlowScan t sensor counts s = .next (advance t s) := by
  refine if_neg fun ⟨hslow, hdue⟩ => ?_
  obtain h | h := h
  · exact h hslow
  · exact Nat.not_le.2 h hdue

/-- The number of a sensor's groups. -/
def groupCount (s : State) (k : Nat) : Nat := 2 ^ fld s (Reg.TCH_Sk_PERIOD k) Fld.TCH_Sk_PERIOD_GANG

/-- What a slow scan measures of each group. -/
def groupsMeasured (s : State) (k : Nat) (counts : List (List (BitVec 12))) : List Nat :=
  (scanCounts (samplesOf s k) (fld s (Reg.TCH_Sk_MEAS k) Fld.TCH_Sk_MEAS_MAX_COUNT) (groupCount s k) counts).map (fun c => c.1)

/-- The next slow scan falls due one slow period later. -/
def slowNext (k : Nat) (s : State) : State :=
  setTs k (fun r => { r with slowDue := r.slowDue + 200000 * fld s (Reg.TCH_Sk_PERIOD k) Fld.TCH_Sk_PERIOD_LP_PERIOD }) s

/-- Does a group's signal reach LP_WAKE? -/
def wakeHit (u : State) (k g : Nat) (groups : List (Nat × Nat × Nat)) (ns : List Nat) : Bool :=
  (List.range g).any (fun i => decide (((fld u (Reg.TCH_Sk_THR2 k) Fld.TCH_Sk_THR2_LP_WAKE : Nat) : Int) ≤ signalOf (groups.getD i (0, 0, 0)).1 (ns.getD i 0)))

section
variable (hslow : tState (advance t s) sensor.toNat = 3) (hd : (tsOf (advance t s) sensor.toNat).slowDue ≤ (advance t s).gtb)
  {u : State} {ns : List Nat} (hu : slowNext sensor.toNat (advance t s) = u) (hn : groupsMeasured (advance t s) sensor.toNat counts = ns)
include hslow hd hu hn

theorem execTouchSlowScan_due :
    execTouchSlowScan t sensor counts s =
      if (tsOf (advance t s) sensor.toNat).groups.isEmpty then .next (setTs sensor.toNat (fun r => { r with groups := ns.map (fun n => (n, 0, 0)) }) u)
      else if wakeHit u sensor.toNat (groupCount (advance t s) sensor.toNat) (tsOf (advance t s) sensor.toNat).groups ns then
        .next (touchWake (resumeScans sensor.toNat (setTState sensor.toNat 2 u)))
      else .next (setTs sensor.toNat (fun r => { r with groups := adaptGroups (fld u (Reg.TCH_Sk_TRACK sensor.toNat) Fld.TCH_Sk_TRACK_ADAPT_SCANS) r.groups ns }) u) := by
  subst hu hn
  exact if_pos ⟨hslow, hd⟩

/-- The first slow scan sets the groups' baselines. -/
theorem execTouchSlowScan_first (hg : (tsOf (advance t s) sensor.toNat).groups = []) :
    execTouchSlowScan t sensor counts s = .next (setTs sensor.toNat (fun r => { r with groups := ns.map (fun n => (n, 0, 0)) }) u) :=
  (execTouchSlowScan_due hslow hd hu hn).trans (if_pos (List.isEmpty_iff.2 hg))

variable (hg : (tsOf (advance t s) sensor.toNat).groups ≠ [])
include hg

theorem execTouchSlowScan_wakes (hh : wakeHit u sensor.toNat (groupCount (advance t s) sensor.toNat) (tsOf (advance t s) sensor.toNat).groups ns = true) :
    execTouchSlowScan t sensor counts s = .next (touchWake (resumeScans sensor.toNat (setTState sensor.toNat 2 u))) :=
  (execTouchSlowScan_due hslow hd hu hn).trans ((if_neg (mt List.isEmpty_iff.1 hg)).trans (if_pos hh))

theorem execTouchSlowScan_adapts (hh : wakeHit u sensor.toNat (groupCount (advance t s) sensor.toNat) (tsOf (advance t s) sensor.toNat).groups ns = false) :
    execTouchSlowScan t sensor counts s =
      .next (setTs sensor.toNat (fun r => { r with groups := adaptGroups (fld u (Reg.TCH_Sk_TRACK sensor.toNat) Fld.TCH_Sk_TRACK_ADAPT_SCANS) r.groups ns }) u) :=
  (execTouchSlowScan_due hslow hd hu hn).trans ((if_neg (mt List.isEmpty_iff.1 hg)).trans (if_neg (ne_true_of_eq_false hh)))

end

end

/-! #### Calibration (R455) -/

section
variable {flashOk : Bool}

theorem execTouchCalibrationDone_none (hc : (tsOf (advance t s) sensor.toNat).cal = none) :
    execTouchCalibrationDone t sensor flashOk s = .next (advance t s) := by
  simp only [execTouchCalibrationDone, hc]

/-- The calibration of a sensor is over. -/
def calOff (k : Nat) (s : State) : State := setTs k (fun r => { r with cal := none }) s

/-- Every request that waits for a calibration answered. -/
def calTold (c : TouchCal) (pay : List Byte) (s : State) : State := c.ports.foldl (fun s p => finishLong p pay s) s

/-- The baselines of the 64 scans of a calibration. -/
def calBases (c : TouchCal) : List Nat := c.sums.map (fun x => x / 64)

/-- The baselines in effect and the sensor back in RUN. -/
def calTaken (k : Nat) (c : TouchCal) (s : State) : State := setTState k 2 (calOff k (setBases k (calBases c) s))

/-- The channels that answer: never overrange and of a baseline of 16 or more. -/
def calAnswering (c : TouchCal) : Nat :=
  ((List.range (calBases c).length).filter (fun i => !(c.exceeded.contains i) && decide (16 ≤ (calBases c).getD i 0))).length

/-- The reply of a calibration that succeeds: its profile's CRC and its channels. -/
def calReply (s : State) (k : Nat) (c : TouchCal) : List Byte :=
  stDone (le 4 (crc32c (profileBytes s k (calBases c))) ++ le 2 (calAnswering c) ++ le 2 0)

/-- The profile stored in flash and loaded. -/
def calStored (k : Nat) (p : List Byte) (s : State) : State := loadProfile k p (flashPut (0x20000 + 0x1000 * k) 0x1000 (p ++ le 4 (crc32c p)) s)

section
variable {c : TouchCal} (hc : (tsOf (advance t s) sensor.toNat).cal = some c)
include hc

theorem execTouchCalibrationDone_disabled (hs : tState (advance t s) sensor.toNat ≠ 5) :
    execTouchCalibrationDone t sensor flashOk s = .next (calTold c (stOff .paramInvalid 0) (calOff sensor.toNat (advance t s))) := by
  simp only [execTouchCalibrationDone, hc, if_pos hs, calTold, calOff]

variable (hs : tState (advance t s) sensor.toNat = 5)
include hs

theorem execTouchCalibrationDone_contact (hk : c.contact = true) :
    execTouchCalibrationDone t sensor flashOk s = .next (calTold c (stOnly .sensorContact) (setTState sensor.toNat 2 (calOff sensor.toNat (advance t s)))) := by
  simp only [execTouchCalibrationDone, hc, hs, hk, ne_eq, not_true, if_true, if_false, calTold, calOff]

variable (hk : c.contact = false)
include hk

theorem execTouchCalibrationDone_early (hn : c.scans < 64) : execTouchCalibrationDone t sensor flashOk s = .next (advance t s) := by
  simp only [execTouchCalibrationDone, hc, hs, hk, hn, ne_eq, not_true, Bool.false_eq_true, if_true, if_false]

variable (hn : 64 ≤ c.scans)
include hn

theorem execTouchCalibrationDone_flashError (hst : c.store = true) :
    execTouchCalibrationDone t sensor false s = .next (calTold c (stOnly .flashError) (calTaken sensor.toNat c (advance t s))) := by
  simp only [execTouchCalibrationDone, hc, hs, hk, Nat.not_lt.2 hn, hst, ne_eq, not_true, and_self, Bool.false_eq_true, if_true, if_false, calTold, calTaken, calOff, calBases]

theorem execTouchCalibrationDone_unstored (hst : c.store = false) :
    execTouchCalibrationDone t sensor flashOk s = .next (calTold c (calReply (advance t s) sensor.toNat c) (calTaken sensor.toNat c (advance t s))) := by
  unfold calReply calAnswering calTold calTaken calOff calBases
  simp only [execTouchCalibrationDone, hc, hs, hk, Nat.not_lt.2 hn, hst, ne_eq, not_true, false_and, Bool.false_eq_true, if_false]

theorem execTouchCalibrationDone_stored (hst : c.store = true) :
    execTouchCalibrationDone t sensor true s = .next (calTold c (calReply (advance t s) sensor.toNat c)
      (calStored sensor.toNat (profileBytes (advance t s) sensor.toNat (calBases c)) (calTaken sensor.toNat c (advance t s)))) := by
  unfold calReply calAnswering calStored calTold calTaken calOff calBases
  simp only [execTouchCalibrationDone, hc, hs, hk, Nat.not_lt.2 hn, hst, ne_eq, not_true, and_false, Bool.false_eq_true, Bool.true_eq_false, if_true, if_false]

end

end

end

/-- Settles O46: each event is a choice by the sensor's state and record, and each clause is the branch that its hypothesis selects. -/
theorem touchEventsComplete : Obligations.TouchEventsComplete := by
  intro t s sensor h k r
  refine ⟨execTouchScanStart_waits, fun hon hfast hd => ⟨execTouchScanStart_skips hon hfast hd rfl, execTouchScanStart_starts hon hfast hd rfl⟩,
    fun _ => execTouchScanEnd_none, fun counts m hb => ?scanEnd, fun _ => execTouchStuckRelease_none, fun _ _ => execTouchStuckRelease_due,
    execTouchEnterSlow_awake, execTouchEnterSlow_due, fun _ => execTouchSlowScan_waits, fun _ hslow hd => ?slow,
    fun _ => execTouchCalibrationDone_none, fun c ok hc => ?calibration⟩
  case scanEnd =>
    have hend := execTouchScanEnd_busy (counts := counts) hb
    exact ⟨fun hs => hend.trans (congrArg _ (scanStep_profile hs)), fun hs => hend.trans (congrArg _ (scanStep_calibrating hs)),
      fun hs => hend.trans (congrArg _ (scanStep_run hs)), fun hs => hend.trans (congrArg _ (scanStep_none hs))⟩
  case slow =>
    exact ⟨execTouchSlowScan_first hslow hd rfl rfl, execTouchSlowScan_wakes hslow hd rfl rfl, execTouchSlowScan_adapts hslow hd rfl rfl⟩
  case calibration =>
    refine ⟨execTouchCalibrationDone_disabled hc, execTouchCalibrationDone_contact hc, execTouchCalibrationDone_early hc, fun hs hk hn hst hok => ?lost,
      execTouchCalibrationDone_unstored hc, fun hs hk hn hst hok => ?kept⟩
    case lost =>
      subst hok
      exact execTouchCalibrationDone_flashError hc hs hk hn hst
    case kept =>
      subst hok
      exact execTouchCalibrationDone_stored hc hs hk hn hst

end Sys2Proof.Proofs

namespace Sys2Proof.Proofs

open Sys2Proof Sys2Proof.Machine Sys2Proof.Laws

/-! ### Haptics (R466 to R469, R472 to R476)

Most events act on the state `accountHap n (advance t s)`: the command's tick is reached and the channel's budget accounted up to it. -/

/-- What lets the first effect of a channel start: its instant has come, and no brake, calibration, fault, disable or spent budget stands against it (R467, R473). -/
def driveFree (a : State) (n : Nat) (e : Effect) : Prop :=
  e.s0 ≤ a.gtb ∧ (hapOf a n).brake = none ∧ (hapOf a n).cal = none ∧ hapState a n ≠ 5 ∧ hapOn a n = true ∧ budgetSpent (hapOf a n) = false

theorem not_driveFree_iff {a : State} {n : Nat} {e : Effect} :
    ¬driveFree a n e ↔ a.gtb < e.s0 ∨ (hapOf a n).brake.isSome ∨ (hapOf a n).cal.isSome ∨ hapState a n = 5 ∨ hapOn a n = false ∨ budgetSpent (hapOf a n) := by
  simp only [driveFree, Classical.not_and_iff_not_or_not, Nat.not_le, Option.isSome_iff_ne_none, ne_eq, Classical.not_not, Bool.not_eq_true, Bool.not_eq_false]

/-- Does braking end with the unit that is over (R469): 12 ms are gone, the motion is small, or the units are used? -/
def brakeLast (a : State) (n : Nat) (peak : Nat) (b : BrakeRec) : Prop :=
  b.began + 2400000 ≤ a.gtb ∨ peak < getF ((hapOf a n).lim.getD 2 0) Fld.HAP_Cn_BRAKE_BRAKE_STOP ∨ b.eff.brakeMax ≤ b.unit + 1

/-- Does each of four consecutive samples reach the current limit (R474)? -/
def overLimit (a : State) (n : Nat) (cs : List (BitVec 12)) : Prop := ∀ c ∈ cs, getF ((hapOf a n).lim.getD 0 0) Fld.HAP_Cn_LIMIT_I_LIMIT ≤ codeAbs c

theorem overLimit_iff {a : State} {n : Nat} {cs : List (BitVec 12)} :
    cs.all (fun c => decide (getF ((hapOf a n).lim.getD 0 0) Fld.HAP_Cn_LIMIT_I_LIMIT ≤ codeAbs c)) = true ↔ overLimit a n cs := by
  simp only [overLimit, List.all_eq_true, decide_eq_true_eq]

section
variable {t : Tick} {s : State} {channel : BitVec 4}

section
variable {a : State} (ha : accountHap channel.toNat (advance t s) = a)
include ha

/-! #### A drive begins -/

theorem execHapticDriveBegin_none (hq : (hapOf a channel.toNat).queue = []) : execHapticDriveBegin t channel s = .next a := by
  subst ha
  simp only [execHapticDriveBegin, hq]

section
variable {e : Effect} {rest : List Effect} (hq : (hapOf a channel.toNat).queue = e :: rest)
include hq

theorem execHapticDriveBegin_waits (hf : ¬driveFree a channel.toNat e) : execHapticDriveBegin t channel s = .next a := by
  rw [not_driveFree_iff] at hf
  subst ha
  simp only [execHapticDriveBegin, hq, if_pos hf]

/-- A drive in progress is superseded; without braking to do the next begins at once (R467, R468). -/
theorem execHapticDriveBegin_begins (hf : driveFree a channel.toNat e) (hb : (hapOf (endDrive channel.toNat a) channel.toNat).brake = none) :
    execHapticDriveBegin t channel s = .next (beginDrive channel.toNat e (endDrive channel.toNat a)) := by
  have hgoes := mt not_driveFree_iff.2 (not_not_intro hf)
  subst ha
  simp only [execHapticDriveBegin, hq, if_neg hgoes, hb, Option.isSome_none, Bool.false_eq_true, if_false]

end

/-! #### The budget is spent (R473) -/

section
variable {e : Effect} {b : Tick} (hd : (hapOf a channel.toNat).drive = some (e, b))
include hd

theorem execHapticBudgetSpent_spent (hb : budgetSpent (hapOf a channel.toNat) = true) :
    execHapticBudgetSpent t channel s = .next (limitEnd channel.toNat 4 e.id Fld.HAP_Cn_STAT_LIMIT_BUDGET a) := by
  subst ha
  simp only [execHapticBudgetSpent, hd, if_pos hb]

theorem execHapticBudgetSpent_left (hb : budgetSpent (hapOf a channel.toNat) = false) : execHapticBudgetSpent t channel s = .next a := by
  subst ha
  simp only [execHapticBudgetSpent, hd, if_neg (ne_true_of_eq_false hb)]

end

/-! #### Braking (R469) -/

section
variable {peak : BitVec 12}

theorem execBrakingUnitEnd_none (hb : (hapOf a channel.toNat).brake = none) : execBrakingUnitEnd t channel peak s = .next a := by
  subst ha
  simp only [execBrakingUnitEnd, hb]

section
variable {b : BrakeRec} (hb : (hapOf a channel.toNat).brake = some b)
include hb

theorem execBrakingUnitEnd_early (hu : a.gtb < b.unitAt + b.ub) (hc : a.gtb < b.began + 2400000) : execBrakingUnitEnd t channel peak s = .next a := by
  subst ha
  simp only [execBrakingUnitEnd, hb, hu, decide_eq_false (Nat.not_le.2 hc), and_self, if_true]

variable (hu : b.unitAt + b.ub ≤ a.gtb)
include hu

theorem execBrakingUnitEnd_last (hl : brakeLast a channel.toNat peak.toNat b) :
    execBrakingUnitEnd t channel peak s = .next (restState channel.toNat (setHap channel.toNat (fun r => { r with brake := none }) a)) := by
  unfold brakeLast at hl
  subst ha
  simp only [execBrakingUnitEnd, hb, Nat.not_lt.2 hu, false_and, if_false, decide_eq_true_eq, if_pos hl]

theorem execBrakingUnitEnd_next (hl : ¬brakeLast a channel.toNat peak.toNat b) :
    execBrakingUnitEnd t channel peak s = .next (setHap channel.toNat
      (fun r => { r with brake := some { b with unit := b.unit + 1, unitAt := b.unitAt + b.ub, rev := if b.erm then b.rev else !b.rev } }) a) := by
  unfold brakeLast at hl
  subst ha
  simp only [execBrakingUnitEnd, hb, Nat.not_lt.2 hu, false_and, if_false, decide_eq_true_eq, if_neg hl]

end

end

/-! #### Overcurrent (R474) -/

section
variable {c0 c1 c2 c3 : BitVec 12}

theorem execOvercurrent_none (hd : (hapOf a channel.toNat).drive = none) (hb : (hapOf a channel.toNat).brake = none) :
    execOvercurrent t channel c0 c1 c2 c3 s = .next a := by
  subst ha
  simp only [execOvercurrent, hd, hb]

section
variable {e : Effect} {b : Tick} (hd : (hapOf a channel.toNat).drive = some (e, b))
include hd

theorem execOvercurrent_below (hl : ¬overLimit a channel.toNat [c0, c1, c2, c3]) : execOvercurrent t channel c0 c1 c2 c3 s = .next a := by
  rw [← overLimit_iff] at hl
  subst ha
  simp only [execOvercurrent, hd, if_neg hl]

/-- The drive or brake of a channel cut off at once. -/
def cutOff (n : Nat) (a : State) : State := setHap n (fun r => { r with drive := none, brake := none, lastEnd := some a.gtb }) a

theorem execOvercurrent_fault (hl : overLimit a channel.toNat [c0, c1, c2, c3]) {u : State} (hu : cutOff channel.toNat a = u) (hon : hapOn u channel.toNat = true) :
    execOvercurrent t channel c0 c1 c2 c3 s = .next (hapEvent channel.toNat 5 0 e.id
      (wrB (Reg.HAP_Cn_STAT channel.toNat) Fld.HAP_Cn_STAT_OVERCURRENT true (setHapState channel.toNat 5 u))) := by
  rw [← overLimit_iff] at hl
  subst hu ha
  unfold cutOff at *
  simp only [execOvercurrent, hd, if_pos hl, if_pos hon]

end

end

end

/-! #### A drive ends (R466, R472) -/

theorem execHapticDriveEnd_none (hd : (hapOf (advance t s) channel.toNat).drive = none) : execHapticDriveEnd t channel s = .next (advance t s) := by
  simp only [execHapticDriveEnd, hd]

theorem execHapticOnMax_none (hd : (hapOf (advance t s) channel.toNat).drive = none) : execHapticOnMax t channel s = .next (advance t s) := by
  simp only [execHapticOnMax, hd]

/-- ON_MAX of a channel in ticks (R472). -/
def onMax (s : State) (n : Nat) : Nat := 200000 * getF ((hapOf s n).lim.getD 0 0) Fld.HAP_Cn_LIMIT_ON_MAX

section
variable {e : Effect} {b : Tick} (hd : (hapOf (advance t s) channel.toNat).drive = some (e, b))
include hd

theorem execHapticDriveEnd_due (hl : b + e.len ≤ (advance t s).gtb) : execHapticDriveEnd t channel s = .next (endDrive channel.toNat (advance t s)) := by
  simp only [execHapticDriveEnd, hd, if_pos hl]

theorem execHapticDriveEnd_early (hl : (advance t s).gtb < b + e.len) : execHapticDriveEnd t channel s = .next (advance t s) := by
  simp only [execHapticDriveEnd, hd, if_neg (Nat.not_le.2 hl)]

theorem execHapticOnMax_reached (hm : onMax (advance t s) channel.toNat < e.len) (hl : b + onMax (advance t s) channel.toNat ≤ (advance t s).gtb) :
    execHapticOnMax t channel s = .next (limitEnd channel.toNat 3 e.id Fld.HAP_Cn_STAT_LIMIT_ON (advance t s)) := by
  unfold onMax at *
  simp only [execHapticOnMax, hd, if_pos (And.intro hm hl)]

/-- A drive no longer than ON_MAX ends by itself (R472). -/
theorem execHapticOnMax_within (hm : e.len ≤ onMax (advance t s) channel.toNat) : execHapticOnMax t channel s = .next (advance t s) := by
  unfold onMax at hm
  simp only [execHapticOnMax, hd, Nat.not_lt.2 hm, false_and, if_false]

end

/-! #### Calibration (R475, R476) -/

section
variable {amps : List (BitVec 12)} {crossings : List Tick}

theorem execHapticCalibrationDone_none (hc : (hapOf (advance t s) channel.toNat).cal = none) :
    execHapticCalibrationDone t channel amps crossings s = .next (advance t s) := by
  simp only [execHapticCalibrationDone, hc]

/-- How the calibration of an LRA ends by its sweep and its ring-down (R475). -/
def lraResult (s : State) (n : Nat) (amps : List (BitVec 12)) (crossings : List Tick) : Nat × Nat × Nat :=
  calResult false (fld s (Reg.HAP_Cn_CAL0 n) Fld.HAP_Cn_CAL0_F_LO) (fld s (Reg.HAP_Cn_CAL0 n) Fld.HAP_Cn_CAL0_F_HI)
    (fld s (Reg.HAP_Cn_CAL1 n) Fld.HAP_Cn_CAL1_CAL_MIN) (amps.map BitVec.toNat) crossings

section
variable {began : Tick} {hp fr bad : Nat} (hc : (hapOf (advance t s) channel.toNat).cal = some (none, began))
  (hb : (hapOf (advance t s) channel.toNat).brake = none) (he : isErm (advance t s) channel.toNat = false)
  (hr : lraResult (advance t s) channel.toNat amps crossings = (hp, fr, bad))
  {u : State} (hu : setHap channel.toNat (fun r => { r with cal := none }) (advance t s) = u)
include hc hb he hr hu

theorem execHapticCalibrationDone_ends :
    execHapticCalibrationDone t channel amps crossings s = .next (if bad = 0 then
        hapEvent channel.toNat 1 0 0 (setHapState channel.toNat 2 (showCal channel.toNat (setHap channel.toNat (fun r => { r with lra := some (hp, fr) }) u)))
      else hapEvent channel.toNat 2 bad 0
        (wrB (Reg.HAP_Cn_STAT channel.toNat) Fld.HAP_Cn_STAT_CAL_FAIL true (setHapState channel.toNat 5 u))) := by
  have hkind : isErm u channel.toNat = false := by
    subst hu
    exact he
  unfold lraResult at hr
  simp only [execHapticCalibrationDone, hc, hb, he, hr, hu, hkind, Option.isSome_none, Bool.false_eq_true, false_and, or_self, if_false]
  split <;> rfl

end

end

end

/-- Settles O47: each event is a choice by the channel's record at its tick, and each clause is the branch that its hypothesis selects. -/
theorem hapticEventsComplete : Obligations.HapticEventsComplete := by
  intro t s channel h n a
  refine ⟨rfl, execHapticDriveBegin_none rfl, fun e rest hq => ⟨execHapticDriveBegin_waits rfl hq, execHapticDriveBegin_begins rfl hq⟩,
    fun hd => ⟨execHapticDriveEnd_none hd, execHapticOnMax_none hd⟩,
    fun e b hd => ⟨execHapticDriveEnd_due hd, execHapticDriveEnd_early hd, execHapticOnMax_reached hd, execHapticOnMax_within hd⟩,
    fun e b hd => ⟨execHapticBudgetSpent_spent rfl hd, execHapticBudgetSpent_left rfl hd⟩,
    fun _ => execBrakingUnitEnd_none rfl,
    fun peak b hb => ⟨execBrakingUnitEnd_early rfl hb, execBrakingUnitEnd_last rfl hb, execBrakingUnitEnd_next rfl hb⟩,
    fun _ _ _ _ => execOvercurrent_none rfl,
    fun c0 c1 c2 c3 e b hd => ⟨execOvercurrent_below rfl hd, fun hl => execOvercurrent_fault rfl hd hl rfl⟩,
    fun _ _ => execHapticCalibrationDone_none, fun amps cr began hp fr bad hc hb he hr => ⟨fun hgood => ?ready, fun hbad => ?fails⟩⟩
  case ready => exact (execHapticCalibrationDone_ends hc hb he hr rfl).trans (congrArg _ (if_pos hgood))
  case fails => exact (execHapticCalibrationDone_ends hc hb he hr rfl).trans (congrArg _ (if_neg hbad))

end Sys2Proof.Proofs

namespace Sys2Proof.Proofs

open Sys2Proof Sys2Proof.Machine Sys2Proof.Laws

/-! ### Audio (R484, R485, R496, R504 to R507) -/

section
variable {t : Tick} {s : State}

/-! #### Frame boundaries and the attention tone -/

theorem execAudioFrameBoundary_early {ext : List (List Word)} {missed : BitVec 32} (hd : boundaryDue (advance t s) = false) :
    execAudioFrameBoundary t ext missed s = .next (advance t s) := by
  simp only [execAudioFrameBoundary, hd, Bool.false_eq_true, if_false]

/-- The order of a frame boundary (R485): the writes that waited, in the state with the gains stepped; then the tone's frame; then the streams. -/
def boundaryWrites (h : State) : State :=
  (setAud stepGains (nextBoundary h)).aud.writes.foldl applyAud (setAud (fun x => { x with writes := [] }) (setAud stepGains (nextBoundary h)))

def boundaryStreams (missed : Nat) (b : State) : State :=
  (List.range 32).foldl (streamBoundary missed) (toneFrame ((List.range 11).foldl refreshSink b))

theorem execAudioFrameBoundary_due {ext : List (List Word)} {missed : BitVec 32} (hd : boundaryDue (advance t s) = true) :
    execAudioFrameBoundary t ext missed s = .next (writebackFrame ((List.range 11).foldl sinkFrame
      ((List.range 10).foldl (inputBoundary ext) (boundaryStreams missed.toNat (boundaryWrites (advance t s)))))) := by
  simp only [execAudioFrameBoundary, hd, if_true, boundaryStreams, boundaryWrites]

section
variable {r : ToneRec} (hr : (advance t s).aud.tone = some r)
include hr

theorem execAttentionEnd_sounding (hd : r.done = false) : execAttentionEnd t s = .next (advance t s) := by
  simp only [execAttentionEnd, hr, hd, Bool.false_eq_true, if_false]

theorem execAttentionEnd_done (hd : r.done = true) :
    execAttentionEnd t s = .next ((List.range 11).foldl refreshSink ((advance t s).aud.heldOff.foldl
      (fun (s : State) (k : Nat) => wrB (Reg.AUD_Kk_CTRL k) Fld.AUD_Kk_CTRL_ENABLE false s)
      (wrB Reg.AUD_ATT_STAT Fld.AUD_ATT_STAT_SOUNDING false (setAud (fun a => { a with tone := none, toneNow := (0, 0), heldOff := [] }) (advance t s))))) := by
  simp only [execAttentionEnd, hr, hd, if_true]

end

/-! #### The clock of a TDM port -/

section
variable {port : BitVec 3}

/-- Is a TDM port enabled as a slave? -/
def tdmSlave (h : State) (n : Nat) : Prop :=
  flg h (Reg.AUD_TDMn_FMT n) Fld.AUD_TDMn_FMT_EN = true ∧ flg h (Reg.AUD_TDMn_FMT n) Fld.AUD_TDMn_FMT_MASTER = false

theorem tdmSlave_iff {h : State} {n : Nat} :
    (getB (rd h (Reg.AUD_TDMn_FMT n)) Fld.AUD_TDMn_FMT_EN && !getB (rd h (Reg.AUD_TDMn_FMT n)) Fld.AUD_TDMn_FMT_MASTER) = true ↔ tdmSlave h n := by
  simp only [tdmSlave, flg, Bool.and_eq_true, Bool.not_eq_true']

theorem execTdmClockLoss_lost (hs : tdmSlave (advance t s) port.toNat) (hc : flg (advance t s) (Reg.AUD_Ie_STAT port.toNat) Fld.AUD_Ie_STAT_NO_CLOCK = false) :
    ∃ w, execTdmClockLoss t port s = .next (wr (Reg.AUD_Ie_STAT port.toNat) w (advance t s)) ∧ getB w Fld.AUD_Ie_STAT_NO_CLOCK = true := by
  have hlost := tdmSlave_iff.2 hs
  exact ⟨_, if_pos (by simp only [hlost, hc, Bool.not_false, Bool.and_self]), getB_setB_same _ _ (by decide) (by decide)⟩

theorem execTdmClockLoss_again (hc : flg (advance t s) (Reg.AUD_Ie_STAT port.toNat) Fld.AUD_Ie_STAT_NO_CLOCK = true) :
    execTdmClockLoss t port s = .next (advance t s) := by
  simp only [execTdmClockLoss, hc, Bool.not_true, Bool.and_false, Bool.false_eq_true, if_false]

theorem execTdmClockLoss_noSlave (hs : ¬tdmSlave (advance t s) port.toNat) : execTdmClockLoss t port s = .next (advance t s) := by
  simp only [execTdmClockLoss, Bool.eq_false_iff.2 (mt tdmSlave_iff.1 hs), Bool.false_and, Bool.false_eq_true, if_false]

variable {rate : BitVec 18}

theorem execTdmClockReturn_slave (hs : tdmSlave (advance t s) port.toNat) :
    execTdmClockReturn t port rate s = .next (wrB (Reg.AUD_Ie_STAT port.toNat) Fld.AUD_Ie_STAT_NO_CLOCK false
      (wrF (Reg.AUD_TDMn_PSTAT port.toNat) Fld.AUD_TDMn_PSTAT_RATE rate.toNat (advance t s))) := by
  simp only [execTdmClockReturn, tdmSlave_iff.2 hs, if_true]

theorem execTdmClockReturn_noSlave (hs : ¬tdmSlave (advance t s) port.toNat) : execTdmClockReturn t port rate s = .next (advance t s) := by
  simp only [execTdmClockReturn, Bool.eq_false_iff.2 (mt tdmSlave_iff.1 hs), Bool.false_eq_true, if_false]

end

/-! #### Headsets -/

section
variable {port : BitVec 1} {since : Tick}

/-- The debounce time of a headset's detection switch, in ticks (R505). -/
def debounce (h : State) (n : Nat) : Nat := 200000 * fld h (Reg.AUD_HSn_DET n) Fld.AUD_HSn_DET_DET_DEB

theorem execHeadsetInsertConfirm_waits (hw : hsLive (advance t s) port.toNat = false ∨ (advance t s).gtb < since + debounce (advance t s) port.toNat) :
    execHeadsetInsertConfirm t port since s = .next (advance t s) := by
  unfold debounce at hw
  rcases hw with hl | hg
  · simp only [execHeadsetInsertConfirm, hl, Bool.false_and, Bool.false_eq_true, if_false]
  · simp only [execHeadsetInsertConfirm, decide_eq_false (Nat.not_le.2 hg), Bool.and_false, Bool.false_and, Bool.false_eq_true, if_false]

theorem execHeadsetInsertConfirm_inserted (hl : hsLive (advance t s) port.toNat = true) (hg : since + debounce (advance t s) port.toNat ≤ (advance t s).gtb)
    (hp : flg (advance t s) (Reg.AUD_HSn_STAT port.toNat) Fld.AUD_HSn_STAT_PLUGGED = false) :
    execHeadsetInsertConfirm t port since s = .next (setHsStat port.toNat true true 0 7
      (setHs port.toNat (fun h => { h with since := since, removing := none }) (advance t s))) := by
  unfold debounce at hg
  simp only [execHeadsetInsertConfirm, hl, hg, hp, decide_true, Bool.not_false, Bool.true_or, Bool.and_self, if_true]

theorem execHeadsetTypeMeasured_measured {r2 sl : BitVec 24} (hl : hsLive (advance t s) port.toNat = true)
    (hm : flg (advance t s) (Reg.AUD_HSn_STAT port.toNat) Fld.AUD_HSn_STAT_MEASURING = true) :
    execHeadsetTypeMeasured t port r2 sl s = .next (hsEvent port.toNat 1 (headsetType r2.toNat sl.toNat) (hsOf (advance t s) port.toNat).since
      (setHsStat port.toNat true false (headsetType r2.toNat sl.toNat) 7 (advance t s))) := by
  simp only [execHeadsetTypeMeasured, hl, hm, Bool.and_self, if_true]

theorem execHeadsetRemoval_unplugged (hp : flg (advance t s) (Reg.AUD_HSn_STAT port.toNat) Fld.AUD_HSn_STAT_PLUGGED = false) :
    execHeadsetRemoval t port since s = .next (advance t s) := by
  simp only [execHeadsetRemoval, hp, Bool.and_false, Bool.false_eq_true, if_false]

/-- A headset whose removal has been seen at `since`: outputs clamped, nothing measured, the removal not yet confirmed. -/
def removalSeen (n : Nat) (since : Tick) (h : State) : State := setHs n (fun r => { r with removing := some since }) (setHsStat n true false 0 7 h)

section
variable (hl : hsLive (advance t s) port.toNat = true) (hp : flg (advance t s) (Reg.AUD_HSn_STAT port.toNat) Fld.AUD_HSn_STAT_PLUGGED = true)
  {u : State} (hu : removalSeen port.toNat since (advance t s) = u)
include hl hp hu

theorem execHeadsetRemoval_bounces (hg : (advance t s).gtb < since + debounce u port.toNat) : execHeadsetRemoval t port since s = .next u := by
  subst hu
  unfold debounce at hg
  unfold removalSeen at *
  simp only [execHeadsetRemoval, hl, hp, Bool.and_self, if_true]
  exact if_neg (Nat.not_le.2 hg)

theorem execHeadsetRemoval_removed (hm : flg (advance t s) (Reg.AUD_HSn_STAT port.toNat) Fld.AUD_HSn_STAT_MEASURING = false)
    (hg : since + debounce u port.toNat ≤ (advance t s).gtb) :
    execHeadsetRemoval t port since s =
      .next (hsEvent port.toNat 2 0 since (setHs port.toNat (fun h => { h with removing := none }) (setHsStat port.toNat false false 0 7 u))) := by
  subst hu
  unfold debounce at hg
  unfold removalSeen at *
  simp only [execHeadsetRemoval, hl, hp, hm, Bool.and_self, if_true, Bool.false_eq_true, if_false]
  exact if_pos hg

end

section
variable {ohms : BitVec 24} {old : Nat} (ho : fld (advance t s) (Reg.AUD_HSn_STAT port.toNat) Fld.AUD_HSn_STAT_BUTTON = old)
include ho

theorem execHeadsetButtonConfirm_same (hb : buttonBand (advance t s) port.toNat ohms.toNat = old) :
    execHeadsetButtonConfirm t port ohms since s = .next (advance t s) := by
  unfold fld at ho
  simp only [execHeadsetButtonConfirm, ho, hb, bne_self_eq_false, Bool.and_false, Bool.false_and, Bool.false_eq_true, if_false]

theorem execHeadsetButtonConfirm_pressed (hl : hsLive (advance t s) port.toNat = true) {ty : Nat}
    (ht : fld (advance t s) (Reg.AUD_HSn_STAT port.toNat) Fld.AUD_HSn_STAT_TYPE = ty) (hty : ty = 2 ∨ ty = 3) (hold : old = 7)
    (hb : buttonBand (advance t s) port.toNat ohms.toNat ≠ 7)
    (hg : since + 200000 * fld (advance t s) (Reg.AUD_HSn_DET port.toNat) Fld.AUD_HSn_DET_BTN_DEB ≤ (advance t s).gtb) :
    execHeadsetButtonConfirm t port ohms since s = .next (hsEvent port.toNat 3 (buttonBand (advance t s) port.toNat ohms.toNat) since
      (wrF (Reg.AUD_HSn_STAT port.toNat) Fld.AUD_HSn_STAT_BUTTON (buttonBand (advance t s) port.toNat ohms.toNat) (advance t s))) := by
  have hbuttons : (ty == 2 || ty == 3) = true := by simpa using hty
  subst hold
  unfold fld at ho ht
  simp only [execHeadsetButtonConfirm, hl, ho, ht, hbuttons, bne_iff_ne.2 hb, decide_eq_true hg, Bool.and_self, if_true, if_neg hb]

end

end

end

/-- Settles O48: each event of the audio block under conditions on the state. -/
theorem audioEventsComplete : Obligations.AudioEventsComplete := by
  intro t s
  refine ⟨?boundaryEarly, ?boundary, ?tone, ?tdm, ?headset⟩
  case boundaryEarly => exact fun _ _ hd => execAudioFrameBoundary_early hd
  case boundary => exact fun _ _ hd => execAudioFrameBoundary_due hd
  case tone => exact fun _ hr => ⟨execAttentionEnd_sounding hr, execAttentionEnd_done hr⟩
  case tdm =>
    exact fun _ _ => ⟨execTdmClockLoss_lost, execTdmClockLoss_again, execTdmClockReturn_slave,
      fun hs => ⟨execTdmClockLoss_noSlave hs, execTdmClockReturn_noSlave hs⟩⟩
  case headset =>
    intro port since
    refine ⟨execHeadsetInsertConfirm_waits, execHeadsetInsertConfirm_inserted, fun _ _ => execHeadsetTypeMeasured_measured, execHeadsetRemoval_unplugged,
      fun hl hp hm => ⟨execHeadsetRemoval_bounces hl hp rfl, execHeadsetRemoval_removed hl hp rfl hm⟩, fun _ => ⟨execHeadsetButtonConfirm_same rfl, ?_⟩⟩
    exact fun hl hty hold hb hg => execHeadsetButtonConfirm_pressed rfl hl rfl hty hold hb hg

end Sys2Proof.Proofs

namespace Sys2Proof.Proofs

open Sys2Proof Sys2Proof.Machine Sys2Proof.Laws

/-! ### DMA channels (R515, R516, R519) and check-value units (R527 to R529) -/

section
variable {t : Tick} {s : State}

section
variable {channel : BitVec 7}

/-! #### A set is loaded -/

theorem execDmaSetLoad_idle
    (h : flg (advance t s) (Reg.DMA_Cn_CTRL channel.toNat) Fld.DMA_Cn_CTRL_ENABLE = false ∨ nextSet (advance t s).gtb (dmaOf (advance t s) channel.toNat) = none) :
    execDmaSetLoad t channel s = .next (advance t s) := by
  rcases h with he | hx
  · simp only [execDmaSetLoad, he, if_true]
  · simp only [execDmaSetLoad, hx]
    split <;> rfl

section
variable {x : DmaSet} (he : flg (advance t s) (Reg.DMA_Cn_CTRL channel.toNat) Fld.DMA_Cn_CTRL_ENABLE = true)
  (hx : nextSet (advance t s).gtb (dmaOf (advance t s) channel.toNat) = some x)
include he hx

theorem execDmaSetLoad_begins (hr : (dmaOf (advance t s) channel.toNat).running = none) :
    execDmaSetLoad t channel s = .next (beginSet channel.toNat x (setDma channel.toNat (takeSet x) (advance t s))) := by
  simp only [execDmaSetLoad, if_neg (ne_false_of_eq_true he), hx, hr]

section
variable {y : DmaSet} (hr : (dmaOf (advance t s) channel.toNat).running = some y)
include hr

theorem execDmaSetLoad_takesPlace (hb : setBefore x y = true) (hs : (dmaOf (advance t s) channel.toNat).shadow = none) :
    execDmaSetLoad t channel s = .next (beginSet channel.toNat x (setDma channel.toNat (fun q => backSet y (takeSet x q)) (advance t s))) := by
  simp only [execDmaSetLoad, if_neg (ne_false_of_eq_true he), hx, hr, if_pos hb, hs]

theorem execDmaSetLoad_shadows (hb : setBefore x y = false) (hm : flg (advance t s) (Reg.DMA_Cn_CTRL channel.toNat) Fld.DMA_Cn_CTRL_MODE = true)
    (hs : (dmaOf (advance t s) channel.toNat).shadow = none) :
    execDmaSetLoad t channel s = .next (setDma channel.toNat (fun q => { takeSet x q with shadow := some x }) (advance t s)) := by
  simp only [execDmaSetLoad, if_neg (ne_false_of_eq_true he), hx, hr, if_neg (ne_true_of_eq_false hb), if_pos hm, hs]

theorem execDmaSetLoad_waits (hb : setBefore x y = false) (hm : flg (advance t s) (Reg.DMA_Cn_CTRL channel.toNat) Fld.DMA_Cn_CTRL_MODE = false) :
    execDmaSetLoad t channel s = .next (advance t s) := by
  simp only [execDmaSetLoad, if_neg (ne_false_of_eq_true he), hx, hr, if_neg (ne_true_of_eq_false hb), if_neg (ne_true_of_eq_false hm)]

end

end

/-! #### A set is done -/

theorem execDmaSetDone_none (hr : (dmaOf (advance t s) channel.toNat).running = none) : execDmaSetDone t channel s = .next (advance t s) := by
  simp only [execDmaSetDone, hr]

/-- The data of channel n's running set x in place, the count of moved bytes shown, and nothing running. -/
def setMoved (n : Nat) (x : DmaSet) (h : State) : State :=
  setDma n (fun r => { r with running := none }) (wr (Reg.DMA_Cn_MOVED n) (BitVec.ofNat 32 x.count) (dmaRun n x h))

/-- One more set counted in a field of DMA_Cn_SETS. -/
def countSet (n : Nat) (b : Bits) (s : State) : State := wrF (Reg.DMA_Cn_SETS n) b (fld s (Reg.DMA_Cn_SETS n) b + 1) s

/-- A set done as R519 and R523 say: a register set sets DONE and raises its source, a contracted one is delivered. -/
def setEnded (n : Nat) (x : DmaSet) (h : State) : State :=
  if x.isReg then
    raiseSource (obj 8 (0x200 + n)) (fld (setMoved n x h) (Reg.DMA_Cn_CTRL n) Fld.DMA_Cn_CTRL_VECTOR)
      (countSet n Fld.DMA_Cn_SETS_REGISTER (wrB (Reg.DMA_Cn_STAT n) Fld.DMA_Cn_STAT_DONE true (setMoved n x h)))
  else dmaDeliver x (ctxPoison h (dmaCtx h n x.dflags false) x.src x.count) (countSet n Fld.DMA_Cn_SETS_CONTRACTED (setMoved n x h))

section
variable {x : DmaSet} (hr : (dmaOf (advance t s) channel.toNat).running = some x) {e : State} (he : setEnded channel.toNat x (advance t s) = e)
include hr he

theorem execDmaSetDone_last (hs : (dmaOf e channel.toNat).shadow = none) : execDmaSetDone t channel s = .next e := by
  subst he
  unfold setEnded setMoved countSet at *
  simp only [execDmaSetDone, hr, hs]

theorem execDmaSetDone_follows {y : DmaSet} (hs : (dmaOf e channel.toNat).shadow = some y) :
    execDmaSetDone t channel s = .next (beginSet channel.toNat y (setDma channel.toNat (fun r => { r with shadow := none }) e)) := by
  subst he
  unfold setEnded setMoved countSet at *
  simp only [execDmaSetDone, hr, hs]

end

end

/-! #### Check-value units -/

section
variable {unit : BitVec 2}

section
variable {bytes : BitVec 31}

theorem execCvPaused_none (h : (cvOf (advance t s) unit.toNat).reg = none ∨ (cvOf (advance t s) unit.toNat).pause = false) :
    execCvPaused t unit bytes s = .next (advance t s) := by
  rcases h with hr | hp
  · simp only [execCvPaused, hr]
  · simp only [execCvPaused, hp, Bool.false_eq_true, false_and, if_false]
    split <;> rfl

section
variable {job : Nat × Nat × Nat × Bool × Option Nat} (hj : (cvOf (advance t s) unit.toNat).reg = some job)
include hj

theorem execCvPaused_pauses (hp : (cvOf (advance t s) unit.toNat).pause = true) (hb : bytes.toNat % 64 = 0 ∨ job.2.1 ≤ bytes.toNat) :
    execCvPaused t unit bytes s = .next (cvPauseAt unit.toNat job bytes.toNat (advance t s)) := by
  simp only [execCvPaused, hj, hp, hb, and_self, if_true]

theorem execCvPaused_midBlock (hm : bytes.toNat % 64 ≠ 0) (hl : bytes.toNat < job.2.1) : execCvPaused t unit bytes s = .next (advance t s) := by
  simp only [execCvPaused, hj, hm, Nat.not_le.2 hl, or_self, and_false, if_false]

end

end

theorem execCvJobDone_gated (hg : gateOn (advance t s) (0x21 + unit.toNat) = false) : execCvJobDone t unit s = .next (advance t s) := by
  simp only [execCvJobDone, hg, if_true]

section
variable (hg : gateOn (advance t s) (0x21 + unit.toNat) = true)
include hg

theorem execCvJobDone_contracted {j : CvJob} (hj : cvCurrent (advance t s).gtb (cvOf (advance t s) unit.toNat) = some j) :
    execCvJobDone t unit s = .next (cvJobDone unit.toNat j (advance t s)) := by
  simp only [execCvJobDone, if_neg (ne_false_of_eq_true hg), hj]

theorem execCvJobDone_register {job : Nat × Nat × Nat × Bool × Option Nat} (hc : cvCurrent (advance t s).gtb (cvOf (advance t s) unit.toNat) = none)
    (hj : (cvOf (advance t s) unit.toNat).reg = some job) : execCvJobDone t unit s = .next (cvRegDone unit.toNat job (advance t s)) := by
  simp only [execCvJobDone, if_neg (ne_false_of_eq_true hg), hc, hj]

end

end

end

/-- Settles O49: each event of a DMA channel and of a check-value unit under conditions on the state. -/
theorem dataMoverEventsComplete : Obligations.DataMoverEventsComplete := by
  intro t s channel unit
  refine ⟨execDmaSetLoad_idle, fun _ => execDmaSetLoad_begins, ?load, execDmaSetDone_none, ?done, ?pause, execCvJobDone_gated,
    fun _ hg => execCvJobDone_contracted hg, fun _ hg => execCvJobDone_register hg⟩
  case load => exact fun _ _ he hx hr => ⟨execDmaSetLoad_takesPlace he hx hr, execDmaSetLoad_shadows he hx hr, execDmaSetLoad_waits he hx hr⟩
  case done => exact fun _ hr => ⟨execDmaSetDone_last hr rfl, fun _ => execDmaSetDone_follows hr rfl⟩
  case pause => exact fun _ => ⟨execCvPaused_none, fun _ hj hp => ⟨execCvPaused_pauses hj hp, execCvPaused_midBlock hj⟩⟩

end Sys2Proof.Proofs

namespace Sys2Proof.Proofs

open Sys2Proof Sys2Proof.Machine Sys2Proof.Laws

/-! ### Clocks and power (R535 to R566) -/

section
variable {t : Tick} {s : State}

/-! #### CLKIN -/

section
variable (hc : clkinOk (advance t s) = true)
include hc

theorem execClkinLoss_lost : execClkinLoss t s = .next (clkinLoss (advance t s)) := by
  simp only [execClkinLoss, hc, if_true]

theorem execClkinReturn_present : execClkinReturn t s = .next (advance t s) := by
  simp only [execClkinReturn, hc, Bool.true_or, if_true]

end

/-- CLKIN shown good again, the loops relocking where the loss was marked (R541). -/
def clkinShown (h : State) : State :=
  wr Reg.CLK_STAT (setB (setB (rd h Reg.CLK_STAT) Fld.CLK_STAT_CLKIN_OK true) Fld.CLK_STAT_RELOCKING (flg h Reg.CLK_STAT Fld.CLK_STAT_CLK_LOST)) h

/-- The islands that run on CLKIN bypass, good again. -/
def bypassGood (u : State) : State :=
  [0, 1].foldl (fun (s : State) (n : Nat) => if fld s (Reg.CLK_ISLn n) Fld.CLK_ISLn_SRC = 1 then wrB (Reg.CLK_ISLn n) Fld.CLK_ISLn_GOOD true s else s) u

theorem execClkinLoss_again (hc : clkinOk (advance t s) = false) : execClkinLoss t s = .next (advance t s) := by
  simp only [execClkinLoss, hc, Bool.false_eq_true, if_false]

section
variable (hc : clkinOk (advance t s) = false) (hf : lossForced (advance t s) = false)
include hc hf

theorem execClkinReturn_releases (hr : (advance t s).pwr.inReset = true) (hh : (advance t s).pwr.thermalHold = false) :
    execClkinReturn t s = .next (releaseReset (clkinShown (advance t s))) := by
  have hshown : (clkinShown (advance t s)).pwr = (advance t s).pwr := rfl
  unfold clkinShown at *
  simp only [execClkinReturn, hc, hf, Bool.false_and, Bool.or_self, Bool.false_eq_true, if_false, hshown, hr, hh, Bool.not_false, Bool.and_self, if_true]

theorem execClkinReturn_runs (hr : (advance t s).pwr.inReset = false) : execClkinReturn t s = .next (bypassGood (clkinShown (advance t s))) := by
  have hshown : (clkinShown (advance t s)).pwr = (advance t s).pwr := rfl
  unfold clkinShown at *
  simp only [execClkinReturn, hc, hf, Bool.false_and, Bool.or_self, Bool.false_eq_true, if_false, hshown, hr, bypassGood]

end

/-! #### Loops -/

theorem execLoopsRelocked_none (h : clkinOk (advance t s) = false ∨ flg (advance t s) Reg.CLK_STAT Fld.CLK_STAT_RELOCKING = false) :
    execLoopsRelocked t s = .next (advance t s) :=
  if_neg (by simpa only [Bool.and_eq_true, Classical.not_and_iff_not_or_not, Bool.not_eq_true] using h)

/-- Every loop locked again and the relocking over. -/
def loopsBack (h : State) : State := wrB Reg.CLK_STAT Fld.CLK_STAT_RELOCKING false ((List.range 16).foldl relock h)

/-- The loss interval ended now and shown. -/
def lossEnded (a : State) : State := setLossRegs a.pwr.lossStart a.gtb (setPwr (fun p => { p with lossEnd := a.gtb }) a)

theorem execLoopsRelocked_relocked (hc : clkinOk (advance t s) = true) (hr : flg (advance t s) Reg.CLK_STAT Fld.CLK_STAT_RELOCKING = true)
    {u : State} (hu : lossEnded (loopsBack (advance t s)) = u) :
    execLoopsRelocked t s = .next (postPower (bit (flg u Reg.CLK_STAT Fld.CLK_STAT_FORCED)) 0xFFFF 6 0 u.pwr.lossStart u) := by
  subst hu
  unfold lossEnded loopsBack
  simp only [execLoopsRelocked, hc, hr, Bool.and_self, if_true]

/-- May an island's started loop lock: it has a source, its clock is neither good nor coasting, and CLKIN is there (R535)? -/
def mayLock (h : State) (n : Nat) : Prop :=
  n < 20 ∧ fld h (Reg.CLK_ISLn n) Fld.CLK_ISLn_SRC ≠ 0 ∧ isGood h n = false ∧ flg h (Reg.CLK_ISLn n) Fld.CLK_ISLn_COASTING = false ∧ clkinOk h = true

section
variable {island : BitVec 5}

theorem execLoopLock_locks (hm : mayLock (advance t s) island.toNat) :
    execLoopLock t island s = .next (noteGate island.toNat (islandGood island.toNat (advance t s))) :=
  if_pos hm

theorem execLoopLock_waits (hm : ¬mayLock (advance t s) island.toNat) : execLoopLock t island s = .next (advance t s) :=
  if_neg hm

end

/-! #### The shader island's switch (R543) -/

theorem execSourceSwitch_none (hn : (advance t s).pwr.shdNext = []) : execSourceSwitch t 2 s = .next (advance t s) := by
  simp only [execSourceSwitch, hn]
  rfl

/-- The shader island, on its loop of source 2, switched to source 3 at the frequency f; `rest` is still asked for. -/
def shaderSwitched (f : Nat) (rest : List Nat) (h : State) : State :=
  setPwr (fun p => { p with shdKhz := f, shdNext := rest })
    (wr (Reg.CLK_ISLn 2) (setF (setF (rd h (Reg.CLK_ISLn 2)) Fld.CLK_ISLn_FREQ_KHZ f) Fld.CLK_ISLn_SRC 3) h)

section
variable {f : Nat} {rest : List Nat} (hn : (advance t s).pwr.shdNext = f :: rest) (hs : fld (advance t s) (Reg.CLK_ISLn 2) Fld.CLK_ISLn_SRC = 2)
  {u : State} (hu : shaderSwitched f rest (advance t s) = u)
include hn hs hu

/-- The switch itself, the request that waits for it still to be answered. -/
theorem execSourceSwitch_switches :
    execSourceSwitch t 2 s = .next (match longPorts u 0x0B02 with | [] => u | x :: _ => finishLong x.2 (stDone (le 4 f)) u) := by
  subst hu
  unfold fld at hs
  unfold shaderSwitched
  simp only [execSourceSwitch, hn, hs, if_true]
  rfl

theorem execSourceSwitch_unasked (hp : longPorts u 0x0B02 = []) : execSourceSwitch t 2 s = .next u := by
  rw [execSourceSwitch_switches hn hs hu, hp]

theorem execSourceSwitch_answers {x : Tick × Port} {xs : List (Tick × Port)} (hp : longPorts u 0x0B02 = x :: xs) :
    execSourceSwitch t 2 s = .next (finishLong x.2 (stDone (le 4 f)) u) := by
  rw [execSourceSwitch_switches hn hs hu, hp]

end

/-! #### Gates: drains, wakes and the inrush budget (R548, R553 to R555) -/

section
variable {gate : BitVec 8}

theorem execDrainEnd_drained (hg : gateState (advance t s) gate.toNat = .draining) : execDrainEnd t gate s = .next (drainEnd gate.toNat (advance t s)) :=
  if_pos hg

theorem execDrainEnd_none (hg : gateState (advance t s) gate.toNat ≠ .draining) : execDrainEnd t gate s = .next (advance t s) :=
  if_neg hg

theorem execWakeComplete_woken (hg : gateState (advance t s) gate.toNat = .waking) (hi : isIsland gate.toNat = false ∨ isGood (advance t s) gate.toNat = true) :
    execWakeComplete t gate s = .next (wakeComplete gate.toNat (advance t s)) :=
  if_pos ⟨hg, fun h => hi.resolve_left (ne_false_of_eq_true h)⟩

theorem execWakeComplete_none (hg : gateState (advance t s) gate.toNat ≠ .waking) : execWakeComplete t gate s = .next (advance t s) :=
  if_neg fun h => hg h.1

end

/-- An entry that does not fit the budget of 8 units waits at the head of the queue (R553). -/
theorem admitWakes_over {n : Nat} {h : State} {e : WakeEntry} {q : List WakeEntry} (hq : h.pwr.queue = e :: q) (hb : 8 < inrushUsed h + gateCost e.gate) :
    admitWakes n h = h := by
  cases n with
  | zero => rfl
  | succ n => simp only [admitWakes, hq, decide_eq_false (Nat.not_le.2 hb), Bool.false_and, Bool.false_eq_true, if_false]

theorem execWakeAdmission_over {e : WakeEntry} {q : List WakeEntry} (hq : (advance t s).pwr.queue = e :: q)
    (hb : 8 < inrushUsed (advance t s) + gateCost e.gate) : execWakeAdmission t s = .next (advance t s) := by
  simp only [execWakeAdmission, admitWakes_over hq hb]

/-! #### Standby (R563, R564) -/

theorem all_gateState_iff {gs : List Nat} {h : State} {g : GState} : gs.all (fun x => gateState h x == g) = true ↔ ∀ x ∈ gs, gateState h x = g := by
  simp only [List.all_eq_true, beq_iff_eq]

theorem execStandbyReached_reached (hm : pwrMode (advance t s) = 2) (hg : ∀ g ∈ (advance t s).pwr.standbySet, gateState (advance t s) g = .off) :
    execStandbyReached t s = .next (standbyReached (advance t s)) :=
  if_pos ⟨hm, all_gateState_iff.2 hg⟩

theorem execStandbyReached_none (hm : pwrMode (advance t s) ≠ 2) : execStandbyReached t s = .next (advance t s) :=
  if_neg fun h => hm h.1

theorem execStandbyLeft_left (hm : pwrMode (advance t s) = 3) (hg : ∀ g ∈ (advance t s).pwr.standbySet ++ [4], gateState (advance t s) g = .on) :
    execStandbyLeft t s = .next (standbyLeft (advance t s)) :=
  if_pos ⟨hm, all_gateState_iff.2 hg⟩

theorem execStandbyLeft_none (hm : pwrMode (advance t s) ≠ 3) : execStandbyLeft t s = .next (advance t s) :=
  if_neg fun h => hm h.1

end

/-- Settles O50: each event of clocks and power under conditions on the state. -/
theorem clockAndPowerEventsComplete : Obligations.ClockAndPowerEventsComplete := by
  intro t s
  refine ⟨fun hc => ⟨execClkinLoss_lost hc, execClkinReturn_present hc⟩, execClkinLoss_again, ?clkin, execLoopsRelocked_none,
    fun hc hr => execLoopsRelocked_relocked hc hr rfl, ?lock, execSourceSwitch_none, ?switch, ?gates, rfl, fun _ _ => execWakeAdmission_over,
    execStandbyReached_reached, execStandbyReached_none, execStandbyLeft_left, execStandbyLeft_none⟩
  case clkin => exact fun hc hf => ⟨execClkinReturn_releases hc hf, execClkinReturn_runs hc hf⟩
  case lock => exact fun _ => ⟨execLoopLock_locks, execLoopLock_waits⟩
  case switch => exact fun _ _ hn hs => ⟨execSourceSwitch_unasked hn hs rfl, fun _ _ => execSourceSwitch_answers hn hs rfl⟩
  case gates => exact fun _ => ⟨execDrainEnd_drained, execDrainEnd_none, execWakeComplete_woken, execWakeComplete_none⟩

end Sys2Proof.Proofs

namespace Sys2Proof.Proofs

open Sys2Proof Sys2Proof.Machine Sys2Proof.Laws

/-! ### The commands on power and clocks (R544, R547, R549, R563, R564)

What each opcode's own step answers past its checks; the request around it is `gcp_reply`, or `gcp_later` where the reply waits. -/

section
variable {c : Ctx} {s : State} {g : Nat}

/-- Does a BLOCK_POWER name a gate of kind Power or Clock, its reserved byte clear? -/
def gateNamed (c : Ctx) (g : Nat) : Prop := (gateKind g = some .power ∨ gateKind g = some .clock) ∧ leAt c.pay 3 1 = 0

section
variable (hk : gateNamed c (leAt c.pay 0 2))
include hk

theorem doBlockPower_gate (ha : leAt c.pay 2 1 = 0) : doBlockPower c s = doGate c (leAt c.pay 0 2) s := by
  obtain ⟨hkind, hres⟩ := hk
  have hkind' : ¬(gateKind (leAt c.pay 0 2) ≠ some .power ∧ gateKind (leAt c.pay 0 2) ≠ some .clock) := fun h => hkind.elim h.1 h.2
  simp only [doBlockPower, if_neg hkind', ha, hres, Nat.not_lt_zero, ne_eq, not_true_eq_false, if_true, if_false]

theorem doBlockPower_wake (ha : leAt c.pay 2 1 = 1) : doBlockPower c s = doWake c (leAt c.pay 0 2) s := by
  obtain ⟨hkind, hres⟩ := hk
  have hkind' : ¬(gateKind (leAt c.pay 0 2) ≠ some .power ∧ gateKind (leAt c.pay 0 2) ≠ some .clock) := fun h => hkind.elim h.1 h.2
  simp only [doBlockPower, if_neg hkind', ha, hres, Nat.lt_irrefl, ne_eq, not_true_eq_false, Nat.one_ne_zero, if_false]

end

/-! #### Gate requests -/

section
variable (hr : gateRefusal s c g = none)
include hr

theorem doGate_childOn (hc : ∃ y ∈ gateChildren g, gateState s y ≠ .off) : doGate c g s = .reply (stOnly .resourceHeld) s := by
  have hany : (gateChildren g).any (fun x => gateState s x != .off) = true := by simpa only [List.any_eq_true, bne_iff_ne] using hc
  simp only [doGate, hr, hany, if_true]

theorem doGate_childrenOff (hc : ∀ y ∈ gateChildren g, gateState s y = .off) : doGate c g s = gateAct c g s := by
  have hany : ¬(gateChildren g).any (fun x => gateState s x != .off) = true := by simpa only [List.any_eq_true, bne_iff_ne, not_exists, not_and, Classical.not_not] using hc
  simp only [doGate, hr, if_neg hany]

end

theorem gateAct_on (hg : gateState (leaveGate g (reqMember c) s) g = .on) :
    gateAct c g s = .reply (stateReply 2) (drainGate g [reqAsker c] (leaveGate g (reqMember c) s)) := by
  simp only [gateAct, hg]

theorem gateAct_off (hg : gateState (leaveGate g (reqMember c) s) g = .off) : gateAct c g s = .reply (stateReply 0) (leaveGate g (reqMember c) s) := by
  simp only [gateAct, hg]

/-! #### Wake requests -/

/-- Is the requester the one a gate's wake is granted to (R549): Holm for a gate that Holm owns, else the gate's grantee? -/
def mayWake (s : State) (c : Ctx) (g : Nat) : Prop := if holmOwned s (obj 9 g) then c.holm = true else granteeOf s (obj 9 g) = some c.fn

theorem doWake_granted (hl : clkLost s = false) (hm : mayWake s c g) (hs : standbyNeeds s g = false) : doWake c g s = wakeAct c g s := by
  cases ho : holmOwned s (obj 9 g) with
  | true =>
    have hholm : c.holm = true := by simpa only [mayWake, ho, if_true] using hm
    simp only [doWake, hl, hs, ho, hholm, Bool.false_eq_true, Bool.true_eq_false, and_false, false_and, if_false]
  | false =>
    have hgrant : granteeOf s (obj 9 g) = some c.fn := by simpa only [mayWake, ho, Bool.false_eq_true, if_false] using hm
    simp only [doWake, hl, hs, ho, hgrant, Bool.false_eq_true, false_and, ne_eq, not_true_eq_false, and_false, if_false]

theorem wakeAct_on (hg : gateState (joinGate g (reqMember c) s) g = .on) : wakeAct c g s = .reply (stateReply 1) (joinGate g (reqMember c) s) := by
  simp only [wakeAct, hg]

theorem wakeAct_off (hk : gateKind g = some .power) (hg : gateState (joinGate g (reqMember c) s) g = .off) :
    wakeAct c g s = .reply (stateReply 3) (wakeOff g c.holm c.stamp [reqAsker c] (joinGate g (reqMember c) s)) := by
  have hkind : ¬(gateKind g = some .clock) := by rw [hk]; decide
  simp only [wakeAct, hg, hkind, false_and, if_false]

/-! #### CLOCK_SET and POWER_STATE -/

section
variable (hl : clkLost s = false)
include hl

section
variable {f : Nat} (hn : leAt c.pay 0 1 = 2) (hres : leAt c.pay 1 3 = 0) (hf : leAt c.pay 4 4 = f) (hstep : f % 25000 = 0) (hmin : 700000 ≤ f) (hmax : f ≤ 1400000)
include hn hres hf hstep hmin hmax

theorem doClockSet_shader : doClockSet c s =
    if f < admittedKhz s then .reply (stOnly .resourceHeld) s
    else if gateState s 2 = .off then .reply (stDone (le 4 f)) (setPwr (fun p => { p with shdKhz := f }) s)
    else .later (setPwr (fun p => { p with shdNext := p.shdNext ++ [f] }) s) := by
  simp only [doClockSet, hl, hn, hres, hf, hstep, Nat.not_lt.2 hmin, Nat.not_lt.2 hmax, Bool.false_eq_true, ne_eq, not_true_eq_false, or_self, if_false,
    show ¬19 < 2 by decide]

theorem doClockSet_held (hadm : admittedKhz s ≤ f) (hg : gateState s 2 ≠ .off) :
    doClockSet c s = .later (setPwr (fun p => { p with shdNext := p.shdNext ++ [f] }) s) := by
  rw [doClockSet_shader hl hn hres hf hstep hmin hmax, if_neg (Nat.not_lt.2 hadm), if_neg hg]

theorem doClockSet_belowAdmitted (hadm : f < admittedKhz s) : doClockSet c s = .reply (stOnly .resourceHeld) s := by
  rw [doClockSet_shader hl hn hres hf hstep hmin hmax, if_pos hadm]

end

section
variable (hres : leAt c.pay 1 3 = 0)
include hres

section
variable (hn : leAt c.pay 0 1 = 1) (hm : pwrMode s = 0)
include hn hm

theorem doPowerState_enters (hb : standbyBusy s = false) :
    doPowerState c s = .later (setPwr (fun y => { y with enterWaiters := [c.port] }) (enterStandby s)) := by
  simp [doPowerState, hl, hn, hres, hm, hb]

theorem doPowerState_inUse (hb : standbyBusy s = true) : doPowerState c s = .reply (stOnly .resourceHeld) s := by
  simp [doPowerState, hl, hn, hres, hm, hb]

end

theorem doPowerState_leaves (hn : leAt c.pay 0 1 = 0) (hm : pwrMode s = 1) :
    doPowerState c s = .later (leaveStandby false (setPwr (fun y => { y with leaveWaiters := y.leaveWaiters ++ [c.port] }) s)) := by
  simp [doPowerState, hl, hn, hres, hm]

end

end

end

/-- Settles O24: an accepted request ends with what its opcode's own step answers, or is held until the clock has switched or standby is reached or left. -/
theorem powerCommandsComplete : Obligations.PowerCommandsComplete := by
  intro t q s x c h p g known
  refine ⟨fun a hk ha hr hc hg => gcp_reply a ?drains, fun a hk ha hr hc hg => gcp_reply a ?isOff, fun a hk ha hr hc => gcp_reply a ?child,
    fun a hk ha hl hm hs hg => gcp_reply a ?isOn, fun a hk ha hp hl hm hs hg => gcp_reply a ?wakes,
    fun a hl hn hres hstep hmin hmax hadm hg => gcp_later a (doClockSet_held hl hn hres rfl hstep hmin hmax hadm hg),
    fun a hl hn hres hstep hmin hmax hadm => gcp_reply a (doClockSet_belowAdmitted hl hn hres rfl hstep hmin hmax hadm),
    fun a hl hn hres hm hb => gcp_later a (doPowerState_enters hl hres hn hm hb),
    fun a hl hn hres hm hb => gcp_reply a (doPowerState_inUse hl hres hn hm hb),
    fun a hl hn hres hm => gcp_later a (doPowerState_leaves hl hres hn hm)⟩
  case drains => exact (doBlockPower_gate (c := c) hk ha).trans ((doGate_childrenOff hr hc).trans (gateAct_on hg))
  case isOff => exact (doBlockPower_gate (c := c) hk ha).trans ((doGate_childrenOff hr hc).trans (gateAct_off hg))
  case child => exact (doBlockPower_gate (c := c) hk ha).trans (doGate_childOn hr hc)
  case isOn => exact (doBlockPower_wake (c := c) hk ha).trans ((doWake_granted (c := c) hl hm hs).trans (wakeAct_on hg))
  case wakes => exact (doBlockPower_wake (c := c) hk ha).trans ((doWake_granted (c := c) hl hm hs).trans (wakeAct_off hp hg))

end Sys2Proof.Proofs

namespace Sys2Proof.Proofs

open Sys2Proof Sys2Proof.Machine Sys2Proof.Laws

/-! ### Firmware, laboratory and calibration commands (R318, R437, R455, R478, R598, R599)

What each opcode's own step answers past its checks; the request around it is `gcp_reply`, or `gcp_later` where the reply waits. -/

section
variable {c : Ctx} {s : State}

/-! #### FW_WRITE -/

/-- The addresses of the erase sectors of size z that the bytes from `a` on meet, `len` of them. -/
def sectorsMet (z a len : Nat) : List Nat := (List.range ((a + len - 1) / z - a / z + 1)).map (fun i => (a / z + i) * z)

/-- The extent of an FW_WRITE is valid: a known slot, reserved bytes clear, whole words, within 4,056 bytes and the slot's area (R598). -/
structure WritesArea (c : Ctx) : Prop where
  slot : leAt c.pay 0 1 ≤ 3
  reserved : leAt c.pay 1 3 = 0
  offset : leAt c.pay 4 4 % 4 = 0
  words : leAt c.pay 8 4 % 4 = 0
  least : 4 ≤ leAt c.pay 8 4
  most : leAt c.pay 8 4 ≤ 4056
  room : leAt c.pay 4 4 + leAt c.pay 8 4 ≤ (flashArea (leAt c.pay 0 1)).2

section
variable (hw : WritesArea c)
include hw

theorem doFwWrite_inUse {ok : Bool} (hu : leAt c.pay 0 1 = s.boot.slot) : doFwWrite ok c s = .reply (stOnly .resourceHeld) s := by
  obtain ⟨hslot, hres, hoff, hwords, hmin, hmax, hroom⟩ := hw
  simp only [doFwWrite, Nat.not_lt.2 hslot, hres, hoff, hwords, Nat.not_lt.2 hmin, Nat.not_lt.2 hmax, Nat.not_lt.2 hroom, ne_eq, not_true_eq_false, or_self, if_false,
    if_pos hu]

theorem doFwWrite_programs (hu : leAt c.pay 0 1 ≠ s.boot.slot) {a : Nat} (ha : (flashArea (leAt c.pay 0 1)).1 + leAt c.pay 4 4 = a)
    {z : Nat} (hz : eraseSize (leAt c.pay 0 1) = z) :
    doFwWrite true c s = .reply (stDone [])
      (flashProgram a (slice c.pay 0xC (leAt c.pay 8 4)) ((sectorsMet z a (leAt c.pay 8 4)).foldl (eraseOnce z) s)) := by
  obtain ⟨hslot, hres, hoff, hwords, hmin, hmax, hroom⟩ := hw
  subst ha hz
  simp only [doFwWrite, Nat.not_lt.2 hslot, hres, hoff, hwords, Nat.not_lt.2 hmin, Nat.not_lt.2 hmax, Nat.not_lt.2 hroom, ne_eq, not_true_eq_false, or_self, if_false,
    if_neg hu, sectorsMet, if_true]

end

/-! #### FW_ACTIVATE -/

/-- The flash sectors of an area marked unerased again: the next FW_WRITE erases them anew. -/
def areaUnmarked (a : Nat × Nat) (s : State) : State :=
  setBoot (fun b => { b with erased := b.erased.filter (fun y => decide (y < a.1) || decide (a.1 + a.2 ≤ y)) }) s

section
variable (hres : leAt c.pay 1 3 = 0)
include hres

theorem doFwActivate_rejected {ok : Bool} (hs : leAt c.pay 0 1 ≤ 3) (hv : ∀ o, verified s (leAt c.pay 0 1) = some o → objectDigest o ≠ slice c.pay 4 32) :
    doFwActivate ok c s = .reply (stOnly .imageRejected) s := by
  have hnone : (verified s (leAt c.pay 0 1)).filter (fun o => objectDigest o == slice c.pay 4 32) = none := by
    rw [Option.filter_eq_none_iff]
    exact fun o ho => mt beq_iff_eq.1 (hv o ho)
  simp only [doFwActivate, Nat.not_lt.2 hs, hres, hnone, ne_eq, not_true_eq_false, if_false]

theorem doFwActivate_trial {o : List Byte} {slot : Nat} (hn : leAt c.pay 0 1 = slot) (hs : slot < 2) (hv : verified s slot = some o)
    (hd : objectDigest o = slice c.pay 4 32) (hu : slot ≠ s.boot.slot) {e : State} (he : areaUnmarked (flashArea slot) s = e) :
    doFwActivate true c s = .reply (stDone []) (setBoot (fun b => { b with resetPending := some e.gtb })
      (measure 0x0012 0 (le 1 slot) (objectDigest o) (writeRecord true slot true 2 (objectDigest o) e))) := by
  subst he
  have hsome : (some o).filter (fun o => objectDigest o == slice c.pay 4 32) = some o := by rw [Option.filter_some, hd, beq_self_eq_true, if_pos rfl]
  have hboot : slot ≠ (areaUnmarked (flashArea slot) s).boot.slot := hu
  unfold areaUnmarked at *
  simp only [doFwActivate, hn, show ¬3 < slot by omega, hres, hv, hsome, Nat.not_le.2 hs, hboot, ne_eq, not_true_eq_false, if_false, if_true]

end

/-! #### SELFTEST -/

/-- A self-test of function fn whose raster half is signed as contract k: its traversal half is queued, and the request waits on its port (R318). -/
def testQueued (p : Port) (fn : Nat) (k : Contract) (v : State) : State :=
  queueRender { kind := 2, output := 0, regions := 0, owner := none, pixels := 65536, steps := 24 }
    { v with trv := { v.trv with tests := v.trv.tests ++ [{ port := some p, began := v.gtb, raster := some (fn, k.id) }] } }

theorem beginTest_signed {p : Port} {fn : Nat} {k : Contract} (hk : admitAsk s (testAsk s fn) = .signed k) :
    beginTest (some p) fn s = .ok (testQueued p fn k (sign k s)) :=
  congrArg (testAfter (some p) fn s) hk

theorem doSelftest_signed {k : Contract} (hn : leAt c.pay 0 1 = 0) (hres : leAt c.pay 1 3 = 0) (hg : contractGuard s c.fn [2] = none)
    (hk : admitAsk s (testAsk s c.fn) = .signed k) :
    doSelftest c s = .later (testQueued c.port c.fn k (sign k s)) := by
  unfold doSelftest
  rw [if_neg (not_not_intro hn), if_neg (not_not_intro hres), hg]
  exact congrArg (testAnswer s) (beginTest_signed hk)

/-! #### FAULT_ARM and FAULT_DISARM -/

/-- The fault that a FAULT_ARM describes, under a fresh identifier (Table 14.7). -/
def faultAsked (tag : Word) (id : Nat) (p : List Byte) : FaultRec :=
  { id := id, tag := tag, target := leAt p 0 1, inst := leAt p 1 1, dir := leAt p 2 1, fault := leAt p 3 1, mode := leAt p 4 1, amount := leAt p 8 4,
    tile := leAt p 0xC 4, left := if leAt p 4 1 = 0 then leAt p 8 4 else 0 }

theorem doFaultArm_arms (hc : faultCheck s c.pay = none) (hl : (s.lnk.faults.filter (fun f => f.armed)).length < 16) :
    doFaultArm c s = .reply (stDone (le 4 s.lnk.nextFault)) (isoLog 0x43 c.fn 8 (2 * bit c.holm) 0 0xFFFF 0
      (setLnk (fun l => { l with faults := l.faults ++ [faultAsked c.pkt.tag s.lnk.nextFault c.pay], nextFault := s.lnk.nextFault + 1 }) s)) := by
  simp only [doFaultArm, hc, if_neg (Nat.not_le.2 hl), faultAsked]

theorem doFaultDisarm_one {f : FaultRec} (ha : leAt c.pay 0 4 ≠ 0xFFFFFFFF) (hf : faultOf s c.pkt.tag (leAt c.pay 0 4) = some f) :
    doFaultDisarm c s = .reply (stOnly .done) (disarm (fun y => y.id == f.id) s) := by
  simp only [doFaultDisarm, if_neg ha, hf]

/-! #### Calibrations -/

/-- A calibration of an enabled sensor begins (R455): the request waits for its end, candidates are dropped. -/
theorem doTouchCalibrate_starts {k : Nat} (hn : leAt c.pay 0 1 = k) (hk : k < 8) (hon : sensorOn s k = true) (hst : leAt c.pay 1 1 ≤ 1) (hres : leAt c.pay 2 2 = 0)
    (hcon : (tsOf s k).contacts = []) (hstate : tState s k = 2) (hcal : (tsOf s k).cal = none) :
    doTouchCalibrate c s = .later (setTState k 5 (setTs k (fun r => { r with cal := some { ports := [c.port], store := leAt c.pay 1 1 == 1 }, cands := [] }) s)) := by
  simp only [doTouchCalibrate, hn, Nat.not_le.2 hk, hon, Nat.not_lt.2 hst, hres, hcon, hstate, hcal, List.isEmpty_nil, Bool.true_eq_false, ne_eq, not_true_eq_false,
    Nat.reduceEqDiff, or_self, if_false]

/-- A channel is on and ready for a calibration, and idle (R478). -/
structure CalibrationFree (s : State) (n : Nat) : Prop where
  gate : gateOn s (0x58 + n) = true
  on : hapOn s n = true
  sound : hapState s n ≠ 5
  cal : (hapOf s n).cal = none
  queue : (hapOf s n).queue = []
  drive : (hapOf s n).drive = none
  brake : (hapOf s n).brake = none

theorem doHapticCalibrate_starts {n : Nat} (hn : leAt c.pay 0 1 = n) (hres : leAt c.pay 1 3 = 0) (hmax : n ≤ 15) (hh : holdsTarget s c (obj 7 n) = true)
    (hf : CalibrationFree s n) :
    doHapticCalibrate c s = .later (setHapState n 1 (setHap n (fun r => { r with cal := some (some c.port, s.gtb) }) s)) := by
  obtain ⟨hgate, hon, hsound, hcal, hqueue, hdrive, hbrake⟩ := hf
  simp only [doHapticCalibrate, hn, hres, Nat.not_lt.2 hmax, hh, hgate, hon, hsound, hcal, hqueue, hdrive, hbrake, List.isEmpty_nil, Option.isSome_none,
    Bool.true_eq_false, Bool.false_eq_true, ne_eq, not_true_eq_false, or_self, if_false]

end

/-- Settles O25: an accepted request ends with what its opcode's own step answers, or is held until the test or the calibration ends. -/
theorem firmwareAndCalibrationCommandsComplete : Obligations.FirmwareAndCalibrationCommandsComplete := by
  intro t q s x flashOk c h p fn slot area off len z sectors
  refine ⟨?writes, ?writeHeld, ?trial, fun a hs hres hv => gcp_reply a (doFwActivate_rejected hres hs hv), fun _ a hn hres hg hk => gcp_later a (doSelftest_signed hn hres hg hk),
    fun a hc hl => gcp_reply a (doFaultArm_arms hc hl), fun _ a ha hf => gcp_reply a (doFaultDisarm_one ha hf), ?touch, ?haptic⟩
  case writes =>
    intro a hslot hres hoff hwords hmin hmax hroom hu
    exact gcp_reply a (doFwWrite_programs (c := c) ⟨hslot, hres, hoff, hwords, hmin, hmax, hroom⟩ hu rfl rfl)
  case writeHeld =>
    intro a hslot hres hoff hwords hmin hmax hroom hu
    exact gcp_reply a (doFwWrite_inUse (c := c) ⟨hslot, hres, hoff, hwords, hmin, hmax, hroom⟩ hu)
  case trial =>
    intro o a hs hres hv hd hu
    exact gcp_reply a (doFwActivate_trial (c := c) hres rfl hs hv hd hu rfl)
  case touch =>
    intro k a hk hon hst hres hcon hstate hcal
    exact gcp_later a (doTouchCalibrate_starts rfl hk hon hst hres hcon hstate hcal)
  case haptic =>
    intro n a hres hmax hh hgate hon hsound hcal hqueue hdrive hbrake
    exact gcp_later a (doHapticCalibrate_starts rfl hres hmax hh ⟨hgate, hon, hsound, hcal, hqueue, hdrive, hbrake⟩)

end Sys2Proof.Proofs

namespace Sys2Proof.Proofs

open Sys2Proof Sys2Proof.Machine Sys2Proof.Laws

/-! ### Which effect a unit's control register has on a write -/

/-- A flag read as a number. -/
theorem getF_flag (w : Word) {b : Bits} (hb : b.hi = b.lo) : getF w b = if getB w b then 1 else 0 := by
  have hlt : getF w b < 2 := by
    rw [getF, natBits, hb, Nat.add_sub_cancel_left]
    exact Nat.mod_lt _ (by decide)
  unfold getB
  generalize getF w b = x at *
  obtain rfl | rfl : x = 0 ∨ x = 1 := by omega
  · rfl
  · rfl

section
variable (rq : Requester) (w : Word) (s : State)

theorem applyReg_sensor (k : BitVec 3) : applyReg rq (Reg.TCH_Sk_CTRL k.toNat) w s = writeSensorCtrl k.toNat w s := by
  have hk := k.isLt
  have hreq : perRequester (Reg.TCH_Sk_CTRL k.toNat) = false := by revert k; decide
  have hidx : isPortIdx (Reg.TCH_Sk_CTRL k.toNat) = false := by revert k; decide
  have hplace : (0xE01000 + 0x400 * k.toNat - 0xE01000) / 0x400 = k.toNat := by omega
  rw [applyReg, sharedReg_skips hreq, hidx]
  simp (disch := omega) only [Reg.TCH_Sk_CTRL, Reg.ISO_DBG, Reg.ISO_OWN_IDX, if_neg, if_pos, Bool.false_eq_true, if_false, hplace]

theorem applyReg_hap (n : BitVec 4) : applyReg rq (Reg.HAP_Cn_CTRL n.toNat) w s = writeHapCtrl n.toNat w s := by
  have hn := n.isLt
  have hreq : perRequester (Reg.HAP_Cn_CTRL n.toNat) = false := by revert n; decide
  have hidx : isPortIdx (Reg.HAP_Cn_CTRL n.toNat) = false := by revert n; decide
  have hplace : (0xE81000 + 0x200 * n.toNat - 0xE81000) / 0x200 = n.toNat := by omega
  rw [applyReg, sharedReg_skips hreq, hidx]
  simp (disch := omega) only [Reg.HAP_Cn_CTRL, Reg.ISO_DBG, Reg.ISO_OWN_IDX, if_neg, if_pos, Bool.false_eq_true, if_false, hplace]

theorem applyReg_aud {off : Nat} (hlo : 0xF00000 ≤ off) (hhi : off < 0x1000000) (hreq : perRequester off = false) (hidx : isPortIdx off = false) :
    applyReg rq off w s = queueAud off w s := by
  rw [applyReg, sharedReg_skips hreq, hidx]
  simp (disch := omega) only [Reg.ISO_DBG, Reg.ISO_OWN_IDX, if_neg, if_pos, Bool.false_eq_true, if_false]

theorem applyReg_tdmFmt (n : BitVec 3) : applyReg rq (Reg.AUD_TDMn_FMT n.toNat) w s = queueAud (Reg.AUD_TDMn_FMT n.toNat) w s := by
  have hn := n.isLt
  unfold Reg.AUD_TDMn_FMT
  exact applyReg_aud rq w s (by omega) (by omega) (by revert n; decide) (by revert n; decide)

theorem applyReg_sinkCtrl (k : Fin 11) : applyReg rq (Reg.AUD_Kk_CTRL k.val) w s = queueAud (Reg.AUD_Kk_CTRL k.val) w s := by
  have hk := k.isLt
  unfold Reg.AUD_Kk_CTRL
  exact applyReg_aud rq w s (by omega) (by omega) (by revert k; decide) (by revert k; decide)

theorem applyReg_attCtrl : applyReg rq Reg.AUD_ATT_CTRL w s = queueAud Reg.AUD_ATT_CTRL w s :=
  applyReg_aud rq w s (by decide) (by decide) (by decide) (by decide)

theorem applyReg_dmaCtrl (n : BitVec 7) : applyReg rq (Reg.DMA_Cn_CTRL n.toNat) w s = writeDmaCtrl n.toNat w s := by
  have hn := n.isLt
  have hreq : perRequester (Reg.DMA_Cn_CTRL n.toNat) = false := by revert n; decide
  have hidx : isPortIdx (Reg.DMA_Cn_CTRL n.toNat) = false := by revert n; decide
  have hplace : (0x1000000 + 0x100 * n.toNat - 0x1000000) / 0x100 = n.toNat := by omega
  rw [applyReg, sharedReg_skips hreq, hidx]
  simp (disch := omega) only [Reg.DMA_Cn_CTRL, Reg.ISO_DBG, Reg.ISO_OWN_IDX, if_neg, if_pos, Bool.false_eq_true, if_false, hplace]

theorem applyReg_dmaRate (n : BitVec 7) : applyReg rq (Reg.DMA_RATEn n.toNat) w s = writeDmaRate n.toNat w s := by
  have hn := n.isLt
  have hreq : perRequester (Reg.DMA_RATEn n.toNat) = false := by revert n; decide
  have hidx : isPortIdx (Reg.DMA_RATEn n.toNat) = false := by revert n; decide
  have hplace : (0x1008100 + 0x4 * n.toNat - 0x1008100) / 4 = n.toNat := by omega
  rw [applyReg, sharedReg_skips hreq, hidx]
  simp (disch := omega) only [Reg.DMA_RATEn, Reg.ISO_DBG, Reg.ISO_OWN_IDX, if_neg, if_pos, Bool.false_eq_true, if_false, hplace]

theorem applyReg_cvCtrl (u : BitVec 2) : applyReg rq (Reg.CV_Un_CTRL u.toNat) w s = writeCvCtrl u.toNat w s := by
  have hu := u.isLt
  have hreq : perRequester (Reg.CV_Un_CTRL u.toNat) = false := by revert u; decide
  have hidx : isPortIdx (Reg.CV_Un_CTRL u.toNat) = false := by revert u; decide
  have hplace : (0x1100000 + 0x100 * u.toNat - 0x1100000) / 0x100 = u.toNat := by omega
  rw [applyReg, sharedReg_skips hreq, hidx]
  simp (disch := omega) only [Reg.CV_Un_CTRL, Reg.ISO_DBG, Reg.ISO_OWN_IDX, if_neg, if_pos, Bool.false_eq_true, if_false, hplace]

end

/-! ### Control registers of touch sensors and haptic channels (R444, R477) -/

section
variable {s : State} {w : Word}

section
variable {k : Nat} (hw : getB w Fld.TCH_Sk_CTRL_ENABLE = true)
include hw

/-- LP_EN alone takes its value while the sensor is enabled. -/
theorem writeSensorCtrl_enabled (ho : getB (rd s (Reg.TCH_Sk_CTRL k)) Fld.TCH_Sk_CTRL_ENABLE = true) :
    writeSensorCtrl k w s = wr (Reg.TCH_Sk_CTRL k) (setB (rd s (Reg.TCH_Sk_CTRL k)) Fld.TCH_Sk_CTRL_LP_EN (getB w Fld.TCH_Sk_CTRL_LP_EN)) s := by
  simp only [writeSensorCtrl, ho, hw, if_true]

/-- The word of TCH_Sk_CTRL with LP_EN and KIND as written, ENABLE as it stood. -/
def sensorFields (k : Nat) (w : Word) (s : State) : State :=
  wr (Reg.TCH_Sk_CTRL k) (setB (setB (rd s (Reg.TCH_Sk_CTRL k)) Fld.TCH_Sk_CTRL_LP_EN (getB w Fld.TCH_Sk_CTRL_LP_EN)) Fld.TCH_Sk_CTRL_KIND (getB w Fld.TCH_Sk_CTRL_KIND)) s

/-- The result of the checks of R444 shown. -/
def sensorChecked (k : Nat) (w : Word) (s : State) : State :=
  wrF (Reg.TCH_Sk_STAT k) Fld.TCH_Sk_STAT_CFG_ERR (sensorCheck (sensorFields k w s) k w) (sensorFields k w s)

/-- A sensor that has passed the checks, enabled and uncalibrated. -/
def sensorEnabled (k : Nat) (c : State) : State :=
  wrF (Reg.TCH_Sk_STAT k) Fld.TCH_Sk_STAT_PROF_RESULT 0 (setTState k 1 (wrB (Reg.TCH_Sk_CTRL k) Fld.TCH_Sk_CTRL_ENABLE true c))

/-- What is known of a sensor that starts at `now`: its profile and the calibrations asked for stand. -/
def sensorFresh (now : Tick) (x : TouchRec) : TouchRec := { tEn := now, dueAt := now, idleSince := now, profile := x.profile, cal := x.cal }

section
variable (ho : getB (rd s (Reg.TCH_Sk_CTRL k)) Fld.TCH_Sk_CTRL_ENABLE = false)
include ho

theorem writeSensorCtrl_refused (he : sensorCheck (sensorFields k w s) k w ≠ 0) : writeSensorCtrl k w s = sensorChecked k w s := by
  unfold sensorChecked sensorFields at *
  simp only [writeSensorCtrl, ho, hw, Bool.false_eq_true, if_false, if_true, if_neg he]

theorem writeSensorCtrl_enables (he : sensorCheck (sensorFields k w s) k w = 0) {on : State} (hon : sensorEnabled k (sensorChecked k w s) = on) :
    writeSensorCtrl k w s = (touchBanks on k).foldl (fun s b => holmWake (0x50 + b) s) (setContacts k [] (setTs k (sensorFresh s.gtb) on)) := by
  subst hon
  have hgtb : (sensorEnabled k (sensorChecked k w s)).gtb = s.gtb := rfl
  rw [← hgtb]
  unfold sensorEnabled sensorChecked sensorFields at *
  simp only [writeSensorCtrl, ho, hw, Bool.false_eq_true, if_false, if_true, if_pos he]
  rfl

end

end

section
variable {n : Nat} (hw : getB w Fld.HAP_Cn_CTRL_ENABLE = true)
include hw

/-- AUTO_CAL alone takes its value while the channel is enabled. -/
theorem writeHapCtrl_enabled (ho : flg s (Reg.HAP_Cn_CTRL n) Fld.HAP_Cn_CTRL_ENABLE = true) :
    writeHapCtrl n w s = wrB (Reg.HAP_Cn_CTRL n) Fld.HAP_Cn_CTRL_AUTO_CAL (getB w Fld.HAP_Cn_CTRL_AUTO_CAL) s := by
  unfold flg at ho
  simp only [writeHapCtrl, ho, hw, if_true]

/-- HAP_Cn_CTRL with AUTO_CAL and KIND as written, ENABLE as it stood. -/
def hapFields (n : Nat) (w : Word) (s : State) : State :=
  wrB (Reg.HAP_Cn_CTRL n) Fld.HAP_Cn_CTRL_KIND (getB w Fld.HAP_Cn_CTRL_KIND)
    (wrB (Reg.HAP_Cn_CTRL n) Fld.HAP_Cn_CTRL_AUTO_CAL (getB w Fld.HAP_Cn_CTRL_AUTO_CAL) s)

/-- The result of the checks of Table 16.1 shown. -/
def hapChecked (n : Nat) (w : Word) (s : State) : State :=
  wrF (Reg.HAP_Cn_STAT n) Fld.HAP_Cn_STAT_CFG_ERR (hapCheck (hapFields n w s) n w) (hapFields n w s)

section
variable (ho : flg s (Reg.HAP_Cn_CTRL n) Fld.HAP_Cn_CTRL_ENABLE = false)
include ho

theorem writeHapCtrl_refused (he : hapCheck (hapFields n w s) n w ≠ 0) : writeHapCtrl n w s = hapChecked n w s := by
  unfold flg at ho
  unfold hapChecked hapFields at *
  simp only [writeHapCtrl, ho, hw, Bool.false_eq_true, if_false, if_true, if_neg he]

theorem writeHapCtrl_enables (he : hapCheck (hapFields n w s) n w = 0) :
    writeHapCtrl n w s = hapEnable n (getB w Fld.HAP_Cn_CTRL_AUTO_CAL) (hapChecked n w s) := by
  unfold flg at ho
  unfold hapChecked hapFields at *
  simp only [writeHapCtrl, ho, hw, Bool.false_eq_true, if_false, if_true, if_pos he]

end

end

/-! ### Control registers of DMA channels and check-value units (R517, R522, R523, R528, R529, R531) -/

section
variable {n : Nat} {v : Word}

/-- The word of DMA_Cn_CTRL after a write of v: VECTOR as written, ENABLE as `en` says, MODE as written unless a set is loaded. -/
def dmaWord (n : Nat) (v : Word) (en : Nat) (s : State) : Word :=
  let new := setF (setF (rd s (Reg.DMA_Cn_CTRL n)) Fld.DMA_Cn_CTRL_VECTOR (getF v Fld.DMA_Cn_CTRL_VECTOR)) Fld.DMA_Cn_CTRL_ENABLE en
  if (dmaOf s n).loaded then new else setF new Fld.DMA_Cn_CTRL_MODE (getF v Fld.DMA_Cn_CTRL_MODE)

theorem getB_dmaWord_enable {en : Nat} : getB (dmaWord n v en s) Fld.DMA_Cn_CTRL_ENABLE = (en % 2 != 0) := by
  have hset (x : Word) : getB (setF x Fld.DMA_Cn_CTRL_ENABLE en) Fld.DMA_Cn_CTRL_ENABLE = (en % 2 != 0) := by
    rw [getB, getF_setF_same _ _ _ (by decide)]
    rfl
  unfold dmaWord
  dsimp only
  split
  · exact hset _
  · rw [getB_setF_other _ _ (by decide) (by decide), hset]

/-- A write that changes none of VECTOR and MODE spells the same word as one of v. -/
theorem dmaWord_congr {w : Word} {en : Nat} (hv : getF w Fld.DMA_Cn_CTRL_VECTOR = getF v Fld.DMA_Cn_CTRL_VECTOR)
    (hm : getF w Fld.DMA_Cn_CTRL_MODE = getF v Fld.DMA_Cn_CTRL_MODE) : dmaWord n w en s = dmaWord n v en s := by
  rw [dmaWord, dmaWord, hv, hm]

section
variable (hw : getB w Fld.DMA_Cn_CTRL_ENABLE = true)
include hw

/-- A write that leaves the channel enabled, or enables it: then STOP and START act. -/
theorem writeDmaCtrl_on : writeDmaCtrl n w s =
    let y := if getB w Fld.DMA_Cn_CTRL_STOP then dmaStopRegs n (wr (Reg.DMA_Cn_CTRL n) (dmaWord n w 1 s) s) else wr (Reg.DMA_Cn_CTRL n) (dmaWord n w 1 s) s
    if getB w Fld.DMA_Cn_CTRL_START then dmaStart n y else y := by
  have hf : getF w Fld.DMA_Cn_CTRL_ENABLE = 1 := by rw [getF_flag w (by decide), hw, if_pos rfl]
  have hword : getB (dmaWord n w 1 s) Fld.DMA_Cn_CTRL_ENABLE = true := getB_dmaWord_enable
  unfold dmaWord at *
  simp only [writeDmaCtrl, hf, hword, Bool.not_true, Bool.and_false, Bool.false_eq_true, if_false]

theorem writeDmaCtrl_start (hs : getB w Fld.DMA_Cn_CTRL_START = true) (hp : getB w Fld.DMA_Cn_CTRL_STOP = false) :
    writeDmaCtrl n w s = dmaStart n (wr (Reg.DMA_Cn_CTRL n) (dmaWord n w 1 s) s) := by
  simp only [writeDmaCtrl_on hw, hs, hp, Bool.false_eq_true, if_true, if_false]

theorem writeDmaCtrl_stop (hs : getB w Fld.DMA_Cn_CTRL_START = false) (hp : getB w Fld.DMA_Cn_CTRL_STOP = true) :
    writeDmaCtrl n w s = dmaStopRegs n (wr (Reg.DMA_Cn_CTRL n) (dmaWord n w 1 s) s) := by
  simp only [writeDmaCtrl_on hw, hs, hp, Bool.false_eq_true, if_true, if_false]

end

/-- Disabling an enabled channel stops everything it has and cancels its contracts (R531). -/
theorem writeDmaCtrl_disable (hw : getB w Fld.DMA_Cn_CTRL_ENABLE = false) (hs : getB w Fld.DMA_Cn_CTRL_START = false) (hp : getB w Fld.DMA_Cn_CTRL_STOP = false) :
    writeDmaCtrl n w s =
      if flg s (Reg.DMA_Cn_CTRL n) Fld.DMA_Cn_CTRL_ENABLE then dmaCancel n (dmaStopAll n (wr (Reg.DMA_Cn_CTRL n) (dmaWord n w 0 s) s))
      else wr (Reg.DMA_Cn_CTRL n) (dmaWord n w 0 s) s := by
  have hf : getF w Fld.DMA_Cn_CTRL_ENABLE = 0 := by rw [getF_flag w (by decide), hw, if_neg Bool.false_ne_true]
  have hword : getB (dmaWord n w 0 s) Fld.DMA_Cn_CTRL_ENABLE = false := getB_dmaWord_enable
  unfold dmaWord at *
  simp only [writeDmaCtrl, hf, hword, hs, hp, Bool.not_false, Bool.and_true, Bool.false_eq_true, if_false, flg]
  rfl

end

section
variable {u : Nat}

theorem writeCvCtrl_goRefused (hg : getB w Fld.CV_Un_CTRL_GO = true) (hp : getB w Fld.CV_Un_CTRL_PAUSE = false) (he : goError s u w ≠ 0) :
    writeCvCtrl u w s = wrF (Reg.CV_Un_STAT u) Fld.CV_Un_STAT_CFG_ERR (goError s u w) s := by
  simp only [writeCvCtrl, hg, hp, if_true, Bool.false_eq_true, if_false, cvGo, if_pos he]

theorem writeCvCtrl_go (hg : getB w Fld.CV_Un_CTRL_GO = true) (hp : getB w Fld.CV_Un_CTRL_PAUSE = false) (he : goError s u w = 0) :
    writeCvCtrl u w s = cvGo u w (wr (Reg.CV_Un_CTRL u) (w &&& 0x3F3F0730#32) s) := by
  simp only [writeCvCtrl, hg, hp, he, if_true, Bool.false_eq_true, if_false, ne_eq, not_true_eq_false]

theorem writeCvCtrl_pause (hg : getB w Fld.CV_Un_CTRL_GO = false) (hp : getB w Fld.CV_Un_CTRL_PAUSE = true) :
    writeCvCtrl u w s = setCv u (fun x => { x with pause := x.reg.isSome }) (wr (Reg.CV_Un_CTRL u) (w &&& 0x3F3F0730#32) s) := by
  simp only [writeCvCtrl, hg, hp, if_true, Bool.false_eq_true, if_false, ne_eq, not_true_eq_false]

end

end

/-- Settles O58: the write reaches its register, whose effect is that of its unit. -/
theorem unitWritesComplete : Obligations.UnitWritesComplete := by
  intro t s pf world value h rq z pass at_
  have lands {off : Nat} (hp : at_ off) (w : Word) {u : State} (hu : applyReg rq off w z = u) : Host.Outcome.next (fullWrite rq off w h) = pass u := by
    rw [fullWrite_pf_plain hp, hu]
  have hset {b : Bits} (v : Bool) (hb : b.hi < 32) (hlo : b.lo ≤ b.hi) : getB (setB value b v) b = v := getB_setB_same value v hb hlo
  refine ⟨?touch, ?haptic, ?audio, ?dma, ?rate, ?checkValue⟩
  case touch =>
    intro k r old w y e c on go hp
    have hw : getB w Fld.TCH_Sk_CTRL_ENABLE = true := hset true (by decide) (by decide)
    refine ⟨fun ho => lands hp w ?_, fun ho he => lands hp w ?_, fun ho he => lands hp w ?_⟩
    · exact (applyReg_sensor ..).trans (writeSensorCtrl_enabled hw ho)
    · exact (applyReg_sensor ..).trans (writeSensorCtrl_refused hw ho he)
    · have hgtb : sensorFresh h.gtb = sensorFresh z.gtb := congrArg sensorFresh (dropLatch_gtb ..).symm
      rw [applyReg_sensor, writeSensorCtrl_enables hw ho he rfl, ← hgtb]
      rfl
  case haptic =>
    intro n r w a y e c hp
    have hw : getB w Fld.HAP_Cn_CTRL_ENABLE = true := hset true (by decide) (by decide)
    exact ⟨fun ho => lands hp w ((applyReg_hap ..).trans (writeHapCtrl_enabled hw ho)), fun ho he => lands hp w ((applyReg_hap ..).trans (writeHapCtrl_refused hw ho he)),
      fun ho he => lands hp w ((applyReg_hap ..).trans (writeHapCtrl_enables hw ho he))⟩
  case audio =>
    exact ⟨fun _ hp => lands hp _ (applyReg_tdmFmt ..), fun _ hp => lands hp _ (applyReg_sinkCtrl ..), fun hp => lands hp _ (applyReg_sinkCtrl rq _ z 10),
      fun hp => ⟨lands hp _ (applyReg_attCtrl ..), lands hp _ (applyReg_attCtrl ..)⟩⟩
  case dma =>
    intro n r new word hp
    have hword {b : Bits} (v : Bool) (en : Nat) (hb : Fld.DMA_Cn_CTRL_VECTOR.hi < b.lo ∨ b.hi < Fld.DMA_Cn_CTRL_VECTOR.lo)
        (hm : Fld.DMA_Cn_CTRL_MODE.hi < b.lo ∨ b.hi < Fld.DMA_Cn_CTRL_MODE.lo) : dmaWord n.toNat (setB value b v) en z = word en :=
      dmaWord_congr (getF_setB_other value v (by decide) hb) (getF_setB_other value v (by decide) hm)
    refine ⟨fun he hs => lands hp _ ?start, fun he hs => lands hp _ ?stop, fun hs hstop => lands hp _ ?disable⟩
    case start =>
      have hw : getB (setB value Fld.DMA_Cn_CTRL_START true) Fld.DMA_Cn_CTRL_ENABLE = true := (getB_setB_other _ _ (by decide) (by decide)).trans he
      have hstop : getB (setB value Fld.DMA_Cn_CTRL_START true) Fld.DMA_Cn_CTRL_STOP = false := (getB_setB_other _ _ (by decide) (by decide)).trans hs
      rw [applyReg_dmaCtrl, writeDmaCtrl_start hw (hset true (by decide) (by decide)) hstop, hword _ _ (by decide) (by decide)]
    case stop =>
      have hw : getB (setB value Fld.DMA_Cn_CTRL_STOP true) Fld.DMA_Cn_CTRL_ENABLE = true := (getB_setB_other _ _ (by decide) (by decide)).trans he
      have hstart : getB (setB value Fld.DMA_Cn_CTRL_STOP true) Fld.DMA_Cn_CTRL_START = false := (getB_setB_other _ _ (by decide) (by decide)).trans hs
      rw [applyReg_dmaCtrl, writeDmaCtrl_stop hw hstart (hset true (by decide) (by decide)), hword _ _ (by decide) (by decide)]
    case disable =>
      have hstart : getB (setB value Fld.DMA_Cn_CTRL_ENABLE false) Fld.DMA_Cn_CTRL_START = false := (getB_setB_other _ _ (by decide) (by decide)).trans hs
      have hstop' : getB (setB value Fld.DMA_Cn_CTRL_ENABLE false) Fld.DMA_Cn_CTRL_STOP = false := (getB_setB_other _ _ (by decide) (by decide)).trans hstop
      rw [applyReg_dmaCtrl, writeDmaCtrl_disable (hset false (by decide) (by decide)) hstart hstop', hword _ _ (by decide) (by decide)]
  case rate =>
    intro n hp r old new bad y
    exact ⟨fun hb => lands hp _ ((applyReg_dmaRate ..).trans (if_pos hb)), fun hb => lands hp _ ((applyReg_dmaRate ..).trans (if_neg hb))⟩
  case checkValue =>
    intro u hp r w e
    have hgo : getB w Fld.CV_Un_CTRL_GO = true := hset true (by decide) (by decide)
    have hpause (hv : getB value Fld.CV_Un_CTRL_PAUSE = false) : getB w Fld.CV_Un_CTRL_PAUSE = false := (getB_setB_other _ _ (by decide) (by decide)).trans hv
    refine ⟨fun hv he => lands hp w ?_, fun hv he => lands hp w ?_, fun hv => lands hp _ ?_⟩
    · exact (applyReg_cvCtrl ..).trans (writeCvCtrl_goRefused hgo (hpause hv) he)
    · exact (applyReg_cvCtrl ..).trans (writeCvCtrl_go hgo (hpause hv) he)
    · exact (applyReg_cvCtrl ..).trans (writeCvCtrl_pause ((getB_setB_other _ _ (by decide) (by decide)).trans hv) (hset true (by decide) (by decide)))

end Sys2Proof.Proofs

namespace Sys2Proof.Proofs

open Sys2Proof Sys2Proof.Machine Sys2Proof.Laws

/-! ### The effects of the paired writes (R320, R413, R557, R561, R562, R584, R585) -/

section
variable {s : State}

/-! #### The path flags (R320) -/

theorem pairEffect_setRaster : pairEffect Reg.TRV_CTRL 1 s = faultSet Fld.TRV_STAT_RASTER_FAULT s := rfl

theorem pairEffect_setTrv : pairEffect Reg.TRV_CTRL 2 s = faultSet Fld.TRV_STAT_TRV_FAULT s := rfl

theorem pairEffect_clearRaster : pairEffect Reg.TRV_CTRL 4 s = faultClear Fld.TRV_STAT_RASTER_FAULT s := rfl

theorem pairEffect_clearTrv : pairEffect Reg.TRV_CTRL 8 s = faultClear Fld.TRV_STAT_TRV_FAULT s := rfl

/-- The tick at which a path flag was last set. -/
def flagSetAt (b : Bits) (s : State) : Tick := if b = Fld.TRV_STAT_RASTER_FAULT then s.trv.rasterSetAt else s.trv.travSetAt

/-- May a path flag be cleared: the last self-test passed, and it began after the flag was last set (R320)? -/
def flagClears (b : Bits) (s : State) : Prop := fld s Reg.TRV_STAT Fld.TRV_STAT_LAST_CLASS = 1 ∧ flagSetAt b s < s.trv.lastBegan

theorem faultClear_clears {b : Bits} (h : flagClears b s) : faultClear b s = wrB Reg.TRV_STAT b false s := if_pos h

theorem faultClear_refused {b : Bits} (h : ¬flagClears b s) : faultClear b s = wrB Reg.TRV_STAT Fld.TRV_STAT_CLEAR_REFUSED true s := if_neg h

/-! #### Recovery and resets -/

theorem isPairValue_recover : ∀ n : BitVec 3, isPairValue (Reg.CRL_RECOVER n.toNat) = true ∧ isPairValue (Reg.CRL_RECOVER n.toNat + 4) = false := by decide

theorem pairEffect_recover (n : BitVec 3) : pairEffect (Reg.CRL_RECOVER n.toNat) 1 s = setCrl n.toNat (fun c => { c with recover := true }) s := by
  have hn := n.isLt
  have hb : getB 1 Fld.CRL_RECOVER_RECOVER = true := by decide
  have hplace : (0xC00010 + 0x1000 * n.toNat - 0xC00000) / 0x1000 = n.toNat := by omega
  unfold pairEffect
  simp (disch := omega) only [Reg.CRL_RECOVER, Reg.ISO_OWN_DATA, Reg.TRV_CTRL, if_neg, if_pos, if_true, hb, hplace, crlRecover]

theorem pairEffect_reset : pairEffect Reg.RST_REQ 1 s = deviceReset 4 false s := rfl

theorem getF_setWidth_gate (g : BitVec 16) : getF (g.setWidth 32) Fld.RST_BLK_GATE = g.toNat := by
  rw [getF, natBits, BitVec.toNat_setWidth_of_le (by decide), Fld.RST_BLK_GATE, Nat.shiftRight_zero]
  exact Nat.mod_eq_of_lt g.isLt

theorem pairEffect_rstBlk (g : BitVec 16) : pairEffect Reg.RST_BLK (g.setWidth 32) s = rstBlk g.toNat s := by
  have heff (v : Word) : pairEffect Reg.RST_BLK v s = rstBlk (getF v Fld.RST_BLK_GATE) s := rfl
  rw [heff, getF_setWidth_gate]

theorem rstBlk_refused {g : Nat} (h : resettable s g = false) : rstBlk g s = wrB Reg.RST_BLK_STAT Fld.RST_BLK_STAT_REFUSED true s :=
  if_neg (ne_true_of_eq_false h)

/-- Every gate of the subtree loses its blocks' state; the reset ends by itself (R561). -/
def blockResetting (g : Nat) (s : State) : State :=
  (gateSubtree g).foldl (fun (s : State) (x : Nat) => resetBlock x s) (setGate g (fun r => { r with state := .resetting }) s)

theorem rstBlk_accepted {g : Nat} (h : resettable s g = true) :
    rstBlk g s = setPwr (fun p => { p with resets := p.resets ++ [g] }) (wrB Reg.RST_BLK_STAT Fld.RST_BLK_STAT_BUSY true (blockResetting g s)) :=
  if_pos h

/-! #### The watchdog (R562) -/

theorem pairEffect_wdSvc (v : Word) : pairEffect Reg.RST_WD_SVC v s = wdService s := rfl

theorem wdService_stopped (h : wdRunning s = false) : wdService s = s := if_pos (.inl h)

section
variable (hr : wdRunning s = true) (hd : wdDumping s = false)
include hr hd

theorem wdService_running : wdService s =
    if s.gtb < (wdWindow s).1 then wdExpire true s
    else if (wdWindow s).2 ≤ s.gtb then wdExpire false s
    else wrF Reg.RST_WD_STAT Fld.RST_WD_STAT_SERVICES ((fld s Reg.RST_WD_STAT Fld.RST_WD_STAT_SERVICES + 1) % 65536) (setPwr (fun p => { p with wdLast := s.gtb }) s) :=
  if_neg fun h => h.elim (ne_false_of_eq_true hr) (ne_true_of_eq_false hd)

theorem wdService_early (he : s.gtb < (wdWindow s).1) : wdService s = wdExpire true s := by
  rw [wdService_running hr hd, if_pos he]

theorem wdService_late (ho : (wdWindow s).1 ≤ s.gtb) (hl : (wdWindow s).2 ≤ s.gtb) : wdService s = wdExpire false s := by
  rw [wdService_running hr hd, if_neg (Nat.not_lt.2 ho), if_pos hl]

theorem wdService_inWindow (ho : (wdWindow s).1 ≤ s.gtb) (hl : s.gtb < (wdWindow s).2) :
    wdService s = wrF Reg.RST_WD_STAT Fld.RST_WD_STAT_SERVICES ((fld s Reg.RST_WD_STAT Fld.RST_WD_STAT_SERVICES + 1) % 65536)
      (setPwr (fun p => { p with wdLast := s.gtb }) s) := by
  rw [wdService_running hr hd, if_neg (Nat.not_lt.2 ho), if_neg (Nat.not_le.2 hl)]

end

/-! #### The configuration check's reference (R584, R585) -/

theorem pairEffect_crcCommit : pairEffect Reg.REG_CRC_COMMIT 1 s =
    measure 0x0013 0 (le 4 (holmRef s).toNat) [] { wr Reg.REG_CRC_COMMITTED (holmRef s) s with rg := { s.rg with resynced := false } } := rfl

theorem getF_setWidth_segment (g : Byte) : getF (g.setWidth 32) Fld.REG_CRC_RESYNC_SEG = g.toNat := by
  rw [getF, natBits, BitVec.toNat_setWidth_of_le (by decide), Fld.REG_CRC_RESYNC_SEG, Nat.shiftRight_zero]
  exact Nat.mod_eq_of_lt g.isLt

/-- A segment asked to be taken anew at the next pass, once (R584). -/
def resyncAsked (g : Nat) (s : State) : State :=
  { s with rg := { s.rg with resync := if s.rg.resync.contains g then s.rg.resync else s.rg.resync ++ [g] } }

theorem pairEffect_crcResync (g : Byte) : pairEffect Reg.REG_CRC_RESYNC (g.setWidth 32) s = resyncAsked g.toNat s := by
  have heff (v : Word) : pairEffect Reg.REG_CRC_RESYNC v s = resyncAsked (getF v Fld.REG_CRC_RESYNC_SEG) s := rfl
  rw [heff, getF_setWidth_segment]

end

/-- Settles O56: both writes land, and the pair then has its register's effect, with the latch clear. -/
theorem pairedWritesComplete : Obligations.PairedWritesComplete := by
  intro t s pf world h rq pass d
  have lands {off : Nat} {v : Word} (hp : PairLands rq off v h) (hv : isPairValue off = true) (hn : isPairValue (off + 4) = false) {u : State}
      (hu : pairEffect off v (d off v) = u) : Host.Outcome.next (pairTlps rq off v h) = pass u := by
    rw [pairTlps_pf_lands hv hn hp, hu]
  refine ⟨fun hp => lands hp (by decide) (by decide) pairEffect_setRaster, fun hp => lands hp (by decide) (by decide) pairEffect_setTrv, ?clearRaster, ?clearTrv, ?recover,
    fun hp => lands hp (by decide) (by decide) pairEffect_reset, ?block, ?watchdog, fun hp => lands hp (by decide) (by decide) pairEffect_crcCommit,
    fun g hp => lands hp (by decide) (by decide) (pairEffect_crcResync g)⟩
  case clearRaster =>
    intro hp u may
    exact ⟨fun hm => lands hp (by decide) (by decide) (pairEffect_clearRaster.trans (faultClear_clears hm)),
      fun hm => lands hp (by decide) (by decide) (pairEffect_clearRaster.trans (faultClear_refused hm))⟩
  case clearTrv =>
    intro hp u may
    exact ⟨fun hm => lands hp (by decide) (by decide) (pairEffect_clearTrv.trans (faultClear_clears hm)),
      fun hm => lands hp (by decide) (by decide) (pairEffect_clearTrv.trans (faultClear_refused hm))⟩
  case recover => exact fun n hp => lands hp (isPairValue_recover n).1 (isPairValue_recover n).2 (pairEffect_recover n)
  case block =>
    intro g hp u
    exact ⟨fun hr => lands hp (by decide) (by decide) ((pairEffect_rstBlk g).trans (rstBlk_refused hr)),
      fun hr => lands hp (by decide) (by decide) ((pairEffect_rstBlk g).trans (rstBlk_accepted hr))⟩
  case watchdog =>
    intro v hp u
    have service {y : State} (hy : wdService u = y) : exec (.watchdogService t pf world v) s = pass y :=
      lands hp (by decide) (by decide) ((pairEffect_wdSvc v).trans hy)
    exact ⟨fun hr => service (wdService_stopped hr), fun hr hd he => service (wdService_early hr hd he), fun hr hd ho hl => service (wdService_late hr hd ho hl),
      fun hr hd ho hl => service (wdService_inWindow hr hd ho hl)⟩

end Sys2Proof.Proofs

namespace Sys2Proof.Proofs

open Sys2Proof Sys2Proof.Machine Sys2Proof.Laws

/-! ### Table ports and snapshots (R34, R635) -/

/-- Where the data registers of table ports stand: in the output pipes, the Creamline blocks and the links. -/
def isPortData (o : Nat) : Prop :=
  (0xA00000 ≤ o ∧ o < 0xA80000 ∧ ((0x1000 ≤ o % 0x10000 ∧ o % 0x10000 < 0x3400 ∧ (o % 0x400 = 0x104 ∨ o % 0x400 = 0x10C)) ∨ o % 0x10000 = 0x44 ∨ o % 0x10000 = 0x48)) ∨
  (0xC00000 ≤ o ∧ o < 0xC08000 ∧ (o % 0x1000 = 0x204 ∨ o % 0x1000 = 0x20C)) ∨
  (0xD00C00 ≤ o ∧ o < 0xD01000 ∧ o % 0x100 = 0xC)

theorem isPortData_of_portAt {s : State} {o : Nat} {q : PortSel} (h : portAt s o = some q) : isPortData o := by
  unfold portAt at h
  unfold isPortData
  dsimp only at h
  split at h
  · split at h
    · omega
    · split at h
      · omega
      · cases h
  · split at h
    · split at h
      · omega
      · split at h
        · omega
        · cases h
    · split at h
      · omega
      · cases h

/-- From the output pipes to the links only the Creamline blocks hold snapshot groups. -/
theorem snapMembers_display {x : Nat} (hlo : 0xA00000 ≤ x) (hhi : x < 0xE01000) (hb : x < 0xB00000 ∨ 0xB84000 ≤ x) (hc : x < 0xC00000 ∨ 0xC08000 ≤ x ∨ x % 0x1000 ≠ 0x300) :
    snapMembers x = [] := by
  unfold snapMembers Reg.CLK_SNAP_CTRL Reg.REG_CRC_SNAP_CTRL
  simp (disch := omega) only [Reg.MGT_CTR_CTRL, Reg.MGT_SES_CTRL, Reg.REG_GTB_CTRL, Reg.VAT_ECC_CTRL, Reg.GPX_CNT_CTRL, Reg.GPX_PRE_CTRL, Reg.TRV_ST_CTRL,
    Reg.AUD_FRM_CTRL, Reg.AUD_WB_SNAP_CTRL, if_neg]

theorem perRequester_portData {o : Nat} (h : isPortData o) : perRequester o = false := by
  unfold isPortData at h
  have hsnap {i : Nat} (hi : i < 12) : snapMembers (o - 4 * i) = [] := snapMembers_display (by omega) (by omega) (by omega) (by omega)
  have hctrl : isSnapCtrl o = false := by rw [isSnapCtrl, show snapMembers o = [] from hsnap (i := 0) (by decide)]; rfl
  have hhold : isHolding o = false := by
    rw [isHolding, List.any_eq_false]
    intro i hi
    rw [hsnap (List.mem_range.1 hi)]
    exact Bool.false_ne_true
  have hplaces : ∀ x ∈ [Reg.HIF_FN_PICK_LO, Reg.HIF_FN_PICK_HI, Reg.HIF_FN_PICK_SENSOR, Reg.HIF_FN_SEL, Reg.PWR_GSEL, Reg.LNK_STRAIT_SEL, Reg.REG_CHURN_CTRL,
      Reg.REG_CHURN_STAT, Reg.REG_CHURN_CNT, Reg.REG_PAIR_STAT], x < 0xA00000 ∨ 0xD01000 ≤ x := by decide
  rw [perRequester, hctrl, hhold, Bool.false_or, Bool.false_or, Bool.eq_false_iff, ne_eq, List.contains_iff_mem]
  intro hmem
  have hplace := hplaces o hmem
  omega

/-- A data register is no index register. -/
theorem isPortIdx_portData {o : Nat} (h : isPortData o) : isPortIdx o = false := by
  unfold isPortData at h
  unfold isPortIdx
  rw [Bool.eq_false_iff]
  intro hidx
  split at hidx
  · simp only [Bool.or_eq_true, Bool.and_eq_true, beq_iff_eq, decide_eq_true_eq] at hidx
    omega
  · split at hidx <;> simp only [Bool.or_eq_true, Bool.and_eq_true, beq_iff_eq, decide_eq_true_eq] at hidx <;> omega

theorem applyReg_port {rq : Requester} {o : Nat} {w : Word} {s : State} {q : PortSel} (hq : portAt s o = some q) : applyReg rq o w s = writePort o q w s := by
  have hdata := isPortData_of_portAt hq
  rw [applyReg, sharedReg_skips (perRequester_portData hdata), isPortIdx_portData hdata, hq]
  unfold isPortData at hdata
  unfold Reg.CLK_STAT Reg.RST_WD_CTRL Reg.REG_DUMP_CTRL
  simp (disch := omega) only [Reg.ISO_DBG, Reg.ISO_OWN_IDX, if_neg, Bool.false_eq_true, if_false]

theorem applyReg_snap {rq : Requester} {o : Nat} {s : State} (h : isSnapCtrl o = true) : applyReg rq o 1 s = snapCapture rq o s := by
  have hfield : (1 : Word).toNat.testBit 0 = true := by decide
  rw [applyReg, if_pos h, if_pos hfield]

/-! ### Accesses that reach no register (R568, R571) -/

section
variable {rq : Requester} {off : Nat} {w : Word} {be : BitVec 4} {s : State}

theorem busWrite_unreached (h : reached s rq = false) : busWrite rq off w be s = s := if_pos h

/-- What stands against a partial write alone is that it is partial (Table 20.2). -/
theorem miss_partial {o : Nat} (h : miss s rq o true true = none) : miss s rq o true false = some .partialWrite := by
  unfold miss at h ⊢
  cases hc : crosses s rq o true with
  | true => simp [hc] at h
  | false =>
    cases hg : grantMiss s rq o with
    | some g => simp [hc, hg] at h
    | none =>
      simp only [hc, hg, Bool.false_eq_true, if_false] at h ⊢
      split at h
      · cases h
      next hon =>
        split at h
        · cases h
        next hlisted => rw [if_neg hon, if_neg hlisted]; rfl

/-- A write with some byte enables off changes no register and counts in REG_ERR. -/
theorem busWrite_partial {o : Nat} (hr : reached s rq = true) (ho : windowOff s rq.fn.val (off / 4 * 4) = some o) (hbe : be ≠ 15#4)
    (hm : miss s rq o true true = none) : busWrite rq off w be s = bumpErr Fld.REG_ERR_PARTIAL (dropLatch rq s) := by
  have hpart : (be == 15#4) = false := beq_eq_false_iff_ne.2 hbe
  have hmiss := miss_partial hm
  simp [busWrite, offWrite, hr, ho, hpart, hmiss, noteMiss]

end

/-! ### TLPs held on a port (R438) -/

section
variable {t : Tick} {s : State} {port : BitVec 2} {outbound : Bool}

theorem execHeldTlpRelease_none (h : tget none (advance t s).lnk.held (heldKey port.toNat (bit outbound)) = none) :
    execHeldTlpRelease t port outbound s = .next (advance t s) := by
  simp only [execHeldTlpRelease, h]

/-- The TLP that a port holds, taken off it. -/
def heldCleared (k : Nat) (h : State) : State := setLnk (fun l => { l with held := tput none l.held k none }) h

theorem execHeldTlpRelease_inbound {x : BusWrite} {since : Tick}
    (h : tget none (advance t s).lnk.held (heldKey port.toNat (bit outbound)) = some (.inbound x since)) :
    execHeldTlpRelease t port outbound s = .next (if since + 200000 ≤ (advance t s).gtb then
      busWrite x.rq x.off x.value x.be (heldCleared (heldKey port.toNat (bit outbound)) (advance t s)) else advance t s) := by
  simp only [execHeldTlpRelease, h, heldCleared]
  split <;> rfl

theorem execHeldTlpRelease_outbound {a : Nat} {bs : List Byte} {since : Tick}
    (h : tget none (advance t s).lnk.held (heldKey port.toNat (bit outbound)) = some (.outbound a bs since)) :
    execHeldTlpRelease t port outbound s = .next (if since + 200000 ≤ (advance t s).gtb then
      wrHost port.toNat a bs (heldCleared (heldKey port.toNat (bit outbound)) (advance t s)) else advance t s) := by
  simp only [execHeldTlpRelease, h, heldCleared]
  split <;> rfl

end

/-! ### The latch of a pair (R577, R578) -/

theorem isPairValue_pairOffsets : ∀ i : Fin 15, isPairValue (pairOffsets.getD i.val 0) = true := by decide

section
variable {t : Tick} {s : State} {rq : Requester}

theorem execPairLatchLapse_none (h : (pairRec (advance t s) rq).armed = none) : execPairLatchLapse t rq s = .next (advance t s) := by
  simp only [execPairLatchLapse, h]

theorem execPairLatchLapse_armed {a : Nat} {v : Word} {since : Tick} (h : (pairRec (advance t s) rq).armed = some (a, v, since)) :
    execPairLatchLapse t rq s = .next (if since + 2000 ≤ (advance t s).gtb then setPair rq { lapsed := some a } (advance t s) else advance t s) := by
  simp only [execPairLatchLapse, h]
  split <;> rfl

end

/-! ### Rings and event queues (R110, R193) -/

/-- A VF window has ring 0 alone: in every window the registers of a ring stand at the same offsets from its base (R104). -/
theorem ringOff_eq {fn : Fn} {holm : Bool} (h : portExists (.ring fn holm) = true) (o : Nat) : ringOff fn.val holm o = 0x100 + 0x40 * bit holm + o := by
  unfold ringOff
  split
  · rfl
  · have hmain : holm = false := by simpa [portExists, *] using h
    simp [hmain, bit]

theorem applyReg_ringCtrl (rq : Requester) (holm : Bool) (w : Word) (s : State) :
    applyReg rq (0x100 + 0x40 * bit holm + 8) w s = setRing rq.fn.val holm (fun r => { r with
      irqEn := getB w Fld.MGT_RINGn_CTRL_IRQ_EN, enable := getB w Fld.MGT_RINGn_CTRL_ENABLE, resetPending := r.resetPending || getB w Fld.MGT_RINGn_CTRL_RESET }) s := by
  have hreq : perRequester (0x100 + 0x40 * bit holm + 8) = false := by revert holm; decide
  rw [applyReg, sharedReg_skips hreq]
  cases holm <;> simp [writeMgt, isMsix, bit, ringRegWrite]

theorem applyReg_eqRi (rq : Requester) (holm : Bool) (w : Word) (s : State) :
    applyReg rq (0x100 + 0x40 * bit holm + 0x10C) w s = eqRiWrite rq.fn.val holm (getF w Fld.EQ_RD_RI) s := by
  have hreq : perRequester (0x100 + 0x40 * bit holm + 0x10C) = false := by revert holm; decide
  rw [applyReg, sharedReg_skips hreq]
  cases holm <;> simp [writeMgt, isMsix, bit, eqRegWrite]

/-- The word of MGT_RINGn_CTRL that resets a ring (Table 3.9). -/
def ringResetWord (enable irqEn : Bool) : Word := BitVec.ofNat 32 (4 + 2 * bit irqEn + bit enable)

theorem ringResetWord_fields (enable irqEn : Bool) :
    getB (ringResetWord enable irqEn) Fld.MGT_RINGn_CTRL_IRQ_EN = irqEn ∧ getB (ringResetWord enable irqEn) Fld.MGT_RINGn_CTRL_ENABLE = enable ∧
      getB (ringResetWord enable irqEn) Fld.MGT_RINGn_CTRL_RESET = true := by
  revert enable irqEn
  decide

theorem getF_eqRi (ri : BitVec 13) : getF (ri.setWidth 32) Fld.EQ_RD_RI = ri.toNat := by
  rw [getF, natBits, BitVec.toNat_setWidth_of_le (by decide), Fld.EQ_RD_RI, Nat.shiftRight_zero]
  exact Nat.mod_eq_of_lt ri.isLt

section
variable {t : Tick} {fn : Fn} {holm : Bool} {world : World} {s : State} (hring : portExists (.ring fn holm) = true)
  (hwindow : portExists (.ring fn (world == .holm)) = true)
include hring hwindow

theorem execRingReset_plain {enable irqEn : Bool} (h : Plain ⟨fn, world⟩ (ringOff fn.val holm 8) (ringOff fn.val holm 8) (advance t s)) :
    execRingReset t fn holm world enable irqEn s = .next (passHeld (portOf (advance t s) fn.val)
      (setRing fn.val holm (fun x => { x with irqEn := irqEn, enable := enable, resetPending := true }) (dropLatch ⟨fn, world⟩ (advance t s)))) := by
  obtain ⟨hirq, hen, hreset⟩ := ringResetWord_fields enable irqEn
  unfold ringResetWord at *
  simp only [execRingReset, hring, hwindow, Bool.and_self, if_true, fullWrite_plain h]
  rw [ringOff_eq hring, applyReg_ringCtrl, hirq, hen, hreset]
  simp only [Bool.or_true]

theorem execEqReadIndexWrite_plain {ri : BitVec 13} (h : Plain ⟨fn, world⟩ (ringOff fn.val holm 0x10C) (ringOff fn.val holm 0x10C) (advance t s)) :
    execEqReadIndexWrite t fn holm world ri s = .next (passHeld (portOf (advance t s) fn.val)
      (eqRiWrite fn.val holm ri.toNat (dropLatch ⟨fn, world⟩ (advance t s)))) := by
  simp only [execEqReadIndexWrite, hring, hwindow, Bool.and_self, if_true, fullWrite_plain h]
  rw [ringOff_eq hring, applyReg_eqRi, getF_eqRi]

end

/-- Settles O54: an access that reaches its register has the register's effect, one that does not changes nothing or counts; held TLPs, latches, rings and queues by their own rules. -/
theorem busAccessesComplete : Obligations.BusAccessesComplete := by
  intro t s rq off value be o h p z calm
  have write (hc : calm) (be : BitVec 4) {u : State} (hu : busWrite rq off.toNat value be h = u) :
      exec (.registerWrite t rq off (.write value be)) s = .next (passHeld p u) :=
    congrArg Host.Outcome.next ((tlpWrite_of_unaimed hc).trans (congrArg (passHeld p) hu))
  have plain (hp : Plain rq off.toNat o h) (w : Word) {u : State} (hu : applyReg rq o w z = u) :
      (.next (fullWrite rq off.toNat w h) : Out) = .next (passHeld p u) := by
    rw [fullWrite_plain hp, hu]
  refine ⟨fun hp => plain hp _ rfl, fun hc hr ho hbe hm => write hc be (busWrite_partial hr ho hbe hm), fun hc hr => write hc be (busWrite_unreached hr), ?read,
    fun _ hp hq => plain hp _ (applyReg_port hq), fun hp hs => plain hp _ (applyReg_snap hs), ?held, ?value, execPairLatchLapse_none,
    fun _ _ _ => execPairLatchLapse_armed, ?ring⟩
  case read => exact fun hc => ⟨congrArg _ (tlpRead_of_unaimed hc), congrArg _ (tlpRead_of_unaimed hc)⟩
  case held => exact fun _ _ => ⟨execHeldTlpRelease_none, fun _ _ => execHeldTlpRelease_inbound, fun _ _ _ => execHeldTlpRelease_outbound⟩
  case value =>
    intro pf world register a hl
    have hlands : fullWrite (pfReq pf world) a value h = passHeld pf.toNat (armed (pfReq pf world) a value h) := by
      rw [fullWrite_lands hl, portOf_pfReq, reachWrite_value (isPairValue_pairOffsets register)]
    exact congrArg _ hlands
  case ring => exact fun _ _ _ _ _ _ hring hwindow => ⟨execRingReset_plain hring hwindow, execEqReadIndexWrite_plain hring hwindow⟩

end Sys2Proof.Proofs

namespace Sys2Proof.Proofs

open Sys2Proof Sys2Proof.Machine Sys2Proof.Laws

/-! ### The churn buffer (R572 to R576) -/

/-! #### A write enters the buffer -/

/-- A full write of a PF window that the buffer takes joins the requester's batch. -/
theorem fullWrite_buffered {pf : BitVec 2} {world : World} {off : Nat} {w : Word} {s : State}
    (hc : ∀ f ∈ s.lnk.faults, faultAims f 0 pf.toNat 0 0 = false) (hr : reached s (pfReq pf world) = true)
    (hb : buffered s (pfReq pf world) (off / 4 * 4) = true) :
    fullWrite (pfReq pf world) off w s = passHeld pf.toNat (churnPush (pfReq pf world) (off / 4 * 4) w (dropLatch (pfReq pf world) s)) := by
  have hpf := pf.isLt
  have hwindow : windowOff s (pfReq pf world).fn.val (off / 4 * 4) = some (off / 4 * 4) := by rw [windowOff, pfReq_fn, if_pos hpf]
  have hcalm : ∀ f ∈ s.lnk.faults, faultAims f 0 (portOf s (pfReq pf world).fn.val) 0 0 = false := by rwa [portOf_pfReq]
  rw [fullWrite, tlpWrite_of_unaimed hcalm, portOf_pfReq]
  simp [busWrite, offWrite, hr, hwindow, hb]

section
variable {rq : Requester} {s : State}

theorem churnPush_joins {o : Nat} {w : Word} (h : (churnRec s rq).entries.length < 32) :
    churnPush rq o w s = setChurn rq (fun c => { c with entries := c.entries ++ [(o, w)] }) s := if_pos h

theorem churnPush_overflows {o : Nat} {w : Word} (h : 32 ≤ (churnRec s rq).entries.length) :
    churnPush rq o w s = churnFlag rq Fld.REG_CHURN_STAT_OVERFLOW true (setChurn rq (fun c => { c with overflowed := true }) s) := if_neg (Nat.not_lt.2 h)

/-! #### Strobes and discards -/

/-- A write of REG_CHURN_CTRL that lands acts there at once: its register is no paired write. -/
theorem fullWrite_churnCtrl {pf : BitVec 2} {world : World} {w : Word} (h : Lands (pfReq pf world) Reg.REG_CHURN_CTRL Reg.REG_CHURN_CTRL s) :
    fullWrite (pfReq pf world) Reg.REG_CHURN_CTRL w s = passHeld pf.toNat (writeChurnCtrl (pfReq pf world) w (dropLatch (pfReq pf world) s)) := by
  have hvalue : ¬isPairValue Reg.REG_CHURN_CTRL = true := by decide
  have hcomplement : ¬(pairValueOf Reg.REG_CHURN_CTRL).isSome = true := by decide
  rw [fullWrite_lands h, portOf_pfReq, reachWrite, if_neg hvalue, if_neg hcomplement]
  exact congrArg (passHeld pf.toNat) (if_pos rfl)

theorem writeChurnCtrl_strobe (b : Bool) : writeChurnCtrl rq (BitVec.ofNat 32 (2 + bit b)) s = churnStrobe rq (setOpen rq b s) := by
  have hword : ∀ b : Bool, getB (BitVec.ofNat 32 (2 + bit b)) Fld.REG_CHURN_CTRL_OPEN = b ∧ getB (BitVec.ofNat 32 (2 + bit b)) Fld.REG_CHURN_CTRL_DISCARD = false ∧
      getB (BitVec.ofNat 32 (2 + bit b)) Fld.REG_CHURN_CTRL_STROBE = true := by decide
  obtain ⟨hopen, hdiscard, hstrobe⟩ := hword b
  simp only [writeChurnCtrl, hopen, hdiscard, hstrobe, Bool.false_eq_true, if_false, if_true]

theorem writeChurnCtrl_discard : writeChurnCtrl rq 4 s = churnDiscard rq (setOpen rq false s) := by
  have hopen : getB 4 Fld.REG_CHURN_CTRL_OPEN = false := by decide
  have hdiscard : getB 4 Fld.REG_CHURN_CTRL_DISCARD = true := by decide
  have hstrobe : getB 4 Fld.REG_CHURN_CTRL_STROBE = false := by decide
  simp only [writeChurnCtrl, hopen, hdiscard, hstrobe, Bool.false_eq_true, if_false, if_true]

section
variable {c : ChurnRec} (hc : churnRec s rq = c)
include hc

theorem churnStrobe_busy (hb : c.busy = true) : churnStrobe rq s = s := by
  simp only [churnStrobe, hc, if_pos hb]

section
variable (hb : c.busy = false)
include hb

theorem churnStrobe_overflowed (ho : c.overflowed = true) : churnStrobe rq s = churnRefuse rq 8 32 s := by
  simp only [churnStrobe, hc, if_neg (ne_true_of_eq_false hb), if_pos ho]

section
variable (ho : c.overflowed = false)
include ho

theorem churnStrobe_empty (he : c.entries = []) :
    churnStrobe rq s = churnFlag rq Fld.REG_CHURN_STAT_APPLIED true (churnResult rq false 0 0 (setOpen rq false s)) := by
  simp only [churnStrobe, hc, if_neg (ne_true_of_eq_false hb), if_neg (ne_true_of_eq_false ho), he, batchRun, List.isEmpty_nil, if_true]

/-- What the entry that a batch fails on leaves behind (Table 20.2). -/
def missNoted (rq : Requester) (n : Option (Nat × Miss)) (s : State) : State := match n with | some (o, m) => noteMiss rq o true m s | none => s

theorem churnStrobe_fails {r i : Nat} {n : Option (Nat × Miss)} (hrun : batchRun rq 0 c.entries s = .failed r i n) :
    churnStrobe rq s = churnRefuse rq r i (missNoted rq n s) := by
  simp only [churnStrobe, hc, if_neg (ne_true_of_eq_false hb), if_neg (ne_true_of_eq_false ho), hrun]
  rfl

theorem churnStrobe_applies {v : State} (he : c.entries ≠ []) (hrun : batchRun rq 0 c.entries s = .applied v) (hv : churnRec v rq = c) :
    churnStrobe rq s = churnResult rq false 0 0 (setOpen rq false (setChurn rq (fun c => { c with entries := [], busy := true }) v)) := by
  have hfull : ¬c.entries.isEmpty = true := mt List.isEmpty_iff.1 he
  simp only [churnStrobe, hc, if_neg (ne_true_of_eq_false hb), if_neg (ne_true_of_eq_false ho), hrun, if_neg hfull, if_pos hv]

end

end

end

end

/-! #### A batch is confirmed (R575) -/

section
variable {t : Tick} {pf : BitVec 2} {world : World} {s : State}

theorem execChurnApplyConfirmed_idle (h : (churnRec (advance t s) (pfReq pf world)).busy = false) : execChurnApplyConfirmed t pf world s = .next (advance t s) := by
  simp only [execChurnApplyConfirmed, if_neg (ne_true_of_eq_false h)]

/-- The batch of a requester applied everywhere, and shown. -/
def churnConfirmed (rq : Requester) (h : State) : State :=
  churnFlag rq Fld.REG_CHURN_STAT_APPLIED true (setChurn rq (fun c => { c with busy := false }) h)

theorem execChurnApplyConfirmed_busy (h : (churnRec (advance t s) (pfReq pf world)).busy = true) :
    execChurnApplyConfirmed t pf world s = .next (if (churnRec (advance t s) (pfReq pf world)).discard
      then churnEmpty (pfReq pf world) (churnConfirmed (pfReq pf world) (advance t s)) else churnConfirmed (pfReq pf world) (advance t s)) := by
  simp only [execChurnApplyConfirmed, if_pos h, churnConfirmed]

end

/-- Settles O60: a buffered write, a strobe in each of its cases, a refusal's reach, a discard and the confirmation. -/
theorem churnBatchesApplyWhole : Obligations.ChurnBatchesApplyWhole := by
  intro t s pf world h rq z pass
  have ctrl (hl : Lands rq Reg.REG_CHURN_CTRL Reg.REG_CHURN_CTRL h) (w : Word) {u : State} (hu : writeChurnCtrl rq w z = u) :
      Host.Outcome.next (fullWrite rq Reg.REG_CHURN_CTRL w h) = pass u := by
    rw [fullWrite_churnCtrl hl, hu]
  refine ⟨?joins, ?strobe, fun _ _ _ => rfl, fun hl => ctrl hl 4 writeChurnCtrl_discard, execChurnApplyConfirmed_idle, execChurnApplyConfirmed_busy⟩
  case joins =>
    intro off value hc hr hb o
    have push {u : State} (hu : churnPush rq o value z = u) : exec (.churnBufferedWrite t pf world off value) s = pass u :=
      congrArg Host.Outcome.next ((fullWrite_buffered hc hr hb).trans (congrArg (passHeld pf.toNat) hu))
    exact ⟨fun hlen => push (churnPush_joins hlen), fun hlen => push (churnPush_overflows hlen)⟩
  case strobe =>
    intro open_ hl y c run
    have strobe {u : State} (hu : churnStrobe rq y = u) : exec (.churnStrobe t pf world open_) s = pass u := ctrl hl _ ((writeChurnCtrl_strobe open_).trans hu)
    exact ⟨fun hb => strobe (churnStrobe_busy rfl hb), fun hb ho => strobe (churnStrobe_overflowed rfl hb ho), fun hb ho he => strobe (churnStrobe_empty rfl hb ho he),
      fun _ _ _ hb ho hrun => strobe (churnStrobe_fails rfl hb ho hrun), fun _ hb ho he hrun hv => strobe (churnStrobe_applies rfl hb ho he hrun hv)⟩

end Sys2Proof.Proofs
